-- ==== Sys2Proof/Word.lean ====
section
/-! DEFINITION. The word types of the block and their plainest arithmetic: bytes, the 32-bit words of
FP32 values, the 128-bit words of tile command lists, the 256-bit words of host command lists. -/
namespace Sys2Proof

/-- One byte (scratchpad, HBM and frames are byte addressed). -/
abbrev Byte := BitVec 8
/-- The bits of one FP32 value (R91). -/
abbrev W32 := BitVec 32
/-- One tile command word (R160). -/
abbrev W128 := BitVec 128
/-- One host command-list word, record word or completion word (R173, R180). -/
abbrev W256 := BitVec 256

/-- Bits `[hi:lo]` of a word read as a number: how every field table of the manual names a field. -/
def fld (w hi lo : Nat) : Nat := (w / 2 ^ lo) % 2 ^ (hi + 1 - lo)

/-- One bit of a word. -/
def bitAt (w i : Nat) : Bool := w / 2 ^ i % 2 == 1

/-- A field value placed at bit `lo`, cut to `n` bits. -/
def put (v n lo : Nat) : Nat := v % 2 ^ n * 2 ^ lo

/-- A Bool as a bit. -/
def b2n (b : Bool) : Nat := if b then 1 else 0

/-- The number that a list of bytes spells, little-endian (R173: words are stored little-endian). -/
def leNat : List Byte → Nat
  | [] => 0
  | b :: t => b.toNat + 256 * leNat t

/-- The `n` little-endian bytes of a number. -/
def leBytes : Nat → Nat → List Byte
  | 0, _ => []
  | n + 1, v => BitVec.ofNat 8 v :: leBytes n (v / 256)

/-- Two's complement: the integer that the low `n` bits of `v` spell. -/
def toSigned (n v : Nat) : Int :=
  let u := v % 2 ^ n
  if u < 2 ^ (n - 1) then (u : Int) else (u : Int) - (2 ^ n : Nat)

/-- Two's complement: the `n`-bit pattern of an integer. -/
def ofSigned (n : Nat) (i : Int) : Nat := (i % ((2 ^ n : Nat) : Int)).toNat

/-- Saturating clamp of an integer into `[lo, hi]`. -/
def clampInt (lo hi i : Int) : Int := if i < lo then lo else if hi < i then hi else i

/-- Rounded-up division. -/
def ceilDiv (a b : Nat) : Nat := (a + b - 1) / b

/-- The CRC-32 register after one bit is shifted out (reflected IEEE 802.3 polynomial). -/
def crcBit (c : Nat) : Nat := if c % 2 = 1 then (c / 2) ^^^ 0xEDB88320 else c / 2

/-- The CRC-32 register after one byte. -/
def crcByte (c : Nat) (b : Byte) : Nat :=
  crcBit (crcBit (crcBit (crcBit (crcBit (crcBit (crcBit (crcBit (c ^^^ b.toNat))))))))

/-- R12: CRC-32 with the IEEE 802.3 polynomial over a list of bytes. -/
def crc32 (bs : List Byte) : Nat := (bs.foldl crcByte 0xFFFFFFFF) ^^^ 0xFFFFFFFF

end Sys2Proof
end

