-- ==== Sys2Proof/Syntax.lean ====
section
/-! DEFINITION. The commands of the block: one constructor per row of spec/opcode_table.json, with the
row's operands. A list or tile command that the hardware's own engines fetch carries only the queue or
tile that runs it: its fields are read from the words in State. An event carries what the outside
world supplies with it (a sensor reading, a frame's fields, an outcome that analog hardware decides). -/
namespace Sys2Proof

/-- One item of a management WRITE (R401): its 64-bit header and its value bytes. -/
structure WriteItem where
  head : BitVec 64
  value : List Byte
  deriving DecidableEq, Repr

/-- What a calibration fit gives a table (R66–R68): residual in 0.001 % of FS, column entries, level trim, probe signature. -/
structure FitTable where
  resid : Nat
  cols : List (BitVec 64)
  trim : List (BitVec 16)
  sig : List (BitVec 32)
  deriving DecidableEq, Repr

/-- What the power-on's step 7 measures on a bank (R88, R502): the phase codes of the all-+1 vector and of the probe vector. -/
structure BankEval where
  bank : Nat
  ones : List (List (BitVec 12))
  probe : List (List (BitVec 12))
  deriving DecidableEq, Repr

/-- What surrounds a Broler frame on the wire (R350, R353): bytes of the frame with its FCS, number of 802.1Q tags, priority of its tag,
EtherType, destination MAC; for IPv6 its extension headers, Next Header, destination address and checksum verdict, and the UDP port.
`addr` is the sender's IPv6 address, or its MAC. Addresses are their bytes, little-endian. -/
structure Envelope where
  len : Nat
  tags : Nat
  pri : Nat
  etherType : Nat
  dstMac : Nat
  ext : Bool
  nextHeader : Nat
  dstIp : Nat
  checksumOk : Bool
  udpPort : Nat
  addr : Nat
  deriving DecidableEq, Repr

/-- One constructor per row of the command table; the docstring names the rule of spec/ the row cites. -/
inductive Instr where
  /-- COMMAND_LIST_SUBMIT, R176. -/
  | commandListSubmit (ses q : Nat) (ws : List W256)
  /-- LIST_DISPATCH, R177. -/
  | listDispatch (q : Nat)
  /-- WAIT, R187. -/
  | wait (q : Nat)
  /-- SIGNAL_ADD, R187. -/
  | signalAdd (q : Nat)
  /-- SIGNAL_SET, R183. -/
  | signalSet (q : Nat)
  /-- STEP, R190. -/
  | step (q : Nat)
  /-- SEQOPEN, R192. -/
  | seqopen (q : Nat)
  /-- SEQCLOSE, R193. -/
  | seqclose (q : Nat)
  /-- CANCEL, R318. -/
  | cancel (q : Nat)
  /-- XFER, R195. -/
  | xfer (q : Nat)
  /-- STAGE, R341. -/
  | stage (q : Nat)
  /-- CHKPT_SAVE, R344. -/
  | chkptSave (q : Nat)
  /-- CHKPT_RESTORE, R344. -/
  | chkptRestore (q : Nat)
  /-- PALLOC, R297. -/
  | palloc (q : Nat)
  /-- PFREE, R297. -/
  | pfree (q : Nat)
  /-- PTEDIT, R297. -/
  | ptedit (q : Nat)
  /-- PSHARE, R297. -/
  | pshare (q : Nat)
  /-- SPARAM, R197. -/
  | sparam (q : Nat)
  /-- SKEY, R197. -/
  | skey (q : Nat)
  /-- SSRC, R197. -/
  | ssrc (q : Nat)
  /-- PROGRAM, R199. -/
  | program (q : Nat)
  /-- CALIBRATE, R52. -/
  | calibrate (q : Nat)
  /-- SWAP, R53. -/
  | swap (q : Nat)
  /-- DISARM, R52. -/
  | disarm (q : Nat)
  /-- REFRESH, R52. -/
  | refresh (q : Nat)
  /-- RETIRE, R52. -/
  | retire (q : Nat)
  /-- QUERY_WEAR, R199. -/
  | queryWear (q : Nat)
  /-- QUERY_TABLE, R199. -/
  | queryTable (q : Nat)
  /-- QUERY_COLSUMS, R199. -/
  | queryColsums (q : Nat)
  /-- WOPEN, R365. -/
  | wopen (q : Nat)
  /-- WCLOSE, R365. -/
  | wclose (q : Nat)
  /-- RWRITE, R200. -/
  | rwrite (q : Nat)
  /-- DBGREL, R201. -/
  | dbgrel (q : Nat)
  /-- DBGRD, R201. -/
  | dbgrd (q : Nat)
  /-- READ, R400. -/
  | read (ses reqid : Nat) (items : List Nat)
  /-- WRITE, R401. -/
  | write (ses reqid : Nat) (items : List WriteItem)
  /-- DESCRIBE, R388. -/
  | describe (ses reqid : Nat) (items : List Nat)
  /-- LIST, R399. -/
  | list (ses reqid first last : Nat)
  /-- ACKATTN, R408. -/
  | ackattn (ses reqid c : Nat)
  /-- EVCOMPLETE, R427. -/
  | evcomplete (ses reqid n : Nat)
  /-- LOAD, R257. -/
  | load (ses reqid body : Nat)
  /-- LOAD_COMPLETE, R257. -/
  | loadComplete (p : Nat)
  /-- UNLOAD, R17. -/
  | unload (ses reqid p : Nat)
  /-- RESTART, R17. -/
  | restart (ses reqid p : Nat)
  /-- REPLACE_TILE, R270. -/
  | replaceTile (ses reqid body : Nat)
  /-- REPLACE_UNHEALTHY, R270. -/
  | replaceUnhealthy (ses reqid body : Nat)
  /-- REPLACE_TRIGGER, R268. -/
  | replaceTrigger (p : Nat)
  /-- REPLACE_COMPLETE, R270. -/
  | replaceComplete (p : Nat)
  /-- PROMOTE, R379. -/
  | promote (ses reqid p gid : Nat)
  /-- MCARM_NUMERIC, R417. -/
  | mcarmNumeric (ses reqid p v : Nat)
  /-- MCARM_BAND, R417. -/
  | mcarmBand (ses reqid p v : Nat)
  /-- MCARM_POWER, R417. -/
  | mcarmPower (ses reqid v : Nat)
  /-- MC_ARMED, R418. -/
  | mcArmed
  /-- MC_ARM_TIMEOUT, R418. -/
  | mcArmTimeout
  /-- MC_HOLD_TIMEOUT, R418. -/
  | mcHoldTimeout
  /-- MCAPPLY, R419. -/
  | mcapply (ses reqid epoch : Nat)
  /-- MC_APPLY_EPOCH, R419. -/
  | mcApplyEpoch (bad : List Nat)
  /-- MC_CONFIRM_END, R419. -/
  | mcConfirmEnd
  /-- MCABORT, R418. -/
  | mcabort (ses reqid : Nat)
  /-- IMGBEGIN, R403. -/
  | imgbegin (ses reqid id len : Nat)
  /-- IMGDATA, R403. -/
  | imgdata (ses reqid id off : Nat) (data : List Byte)
  /-- IMGEND, R403. -/
  | imgend (ses reqid id : Nat)
  /-- IMGDELETE, R403. -/
  | imgdelete (ses reqid id : Nat)
  /-- FWBEGIN, R518. -/
  | fwbegin (ses reqid len : Nat)
  /-- FWDATA, R518. -/
  | fwdata (ses reqid off : Nat) (data : List Byte)
  /-- FWEND, R518. -/
  | fwend (ses reqid : Nat)
  /-- FWACTIVATE, R520. -/
  | fwactivate (ses reqid mask : Nat)
  /-- FW_SLOT_SWITCHED, R519. -/
  | fwSlotSwitched (ok : Bool)
  /-- FWCONFIRM, R519. -/
  | fwconfirm (ses reqid : Nat)
  /-- FWROLLBACK, R519. -/
  | fwrollback (ses reqid : Nat)
  /-- FWABORT, R519. -/
  | fwabort (ses reqid : Nat)
  /-- FW_CONFIRM_TIMEOUT, R522. -/
  | fwConfirmTimeout
  /-- RECOVER, R518. -/
  | recover (ses reqid : Nat)
  /-- SELECTOR_WRITE, R388. -/
  | selectorWrite (ses reqid idx el v : Nat)
  /-- PART_ENABLE_SET, R413. -/
  | partEnableSet (ses reqid p : Nat)
  /-- ENABLE_CHECK_DONE, R413. -/
  | enableCheckDone (p : Nat)
  /-- PART_ENABLE_CLEAR, R17. -/
  | partEnableClear (ses reqid p : Nat)
  /-- PORT_ENABLE_SET, R414. -/
  | portEnableSet (ses reqid : Nat) (mgmt : Bool)
  /-- POLICY_ENABLE_SET, R458. -/
  | policyEnableSet (ses reqid : Nat) (thermal : Bool)
  /-- BRICK_PREPARE, R439. -/
  | brickPrepare (ses reqid : Nat)
  /-- BRICK_UNPREPARE, R439. -/
  | brickUnprepare (ses reqid : Nat)
  /-- BLOCK_RESTART, R447. -/
  | blockRestart (ses reqid : Nat)
  /-- BLOCK_RESTART_DONE, R447. -/
  | blockRestartDone (c phases : Nat) (ok : Bool)
  /-- REGION_RETURN_REQUEST, R458. -/
  | regionReturnRequest (ses reqid h : Nat)
  /-- RESUME, R463. -/
  | resume (ses reqid : Nat)
  /-- POWER_TARGET_STANDBY, R498. -/
  | powerTargetStandby (ses reqid : Nat)
  /-- POWER_TARGET_ATTENDED, R498. -/
  | powerTargetAttended (ses reqid : Nat)
  /-- POWER_TARGET_READY, R498. -/
  | powerTargetReady (ses reqid : Nat)
  /-- UNIT_REINSTATE, R484. -/
  | unitReinstate (ses reqid : Nat)
  /-- FTEST_REQUEST_LIGHT, R488. -/
  | ftestRequestLight (ses reqid t : Nat)
  /-- FTEST_REQUEST_FULL, R488. -/
  | ftestRequestFull (ses reqid t : Nat)
  /-- CARD_PREPARE, R491. -/
  | cardPrepare (ses reqid : Nat)
  /-- EV_CONFIG_WRITE, R426. -/
  | evConfigWrite (ses reqid n v : Nat)
  /-- EV_OVERRUN_CLEAR, R425. -/
  | evOverrunClear (ses reqid n : Nat)
  /-- EV_SENSE, R426. -/
  | evSense (n : Nat)
  /-- EV_TAKE, R427. -/
  | evTake (srv : Nat)
  /-- ATTN_FRAME_SEND, R409. -/
  | attnFrameSend
  /-- STEP_LAUNCH, R141. -/
  | stepLaunch (t : Nat)
  /-- NOP, R163. -/
  | nop (t : Nat)
  /-- END, R163. -/
  | endCmd (t : Nat)
  /-- TSTEP, R141. -/
  | tstep (t : Nat)
  /-- WAITF, R163. -/
  | waitf (t : Nat)
  /-- FENCE, R163. -/
  | fence (t : Nat)
  /-- SYNC_SIGNAL, R183. -/
  | syncSignal (t : Nat)
  /-- SYNC_WAIT, R183. -/
  | syncWait (t : Nat)
  /-- BRK, R163. -/
  | brk (t : Nat)
  /-- EVAL_A4, R44. -/
  | evalA4 (t : Nat)
  /-- EVAL_A8, R46. -/
  | evalA8 (t : Nat)
  /-- EVAL_RESULT_WRITE, R41. -/
  | evalResultWrite (t a : Nat) (codes : List (List (BitVec 12)))
  /-- SCL, R102. -/
  | scl (t : Nat)
  /-- TMM, R154. -/
  | tmm (t : Nat)
  /-- TMM_RESULT_WRITE, R154. -/
  | tmmResultWrite (t : Nat)
  /-- VEW_ADD, R167. -/
  | vewAdd (t : Nat)
  /-- VEW_SUB, R167. -/
  | vewSub (t : Nat)
  /-- VEW_MUL, R167. -/
  | vewMul (t : Nat)
  /-- VEW_FMA, R167. -/
  | vewFma (t : Nat)
  /-- VEW_DIV, R167. -/
  | vewDiv (t : Nat)
  /-- VEW_MAX, R167. -/
  | vewMax (t : Nat)
  /-- VEW_MIN, R167. -/
  | vewMin (t : Nat)
  /-- VEW_SQRT, R167. -/
  | vewSqrt (t : Nat)
  /-- VEW_RSQRT, R167. -/
  | vewRsqrt (t : Nat)
  /-- VEW_RECIP, R167. -/
  | vewRecip (t : Nat)
  /-- VEW_EXP2, R167. -/
  | vewExp2 (t : Nat)
  /-- VEW_LOG2, R167. -/
  | vewLog2 (t : Nat)
  /-- VEW_EXP, R167. -/
  | vewExp (t : Nat)
  /-- VEW_LOG, R167. -/
  | vewLog (t : Nat)
  /-- VEW_SIN, R167. -/
  | vewSin (t : Nat)
  /-- VEW_COS, R167. -/
  | vewCos (t : Nat)
  /-- VEW_TANH, R167. -/
  | vewTanh (t : Nat)
  /-- VEW_SIGMOID, R167. -/
  | vewSigmoid (t : Nat)
  /-- VEW_SILU, R167. -/
  | vewSilu (t : Nat)
  /-- VEW_GELU, R167. -/
  | vewGelu (t : Nat)
  /-- VEW_ROTARY, R167. -/
  | vewRotary (t : Nat)
  /-- VEW_TO_BF16, R167. -/
  | vewToBf16 (t : Nat)
  /-- VEW_TO_FP32, R167. -/
  | vewToFp32 (t : Nat)
  /-- VEW_MUL_SCALAR, R167. -/
  | vewMulScalar (t : Nat)
  /-- VEW_ADD_SCALAR, R167. -/
  | vewAddScalar (t : Nat)
  /-- VRED_SUM, R167. -/
  | vredSum (t : Nat)
  /-- VRED_SUM_SQUARES, R167. -/
  | vredSumSquares (t : Nat)
  /-- VRED_MAX, R167. -/
  | vredMax (t : Nat)
  /-- VRED_MIN, R167. -/
  | vredMin (t : Nat)
  /-- VSMX, R156. -/
  | vsmx (t : Nat)
  /-- QNT, R157. -/
  | qnt (t : Nat)
  /-- GUARD_REPEAT_START, R124. -/
  | guardRepeatStart (t : Nat)
  /-- TOPK_SELECT, R158. -/
  | topkSelect (t : Nat)
  /-- TOPK_MERGE, R158. -/
  | topkMerge (t : Nat)
  /-- FILL, R168. -/
  | fill (t : Nat)
  /-- COPY, R168. -/
  | copy (t : Nat)
  /-- SEND, R159. -/
  | send (t : Nat)
  /-- SEND_ARRIVE, R159. -/
  | sendArrive (src n : Nat)
  /-- RDC_SUM, R109. -/
  | rdcSum (t : Nat)
  /-- RDC_TOPK, R116. -/
  | rdcTopk (t : Nat)
  /-- REDUCTION_OPERAND_ARRIVE, R233. -/
  | reductionOperandArrive (k : Nat)
  /-- REDUCTION_RESULT_ARRIVE, R234. -/
  | reductionResultArrive (k : Nat)
  /-- KVRD, R288. -/
  | kvrd (t : Nat)
  /-- KVRD_COMPLETE, R288. -/
  | kvrdComplete (t : Nat)
  /-- KVAP, R291. -/
  | kvap (t : Nat)
  /-- PCALL_CHAIN, R338. -/
  | pcallChain (t : Nat)
  /-- RETRIEVER_CALL_DONE, R338. -/
  | retrieverCallDone (t : Nat)
  /-- PCALL_PAGE_ALLOC, R292. -/
  | pcallPageAlloc (t : Nat)
  /-- ALLOC_COPY_DONE, R292. -/
  | allocCopyDone (p n : Nat)
  /-- RING_FILL_DONE, R287. -/
  | ringFillDone (n : Nat)
  /-- SAMPLER_TREE, R309. -/
  | samplerTree (t : Nat)
  /-- SAMPLER_ACCEPT, R313. -/
  | samplerAccept (t : Nat)
  /-- SAMPLER_PUBLISH, R310. -/
  | samplerPublish (t : Nat)
  /-- ACCEPT_MISSING, R310. -/
  | acceptMissing (p : Nat)
  /-- STEP_BOUNDARY, R27. -/
  | stepBoundary (p : Nat)
  /-- TSWAP_END, R53. -/
  | tswapEnd (p : Nat)
  /-- BAND_TABLE_LOAD_DONE, R71. -/
  | bandTableLoadDone (p : Nat)
  /-- TEMP_LATCH_TICK, R64. -/
  | tempLatchTick (t : Nat)
  /-- TILE_LATE, R142. -/
  | tileLate (t : Nat)
  /-- STALL_NOTICE, R142. -/
  | stallNotice (t src : Nat)
  /-- RESUME_NOTICE, R143, R230: to tile `t` from tile `src`, after `lat` ticks. -/
  | resumeNotice (t src lat : Nat)
  /-- STALL_LIMIT_EXPIRE, R144. -/
  | stallLimitExpire (p : Nat)
  /-- CANCEL_NOTICE_TILE, R321. -/
  | cancelNoticeTile (t slot : Nat)
  /-- CANCEL_RECORDED, R320. -/
  | cancelRecorded (p seq lat : Nat)
  /-- SCRUB_LINE, R149. -/
  | scrubLine (t line : Nat) (conds : List Nat)
  /-- BANK_VERIFY_DONE, R52. -/
  | bankVerifyDone (t a b cells slow pulses : Nat)
  /-- VPGM_GRANT, R443. -/
  | vpgmGrant
  /-- CAL_FIT_DONE, R52. -/
  | calFitDone (t a b : Nat) (fit : Option FitTable)
  /-- CAL_TIMEOUT, R50. -/
  | calTimeout (t a b : Nat)
  /-- REPAIR_DONE, R52, R84: with what the repair's verify has found where it has not been reported before, and what its fit gives. -/
  | repairDone (t a b cells slow pulses : Nat) (fit : Option FitTable)
  /-- DRIFT_PROBE, R77. -/
  | driftProbe (t a b : Nat) (codes : List (List (BitVec 12)))
  /-- SCHEDULER_EVAL, R79. -/
  | schedulerEval
  /-- CAPTURE_DRAIN, R475. -/
  | captureDrain (t : Nat)
  /-- ARBITRATION_START, R476. -/
  | arbitrationStart
  /-- ARBITRATION_VERDICT, R477. -/
  | arbitrationVerdict (id : Nat)
  /-- KENNEL_BLOCK_COMMIT, R480. -/
  | kennelBlockCommit
  /-- KENNEL_SUSPECT_EXPIRE, R483. -/
  | kennelSuspectExpire (ukind unit sub : Nat)
  /-- FTEST_LIGHT_DUE, R485. -/
  | ftestLightDue (d : Nat)
  /-- FTEST_FULL_DUE, R485. -/
  | ftestFullDue (d : Nat)
  /-- FTEST_DONE, R487. -/
  | ftestDone (d part : Nat)
  /-- FLIT_CRC_ERROR, R223. -/
  | flitCrcError (t port : Nat) (again : Bool)
  /-- ROUTER_FAIL, R240. -/
  | routerFail (t : Nat)
  /-- REFERENCE_FAIL, R219. -/
  | referenceFail (r : Nat)
  /-- HUB_LINK_DIE_FAIL, R231. -/
  | hubLinkDieFail (l : Nat)
  /-- HBM_PATROL, R345. -/
  | hbmPatrol (k e corrected : Nat) (bad : List Nat)
  /-- STACK_TEMP_SAMPLE, R459. -/
  | stackTempSample (k : Nat) (v : Option Int)
  /-- FRAME_RECEIVE, R357. -/
  | frameReceive (p : Nat) (e : Envelope) (bs : List Byte)
  /-- BROLER_OPEN, R360. -/
  | brolerOpen (peerId : Nat)
  /-- BROLER_CHALLENGE, R359. -/
  | brolerChallenge
  /-- BROLER_PROVE, R395. -/
  | brolerProve
  /-- BROLER_ACCEPT, R359. -/
  | brolerAccept (peerId : Nat)
  /-- BROLER_REFUSE, R380. -/
  | brolerRefuse
  /-- PROVE_TIMEOUT, R360. -/
  | proveTimeout (ses : Nat)
  /-- BROLER_CLOSE, R360. -/
  | brolerClose
  /-- CLOSING_DONE, R361. -/
  | closingDone (ses : Nat)
  /-- BROLER_KEEPALIVE, R363. -/
  | brolerKeepalive
  /-- KEEPALIVE_SEND, R363. -/
  | keepaliveSend (ses : Nat)
  /-- BROLER_ACKF, R363. -/
  | brolerAckf
  /-- ACK_DELAY, R362. -/
  | ackDelay (ses c : Nat)
  /-- RETRANSMIT_TIMEOUT, R363. -/
  | retransmitTimeout (ses c : Nat)
  /-- SESSION_LOSS, R361. -/
  | sessionLoss (ses : Nat)
  /-- BROLER_MSG, R364. -/
  | brolerMsg
  /-- BROLER_WRITE, R366. -/
  | brolerWrite
  /-- WRITE_LANDED, R367. -/
  | writeLanded (k : Nat)
  /-- BROLER_WACK, R367. -/
  | brolerWack
  /-- BROLER_WNAK, R370. -/
  | brolerWnak
  /-- BROLER_CONTRIB, R372. -/
  | brolerContrib
  /-- EXPORT_TRIGGER, R369. -/
  | exportTrigger (p e : Nat)
  /-- PFC_FRAME, R352. -/
  | pfcFrame (p : Nat) (pauses : List (Nat × Nat))
  /-- NEIGHBOR_SOLICITATION, R353. -/
  | neighborSolicitation (p target : Nat)
  /-- ECHO_REQUEST, R353. -/
  | echoRequest (p dst src : Nat)
  /-- OSFP_INSERT, R351. -/
  | osfpInsert (p cls watts : Nat)
  /-- OSFP_REMOVE, R351. -/
  | osfpRemove (p : Nat)
  /-- PORT_LINK_CHANGE, R351. -/
  | portLinkChange (p : Nat) (up : Bool)
  /-- PORT_ELEC_FAULT, R351. -/
  | portElecFault (p : Nat)
  /-- JOIN, R374. -/
  | join (ses : Nat)
  /-- JOIN_TIMEOUT, R374. -/
  | joinTimeout (p : Nat)
  /-- STEPGO, R375. -/
  | stepgo (ses n prog : Nat) (binds : List Nat)
  /-- MASKS, R375. -/
  | masks (ses n : Nat) (slots : List Nat)
  /-- GROUP_COMMIT, R375. -/
  | groupCommit (ses n : Nat) (words : List Nat)
  /-- COMMITTED, R375. -/
  | committed (ses n : Nat)
  /-- BOUNDARY, R375. -/
  | boundary (ses n : Nat) (ws : List Nat)
  /-- BOUNDARY_ACK, R375. -/
  | boundaryAck (ses n : Nat)
  /-- CONFIRM, R376. -/
  | confirm (ses n : Nat)
  /-- CANCEL_FORWARD, R377. -/
  | cancelForward (ses q : Nat)
  /-- GROUP_MASKING, R377. -/
  | groupMasking (ses q slot fin last : Nat)
  /-- WINDOW_ANNOUNCE, R371. -/
  | windowAnnounce (ses w e st : Nat)
  /-- MASTERLOST, R378. -/
  | masterlost (ses : Nat)
  /-- BACKUP_PROMOTE, R379. -/
  | backupPromote (p : Nat)
  /-- NEWMASTER, R379. -/
  | newmaster (ses epoch n : Nat)
  /-- FEED_STATE_CHANGE, R434. -/
  | feedStateChange (f : Nat) (volts : Int) (ma : Nat)
  /-- FEED_USABLE, R434. -/
  | feedUsable (f : Nat)
  /-- FEED_RETURN_PREFERRED, R435. -/
  | feedReturnPreferred (b : Nat)
  /-- BRICK_FAULT, R436. -/
  | brickFault (b : Nat)
  /-- BRICK_INSERT, R439. -/
  | brickInsert (b : Nat)
  /-- BRICK_REMOVE, R439. -/
  | brickRemove (b : Nat)
  /-- BRICK_START_DONE, R436. -/
  | brickStartDone (b : Nat)
  /-- BRICK_SHED_DONE, R439. -/
  | brickShedDone (b : Nat)
  /-- DROPSHARE_SAMPLE, R444. -/
  | dropshareSample (c : Nat) (ph : List Nat) (drv vout vsense varr : Nat) (vpgmOk fault : Bool)
  /-- GOVERNOR_REGION_TICK, R449. -/
  | governorRegionTick (h d pst : Nat)
  /-- GOVERNOR_MODULE_TICK, R449. -/
  | governorModuleTick (pin dyn bus : Nat) (bricks : List (Nat × Nat × Nat))
  /-- WINDOW_BOUNDARY, R211. -/
  | windowBoundary
  /-- THERMAL_MODEL_TICK, R456. -/
  | thermalModelTick (powers : List (Nat × Nat))
  /-- HOTSPOT_SAMPLE, R454. -/
  | hotspotSample (h : Nat) (a b : Option Int)
  /-- REGION_RETURN, R458. -/
  | regionReturn (h : Nat)
  /-- COOLANT_SAMPLE, R453. -/
  | coolantSample (v : List (Option Int))
  /-- COOLANT_RECOVERED, R463. -/
  | coolantRecovered
  /-- HOLD_EXPIRE, R463. -/
  | holdExpire
  /-- LEAK_WET, R464. -/
  | leakWet (k : Nat)
  /-- LEAK_LOOP_BREAK, R464. -/
  | leakLoopBreak (k : Nat)
  /-- ALARM_INPUT, R464. -/
  | alarmInput
  /-- STANDBY_SUPPLY_APPEAR, R497. -/
  | standbySupplyAppear
  /-- SHEEPDOG_SAMPLE, R509. -/
  | sheepdogSample (carrier : List Int) (v : List (Option Int))
  /-- WAKE_EVENT, R510. -/
  | wakeEvent (n : Nat)
  /-- SCHEDULED_WAKE, R510. -/
  | scheduledWake
  /-- MGMT_OPEN_WAKE, R510. -/
  | mgmtOpenWake (m : Nat)
  /-- RETENTION_WAKE, R88. -/
  | retentionWake
  /-- WAKE_GATE_OPEN, R511. -/
  | wakeGateOpen
  /-- WAKE_GATE_TIMEOUT, R511. -/
  | wakeGateTimeout
  /-- ATTENDED_IDLE_TIMEOUT, R497. -/
  | attendedIdleTimeout
  /-- POWER_ON_STEP_DONE, R500. -/
  | powerOnStepDone (bad : List Nat) (evals : List BankEval)
  /-- POWER_ON_STEP_OVERRUN, R501. -/
  | powerOnStepOverrun (bad : List Nat) (evals : List BankEval)
  /-- STOP_LIMIT_EXPIRE, R504. -/
  | stopLimitExpire
  /-- STOP_STEPS_DRAINED, R505. -/
  | stopStepsDrained
  /-- PRESERVATION_DONE, R505. -/
  | preservationDone (p : Nat)
  /-- STOP_RECORDS_DONE, R504. -/
  | stopRecordsDone
  /-- POWER_LOSS, R506. -/
  | powerLoss
  /-- SHUTDOWN_STAMP, R507. -/
  | shutdownStamp (commits mv : Nat)
  /-- BUS_DEPLETED, R507. -/
  | busDepleted
  /-- CARD_FAULT, R513. -/
  | cardFault (c : Nat)
  /-- CARD_BOOT_FAIL, R513. -/
  | cardBootFail (c : Nat)
  /-- CARD_INSERT, R491. -/
  | cardInsert (c : Nat)
  /-- CARD_SYNC_DONE, R491. -/
  | cardSyncDone (c : Nat)
  /-- RECOVERY_RELEASE, R497. -/
  | recoveryRelease
  /-- EV_PROCESSOR_COMPLETE, R426. -/
  | evProcessorComplete (n : Nat)
  /-- MC_ARM_UNIT_FAIL, R418. -/
  | mcArmUnitFail (k : Nat)
  /-- MEMORY_BRIDGE_FAIL, R490. -/
  | memoryBridgeFail (m : Nat)
  /-- NEIGHBOR_ADVERTISEMENT, R353. -/
  | neighborAdvertisement (p target lladdr : Nat)
  /-- PFC_PAUSE_EXPIRE, R352. -/
  | pfcPauseExpire (p pri : Nat)
  /-- LEAK_DRY, R465. -/
  | leakDry (k : Nat)
  /-- ALARM_INPUT_OPEN, R464. -/
  | alarmInputOpen
  /-- CARD_REMOVE, R491. -/
  | cardRemove (c : Nat)
  /-- TEST_ACCESS_PORT_CLOCK, R514. -/
  | testAccessPortClock (c : Nat) (tms tdi trst : Bool)
  /-- RTC_STORE_EXHAUSTED, R512. -/
  | rtcStoreExhausted
  /-- MGMT_PORT_LINK_CHANGE, R541. -/
  | mgmtPortLinkChange (m : Nat) (up : Bool)
  deriving DecidableEq, Repr

end Sys2Proof
end

