-- ==== Sys2Proof/Decode.lean ====
section
/-! DEFINITION. Words that spell commands. The command table of the manual gives no row any bits: commands reach the block as events, as
messages and as words that its own engines fetch, and those words are read where they are fetched. -/
namespace Sys2Proof

/-- The command that a word of the table's bits spells: none, since no row of the table has bits. -/
def decodeTableWord (_nbits _w : Nat) : Option Instr := none

end Sys2Proof
end

