-- ==== Sys2Proof/Config.lean ====
section
/-! DEFINITION. The values that the manual leaves open within limits: opaque functions with no body, so that
nothing can evaluate them. Each is applied to the operands that the value may depend on. -/
namespace Sys2Proof

/-- R112: which of the results within a function's stated bound the vector engine writes, for a function code
(R167) and an FP32 operand; the model uses it modulo the number of results within the bound. -/
opaque Config.ulpChoice : Nat → Nat → Nat

/-- R107: where, strictly between the register value and one unit of bit 0 above it, a BF16 block sum with its
sticky bit set is taken to lie, as 64 fraction bits, for the elements of the two operands' blocks. -/
opaque Config.stickyPart : List Nat → List Nat → Nat

/-- R194: what CANCEL's result word gives as the last committed step of a sequence for which no step has
committed, for a sequence identifier. -/
opaque Config.noLastStep : Nat → Nat

/-- R423: the warning level of a die's hot spots, in 1/16 °C; the manual names it and gives no value. -/
opaque Config.hotWarning : Nat

/-- R456: the factory value of a hot spot's thermal resistance for a flow in 0.01 L/min, in 0.001 K/W. -/
opaque Config.factoryRth : Nat → Nat → Nat

/-- R456: the weighted mean of a thermal resistance after one more period, from the mean before and the period's sample;
the model keeps it between the two. -/
opaque Config.rthMean : Nat → Nat → Nat

/-- R391, R381: the module identity. -/
opaque Config.moduleId : Nat

/-- R391: the serial number as a STR: its bytes. -/
opaque Config.serial : List Byte

/-- R381, R393: the 48-bit MAC address of a port; 48 and 49 are the management ports. -/
opaque Config.portMac : Nat → Nat

/-- R514: the IDCODE of a controller card. -/
opaque Config.idcode : Nat → Nat

/-- R514: cells in the boundary register of a controller card, and what they capture from the pins, for card and reference tick. -/
opaque Config.boundaryLength : Nat → Nat
opaque Config.boundaryPins : Nat → Nat → Nat

/-- R388: the name of a parameter as DESCRIBE gives it, for index and element. -/
opaque Config.objName : Nat → Nat → List Byte

/-- R347: the rate in GB/s that a stack has delivered over the last second, for a stack and the reference tick. -/
opaque Config.deliveredRate : Nat → Nat → Nat

/-- R381: FEC codewords that a port has corrected (kind 0) or found uncorrectable (kind 1) since power-on, for a port, the kind and the
reference tick. -/
opaque Config.fecCount : Nat → Nat → Nat → Nat

/-- R403: bytes that the image store can hold. -/
opaque Config.storeBytes : Nat

/-- R518: bytes that a firmware package may take. -/
opaque Config.fwBytes : Nat

/-- R359: the 16-byte nonce that this module forms, for the reference tick and its own session identifier. -/
opaque Config.nonce : Nat → Nat → List Byte

/-- R516: whether a signature over the header and entries of a package is valid under Plorraum's public key. -/
opaque Config.signatureValid : List Byte → List Byte → Bool

/-- R230: the up latency in ticks that the notice table holds for a tile and a link die; the model takes it modulo 40, which keeps it
within the stated bound of 39. -/
opaque Config.noticeUp : Nat → Nat → Nat
/-- R230: the down latency in ticks, taken modulo 40 as the up latency is. -/
opaque Config.noticeDown : Nat → Nat → Nat

/-- R240, R243: how many flits of a transfer had passed the point of a failure, for the reference tick and the transfer; the model takes it
modulo the number of flits and 1. -/
opaque Config.flitsPast : Nat → Nat → Nat

end Sys2Proof
end

