-- ==== Sys2Proof/Machine/FMap.lean ====
section
/-! DEFINITION. Sparse tables: a list of (key, value) pairs with rising keys. An unlisted key reads as
the table's default. Numeric tables and memories keep a canonical form: no entry equal to the default. -/
namespace Sys2Proof.Machine

/-- A sparse table with natural-number keys. -/
abbrev FMap (α : Type) := List (Nat × α)

/-- The value at a key, or the default where the key is not listed. -/
def FMap.get {α : Type} (d : α) : FMap α → Nat → α
  | [], _ => d
  | (k', v) :: t, k => if k = k' then v else FMap.get d t k

/-- The value at a key, if the key is listed. -/
def FMap.find {α : Type} : FMap α → Nat → Option α
  | [], _ => none
  | (k', v) :: t, k => if k = k' then some v else FMap.find t k

/-- Sets the value at a key and keeps the keys rising. -/
def FMap.set {α : Type} : FMap α → Nat → α → FMap α
  | [], k, v => [(k, v)]
  | (k', v') :: t, k, v =>
    if k < k' then (k, v) :: (k', v') :: t
    else if k = k' then (k, v) :: t
    else (k', v') :: FMap.set t k v

/-- Removes a key. -/
def FMap.del {α : Type} : FMap α → Nat → FMap α
  | [], _ => []
  | (k', v') :: t, k => if k = k' then FMap.del t k else (k', v') :: FMap.del t k

/-- Sets the value at a key and lists no entry equal to the default. -/
def FMap.put {α : Type} [DecidableEq α] (d : α) (m : FMap α) (k : Nat) (v : α) : FMap α :=
  if v = d then FMap.del m k else FMap.set m k v

/-- Changes the value at a key. -/
def FMap.upd {α : Type} (d : α) (m : FMap α) (k : Nat) (f : α → α) : FMap α :=
  FMap.set m k (f (FMap.get d m k))

/-- Removes every key that satisfies a test. -/
def FMap.delWhere {α : Type} (m : FMap α) (p : Nat → Bool) : FMap α := m.filter fun e => !p e.1

/-- The keys rise strictly, and every key exceeds `lo`. -/
def FMap.risingFrom {α : Type} (lo : Nat) : FMap α → Bool
  | [] => true
  | (k, _) :: t => decide (lo ≤ k) && FMap.risingFrom (k + 1) t

/-- The canonical form: keys strictly rising and no entry equal to the default. -/
def FMap.wf {α : Type} [DecidableEq α] (d : α) (m : FMap α) : Bool :=
  FMap.risingFrom 0 m && m.all fun e => !decide (e.2 = d)

end Sys2Proof.Machine
end

