-- ==== Sys2Proof/Machine/Numerics.lean ====
section
/-! DEFINITION. The numbers of R89–R117: FP32 and BF16 arithmetic, the MX formats, quantisation, exact block
sums, the summation tree and top-k lists. A finite value is a sign, a magnitude and a power of two. -/
namespace Sys2Proof.Machine

/-- A decoded number. -/
inductive FP where
  | nan
  | inf (neg : Bool)
  /-- (−1)^neg × m × 2^e. -/
  | fin (neg : Bool) (m : Nat) (e : Int)
  deriving DecidableEq, Repr

/-- A result with what it adds to obj 0x51pp:10 (overflows) and obj 0x51pp:11 (invalid results) (R111, R113). -/
structure FR where
  v : Nat
  ovf : Nat := 0
  inv : Nat := 0
  deriving DecidableEq, Repr

/-- R91: the canonical NaN of FP32. -/
def nan32 : Nat := 0x7FC00000
def inf32 (neg : Bool) : Nat := 0x7F800000 + b2n neg * 2 ^ 31
def zero32 (neg : Bool) : Nat := b2n neg * 2 ^ 31
def one32 : Nat := 0x3F800000

/-- R91: an FP32 pattern. -/
def dec32 (b : Nat) : FP :=
  let s := bitAt b 31
  let e : Nat := b / 2 ^ 23 % 256
  let f := b % 2 ^ 23
  if e = 255 then (if f = 0 then .inf s else .nan)
  else if e = 0 then .fin s f (-149)
  else .fin s (2 ^ 23 + f) ((e : Int) - 150)

/-- R91, R111: a BF16 pattern widened to FP32. -/
def bf16to32 (b : Nat) : Nat := b % 65536 * 65536

def FP.isZero : FP → Bool
  | .fin _ m _ => m == 0
  | _ => false
def FP.isFin : FP → Bool
  | .fin _ _ _ => true
  | _ => false
def FP.isNan : FP → Bool
  | .nan => true
  | _ => false
def FP.neg : FP → Bool
  | .nan => false
  | .inf n => n
  | .fin n _ _ => n

/-- R89: `m / 2^s` rounded to nearest, ties to even. -/
def rneShift (m s : Nat) : Nat :=
  let q := m / 2 ^ s
  let r := m % 2 ^ s
  if s = 0 then m
  else if 2 ^ (s - 1) < r ∨ (r = 2 ^ (s - 1) ∧ q % 2 = 1) then q + 1 else q

/-- `m × 2^e` as an integer multiple of `2^q`, rounded to nearest, ties to even. -/
def rneAt (m : Nat) (e q : Int) : Nat :=
  if q ≤ e then m * 2 ^ (e - q).toNat else rneShift m (q - e).toNat

/-- The code of `m × 2^e` on a binary grid with `p` significant bits and smallest step `2^qmin`, extended
upward without limit: subnormals, then normals, in one rising sequence of codes. -/
def gridCode (p : Nat) (qmin : Int) (m : Nat) (e : Int) : Nat :=
  if m = 0 then 0
  else
    let top := (Nat.log2 m : Int) + e
    let q := max (top - (p - 1 : Nat)) qmin
    (q - qmin).toNat * 2 ^ (p - 1) + rneAt m e q

/-- R89, R91: one rounding of an exact finite value to FP32. -/
def round32 (neg : Bool) (m : Nat) (e : Int) : FR :=
  let c := gridCode 24 (-149) m e
  if c < 0x7F800000 then ⟨c + b2n neg * 2 ^ 31, 0, 0⟩ else ⟨inf32 neg, 1, 0⟩

/-- An exact signed integer times a power of two, rounded once to FP32; zero is +0. -/
def roundInt32 (i : Int) (e : Int) : FR := round32 (decide (i < 0)) i.natAbs e

/-- The signed integer of a finite value at a common exponent. -/
def scaledInt (neg : Bool) (m : Nat) (e q : Int) : Int :=
  let v : Int := (m * 2 ^ (e - q).toNat : Nat)
  if neg then -v else v

def invalid : FR := ⟨nan32, 0, 1⟩
def quietNan : FR := ⟨nan32, 0, 0⟩

/-- R111: exact sum of two finite values, rounded once; an exact zero is +0 but −0 + −0 is −0. -/
def addFin (n1 : Bool) (m1 : Nat) (e1 : Int) (n2 : Bool) (m2 : Nat) (e2 : Int) : FR :=
  let q := min e1 e2
  let i := scaledInt n1 m1 e1 q + scaledInt n2 m2 e2 q
  if i = 0 then ⟨zero32 (n1 && n2 && m1 == 0 && m2 == 0), 0, 0⟩ else roundInt32 i q

def addFP : FP → FP → FR
  | .nan, _ => quietNan
  | _, .nan => quietNan
  | .inf a, .inf b => if a = b then ⟨inf32 a, 0, 0⟩ else invalid
  | .inf a, .fin _ _ _ => ⟨inf32 a, 0, 0⟩
  | .fin _ _ _, .inf b => ⟨inf32 b, 0, 0⟩
  | .fin n1 m1 e1, .fin n2 m2 e2 => addFin n1 m1 e1 n2 m2 e2

def FP.negate : FP → FP
  | .nan => .nan
  | .inf n => .inf (!n)
  | .fin n m e => .fin (!n) m e

/-- The exact product; none where it is invalid. -/
def mulExact : FP → FP → Option FP
  | .nan, _ => some .nan
  | _, .nan => some .nan
  | .inf a, .inf b => some (.inf (a != b))
  | .inf a, .fin n m _ => if m = 0 then none else some (.inf (a != n))
  | .fin n m _, .inf b => if m = 0 then none else some (.inf (n != b))
  | .fin n1 m1 e1, .fin n2 m2 e2 => some (.fin (n1 != n2) (m1 * m2) (e1 + e2))

/-- A decoded exact value as FP32. -/
def packFP : FP → FR
  | .nan => quietNan
  | .inf n => ⟨inf32 n, 0, 0⟩
  | .fin n m e => round32 n m e

/-- R111: FP32 addition, subtraction, multiplication. -/
def fadd (a b : Nat) : FR := addFP (dec32 a) (dec32 b)
def fsub (a b : Nat) : FR := addFP (dec32 a) (dec32 b).negate
def fmul (a b : Nat) : FR :=
  match mulExact (dec32 a) (dec32 b) with
  | none => invalid
  | some x => packFP x

/-- R111, R112: fused multiply-add, one rounding. -/
def ffma (a b c : Nat) : FR :=
  match mulExact (dec32 a) (dec32 b) with
  | none => if (dec32 c).isNan then quietNan else invalid
  | some x => addFP x (dec32 c)

/-- The quotient of two magnitudes to at least 64 significant bits, its last bit sticky. -/
def quotFP (n : Bool) (m1 : Nat) (e1 : Int) (m2 : Nat) (e2 : Int) : FR :=
  let k := 64 + Nat.log2 m2
  let q := m1 * 2 ^ k / m2
  let r := m1 * 2 ^ k % m2
  round32 n (2 * q + b2n (r != 0)) (e1 - e2 - k - 1)

/-- R111: division; a finite nonzero value divided by zero is an uncounted infinity. -/
def fdiv (a b : Nat) : FR :=
  match dec32 a, dec32 b with
  | .nan, _ => quietNan
  | _, .nan => quietNan
  | .inf _, .inf _ => invalid
  | .inf x, .fin n _ _ => ⟨inf32 (x != n), 0, 0⟩
  | .fin n _ _, .inf y => ⟨zero32 (n != y), 0, 0⟩
  | .fin n1 m1 e1, .fin n2 m2 e2 =>
    if m2 = 0 then (if m1 = 0 then invalid else ⟨inf32 (n1 != n2), 0, 0⟩)
    else quotFP (n1 != n2) m1 e1 m2 e2

/-- The integer square root, one result bit for each unit of fuel. -/
def isqrtGo (n : Nat) : Nat → Nat → Nat
  | 0, r => r
  | k + 1, r => if (r + 2 ^ k) * (r + 2 ^ k) ≤ n then isqrtGo n k (r + 2 ^ k) else isqrtGo n k r
def isqrt (n : Nat) : Nat := isqrtGo n (Nat.log2 n / 2 + 1) 0

/-- R111: square root, correctly rounded. -/
def fsqrt (a : Nat) : FR :=
  match dec32 a with
  | .nan => quietNan
  | .inf n => if n then invalid else ⟨inf32 false, 0, 0⟩
  | .fin n m e =>
    if m = 0 then ⟨zero32 n, 0, 0⟩
    else if n then invalid
    else
      let k : Nat := if e % 2 = 0 then 64 else 65
      let x := m * 2 ^ k
      let r := isqrt x
      round32 false (2 * r + b2n (r * r != x)) ((e - k) / 2 - 1)

/-- Whether a decoded number lies above another: NaN is never above. -/
def ltFP : FP → FP → Bool
  | .nan, _ => false
  | _, .nan => false
  | .inf a, .inf b => a && !b
  | .inf a, .fin _ _ _ => a
  | .fin _ _ _, .inf b => !b
  | .fin n1 m1 e1, .fin n2 m2 e2 =>
    let q := min e1 e2
    decide (scaledInt n1 m1 e1 q < scaledInt n2 m2 e2 q)

/-- R111: max and min propagate NaN; between +0 and −0, max is +0 and min is −0. -/
def fmax (a b : Nat) : FR :=
  if (dec32 a).isNan ∨ (dec32 b).isNan then quietNan
  else if (dec32 a).isZero ∧ (dec32 b).isZero then ⟨zero32 (bitAt a 31 && bitAt b 31), 0, 0⟩
  else if ltFP (dec32 a) (dec32 b) then ⟨b, 0, 0⟩ else ⟨a, 0, 0⟩
def fmin (a b : Nat) : FR :=
  if (dec32 a).isNan ∨ (dec32 b).isNan then quietNan
  else if (dec32 a).isZero ∧ (dec32 b).isZero then ⟨zero32 (bitAt a 31 || bitAt b 31), 0, 0⟩
  else if ltFP (dec32 b) (dec32 a) then ⟨b, 0, 0⟩ else ⟨a, 0, 0⟩

/-- R89, R99, R111: FP32 narrowed to BF16; a non-finite source counts as an invalid conversion. -/
def toBf16 (a : Nat) : FR :=
  match dec32 a with
  | .nan => ⟨0x7FC0, 0, 1⟩
  | .inf n => ⟨0x7F80 + b2n n * 2 ^ 15, 0, 1⟩
  | .fin n m e =>
    let c := gridCode 8 (-133) m e
    if c < 0x7F80 then ⟨c + b2n n * 2 ^ 15, 0, 0⟩ else ⟨0x7F80 + b2n n * 2 ^ 15, 1, 0⟩

/-- Several results as one: the values in order and the counts added. -/
structure FRs where
  vs : List Nat
  ovf : Nat := 0
  inv : Nat := 0
  deriving DecidableEq, Repr

def collect (l : List FR) : FRs :=
  { vs := l.map (·.v), ovf := (l.map (·.ovf)).foldl (· + ·) 0, inv := (l.map (·.inv)).foldl (· + ·) 0 }

/-! ### The summation tree (R108) -/

/-- One pass of R108: adjacent pairs are added, a last odd value is carried. -/
def treePass : List Nat → List FR
  | a :: b :: t => fadd a b :: treePass t
  | [a] => [⟨a, 0, 0⟩]
  | [] => []

def treeGo : Nat → List Nat → Nat → Nat → FR
  | 0, l, o, i => ⟨l.headD 0, o, i⟩
  | k + 1, l, o, i =>
    match l with
    | [] => ⟨0, o, i⟩
    | [a] => ⟨a, o, i⟩
    | _ =>
      let r := collect (treePass l)
      treeGo k r.vs (o + r.ovf) (i + r.inv)

/-- R108: tree() over FP32 values in index order. -/
def tree (l : List Nat) : FR := treeGo (Nat.log2 l.length + 2) l 0 0

/-! ### MX element types and blocks (R92–R95) -/

/-- R90: width in bits of an element of a narrow format; 0 for the rest. -/
def fmtWidth : Nat → Nat
  | 2 => 8 | 3 => 8 | 4 => 6 | 5 => 6 | 6 => 4 | 7 => 8 | 8 => 4 | 9 => 8 | _ => 0
/-- R92: fraction width of a floating element type. -/
def fmtFrac : Nat → Nat
  | 2 => 3 | 3 => 2 | 4 => 2 | 5 => 3 | 6 => 1 | _ => 0
/-- R92: bias of a floating element type. -/
def fmtBias : Nat → Nat
  | 2 => 7 | 3 => 15 | 4 => 3 | 5 => 1 | 6 => 1 | _ => 0
/-- R92: code of the largest finite magnitude of a floating element type. -/
def fmtTop : Nat → Nat
  | 2 => 0x7E | 3 => 0x7B | 4 => 0x1F | 5 => 0x1F | 6 => 0x7 | _ => 0
/-- R96: EMAX. -/
def fmtEmax : Nat → Int
  | 2 => 8 | 3 => 15 | 4 => 4 | 5 => 2 | 6 => 2 | 7 => 0 | 8 => 2 | 9 => 6 | _ => 0
/-- The integer formats: MXINT8, A4, A8. -/
def fmtIsInt (f : Nat) : Bool := f == 7 || f == 8 || f == 9

/-- R92, R95: the value of an element pattern. -/
def decElem (f c : Nat) : FP :=
  let w := fmtWidth f
  if fmtIsInt f then
    let i := toSigned w c
    .fin (decide (i < 0)) i.natAbs (if f = 7 then -6 else 0)
  else
    let s := bitAt c (w - 1)
    let a := c % 2 ^ (w - 1)
    let fr := fmtFrac f
    let e : Nat := a / 2 ^ fr
    let m := a % 2 ^ fr
    if f = 2 ∧ a = 0x7F then .nan
    else if f = 3 ∧ e = 31 then (if m = 0 then .inf s else .nan)
    else if e = 0 then .fin s m (1 - (fmtBias f : Int) - fr)
    else .fin s (2 ^ fr + m) ((e : Int) - fmtBias f - fr)

/-- R94: packs elements of width `w` into bytes, element 0 lowest. -/
def packElems (w : Nat) (cs : List Nat) : List Byte :=
  leBytes (cs.length * w / 8) (cs.reverse.foldl (fun a c => a * 2 ^ w + c % 2 ^ w) 0)

/-- R94: reads `n` elements of width `w` from bytes. -/
def unpackElems (w n : Nat) (bs : List Byte) : List Nat :=
  let v := leNat bs
  (List.range n).map fun i => v / 2 ^ (w * i) % 2 ^ w

/-! ### Quantisation (R96–R99) -/

/-- A quantised source set. -/
structure Quant where
  codes : List Nat
  scale : Nat
  sat : List Bool
  zero : List Bool
  /-- R99: the set held an infinity or NaN. -/
  nonfin : Bool
  deriving DecidableEq, Repr

/-- floor(log2 |x|) of a finite nonzero value. -/
def binExp : FP → Option Int
  | .fin _ m e => if m = 0 then none else some ((Nat.log2 m : Int) + e)
  | _ => none

/-- R96: the scale exponent of a source set. -/
def scaleExp (f : Nat) (xs : List FP) : Int :=
  match (xs.filterMap binExp).max? with
  | none => -127
  | some e => clampInt (-127) 127 (e - fmtEmax f)

/-- The greatest magnitude code of an integer format for a sign. -/
def intBound (f : Nat) (neg : Bool) : Nat := if f = 8 then 7 + b2n neg else 127 + b2n neg

/-- R97, R98: one finite element divided by 2^e and rounded: its pattern, SAT, ZERO. -/
def quantElem (f : Nat) (e : Int) (neg : Bool) (m : Nat) (x : Int) : Nat × Bool × Bool :=
  let w := fmtWidth f
  if fmtIsInt f then
    let q := rneAt m (x - e + if f = 7 then 6 else 0) 0
    let s := decide (intBound f neg < q)
    let q := if s then intBound f neg else q
    (ofSigned w (if neg then -(q : Int) else (q : Int)), s, decide (m ≠ 0) && q == 0)
  else
    let fr := fmtFrac f
    let c := gridCode (fr + 1) (1 - (fmtBias f : Int) - fr) m (x - e)
    let s := decide (fmtTop f < c)
    let c := if s then fmtTop f else c
    (c + b2n neg * 2 ^ (w - 1), s, decide (m ≠ 0) && c == 0)

/-- R99: an element of an E5M2 block that holds an infinity or NaN. -/
def quantSpecial (e : Int) : FP → Nat × Bool × Bool
  | .nan => (0x7F, false, false)
  | .inf n => (0x7C + b2n n * 128, false, false)
  | .fin n m x => quantElem 3 e n m x

/-- R96–R99: quantises one block or vector of FP32 values. -/
def quantise (f : Nat) (src : List Nat) : Quant :=
  let xs := src.map dec32
  let e := scaleExp f xs
  let bad := xs.any fun x => !x.isFin
  if bad && f != 3 then
    { codes := src.map fun _ => 0, scale := if f = 8 ∨ f = 9 then 127 else 255
      sat := src.map fun _ => false, zero := src.map fun _ => false, nonfin := true }
  else
    let r := xs.map (if f = 3 then quantSpecial e else fun x => match x with
      | .fin n m y => quantElem f e n m y
      | _ => (0, false, false))
    { codes := r.map (·.1), scale := (e + 127).toNat, sat := r.map (·.2.1), zero := r.map (·.2.2), nonfin := bad }

/-- R124: a pattern of one format widened exactly to another. -/
def widenElem (f g c : Nat) : Nat :=
  match decElem f c with
  | .fin n m x => if fmtIsInt g then ofSigned (fmtWidth g) (toSigned (fmtWidth f) c) else (quantElem g 0 n m x).1
  | _ => c

/-! ### Exact block accumulation (R104–R107) -/

/-- The sign and special cases of a product for the side path of R105: none finite, or some special. -/
def prodSpecial (a b : FP) : Option FP :=
  match mulExact a b with
  | none => some .nan
  | some (.fin _ _ _) => none
  | some x => some x

/-- R105: infinities and NaNs of a block: none where every product is finite. -/
def sideResult (ps : List (FP × FP)) : Option FP :=
  let sp := ps.filterMap fun p => prodSpecial p.1 p.2
  if sp.any FP.isNan then some .nan
  else
    match sp with
    | [] => none
    | x :: _ =>
      if sp.any (fun y => y.neg != x.neg) then some .nan else some x

/-- R105, R111: a block's side result as an FP32 result; NaN from operands that hold no NaN is invalid. -/
def sideFR (ps : List (FP × FP)) (x : FP) : FR :=
  match x with
  | .nan => if ps.any (fun p => p.1.isNan || p.2.isNan) then quietNan else invalid
  | y => packFP y

/-- The exact signed product as a multiple of 2^q, rounded toward −∞, and whether bits were lost. -/
def prodAt (a b : FP) (q : Int) : Int × Bool :=
  match mulExact a b with
  | some (.fin n m e) =>
    if q ≤ e then (scaledInt n m e q, false)
    else
      let i : Int := if n then -(m : Int) else (m : Int)
      let d : Int := (2 ^ (q - e).toNat : Nat)
      (i / d, i % d != 0)
  | _ => (0, false)

/-- R104, R105: the block value of an MX pair with scale codes. -/
def blockMX (fa fb : Nat) (as bs : List Nat) (ca cb : Nat) : FR :=
  if ca = 255 ∨ cb = 255 then quietNan
  else
    let ps := (as.map (decElem fa)).zip (bs.map (decElem fb))
    match sideResult ps with
    | some x => sideFR ps x
    | none =>
      let s := (ps.map fun p => (prodAt p.1 p.2 (-40)).1).foldl (· + ·) 0
      roundInt32 s (-40 + (ca : Int) + cb - 254)

/-- R107: the block value of a BF16 pair. -/
def blockBF (as bs : List Nat) : FR :=
  let ps := (as.map fun x => dec32 (bf16to32 x)).zip (bs.map fun x => dec32 (bf16to32 x))
  match sideResult ps with
  | some x => sideFR ps x
  | none =>
    match ((ps.map fun p => match mulExact p.1 p.2 with
      | some x => binExp x
      | none => none).filterMap id).max? with
    | none => ⟨0, 0, 0⟩
    | some m =>
      let q := m - 89
      let r := ps.map fun p => prodAt p.1 p.2 q
      let s := (r.map (·.1)).foldl (· + ·) 0
      if r.any (·.2) then
        roundInt32 (s * (2 ^ 64 : Nat) + 1 + (Config.stickyPart as bs % (2 ^ 64 - 1) : Nat)) (q - 64)
      else roundInt32 s q

/-! ### Array results (R35, R41, R65, R102) -/

/-- R41: an integer divided by 2^k, rounded to nearest, ties to even. -/
def rneInt (i : Int) (k : Nat) : Int :=
  if i < 0 then -(rneShift i.natAbs k : Int) else (rneShift i.natAbs k : Int)

/-- R65: the trim of a phase at code `p`, times 256. -/
def trimAt (trim : List Int) (p : Int) : Int :=
  let t := fun (k : Nat) => trim.getD k 0
  let x := p + 1920
  if x < 0 then 256 * t 0
  else if 3840 ≤ x then 256 * t 15
  else
    let k := (x / 256).toNat
    t k * (256 - x % 256) + t (k + 1) * (x % 256)

/-- R65: one phase's calibrated value in units of 2^−36. `gain` is the signed 16-bit gain code, `ofs` the 12-bit
offset, `slope` TSLOPE, `dT` the departure from TREF in 1/16 K. -/
def calibrate36 (p gain ofs slope dT : Int) (trim : List Int) : Int :=
  32 * p * (32768 + gain) * ((2 ^ 20 : Nat) + slope * dT) + (4 * ofs * (2 ^ 36 : Nat)) + trimAt trim p * (2 ^ 28 : Nat)

/-- R35, R41: a logical result as FP32: r ÷ 2 exactly for W3, r ÷ 7 to the nearest 1/8 for W2. -/
def logical32 (format : Nat) (r : Int) : Nat :=
  if format = 1 then (roundInt32 r (-1)).v
  else if format = 2 then
    let q := (16 * r.natAbs + 7) / 14
    (roundInt32 (if r < 0 then -(q : Int) else (q : Int)) (-3)).v
  else (roundInt32 r 0).v

/-- R102: one word of the scale step. DESIGN CHOICE (log 118): a scale byte of 255 stands for 2^128 in the formula, not for a NaN of E8M0. -/
def scaleWord (r scaleA cs : Nat) : FR :=
  match mulExact (dec32 r) (dec32 cs) with
  | none => invalid
  | some (.fin n m e) => round32 n m (e + scaleA - 127)
  | some x => packFP x

/-! ### Top-k lists (R114–R116) -/

/-- R114: pair `a` ranks before pair `b`; a pair is a value pattern and a position. -/
def ranksBefore (a b : Nat × Nat) : Bool :=
  let x := dec32 a.1
  let y := dec32 b.1
  match x.isNan, y.isNan with
  | true, true => decide (a.2 < b.2)
  | true, false => false
  | false, true => true
  | false, false => ltFP y x || (!ltFP x y && decide (a.2 < b.2))

/-- Inserts a pair into a ranked list. -/
def rankInsert (a : Nat × Nat) : List (Nat × Nat) → List (Nat × Nat)
  | [] => [a]
  | b :: t => if ranksBefore a b then a :: b :: t else b :: rankInsert a t

/-- R114: the first `k` pairs in rank order. -/
def topK (k : Nat) (l : List (Nat × Nat)) : List (Nat × Nat) :=
  l.foldl (fun r a => (rankInsert a r).take k) []

/-- R115: a top-k list's header. -/
def topkHeader (k count tag : Nat) : Nat := put 1 8 56 + put k 7 41 + put count 7 34 + tag % 2 ^ 32
def topkK (h : Nat) : Nat := fld h 47 41
def topkCount (h : Nat) : Nat := fld h 40 34
def topkTag (h : Nat) : Nat := fld h 31 0

/-- R115: a list as 64-bit words: header, then K entries, unused ones as the layout says. -/
def topkWords (k tag : Nat) (l : List (Nat × Nat)) : List Nat :=
  topkHeader k l.length tag ::
    (List.range k).map fun i => match l[i]? with
      | some (v, p) => v * 2 ^ 32 + p % 2 ^ 32
      | none => nan32 * 2 ^ 32 + 0xFFFFFFFF

/-- The valid pairs of a list given as 64-bit words. -/
def topkPairs (ws : List Nat) : List (Nat × Nat) :=
  ((ws.drop 1).take (topkCount (ws.headD 0))).map fun w => (w / 2 ^ 32, w % 2 ^ 32)

/-- R116: RC_TOPK_K for a header with K outside 1–64 or COUNT above K. -/
def topkBad (h : Nat) : Bool := topkK h == 0 || decide (64 < topkK h) || decide (topkK h < topkCount h)

/-- R116: two lists merged, or the reason code of the fault. -/
def topkMerge (a b : List Nat) : Sum Nat (List Nat) :=
  let ha := a.headD 0
  let hb := b.headD 0
  if topkBad ha || topkBad hb then .inl 0x0112
  else if topkK ha ≠ topkK hb ∨ topkTag ha ≠ topkTag hb then .inl 0x0111
  else .inr (topkWords (topkK ha) (topkTag ha) (topK (topkK ha) (topkPairs a ++ topkPairs b)))

end Sys2Proof.Machine
end

