-- ==== Sys2Proof/Machine/Special.lean ====
section
/-! DEFINITION. The vector engine's transcendental functions (R112, R167): each result is one of the FP32
values within the function's stated bound of the exact result, picked by an open constant of Config. The
exact result is computed in fixed point with 400 fraction bits. -/
namespace Sys2Proof.Machine

/-- Fraction bits of the fixed-point values of this file. -/
def fxBits : Nat := 400
/-- 1 in fixed point. -/
def fxOne : Int := (2 ^ 400 : Nat)
/-- π in fixed point. -/
def fxPi : Int := 8112377246730971238862271351300894519161151600179265203591191037615230905373990498745523360926816815427566779727327576236
/-- ln 2 in fixed point. -/
def fxLn2 : Int := 1789879222497203190815761498240779176894896805856420935579692301363062920687047601279850318367644315849030039181347319086
/-- √(2 ÷ π) in fixed point (gelu's tanh form; PRESUMED formula, log 9). -/
def fxGelu : Int := 2060337309860625669158887524896583040847384015804865113243324589387049149478680161082114736606036866790242378560860575272

def fxMul (a b : Int) : Int := a * b / fxOne
def fxDiv (a b : Int) : Int := a * fxOne / b

/-- A finite FP32 value in fixed point. -/
def fxOf (neg : Bool) (m : Nat) (e : Int) : Int := scaledInt neg m e (-400)

/-- `t + t·r/n + t·r²/(n(n+1)) + …`, one term for each unit of fuel. -/
def fxExpGo (r : Int) : Nat → Int → Nat → Int
  | 0, _, _ => 0
  | k + 1, t, n => t + fxExpGo r k (fxMul t r / (n : Int)) (n + 1)

/-- e^x; far outside FP32's range the argument is held at ±1000. -/
def fxExp (x : Int) : Int :=
  let x := clampInt (-1000 * fxOne) (1000 * fxOne) x
  let k := x / fxLn2
  let v := fxExpGo (x - k * fxLn2) 110 fxOne 1
  if 0 ≤ k then v * (2 ^ k.toNat : Nat) else v / (2 ^ (-k).toNat : Nat)

/-- `t·(1/n + z²/(n+2) + …)`. -/
def fxAtanhGo (z2 : Int) : Nat → Int → Nat → Int
  | 0, _, _ => 0
  | k + 1, t, n => t / (n : Int) + fxAtanhGo z2 k (fxMul t z2) (n + 2)

/-- ln(m × 2^e) of a positive value. -/
def fxLog (m : Nat) (e : Int) : Int :=
  let l := Nat.log2 m
  let up := decide (3 * 2 ^ l ≤ 2 * m)
  let s : Nat := l + b2n up
  let f := scaledInt false m (-(s : Int)) (-400)
  let z := fxDiv (f - fxOne) (f + fxOne)
  (e + s) * fxLn2 + 2 * fxAtanhGo (fxMul z z) 130 z 1

/-- `t − t·r²/(n(n+1)) + …`. -/
def fxSinGo (r2 : Int) : Nat → Int → Nat → Int
  | 0, _, _ => 0
  | k + 1, t, n => t + fxSinGo r2 k (-(fxMul t r2) / ((n * (n + 1) : Nat) : Int)) (n + 2)

/-- An angle reduced to [−π, π). -/
def fxReduce (x : Int) : Int := (x + fxPi) % (2 * fxPi) - fxPi
def fxSin (x : Int) : Int := let r := fxReduce x; fxSinGo (fxMul r r) 90 r 2
def fxCos (x : Int) : Int := let r := fxReduce x; fxSinGo (fxMul r r) 90 fxOne 1

/-- 1 ÷ (1 + e^−x), kept accurate for negative x. -/
def fxSigmoid (x : Int) : Int := let v := fxExp x; fxDiv v (fxOne + v)
def fxTanh (x : Int) : Int := let v := fxExp (2 * x); fxDiv (v - fxOne) (v + fxOne)

/-- R112: bound of a function in ulp. -/
def fnUlp : Nat → Nat
  | 0x09 => 1 | 0x0A => 1 | 0x0B => 1 | 0x0C => 1 | 0x0D => 2 | 0x0E => 2 | 0x0F => 2 | 0x10 => 2 | _ => 4

/-- The exact result, in fixed point, of a function at a finite nonzero FP32 value in its domain. -/
def fnExact (fn : Nat) (neg : Bool) (m : Nat) (e : Int) : Int :=
  let x := fxOf neg m e
  match fn with
  | 0x09 => (isqrt (fxOne * fxOne * fxOne / x).toNat : Nat)
  | 0x0A => fxDiv fxOne x
  | 0x0B => fxExp (fxMul (clampInt (-1000 * fxOne) (1000 * fxOne) x) fxLn2)
  | 0x0C => fxDiv (fxLog m e) fxLn2
  | 0x0D => fxExp x
  | 0x0E => fxLog m e
  | 0x0F => fxSin x
  | 0x10 => fxCos x
  | 0x11 => fxTanh x
  | 0x12 => fxSigmoid x
  | 0x13 => fxMul x (fxSigmoid x)
  | _ =>
    let y := fxMul fxGelu (x + fxMul (fxMul (fxMul x x) x) (44715 * fxOne / 1000000))
    fxMul x (fxSigmoid (2 * y))

/-- An FP32 magnitude code (infinity as 2^128) in fixed point. -/
def fxCode (c : Nat) : Int :=
  if c < 0x7F800000 then
    match dec32 c with
    | .fin _ m e => fxOf false m e
    | _ => 0
  else (2 ^ 528 : Nat)

/-- R112: the FP32 results within `k` ulp of an exact value, as signed magnitude codes, rising. -/
def withinUlp (k : Nat) (v : Int) : List Int :=
  let a := v.natAbs
  let c := min (gridCode 24 (-149) a (-400)) 0x7F800000
  let ulp : Int := (2 ^ (max ((Nat.log2 a : Int) - 23) 251).toNat : Nat)
  ((List.range (3 * k + 5)).map fun (d : Nat) => (c : Int) + (d : Int) - 2 * (k : Int) - 2).filter fun x =>
    decide (x ≤ 0x7F800000) && ((x == 0x7F800000 && c == 0x7F800000) ||
    (let y := if x < 0 then -(fxCode x.natAbs) else fxCode x.natAbs
     decide ((y - (a : Int)).natAbs ≤ k * ulp.natAbs)))

/-- R112: a result within the bound of an exact value for a function and operand. -/
def boundedFR (fn a : Nat) (v : Int) : FR :=
  let l := withinUlp (fnUlp fn) v
  let x := l.getD (Config.ulpChoice fn a % l.length) 0
  let neg := decide (v < 0) != decide (x < 0)
  if x = 0x7F800000 then ⟨inf32 neg, 1, 0⟩ else ⟨x.natAbs + b2n neg * 2 ^ 31, 0, 0⟩

/-- R112: results at zero, of either sign, where the exact function has a zero, a pole or no FP32 bound there. -/
def fnAtZero (fn : Nat) (neg : Bool) : Option FR :=
  match fn with
  | 0x09 => some ⟨inf32 neg, 0, 0⟩
  | 0x0A => some ⟨inf32 neg, 0, 0⟩
  | 0x0C => some ⟨inf32 true, 0, 0⟩
  | 0x0E => some ⟨inf32 true, 0, 0⟩
  | 0x0F => some ⟨zero32 neg, 0, 0⟩
  | 0x11 => some ⟨zero32 neg, 0, 0⟩
  | 0x13 => some ⟨zero32 neg, 0, 0⟩
  | 0x14 => some ⟨zero32 neg, 0, 0⟩
  | _ => none

/-- R112: results at ±∞. DESIGN CHOICE (log 119): silu and gelu at −∞ give their limit, −0. -/
def fnAtInf (fn : Nat) (neg : Bool) : FR :=
  match fn with
  | 0x09 => if neg then invalid else ⟨0, 0, 0⟩
  | 0x0A => ⟨zero32 neg, 0, 0⟩
  | 0x0C => if neg then invalid else ⟨inf32 false, 0, 0⟩
  | 0x0E => if neg then invalid else ⟨inf32 false, 0, 0⟩
  | 0x0F => invalid
  | 0x10 => invalid
  | 0x11 => ⟨one32 + b2n neg * 2 ^ 31, 0, 0⟩
  | 0x12 => ⟨if neg then 0 else one32, 0, 0⟩
  | 0x13 => ⟨if neg then zero32 true else inf32 false, 0, 0⟩
  | 0x14 => ⟨if neg then zero32 true else inf32 false, 0, 0⟩
  | _ => ⟨if neg then 0 else inf32 false, 0, 0⟩

/-- R112, R167: a function of codes 0x09–0x14 of one FP32 operand. -/
def fnSpecial (fn a : Nat) : FR :=
  match dec32 a with
  | .nan => quietNan
  | .inf n => fnAtInf fn n
  | .fin n m e =>
    if m = 0 then
      match fnAtZero fn n with
      | some r => r
      | none => boundedFR fn a (if fn = 0x12 then fxOne / 2 else fxOne)
    else if n ∧ (fn = 0x09 ∨ fn = 0x0C ∨ fn = 0x0E) then invalid
    else
      let v := fnExact fn n m e
      if v = 0 ∧ (fn = 0x0C ∨ fn = 0x0E) then ⟨0, 0, 0⟩ else boundedFR fn a v

end Sys2Proof.Machine
end

