-- ==== Sys2Proof/Machine/State.lean ====
section
/-! DEFINITION. The state of the block: plain data. Each field's docstring gives its rule of spec/, its
width and its value at reset; a field's default value is its reset value. -/
namespace Sys2Proof.Machine

/-- Why a step can stop with a fault. -/
inductive Fault where
  /-- Raised by any meaning whose command names a unit that the built module does not have (a tile, port,
  stack, brick, sensor or event source beyond R7, R9, R19 and R423). Safe: no such command exists outside the model. -/
  | noSuchUnit
  deriving DecidableEq, Repr

/-- Why the model can refuse a command. -/
inductive Refusal where
  /-- Raised by the arm of a command that has no meaning in the model yet. Safe: the model only stops. -/
  | notModelled (mnemonic : String)
  deriving DecidableEq, Repr

/-- The partition states of R17. -/
inductive PState where
  | free | loading | loaded | idle | armed | stepping | stalled | disabling | faulted
  deriving DecidableEq, Repr

/-- A host command list in a queue (R173–R175): its words, header first, and the session that sent it. -/
structure HostList where
  /-- R173; 256 bits a word; the header and the words after it. -/
  words : List W256 := []
  /-- R24; 17 bits; the session the list came from. -/
  session : Nat := 0
  deriving DecidableEq, Repr

/-- A list that an engine is running (R177). -/
structure RunList where
  /-- The list. -/
  lst : HostList
  /-- R174; 16 bits; word index of the command reached. -/
  pos : Nat := 1
  /-- R177; 1 bit; the command has begun and waits for its completion event. -/
  begun : Bool := false
  /-- R180; result words gathered so far. -/
  results : List W256 := []
  /-- Command-specific progress: the step number of a STEP, the banks a PROGRAM waits for. -/
  aux : List Nat := []
  deriving DecidableEq, Repr

/-- One of the queues 0–5 and 7 of a partition (R19, R175). -/
structure QueueSt where
  /-- R175; at most 64 lists; reset empty. -/
  waiting : List HostList := []
  /-- R177; reset none. -/
  running : Option RunList := none
  deriving DecidableEq, Repr

/-- A completion record in a reply queue (R180, R181). -/
structure ReplyRec where
  /-- R180; header word and result words. -/
  words : List W256
  /-- R181; sessions that held READ at posting and have not acknowledged. -/
  waitingFor : List Nat
  /-- The model's own count of completion records. -/
  no : Nat := 0
  deriving DecidableEq, Repr

/-- A record in a debug queue (R182): TYPE and the words after the envelope. -/
structure DebugRec where
  /-- R182; 8 bits; 1 fault, 2 hazard, 3 check, 4 guard, 5 breakpoint, 6 stall, 7 debug read. -/
  typ : Nat
  /-- R182; the record after its envelope: a number and its length in 16-byte units. -/
  body : List Byte
  /-- R182; the sessions to which it has still to be sent; none while it waits for a session that holds READ. -/
  toSend : List Nat := []
  deriving DecidableEq, Repr

/-- An attention cause as the log keeps it (R406). -/
structure Cause where
  sev : Nat := 0
  cls : Nat := 0
  /-- R406 SCOPE and PART; none is module scope. -/
  part : Option Nat := none
  reason : Nat := 0
  /-- R406; 24 bits; related parameter, index × 256 + element. -/
  object : Nat := 0
  unit : Nat := 0
  unitKind : Nat := 0
  cause : Nat := 0
  time : Nat := 0
  detail : Nat := 0
  deriving DecidableEq, Repr

/-- The attention log and what the status field is computed from (R407, R408). -/
structure AttnSt where
  /-- R408; newest first, at most 256 records of 256 bits; reset empty. -/
  log : List Cause := []
  /-- R408 obj 0x9010:1; 32 bits; reset 0: number of the newest cause. -/
  newest : Nat := 0
  /-- R407; causes raised since power-on by scope (0 module, 1 + p partition p); reset 0. -/
  counts : FMap Nat := []
  /-- R407; newest cause of each scope; reset none. -/
  latest : FMap Cause := []
  /-- R407; acknowledgement point of each credential entry; reset 0. -/
  acks : FMap Nat := []
  deriving DecidableEq, Repr

/-- One event source (R424–R426); its configuration lies in the dictionary. -/
structure EvSrc where
  /-- R425 RAW; 1 bit; reset 0: the present condition. -/
  raw : Bool := false
  /-- R425 STATE; 2 bits; reset 0: 0 IDLE, 1 PENDING, 2 ACTIVE, 3 ACTIVE_PENDING. -/
  st : Nat := 0
  /-- R425; 1 bit; reset 0. -/
  overrun : Bool := false
  /-- R426 obj 0x9300; 32 bits; reset 0: sensings. -/
  count : Nat := 0
  /-- R426; 1 bit; reset 0: a selected edge not yet sensed. -/
  edge : Bool := false
  /-- R427; 1 bit; reset 0: the server that TARGET named when the source was last IDLE (1 the host). -/
  target : Nat := 0
  /-- R426; 1 bit; reset 0: to be taken before any other source of its server. -/
  first : Bool := false
  deriving DecidableEq, Repr

/-- An enable check that runs (R413–R415). -/
structure CheckRun where
  session : Nat
  reqid : Nat
  /-- R413; the verdict judged on the values as they stood at the start: reason and object. -/
  reason : Nat
  object : Nat
  /-- R413; the governed pending values as they stood at the start. -/
  snapshot : FMap Nat
  deriving DecidableEq, Repr

/-- One unit of the mode-change record (R419, R420). -/
structure ModeUnit where
  /-- R420; UNITKIND × 65536 + unit number. -/
  ident : Nat
  /-- R420; 1 ARMING, 2 ARMED, 3 APPLIED, 4 FAILED, 5 ROLLED_BACK, 6 DEFERRED. -/
  st : Nat
  reason : Nat := 0
  deriving DecidableEq, Repr

/-- The mode-change record (R418, R420). -/
structure ModeRec where
  /-- R418 obj 0x2400:1; reset 0 NONE: 1 ARMING, 2 ARMED, 3 APPLYING, 4 DONE, 5 ROLLED_BACK. -/
  st : Nat := 0
  /-- R420; 4 bits; reset 0. -/
  kind : Nat := 0
  /-- R420; 8 bits; reset 0: partition, 0xFF module scope. -/
  part : Nat := 0
  /-- R420; 8 bits; reset 0. -/
  value : Nat := 0
  /-- R420; 64 bits; reset 0. -/
  epoch : Nat := 0
  /-- R420; 16 bits; reset 0. -/
  reason : Nat := 0
  /-- R420; 32 bits; reset 0: first failed unit. -/
  failed : Nat := 0
  /-- R420; reset empty: the units in readback order. -/
  units : List ModeUnit := []
  /-- R418; when it entered ARMING or ARMED, ns; reset 0. -/
  since : Nat := 0
  /-- R417, R419; the session and request that wait for the MCARM or MCAPPLY reply; reset none. -/
  waiter : Option (Nat × Nat) := none
  deriving DecidableEq, Repr

/-- A reply to a management request (R398) or to a list submission (R22, R176). -/
structure Reply where
  session : Nat
  /-- R364; the queue that a submission reply answers for. -/
  queue : Nat := 0
  op : Nat := 0
  reqid : Nat := 0
  reason : Nat := 0
  failIdx : Nat := 0
  failElem : Nat := 0
  failItem : Nat := 0
  status : Nat := 0
  /-- Values returned: type code, length in bytes and value (R400), or result words. -/
  values : List (Nat × Nat × Nat) := []
  deriving DecidableEq, Repr

/-! ### Arrays and banks (R33–R88) -/

/-- The bank states of R51. -/
inductive BankState where
  | empty | programming | programmed | calibrating | standby | swapArmed | inService | repairing | invalid | retired
  deriving DecidableEq, Repr

/-- A calibration table record (R66–R69). -/
structure CalTable where
  /-- R67; 4 bits. -/
  band : Nat
  /-- R67; 3 bits. -/
  format : Nat
  /-- R67; 16 bits, two's complement, 1/16 K. -/
  tref : Nat
  /-- R67; 16 bits, 0.001 % of FS. -/
  resid : Nat
  /-- R67; 32 bits, seconds of tile powered time. -/
  calTime : Nat
  /-- R67, R69; 32 bits. -/
  progCycle : Nat
  /-- R67; 64 bits. -/
  block : Nat
  /-- R68; 1,040 entries of 64 bits. -/
  cols : List (BitVec 64)
  /-- R66; TRIM[0][0..15] then TRIM[1][0..15], 16 bits each. -/
  trim : List (BitVec 16)
  /-- R66; 1,040 probe results of 32 bits. -/
  sig : List (BitVec 32)
  deriving DecidableEq, Repr

/-- What a bank's running operation serves. -/
inductive BankOp where
  | none | host | scheduler | placer
  deriving DecidableEq, Repr

/-- One physical bank of one array: its state machine (R51), its contents' metadata (R36), its
tables (R66) and its wear record (R84). -/
structure Bank where
  /-- R51, R84; 4 bits; reset EMPTY (0). -/
  st : BankState := .empty
  /-- R52; the state a CALIBRATING bank came from; reset EMPTY. -/
  prior : BankState := .empty
  /-- R52; whose operation runs; reset none. -/
  op : BankOp := .none
  /-- R52; a calibration of an IN_SERVICE bank runs (dual-bank mode); reset 0. -/
  calInPlace : Bool := false
  /-- R67, R69; 64 bits; identity of the block held; reset none. -/
  block : Option Nat := none
  /-- R84; 3 bits; reset 0: weight format code of R35. -/
  format : Nat := 0
  /-- R36; 1,040 column sums; reset empty (no verified programming). -/
  sums : List Int := []
  /-- R33, R34; the 1,048,576 data cells, 512 KiB of 4-bit codes in the golden image's order: the codes last given to the program path;
  reset empty (a cell that nothing has programmed: code 0). -/
  cells : List Byte := []
  /-- R66, R69; the valid tables by band; reset empty. -/
  tables : FMap CalTable := []
  /-- R52; a table fitted in service is committed, and the next committed boundary brings it into use; reset 0. -/
  newTable : Bool := false
  /-- R70, R72; the bank's record in the tile's table store; reset none. -/
  cur : Option CalTable := none
  /-- R83; band and latched T at the start of the running calibration; reset 0. -/
  calBand : Nat := 0
  calT : Int := 0
  /-- R52; the fit of a repair runs: its program and verify are over; reset 0. -/
  fitting : Bool := false
  /-- R52, R258; fits failed in a row; reset 0. -/
  fitFails : Nat := 0
  /-- R85; 1 bit; an open program-start entry in Kennel; reset 0. -/
  openEntry : Bool := false
  /-- R84; 1 bit; the open entry is a refresh-in-place; reset 0. -/
  openRefresh : Bool := false
  /-- R84; 32 bits; reset 0. -/
  progCycles : Nat := 0
  /-- R84; 32 bits; reset 0. -/
  refreshes : Nat := 0
  /-- R84; 32 bits; reset 0. -/
  cals : Nat := 0
  /-- R84; 32 bits; reset 0. -/
  progTime : Nat := 0
  /-- R84; 16 bits; reset 0: D in 0.001 % of FS. -/
  drift : Nat := 0
  /-- R76, R79; tile powered time of the latest D; reset 0. -/
  driftTime : Nat := 0
  /-- R84; 16 bits; reset 0. -/
  slowCells : Nat := 0
  /-- R84; 8 bits; reset 0. -/
  maxPulses : Nat := 0
  /-- R76, R84; 1 bit; reset 0. -/
  boundHeld : Bool := false
  /-- R79, R84; 1 bit; reset 0. -/
  refreshDue : Bool := false
  /-- R79, R84; 1 bit; reset 0. -/
  calDue : Bool := false
  /-- R86; 1 bit; reset 0: the rated-wear cause has been raised. -/
  wearRaised : Bool := false
  /-- R84; 32 bits; reset 0. -/
  probesSkipped : Nat := 0
  /-- R79; latched T summed, and latches counted, since the table was fitted; reset 0. -/
  tSum : Int := 0
  tCount : Nat := 0
  /-- R80; module time in ns of the last host command on the bank; reset none. -/
  hostAt : Option Nat := none
  /-- R478; no copy for R80 until it is programmed again; reset 0. -/
  noCopy : Bool := false
  /-- R80; the scheduler's plan for a standby bank: 1 it issued CALIBRATE, 2 PROGRAM, 3 it may issue SWAP; reset 0. -/
  plan : Nat := 0
  /-- R77; deviations of the four reference columns at the latest probe; reset empty. -/
  refDev : List Int := []
  /-- R81; the overdue cause has been raised; reset 0. -/
  overdue : Bool := false
  /-- R478; a DATA verdict waits for the recalibration that follows it, and when the last such one ended, ns; reset none. -/
  dataPending : Bool := false
  dataRecal : Option Nat := none
  deriving DecidableEq, Repr

/-! ### Placement (R245–R275) -/

/-- A placed region of a tile's scratchpad (R146, R249, R262). -/
structure Region where
  ridx : Nat
  /-- R146; 0 RESIDENT, 1 PERSISTENT, 2 WORKING, 3 REPEAT. -/
  kind : Nat
  base : Nat
  size : Nat
  deriving DecidableEq, Repr

/-- A placed tile of a partition (R249, R261, R263). -/
structure PTile where
  /-- R8; 16 bits; tile address. -/
  tile : Nat
  /-- R230, R231; the tile's notice table: latency up to and down from the hub, and the standby hub, in ticks; 6 bits each. -/
  notice : Nat × Nat := (0, 0)
  noticeS : Nat × Nat := (0, 0)
  /-- R261; physical array of each LAN. -/
  arrays : List Nat := []
  grant : Nat := 0
  accRows : Nat := 128
  regions : List Region := []
  deriving DecidableEq, Repr

/-- A step program of a placed image (R250): entry points as (region, offset) by PTI. -/
structure Prog where
  prog : Nat
  slots : Nat
  cap : Nat
  entries : List (Nat × Nat)
  deriving DecidableEq, Repr

/-- A flow with its placed route (R225, R252): the routers passed, as Y × 72 + X. -/
structure Flow where
  spti : Nat
  dkind : Nat
  dest : Nat
  rate : Nat
  path : List Nat := []
  /-- R331; a flow to a region: for each bridge, its share of the rate in 1/40 of 16 GB/s, and the routers passed. -/
  legs : List (Nat × List Nat) := []
  deriving DecidableEq, Repr

/-- A granted lane (R228): lane number die × 64 + n, source and destination stops by cluster number. -/
structure Lane where
  spti : Nat
  dptis : List Nat
  lane : Nat := 0
  src : Nat := 0
  dsts : List Nat := []
  deriving DecidableEq, Repr

/-- A reduction descriptor and the units its additions are mapped to (R233, R254): for each addition in
the order of tree(), the unit as 2 × tile address for a router, + 1 for a lane stop, + 2 for the tile's vector engine (R372). -/
structure Reduce where
  rid : Nat
  kind : Nat
  nw : Nat
  dpti : Nat
  dst : Nat
  dreg : Nat
  dflag : Nat
  onLanes : Bool
  contribs : List Nat
  units : List Nat := []
  deriving DecidableEq, Repr

/-- A handoff declaration (R255). -/
structure Handoff where
  lfrom : Nat
  lto : Nat
  owner : Nat
  accept : Nat
  /-- RID and whether it is a statistics reduction. -/
  rids : List (Nat × Bool)
  /-- PTI, PROG, word index and whether it is a statistics return. -/
  sends : List (Nat × Nat × Nat × Bool)
  deriving DecidableEq, Repr

/-- An allocated HBM region (R330–R332): kinds 0 WORK, 1 STREAM, 2 STAGE, 3 KV, 4 CHKPT. -/
structure HReg where
  ridx : Nat
  kind : Nat
  vbase : Nat
  size : Nat
  /-- R331; the stack list. -/
  stackIds : List Nat := []
  /-- R331; the region's extents on each stack of the list, ascending. -/
  extents : List (List Nat) := []
  /-- R330; INIT and DATA. -/
  init : Nat := 0
  data : Nat := 0
  width : Nat := 0
  deriving DecidableEq, Repr

/-- A layer group of a KV pool (R278). -/
structure KvGroup where
  l0 : Nat
  layers : Nat
  fmt : Nat
  nkvh : Nat
  dh : Nat
  nset : Nat
  basepage : Nat
  deriving DecidableEq, Repr

/-- A KV tile record (R279). -/
structure KvTile where
  pti : Nat
  layer : Nat
  h0 : Nat
  nh : Nat
  ring : Nat
  w : Nat
  scalereg : Nat
  scaleoff : Nat
  deriving DecidableEq, Repr

/-- The KV pool of a placed image (R277); none of its groups where the image declares none. -/
structure KvPool where
  maxent : Nat := 0
  pageUnits : Nat := 0
  groups : List KvGroup := []
  tiles : List KvTile := []
  deriving DecidableEq, Repr

/-- The committed placement record of a partition (R263). -/
structure Placement where
  /-- R246; 64 bits. -/
  image : Nat := 0
  /-- R246 MODE; 1 bit: S-compat. -/
  scompat : Bool := false
  /-- R48, R246; 1 bit: dual-bank mode. -/
  dual : Bool := false
  /-- R257, R503; 1 bit: loaded with STAGE. -/
  stage : Bool := false
  nsync : Nat := 0
  tiles : List PTile := []
  progs : List Prog := []
  flows : List Flow := []
  lanes : List Lane := []
  reduces : List Reduce := []
  handoffs : List Handoff := []
  hub : Nat := 0
  /-- R231; reset none: out of service until a link die returns. -/
  standby : Option Nat := none
  hregs : List HReg := []
  kv : KvPool := {}
  /-- R340; GB/s: the streaming floor recorded at load. -/
  floor : Nat := 0
  deriving DecidableEq, Repr

/-- A tile that a placement job programs (R257 steps, R258, R270): its PTI and what is left to do. -/
structure PlaceTile where
  pti : Nat
  tile : Nat
  narray : Nat
  arrays : List Nat
  /-- R258, R270; candidates that have failed for this PTI. -/
  tries : Nat := 0
  /-- Tiles that failed for this PTI. -/
  failed : List Nat := []
  /-- R270; banks whose programming has not begun, in the order in which they are taken. -/
  todo : List Nat := []
  deriving DecidableEq, Repr

/-- A job of the placer (R245): a load or a re-placement. -/
structure PlaceJob where
  part : Nat
  isLoad : Bool
  session : Nat := 0
  reqid : Nat := 0
  dies : Nat := 0
  stage : Bool := false
  image : Nat := 0
  /-- R269; MODE, TILE, RESTART, RETIRE of a re-placement. -/
  mode : Nat := 0
  tile : Nat := 0
  restart : Bool := false
  retire : Bool := false
  /-- R270; it has begun; the placement to commit, the tiles being programmed, the tiles vacated. -/
  begun : Bool := false
  /-- R268; a request asked for it and waits for the reply. -/
  asked : Bool := true
  /-- R270; a golden block has failed its BCRC: the reason. -/
  fail : Nat := 0
  /-- R258, R270; arrays removed from eligibility, by tile × 64 + array. -/
  dead : List Nat := []
  /-- R260, R273; the load reserve K in force when the placement started. -/
  reserve : Nat := 0
  plan : Placement := {}
  /-- R258, R260; the anchor that was taken. -/
  dx : Int := 0
  dy : Int := 0
  work : List PlaceTile := []
  vacated : List (Nat × Nat) := []
  startNs : Nat := 0
  deriving DecidableEq, Repr

/-! ### Partitions and steps (R15–R32, R173–R214) -/

/-- One node of a candidate tree as the step holds it (R303). -/
structure CandNode where
  token : Nat
  parent : Nat
  q : Nat
  deriving DecidableEq, Repr

/-- A slot binding of the running step (R189–R191). -/
structure SlotB where
  slot : Nat
  seq : Nat
  nnode : Nat
  /-- R189; resolved source: 1 host nodes, 2 draft link. -/
  csrc : Nat
  nodes : List CandNode := []
  /-- R276; the sequence's committed length at dispatch. -/
  len : Nat := 0
  key : Nat := 0
  temp : Nat := 0
  topk : Nat := 0
  topp : Nat := 0
  /-- R191; MASKED, CANCELLED, NONFINITE, NO_PAGE and CAUSE. -/
  masked : Bool := false
  cancelled : Bool := false
  nonfinite : Bool := false
  noPage : Bool := false
  cause : Nat := 0
  /-- R309; TREE has written the slot's record; R313: ACCEPT has decided it. -/
  treeDone : Bool := false
  decided : Bool := false
  /-- R313; accepted nodes in order of depth, and the tokens emitted. -/
  kept : List Nat := []
  tokens : List Nat := []
  /-- R307; for each token emitted, the Q that the draft distribution gives it. -/
  qs : List Nat := []
  /-- R303; FORCE of the nodes, one bit a node. -/
  force : List Bool := []
  /-- R194; step number of the last step that committed for the sequence before this step; none before the first. -/
  prevLast : Option Nat := none
  /-- R375; replica group: the sequence lives on another rank, whose pages serve it. -/
  away : Bool := false
  /-- R292; sets the allocation call gave: group, entry index, new set, set copied from (0 none, else set + 1). -/
  allocs : List (Nat × Nat × Nat × Nat) := []
  deriving DecidableEq, Repr

/-- The step a partition runs (R27, R141–R145, R190). -/
structure StepRun where
  prog : Nat
  stepNo : Nat
  slots : List SlotB
  startNs : Nat
  /-- R191; time spent STALLED, and when the present stall began. -/
  stallNs : Nat := 0
  stallFrom : Nat := 0
  /-- R203; cause of the present stall, the late tile, its TSTEP's offset and START. -/
  stallCause : Nat := 0
  stallTile : Nat := 0
  stallOff : Nat := 0
  stallStart : Nat := 0
  /-- R144; the stall record has been posted for the present stall. -/
  stallPosted : Bool := false
  /-- R126, R135; since when a tile is late by a repeat or a pin, ns. -/
  guardFrom : Nat := 0
  repeats : Nat := 0
  storm : Bool := false
  /-- R141; tiles that the launch has reached, and tiles that have reached END. -/
  launched : List Nat := []
  ended : List Nat := []
  /-- R27; the commit point has passed. -/
  committed : Bool := false
  /-- R128; layers with a guarded tile-step in the step, and layers with a repeat. -/
  guarded : List Nat := []
  repeated : List Nat := []
  /-- R132; SAT_THR, ZERO_THR, storm fraction, and the 16 words of the pin table, latched at dispatch. -/
  satThr : Nat := 4
  zeroThr : Nat := 28
  stormFrac : Nat := 100
  pins : List Nat := []
  /-- R416; NUMERIC mode in force: every layer at least at this pin code. -/
  numeric : Nat := 0
  /-- R59; check period and tolerance in force for the step. -/
  checkN : Nat := 0
  checkT : Nat := 0x100000
  /-- R308; slot ranges that PUBLISH registered: first slot and number. -/
  published : List (Nat × Nat) := []
  /-- R142, R143; notices on their way: tile they reach, tile they come from, START, 1 for a resume. -/
  notices : List (Nat × Nat × Nat × Nat) := []
  /-- R208; hazards reported in the step: tile, offset of the earlier and of the later command. -/
  hazards : List (Nat × Nat × Nat) := []
  /-- R292; copies in flight: group, shared set, new set, first and last position copied. -/
  copies : List (Nat × Nat × Nat × Nat × Nat) := []
  /-- R292; the step program's first call to the page engine has been made. -/
  alloced : Bool := false
  /-- R293; the cause for want of a set has been raised for this step. -/
  noPageRaised : Bool := false
  /-- R193, R196, R298, R299; queues whose command is held to the boundary, in submission order; reset none. -/
  held : List Nat := []
  /-- R375; the step is a group step of this epoch and number. -/
  group : Option Nat := none
  deriving DecidableEq, Repr

/-- Sampling state and cancel flag of a sequence, and its tables (R24–R29, R192, R197). -/
structure Seq where
  /-- R282; 16 bits: handle. -/
  handle : Nat := 0
  /-- R24; committed length. -/
  len : Nat := 0
  key : Nat := 0
  /-- R197; FP32 bits; default temperature. -/
  temp : Nat := 0x3F800000
  topk : Nat := 0
  topp : Nat := 0x3F800000
  csrc : Nat := 1
  /-- R28, R194. -/
  cancelled : Bool := false
  /-- R194; step number of the last step that committed for the sequence; none before the first. -/
  lastStep : Option Nat := none
  /-- R284; table of each layer group: set numbers of the entries. -/
  tables : FMap (List Nat) := []
  deriving DecidableEq, Repr

/-- A preservation save (R505): step counter, sequences, set states, and the address in space 4 and bytes of each part of a HELD set. -/
structure Saved where
  counter : Nat
  seqs : FMap Seq
  sets : FMap (Nat × Nat)
  pages : List (Nat × List Byte)
  deriving DecidableEq, Repr

/-- One partition (R15–R18). -/
structure Part where
  /-- R17 obj 0x51pp:1; reset FREE. -/
  st : PState := .free
  /-- R18 obj 0x51pp:2; 1 bit; reset 0. -/
  enable : Bool := false
  /-- R18 obj 0x51pp:3; 64 bits; reset 0: committed steps. -/
  stepCounter : Nat := 0
  /-- R413; reset none. -/
  check : Option CheckRun := none
  /-- R263; reset empty: the committed placement record. -/
  place : Placement := {}
  /-- R190; reset none. -/
  step : Option StepRun := none
  /-- R53; tile × 128 + array × 2 + bank of the banks in the pending swap record; reset empty. -/
  swap : List Nat := []
  /-- R53, R71; dispatch of STEP is held: tSWAP runs, tables load; reset 0. -/
  holdSwap : Bool := false
  holdTables : Bool := false
  /-- R30, R546; the draft-link cause has been raised for the present wait; reset 0. -/
  draftCause : Bool := false
  /-- R231; partition has neither hub in service; reset 0. -/
  noHub : Bool := false
  /-- R129; storm steps: run of non-storm steps and whether a run of storm steps is open; reset 0. -/
  stormOpen : Bool := false
  calmSteps : Nat := 0
  /-- R59, R472 obj 0x51pp:5, :6; check period and tolerance in force since the last step boundary; reset 0 and 0x0010_0000. -/
  checkN : Nat := 0
  checkT : Nat := 0x100000
  /-- R76; some IN_SERVICE bank was outside its bound at the last boundary; reset 0. -/
  boundLost : Bool := false
  /-- R71, R76; a band change of a boundary loads tables: BOUND_HELD is judged when they are there; reset 0. -/
  boundDue : Bool := false
  /-- R268; the partition's latest fault named a tile that Kennel held PERMANENT at that fault, and no re-placement has taken it up; reset 0. -/
  permFault : Bool := false
  /-- R300; groups whose FREE sets lie below the low-free level; reset empty. -/
  lowFree : List Nat := []
  /-- R300 obj 0x56pp:3; FREE sets of each group at the last boundary since the load; reset empty (none since: every set of the group). -/
  freeAt : FMap Nat := []
  /-- R505; a valid preservation marker and what it preserves: step counter and sequences; reset none. -/
  saved : Option Saved := none
  /-- R505; live sequences that the partition held when the wafer was powered down; reset 0. -/
  lostSeqs : Nat := 0
  deriving DecidableEq, Repr

/-- R353; the IPv6 and UDP headers that the device puts before a Broler frame. -/
structure IpHead where
  hop : Nat
  tclass : Nat
  flow : Nat
  dst : Nat
  dport : Nat
  sport : Nat
  deriving DecidableEq, Repr

/-- What carries a Broler frame that the device sends. -/
structure Wire where
  /-- R351; 48 and 49 are the management ports. -/
  port : Nat
  /-- R352; the 16-bit tag control information of the IEEE 802.1Q tag, its priority in [15:13] and its VLAN identifier in [11:0]. -/
  tag : Option Nat
  /-- R353; the EtherType, and the IPv6/UDP encapsulation where the session uses it. -/
  etherType : Nat
  ip : Option IpHead
  /-- R354; the 256-bit header. -/
  hdr : Nat
  deriving DecidableEq, Repr

/-- Something that leaves the block. -/
inductive OutMsg where
  /-- A reply to a request or submission. -/
  | reply (r : Reply)
  /-- R24, R180; completion record number `no` of the model's count, sent to sessions holding READ. -/
  | record (part no : Nat) (sessions : List Nat) (words : List W256)
  /-- R182; a debug record sent to sessions holding READ: its 32-bit envelope and the record. -/
  | debug (part : Nat) (sessions : List Nat) (envelope : Nat) (r : DebugRec)
  /-- R354, R355; a session frame. -/
  | frame (wire : Wire) (payload : List Byte)
  /-- R362, R363; an ACKF of a session for a channel, with the ranges received beyond ACK. -/
  | ackf (session chan : Nat) (wire : Wire) (ranges : List (Nat × Nat))
  /-- R362; a segment sent on a channel of a session, first time or again. -/
  | segment (session chan seq : Nat) (wire : Wire)
  /-- R375, R377; a cascade control message to a session: 1 JOIN, 2 the answer to JOIN, 3 STEPGO, 4 MASKS, 5 COMMIT, 6 COMMITTED, 7 BOUNDARY,
  8 its acknowledgement, 9 CONFIRM, 10 forwarded cancel, 11 masking, 12 window announcement, 13 MASTERLOST, 14 NEWMASTER, 15 its reply,
  16 a forwarded host command; with its content as numbers. -/
  | cascade (session kind : Nat) (body : List Nat)
  /-- R366; a remote write: window, epoch, offset, tag and data. -/
  | write (session win epoch off tag : Nat) (data : List Byte)
  /-- R367; WACK (reason 0) or WNAK with its 64-bit body. -/
  | wack (session reason body : Nat)
  /-- R372; a contribution: descriptor, index, TOPK, group step and data words. -/
  | contrib (session rid idx : Nat) (topk : Bool) (step : Nat) (data : List Nat)
  /-- R353; an ICMPv6 message at an Ethernet or management port: 1 Neighbor Advertisement, 2 Echo Reply, 3 Neighbor Solicitation. -/
  | icmp (port : Nat) (kind : Nat) (target : Nat)
  /-- R352; a PFC frame for a priority: XOFF or XON. -/
  | pfc (port pri : Nat) (off : Bool)
  /-- R514; a bit shifted out on TDO of a card's test port. -/
  | tdo (card : Nat) (bit : Bool)
  deriving DecidableEq, Repr

/-! ### Broler (R350–R372) -/

/-- A segment that a sender keeps until it is acknowledged (R362, R363). -/
structure Seg where
  /-- R354; 32 bits. -/
  seq : Nat
  first : Bool
  last : Bool
  /-- The message it carries a part of, and the part's bytes from `off`. -/
  msg : OutMsg
  off : Nat
  len : Nat
  /-- R364; the 64-bit prefix with which the first segment of a channel message begins; 0 otherwise. -/
  head : Nat := 0
  /-- R363; a selective range has acknowledged it. -/
  got : Bool := false
  deriving DecidableEq, Repr

/-- A segment as received (R354, R362). -/
structure RxSeg where
  typ : Nat
  first : Bool
  last : Bool
  reason : Nat
  payload : List Byte
  deriving DecidableEq, Repr

/-- One channel of a session in both directions (R356, R362, R363). -/
structure Chan where
  /-- R362; number of the next segment made, and of the next to be sent the first time; reset 0. -/
  txNext : Nat := 0
  txSent : Nat := 0
  /-- R362; ACK + CREDIT of the latest frame received on the channel; none before the first. -/
  txLimit : Option Nat := none
  /-- R363; segments not yet acknowledged, oldest first; reset none. -/
  segs : List Seg := []
  /-- R363; expiries in a row of the oldest segment's timer, and when it was started, ns; reset 0, none. -/
  expiries : Nat := 0
  timerAt : Option Nat := none
  /-- R362; next segment expected; reset 0. -/
  rxNext : Nat := 0
  /-- R363; out-of-order segments kept (version 1.1); reset none. -/
  held : FMap RxSeg := []
  /-- R362; segments received and not yet acknowledged, and when the oldest came, ns; reset 0. -/
  due : Nat := 0
  dueAt : Nat := 0
  /-- R364; payload bytes of the message being gathered; reset none. -/
  asm_ : Option (List Byte) := none
  deriving DecidableEq, Repr

/-- A session (R23, R354–R363, R387). -/
structure Session where
  /-- R360; 0 CLOSED, 1 CHALLENGED, 2 OPEN, 3 CLOSING. -/
  st : Nat := 0
  /-- R358; 1 host, 2 link, 3 management. -/
  kind : Nat := 0
  /-- R396; credential entry 1–64. -/
  cred : Nat := 0
  /-- R396; the 128-bit rights record as it stood at the open. -/
  rights : Nat := 0
  /-- R388; the session's own selector values by object key; reset the selectors' defaults. -/
  sel : FMap Nat := []
  /-- R358; the peer's identifier; this module sent the OPEN. -/
  peer : Nat := 0
  opener : Bool := false
  /-- R359 obj 0x6020:3; negotiated minor version; the major is 1. -/
  vmin : Nat := 1
  /-- R351 obj 0x6020:4; port of the newest frame; 48 and 49 are the management ports. -/
  port : Nat := 0
  /-- R353; IPv6/UDP encapsulation, and the peer's address. -/
  udp : Bool := false
  addr : Nat := 0
  /-- R395; the OPEN payload and the responder's nonce. -/
  open_ : List Byte := []
  nonce : List Byte := []
  /-- R360, R363; when it entered CHALLENGED, received and sent its latest frame, and entered CLOSING, ns. -/
  openedAt : Nat := 0
  lastRx : Nat := 0
  lastTx : Nat := 0
  closeAt : Nat := 0
  /-- R358, R359; link: local and remote partition, the peer's rank, the group identifier. -/
  lpart : Nat := 0
  rpart : Nat := 0
  rank : Nat := 0
  group : Nat := 0
  /-- R356; channels 0–5; reset as Chan. -/
  chans : FMap Chan := []
  /-- R381 obj 0x6020:5; 64 bits; reset 0. -/
  resent : Nat := 0
  deriving DecidableEq, Repr

/-- A frame that a port has received and Broler has not yet taken (R352, R357): its header, its payload and where it came from. -/
structure RxFrame where
  port : Nat
  /-- R352; priority of its tag. -/
  pri : Nat
  /-- Bytes of the frame. -/
  len : Nat
  udp : Bool
  addr : Nat
  hdr : Nat
  payload : List Byte
  deriving DecidableEq, Repr

/-- A port and its cage (R351, R352); 48 and 49 are the management ports. -/
structure Port where
  /-- R351; a module is in the cage; reset 0 (DESIGN CHOICE: empty cages). -/
  present : Bool := false
  /-- R381 obj 0x6010:12; power class; reset 0. -/
  cls : Nat := 0
  /-- R540; the module stays in low-power mode; reset 0. -/
  low : Bool := false
  /-- R351, R541; the link is up; reset 0. -/
  link : Bool := false
  /-- R351; shut down for an electrical fault; until the module is removed; when it last left FAULT, ns. -/
  fault : Bool := false
  stuck : Bool := false
  leftAt : Option Nat := none
  /-- R352; priorities whose transmission is paused, and until when, ns; reset none. -/
  paused : FMap Nat := []
  /-- R352; priorities for which XOFF has been sent; reset none. -/
  xoff : List Nat := []
  /-- R353; link-layer address of the gateway; reset none. -/
  gateway : Option Nat := none
  deriving DecidableEq, Repr

/-- A remote-write window (R365). -/
structure Window where
  /-- R365; 0 CLOSED, 1 OPEN, 2 CLOSING; reset CLOSED. -/
  st : Nat := 0
  /-- R365; 16 bits; reset 0. -/
  epoch : Nat := 0
  va : Nat := 0
  len : Nat := 0
  deriving DecidableEq, Repr

/-- A remote write that has been accepted (R366, R367), or one that was refused and whose segments are discarded. -/
structure InWrite where
  session : Nat
  part : Nat
  win : Nat
  tag : Nat
  /-- Address of the next byte, bytes still to come, and the last segment's bytes, which have not landed yet. -/
  va : Nat
  left : Nat
  last : Option (List Byte) := none
  refused : Bool := false
  deriving DecidableEq, Repr

/-- A remote write that this module has sent and whose answer it awaits (R200, R370). -/
structure OutWrite where
  session : Nat
  part : Nat
  tag : Nat
  /-- The link queue of an RWRITE; none for an export, whose number follows. -/
  queue : Option Nat
  exp : Nat
  win : Nat
  epoch : Nat
  off : Nat
  data : List Byte
  /-- R370; it has been resent. -/
  again : Bool := false
  deriving DecidableEq, Repr

/-! ### Cascade groups (R373–R380) -/

/-- The undo record of a group step (R376): its sequences, and the states and references of the sets it changed, as they stood before it. -/
structure Undo where
  step : Nat
  seqs : List (Nat × Seq)
  sets : List (Nat × Nat × Nat)
  deriving DecidableEq, Repr

/-- A STEPGO that waits (R375): its session, step number, program and the words of its bindings. -/
structure StepGo where
  session : Nat
  step : Nat
  prog : Nat
  binds : List Nat
  deriving DecidableEq, Repr

/-- A partition's part in a group (R374–R380). -/
structure Group where
  /-- R374 obj 0x63pp:11; reset NONE: 1 FORMING, 2 FORMED, 3 FENCED, 4 STALE. -/
  st : Nat := 0
  /-- R378 obj 0x63pp:10; 16 bits; reset 0. -/
  epoch : Nat := 0
  /-- R375 obj 0x63pp:12; 64 bits; reset 0. -/
  confirmed : Nat := 0
  /-- R374; ranks that have joined; reset none. -/
  joined : List Nat := []
  /-- R379; role, master's and backup's rank in force: obj 0x63pp:2, :5, :6 until a promotion changes them; reset none. -/
  role : Nat := 0
  master : Nat := 0
  backup : Nat := 0xFF
  /-- R375; ranks to which the running step was sent, ranks whose MASKS, and whose COMMITTED, are in hand. -/
  ranks : List Nat := []
  masks : List Nat := []
  done : List Nat := []
  /-- R375; member: its MASKS has been sent, and COMMIT has come. -/
  masked : Bool := false
  commit : Bool := false
  /-- R375; master: the step whose boundary waits, and whether BOUNDARY has been sent. -/
  posting : Option StepRun := none
  sent : Bool := false
  /-- R375; STEPGOs that wait for CONFIRM or for the partition; reset none. -/
  waiting : List StepGo := []
  /-- R376; reset none. -/
  undo : Option Undo := none
  /-- R375, R379; the group sequence table at the last BOUNDARY, one packed word a sequence, and its step; reset none, 0. -/
  table : FMap Nat := []
  tableAt : Nat := 0
  /-- R379; ranks from which MASTERLOST has come; reset none. -/
  lost : List Nat := []
  /-- R375; replica: home rank of each sequence; reset none. -/
  homes : FMap Nat := []
  /-- R374; member: when it sent JOIN, ns; reset none. -/
  joinAt : Option Nat := none
  /-- R377; cancels forwarded whose decision is awaited, as rank × 2^32 + sequence: a member's own, or those that reached the master; reset none. -/
  forwarded : List Nat := []
  /-- R375; member: command words from the master that wait for the boundary of its step; reset none. -/
  orders : List Nat := []
  deriving DecidableEq, Repr

/-- The power states of R496. -/
inductive Power where
  | off | standby | attended | starting | ready | stopping | hold | recovery
  deriving DecidableEq, Repr

/-! ### Tile sequencers and the fabric (R137–R172, R215–R244) -/

/-- An evaluation in flight at an array (R44–R46). -/
structure EvalRun where
  array : Nat
  /-- R47; physical bank the map gave at acceptance, 0 A or 1 B. -/
  bank : Nat
  wide : Bool
  /-- R37, R39; 1,024 input codes. -/
  codes : List Int
  /-- R101; activation scale and non-finite mark of the input. -/
  scale : Nat
  nonfin : Bool
  row : Nat
  off : Nat
  /-- R124; a flagged scope suppresses the result's write. -/
  suppressed : Bool := false
  deriving DecidableEq, Repr

/-- A TMM in flight (R154): the results formed, waiting to be written. -/
structure TmmRun where
  dst : Nat
  acc : Bool
  /-- Word index 64·m + n and FP32 value of each result. -/
  words : List (Nat × Nat)
  off : Nat
  suppressed : Bool := false
  deriving DecidableEq, Repr

/-- A quantised operand that lies in the REPEAT region (R124, R157): where its consumers look for it, and where it is. -/
structure Redirect where
  /-- Compiled scratchpad offset of the elements and bytes of one unit there. -/
  src : Nat
  unit : Nat
  n : Nat
  /-- Format and place of the operand in the repeat buffer. -/
  fmt : Nat
  elems : Nat
  scales : Nat
  deriving DecidableEq, Repr

/-- A page read that a KVRD started (R288): where its bytes go when it completes, and its flag. -/
structure KvrdRun where
  off : Nat
  dst : Nat
  flag : Nat
  /-- R225; 1 bit: some of its pages come over the fabric from HBM. -/
  far : Bool := false
  data : List Byte
  deriving DecidableEq, Repr

/-- A step-program call outstanding at a tile (R163): engine, flag, and the transfer descriptors of a chain (R337). -/
structure CallRun where
  off : Nat
  eng : Nat
  flag : Nat
  descs : List Nat
  deriving DecidableEq, Repr

/-- What the hazard detector tracks of a command (R207, R208), or of what orders commands. -/
structure HzRec where
  off : Nat
  /-- R137; unit, 8 for the sequencer, 15 for a remote write. -/
  unit : Nat
  /-- R208; tile operands and lengths read and written. -/
  rd : List (Nat × Nat) := []
  wr : List (Nat × Nat) := []
  /-- R208; tile flag that the completion increments, plus 1; 0 none. -/
  flag : Nat := 0
  /-- 0 a command; 1 FENCE with its mask, 2 WAITF with its flag, 3 SYNC wait with its object, 4 SYNC signal with its object. -/
  kind : Nat := 0
  arg : Nat := 0
  /-- R208; SYNC signal: the offsets of the commands that had not completed when it was made. -/
  busy : List Nat := []
  deriving DecidableEq, Repr

/-- A tile's run of its command list in a step (R137–R161). -/
structure TileRun where
  part : Nat
  prog : Nat
  /-- R160; scratchpad offset of the list header, and NCMD. -/
  base : Nat
  ncmd : Nat
  /-- R161; word number of the command to issue next; reset 1 at launch. -/
  pos : Nat := 1
  /-- R141; step clock in ticks of 6.4 ns; reset 0 at launch. -/
  clk : Nat := 0
  /-- R142; outstanding stalls known to the tile: late tile and START; reset none. -/
  stalls : List (Nat × Nat) := []
  /-- R142; the tile is late itself, and sends the resume when it reaches its TSTEP. -/
  late : Bool := false
  /-- R203; the cause for which it became late; reset 0. -/
  lateFor : Nat := 0
  /-- R184; the object and value for which a SYNC wait holds the tile; reset none: no wait holds it, or it has been released. -/
  syncHeld : Option (Nat × Nat) := none
  /-- R184; a value written since the tile was held has satisfied its SYNC wait; reset 0. -/
  syncFree : Bool := false
  /-- R159; tile flags, 64 of 32 bits; reset 0 at launch. -/
  flags : FMap Nat := []
  /-- R163; the tile-step: word of its TSTEP (0 none), LAYER, GRD. -/
  tstep : Nat := 0
  layer : Nat := 0
  grd : Bool := false
  /-- R123; a guard scope is open, the rows and scratchpad bytes (offset and length) it holds pending, those of a run that a repeat has abandoned
  (R124), and the words, tags and bytes to restore on a repeat. -/
  scope : Bool := false
  closed : Bool := false
  rows : List Nat := []
  spans : List (Nat × Nat) := []
  oldRows : List Nat := []
  oldSpans : List (Nat × Nat) := []
  undoSp : List (Nat × Byte) := []
  undoAcc : List (Nat × W32) := []
  undoTag : List (Nat × Nat) := []
  /-- R124; repeats made of this tile-step, and whether one waits to start. -/
  level : Nat := 0
  flagged : Bool := false
  /-- R124, R157; operands in the REPEAT region, and the first free byte of it. -/
  redirects : List Redirect := []
  repeatNext : Nat := 0
  evals : List EvalRun := []
  tmms : List TmmRun := []
  kvrds : List KvrdRun := []
  calls : List CallRun := []
  /-- R163; held at a BRK; 2 once a debug command has released it. -/
  brk : Nat := 0
  /-- R161; the partition has left its step: the tile stops at its next TSTEP. -/
  stopping : Bool := false
  /-- R474; evaluations of each array in this step. -/
  evalPos : FMap Nat := []
  /-- R321; slots masked at this tile by a cancel notice, and notices held until the next TSTEP. -/
  masked : List Nat := []
  maskNext : List Nat := []
  /-- R207, R208; reset none: what the hazard detector tracks, oldest first. -/
  hz : List HzRec := []
  /-- R125; sources of the open scope's guarded quantisations: operand, length and the command's offset. -/
  gsrc : List (Nat × Nat × Nat) := []
  deriving DecidableEq, Repr

/-- A SEND in flight (R159, R169). -/
structure Flight where
  part : Nat
  src : Nat
  dst : Nat
  /-- R152; tile operand at the destination. -/
  addr : Nat
  flag : Nat
  off : Nat
  /-- The step that sent it. -/
  step : Nat := 0
  /-- R222, R228; the routers passed as Y × 72 + X, or the lane and the clusters of its source and destination stops. -/
  route : List Nat := []
  lane : Option Nat := none
  /-- R240; 1 bit: it had passed the failure on its route. -/
  through : Bool := false
  data : List Byte
  deriving DecidableEq, Repr

/-- An operand of a reduction in flight, or held in a slot (R232–R235): it stands at position `idx` of `n`
values at level `lvl` of tree(). -/
structure RFlight where
  part : Nat
  rid : Nat
  lvl : Nat
  idx : Nat
  n : Nat
  step : Nat
  /-- The tile that an RDC sends it from, plus 1, and the offset of that RDC; 0 for a sum and for another module's contribution. -/
  src : Nat := 0
  off : Nat := 0
  /-- R222, R228; what it still passes to the destination: routers, or the clusters of lane stops. -/
  route : List Nat := []
  /-- R240; 1 bit: it had passed the failure on its route. -/
  through : Bool := false
  /-- FP32 words, or the 64-bit words of a top-k list. -/
  data : List Nat
  deriving DecidableEq, Repr

/-! ### Kennel (R480–R484) -/

/-- A Kennel record (R481), without VERSION and CRC. -/
structure KRec where
  typ : Nat
  ukind : Nat
  unit : Nat
  sub : Nat := 0
  kind : Nat := 0
  reason : Nat := 0
  cls : Nat := 0
  st : Nat := 0
  count : Nat := 0
  time : Nat := 0
  rtc : Nat := 0
  powerOn : Nat := 0
  recNo : Nat := 0
  /-- R481; 128 bits. -/
  detail : Nat := 0
  deriving DecidableEq, Repr

/-- The summary of a unit (R483, R484). -/
structure KUnit where
  /-- R483; 0 HEALTHY, 1 SUSPECT, 2 PERMANENT, 3 RETIRED; reset HEALTHY. -/
  st : Nat := 0
  /-- R482; classifying events: kind and time in ns of the model's running clock; reset none. -/
  events : List (Nat × Nat) := []
  /-- R484; 32 bits; reset 0. -/
  total : Nat := 0
  /-- R484; 8 bits; reset 0. -/
  lastKind : Nat := 0
  /-- R484; 64 bits; reset 0. -/
  lastRec : Nat := 0
  /-- R484; 64 bits; reset 0. -/
  corrected : Nat := 0
  /-- R480; hour of the latest ring record of a corrected error, plus 1; reset 0. -/
  corrHour : Nat := 0
  /-- R480; records of TYPE 2, 5 and 6 copied into the summary store; reset none. -/
  recs : List KRec := []
  deriving DecidableEq, Repr

/-- Kennel: the block being gathered, the ring and the summaries. -/
structure Kennel where
  /-- R480; records not yet in a committed block, newest first; reset none. -/
  gathering : List KRec := []
  /-- R480; committed records, newest first; reset none. -/
  ring : List KRec := []
  /-- R481; number of the newest record; reset 0. -/
  recNo : Nat := 0
  /-- R483; by unit; reset HEALTHY. -/
  units : FMap KUnit := []
  deriving DecidableEq, Repr

/-! ### Images (R245–R256, R403) -/

/-- A committed image of the image store: its bytes and its length in bytes (R403). -/
structure StoreImg where
  bytes : List Host.Cell
  len : Nat
  deriving DecidableEq, Repr

/-- An open upload (R403): the identity, the length given, the bytes and the ranges written. -/
structure Upload where
  image : Nat
  len : Nat
  bytes : List Host.Cell := []
  ranges : List (Nat × Nat) := []
  deriving DecidableEq, Repr

/-! ### Checking (R474–R478) -/

/-- A capture (R475) and what the verdict on it needs (R476). -/
structure Capture where
  /-- R475; 32 bits; number, counted from 1 at power-on. -/
  id : Nat
  part : Nat
  tile : Nat
  array : Nat
  bank : Nat
  group : Nat
  wide : Bool
  /-- R475; 1,024 input codes and 1,040 physical results. -/
  codes : List Int
  results : List Int
  /-- R475; latched T in 1/16 °C, band, and CAL_TIME of the table in use. -/
  temp : Int
  band : Nat
  calTime : Nat
  eg : Int
  kg : Int
  /-- R476; the tolerance in force, and the bank's block, format, tile powered seconds and program cycles at the capture. -/
  tol : Nat
  block : Option Nat
  format : Nat
  ageSec : Nat
  ageCyc : Nat
  /-- R476; an arbitration of it runs. -/
  running : Bool := false
  deriving DecidableEq, Repr

/-! ### Power and cooling (R432–R468) -/

/-- One feed (R434). -/
structure Feed where
  /-- R434 obj 0x4001:1; volts, two's complement; reset 0. -/
  volts : Int := 0
  /-- R467 obj 0x4001:2; 32 bits, mA; reset 0. -/
  ma : Nat := 0
  /-- R434; reset 0: usable. -/
  usable : Bool := false
  /-- R434; since when the voltage lies within 640–940 V, ns; reset none. -/
  bandAt : Option Nat := none
  /-- R435; when it last became usable, ns; reset none. -/
  usableAt : Option Nat := none
  deriving DecidableEq, Repr

/-- One brick slot (R436). -/
structure Brick where
  /-- R439; a brick is in the slot; reset 1 (DESIGN CHOICE). -/
  present : Bool := true
  /-- R436 obj 0x4002:1; 0 ABSENT, 1 STARTING, 2 SERVICE, 3 PREPARED, 4 FAULT; reset STARTING (DESIGN CHOICE: not powered yet). -/
  st : Nat := 1
  /-- R439; it sheds its load before it is PREPARED; reset 0. -/
  shedding : Bool := false
  /-- R435 obj 0x4002:3; 0 A, 1 B, 0xFF none; reset none. -/
  feed : Nat := 0xFF
  /-- R467 obj 0x4002:2, :4; watts and 1/16 K; reset 0. -/
  watts : Nat := 0
  temp : Nat := 0
  /-- R467 obj 0x4002:5; ns in service, and since when it has been in service; reset 0, none. -/
  hours : Nat := 0
  since : Option Nat := none
  deriving DecidableEq, Repr

/-- The regulator block of a cluster, beside its state (R444–R446). -/
structure Block where
  /-- R445 obj 0x4100:2; reset 8: VLOG phases in service. -/
  phases : Nat := 8
  /-- R444; successive samples at which each phase carried too little, and at which VPGM was out of regulation; reset 0. -/
  low : List Nat := [0, 0, 0, 0, 0, 0, 0, 0]
  off : List Nat := []
  vpgmBad : Nat := 0
  /-- R467 obj 0x4100:4–6; mV, mA, mV; reset 0. -/
  vlog : Nat := 0
  ma : Nat := 0
  varr : Nat := 0
  /-- R444 obj 0x4100:7; µΩ; reset 0: excess resistance; the sum and number of the samples of the running average; reset 0. -/
  dr : Nat := 0
  drSum : Int := 0
  drN : Nat := 0
  /-- R444; excess resistance at the latest report since power-on; reset none. -/
  drAt : Option Nat := none
  deriving DecidableEq, Repr

/-- One hot spot and its region (R449, R454–R458). -/
structure HotSpot where
  /-- R453, R455; successive bad samples of sensors a and b, whether each has failed, and since when a failed one reads in range, ns. -/
  badA : Nat := 0
  badB : Nat := 0
  failA : Bool := false
  failB : Bool := false
  okA : Option Nat := none
  okB : Option Nat := none
  /-- R455; samples in a row more than 5 K apart; the disagreement fault; since when the readings agree, ns. -/
  apart : Nat := 0
  disagree : Bool := false
  agreeAt : Option Nat := none
  /-- R455, R468; the sensor the model labels implausible. -/
  implA : Bool := false
  implB : Bool := false
  /-- R458, R468; 0 on, 3 switched off at 95 °C, 4 switched off with both sensors failed. -/
  off : Nat := 0
  /-- R458; since when the protection reading lies at or below the return temperature, ns. -/
  coolAt : Option Nat := none
  /-- R449 obj 0x4011:8; clock in steps of 31.25 MHz above 1.0 GHz; reset 8 (1,250 MHz). -/
  k : Nat := 8
  /-- R449, R468 FT; 7 bits; reset 64: f_t in 1/64. -/
  ft : Nat := 64
  /-- R211, R449; grant factor in force in the region, in 1/64; reset 64. -/
  f : Nat := 64
  /-- R456 obj 0x4011:4–6; T_pred in 1/16 °C, R_th in 0.001 K/W, P_therm in 0.1 W; reset 0 (DESIGN CHOICE). -/
  pred : Int := 0
  rth : Nat := 0
  ptherm : Int := 0
  /-- R456; periods with P_r of at least 5 W, the measured mean of R_th, the latest power in 0.1 W, the reading of the period before. -/
  periods : Nat := 0
  mean : Nat := 0
  power : Nat := 0
  prev : Int := 0
  deriving DecidableEq, Repr

/-- One HBM stack (R326, R346, R459). -/
structure Stack where
  /-- R467 obj 0x4012:1; 1/16 °C; reset 0 (DESIGN CHOICE). -/
  temp : Int := 0
  /-- R459 obj 0x4012:2; reset 0: 0 uncapped, 1 half rate, 2 stopped. -/
  cap : Nat := 0
  /-- R346; reset 0: it has failed. -/
  failed : Bool := false
  deriving DecidableEq, Repr

/-- The coolant sensors, in the order FM0, FM1, DP, inlet 0 and 1, outlet 0 and 1 (R453, R461–R463). -/
structure Coolant where
  /-- Latest value of each sensor: 0.01 L/min, Pa, 1/16 °C; reset 0 (DESIGN CHOICE). -/
  vals : List Int := [0, 0, 0, 0, 0, 0, 0]
  /-- R453; successive bad samples of each. -/
  bad : List Nat := [0, 0, 0, 0, 0, 0, 0]
  /-- R453 obj 0x4020:6; 7 bits; reset 0: failed sensors, in the order above. -/
  failed : Nat := 0
  /-- R461; successive samples that met the first, second and third criterion; the criteria hold now. -/
  c1 : Nat := 0
  c2 : Nat := 0
  c3 : Nat := 0
  lost : Bool := false
  /-- R463 obj 0x4020:7; reset 0: 0 normal, 1 capped, 2 stop hold, 3 recovered in hold. -/
  st : Nat := 0
  /-- R463, R511; since when flow, DP and inlet are good, and since when flow and inlet are, ns; reset none. -/
  goodAt : Option Nat := none
  gateAt : Option Nat := none
  /-- R463; when the stop was declared, ns; reset 0. -/
  stopAt : Nat := 0
  deriving DecidableEq, Repr

/-- Leak sensors and the alarm input (R464). -/
structure Leaks where
  /-- 4 bits each; reset 0: sensors wet, sensors failed. -/
  wet : Nat := 0
  failed : Nat := 0
  /-- 1 bit; reset 0: the alarm contact is closed. -/
  alarm : Bool := false
  deriving DecidableEq, Repr

/-- The module side of the governor (R448, R449) and its measurements. -/
structure Gov where
  /-- R449; f_m as a fraction, and when it last changed, ns; reset 1. -/
  fm : Nat × Nat := (1, 1)
  fmAt : Nat := 0
  /-- R467; input power samples of the last second, newest first: time in ns and watts; reset none. -/
  samples : List (Nat × Nat) := []
  /-- R467 obj 0x4000:5; energy since power-on in units of 0.1 mJ; reset 0. -/
  energy : Nat := 0
  /-- R467 obj 0x4000:8; time with f_m below 1, in units of 100 µs; reset 0. -/
  below : Nat := 0
  /-- R467 obj 0x4000:6; 16 bits, mV; reset 0. -/
  bus : Nat := 0
  /-- R442; load lines in force: VLOG, VARR, VLNK in 0.05 mΩ; reset 4, 10, 2. -/
  loadLines : List Nat := [4, 10, 2]
  /-- R442; the values stored when the present POWER change was armed. -/
  armedLines : List Nat := [4, 10, 2]
  /-- R450; when capping last bound in a cluster, ns; reset none. -/
  capped : FMap Nat := []
  deriving DecidableEq, Repr

/-- A field test that runs on a die (R485–R487). -/
structure FieldTest where
  tile : Nat
  full : Bool
  /-- R487; it failed once and is being repeated; the part that differed. -/
  again : Bool := false
  part : Nat := 0
  /-- R488; the host asked for it, so that the policy does not abort it. -/
  asked : Bool := false
  deriving DecidableEq, Repr

/-! ### Power states, cards and firmware (R496–R525) -/

/-- What goes with the power state: the power-on order, an orderly stop, Sheepdog (R500–R512). -/
structure Life where
  /-- R500; step of the power-on order under way, 1–8; 0 none; reset 0; and when the power-on began, ns. -/
  step : Nat := 0
  startAt : Nat := 0
  /-- R501; the present step's overrun has been raised; reset 0. -/
  overran : Bool := false
  /-- R504; 0 no orderly stop, 1 steps run on, 2 preservation, 3 records; reset 0; and when it began, ns. -/
  stop : Nat := 0
  stopAt : Nat := 0
  /-- R497; where the stop ends: 1 STANDBY, 2 ATTENDED, 7 RECOVERY; reset 1. -/
  stopTo : Nat := 1
  /-- R505; partitions still to be saved; reset none. -/
  saving : List Nat := []
  /-- R504; since when the stop waits for its records, ns; reset 0. -/
  recAt : Nat := 0
  /-- R507; commits completed after the power loss was declared; reset 0. -/
  commits : Nat := 0
  /-- R511; a wake that waits for the gate: since when, ns, and whether it is a retention wake; reset none. -/
  wake : Option (Nat × Bool) := none
  /-- R510; causes that Sheepdog holds for the wake; reset none. -/
  held : List Cause := []
  /-- R88, R510; the module was woken for a refresh and returns to STANDBY; reset 0. -/
  refresh : Bool := false
  /-- R497; since when ATTENDED has had no open session, ns; reset 0. -/
  idleAt : Nat := 0
  /-- R87; since when the wafer is unpowered, ns of the running clock; reset 0. -/
  offAt : Nat := 0
  /-- R509; the latest five samples of each carrier sensor and each coolant sensor, newest first, 1/16 °C; reset none. -/
  carrier : List (List Int) := []
  cool : List (List Int) := []
  /-- R87, R509; highest storage temperature since the last stamp, 1/16 °C; reset none. -/
  hottest : Option Int := none
  /-- R506, R508; a power loss has been declared and no feed has returned since; reset 0. -/
  loss : Bool := false
  /-- R507; the shutdown stamp has still to be written; reset 0. -/
  stampDue : Bool := false
  /-- R525 obj 0x4040:5, :9, 0x4050:1; reset 0. -/
  lastMs : Nat := 0
  interval : Nat := 0
  lastHot : Int := 0
  /-- R87; when `interval` was reckoned, ns of the running clock; reset 0. -/
  intervalAt : Nat := 0
  /-- R429 obj 0x9000:4; reset 0. -/
  retained : Bool := false
  /-- R428; the retention registers are valid; reset 0. -/
  retention : Bool := false
  deriving DecidableEq, Repr

/-- A controller card (R491, R513). -/
structure Card where
  /-- R491 obj 0x7040:1; 0 ACTIVE, 1 STANDBY, 2 SYNCING, 3 PREPARED, 4 ABSENT, 5 FAULT. -/
  st : Nat
  /-- R491 obj 0x7040:3; percent; reset 100. -/
  mirror : Nat := 100
  /-- R513; boots of the control plane that failed in a row; both copies have failed; reset 0. -/
  fails : Nat := 0
  dead : Bool := false
  /-- R515, R523; the card runs the other copy of slot 2; reset 0. -/
  other : Bool := false
  /-- R514; the TAP's controller state and instruction register, its shift register, its boundary cells; reset Test-Logic-Reset with IDCODE. -/
  tap : Nat := 0
  ir : Nat := 2
  shift : List Bool := []
  /-- R514; the boundary cells as UPDATE-DR last left them, and the instruction register's shift stage; reset none. -/
  cells : List Bool := []
  irShift : List Bool := []
  deriving DecidableEq, Repr

/-- The firmware slots and the update (R515–R523). -/
structure Fw where
  /-- R519 obj 0x8000:1; reset IDLE 0: 1 RECEIVING, 2 VERIFIED, 3 ACTIVATING, 4 PENDING, 5 ROLLING_BACK. -/
  st : Nat := 0
  /-- R518; LENGTH, the bytes received and the ranges written; reset none. -/
  len : Nat := 0
  bytes : List Host.Cell := []
  ranges : List (Nat × Nat) := []
  /-- R516; RELEASE, SECVER and DICTVER of the package, and its slots; reset 0. -/
  release : Nat := 0
  secver : Nat := 0
  dictver : Nat := 0
  slots : List Nat := []
  /-- R520; slots still to switch, in order; slots switched, newest first; slots pending their next boot; reset none. -/
  todo : List Nat := []
  switched : List Nat := []
  boot : List Nat := []
  /-- R515 slot 4; link dies that still switch, in order; reset LD3 to LD0. -/
  lds : List Nat := [3, 2, 1, 0]
  /-- R515 slot 7; bricks that still switch, in order, and the one PREPARED for its switch; reset 0 to 4, none. -/
  bricks : List Nat := [0, 1, 2, 3, 4]
  held : Option Nat := none
  /-- R522; when the update became PENDING, ns of the running clock; reset 0. -/
  pendingAt : Nat := 0
  /-- R518 obj 0x8000:4; 8 bits; reset 0 (DESIGN CHOICE): the floor of the security version. -/
  floor : Nat := 0
  /-- R522; running and other release of each slot; reset 0 (DESIGN CHOICE). -/
  run : FMap Nat := []
  other : FMap Nat := []
  /-- R391, R521 obj 0x1000:6; 8 bits; reset 0x10: dictionary version spoken, and the one before an update. -/
  dict : Nat := 0x10
  oldDict : Nat := 0x10
  /-- R521; the frozen settings store; reset none. -/
  frozen : Option (FMap Nat) := none
  deriving DecidableEq, Repr

/-! ### The block -/

/-- The whole state of the block. -/
structure State where
  /-- The queue of commands that wait, first in, first out; reset empty. -/
  pending : List Instr := []
  /-- R141, R219; reset 0: reference ticks of 6.4 ns that have passed. -/
  refTicks : Nat := 0
  /-- R406; reset 0: the tick at which the module was powered on, from which module time counts. -/
  onTick : Nat := 0
  /-- R481; 32 bits; reset 0: power-ons since manufacture. -/
  powerOns : Nat := 0
  /-- R496 obj 0x4040:2; reset OFF. -/
  power : Power := .off
  /-- R384–R390; reset empty: numeric dictionary values in force that differ from their defaults. -/
  dict : FMap Nat := []
  /-- R390; reset empty: pending RWE values. -/
  pend : FMap Nat := []
  /-- R404–R408. -/
  attn : AttnSt := {}
  /-- R423–R428; reset empty (every source IDLE, condition 0). -/
  events : FMap EvSrc := []
  /-- R418; reset NONE. -/
  modeRec : ModeRec := {}
  /-- R15–R18; reset empty (all 16 partitions FREE). -/
  parts : FMap Part := []
  /-- R19, R175; queues by Q; reset empty. -/
  queues : FMap QueueSt := []
  /-- R194; priority lists whose CANCELs have all acted and of which some are not final, with their queue; an
  entry of `aux` is SEQ × 2^16 + the place of its result word, `begun` marks a list that ended on a refusal; reset none. -/
  cancelWait : List (Nat × RunList) := []
  /-- R21; by engine 2, 4 and 5: 1 + the partition whose command the engine dispatched last; reset 0: partition 0 comes first. -/
  arb : FMap Nat := []
  /-- R181; reply queue of each partition; reset empty. -/
  replyQ : FMap (List ReplyRec) := []
  /-- R182; debug queue of each partition; reset empty. -/
  debugQ : FMap (List DebugRec) := []
  /-- R183; synchronisation objects by partition × 1024 + number; 64 bits each; reset 0. -/
  sync : FMap Nat := []
  /-- R24; live sequences by partition × 2^32 + identifier; reset empty. -/
  seqs : FMap Seq := []
  /-- R283; STATE and REFCNT of a set, by partition × 2^40 + group × 2^32 + set; reset FREE, 0. -/
  kvSets : FMap (Nat × Nat) := []
  /-- R286; ring tags by tile × 2^40 + layer × 2^32 + slot × 2^20 + ring position: page number + 1; reset 0 (invalid). -/
  ringTags : FMap Nat := []
  /-- R287; page parts being read from HBM into a ring: partition, tile, layer, slot, page index, page; reset none. -/
  fills : List (Nat × Nat × Nat × Nat × Nat × Nat) := []
  /-- R51, R84; banks by tile address × 8 + array × 2 + bank; reset EMPTY. -/
  banks : FMap Bank := []
  /-- R47; physical bank of logical bank: tile address × 8 + array × 2 + logical bank; reset empty. -/
  bankMap : FMap Nat := []
  /-- R63, R64; latched junction temperature in 1/16 °C and band of each tile; reset DESIGN CHOICE 0 °C, band 0 (log 12). -/
  latch : FMap (Int × Nat) := []
  /-- R145; scratchpad bytes by tile address × 2^23 + offset; reset DESIGN CHOICE 0 (log 3). -/
  sp : List Host.Cell := []
  /-- R148, R149; condition of a 64-bit scratchpad word, by tile address × 2^20 + word: 1 one bad bit, 2 two or
  more bad bits, 3 poisoned; reset 0 (no error). -/
  spErr : FMap Nat := []
  /-- R99, R103; input vectors in scratchpads that their quantisation marked non-finite: tile address × 2^23 + offset, and bytes; reset none. -/
  nonfinVec : FMap Nat := []
  /-- R151; accumulator words by tile address × 2^17 + row × 1024 + word; reset DESIGN CHOICE 0 (log 3). -/
  acc : FMap W32 := []
  /-- R101, R151; 16-bit tags by tile address × 128 + row; reset VERSION 0b01, the rest 0 (0x4000). -/
  accTag : FMap Nat := []
  /-- R45, R151; pending marks by tile address × 128 + row: results still to be written; reset 0. -/
  accPend : FMap Nat := []
  /-- R151; condition of a 64-bit accumulator pair by tile address × 2^16 + pair: 1 or 2 as spErr; reset 0. -/
  accErr : FMap Nat := []
  /-- R328, R332; HBM bytes by stack × 36,000,000,000 + byte of the stack; reset DESIGN CHOICE 0 (log 3). -/
  hbm : List Host.Cell := []
  /-- R345; poisoned HBM sectors of 32 bytes, by stack × 36,000,000,000 + byte of the sector; reset none. -/
  hbmErr : FMap Nat := []
  /-- R137–R161; running tile command lists by tile address; reset none. -/
  tiles : FMap TileRun := []
  /-- R443; requests for VPGM that wait, oldest first: whether the placer's, and the banks; reset none. -/
  vpgmWait : List (Bool × List Nat) := []
  /-- R444; clusters whose VPGM is switched off; reset none. -/
  vpgmLost : List Nat := []
  /-- R84; tile powered time of a cluster's tiles in ns up to when its VLOG last came on; reset 0. -/
  pwrBase : FMap Nat := []
  /-- R84; when a cluster's VLOG came on, by the model's running clock; reset none (VLOG off). -/
  pwrSince : FMap Nat := []
  /-- R472; check counter of each array, by tile × 64 + array; reset 0. -/
  checkCount : FMap Nat := []
  /-- R475; captures held in the tiles' latches, by tile address; reset none. -/
  capLatch : FMap Capture := []
  /-- R150; when the scrub pass of a tile began, ns of the running clock; reset none. -/
  scrubAt : FMap Nat := []
  /-- R475; the capture store, at most 64, oldest first; reset empty. -/
  captures : List Capture := []
  /-- R475; 32 bits; reset 0: number of the latest capture since power-on. -/
  capNo : Nat := 0
  /-- R477; verdict records by capture number, newest first, at most 256; 256 bits each; reset none. -/
  verdicts : FMap Nat := []
  /-- R159; SENDs in flight, oldest first; reset none. -/
  flights : List Flight := []
  /-- R232–R234; reduction operands and results in flight; reset none. -/
  rflights : List RFlight := []
  /-- R232; operands held in the slots of reduction units; reset none. -/
  rslots : List RFlight := []
  /-- R454, R455; readings in 1/16 °C of the two sensors of each hot spot, −640 for a failed one; reset DESIGN CHOICE 0 (log 12). -/
  hot : FMap (Int × Int) := []
  /-- R458; hot spots whose regions are switched off for heat; reset none. -/
  heatOff : List Nat := []
  /-- R445; regulator blocks by cluster number: 0 SERVICE, 1 DEGRADED, 2 LOST, 3 RESTARTING; reset SERVICE. -/
  blockSt : FMap Nat := []
  /-- R434; feeds A (0) and B (1); reset as Feed. -/
  feeds : FMap Feed := []
  /-- R436; brick slots 0–4; reset as Brick. -/
  bricks : FMap Brick := []
  /-- R444; regulator blocks by cluster; reset as Block. -/
  blocks : FMap Block := []
  /-- R268; since when a cluster's block is lost, by cluster, and a tile's router failed, by 65536 + tile, ns of the running clock; reset none. -/
  lostAt : FMap Nat := []
  /-- R446; clusters whose routers have failed for want of a tie; reset none. -/
  tieLost : List Nat := []
  /-- R454; hot spots and regions by number; reset as HotSpot. -/
  spots : FMap HotSpot := []
  /-- R326, R459; stacks by number; reset as Stack. -/
  stackSt : FMap Stack := []
  /-- R453, R461–R463. -/
  coolant : Coolant := {}
  /-- R464. -/
  leaks : Leaks := {}
  /-- R448, R449. -/
  gov : Gov := {}
  /-- R219; 2 bits; reset 0: references that have failed, LD0's and LD2's. -/
  refDown : Nat := 0
  /-- R74; some region that holds an IN_SERVICE bank has latched T below 20 °C, and not every one is back; reset 0. -/
  coldRaised : Bool := false
  /-- R231; link dies out of service; reset none. -/
  ldDown : List Nat := []
  /-- R223; failed retries in a row of the flit on a router's port, by tile × 8 + port; reset 0. -/
  retries : FMap Nat := []
  /-- R485; the field test of each die; reset none. -/
  ftests : FMap FieldTest := []
  /-- R485; when a tile's latest light and full test began, ns, and the tile tested last on each die; reset none. -/
  ftLight : FMap Nat := []
  ftFull : FMap Nat := []
  ftLast : FMap Nat := []
  /-- R496–R512. -/
  life : Life := {}
  /-- R491, R513; cards 0 and 1; reset card 0 ACTIVE and card 1 STANDBY (DESIGN CHOICE). -/
  cards : FMap Card := []
  /-- R515–R523. -/
  fw : Fw := {}
  /-- R480–R484; reset empty. -/
  kennel : Kennel := {}
  /-- R512; 1 bit; reset 0: the real-time clock is valid. -/
  rtcValid : Bool := false
  /-- R512; seconds since 1970 at which the clock was set; reset 0. -/
  rtcSet : Nat := 0
  /-- R512; the tick at which the clock was set; reset 0. -/
  rtcTick : Nat := 0
  /-- R403; committed images by IMAGE_ID; reset none. -/
  images : FMap StoreImg := []
  /-- R403; open uploads, at most 4; reset none. -/
  uploads : List Upload := []
  /-- R341; staged blocks: partition, base address of the slot in space 2, BLOCK_ID; reset none. -/
  staged : List (Nat × Nat × Nat) := []
  /-- R245; the placement queue, running job first; reset empty. -/
  jobs : List PlaceJob := []
  /-- R23, R358; sessions by identifier; reset none. -/
  sessions : FMap Session := []
  /-- R358; identifiers of closed sessions and when they closed, ns; reset none. -/
  closed : FMap Nat := []
  /-- R352, R357; frames that ports have received, oldest first; reset none. -/
  rx : List RxFrame := []
  /-- R351; ports and their cages by number; reset as Port. -/
  ports : FMap Port := []
  /-- R365; windows by partition × 256 + number; reset as Window. -/
  windows : FMap Window := []
  /-- R366, R367; accepted remote writes, oldest first; reset none. -/
  inWrites : List InWrite := []
  /-- R200, R370; remote writes that await an answer, oldest first, and the next tag; reset none, 0. -/
  outWrites : List OutWrite := []
  nextTag : Nat := 0
  /-- R369; count n of an export by partition × 64 + number; reset 0. -/
  exports : FMap Nat := []
  /-- R371; latest announcement by (partition × 16 + rank) × 256 + window: epoch × 4 + state; reset none. -/
  announced : FMap Nat := []
  /-- R374–R380; by partition; reset as Group. -/
  groups : FMap Group := []
  /-- R181; completion records posted; reset 0. -/
  replyNo : Nat := 0
  /-- The model's own record of what has left the block, newest first; reset empty. -/
  out : List OutMsg := []
  deriving DecidableEq, Repr

/-- The block right after reset. -/
def State.reset : State := {}

end Sys2Proof.Machine
end

