-- ==== Sys2Proof/Machine/Dict.lean ====
section
/-! DEFINITION. The object dictionary's descriptors (R384–R391, R529) and the values of its numeric
parameters: in force, pending, and the device's own counters. -/
namespace Sys2Proof.Machine

/-- Access codes of R386. -/
inductive Access where
  | ro | rw | wo | rwp | rwe
  deriving DecidableEq, Repr

/-- A parameter's descriptor (R388). -/
structure ObjDesc where
  /-- R385 type code. -/
  typ : Nat
  acc : Access
  dflt : Nat := 0
  min : Nat := 0
  max : Nat := 0
  enable : Bool := false
  selector : Bool := false
  /-- The selector the parameter depends on, index × 256 + element. -/
  sel : Option Nat := none
  deriving DecidableEq, Repr

/-- Length in bytes of a numeric type code (R385). -/
def typLen : Nat → Nat
  | 0 => 1 | 1 => 2 | 2 => 4 | 3 => 8 | 4 => 1 | 5 => 2 | 6 => 4 | 7 => 8 | 8 => 4 | 9 => 2 | _ => 0

/-- Greatest value of an unsigned numeric type. -/
def typMax (t : Nat) : Nat := 2 ^ (8 * typLen t) - 1

end Sys2Proof.Machine
end

