-- ==== Sys2Proof/Machine/Ops.lean ====
section
/-! DEFINITION. The named operations over State that the families share: module time, dictionary values,
attention, event conditions, synchronisation objects, queues and records. -/
namespace Sys2Proof.Machine

/-! ### Time, parameters -/

/-- R512: the real-time clock in seconds, 0 while it is not valid. -/
def rtcNow (s : State) : Nat :=
  if s.rtcValid then s.rtcSet + (s.refTicks - s.rtcTick) * 64 / 10 / 1000000000 else 0

/-- R141, R219: module time in ns since power-on; a reference tick lasts 6.4 ns. -/
def nowNs (s : State) : Nat := (s.refTicks - s.onTick) * 64 / 10

/-- The dictionary key of element `el` of index `idx` for selected unit `u`. -/
def objKey (idx el u : Nat) : Nat := (idx * 256 + el) * 65536 + u

/-- Index of a partition-scoped family `base` (0x51, 0x55, …) for partition `p` (R384). -/
def pidx (base p : Nat) : Nat := base * 256 + p

/-- The value in force of a stored numeric parameter with default `d`. -/
def objD (d : Nat) (s : State) (idx el : Nat) (u : Nat := 0) : Nat := FMap.get d s.dict (objKey idx el u)

/-- Stores a value in force. -/
def setObj (s : State) (idx el v : Nat) (u : Nat := 0) : State :=
  { s with dict := FMap.set s.dict (objKey idx el u) v }

/-- Adds to a counter of the dictionary, modulo its width. -/
def addObj (s : State) (idx el n : Nat) (u : Nat := 0) (w : Nat := 64) : State :=
  setObj s idx el ((objD 0 s idx el u + n) % 2 ^ w) u

/-! ### Rights (R23, R387, R396) -/

/-- The serial console, which holds every right (R397), as a session number outside the 16-bit SSIDs. -/
def console : Nat := 65536

def session (s : State) (n : Nat) : Session := FMap.get {} s.sessions n

/-- R396: bit `b` of the rights record that the session received at its open. -/
def rightBit (s : State) (ses b : Nat) : Bool :=
  ses == console || (2 ≤ (session s ses).st && bitAt (session s ses).rights b)

def hasMread (s : State) (ses : Nat) : Bool := rightBit s ses 118
def hasMconfig (s : State) (ses : Nat) : Bool := rightBit s ses 117
def hasFirmware (s : State) (ses : Nat) : Bool := rightBit s ses 116
def hasDiag (s : State) (ses : Nat) : Bool := rightBit s ses 115
def hasSubmit (s : State) (ses p : Nat) : Bool := rightBit s ses (64 + 3 * p)
def hasRead (s : State) (ses p : Nat) : Bool := rightBit s ses (65 + 3 * p)
def hasConfigure (s : State) (ses p : Nat) : Bool := rightBit s ses (66 + 3 * p)

/-- R181: the open sessions that hold READ on a partition. -/
def readers (s : State) (p : Nat) : List Nat :=
  (s.sessions.filter fun e => (e.2.st == 2) && (e.2.kind != 2) && bitAt e.2.rights (65 + 3 * p)).map (·.1)

/-! ### Attention (R404–R408) -/

/-- R405: the class of a reason code. -/
def classOf (reason : Nat) : Nat := if reason / 256 = 1 then 2 else reason / 256

/-- R406, R408: raises a cause; the log keeps the newest 256. -/
def raiseNow (s : State) (c : Cause) : State :=
  let n := s.attn.newest + 1
  let c := { c with cause := n, time := nowNs s }
  let k := match c.part with
    | none => 0
    | some p => p + 1
  { s with attn := { s.attn with
      log := (c :: s.attn.log).take 256
      newest := n
      counts := FMap.set s.attn.counts k (FMap.get 0 s.attn.counts k + 1)
      latest := FMap.set s.attn.latest k c } }

/-- R406, R510: raises a cause; while the cards sleep Sheepdog holds it for the wake, with the real-time clock in DETAIL. -/
def raise (s : State) (c : Cause) : State :=
  if s.power = .standby then { s with life := { s.life with held := s.life.held ++ [{ c with detail := rtcNow s }] } } else raiseNow s c

/-- A cause with a reason code, whose class is the code's (R405, R546). -/
def raiseRc (s : State) (sev reason : Nat) (part : Option Nat := none) (ukind unit : Nat := 0) (detail : Nat := 0) : State :=
  raise s { sev := sev, cls := classOf reason, part := part, reason := reason, unitKind := ukind, unit := unit, detail := detail }

/-- R407: the scopes (0 module, 1 + p partition) that a session's credential sees. -/
def visibleScopes (s : State) (ses : Nat) : List Nat :=
  (if hasMread s ses then [0] else []) ++ ((List.range 16).filter (hasRead s ses)).map (· + 1)

/-- R11, R407: the status field over a set of scopes, with acknowledgement point `ack`. -/
def statusOf (s : State) (scopes : List Nat) (ack : Nat) : Nat :=
  let n := (scopes.map fun k => FMap.get 0 s.attn.counts k).foldl (· + ·) 0
  let newest := scopes.foldl (fun (b : Cause) k =>
    let c := FMap.get {} s.attn.latest k
    if b.cause < c.cause then c else b) {}
  put (b2n (decide (ack < newest.cause))) 1 15 + put newest.sev 3 12 + put newest.cls 4 8 + n % 256

/-- R407: the status field that a session sees; on a link session, of its local partition alone. -/
def statusFor (s : State) (ses : Nat) : Nat :=
  if ses == console then statusOf s (List.range 17) (FMap.get 0 s.attn.acks 0)
  else if (session s ses).kind = 2 then statusOf s [(session s ses).lpart + 1] (FMap.get 0 s.attn.acks (session s ses).cred)
  else statusOf s (visibleScopes s ses) (FMap.get 0 s.attn.acks (session s ses).cred)

/-! ### Ports and channels (R351, R352, R356, R362) -/

def port (s : State) (p : Nat) : Port := FMap.get {} s.ports p
def setPort (s : State) (p : Nat) (x : Port) : State := { s with ports := FMap.set s.ports p x }

/-- R351 obj 0x6010:2: the state of an Ethernet port; a management port (48, 49) is 0 disabled, 1 without link, 3 up. -/
def portState (s : State) (p : Nat) : Nat :=
  let x := port s p
  if p < 48 then
    if objD 1 s 0x6010 1 p = 0 then 0
    else if x.fault then 4
    else if !x.present then 1
    else if x.link && !x.low && !s.ldDown.contains (p / 12) then 3 else 2
  else if objD 1 s 0x2010 1 (p - 48) = 0 then 0
  else if x.link then 3 else 1

def portUp (s : State) (p : Nat) : Bool := portState s p == 3

/-- R374, R413: a governed value of a partition: as its running enable check judges it, else the value in force. -/
def govD (d : Nat) (s : State) (p idx el : Nat) : Nat :=
  match (FMap.get {} s.parts p).check with
  | none => objD d s idx el
  | some c => (FMap.find c.snapshot (objKey idx el 0)).getD (objD d s idx el)

/-- R373: the entry of rank `r` in a partition's peer table. -/
def peerEntry (s : State) (p r : Nat) : Nat := govD 0 s p (pidx 0x63 p) 14 / 2 ^ (256 * r) % 2 ^ 256

/-- R351: the port a session sends on: a host session's newest, a link session's lowest permitted one that is UP. -/
def sendPort (s : State) (ses : Nat) : Option Nat :=
  let x := session s ses
  if x.kind = 2 then (List.range 48).find? fun p => bitAt (peerEntry s x.lpart x.rank) p && portUp s p
  else if portUp s x.port then some x.port else none

/-- R356 obj 0x6000:8: priority of a channel. -/
def chanPri (s : State) (c : Nat) : Nat := fld (objD 0x00464445 s 0x6000 8) (4 * c + 3) (4 * c)

/-- R352: the session's port is up and the channel's priority is not paused on it. -/
def mayTransmit (s : State) (ses c : Nat) : Bool :=
  match sendPort s ses with
  | none => false
  | some p => !(bitAt (objD 0 s 0x6010 7 p) (chanPri s c) && (FMap.find (port s p).paused (chanPri s c)).isSome)

def chan (s : State) (ses c : Nat) : Chan := FMap.get {} (session s ses).chans c
def setSession (s : State) (ses : Nat) (x : Session) : State := { s with sessions := FMap.set s.sessions ses x }
def updSession (s : State) (ses : Nat) (f : Session → Session) : State := setSession s ses (f (session s ses))
def setChan (s : State) (ses c : Nat) (x : Chan) : State := updSession s ses fun y => { y with chans := FMap.set y.chans c x }

/-- R362: serial comparison of sequence numbers. -/
def serLt (a b : Nat) : Bool :=
  let d := (b + 2 ^ 32 - a % 2 ^ 32) % 2 ^ 32
  decide (0 < d) && decide (d < 2 ^ 31)

/-- R362: the receiver's default credit. -/
def defCredit (c : Nat) : Nat := if c = 1 ∨ c = 5 then 64 else 16

/-! ### Frames sent (R352–R354) -/

/-- R354, R378: GEPOCH of the frames of a session: the sender's group epoch on a group link session. -/
def sentEpoch (s : State) (ses : Nat) : Nat :=
  let x := session s ses
  if x.kind = 2 ∧ x.group ≠ 0 then (FMap.get {} s.groups x.lpart).epoch else 0

/-- R354: the header of a frame that the device sends for a session. DESIGN CHOICE (log 117): ACKNOW is 0, and a session frame, which has
no channel of its own, carries CHAN 0 with that channel's ACK and CREDIT. -/
def frameHdr (s : State) (ses dsid typ c seq reason len : Nat) (first last : Bool) : Nat :=
  put 1 4 252 + put (session s ses).vmin 4 248 + put typ 8 240 + put (b2n first) 1 239 + put (b2n last) 1 238 + put c 3 232 + put dsid 16 216
    + put ses 16 200 + put seq 32 168 + put (chan s ses c).rxNext 32 136 + put (defCredit c) 16 120 + put (statusFor s ses) 16 104
    + put reason 16 88 + put len 14 74 + put (sentEpoch s ses) 16 58

/-- R352: the tag of a frame on a port: with flow control enabled there, every frame is tagged. -/
def frameTag (s : State) (p pri : Nat) : Option Nat :=
  if p < 48 ∧ objD 0 s 0x6010 7 p ≠ 0 then some (put pri 3 13 + put (objD 0 s 0x6010 6 p) 12 0) else none

/-- R352–R354, R392: a frame of a session, or of an OPEN that gets none, on a port: its tag, its encapsulation and its header. -/
def wire (s : State) (p : Nat) (udp : Bool) (addr ses dsid typ c seq reason len : Nat) (first last : Bool) : Wire :=
  let pri := chanPri s c
  { port := p, tag := frameTag s p pri
    etherType := if udp then 0x86DD else objD 0x88B5 s 0x6000 2
    ip := if udp then some
        { hop := 64, tclass := 8 * pri * 4, flow := (ses ^^^ (dsid * 16)) % 2 ^ 20, dst := addr
          dport := if 48 ≤ p then objD 49353 s 0x2010 7 (p - 48) else objD 49352 s 0x6000 3, sport := 49152 + ses % 16384 }
      else none
    hdr := frameHdr s ses dsid typ c seq reason len first last }

/-- R355, R367: the type and the reason code of a segment's frame. -/
def segType : OutMsg → Nat × Nat
  | .write .. => (0x20, 0)
  | .wack _ r _ => if r = 0 then (0x21, 0) else (0x22, r)
  | .contrib .. => (0x30, 0)
  | _ => (0x10, 0)

/-- R362: a segment leaves on its session's port. -/
def sendSeg (s : State) (ses c : Nat) (g : Seg) : OutMsg :=
  let x := session s ses
  .segment ses c g.seq (wire s ((sendPort s ses).getD 0) x.udp x.addr ses x.peer (segType g.msg).1 c g.seq (segType g.msg).2 g.len g.first g.last)

/-- R362: segments leave in order. -/
def sendSegs (s : State) (ses c : Nat) (l : List Seg) : State := { s with out := (l.map (sendSeg s ses c)).reverse ++ s.out }

/-- R353–R355: a session frame leaves on a port in the session's encapsulation. -/
def sendFrame (s : State) (p typ ses dsid reason : Nat) (payload : List Byte) : State :=
  let x := session s ses
  { s with out := .frame (wire s p x.udp x.addr ses dsid typ 0 0 reason payload.length false false) payload :: s.out }

/-- R362: sends the segments of a channel that its credit admits; a segment acknowledges what is due on its channel. -/
def pump (s : State) (ses c : Nat) : State :=
  let x := chan s ses c
  let lim := x.txLimit.getD (defCredit c)
  let go := x.segs.filter fun g => !serLt g.seq x.txSent && serLt g.seq lim
  if go.isEmpty || !mayTransmit s ses c then s
  else
    let s := setChan s ses c { x with
      txSent := (x.txSent + go.length) % 2 ^ 32, due := 0, timerAt := some (x.timerAt.getD (nowNs s)) }
    let s := updSession s ses fun y => { y with lastTx := nowNs s }
    sendSegs s ses c go

/-- R354, R394: the maximum payload of a session. -/
def maxPayload (s : State) (ses : Nat) : Nat := if (session s ses).kind = 3 then 1024 else objD 8192 s 0x6000 4

/-- R364: KIND and Q of a channel message that the device sends. DEDUCED: a record's Q is the reply or the debug queue of its partition (R19). -/
def msgKind : OutMsg → Nat × Nat
  | .reply r => if r.op = 0 then (2, r.queue) else (6, 0)
  | .record p _ _ _ => (3, 8 * p + 6)
  | .debug p _ _ _ => (4, 8 * p + 7)
  | .cascade .. => (7, 0)
  | _ => (0, 0)
/-- R364: the 64-bit prefix of a message whose length, the prefix included, is `n`; a write, its answer and a contribution have none. -/
def segPrefix (m : OutMsg) (n : Nat) : Nat :=
  if (msgKind m).1 = 0 then 0 else put (msgKind m).1 8 56 + put (msgKind m).2 7 49 + put (n - 8) 32 0

/-- R362, R364: cuts a message of `n` bytes, its prefix included, into segments of a channel. -/
def enqueue (s : State) (m : OutMsg) (e : Nat × Nat × Nat) : State :=
  let ses := e.1
  let c := e.2.1
  let n := e.2.2
  if (session s ses).st ≠ 2 then s
  else
    let x := chan s ses c
    let mx := maxPayload s ses
    let k := Nat.max 1 (ceilDiv n mx)
    let segs := (List.range k).map fun i =>
      { seq := (x.txNext + i) % 2 ^ 32, first := i == 0, last := i + 1 == k, msg := m, off := i * mx, len := Nat.min mx (n - i * mx)
        head := if i = 0 then segPrefix m n else 0 : Seg }
    pump (setChan s ses c { x with txNext := (x.txNext + k) % 2 ^ 32, segs := x.segs ++ segs }) ses c

/-- The sessions and channels on which a message travels, with its length in bytes, the prefix included (R356, R364, R366, R372). -/
def routes : OutMsg → List (Nat × Nat × Nat)
  | .reply r => if r.session = console then [] else
      [(r.session, if r.op = 0 then 1 else 0, 24 + (r.values.map fun v => 4 + v.2.1).foldl (· + ·) 0)]
  | .record _ _ l ws => l.map fun ses => (ses, 2, 8 + 32 * ws.length)
  | .debug _ l _ r => l.map fun ses => (ses, 3, 12 + r.body.length)
  | .cascade ses k body => [(ses, if k = 10 ∨ k = 11 then 4 else 0, 8 + 8 * body.length)]
  | .write ses _ _ _ _ d => [(ses, 5, 16 + d.length)]
  | .wack ses _ _ => [(ses, 5, 8)]
  | .contrib ses _ _ topk _ d => [(ses, 5, 16 + (if topk then 520 else 4 * d.length))]
  | _ => []

/-- Forms a message: it is noted as having left, and its segments join their channels. -/
def emit (s : State) (m : OutMsg) : State := (routes m).foldl (fun s e => enqueue s m e) { s with out := m :: s.out }

/-- R398: sends a reply; its STATUS is that of the receiving session (R407). -/
def reply (s : State) (r : Reply) : State := emit s (.reply { r with status := statusFor s r.session })

/-! ### Event conditions (R423–R426) -/

def evSrc (s : State) (n : Nat) : EvSrc := FMap.get {} s.events n

/-- R424: the configuration word of a source; its default has EN 1, PRIO 8, SEVERITY 1. -/
def evCfg (s : State) (n : Nat) : Nat :=
  if n < 256 then objD 0x8810 s 0x9100 n else objD 0x8810 s 0x9101 (n - 256)

def evEn (s : State) (n : Nat) : Bool := bitAt (evCfg s n) 15
def evSense (s : State) (n : Nat) : Nat := fld (evCfg s n) 14 13
def evTarget (s : State) (n : Nat) : Nat := fld (evCfg s n) 12 12
def evPrio (s : State) (n : Nat) : Nat := fld (evCfg s n) 11 8
def evWake (s : State) (n : Nat) : Bool := bitAt (evCfg s n) 7

/-- R426: sets the condition of a source; a selected edge while EN is 1 waits to be sensed. -/
def setCond (s : State) (n : Nat) (b : Bool) : State :=
  let e := evSrc s n
  let sel := evSense s n
  let hit := evEn s n && ((!e.raw && b && (sel == 1 || sel == 3)) || (e.raw && !b && (sel == 2 || sel == 3)))
  { s with events := FMap.set s.events n { e with raw := b, edge := e.edge || hit } }

/-- R462, R497, R504: the tiles compute: in READY, and in STOPPING while running steps go on to their boundaries; not in a hold. -/
def computes (s : State) : Bool := s.power == .ready || (s.power == .stopping && s.coolant.st == 0)

/-! ### Partitions -/

def part (s : State) (p : Nat) : Part := FMap.get {} s.parts p

def setPart (s : State) (p : Nat) (x : Part) : State := { s with parts := FMap.set s.parts p x }

def updPart (s : State) (p : Nat) (f : Part → Part) : State := setPart s p (f (part s p))

/-- Puts a partition into a state; sources 432–447 show FAULTED (R423). -/
def setPState (s : State) (p : Nat) (st : PState) : State :=
  setCond (updPart s p fun x => { x with st := st }) (432 + p) (st == .faulted)

/-- The partition runs a step. -/
def inStep (s : State) (p : Nat) : Bool := (part s p).st == .stepping || (part s p).st == .stalled

/-! ### Sequences -/

def seqKey (p q : Nat) : Nat := p * 2 ^ 32 + q
def seqOf (s : State) (p q : Nat) : Option Seq := FMap.find s.seqs (seqKey p q)
def setSeq (s : State) (p q : Nat) (x : Seq) : State := { s with seqs := FMap.set s.seqs (seqKey p q) x }
def delSeq (s : State) (p q : Nat) : State := { s with seqs := FMap.del s.seqs (seqKey p q) }
/-- The live sequences of a partition (R15). -/
def liveCount (s : State) (p : Nat) : Nat := (s.seqs.filter fun e => e.1 / 2 ^ 32 == p).length
/-- The slot of the running step that carries a sequence (R25). -/
def boundSlot (s : State) (p q : Nat) : Option SlotB :=
  match (part s p).step with
  | none => none
  | some r => r.slots.find? fun b => b.seq == q

/-! ### Synchronisation objects (R183–R185) -/

def syncGet (s : State) (p n : Nat) : Nat := FMap.get 0 s.sync (p * 1024 + n)
/-- R184: a value written to an object releases the tiles that a SYNC wait on it holds. -/
def releaseTiles (l : FMap TileRun) (p n v : Nat) : FMap TileRun :=
  l.map fun e => match e.2.syncHeld with
    | some (o, x) => if e.2.part = p ∧ o = n ∧ x ≤ v then (e.1, { e.2 with syncHeld := none, syncFree := true }) else e
    | none => e
/-- R184: writes an object. -/
def syncPut (s : State) (p n v : Nat) : State :=
  { s with sync := FMap.put 0 s.sync (p * 1024 + n) v, tiles := releaseTiles s.tiles p n v }
/-- R183: a partition owns objects 0 to NSYNC − 1. -/
def ownsSync (s : State) (p n : Nat) : Bool := decide (n < (part s p).place.nsync)
/-- R183: the sum of a signal, none where it would pass 2^64 − 1. -/
def syncSum (s : State) (p n a : Nat) : Option Nat :=
  if syncGet s p n + a < 2 ^ 64 then some (syncGet s p n + a) else none

/-! ### Debug queue (R182) -/

/-- R182: the 32-bit envelope of a record: its type and its length in units of 16 bytes. -/
def debugEnvelope (r : DebugRec) : Nat :=
  put r.typ 8 24 + put (r.body.length / 16) 8 16 + put (r.body.length / 16 / 256) 8 8

/-- R182: a session's debug channel has nothing left to transmit. -/
def debugIdle (s : State) (ses : Nat) : Bool := (chan s ses 3).txSent == (chan s ses 3).txNext

/-- R182: sends the oldest waiting record of a partition to the sessions that can take it; it leaves the queue once it has been sent to all. -/
def flushOne (s : State) (p : Nat) : State :=
  match FMap.get [] s.debugQ p with
  | [] => s
  | r :: t =>
    let now := r.toSend.filter (debugIdle s)
    let left := r.toSend.filter fun ses => !now.contains ses
    if now.isEmpty then s
    else
      let r := { r with toSend := [] }
      emit { s with debugQ := FMap.set s.debugQ p (if left.isEmpty then t else { r with toSend := left } :: t) } (.debug p now (debugEnvelope r) r)

/-- R182: sends the records of a partition that can be sent, oldest first. -/
def flushDebug (s : State) (p : Nat) : Nat → State
  | 0 => s
  | n + 1 =>
    let t := flushOne s p
    if (FMap.get [] t.debugQ p).length < (FMap.get [] s.debugQ p).length then flushDebug t p n else t

/-- R182: puts a debug record into the queue; one of the 256 places is kept free for a fault record. -/
def queueDebug (s : State) (p : Nat) (r : DebugRec) : State :=
  let q := FMap.get [] s.debugQ p
  if r.typ == 1 then
    if q.length < 255 then { s with debugQ := FMap.set s.debugQ p (q ++ [r]) }
    else
      match q.find? (fun x => x.typ != 1) with
      | some v => addObj { s with debugQ := FMap.set s.debugQ p (q.erase v ++ [r]) } (pidx 0x51 p) 27 1
      | none =>
        if q.length < 256 then { s with debugQ := FMap.set s.debugQ p (q ++ [r]) }
        else addObj { s with debugQ := FMap.set s.debugQ p (q.drop 1 ++ [r]) } (pidx 0x51 p) 27 1
  else if q.length < 255 then { s with debugQ := FMap.set s.debugQ p (q ++ [r]) }
  else addObj s (pidx 0x51 p) 27 1

/-- R182: posts a debug record; it leaves the queue once it has been sent to every session that holds READ. -/
def postDebug (s : State) (p : Nat) (r : DebugRec) : State :=
  flushDebug (queueDebug s p { r with toSend := readers s p }) p 256

/-- R182: what the debug queues of all partitions can send. -/
def flushAll (s : State) : State := (List.range 16).foldl (fun s p => flushDebug s p 256) s

/-- R206: the 32 bytes of a fault record. -/
def faultRecord (src tile off prog unit reason addr step : Nat) : List Byte :=
  leBytes 32 (put 1 8 248 + put src 8 240 + put tile 16 224 + put off 16 208 + put prog 4 204 + put unit 4 200
    + put reason 16 184 + put addr 48 136 + put step 64 64)

/-! ### Queues and completion records (R177–R181) -/

/-- R19: the partition of a queue; numbers from 128 are the partitions' priority lists (R194). -/
def qPart (q : Nat) : Nat := q / 8 % 16

def queue (s : State) (q : Nat) : QueueSt := FMap.get {} s.queues q
def setQueue (s : State) (q : Nat) (x : QueueSt) : State := { s with queues := FMap.set s.queues q x }

/-- R173: fields of a list header. -/
def hdrPart (h : Nat) : Nat := fld h 247 244
def hdrEngine (h : Nat) : Nat := fld h 243 241
def hdrPriority (h : Nat) : Bool := bitAt h 240
def hdrSigAlways (h : Nat) : Bool := bitAt h 239
def hdrListId (h : Nat) : Nat := fld h 223 192
def hdrNwords (h : Nat) : Nat := fld h 191 176
def hdrDoneObj (h : Nat) : Nat := fld h 175 166
def hdrDoneEn (h : Nat) : Bool := bitAt h 165
def hdrDoneAdd (h : Nat) : Nat := fld h 159 96

/-- Word `i` of a list, header 0; zero beyond its end. -/
def HostList.word (l : HostList) (i : Nat) : Nat := (l.words.getD i 0).toNat
def HostList.hdr (l : HostList) : Nat := l.word 0

/-- R174: fields of a command word. -/
def cmdOpcode (w : Nat) : Nat := fld w 255 248
def cmdNpay (w : Nat) : Nat := fld w 247 236

/-- R180: the header word of a completion record. -/
def completionWord (s : State) (p e : Nat) (listId reason off nres step : Nat) : W256 :=
  BitVec.ofNat 256 (put 0x10 8 248 + put p 4 244 + put e 3 241
    + put (statusOf s [0, p + 1] 0) 16 224 + put listId 32 192 + put reason 16 176 + put off 16 160
    + put nres 12 148 + put step 64 64 + put (nowNs s) 64 0)

/-- R181: posts a completion record. While no session holds READ the queue keeps the newest 1,024. -/
def postReply (s : State) (p : Nat) (ws : List W256) : State :=
  let rs := readers s p
  let no := s.replyNo
  let q := FMap.get [] s.replyQ p ++ [{ words := ws, waitingFor := rs, no := no }]
  let s := { s with replyNo := no + 1 }
  match rs with
  | [] => { s with replyQ := FMap.set s.replyQ p (if 1024 < q.length then q.drop 1 else q) }
  | _ => emit { s with replyQ := FMap.set s.replyQ p q } (.record p no rs ws)

/-- R181: 1,024 records await acknowledgement, so every queue of the partition holds dispatch. -/
def replyFull (s : State) (p : Nat) : Bool :=
  decide (1024 ≤ ((FMap.get [] s.replyQ p).filter fun r => !r.waitingFor.isEmpty).length)

/-- R179, R183: the done signal; one to an object that the partition does not own is not made, and one that would overflow is not made and
raises a cause. -/
def doneSignal (s : State) (p h : Nat) : State :=
  if !ownsSync s p (hdrDoneObj h) then s
  else
    match syncSum s p (hdrDoneObj h) (hdrDoneAdd h) with
    | some v => syncPut s p (hdrDoneObj h) v
    | none => raiseRc s 3 0x0107 (some p)

/-- R177–R179: ends a list that queue `q` ran: its record, with its result words, and then its done signal. -/
def endRun (s : State) (q : Nat) (r : RunList) (reason off : Nat) (step : Option Nat := none) : State :=
  let p := qPart q
  let h := r.lst.hdr
  let s := postReply s p (completionWord s p (q % 8) (hdrListId h) reason off r.results.length
    (step.getD (part s p).stepCounter) :: r.results)
  if hdrDoneEn h && (reason == 0 || hdrSigAlways h) then doneSignal s p h else s

/-- R177–R179: ends the list running on queue `q` with a reason and command offset. -/
def endList (s : State) (q reason off : Nat) (step : Option Nat := none) : State :=
  match (queue s q).running with
  | none => s
  | some r => endRun (setQueue s q { queue s q with running := none }) q r reason off step

/-- R177: the command reached completes with result words; the list goes on or ends. -/
def advance (s : State) (q : Nat) (res : List W256) (step : Option Nat := none) : State :=
  match (queue s q).running with
  | none => s
  | some r =>
    let pos := r.pos + 1 + cmdNpay (r.lst.word r.pos)
    let r := { r with pos := pos, begun := false, results := r.results ++ res, aux := [] }
    let s := setQueue s q { queue s q with running := some r }
    if hdrNwords r.lst.hdr < pos then endList s q 0 0 step else s

/-- R184: WAITs of a partition's queues 0–5 whose object has reached their value complete. -/
def releaseOne (s : State) (p e : Nat) : State :=
  match (queue s (p * 8 + e)).running with
  | none => s
  | some r =>
    let w := r.lst.word r.pos
    if r.begun && cmdOpcode w == 0xF0 && decide (fld w 213 150 ≤ syncGet s p (fld w 223 214)) then
      advance s (p * 8 + e) []
    else s

/-- R184: releases every satisfied WAIT; a release can end a list, whose done signal can release another. -/
def releaseWaits (s : State) (p : Nat) : Nat → State
  | 0 => s
  | n + 1 => releaseWaits ((List.range 6).foldl (fun t e => releaseOne t p e) s) p n

/-- Completes the command reached on a queue and releases the WAITs that its list's done signal satisfies. -/
def completeCmd (s : State) (q : Nat) (res : List W256) (step : Option Nat := none) : State :=
  releaseWaits (advance s q res step) (qPart q) 6

/-- R178: a precondition fails; the list ends at the command reached, with its result words. -/
def refuseCmd (s : State) (q reason : Nat) (res : List W256 := []) (step : Option Nat := none) : State :=
  match (queue s q).running with
  | none => s
  | some r =>
    let s := setQueue s q { queue s q with running := some { r with results := r.results ++ res } }
    releaseWaits (endList s q reason r.pos step) (qPart q) 6

/-- R17, R179, R504: returns a list that never signals, with the result words of the commands that it completed (R180). -/
def returnList (s : State) (q reason off : Nat) (l : HostList) (res : List W256 := []) : State :=
  postReply s (qPart q) (completionWord s (qPart q) (q % 8) (hdrListId l.hdr) reason off res.length (part s (qPart q)).stepCounter :: res)

/-- Returns the list that runs on a queue, at the offset of the command it had reached. -/
def returnRunning (s : State) (q reason : Nat) : State :=
  match (queue s q).running with
  | none => s
  | some r =>
    returnList (setQueue s q { queue s q with running := none }) q reason
      (if r.pos == 1 && !r.begun then 0 else r.pos) r.lst r.results

/-- Returns every list that waits on a queue. -/
def returnWaiting (s : State) (q reason : Nat) : State :=
  let ls := (queue s q).waiting
  ls.foldl (fun t l => returnList t q reason 0 l) (setQueue s q { queue s q with waiting := [] })

/-- R17: every list waiting in queues 0–5 is returned with RC_PART_DISABLED. -/
def returnQueued (s : State) (p reason : Nat) : State :=
  (List.range 6).foldl (fun t e => returnWaiting t (p * 8 + e) reason) s

/-- The command that a queue's running list has reached, and its word. -/
def curCmd (s : State) (q : Nat) : Option (RunList × Nat) :=
  match (queue s q).running with
  | none => none
  | some r => some (r, r.lst.word r.pos)

/-- Marks the command reached as begun. -/
def beginCmd (s : State) (q : Nat) (aux : List Nat) : State :=
  match (queue s q).running with
  | none => s
  | some r => setQueue s q { queue s q with running := some { r with begun := true, aux := aux } }

/-- Writes an object and releases what waits on it (R184). -/
def syncWrite (s : State) (p n v : Nat) : State := releaseWaits (syncPut s p n v) p 6

end Sys2Proof.Machine
end

