-- ==== Sys2Proof/Machine/GroupOps.lean ====
section
/-! DEFINITION. What the step engine, the list engines and the link engine share of cascade groups (R373–R380): a partition's role, its
link sessions, the group sequence table and the gate of a group step's commit point. -/
namespace Sys2Proof.Machine

def group (s : State) (p : Nat) : Group := FMap.get {} s.groups p
def setGroup (s : State) (p : Nat) (x : Group) : State := { s with groups := FMap.set s.groups p x }
def updGroup (s : State) (p : Nat) (f : Group → Group) : State := setGroup s p (f (group s p))

/-! ### Roles and sessions -/

/-- The open link session of a partition to a rank. -/
def rankSession (s : State) (p r : Nat) : Option Nat :=
  (s.sessions.find? fun e => e.2.kind == 2 && e.2.st == 2 && e.2.lpart == p && e.2.rank == r).map (·.1)
/-- The open link sessions of a partition that belong to its group. -/
def groupSessions (s : State) (p : Nat) : List Nat :=
  (s.sessions.filter fun e => e.2.kind == 2 && e.2.st == 2 && e.2.lpart == p && e.2.group != 0).map (·.1)
/-- The ranks to which they lead. -/
def openRanks (s : State) (p : Nat) : List Nat := (groupSessions s p).map fun n => (session s n).rank

def ownRank (s : State) (p : Nat) : Nat := govD 0 s p (pidx 0x63 p) 3
def groupSize (s : State) (p : Nat) : Nat := govD 0 s p (pidx 0x63 p) 4
/-- R379: the partition's role in force: 0 none, 1 master, 2 member. -/
def groupRole (s : State) (p : Nat) : Nat := if (group s p).role ≠ 0 then (group s p).role else govD 0 s p (pidx 0x63 p) 2
def inGroup (s : State) (p : Nat) : Bool := govD 0 s p (pidx 0x63 p) 1 != 0 && groupRole s p != 0
def isMaster (s : State) (p : Nat) : Bool := inGroup s p && groupRole s p == 1
def isMember (s : State) (p : Nat) : Bool := inGroup s p && groupRole s p == 2
def replica (s : State) (p : Nat) : Bool := govD 0 s p (pidx 0x63 p) 13 == 1

/-- Sends a cascade control message to a rank to which a link session is open. -/
def toRank (s : State) (p r kind : Nat) (body : List Nat) : State :=
  match rankSession s p r with
  | none => s
  | some ses => emit s (.cascade ses kind body)
def toRanks (s : State) (p : Nat) (rs : List Nat) (kind : Nat) (body : List Nat) : State :=
  rs.foldl (fun s r => toRank s p r kind body) s

/-! ### The group sequence table (R375, R379) -/

/-- A sequence as one word: from bit 0 identifier 32, length 32, key 64, temperature 32, TOPK 7, TOPP 32, source 2, cancelled 1, last step + 1 64,
home rank 4, and whether it has closed. -/
def packSeq (q home : Nat) (x : Seq) : Nat :=
  put q 32 0 + put x.len 32 32 + put x.key 64 64 + put x.temp 32 128 + put x.topk 7 160 + put x.topp 32 167 + put x.csrc 2 199
    + put (b2n x.cancelled) 1 201 + put (match x.lastStep with
      | none => 0
      | some n => n + 1) 64 202 + put home 4 266
/-- What a packed word changes of a sequence. -/
def unpackSeq (w : Nat) (x : Seq) : Seq :=
  { x with
    len := fld w 63 32, key := fld w 127 64, temp := fld w 159 128, topk := fld w 166 160, topp := fld w 198 167, csrc := fld w 200 199
    cancelled := bitAt w 201, lastStep := if fld w 265 202 = 0 then none else some (fld w 265 202 - 1) }
/-- The word of a sequence that has closed. -/
def closedWord (q : Nat) : Nat := put q 32 0 + 2 ^ 270
/-- The table of a partition's group. -/
def groupTable (s : State) (p : Nat) : FMap Nat :=
  (s.seqs.filter fun e => e.1 / 2 ^ 32 == p).map fun e =>
    (e.1 % 2 ^ 32, packSeq (e.1 % 2 ^ 32) (FMap.get 0 (group s p).homes (e.1 % 2 ^ 32)) e.2)
/-- The changes that turn one table into another. -/
def tableChanges (old new : FMap Nat) : List Nat :=
  ((new.filter fun e => FMap.find old e.1 != some e.2).map (·.2)) ++ ((old.filter fun e => (FMap.find new e.1).isNone).map fun e => closedWord e.1)
/-- A table after changes. -/
def tableApply (t : FMap Nat) (ws : List Nat) : FMap Nat :=
  ws.foldl (fun t w => if bitAt w 270 then FMap.del t (w % 2 ^ 32) else FMap.set t (w % 2 ^ 32) w) t

/-! ### Group steps (R375, R377, R378) -/

/-- R375: the commit point of a step may be reached: a master's has MASKS of every rank of the step and quorum, a member's has COMMIT. -/
def groupGate (s : State) (p : Nat) (r : StepRun) : Bool :=
  let g := group s p
  r.group.isNone || (if groupRole s p = 1 then g.st != 3 && g.ranks.all (g.masks.contains ·) else g.commit)

/-- R375: a member sends MASKS for its running step, once. -/
def sendMasks (s : State) (p : Nat) : State :=
  match (part s p).step with
  | none => s
  | some r =>
    match r.group with
    | none => s
    | some n =>
      if groupRole s p = 2 ∧ (group s p).masked = false then
        updGroup (toRank s p (group s p).master 4 (n :: (r.slots.filter (·.masked)).map (·.slot))) p fun g => { g with masked := true }
      else s

/-- R375: the 64-bit words that COMMIT carries for a slot: its number and masking, its accepted nodes, its tokens. -/
def commitWords (b : SlotB) : List Nat :=
  (put b.slot 8 56 + put (b2n b.masked) 1 55 + put (b2n b.cancelled) 1 54 + put (b2n b.nonfinite) 1 53 + put (b2n b.noPage) 1 52 + put b.cause 16 32
    + put b.kept.length 5 8 + put b.tokens.length 5 0)
    :: ((b.kept.zip (List.range 16)).map fun e => put e.1 4 (4 * e.2)).foldl (· + ·) 0
    :: (List.range 8).map fun i => put (b.tokens.getD (2 * i) 0) 32 0 + put (b.tokens.getD (2 * i + 1) 0) 32 32

/-- R375: a slot as COMMIT's words give it. -/
def commitSlotOf (b : SlotB) (ws : List Nat) : SlotB :=
  let h := ws.getD 0 0
  { b with
    masked := bitAt h 55, cancelled := bitAt h 54, nonfinite := bitAt h 53, noPage := bitAt h 52, cause := fld h 47 32, decided := !bitAt h 55
    kept := (List.range (fld h 12 8)).map fun i => fld (ws.getD 1 0) (4 * i + 3) (4 * i)
    tokens := (List.range (h % 32)).map fun i => fld (ws.getD (2 + i / 2) 0) (32 * (i % 2) + 31) (32 * (i % 2)) }

/-- R375: the master's commit point sends COMMIT to the ranks of the step. -/
def sendCommit (s : State) (p : Nat) (r : StepRun) : State :=
  match r.group with
  | none => s
  | some n => if groupRole s p = 1 then toRanks s p (group s p).ranks 5 (n :: r.slots.flatMap commitWords) else s

/-- R375, R376: a master whose running step is discarded orders its ranks to revert to the step it has confirmed (the model's choice of message). -/
def orderRevert (s : State) (p : Nat) : State :=
  if isMaster s p then toRanks s p (openRanks s p) 14 [(group s p).epoch, (group s p).confirmed] else s

/-- R377: the master's decision on forwarded cancels of sequences: each origin learns it, with the sequence's last committed step + 1. -/
def finalForwards (s : State) (p : Nat) (sel : Nat → Bool) : State :=
  if groupRole s p ≠ 1 then s
  else
    let l := (group s p).forwarded.filter fun f => sel (f % 2 ^ 32)
    let s := updGroup s p fun g => { g with forwarded := g.forwarded.filter fun f => !sel (f % 2 ^ 32) }
    l.foldl (fun s f =>
      let q := f % 2 ^ 32
      let last := match (seqOf s p q).bind (·.lastStep) with
        | none => 0
        | some n => n + 1
      toRank s p (f / 2 ^ 32) 11 [q, 0, 1, last]) s

/-- R377: a member's cancel of a sequence waits for the master. -/
def awaitsMaster (s : State) (p q : Nat) : Bool := groupRole s p == 2 && (group s p).forwarded.any fun f => f % 2 ^ 32 == q

/-- R375: the opcodes of host commands that a member refuses and a master forwards. -/
def groupOp (op : Nat) : Bool := (decide (1 ≤ op) && decide (op ≤ 3)) || (decide (0x20 ≤ op) && decide (op ≤ 0x23)) || (decide (0x30 ≤ op) && decide (op ≤ 0x32))

/-- R375: live ranks of a replica group with the number of sequences homed on each; SEQOPEN takes the first of the least. -/
def homeRank (s : State) (p : Nat) : Nat :=
  let rs := (List.range 16).filter fun r => r == ownRank s p || (group s p).joined.contains r
  let n := fun r => ((group s p).homes.filter fun e => e.2 == r).length
  rs.foldl (fun b r => if n r < n b then r else b) (rs.headD (ownRank s p))

/-- R375: the master forwards a command it has carried out to the ranks: to all, or to the sequence's home in a replica group. -/
def forwardCmd (s : State) (p w : Nat) : State :=
  let op := w / 2 ^ 248
  if !isMaster s p || !groupOp op || op == 1 then s
  else
    let q := fld w 223 192
    let s := if op = 2 ∧ replica s p then
        let r := homeRank s p
        updGroup s p fun g => { g with homes := FMap.set g.homes q r }
      else s
    let rs := if replica s p then [FMap.get (ownRank s p) (group s p).homes q] else (group s p).joined
    let s := if op = 3 then updGroup s p fun g => { g with homes := FMap.del g.homes q } else s
    toRanks s p rs 16 [fld w 63 0, fld w 127 64, fld w 191 128, fld w 255 192]

end Sys2Proof.Machine
end

