-- ==== Sys2Proof/Machine/Mem.lean ====
section
/-! DEFINITION. The block's addressed memories: scratchpads, accumulator memories and HBM, their error marks,
and the partition virtual addresses of R10. A memory is a canonical list of cells: addresses strictly rising, no
cell equal to 0, the value an unlisted byte reads as. -/
namespace Sys2Proof.Machine

/-- A memory of bytes. -/
abbrev Memory := List Host.Cell

/-- The canonical form of a memory. -/
def Memory.wf (m : Memory) : Bool := FMap.wf (0 : Byte) m

/-- One byte of a memory; an unlisted byte reads as 0 (the model's choice). -/
def Memory.read (m : Memory) (a : Nat) : Byte := FMap.get (0 : Byte) m a

/-- Writes one byte and keeps the canonical form. -/
def Memory.write (m : Memory) (a : Nat) (b : Byte) : Memory := FMap.put (0 : Byte) m a b

/-- `n` bytes from an address up. -/
def Memory.readN (m : Memory) (a : Nat) : Nat → List Byte
  | 0 => []
  | n + 1 => Memory.read m a :: Memory.readN m (a + 1) n

/-- Writes bytes from an address up. -/
def Memory.writeN (m : Memory) (a : Nat) : List Byte → Memory
  | [] => m
  | b :: t => Memory.writeN (Memory.write m a b) (a + 1) t

/-! ### Tiles -/

/-- R8: a tile address of the built wafer. -/
def tileOk (t : Nat) : Bool := decide (t < 49152) && decide (fld t 9 7 < 6) && decide (t % 16 = 0)

/-- R406: a tile's cluster, die × 12 + half × 6 + cluster. -/
def clusterOf (t : Nat) : Nat := fld t 15 11 * 12 + fld t 10 10 * 6 + fld t 9 7

/-- R8: die column and row place a tile in the grid of 72 by 32 tiles. -/
def tileX (t : Nat) : Nat := fld t 15 11 % 6 * 12 + fld t 9 7 % 3 * 4 + fld t 6 4 % 4
def tileY (t : Nat) : Nat := fld t 15 11 / 6 * 8 + fld t 10 10 * 4 + fld t 9 7 / 3 * 2 + fld t 6 4 / 4
/-- The tile at a place of the grid. -/
def tileAt (x y : Nat) : Nat :=
  (y / 8 * 6 + x / 12) * 2 ^ 11 + y % 8 / 4 * 2 ^ 10 + (y % 4 / 2 * 3 + x % 12 / 4) * 2 ^ 7 + (y % 2 * 4 + x % 4) * 2 ^ 4
/-- A router's number in a route, Y × 72 + X. -/
def routerNo (t : Nat) : Nat := tileY t * 72 + tileX t
def routerTile (n : Nat) : Nat := tileAt (n % 72) (n / 72)

/-- R145: bytes that commands can address in a scratchpad. -/
def spTop : Nat := 0x5F0000

def spKey (t off : Nat) : Nat := t * 2 ^ 23 + off
def accKey (t row w : Nat) : Nat := t * 2 ^ 17 + row * 1024 + w
def rowKey (t row : Nat) : Nat := t * 128 + row

def spRead (s : State) (t off n : Nat) : List Byte := Memory.readN s.sp (spKey t off) n

/-- The 64-bit words that `n` bytes from `off` touch. -/
def wordsOf (off n : Nat) : List Nat :=
  if n = 0 then [] else (List.range ((off + n - 1) / 8 + 1 - off / 8)).map (· + off / 8)

def spWordErr (s : State) (t w : Nat) : Nat := FMap.get 0 s.spErr (t * 2 ^ 20 + w)

/-- R148: a read of these bytes finds a word with two or more bad bits, or a poisoned one. -/
def spBad (s : State) (t off n : Nat) : Bool := (wordsOf off n).any fun w => decide (2 ≤ spWordErr s t w)

/-- R148: a write of these bytes reads a partly written word that is uncorrectable. -/
def spWriteBad (s : State) (t off n : Nat) : Bool :=
  (wordsOf off n).any fun w =>
    decide (2 ≤ spWordErr s t w) && !(decide (off ≤ w * 8) && decide (w * 8 + 8 ≤ off + n))

/-- R148: writes bytes with fresh check bits. A stored vector that they change is no longer marked non-finite (R103). -/
def spWrite (s : State) (t off : Nat) (bs : List Byte) : State :=
  { s with sp := Memory.writeN s.sp (spKey t off) bs
           spErr := (wordsOf off bs.length).foldl (fun m w => FMap.del m (t * 2 ^ 20 + w)) s.spErr
           nonfinVec := s.nonfinVec.filter fun e =>
             !(decide (e.1 < spKey t off + bs.length) && decide (spKey t off < e.1 + e.2)) }

def accRead (s : State) (t row w : Nat) : W32 := FMap.get (0 : W32) s.acc (accKey t row w)

/-- R101: the tag of an accumulator row; reset VERSION 0b01. -/
def accTag (s : State) (t row : Nat) : Nat := FMap.get 0x4000 s.accTag (rowKey t row)
def setAccTag (s : State) (t row v : Nat) : State := { s with accTag := FMap.put 0x4000 s.accTag (rowKey t row) v }
def accScaled (s : State) (t row : Nat) : Bool := bitAt (accTag s t row) 13

/-- Writes accumulator words from word `i` of the accumulator memory (row × 1024 + word) up. -/
def accWriteWords (s : State) (t : Nat) (i : Nat) : List W32 → State
  | [] => s
  | v :: r =>
    accWriteWords { s with acc := FMap.put (0 : W32) s.acc (t * 2 ^ 17 + i) v
                           accErr := FMap.del s.accErr (t * 2 ^ 16 + i / 2) } t (i + 1) r

def accErrAt (s : State) (t pair : Nat) : Nat := FMap.get 0 s.accErr (t * 2 ^ 16 + pair)
/-- R151: a read of `n` words from word `i` finds an uncorrectable pair. -/
def accBad (s : State) (t i n : Nat) : Bool :=
  if n = 0 then false
  else (List.range ((i + n - 1) / 2 + 1 - i / 2)).any fun k => decide (2 ≤ accErrAt s t (i / 2 + k))

/-! ### HBM -/

/-- One stack's share of the flat HBM address: stack × 36,000,000,000 + byte. -/
def stackBytes : Nat := 36000000000
def extentBytes : Nat := 2097152

/-- R332: the flat address that an address of a region resolves to. -/
def HReg.resolve (r : HReg) (a : Nat) : Option Nat :=
  let o := a - r.vbase
  let g := o / 4096
  let wd := r.stackIds.length
  if wd = 0 then none
  else
    match r.stackIds[g % wd]?, (r.extents.getD (g % wd) [])[g / wd / 512]? with
    | some st, some ext => some (st * stackBytes + ext * extentBytes + (g / wd % 512) * 4096 + o % 4096)
    | _, _ => none

/-- R330: a region of the space (2, or 4 for a KV region) that holds an address. -/
def regionAt (pl : Placement) (space a : Nat) : Option HReg :=
  pl.hregs.find? fun r => ((r.kind == 3) == (space == 4)) && decide (r.vbase ≤ a) && decide (a < r.vbase + r.size)

/-- R332: resolves an address of space 2 or 4. -/
def hbmResolve (pl : Placement) (space a : Nat) : Option Nat :=
  match regionAt pl space a with
  | none => none
  | some r => r.resolve a

/-- R345: the sector of a flat HBM address is poisoned. -/
def hbmPoisoned (s : State) (f : Nat) : Bool := FMap.get 0 s.hbmErr (f / 32 * 32) != 0

/-- Writes one HBM byte; a write to a poisoned sector clears its poison (R345). -/
def hbmWrite (s : State) (f : Nat) (b : Byte) : State :=
  { s with hbm := Memory.write s.hbm f b, hbmErr := FMap.del s.hbmErr (f / 32 * 32) }

/-! ### Partition virtual addresses (R10, R152, R176) -/

def vaSpace (va : Nat) : Nat := fld va 47 44
def vaPti (va : Nat) : Nat := fld va 43 32
def vaOff (va : Nat) : Nat := va % 2 ^ 32
def vaLow (va : Nat) : Nat := va % 2 ^ 44

def ptile (pl : Placement) (pti : Nat) : Option PTile := pl.tiles[pti]?

/-- The partition that owns a tile, and its PTI there. -/
def ownerOf (s : State) (t : Nat) : Option (Nat × Nat) :=
  (List.range 16).findSome? fun p =>
    match (part s p).place.tiles.findIdx? (fun x => x.tile == t) with
    | some i => some (p, i)
    | none => none

/-- R176 check 10, R330: regions cover `n` bytes from `a` of space 2 or 4, one after another. -/
def coveredBy (pl : Placement) (space a n : Nat) : Nat → Bool
  | 0 => n == 0
  | k + 1 =>
    if n = 0 then true
    else
      match regionAt pl space a with
      | none => false
      | some r => if a + n ≤ r.vbase + r.size then true
        else coveredBy pl space (r.vbase + r.size) (a + n - (r.vbase + r.size)) k

/-- R176 check 10: `n` bytes from a partition virtual address are the partition's. -/
def ownsRange (pl : Placement) (va n : Nat) : Bool :=
  match vaSpace va with
  | 0 => (ptile pl (vaPti va)).isSome && decide (vaOff va + n ≤ spTop)
  | 1 => (ptile pl (vaPti va)).isSome && decide (vaOff va + n ≤ 0x80000)
  | 2 => coveredBy pl 2 (vaLow va) n (pl.hregs.length + 1)
  | 3 => decide (vaLow va + n ≤ 8 * pl.nsync)
  | 4 => coveredBy pl 4 (vaLow va) n (pl.hregs.length + 1)
  | _ => false

/-- R146: the region kind at an offset of a placed tile. -/
def regionKindAt (pt : PTile) (off : Nat) : Option Nat :=
  (pt.regions.find? fun r => decide (r.base ≤ off) && decide (off < r.base + r.size)).map (·.kind)

/-- R147, R195: `n` bytes from `off` touch a RESIDENT region of the tile. -/
def touchesKind (pt : PTile) (kind off n : Nat) : Bool :=
  pt.regions.any fun r => r.kind == kind && decide (0 < n) && decide (r.base < off + n) && decide (off < r.base + r.size)

end Sys2Proof.Machine
end

