-- ==== Sys2Proof/Machine/Image.lean ====
section
/-! DEFINITION. The image format (R246–R256, R277–R279, R329–R330, R339) as readers of an image's bytes, and the
golden weight blocks (R35, R36, R56, R57, R251). -/
namespace Sys2Proof.Machine

/-- `n` bytes at a place of an image, read as one little-endian number. -/
def imgNat (m : Memory) (off n : Nat) : Nat := leNat (Memory.readN m off n)

/-! ### Header and section table (R246, R247) -/

def imgHdr (m : Memory) : Nat := imgNat m 0 64
def imgMagic (m : Memory) : Nat := fld (imgHdr m) 511 480
def imgId (m : Memory) : Nat := fld (imgHdr m) 447 384
def imgLength (m : Memory) : Nat := fld (imgHdr m) 383 352
def imgSCompat (m : Memory) : Bool := bitAt (imgHdr m) 467
def imgDual (m : Memory) : Bool := bitAt (imgHdr m) 466
def imgNsect (m : Memory) : Nat := fld (imgHdr m) 463 456
def imgNprog (m : Memory) : Nat := fld (imgHdr m) 455 452 + 1
/-- R246: the header CRC over bytes 0–63 with the CRC field zero. -/
def imgHdrCrcOk (m : Memory) : Bool :=
  crc32 (leBytes 64 (imgHdr m / 2 ^ 32 * 2 ^ 32)) == imgHdr m % 2 ^ 32

/-- Entry `i` of the section table. -/
def sectEntry (m : Memory) (i : Nat) : Nat := imgNat m (64 + 16 * i) 16
/-- R247: a section of the image: byte offset, length, CRC. -/
structure Sect where
  typ : Nat
  ver : Nat
  off : Nat
  len : Nat
  crc : Nat
  deriving DecidableEq, Repr

def sections (m : Memory) : List Sect :=
  (List.range (imgNsect m)).map fun i =>
    let w := sectEntry m i
    { typ := fld w 127 120, ver := fld w 119 112, off := fld w 111 80 * 4096, len := fld w 79 32, crc := fld w 31 0 }
def sect (m : Memory) (t : Nat) : Option Sect := (sections m).find? fun x => x.typ == t
def sectOff (m : Memory) (t : Nat) : Nat := ((sect m t).map (·.off)).getD 0
def sectLen (m : Memory) (t : Nat) : Nat := ((sect m t).map (·.len)).getD 0

/-! ### Records (R248–R256) -/

def demand (m : Memory) : Nat := imgNat m (sectOff m 1) 32
def dNpti (m : Memory) : Nat := fld (demand m) 247 236
def dNsync (m : Memory) : Nat := fld (demand m) 235 225
def dNlane (m : Memory) : Nat := fld (demand m) 224 214
def dNhandoff (m : Memory) : Nat := fld (demand m) 213 206
def dNrid (m : Memory) : Nat := fld (demand m) 205 194
def dNflow (m : Memory) : Nat := fld (demand m) 193 174
def dGrant (m : Memory) : Nat := fld (demand m) 173 158
def dHbm (m : Memory) : Nat := fld (demand m) 157 110

/-- A region entry of R249. -/
structure ImgRegion where
  kind : Nat
  ridx : Nat
  size : Nat
  fixoff : Nat
  data : Nat
  reserved : Nat
  deriving DecidableEq, Repr

/-- A tile record of R249. -/
structure ImgTile where
  word : Nat
  pti : Nat
  lx : Nat
  ly : Nat
  narray : Nat
  grant : Nat
  accRows : Nat
  spbytes : Nat
  regions : List ImgRegion
  deriving DecidableEq, Repr

def imgRegion (w : Nat) : ImgRegion :=
  { kind := fld w 63 61, ridx := fld w 60 57, size := fld w 56 46 * 4096, fixoff := fld w 45 35 * 4096
    data := fld w 34 13 * 4096, reserved := fld w 12 0 }

/-- `n` tile records from byte `off`, one after another. -/
def imgTilesFrom (m : Memory) (off : Nat) : Nat → List ImgTile
  | 0 => []
  | n + 1 =>
    let w := imgNat m off 32
    let nr := fld w 203 200
    { word := w, pti := fld w 247 236, lx := fld w 235 229, ly := fld w 228 224, narray := fld w 223 217
      grant := fld w 216 212, accRows := fld w 211 204, spbytes := fld w 199 176
      regions := (List.range nr).map fun i => imgRegion (imgNat m (off + 32 + 8 * i) 8) }
      :: imgTilesFrom m (off + 32 + 8 * nr) n
def imgTiles (m : Memory) : List ImgTile := imgTilesFrom m (sectOff m 2) (dNpti m)

/-- R250: bytes of one step program's entry and its entry points. -/
def progStride (m : Memory) : Nat := 8 + (4 * dNpti m + 7) / 8 * 8
/-- R250: entry words of the step program table and their entry points (region, byte offset) by PTI. -/
def imgProgs (m : Memory) : List (Nat × List (Nat × Nat)) :=
  (List.range (imgNprog m)).map fun i =>
    let o := sectOff m 3 + i * progStride m
    (imgNat m o 8, (List.range (dNpti m)).map fun p =>
      let e := imgNat m (o + 8 + 4 * p) 4
      (fld e 31 28, fld e 27 4 * 16))

/-- A golden block of the image (R251): its header word and where its data bytes begin. -/
structure ImgBlock where
  word : Nat
  id : Nat
  pti : Nat
  lan : Nat
  lbank : Nat
  format : Nat
  bcrc : Nat
  off : Nat
  deriving DecidableEq, Repr

def blockHeader (w off : Nat) : ImgBlock :=
  { word := w, id := fld w 247 184, pti := fld w 183 172, lan := fld w 171 166, lbank := fld w 165 165
    format := fld w 164 162, bcrc := fld w 159 128, off := off }
def imgBlocks (m : Memory) : List ImgBlock :=
  (List.range (sectLen m 5 / 524320)).map fun i =>
    let o := sectOff m 5 + i * 524320
    blockHeader (imgNat m o 32) (o + 32)

def imgFlows (m : Memory) : List Nat := (List.range (dNflow m)).map fun i => imgNat m (sectOff m 7 + 8 * i) 8
def imgLanes (m : Memory) : List Nat := (List.range (dNlane m)).map fun i => imgNat m (sectOff m 8 + 32 * i) 32
/-- R254: reduction descriptors: header and contribution entries. -/
def imgReducesFrom (m : Memory) (off : Nat) : Nat → List (Nat × List Nat)
  | 0 => []
  | n + 1 =>
    let w := imgNat m off 16
    let nc := fld w 107 96
    (w, (List.range nc).map fun i => imgNat m (off + 16 + 2 * i) 2) ::
      imgReducesFrom m (off + 16 + (2 * nc + 15) / 16 * 16) n
def imgReduces (m : Memory) : List (Nat × List Nat) := imgReducesFrom m (sectOff m 9) (dNrid m)
/-- R255: handoff declarations: header, reduction entries, site entries. -/
def imgHandoffsFrom (m : Memory) (off : Nat) : Nat → List (Nat × List Nat × List Nat)
  | 0 => []
  | n + 1 =>
    let w := imgNat m off 16
    let nr := fld w 111 104
    let ns := fld w 103 96
    let o2 := off + 16 + (2 * nr + 15) / 16 * 16
    (w, (List.range nr).map (fun i => imgNat m (off + 16 + 2 * i) 2), (List.range ns).map fun i => imgNat m (o2 + 8 * i) 8) ::
      imgHandoffsFrom m (o2 + 8 * ns) n
def imgHandoffs (m : Memory) : List (Nat × List Nat × List Nat) := imgHandoffsFrom m (sectOff m 10) (dNhandoff m)
/-- R256: relocation records. -/
def imgRelocs (m : Memory) : List Nat := (List.range (sectLen m 6 / 16)).map fun i => imgNat m (sectOff m 6 + 16 * i) 16

/-! ### HBM section (R329, R330, R339, R277–R279) -/

def hbmHdr (m : Memory) : Nat := imgNat m (sectOff m 11) 16
def hbmNreg (m : Memory) : Nat := fld (hbmHdr m) 119 108
def hbmHasKv (m : Memory) : Bool := bitAt (hbmHdr m) 99
def hbmDataOff (m : Memory) : Nat := sectOff m 11 + fld (hbmHdr m) 63 32 * 4096
def imgHregs (m : Memory) : List Nat :=
  if (sect m 11).isSome then (List.range (hbmNreg m)).map fun i => imgNat m (sectOff m 11 + 16 + 16 * i) 16 else []
/-- R330: a region record before its extents are chosen. -/
def hregOf (w : Nat) : HReg :=
  { ridx := fld w 127 116, kind := fld w 115 112, width := fld w 111 109, vbase := fld w 108 65
    size := fld w 63 32 * 4096, init := fld w 31 30, data := fld w 29 0 * 4096 }
/-- R339: streamed-layer records: header and tile entries, and where the KV records begin. -/
def imgSlrsFrom (m : Memory) (off : Nat) : Nat → List (Nat × List Nat) × Nat
  | 0 => ([], off)
  | n + 1 =>
    let w := imgNat m off 16
    let nt := fld w 102 91
    let r := imgSlrsFrom m (off + 16 + 8 * nt) n
    ((w, (List.range nt).map fun i => imgNat m (off + 16 + 8 * i) 8) :: r.1, r.2)
def imgSlrs (m : Memory) : List (Nat × List Nat) × Nat :=
  imgSlrsFrom m (sectOff m 11 + 16 + 16 * hbmNreg m) (if (sect m 11).isSome then fld (hbmHdr m) 107 100 else 0)
def kvOff (m : Memory) : Nat := (imgSlrs m).2

def kvGroupOfWord (w : Nat) : KvGroup :=
  { l0 := fld w 123 116, layers := fld w 115 108 + 1, fmt := fld w 107 103, nkvh := fld w 102 97 + 1
    dh := 32 * (fld w 96 93 + 1), nset := fld w 92 61, basepage := fld w 60 29 }
def kvTileOfWord (w : Nat) : KvTile :=
  { pti := fld w 63 52, layer := fld w 51 44, h0 := fld w 43 38, nh := fld w 37 32 + 1, ring := fld w 31 28
    w := fld w 27 16, scalereg := fld w 15 12, scaleoff := fld w 11 0 * 16 }
/-- R277: the pool that an image declares; no group where it declares none. -/
def imgKv (m : Memory) : KvPool :=
  if (sect m 11).isSome && hbmHasKv m then
    let w := imgNat m (kvOff m) 16
    let ng := fld w 119 116 + 1
    { maxent := fld w 115 100, pageUnits := fld w 87 72
      groups := (List.range ng).map fun i => kvGroupOfWord (imgNat m (kvOff m + 16 + 16 * i) 16)
      tiles := (List.range (fld w 99 88)).map fun i => kvTileOfWord (imgNat m (kvOff m + 16 + 16 * ng + 8 * i) 8) }
  else {}

/-! ### Golden weight blocks (R35, R36, R56, R57, R251) -/

/-- A golden copy as it is read: its header word and its 524,288 data bytes. -/
structure Golden where
  word : Nat
  data : List Byte
  deriving DecidableEq, Repr

/-- The nibble of row `i`, column `j`. -/
def goldenNibble (d : List Byte) (i j : Nat) : Nat :=
  let n := i * 1024 + j
  (d.getD (n / 2) 0).toNat / (if n % 2 = 0 then 1 else 16) % 16

/-- The four columns' digit of a row and group (R57). -/
def checkDigit (s : Int) (k : Nat) : Int :=
  let d0 := (s + 8) % 16 - 8
  let s1 := (s - d0) / 16
  let d1 := (s1 + 8) % 16 - 8
  match k with
  | 0 => d0
  | 1 => d1
  | _ => (s1 - d1) / 16

/-- R57: the sum of a row's signed codes over a group's 256 data columns. -/
def rowGroupSum (d : List Byte) (i g : Nat) : Int :=
  ((List.range 256).map fun j => toSigned 4 (goldenNibble d i (g * 256 + j))).foldl (· + ·) 0

/-- R34, R56, R57: the signed cell code of row `i` in any of the 1,040 columns. -/
def cellCode (d : List Byte) (i j : Nat) : Int :=
  if j < 1024 then toSigned 4 (goldenNibble d i j)
  else if j < 1036 then checkDigit (rowGroupSum d i ((j - 1024) / 3)) ((j - 1024) % 3)
  else 5 * ((j : Int) - 1036) - 8

/-- R36: the 1,040 column sums. -/
def columnSums (d : List Byte) : List Int :=
  (List.range 1040).map fun j => ((List.range 1024).map fun i => cellCode d i j).foldl (· + ·) 0

/-- R35: a nibble is among the levels that a format uses. -/
def nibbleOk (format nib : Nat) : Bool :=
  match format with
  | 1 => nib % 2 == 0
  | 2 => nib == 0 || nib == 7 || nib == 9
  | _ => true
def goldenLevelsOk (format : Nat) (d : List Byte) : Bool :=
  d.all fun b => nibbleOk format (b.toNat % 16) && nibbleOk format (b.toNat / 16)
def goldenCrcOk (g : Golden) : Bool := crc32 g.data == fld g.word 159 128

/-- The golden copy of a block as an image holds it. -/
def imgGolden (m : Memory) (b : ImgBlock) : Golden := { word := b.word, data := Memory.readN m b.off 524288 }

/-- The golden copy of a BLOCK_ID in the image store, the named image first (R195, R199). -/
def storeGolden (s : State) (image id : Nat) : Option Golden :=
  let find := fun (m : Memory) => ((imgBlocks m).find? fun b => b.id == id).map (imgGolden m)
  match FMap.find s.images image with
  | some i =>
    match find i.bytes with
    | some g => some g
    | none => s.images.findSome? fun e => find e.2.bytes
  | none => s.images.findSome? fun e => find e.2.bytes

/-- R341: the base of a partition's staged slot that holds a block. -/
def stagedSlot (s : State) (p id : Nat) : Option Nat :=
  (s.staged.find? fun e => e.1 == p && e.2.2 == id).map (·.2.1)

/-- The golden copy in a staging slot at an address of space 2 (R341). -/
def slotGolden (s : State) (pl : Placement) (a : Nat) : Golden :=
  let byte := fun i => match hbmResolve pl 2 (a + i) with
    | none => 0
    | some f => Memory.read s.hbm f
  { word := leNat ((List.range 32).map byte), data := (List.range 524288).map fun i => byte (32 + i) }

end Sys2Proof.Machine
end

