-- ==== Sys2Proof/Machine/Kennel.lean ====
section
/-! DEFINITION. Kennel (R480–R484): records, the blocks they are gathered into, and the classification of units. -/
namespace Sys2Proof.Machine

/-- The model's running clock in ns: it never restarts, so that intervals span power cycles (R482). -/
def ageNs (s : State) : Nat := s.refTicks * 64 / 10

/-- The key of a unit, array or bank in the summary store. -/
def kKey (ukind unit sub : Nat) : Nat := ukind * 2 ^ 24 + unit * 2 ^ 8 + sub
/-- R481: SUB of an array, and of a bank of it. -/
def arraySub (a : Nat) : Nat := a * 4 + 1
def bankSub (a b : Nat) : Nat := a * 4 + b * 2 + 1

def kUnit (s : State) (key : Nat) : KUnit := FMap.get {} s.kennel.units key
def setKUnit (s : State) (key : Nat) (u : KUnit) : State :=
  { s with kennel := { s.kennel with units := FMap.set s.kennel.units key u } }

/-- R483: the classification of a tile, stack, brick or other whole unit. -/
def kState (s : State) (ukind unit : Nat) : Nat := (kUnit s (kKey ukind unit 0)).st
/-- R260, R483: a tile that is neither PERMANENT nor RETIRED. -/
def kHealthy (s : State) (ukind unit : Nat) : Bool := decide (kState s ukind unit < 2)

/-- R480, R481: writes a record; it gathers in a block until the block commits. -/
def kennelAdd (s : State) (r : KRec) : State :=
  let key := kKey r.ukind r.unit r.sub
  let n := s.kennel.recNo + 1
  let u := kUnit s key
  let r := { r with recNo := n, time := nowNs s, rtc := rtcNow s, powerOn := s.powerOns, st := u.st }
  let s := { s with kennel := { s.kennel with recNo := n, gathering := r :: s.kennel.gathering } }
  setKUnit s key { u with
    lastRec := n, recs := if r.typ = 2 ∨ r.typ = 5 ∨ r.typ = 6 then r :: u.recs else u.recs }

/-- R482: the default threshold of a kind; 0 never classifies. -/
def kindC : Nat → Nat
  | 1 => 3 | 2 => 3 | 4 => 3 | 5 => 3 | 6 => 2 | 7 => 2 | 8 => 3 | 9 => 1 | 10 => 1 | 11 => 1 | 12 => 2
  | 13 => 3 | 14 => 1 | 15 => 1 | 16 => 1 | 17 => 3 | 18 => 3 | 19 => 1 | _ => 0
def kindThreshold (s : State) (k : Nat) : Nat := if kindC k = 0 then 0 else objD (kindC k) s 0x7001 k
/-- R482: the interval of a kind, s; the default is 30 days. -/
def kindInterval (s : State) (k : Nat) : Nat := objD 2592000 s 0x7002 k

/-- Events of kind `k` of a unit within the kind's interval. -/
def kindCount (s : State) (u : KUnit) (k : Nat) : Nat :=
  (u.events.filter fun e => e.1 == k && decide (ageNs s < e.2 + kindInterval s k * 1000000000)).length

/-- R471: the error class of a kind: 1 CORRECTED, 2 CONTAINED, 3 SILENT, 4 UNIT_LOSS, 5 ENVIRONMENT; kind 0, an event that classifies no unit, is told
by its reason code. DEDUCED: a verify failure and a failed fit are CONTAINED, a failed field test is SILENT, a sensor fault is ENVIRONMENT. -/
def errorClass (kind reason : Nat) : Nat :=
  match kind with
  | 0 => if reason / 256 = 6 then 5 else 2
  | 3 => 1 | 11 => 1
  | 4 => 3 | 5 => 3 | 6 => 3 | 15 => 3
  | 9 => 4 | 10 => 4 | 12 => 4 | 14 => 4 | 16 => 4 | 17 => 4 | 19 => 4
  | 18 => 5
  | _ => 2

/-- R482, R483: an error event of a unit: its TYPE 1 record and, where it reaches its threshold, PERMANENT. -/
def kennelEvent (s : State) (kind ukind unit : Nat) (sub : Nat := 0) (reason : Nat := 0) (detail : Nat := 0) : State :=
  let cls := errorClass kind reason
  let key := kKey ukind unit sub
  let u := kUnit s key
  let c := kindThreshold s kind
  if c = 0 then kennelAdd s { typ := 1, ukind := ukind, unit := unit, sub := sub, kind := kind, reason := reason, cls := cls, detail := detail }
  else
    let u := { u with events := (kind, ageNs s) :: u.events, total := (u.total + 1) % 2 ^ 32, lastKind := kind }
    let n := kindCount s u kind
    let st := if 2 ≤ u.st then u.st else if c ≤ n then 2 else 1
    let new := decide (u.st < 2) && st == 2
    let s := setKUnit s key { u with st := st }
    let r : KRec := { typ := 1, ukind := ukind, unit := unit, sub := sub, kind := kind, reason := reason, cls := cls, count := min n 255, detail := detail }
    let s := kennelAdd s r
    if new then
      raiseRc (setCond (kennelAdd s { r with typ := 2 }) 449 true) 3 0x070F none ukind unit
    else s

/-- A protective action (R492): its Kennel record of TYPE 9, in the class UNIT_LOSS for a brick, a block, a VPGM rail or a port, else
ENVIRONMENT (R471). -/
def protective (s : State) (ukind unit reason : Nat) : State :=
  kennelAdd s { typ := 9, ukind := ukind, unit := unit, reason := reason, cls := if [0x0602, 0x0604, 0x060F, 0x0620].contains reason then 4 else 5 }

/-- R481, R491: a part is inserted or removed: its record of TYPE 10. -/
def partMoved (s : State) (ukind unit : Nat) : State := kennelAdd s { typ := 10, ukind := ukind, unit := unit }

/-- R480, R482: a corrected error: counted always, written to the ring at most once an hour. -/
def kennelCorrected (s : State) (ukind unit : Nat) : State :=
  let key := kKey ukind unit 0
  let u := kUnit s key
  let hour := ageNs s / 3600000000000 + 1
  let s := setKUnit s key { u with corrected := u.corrected + 1, corrHour := hour }
  if u.corrHour = hour then s else kennelAdd s { typ := 1, ukind := ukind, unit := unit, kind := 3, cls := 1 }

/-- R483: retirement of a unit or bank: record TYPE 5. -/
def kennelRetire (s : State) (ukind unit sub : Nat) : State :=
  let u := kUnit s (kKey ukind unit sub)
  if u.st = 3 then s
  else kennelAdd (setKUnit s (kKey ukind unit sub) { u with st := 3 }) { typ := 5, ukind := ukind, unit := unit, sub := sub }

/-- The longest interval of the kinds a unit has events of, s. -/
def longestInterval (s : State) (u : KUnit) : Nat := (u.events.map fun e => kindInterval s e.1).foldl Nat.max 0

/-- KENNEL_SUSPECT_EXPIRE (R483): a SUSPECT unit with no classifying event within the longest interval of its
kinds returns to HEALTHY. -/
def execKennelSuspectExpire (ukind unit sub : Nat) (s : State) : Host.Outcome State Fault Refusal :=
  let key := kKey ukind unit sub
  let u := kUnit s key
  let last := (u.events.map (·.2)).foldl Nat.max 0
  if u.st = 1 ∧ last + longestInterval s u * 1000000000 ≤ ageNs s then
    .next (kennelAdd (setKUnit s key { u with st := 0 }) { typ := 2, ukind := ukind, unit := unit, sub := sub })
  else .next s

/-- KENNEL_BLOCK_COMMIT (R480): the block being gathered, at most 60 records, becomes durable in the ring. -/
def execKennelBlockCommit (s : State) : Host.Outcome State Fault Refusal :=
  let k := s.kennel
  let n := k.gathering.length
  let first := k.gathering.drop (n - 60)
  .next { s with kennel := { k with
    gathering := k.gathering.take (n - 60), ring := (first ++ k.ring).take 1073741824 } }

/-- UNIT_REINSTATE (R484): a write of 1 to obj 0x7010:6 for the unit that obj 0x7010:0 selects; none where it
is refused with RC_UNIT_STATE. -/
def reinstate (s : State) (key : Nat) : Option State :=
  let u := kUnit s key
  if u.st = 2 then
    let s := setKUnit s key { u with st := 0, events := [] }
    let s := setCond s 449 (s.kennel.units.any fun e => e.2.st == 2)
    some (kennelAdd (setKUnit s key { u with st := 0, events := [] })
      { typ := 6, ukind := key / 2 ^ 24, unit := key / 2 ^ 8 % 65536, sub := key % 256 })
  else none

end Sys2Proof.Machine
end

