-- ==== Sys2Proof/Machine/BankOps.lean ====
section
/-! DEFINITION. Banks and their tables (R33–R88): the bank map, the tables in use, the physical and logical
results of an evaluation, and the swap record. -/
namespace Sys2Proof.Machine

/-! ### Banks and maps (R47, R51) -/

def bankKey (t a b : Nat) : Nat := t * 8 + a * 2 + b
def bankOf (s : State) (k : Nat) : Bank := FMap.get {} s.banks k
def setBank (s : State) (k : Nat) (b : Bank) : State := { s with banks := FMap.set s.banks k b }
def updBank (s : State) (k : Nat) (f : Bank → Bank) : State := setBank s k (f (bankOf s k))
/-- The other bank of the same array. -/
def sibling (k : Nat) : Nat := if k % 2 = 0 then k + 1 else k - 1
def bankTile (k : Nat) : Nat := k / 8 / 16 * 16
def bankArray (k : Nat) : Nat := k % 128 / 2
/-- R47: the physical bank of a logical bank, none where the map has no entry. -/
def mapBank (s : State) (t a lb : Nat) : Option Nat := FMap.find s.bankMap (bankKey t a lb)

/-- R51: the state codes. -/
def BankState.code : BankState → Nat
  | .empty => 0 | .programming => 1 | .programmed => 2 | .calibrating => 3 | .standby => 4 | .swapArmed => 5
  | .inService => 6 | .repairing => 7 | .invalid => 8 | .retired => 9

/-- R84: powered time of a tile in ns, counted while its regulator block supplies VLOG. -/
def tilePoweredNs (s : State) (t : Nat) : Nat :=
  FMap.get 0 s.pwrBase (clusterOf t) + match FMap.find s.pwrSince (clusterOf t) with
    | none => 0
    | some a => ageNs s - a
/-- R84, obj 0x3100:1: tile powered time in seconds. -/
def tilePowered (s : State) (t : Nat) : Nat := tilePoweredNs s t / 1000000000

/-- R84: a cluster's block begins or stops supplying VLOG. -/
def vlogOn (s : State) (c : Nat) : State :=
  if (FMap.find s.pwrSince c).isSome then s else { s with pwrSince := FMap.set s.pwrSince c (ageNs s) }
def vlogOff (s : State) (c : Nat) : State :=
  match FMap.find s.pwrSince c with
  | none => s
  | some a => { s with pwrBase := FMap.put 0 s.pwrBase c (FMap.get 0 s.pwrBase c + (ageNs s - a)), pwrSince := FMap.del s.pwrSince c }

/-! ### Commands that wait for banks (R199) -/

/-- R261: the logical array number of a bank's array in a placement, by which host commands name it. -/
def lanOf (pl : Placement) (k : Nat) : Nat :=
  match pl.tiles.find? fun t => t.tile == bankTile k with
  | none => bankArray k
  | some t => (t.arrays.findIdx? (· == bankArray k)).getD (bankArray k)

/-- R199: the result word of a maintenance command: array number, and cells left outside their windows. -/
def bankWord (array cells : Nat) : W256 := BitVec.ofNat 256 (put array 6 250 + put cells 21 229)

/-- The `aux` of a waiting maintenance command holds one entry for each bank: its key, and once it is done 2^24 × (1 + reason
+ 2^16 × cells). -/
def auxDone (e : Nat) : Bool := decide (2 ^ 24 ≤ e)
def auxKey (e : Nat) : Nat := e % 2 ^ 24
def auxReason (e : Nat) : Nat := (e / 2 ^ 24 - 1) % 65536
def auxCells (e : Nat) : Nat := (e / 2 ^ 24 - 1) / 65536

/-- R199: completes the maintenance command of queue `q` once each of its banks is done. -/
def finishBanks (s : State) (q : Nat) : State :=
  match (queue s q).running with
  | none => s
  | some r =>
    if r.begun && !r.aux.isEmpty && r.aux.all auxDone then
      match r.aux.find? fun e => auxReason e != 0 with
      | none => completeCmd s q []
      | some e => refuseCmd s q (auxReason e) [bankWord (lanOf (part s (qPart q)).place (auxKey e)) (if auxReason e = 0x0701 then auxCells e else 0)]
    else s

/-- The operation of a bank ends with a reason, 0 for success: a host command that waits for it is told. -/
def bankDone (s : State) (k reason cells : Nat) : State :=
  let s := updBank s k fun b => { b with op := .none }
  (List.range 16).foldl (fun s p =>
    match (queue s (8 * p + 4)).running with
    | none => s
    | some r =>
      if r.begun && r.aux.contains k then
        let r := { r with aux := r.aux.map fun e => if e = k then k + 2 ^ 24 * (1 + reason + 65536 * cells) else e }
        finishBanks (setQueue s (8 * p + 4) { queue s (8 * p + 4) with running := some r }) (8 * p + 4)
      else s) s

/-- R52, R83: a calibration is abandoned; the bank returns to the state it came from, with its previous table. -/
def calAbort (s : State) (k reason : Nat) : State :=
  let b := bankOf s k
  if b.st = .calibrating then
    -- R80, R83: a copy that the scheduler has just programmed is calibrated again, not programmed again
    let again := b.prior == .programmed && b.op == .scheduler && reason != 0x0702
    bankDone (updBank s k fun b => { b with st := b.prior, plan := if again then 2 else 0 }) k reason 0
  else if b.calInPlace then bankDone (updBank s k fun b => { b with calInPlace := false }) k reason 0
  else s

/-! ### Latched temperature and tables (R63–R72) -/

/-- R64: the latched temperature in 1/16 °C and the band of a tile. -/
def latchOf (s : State) (t : Nat) : Int × Nat := FMap.get (0, 0) s.latch t

/-- R63: lower edge of a band in 1/16 °C; band 0 has none. -/
def bandLow (b : Nat) : Int := 16 * (20 + 10 * (b : Int))
/-- R63: the band of a temperature. -/
def bandFor (t : Int) : Nat := ((List.range 8).filter fun b => b == 0 || decide (bandLow b ≤ t)).length - 1
/-- R64: the band after a latch: up at the edge, down only more than 1 K below it. -/
def bandMove (b : Nat) (t : Int) : Nat :=
  if bandLow (b + 1) ≤ t ∧ b < 7 then bandFor t
  else if 0 < b ∧ t < bandLow b - 16 then
    -- the highest band whose lower edge is not more than 1 K above t
    ((List.range (b + 1)).filter fun x => x == 0 || decide (bandLow x - 16 ≤ t)).length - 1
  else b

/-- R52, R69: a table is valid for the bank's present programming and block; PROGRAM abandons the earlier ones. -/
def tableValid (b : Bank) (c : CalTable) : Bool := b.st != .programming && c.progCycle == b.progCycles && some c.block == b.block
def validTables (b : Bank) : FMap CalTable := b.tables.filter fun e => tableValid b e.2

/-- R72: the table used at temperature `t` in band `band`: the band's, else the one of nearest TREF. DESIGN CHOICE (log 108): of two
whose TREF lies equally near, the lower band's. -/
def chooseTable (b : Bank) (band : Nat) (t : Int) : Option CalTable :=
  let v := validTables b
  match FMap.find v band, v with
  | some c, _ => some c
  | none, [] => none
  | none, e :: r =>
    some (r.foldl (fun (x : Nat × CalTable) y =>
      if (toSigned 16 y.2.tref - t).natAbs < (toSigned 16 x.2.tref - t).natAbs then y else x) e).2

/-- R70, R71: loads the record for the tile's latched band into the bank's place of the table store. -/
def loadTable (s : State) (k : Nat) : State :=
  let l := latchOf s (bankTile k)
  updBank s k fun b => { b with cur := chooseTable b l.2 l.1, newTable := false }

/-- R70: the table in use. -/
def curTable (b : Bank) : Option CalTable := b.cur

/-- R421: the band that a mode change or the enable forces on a tile. -/
def forcedBand (s : State) (t : Nat) : Option Nat :=
  match ownerOf s t with
  | none => none
  | some (p, _) => if objD 0xFF s (pidx 0x51 p) 35 < 8 then some (objD 0xFF s (pidx 0x51 p) 35) else none

/-- R421: where a band is forced on the tile, T lies within its range widened by 2 K on each side. -/
def forcedRangeOk (s : State) (t : Nat) (v : Int) : Bool :=
  match forcedBand s t with
  | none => true
  | some b => (b == 0 || decide (bandLow b - 32 ≤ v)) && (b == 7 || decide (v ≤ bandLow (b + 1) + 32))

/-- R76: the conditions under which a bank's stated bound holds. -/
def boundNow (s : State) (k : Nat) : Bool :=
  let b := bankOf s k
  let t := bankTile k
  let l := latchOf s t
  match curTable b with
  | none => false
  | some c =>
    b.st == .inService && decide (tilePowered s t ≤ 7 * 31557600) && decide (b.progCycles ≤ 20000) && tableValid b c &&
    c.band == l.2 && decide (c.resid ≤ 350) && decide (b.drift ≤ 250) && decide (tilePowered s t < b.driftTime + 3600) &&
    decide (320 ≤ l.1) && decide (l.1 < 1520) && forcedRangeOk s t l.1

/-- The banks of a tile that hold a block in service. -/
def serviceBanks (s : State) (t : Nat) : List Nat :=
  (s.banks.filter fun e => bankTile e.1 == t && e.2.st == .inService).map (·.1)

/-- R83: T has left the range, widened by 2 K on each side, of the band in which the bank's calibration started. -/
def calLeft (b : Bank) (t : Int) : Bool :=
  (b.st == .calibrating || b.calInPlace || b.fitting) &&
    ((b.calBand != 0 && decide (t < bandLow b.calBand - 32)) || (decide (b.calBand < 7) && decide (bandLow (b.calBand + 1) + 32 < t)))

/-- R52: the fit of a repair begins, in the tile's present band. -/
def startFit (s : State) (k : Nat) : State :=
  let l := latchOf s (bankTile k)
  updBank s k fun b => { b with fitting := true, calBand := l.2, calT := l.1 }

/-- R83: a running fit whose band T has left is given up. DESIGN CHOICE (log 106): a repair's fit has no state to go back to and is started
again at once in the new band; it counts as no failure. -/
def fitMoved (s : State) (k : Nat) : State := if (bankOf s k).fitting then startFit s k else calAbort s k 0x0610

/-- R70: the banks of a tile whose records its table store holds. -/
def storedBanks (s : State) (t : Nat) : List Nat :=
  (s.banks.filter fun e => bankTile e.1 == t && (e.2.st == .inService || e.2.cur.isSome)).map (·.1)

/-- R64, R83, R421: a tile latches the higher of the two readings of its hot spot, and moves its band. -/
def latchTile (s : State) (t : Nat) : State :=
  let h := FMap.get (0, 0) s.hot (2 * clusterOf t + fld t 6 4 / 4)
  let v := if h.1 < h.2 then h.2 else h.1
  let s := { s with latch := FMap.set s.latch t (v, if (forcedBand s t).isSome then (latchOf s t).2 else bandMove (latchOf s t).2 v) }
  let s := (storedBanks s t).foldl (fun s k => updBank s k fun b => { b with tSum := b.tSum + v, tCount := b.tCount + 1 }) s
  ((s.banks.filter fun e => bankTile e.1 == t && calLeft e.2 v).map (·.1)).foldl fitMoved s

/-! ### Results (R35, R39, R41, R65) -/

/-- R68: the fields of a column entry for a phase: gain code, offset, slope. -/
def colEntry (c : Option CalTable) (j ph : Nat) : Int × Int × Int :=
  match c with
  | none => (0x8000, 0, 0)
  | some c =>
    let w := (c.cols.getD j 0).toNat
    if ph = 0 then (fld w 47 32, toSigned 12 (fld w 19 8), toSigned 8 (fld w 7 0))
    else (fld w 63 48, toSigned 12 (fld w 31 20), toSigned 8 (fld w 7 0))

/-- R66: the trim points of a phase. -/
def trimOf (c : Option CalTable) (ph : Nat) : List Int :=
  match c with
  | none => []
  | some c => ((c.trim.drop (16 * ph)).take 16).map fun x => toSigned 16 x.toNat

/-- R41: one pass over the 1,040 columns. `xs` are the 1,024 codes applied, `ps` the phase codes of phases 0 and 1. -/
def passResults (c : Option CalTable) (t : Int) (xs : List Int) (ps : List (List (BitVec 12))) : List Int :=
  let sum := fun (l : List Int) => l.foldl (· + ·) 0
  let s0 := sum (xs.take 512)
  let s1 := sum (xs.drop 512)
  let dT := match c with
    | none => 0
    | some c => t - toSigned 16 c.tref
  let t0 := trimOf c 0
  let t1 := trimOf c 1
  let p0 := ps.getD 0 []
  let p1 := ps.getD 1 []
  (List.range 1040).map fun j =>
    let e0 := colEntry c j 0
    let e1 := colEntry c j 1
    let v0 := calibrate36 (p0.getD j 0).toInt e0.1 e0.2.1 e0.2.2 dT t0 - 8 * s0 * (2 ^ 36 : Nat)
    let v1 := calibrate36 (p1.getD j 0).toInt e1.1 e1.2.1 e1.2.2 dT t1 - 8 * s1 * (2 ^ 36 : Nat)
    rneInt (v0 + v1) 36

/-- R39: high nibble and low nibble less 8 of an A8 code. -/
def highNib (x : Int) : Int := x / 16
def lowNib8 (x : Int) : Int := x % 16 - 8

/-- R39, R41: the 1,040 physical results of an evaluation; `codes` gives the phase codes of each pass and phase in order. -/
def physResults (b : Bank) (t : Int) (wide : Bool) (xs : List Int) (codes : List (List (BitVec 12))) : List Int :=
  let c := curTable b
  if wide then
    let h := passResults c t (xs.map highNib) (codes.take 2)
    let l := passResults c t (xs.map lowNib8) (codes.drop 2)
    (List.range 1040).map fun j => 16 * h.getD j 0 + l.getD j 0 + 8 * b.sums.getD j 0
  else passResults c t xs codes

/-- R35: the logical results as FP32 patterns, from the physical results and Σx. -/
def logicalRow (format : Nat) (r : List Int) (sumx : Int) : List Nat :=
  if format = 3 then
    (List.range 512).map fun m => logical32 3 (16 * r.getD (2 * m + 1) 0 + r.getD (2 * m) 0 + 8 * sumx)
  else (List.range 1024).map fun j => logical32 format (r.getD j 0)

/-! ### Swaps (R53) -/

/-- R53: applies a partition's pending swap record: the maps change together, and the SWAPs that wait complete. -/
def applySwap (s : State) (p : Nat) : State :=
  let ks := (part s p).swap
  if ks.isEmpty then s
  else
    let s := ks.foldl (fun s k =>
      let s := updBank s k fun b => { b with st := .inService }
      let s := updBank s (sibling k) fun b => if b.st = .inService then { b with st := .standby, boundHeld := false } else b
      let s := { s with bankMap := FMap.set s.bankMap (bankKey (bankTile k) (bankArray k) 0) (k % 2) }
      bankDone (updBank (loadTable s k) k fun b => { b with plan := 0 }) k 0 0) s
    updPart s p fun x => { x with swap := [], holdSwap := true }

end Sys2Proof.Machine
end

