-- ==== Sys2Proof/Machine/Fabric.lean ====
section
/-! DEFINITION. The wafer fabric (R215–R240): routers, links, attachments at the edge, lane stops and lanes, and what a failure holds back:
transfers, reduction legs and flows to the memory bridges. -/
namespace Sys2Proof.Machine

/-! ### Routers and links (R215, R217, R242) -/

/-- The tiles of a cluster. -/
def clusterTiles (c : Nat) : List Nat := (List.range 8).map fun i => c / 12 * 2048 + c / 6 % 2 * 1024 + c % 6 * 128 + i * 16
/-- R216: the tile of a cluster's lane stop. -/
def stopTile (c : Nat) : Nat := (clusterTiles c).getD 1 0

/-- R242: state of a tile's router: 3 failed. -/
def routerState (s : State) (t : Nat) : Nat := objD 0 s 0x3102 4 t
/-- R242: the failed ports of a tile's router. -/
def failedPorts (s : State) (t : Nat) : Nat := objD 0 s 0x3102 3 t

/-- The port of a router towards a neighbour: 0 north (Y less 1), 1 east, 2 south, 3 west. -/
def portTo (a b : Nat) : Nat := if b + 72 = a then 0 else if b = a + 1 then 1 else if b = a + 72 then 2 else 3

/-- R217: the memory bridge whose die is attached to an edge router. -/
def bridgeAt (n : Nat) : Option Nat :=
  if n % 72 % 14 = 0 ∨ n % 72 % 14 = 13 ∨ 70 ≤ n % 72 then none
  else if n < 72 then some (n % 72 / 14)
  else if 2232 ≤ n then some (n % 72 / 14 + 5) else none

/-- R217: the link die that is attached to an edge router. -/
def linkDieAt (n : Nat) : Option Nat :=
  let y := n / 72
  let k := if 4 ≤ y ∧ y ≤ 11 then some 0 else if 20 ≤ y ∧ y ≤ 27 then some 1 else none
  if n % 72 = 0 then k else if n % 72 = 71 then k.map (· + 2) else none

/-- R217: the outward port of an edge router that has an attachment. -/
def outPort (n : Nat) : Nat := if n < 72 then 0 else if 2232 ≤ n then 2 else if n % 72 = 0 then 3 else 1

/-- R216, R217, R242: a port of a tile's router has a link: to a neighbour, to a bridge or link die at the edge, to its tile, and to the cluster's
lane stop. -/
def hasLink (t port : Nat) : Bool :=
  let n := routerNo t
  match port with
  | 0 => decide (72 ≤ n) || (bridgeAt n).isSome
  | 1 => decide (n % 72 < 71) || (linkDieAt n).isSome
  | 2 => decide (n < 2232) || (bridgeAt n).isSome
  | 3 => decide (0 < n % 72) || (linkDieAt n).isSome
  | 4 => true
  | 5 => t == stopTile (clusterOf t)
  | _ => false

/-- R217, R240: the link between two routers of a route works; a route to a bridge ends at node 4095, over the outward port. -/
def linkOk (s : State) (a b : Nat) : Bool :=
  if b = 4095 then !bitAt (failedPorts s (routerTile a)) (outPort a)
  else !bitAt (failedPorts s (routerTile a)) (portTo a b) && !bitAt (failedPorts s (routerTile b)) (portTo b a)

/-- R240: a failed router, or a failed link between neighbours, lies on a route. -/
def pathBlocked (s : State) (path : List Nat) : Bool :=
  path.any (fun n => n != 4095 && routerState s (routerTile n) == 3) || (path.zip (path.drop 1)).any fun e => !linkOk s e.1 e.2

def span (a b : Nat) : List Nat := if a ≤ b then (List.range (b + 1 - a)).map (a + ·) else (List.range (a + 1 - b)).map (a - ·)
/-- R222: X then Y between two routers. -/
def pathXY (a b : Nat) : List Nat :=
  (span (a % 72) (b % 72)).map (fun x => a / 72 * 72 + x) ++ ((span (a / 72) (b / 72)).drop 1).map fun y => y * 72 + b % 72

/-! ### Lanes and lane stops (R216, R228) -/

/-- R228: the granted lane that runs from one cluster's stop to another's: the first of the placement. -/
def laneFor (ls : List Lane) (a b : Nat) : Option Lane := ls.find? fun l => l.src == a && l.dsts.contains b

/-- R242: a lane stop is out: its router or its port has failed. -/
def stopOut (s : State) (c : Nat) : Bool := routerState s (stopTile c) == 3 || bitAt (failedPorts s (stopTile c)) 5

/-- R227, R229: the mesh hops between a tile and the lane stop of its cluster. -/
def stopPath (t : Nat) : List Nat := pathXY (routerNo t) (routerNo (stopTile (clusterOf t)))

/-! ### What holds a transfer back (R239, R240) -/

/-- R240: a tile's data cannot leave it: its router or its port has failed. -/
def tileCut (s : State) (t : Nat) : Bool := routerState s t == 3 || bitAt (failedPorts s t) 4
/-- R239, R240: data cannot reach a tile: it is cut off, or its cluster's block is lost. -/
def tileClosed (s : State) (t : Nat) : Bool := tileCut s t || decide (2 ≤ FMap.get 0 s.blockSt (clusterOf t))

/-- R225: the route of the flow that a placement declares from a PTI to a memory of another; X then Y where none is declared. -/
def flowPath (pl : Placement) (spti dkind dpti src dst : Nat) : List Nat :=
  match pl.flows.find? fun f => f.spti == spti && f.dkind == dkind && f.dest == dpti with
  | some f => f.path
  | none => pathXY (routerNo src) (routerNo dst)

/-- The routers that a SEND passes. -/
def flightRouters (f : Flight) : List Nat := if f.lane.isSome then stopPath f.src ++ (stopPath f.dst).reverse else f.route

/-- R239, R240: a SEND is held by a failure on its route, on the mesh or over its lane. -/
def flightHeld (s : State) (f : Flight) : Bool :=
  !f.through && (tileCut s f.src || tileClosed s f.dst ||
    if f.lane.isSome then
      stopOut s (clusterOf f.src) || stopOut s (clusterOf f.dst) || pathBlocked s (stopPath f.src) || pathBlocked s (stopPath f.dst)
    else pathBlocked s f.route)

/-! ### Reductions (R232–R235) -/

/-- R233: a value that tree() carries up unchanged passes its levels. -/
def rclimb (f : RFlight) : Nat → RFlight
  | 0 => f
  | k + 1 => if 1 < f.n ∧ f.n % 2 = 1 ∧ f.idx = f.n - 1 then rclimb { f with lvl := f.lvl + 1, idx := f.n / 2, n := f.n - f.n / 2 } k else f

/-- Additions that tree() makes over `n` values before level `lvl`. -/
def addsBefore (n : Nat) : Nat → Nat
  | 0 => 0
  | k + 1 => n / 2 + addsBefore (n - n / 2) k

def reduceOf (s : State) (p rid : Nat) : Option Reduce := (part s p).place.reduces.find? fun d => d.rid == rid

/-- R233, R372: the unit that makes the addition of an operand: 2 × tile address for a router, and 1 for a lane stop, 2 for the
tile's vector engine. -/
def unitOf (d : Reduce) (f : RFlight) : Nat := d.units.getD (addsBefore d.contribs.length f.lvl + f.idx / 2) 0

/-- The tile of a unit. -/
def unitTile (u : Nat) : Nat := u / 32 * 16

/-- Where a unit lies on a route: its router, or on lanes its cluster. -/
def unitPoint (onLanes : Bool) (u : Nat) : Nat := if onLanes then clusterOf (unitTile u) else routerNo (unitTile u)

/-- R233: the first point of a route that another also has, which is where their operands meet; at the last addition its end (R233). -/
def meetAt (a b : List Nat) (last : Bool) : Option Nat := if last then a.getLast? else a.find? b.contains

/-- A route up to a point; the whole of it where the point is not on it. -/
def routeTo (r : List Nat) (n : Nat) : List Nat := if r.contains n then r.takeWhile (· != n) ++ [n] else r
/-- A route from a point on. -/
def routeFrom (r : List Nat) (n : Nat) : List Nat := r.dropWhile (· != n)

/-- R233, R254: the route of a contribution of PTI `c`, at tile `src`, to the destination tile `dst`: routers, or clusters of lane stops. -/
def contribRoute (flows : List Flow) (onLanes : Bool) (c dpti src dst : Nat) : Option (List Nat) :=
  if onLanes then some (if clusterOf src = clusterOf dst then [clusterOf dst] else [clusterOf src, clusterOf dst])
  else (flows.find? fun f => f.spti == c && f.dkind != 2 && f.dest == dpti).map (·.path)

/-- The part of its route that an operand has before the unit of its next addition, or before the destination where it is the result. -/
def legOf (d : Reduce) (f : RFlight) : List Nat := if f.n ≤ 1 then f.route else routeTo f.route (unitPoint d.onLanes (unitOf d f))

/-- The tile that an operand goes to next. -/
def legTile (s : State) (d : Reduce) (f : RFlight) : Nat :=
  if f.n ≤ 1 then ((ptile (part s f.part).place d.dpti).map (·.tile)).getD 0 else unitTile (unitOf d f)

/-- The routers that an operand of a reduction passes on its next leg. -/
def legRouters (s : State) (d : Reduce) (f : RFlight) : List Nat :=
  if d.onLanes then (if f.src = 0 then [] else stopPath (f.src - 1)) ++ (if f.n ≤ 1 then (stopPath (legTile s d f)).reverse else [])
  else legOf d f

/-- R240: the next leg of an operand of a reduction is held. -/
def legHeld (s : State) (d : Reduce) (f : RFlight) : Bool :=
  !f.through && ((decide (f.src ≠ 0) && tileCut s (f.src - 1)) || routerState s (legTile s d f) == 3
    || (decide (f.n ≤ 1) && tileClosed s (legTile s d f)) || pathBlocked s (legRouters s d f)
    || (d.onLanes && (legOf d f).any (stopOut s)))

/-- R240: an operand of a reduction in flight is held. -/
def operandHeld (s : State) (f : RFlight) : Bool := (reduceOf s f.part f.rid).any fun d => legHeld s d f

/-! ### Flows to the memory bridges (R225, R331) -/

/-- R240: a flow of a tile to an HBM region is held. -/
def bridgeCut (s : State) (p t : Nat) : Bool :=
  tileCut s t || match (part s p).place.tiles.findIdx? (fun x => x.tile == t) with
    | none => false
    | some i => (part s p).place.flows.any fun f => f.spti == i && f.dkind == 2 && f.legs.any fun e => pathBlocked s (e.2 ++ [4095])

/-- Data of a tile that is on its way over the bridges: page reads and the Retriever's calls. -/
def awaitsBridge (s : State) (t : Nat) (r : TileRun) : Bool :=
  r.kvrds.any (·.far) || r.calls.any (fun k => k.eng == 1) || s.fills.any fun f => f.2.1 == t

/-- R239, R240: the tile whose data a failure holds back, for a partition that has such a flow. -/
def heldFlow (s : State) (p : Nat) : Option Nat :=
  match s.flights.find? fun f => f.part == p && flightHeld s f with
  | some f => some f.src
  | none => match s.rflights.find? fun f => f.part == p && operandHeld s f with
    | some f => some (if f.src = 0 then (reduceOf s p f.rid).elim 0 (legTile s · f) else f.src - 1)
    | none => (s.tiles.find? fun e => e.2.part == p && awaitsBridge s e.1 e.2 && bridgeCut s p e.1).map (·.1)

/-! ### Flits (R220, R242) -/

/-- R242: bytes that pass routers are counted in flits of 64 bytes. -/
def forward (s : State) (routers : List Nat) (bytes : Nat) : State :=
  routers.foldl (fun s n => addObj s 0x3102 1 ((bytes + 63) / 64) (routerTile n)) s

end Sys2Proof.Machine
end

