-- ==== Sys2Proof/Machine/KvOps.lean ====
section
/-! DEFINITION. The paged KV pool (R276–R302): sets and tables, the allocation call, commit and discard, rings,
and the bytes that a partition virtual address names (R10, R282). -/
namespace Sys2Proof.Machine

/-! ### Pool layout (R281, R282) -/

def kvEsize (g : KvGroup) : Nat := if g.fmt = 1 then 2 else 1
def kvGroup (pl : Placement) (g : Nat) : KvGroup := pl.kv.groups.getD g ⟨0, 0, 1, 1, 32, 0, 0⟩
def kvNgroup (pl : Placement) : Nat := pl.kv.groups.length
/-- R281: first page of set `n` of a group. -/
def setPage (g : KvGroup) (n : Nat) : Nat := g.basepage + n * g.layers
def pageStride (pl : Placement) : Nat := pl.kv.pageUnits * 4096
/-- R282: pages of the page area. -/
def npage (pl : Placement) : Nat := (pl.kv.groups.map fun g => g.basepage + g.nset * g.layers).foldl Nat.max 0
def align4k (n : Nat) : Nat := (n + 4095) / 4096 * 4096
def descBase (pl : Placement) : Nat := align4k (npage pl * pageStride pl)
def nsets (pl : Placement) : Nat := (pl.kv.groups.map (·.nset)).foldl (· + ·) 0
def tableBase (pl : Placement) : Nat := align4k (descBase pl + 8 * nsets pl)
def tableStride (pl : Placement) : Nat := (8 + 4 * pl.kv.maxent + 63) / 64 * 64
/-- R282: the pool size. -/
def poolSize (pl : Placement) : Nat := tableBase pl + 65536 * kvNgroup pl * tableStride pl

/-- The set whose first page is `page`, in a group (R281, R297). -/
def setOfPage (g : KvGroup) (page : Nat) : Option Nat :=
  if g.basepage ≤ page ∧ g.layers ≠ 0 ∧ (page - g.basepage) % g.layers = 0 ∧ (page - g.basepage) / g.layers < g.nset then
    some ((page - g.basepage) / g.layers)
  else none

/-- R196: a page number of the partition's pool. -/
def pageInPool (pl : Placement) (page : Nat) : Bool :=
  pl.kv.groups.any fun g => decide (g.basepage ≤ page) && decide (page < g.basepage + g.nset * g.layers)

/-! ### Set descriptors (R283, R296) -/

def setKey (p g n : Nat) : Nat := p * 2 ^ 40 + g * 2 ^ 32 + n
/-- STATE of a set: 0 FREE, 1 HELD, 2 NEW. -/
def setState (s : State) (p g n : Nat) : Nat := (FMap.get (0, 0) s.kvSets (setKey p g n)).1
def setRef (s : State) (p g n : Nat) : Nat := (FMap.get (0, 0) s.kvSets (setKey p g n)).2
def putSet (s : State) (p g n st rc : Nat) : State :=
  { s with kvSets := FMap.put (0, 0) s.kvSets (setKey p g n) (st, rc) }
/-- R296: one entry fewer names the set; at 0 it returns to FREE. -/
def dropRef (s : State) (p g n : Nat) : State :=
  let rc := setRef s p g n - 1
  if rc = 0 then putSet s p g n 0 0 else putSet s p g n (setState s p g n) rc
/-- One more entry names the set; a FREE set becomes HELD (R297). -/
def addRef (s : State) (p g n : Nat) : State :=
  putSet s p g n (if setState s p g n = 0 then 1 else setState s p g n) (setRef s p g n + 1)

/-- The FREE sets of a group, ascending. -/
def freeSets (s : State) (p g : Nat) : List Nat :=
  (List.range (kvGroup (part s p).place g).nset).filter fun n => setState s p g n == 0

/-! ### Tables (R284) -/

def table (q : Seq) (g : Nat) : List Nat := FMap.get [] q.tables g
def setTable (q : Seq) (g : Nat) (t : List Nat) : Seq := { q with tables := FMap.set q.tables g t }

/-- R193, R297: every entry of every table goes, and with it the sequence and its handle. -/
def closeSeq (s : State) (p q : Nat) : State :=
  match seqOf s p q with
  | none => s
  | some x =>
    let s := (List.range (kvNgroup (part s p).place)).foldl (fun t g =>
      (table x g).foldl (fun t n => dropRef t p g n) t) s
    delSeq s p q

/-- R282: the lowest free handle of a partition. -/
def freeHandle (s : State) (p : Nat) : Nat :=
  let used := (s.seqs.filter fun e => e.1 / 2 ^ 32 == p).map fun e => e.2.handle
  ((List.range 65536).find? fun h => !used.contains h).getD 65535

/-- PALLOC (R297): appends entries naming new HELD sets; none, or the reason. -/
def kvPalloc (s : State) (p q g n : Nat) : Sum Nat State :=
  let pl := (part s p).place
  match seqOf s p q with
  | none => .inl 0x0207
  | some x =>
    let free := freeSets s p g
    if free.length < n then .inl 0x0304
    else if pl.kv.maxent < (table x g).length + n then .inl 0x030F
    else
      let take := free.take n
      let s := take.foldl (fun t k => putSet t p g k 1 1) s
      .inr (setSeq s p q (setTable x g (table x g ++ take)))

/-- PFREE (R297): removes every entry at or beyond a position. -/
def kvPfree (s : State) (p q g fromPos : Nat) : Sum Nat State :=
  match seqOf s p q with
  | none => .inl 0x0207
  | some x =>
    if fromPos < x.len then .inl 0x0105
    else
      let keep := (fromPos + 63) / 64
      let s := ((table x g).drop keep).foldl (fun t n => dropRef t p g n) s
      .inr (setSeq s p q (setTable x g ((table x g).take keep)))

/-- PTEDIT (R297): rewrites or appends one entry. -/
def kvPtedit (s : State) (p q g index page : Nat) : Sum Nat State :=
  let pl := (part s p).place
  match seqOf s p q with
  | none => .inl 0x0207
  | some x =>
    if !pageInPool pl page then .inl 0x0106
    else
      match setOfPage (kvGroup pl g) page with
      | none => .inl 0x0105
      | some n =>
        let t := table x g
        if t.length < index then .inl 0x0105
        else if index = t.length then
          if pl.kv.maxent ≤ t.length then .inl 0x030F
          else .inr (setSeq (addRef s p g n) p q (setTable x g (t ++ [n])))
        else .inr (setSeq (dropRef (addRef s p g n) p g (t.getD index 0)) p q (setTable x g (t.set index n)))

/-- PSHARE (R297): an empty sequence shares the prefix entries of another. -/
def kvPshare (s : State) (p q src npos : Nat) : Sum Nat State :=
  let ng := kvNgroup (part s p).place
  match seqOf s p q, seqOf s p src with
  | some x, some y =>
    if x.len ≠ 0 ∨ (List.range ng).any (fun g => !(table x g).isEmpty) ∨ y.len < npos then .inl 0x0105
    else
      let k := (npos + 63) / 64
      let s := (List.range ng).foldl (fun t g => ((table y g).take k).foldl (fun t n => addRef t p g n) t) s
      .inr (setSeq s p q { x with len := npos, tables := (List.range ng).map fun g => (g, (table y g).take k) })
  | _, _ => .inl 0x0207

/-! ### The allocation call (R292–R294) -/

/-- R292 step 1: what page index `i` of a table needs: 0 nothing, 1 a new set, 2 a copy. -/
def indexNeed (s : State) (p g : Nat) (t : List Nat) (i : Nat) : Nat :=
  if t.length ≤ i then 1
  else if 1 < setRef s p g (t.getD i 0) then 2
  else 0

/-- The page indices that a slot of length `l` and `n` nodes writes (R292). -/
def stepIndices (l n : Nat) : List Nat := (List.range ((l + n - 1) / 64 + 1 - l / 64)).map (· + l / 64)

/-- Slots in ascending order of number. -/
def insertSlot (b : SlotB) : List SlotB → List SlotB
  | [] => [b]
  | c :: t => if b.slot ≤ c.slot then b :: c :: t else c :: insertSlot b t
def sortSlots (l : List SlotB) : List SlotB := l.foldr insertSlot []

/-- R286: the ring tags of the partition's tiles that name one of `n` pages from `page` become invalid, but for those of slot `keep`. -/
def untagRange (s : State) (p page n : Nat) (keep : Option Nat) : State :=
  let pl := (part s p).place
  { s with ringTags := s.ringTags.filter fun e =>
      !(pl.tiles.any (fun t => t.tile == e.1 / 2 ^ 40) && decide (page + 1 ≤ e.2) && decide (e.2 ≤ page + n) && some (e.1 / 2 ^ 20 % 2 ^ 12) != keep) }

/-- R286: no ring holds a page of a set that the allocation call gives out. -/
def untagSet (s : State) (p g n : Nat) : State :=
  let gr := kvGroup (part s p).place g
  untagRange s p (setPage gr n) gr.layers none

/-- R292 step 4 for one index and what step 1 decided that it needs: the new set, the changed table, and what to undo. -/
def allocIndex (p g len : Nat) (a : State × Seq × SlotB × List (Nat × Nat × Nat × Nat × Nat)) (e : Nat × Nat) :
    State × Seq × SlotB × List (Nat × Nat × Nat × Nat × Nat) :=
  let (s, x, b, cs) := a
  let i := e.1
  let t := table x g
  match e.2, (freeSets s p g).head? with
  | 1, some n => (untagSet (putSet s p g n 2 1) p g n, setTable x g (t ++ [n]), { b with allocs := b.allocs ++ [(g, i, n, 0)] }, cs)
  | 2, some n =>
    let old := t.getD i 0
    let s := addObj (untagSet (putSet (dropRef s p g old) p g n 2 1) p g n) (pidx 0x56 p) 6 1
    (s, setTable x g (t.set i n), { b with allocs := b.allocs ++ [(g, i, n, old + 1)] },
      if i * 64 < len then cs ++ [(g, old, n, i * 64, len)] else cs)
  | _, _ => (s, x, b, cs)

/-- R292, R293: the allocation call for one bound slot. -/
def allocSlot (p : Nat) (s : State) (r : StepRun) (b : SlotB) : State × StepRun × SlotB :=
  let pl := (part s p).place
  if b.masked || b.away then (s, r, b)
  else
    match seqOf s p b.seq with
    | none => (s, r, b)
    | some x =>
      let idx := stepIndices b.len b.nnode
      let gs := List.range (kvNgroup pl)
      let needs := fun g => (idx.filter fun i => indexNeed s p g (table x g) i != 0).length
      let cause :=
        if kvNgroup pl ≠ 0 ∧ idx.any (fun i => decide (pl.kv.maxent ≤ i)) then 0x030F
        else if gs.any (fun g => decide ((freeSets s p g).length < needs g)) then 0x0304
        else 0
      if cause ≠ 0 then
        let s := addObj s (pidx 0x56 p) 5 1
        let s := if r.noPageRaised then s else raise s { sev := 3, cls := 3, part := some p, reason := cause }
        (s, { r with noPageRaised := true }, { b with masked := true, noPage := true, cause := cause })
      else
        let plan := gs.map fun g => (g, idx.map fun i => (i, indexNeed s p g (table x g) i))
        let (s, x, b, cs) := plan.foldl (fun a g => g.2.foldl (allocIndex p g.1 b.len) a) (s, x, b, [])
        (setSeq s p b.seq x, { r with copies := r.copies ++ cs }, b)

/-- R292: the allocation call serves the bound slots in ascending slot order; a member of a group then sends MASKS (R375). -/
def allocCall (s : State) (p : Nat) : State :=
  match (part s p).step with
  | none => s
  | some r =>
    let (s, r, bs) := (sortSlots r.slots).foldl (fun (a : State × StepRun × List SlotB) b =>
      let (s, r, b) := allocSlot p a.1 a.2.1 b
      (s, r, a.2.2 ++ [b])) (s, r, [])
    sendMasks (updPart s p fun x => { x with step := some { r with slots := bs } }) p

/-- R294: undoes what the allocation call gave one slot. -/
def undoSlot (p : Nat) (s : State) (b : SlotB) : State :=
  b.allocs.reverse.foldl (fun t a =>
    let (g, i, n, old) := a
    match seqOf t p b.seq with
    | none => t
    | some x =>
      let t := putSet t p g n 0 0
      if old = 0 then setSeq t p b.seq (setTable x g ((table x g).take i))
      else setSeq (addRef t p g (old - 1)) p b.seq (setTable x g ((table x g).set i (old - 1)))) s

/-! ### Rings (R286, R287) -/

def tagKey (t layer slot pos : Nat) : Nat := t * 2 ^ 40 + layer * 2 ^ 32 + slot * 2 ^ 20 + pos
def kvGroupOf (pl : Placement) (layer : Nat) : Option Nat :=
  pl.kv.groups.findIdx? fun g => decide (g.l0 ≤ layer) && decide (layer < g.l0 + g.layers)
/-- The KV tile record of a PTI for a layer (R279). -/
def kvTile (pl : Placement) (pti layer : Nat) : Option KvTile :=
  pl.kv.tiles.find? fun k => k.pti == pti && k.layer == layer
/-- R279: bytes of a page part. -/
def partBytes (k : KvTile) (g : KvGroup) : Nat := 128 * k.nh * g.dh * kvEsize g
/-- R286: scratchpad offset of a ring position. -/
def ringOff (pl : Placement) (k : KvTile) (g : KvGroup) (slot pos : Nat) : Nat :=
  let base := match ptile pl k.pti with
    | none => 0
    | some t => ((t.regions.find? fun r => r.ridx == k.ring).map (·.base)).getD 0
  base + (slot * k.w + pos) * partBytes k g
/-- Offset within a page part of element `d` of head `j` of the tile at position `q`; `v` 1 for V (R281, by held heads). -/
def partOff (k : KvTile) (g : KvGroup) (v q j d : Nat) : Nat :=
  v * (64 * k.nh * g.dh * kvEsize g) + ((q * k.nh + j) * g.dh + d) * kvEsize g
/-- R281: pool offset within a page of element `d` of head `h` at position `q`. -/
def pageOff (g : KvGroup) (v q h d : Nat) : Nat :=
  v * (64 * g.nkvh * g.dh * kvEsize g) + ((q * g.nkvh + h) * g.dh + d) * kvEsize g

/-- The first page of the page index `i` of a sequence's table, and the page of `layer` in that set. -/
def pageOf (s : State) (p seq gi layer i : Nat) : Option Nat :=
  match seqOf s p seq with
  | none => none
  | some x =>
    match (table x gi)[i]? with
    | none => none
    | some n => some (setPage (kvGroup (part s p).place gi) n + (layer - (kvGroup (part s p).place gi).l0))

/-- Bytes of the pool by page and offset. -/
def poolRead (s : State) (p page off : Nat) : Byte :=
  match hbmResolve (part s p).place 4 (page * pageStride (part s p).place + off) with
  | none => 0
  | some f => Memory.read s.hbm f
def poolBad (s : State) (p page off : Nat) : Bool :=
  match hbmResolve (part s p).place 4 (page * pageStride (part s p).place + off) with
  | none => false
  | some f => hbmPoisoned s f
def poolWrite (s : State) (p page off : Nat) (b : Byte) : State :=
  match hbmResolve (part s p).place 4 (page * pageStride (part s p).place + off) with
  | none => s
  | some f => hbmWrite s f b

/-- The (K or V, position in page, held head, byte) coordinates of a page part. -/
def partCoords (k : KvTile) (g : KvGroup) : List (Nat × Nat × Nat × Nat) :=
  (List.range 2).flatMap fun v => (List.range 64).flatMap fun q => (List.range k.nh).flatMap fun j =>
    (List.range (g.dh * kvEsize g)).map fun b => (v, q, j, b)

/-- Offset of byte `b` of a head's vector in a page part and in a page. -/
def partByte (k : KvTile) (g : KvGroup) (c : Nat × Nat × Nat × Nat) : Nat := partOff k g c.1 c.2.1 c.2.2.1 0 + c.2.2.2
def pageByte (k : KvTile) (g : KvGroup) (c : Nat × Nat × Nat × Nat) : Nat := pageOff g c.1 c.2.1 (k.h0 + c.2.2.1) 0 + c.2.2.2

/-- R287: a fill reads the whole page part of page `src` from HBM into its ring position and tags it `page`. -/
def fillRing (s : State) (p : Nat) (k : KvTile) (gi slot i src page : Nat) : State :=
  let pl := (part s p).place
  let g := kvGroup pl gi
  match ptile pl k.pti with
  | none => s
  | some pt =>
    let pos := i % k.w
    let bs := (List.range (partBytes k g)).map fun o =>
      let v := o / (64 * k.nh * g.dh * kvEsize g)
      let r := o % (64 * k.nh * g.dh * kvEsize g)
      let e := g.dh * kvEsize g
      poolRead s p src (pageOff g v (r / (k.nh * e)) (k.h0 + r / e % k.nh) 0 + r % e)
    let s := spWrite s pt.tile (ringOff pl k g slot pos) bs
    let s := addObj (addObj (addObj s (pidx 0x56 p) 9 1) (pidx 0x56 p) 7 (partBytes k g)) (pidx 0x58 p) 3 (partBytes k g)
    { s with ringTags := FMap.put 0 s.ringTags (tagKey pt.tile k.layer slot pos) (page + 1) }

/-- R287 step 1: the preparation of one ring position after the allocation call: retag, or start a fill. -/
def prepareIndex (p : Nat) (b : SlotB) (k : KvTile) (gi : Nat) (s : State) (i : Nat) : State :=
  let pl := (part s p).place
  match ptile pl k.pti, pageOf s p b.seq gi k.layer i with
  | some pt, some page =>
    let key := tagKey pt.tile k.layer b.slot (i % k.w)
    let tag := FMap.get 0 s.ringTags key
    match b.allocs.find? (fun a => a.1 == gi && a.2.1 == i) with
    | some (_, _, _, old) =>
      let shared := setPage (kvGroup pl gi) (old - 1) + (k.layer - (kvGroup pl gi).l0)
      if old = 0 ∨ tag = shared + 1 then { s with ringTags := FMap.put 0 s.ringTags key (page + 1) }
      else { s with fills := s.fills ++ [(p, pt.tile, k.layer, b.slot, i, shared)] }
    | none =>
      if tag = page + 1 then s
      else { s with fills := s.fills ++ [(p, pt.tile, k.layer, b.slot, i, page)] }
  | _, _ => s

/-- R287: every KV tile prepares page indices first to e of every unmasked slot. -/
def prepareRings (s : State) (p : Nat) : State :=
  match (part s p).step with
  | none => s
  | some r =>
    r.slots.foldl (fun s b =>
      if b.masked then s
      else (part s p).place.kv.tiles.foldl (fun s k =>
        match kvGroupOf (part s p).place k.layer with
        | none => s
        | some gi => (stepIndices b.len b.nnode).foldl (prepareIndex p b k gi) s) s) s

/-- R294: the tags of every ring position that the step prepared or wrote become invalid. -/
def invalidateStepTags (s : State) (p : Nat) (r : StepRun) : State :=
  let pl := (part s p).place
  let keys := r.slots.flatMap fun b => pl.kv.tiles.flatMap fun k =>
    match ptile pl k.pti with
    | none => []
    | some pt => (stepIndices b.len b.nnode).map fun i => tagKey pt.tile k.layer b.slot (i % k.w)
  { s with ringTags := keys.foldl FMap.del s.ringTags, fills := s.fills.filter fun f => f.1 != p }

/-! ### Commit (R295) -/

/-- The bytes that one held entry takes in a ring: offset of K and of V at a storage position, and their length. -/
def entryRuns (pl : Placement) (k : KvTile) (g : KvGroup) (slot pos : Nat) : List (Nat × Nat) :=
  let base := ringOff pl k g slot (pos / 64 % k.w)
  let n := k.nh * g.dh * kvEsize g
  [(base + partOff k g 0 (pos % 64) 0 0, n), (base + partOff k g 1 (pos % 64) 0 0, n)]

/-- R295 step 2: moves an entry from one storage position to another in a ring. -/
def moveEntry (pl : Placement) (k : KvTile) (g : KvGroup) (slot src dst : Nat) (s : State) : State :=
  match ptile pl k.pti with
  | none => s
  | some pt =>
    ((entryRuns pl k g slot src).zip (entryRuns pl k g slot dst)).foldl (fun s e =>
      spWrite s pt.tile e.2.1 (spRead s pt.tile e.1.1 e.1.2)) s

/-- R286, R295 step 3: writes one entry from a ring through to its page; no other slot's ring holds the page any more. -/
def writeThrough (p : Nat) (b : SlotB) (k : KvTile) (gi pos : Nat) (s : State) : State :=
  let pl := (part s p).place
  let g := kvGroup pl gi
  match ptile pl k.pti, pageOf s p b.seq gi k.layer (pos / 64) with
  | some pt, some page =>
    let s := addObj (untagRange s p page 1 (some b.slot)) (pidx 0x58 p) 4 (2 * (k.nh * g.dh * kvEsize g))
    ((entryRuns pl k g b.slot pos).zip [0, 1]).foldl (fun s e =>
      ((spRead s pt.tile e.1.1 e.1.2).zip (List.range e.1.2)).foldl (fun s x =>
        poolWrite s p page (pageOff g e.2 (pos % 64) k.h0 0 + x.2) x.1) s) s
  | _, _ => s

/-- R27 action 2, R295: one unmasked slot's entries are gathered and written through; its pointer moves. -/
def commitSlot (p : Nat) (s : State) (b : SlotB) : State :=
  if b.masked then s
  else
    let pl := (part s p).place
    let a := b.kept.length
    let s := pl.kv.tiles.foldl (fun s k =>
      match kvGroupOf pl k.layer with
      | none => s
      | some gi =>
        let g := kvGroup pl gi
        let s := (b.kept.zip (List.range a)).foldl (fun s e =>
          if e.1 = e.2 then s else moveEntry pl k g b.slot (b.len + e.1) (b.len + e.2) s) s
        (List.range a).foldl (fun s j => writeThrough p b k gi (b.len + j) s) s) s
    match seqOf s p b.seq with
    | none => s
    | some x => setSeq s p b.seq { x with len := b.len + a }

/-- R27 action 3, R295: a NEW set that holds no valid entry returns to FREE; every other becomes HELD. -/
def returnSets (p : Nat) (s : State) (b : SlotB) : State :=
  b.allocs.foldl (fun s a =>
    let (g, i, n, old) := a
    match seqOf s p b.seq with
    | none => s
    | some x =>
      if old = 0 ∧ x.len ≤ 64 * i then
        setSeq (putSet s p g n 0 0) p b.seq (setTable x g ((table x g).take i))
      else putSet s p g n 1 (setRef s p g n)) s

/-- R295: the positions of a shared page are copied into the new page, for each page of the set. -/
def copySet (s : State) (p g src dst lo hi : Nat) : State :=
  let pl := (part s p).place
  let gr := kvGroup pl g
  let n := gr.layers * (hi - lo) * 2 * (gr.nkvh * gr.dh * kvEsize gr)
  let s := addObj (addObj s (pidx 0x58 p) 3 n) (pidx 0x58 p) 4 n
  (List.range gr.layers).foldl (fun s x =>
    (List.range (hi - lo)).foldl (fun s q =>
      (List.range 2).foldl (fun s v =>
        (List.range (gr.nkvh * gr.dh * kvEsize gr)).foldl (fun s o =>
          let off := pageOff gr v (lo % 64 + q) 0 0 + o
          poolWrite s p (setPage gr dst + x) off (poolRead s p (setPage gr src + x) off)) s) s) s) s

/-! ### Partition virtual addresses (R10, R282, R299) -/

/-- R283: the 64-bit descriptor of the set at place `i` of the descriptor area. -/
def descWord (s : State) (p i : Nat) : Nat :=
  let pl := (part s p).place
  let rec go (gs : List KvGroup) (gi i : Nat) : Nat :=
    match gs with
    | [] => 0
    | g :: t =>
      if i < g.nset then put 1 8 56 + put gi 4 52 + put (setState s p gi i) 2 50 + put (setRef s p gi i) 32 0
      else go t (gi + 1) (i - g.nset)
  go pl.kv.groups 0 i

/-- R27: a sequence as it stood at the last boundary: without what the running step's allocation call gave it, and, until a group step's
record is posted, as before that step's actions. -/
def atBoundary (s : State) (p q : Nat) (x : Seq) : Seq :=
  let g := group s p
  match (if g.posting.isSome then g.undo.bind fun u => (u.seqs.find? fun e => e.1 == q).map (·.2) else none) with
  | some y => { x with len := y.len, tables := y.tables, lastStep := y.lastStep }
  | none =>
    match boundSlot s p q with
    | none => x
    | some b => b.allocs.reverse.foldl (fun x a =>
        setTable x a.1 (if a.2.2.2 = 0 then (table x a.1).take a.2.1 else (table x a.1).set a.2.1 (a.2.2.2 - 1))) x

/-- R284: a byte of the table area; a read during a step returns the tables of the last boundary (R27). -/
def tableByte (s : State) (p o : Nat) : Byte :=
  let pl := (part s p).place
  let ts := tableStride pl
  let h := o / ts / kvNgroup pl
  let g := o / ts % kvNgroup pl
  match s.seqs.find? (fun e => e.1 / 2 ^ 32 == p && e.2.handle == h) with
  | none => if o % ts < 8 then 0 else 0xFF
  | some (key, x) =>
    let t := table (atBoundary s p (key % 2 ^ 32) x) g
    let r := o % ts
    if r < 8 then (leBytes 8 (put 1 8 56 + put g 4 52 + put t.length 15 37 + key % 2 ^ 32)).getD r 0
    else if 8 + 4 * pl.kv.maxent ≤ r then 0
    else
      match t[(r - 8) / 4]? with
      | none => 0xFF
      | some n => (leBytes 4 (setPage (kvGroup pl g) n)).getD ((r - 8) % 4) 0

/-- The byte that a partition virtual address names, none where it is not the partition's. -/
def pvaByte (s : State) (p va : Nat) : Option Byte :=
  let pl := (part s p).place
  match vaSpace va with
  | 0 => (ptile pl (vaPti va)).map fun t => Memory.read s.sp (spKey t.tile (vaOff va))
  | 1 => (ptile pl (vaPti va)).map fun t =>
      (leBytes 4 (accRead s t.tile 0 (vaOff va / 4)).toNat).getD (vaOff va % 4) 0
  | 2 => (hbmResolve pl 2 (vaLow va)).map fun f => Memory.read s.hbm f
  | 3 => some ((leBytes 8 (syncGet s p (vaLow va / 8))).getD (vaLow va % 8) 0)
  | 4 =>
    if tableBase pl ≤ vaLow va ∧ vaLow va < poolSize pl ∧ kvNgroup pl ≠ 0 then some (tableByte s p (vaLow va - tableBase pl))
    else if descBase pl ≤ vaLow va ∧ vaLow va < descBase pl + 8 * nsets pl then
      some ((leBytes 8 (descWord s p ((vaLow va - descBase pl) / 8))).getD ((vaLow va - descBase pl) % 8) 0)
    else (hbmResolve pl 4 (vaLow va)).map fun f => Memory.read s.hbm f
  | _ => none

/-- Bytes from a partition virtual address up; a byte outside reads as 0 (callers check ownership first). -/
def pvaRead (s : State) (p va n : Nat) : List Byte := (List.range n).map fun i => (pvaByte s p (va + i)).getD 0

/-- R148, R345: a read of these bytes finds an uncorrectable word or a poisoned sector. -/
def pvaBad (s : State) (p va n : Nat) : Bool :=
  let pl := (part s p).place
  match vaSpace va with
  | 0 => match ptile pl (vaPti va) with
    | none => false
    | some t => spBad s t.tile (vaOff va) n
  | 1 => match ptile pl (vaPti va) with
    | none => false
    | some t => accBad s t.tile (vaOff va / 4) ((vaOff va % 4 + n + 3) / 4)
  | 2 => (List.range n).any fun i => match hbmResolve pl 2 (vaLow va + i) with
    | none => false
    | some f => hbmPoisoned s f
  | 4 => (List.range n).any fun i => match hbmResolve pl 4 (vaLow va + i) with
    | none => false
    | some f => hbmPoisoned s f
  | _ => false

/-- Writes bytes at a partition virtual address of space 0, 2 or 4. -/
def pvaWrite (s : State) (p va : Nat) (bs : List Byte) : State :=
  let pl := (part s p).place
  match vaSpace va with
  | 0 => match ptile pl (vaPti va) with
    | none => s
    | some t => spWrite s t.tile (vaOff va) bs
  | 2 => (bs.zip (List.range bs.length)).foldl (fun s e => match hbmResolve pl 2 (vaLow va + e.2) with
    | none => s
    | some f => hbmWrite s f e.1) s
  | 4 => (bs.zip (List.range bs.length)).foldl (fun s e => match hbmResolve pl 4 (vaLow va + e.2) with
    | none => s
    | some f => hbmWrite s f e.1) s
  | _ => s

end Sys2Proof.Machine
end

