-- ==== Sys2Proof/Machine/Lists.lean ====
section
/-! DEFINITION. Command lists: submission and its ten checks (R176), dispatch (R177, R17), WAIT and SIGNAL (R187). -/
namespace Sys2Proof.Machine

/-! ### What a command word may hold (R174, R188–R201) -/

/-- The engines that accept an opcode, as a bit mask over engine indices; 0 for a reserved opcode. -/
def opcodeEngines (op : Nat) : Nat :=
  if op = 0xF0 ∨ op = 0xF1 then 0b00111111
  else if 0x01 ≤ op ∧ op ≤ 0x04 then 0b00000001
  else if 0x10 ≤ op ∧ op ≤ 0x12 then 0b00000010
  else if 0x20 ≤ op ∧ op ≤ 0x23 then 0b00000100
  else if 0x30 ≤ op ∧ op ≤ 0x32 then 0b00001000
  else if 0x40 ≤ op ∧ op ≤ 0x46 then 0b00010000
  else if 0x50 ≤ op ∧ op ≤ 0x52 then 0b00100000
  else if op = 0x70 ∨ op = 0x71 then 0b10000000
  else 0

/-- The number of low bits of a command word that its field table reserves, beside bits [235:224]. -/
def reservedLow : Nat → Nat
  | 0xF0 => 150 | 0xF1 => 149
  | 0x01 => 211 | 0x02 => 192 | 0x03 => 192 | 0x04 => 192
  | 0x10 => 96 | 0x11 => 112 | 0x12 => 143
  | 0x20 => 168 | 0x21 => 152 | 0x22 => 120 | 0x23 => 128
  | 0x30 => 121 | 0x31 => 128 | 0x32 => 190
  | 0x40 => 33 | 0x41 => 147 | 0x42 => 147 | 0x43 => 147 | 0x44 => 147 | 0x45 => 147 | 0x46 => 93
  | 0x50 => 128 | 0x51 => 208 | 0x52 => 64
  | 0x70 => 212 | 0x71 => 160
  | _ => 0

/-- R176 check 8: the reserved fields of a command, its payload included, are zero. -/
def reservedOk (w : Nat) (pay : List Nat) : Bool :=
  fld w 235 224 == 0 && w % 2 ^ reservedLow (cmdOpcode w) == 0 &&
  (cmdOpcode w != 0x01 || (List.range (pay.length / 4)).all fun i => pay.getD (4 * i) 0 % 2 ^ 209 == 0)

/-- R197: an FP32 pattern that is finite and at least 0. -/
def fpNonneg (v : Nat) : Bool := decide (v < 0x7F800000) || v == 0x80000000

/-- R197: an FP32 pattern in (0, 1]. -/
def fpUnit (v : Nat) : Bool := decide (0 < v) && decide (v ≤ 0x3F800000)

/-- R189: one slot binding of a STEP lies in its ranges; words 1–3 are zero where the source is the draft link. -/
def bindingOk (pay : List Nat) (i : Nat) : Bool :=
  let w := pay.getD (4 * i) 0
  let n := fld w 215 211
  let c := fld w 210 209
  decide (1 ≤ n) && decide (n ≤ 16) && c != 3 &&
  (c != 2 || (pay.getD (4 * i + 1) 0 == 0 && pay.getD (4 * i + 2) 0 == 0 && pay.getD (4 * i + 3) 0 == 0))

/-- R176 check 9: NPAY equals the payload count of the command's definition. -/
def npayOk (w : Nat) : Bool :=
  cmdNpay w == (if cmdOpcode w = 0x01 then 4 * fld w 219 211 else 0)

def spaceIn (va : Nat) (l : List Nat) : Bool := l.contains (vaSpace va)

/-- R176 check 9: every field lies within the range its table states. -/
def rangeOk (w : Nat) (pay : List Nat) : Bool :=
  npayOk w &&
  match cmdOpcode w with
  | 0x01 => decide (1 ≤ fld w 219 211) && decide (fld w 219 211 ≤ 256) && (List.range (fld w 219 211)).all (bindingOk pay)
  | 0x10 => spaceIn (fld w 223 176) [0, 2, 4] && spaceIn (fld w 175 128) [0, 2, 4] &&
      fld w 127 96 != 0 && fld w 127 96 % 4 == 0
  | 0x11 => spaceIn (fld w 159 112) [2]
  | 0x12 => spaceIn (fld w 190 143) [2]
  | 0x20 => fld w 183 168 != 0
  | 0x23 => fld w 159 128 != 0
  | 0x30 => fpNonneg (fld w 191 160) && decide (fld w 159 153 ≤ 64) && fpUnit (fld w 152 121)
  | 0x32 => fld w 191 190 == 1 || fld w 191 190 == 2
  | 0x40 => fld w 210 147 != 0 && fld w 146 145 != 3 && (fld w 146 145 == 2 || fld w 80 33 == 0) &&
      (fld w 146 145 != 2 || spaceIn (fld w 80 33) [2])
  | 0x41 => fld w 210 147 != 0
  | 0x42 => fld w 210 147 != 0
  | 0x43 => fld w 210 147 != 0
  | 0x44 => fld w 210 147 != 0
  | 0x45 => fld w 210 147 != 0
  | 0x46 => fld w 210 147 != 0 && fld w 146 145 != 3 &&
      (if fld w 146 145 = 1 then decide (fld w 144 141 ≤ 7) else fld w 144 141 == 0) &&
      (if fld w 146 145 = 0 then fld w 140 93 == 0 else spaceIn (fld w 140 93) [2])
  | 0x50 => decide (fld w 223 208 ≤ 255) && spaceIn (fld w 207 160) [0, 2]
  | 0x51 => decide (fld w 223 208 ≤ 255)
  | 0x52 => decide (fld w 223 208 ≤ 255) && fld w 95 64 != 0 && fld w 95 64 % 4 == 0
  | 0x71 => decide (vaSpace (fld w 223 176) ≤ 4) && fld w 175 160 % 32 == 0 &&
      decide (32 ≤ fld w 175 160) && decide (fld w 175 160 ≤ 4096)
  | _ => true

/-- Arrays that a MASK selects (R198), in ascending order. -/
def maskArrays (m : Nat) : List Nat := (List.range 64).filter (bitAt m)

/-- R341: bytes of a staging slot. -/
def stageBytes : Nat := 528384

/-- R176 check 10: every address, PTI and object of a command is the partition's. -/
def ownedOk (pl : Placement) (w : Nat) : Bool :=
  match cmdOpcode w with
  | 0xF0 => decide (fld w 223 214 < pl.nsync)
  | 0xF1 => decide (fld w 223 214 < pl.nsync)
  | 0x10 => ownsRange pl (fld w 223 176) (fld w 127 96) && ownsRange pl (fld w 175 128) (fld w 127 96)
  | 0x11 => ownsRange pl (fld w 159 112) stageBytes
  | 0x12 => ownsRange pl (fld w 190 143) 1
  | 0x50 => ownsRange pl (fld w 207 160) (fld w 159 128)
  | 0x52 => ownsRange pl (fld w 175 128) (fld w 95 64)
  | 0x70 => fld w 223 212 == 0xFFF || (ptile pl (fld w 223 212)).isSome
  | 0x71 => ownsRange pl (fld w 223 176) (fld w 175 160)
  | op =>
    if 0x40 ≤ op ∧ op ≤ 0x46 then
      match ptile pl (fld w 223 212) with
      | none => false
      | some t => (maskArrays (fld w 210 147)).all (fun a => decide (a < t.arrays.length)) &&
          (op != 0x40 || fld w 146 145 != 2 || ownsRange pl (fld w 80 33) stageBytes) &&
          (op != 0x46 || fld w 146 145 == 0 ||
            ownsRange pl (fld w 140 93)
              ((maskArrays (fld w 210 147)).length * (if fld w 146 145 = 1 then 16384 else 4096)))
    else true

/-- The payload words of the command at a position. -/
def payload (l : List Nat) (pos n : Nat) : List Nat := (l.drop (pos + 1)).take n

/-- The positions of a list's commands, none where NPAY values do not tile the list (R176 check 7). -/
def cmdPositions (l : List Nat) (pos : Nat) : Nat → Option (List Nat)
  | 0 => none
  | k + 1 =>
    if pos = l.length then some []
    else if l.length < pos then none
    else (cmdPositions l (pos + 1 + cmdNpay (l.getD pos 0)) k).map (pos :: ·)

/-- R176 check 7 for one command. -/
def opcodeOk (pri : Bool) (e w : Nat) : Bool :=
  bitAt (opcodeEngines (cmdOpcode w)) e && (if pri then cmdOpcode w == 0x04 else cmdOpcode w != 0x04)

/-- The first position of a list whose command fails a check. -/
def firstBad (ps : List Nat) (ok : Nat → Bool) : Option Nat := ps.find? fun i => !ok i

/-- R176 checks 7–10 and the length of a priority list (R318: at most 16 CANCELs, one word each) over the commands: reason and command offset of
the first check that fails. DESIGN CHOICE (log 97): where the NPAY values do not tile the list the offset is 1, that of its first command. -/
def checkCommands (s : State) (p e : Nat) (pri : Bool) (l : List Nat) : Option (Nat × Nat) :=
  let w := fun i => l.getD i 0
  let pay := fun i => payload l i (cmdNpay (w i))
  match cmdPositions l 1 (l.length + 1) with
  | none => some (0x0103, 1)
  | some ps =>
    match firstBad ps (fun i => opcodeOk pri e (w i)) with
    | some i => some (0x0103, i)
    | none =>
    match firstBad ps (fun i => reservedOk (w i) (pay i)) with
    | some i => some (0x0104, i)
    | none =>
    match firstBad ps (fun i => rangeOk (w i) (pay i) && !(pri && decide (16 < i))) with
    | some i => some (0x0105, i)
    | none =>
    if (part s p).st = .loading then none
    else
      match firstBad ps (fun i => ownedOk (part s p).place (w i)) with
      | some i => some (0x0106, i)
      | none =>
        if hdrDoneEn (w 0) && !ownsSync s p (hdrDoneObj (w 0)) then some (0x0106, 0) else none

/-- R173: the list's CRC, over all its bytes with the CRC field taken as zero. -/
def listCrc (ws : List W256) : Nat :=
  match ws with
  | [] => 0
  | h :: t => crc32 ((leBytes 32 (h.toNat / 2 ^ 32 * 2 ^ 32)) ++ (t.map fun w => leBytes 32 w.toNat).flatten)

/-- R176 check 2. -/
def headerOk (q : Nat) (ws : List W256) : Bool :=
  let h := (ws.getD 0 0).toNat
  hdrPart h == qPart q && hdrEngine h == q % 8 && hdrEngine h != 6 &&
  (!hdrPriority h || hdrEngine h == 0) && decide (1 ≤ hdrNwords h) && hdrNwords h + 1 == ws.length &&
  fld h 238 224 == 0 && fld h 164 160 == 0 && fld h 95 32 == 0

/-- R176 check 5: the module and partition states; `debug` for the debug queue, `pri` for a priority list. -/
def stateRefusal (s : State) (p : Nat) (debug pri : Bool) : Option Nat :=
  if s.power ≠ .ready ∧ s.power ≠ .hold then some 0x021E
  else
    match (part s p).st with
    | .free => some 0x0201
    | .disabling => if pri then none else some 0x0203
    | .faulted => if pri || debug then none else some 0x0202
    | _ => none

/-- Words of the lists that wait on a queue (R175). -/
def queueWords (q : QueueSt) : Nat := (q.waiting.map fun l => l.words.length).foldl (· + ·) 0

/-- R175: the queue has room for a list of `n` words: 64 lists and 4 MiB of 32-byte words. -/
def queueRoom (q : QueueSt) (n : Nat) : Bool :=
  decide (q.waiting.length < 64) && decide ((queueWords q + n) * 32 ≤ 4194304)

/-- R176: the ten checks in their order; none, or the reason and command offset. -/
def submitRefusal (s : State) (ses q : Nat) (ws : List W256) : Option (Nat × Nat) :=
  let h := (ws.getD 0 0).toNat
  let p := qPart q
  let e := q % 8
  if fld h 255 252 ≠ 1 then some (0x0801, 0)
  else if !headerOk q ws then some (0x0101, 0)
  else if listCrc ws ≠ fld h 31 0 then some (0x0102, 0)
  else if !(if e = 7 then hasRead s ses p else hasSubmit s ses p) then some (0x0204, 0)
  else
    match stateRefusal s p (e == 7) (hdrPriority h) with
    | some r => some (r, 0)
    | none =>
      if !hdrPriority h && !queueRoom (queue s q) ws.length then some (0x0301, 0)
      else checkCommands s p e (hdrPriority h) (ws.map (·.toNat))

/-- COMMAND_LIST_SUBMIT (R176): a list from session `ses` for queue `q` is checked and queued, or refused
whole. A priority list stands outside the queue, at the queue number 128 + `q`, where CANCEL acts on it (R194). -/
def execCommandListSubmit (ses q : Nat) (ws : List W256) (s : State) : Host.Outcome State Fault Refusal :=
  if 128 ≤ q then .fault .noSuchUnit
  else
    let h := (ws.getD 0 0).toNat
    match submitRefusal s ses q ws with
    | some (r, off) => .next (reply s { session := ses, queue := q, reqid := hdrListId h, reason := r, failItem := off })
    | none =>
      let l : HostList := { words := ws, session := ses }
      let s := reply s { session := ses, queue := q, reqid := hdrListId h }
      if hdrPriority h then
        .next (setQueue s (128 + q) { queue s (128 + q) with waiting := (queue s (128 + q)).waiting ++ [l] })
      else .next (setQueue s q { queue s q with waiting := (queue s q).waiting ++ [l] })

/-- R17, R181, R462: the partition and module states let queue `q` dispatch a list. -/
def mayDispatch (s : State) (q : Nat) : Bool :=
  let p := qPart q
  !replyFull s p && s.power == .ready &&
  match (part s p).st with
  | .free => false
  | .loading => false
  | .disabling => false
  | .faulted => q % 8 == 7
  | _ => true

/-- LIST_DISPATCH (R177): an engine takes the list at the front of queue `q`. -/
def execListDispatch (q : Nat) (s : State) : Host.Outcome State Fault Refusal :=
  if 128 ≤ q then .fault .noSuchUnit
  else
    match (queue s q).running, (queue s q).waiting with
    | none, l :: t =>
      if mayDispatch s q then .next (setQueue s q { waiting := t, running := some { lst := l } }) else .next s
    | _, _ => .next s

/-- R17, R181, R213: the present states let a list that queue `q` runs begin its next command. -/
def mayRun (s : State) (q : Nat) : Bool :=
  !replyFull s (qPart q) && ((part s (qPart q)).st != .faulted || q % 8 == 7)

/-- R21: the engines that dispatch one command per queue in round-robin order over the partitions. -/
def roundRobin (e : Nat) : Bool := e == 2 || e == 4 || e == 5

/-- R21: a queue has a command to dispatch: it has taken a list, and the command reached has not begun. -/
def wantsTurn (s : State) (q : Nat) : Bool := mayRun s q && (queue s q).running.any fun r => !r.begun

/-- R21: it is queue `q`'s turn: no partition that comes before it, counted from the one that its engine served last, has a command to dispatch. -/
def myTurn (s : State) (q : Nat) : Bool :=
  !roundRobin (q % 8) ||
    ((List.range 16).map fun i => (FMap.get 0 s.arb (q % 8) + i) % 16).find? (fun p => wantsTurn s (8 * p + q % 8)) == some (qPart q)

/-- R21: the engine of queue `q` has dispatched the command that stood at word `pos`; the next partition comes first. -/
def turnOver (s : State) (q pos : Nat) : State :=
  if roundRobin (q % 8) && !((queue s q).running.any fun r => r.pos == pos && !r.begun) then
    { s with arb := FMap.set s.arb (q % 8) (qPart q + 1) }
  else s

/-- R177, R178: the command reached on queue `q` is `op` and has not begun; check 10 is judged here for a
list that was submitted while its partition was LOADING (R176). -/
def atCommand (s : State) (q op : Nat) : Option (RunList × Nat) :=
  match curCmd s q with
  | some (r, w) => if cmdOpcode w = op ∧ r.begun = false then some (r, w) else none
  | none => none

/-- R176, R183: the objects and addresses of the command reached, and the list's own DONE_OBJ, are the partition's. -/
def judged (s : State) (q : Nat) (r : RunList) (w : Nat) : Bool :=
  ownedOk (part s (qPart q)).place w && (!hdrDoneEn r.lst.hdr || ownsSync s (qPart q) (hdrDoneObj r.lst.hdr))

/-- Runs a command's meaning `f` where the running list of queue `q` has reached it and it is the queue's turn; else nothing happens. A member
of a group refuses the commands that only the master takes (R375). -/
def withCommand (s : State) (q op : Nat) (f : RunList → Nat → State) : Host.Outcome State Fault Refusal :=
  if 128 ≤ q then .fault .noSuchUnit
  else
    match atCommand s q op with
    | none => .next s
    | some (r, w) =>
      if !mayRun s q || !myTurn s q then .next s
      else if !judged s q r w then .next (turnOver (refuseCmd s q 0x0106) q r.pos)
      else if groupOp op && isMember s (qPart q) then .next (turnOver (refuseCmd s q 0x0212) q r.pos)
      else .next (turnOver (f r w) q r.pos)

/-- WAIT (R187): completes when the object is at least VALUE; else it holds its queue. -/
def execWait (q : Nat) (s : State) : Host.Outcome State Fault Refusal :=
  withCommand s q 0xF0 fun _ w =>
    if fld w 213 150 ≤ syncGet s (qPart q) (fld w 223 214) then completeCmd s q [] else beginCmd s q []

/-- SIGNAL with MODE 0 (R187): adds VALUE, or is refused where the sum would pass 2^64 − 1. -/
def execSignalAdd (q : Nat) (s : State) : Host.Outcome State Fault Refusal :=
  withCommand s q 0xF1 fun _ w =>
    if bitAt w 149 then s
    else
      match syncSum s (qPart q) (fld w 223 214) (fld w 213 150) with
      | none => refuseCmd s q 0x0107
      | some v => completeCmd (syncWrite s (qPart q) (fld w 223 214) v) q []

/-- SIGNAL with MODE 1 (R183, R187): writes VALUE. -/
def execSignalSet (q : Nat) (s : State) : Host.Outcome State Fault Refusal :=
  withCommand s q 0xF1 fun _ w =>
    if bitAt w 149 then completeCmd (syncWrite s (qPart q) (fld w 223 214) (fld w 213 150)) q [] else s

end Sys2Proof.Machine
end

