-- ==== Sys2Proof/Machine/Held.lean ====
section
/-! DEFINITION. Host commands that name sequences, pages and memory (R192–R197, R297–R299, R341–R344), each as its effect
on the state or the reason that refuses it, and the holding of commands until the step boundary (R298). -/
namespace Sys2Proof.Machine

/-- What a command's effect answers: a refusal, or the new state with result words. -/
abbrev Eff := Sum Nat (State × List W256)

def ok (s : State) : Eff := .inr (s, [])

/-- A refusal or a state as an effect. -/
def effOf : Sum Nat State → Eff
  | .inl r => .inl r
  | .inr s => ok s

/-- Completes the command reached on a queue with its effect, or ends its list. A group's master forwards it (R375). -/
def finish (s : State) (q : Nat) (e : Eff) : State :=
  match e with
  | .inl r => refuseCmd s q r
  | .inr (t, res) =>
    let t := match curCmd t q with
      | none => t
      | some (_, w) => forwardCmd t (qPart q) w
    completeCmd t q res

/-- A step runs that has not reached its boundary (R193, R298). -/
def stepActive (s : State) (p : Nat) : Bool := (part s p).step.isSome

/-- The mark of a command whose copy runs (R344), and of a page command that waits for one. -/
def copyMark : List Nat := [18]

/-- R344: a checkpoint save or restore of the sequence runs. -/
def copying (s : State) (p q : Nat) : Bool :=
  match curCmd s (8 * p + 1) with
  | none => false
  | some (r, w) => r.begun && r.aux == copyMark && cmdOpcode w == 0x12 && fld w 222 191 == q

/-- R25, R193, R344: the sequence is bound to a step that has not committed, or a checkpoint of it is being copied. -/
def seqBusy (s : State) (p q : Nat) : Bool := (boundSlot s p q).isSome || copying s p q

/-- R298: holds the command reached on queue `q` until the boundary. -/
def holdCmd (s : State) (q : Nat) : State :=
  let s := beginCmd s q []
  updPart s (qPart q) fun x => { x with step := x.step.map fun r => { r with held := r.held ++ [q] } }

/-- R196, R197: the refusal for a sequence that is not live or is cancelled. -/
def seqRefusal (s : State) (p q : Nat) : Option Nat :=
  match seqOf s p q with
  | none => some 0x0207
  | some x => if x.cancelled then some 0x020B else none

/-! ### Sequences (R192, R193, R197) -/

/-- SEQOPEN (R192). -/
def seqopenEff (s : State) (p q : Nat) : Eff :=
  if (seqOf s p q).isSome then .inl 0x020A
  else if 65536 ≤ liveCount s p then .inl 0x0303
  else ok (setSeq s p q { handle := freeHandle s p })

/-- SEQCLOSE (R193, R297). -/
def seqcloseEff (s : State) (p q : Nat) : Eff :=
  if (seqOf s p q).isNone then .inl 0x0207 else ok (closeSeq s p q)

/-- R306: a link of the dictionary joins partition `p` as target; its number. -/
def linkOfTarget (s : State) (p : Nat) : Option Nat :=
  (List.range 8).find? fun l => objD 0xFF s 0x5200 (8 * l + 1) != 0xFF && objD 0xFF s 0x5200 (8 * l + 2) == p
/-- R306: the link of which a partition is the draft. -/
def linkOfDraft (s : State) (p : Nat) : Option Nat :=
  (List.range 8).find? fun l => objD 0xFF s 0x5200 (8 * l + 1) == p && objD 0xFF s 0x5200 (8 * l + 2) != 0xFF

/-- SPARAM, SKEY and SSRC (R197): change a live sequence that is not cancelled. -/
def seqParamEff (s : State) (p q : Nat) (f : Seq → Seq) : Eff :=
  match seqOf s p q with
  | none => .inl 0x0207
  | some x => if x.cancelled then .inl 0x020B else ok (setSeq s p q (f x))

/-! ### Page engine commands (R196, R297) -/

/-- R196: what is judged when a page command begins: sequences live and not cancelled, LGRP in the pool. -/
def pageRefusal (s : State) (p w : Nat) : Option Nat :=
  let ng := kvNgroup (part s p).place
  match seqRefusal s p (fld w 223 192) with
  | some r => some r
  | none =>
    if cmdOpcode w = 0x23 then
      match seqRefusal s p (fld w 191 160) with
      | some r => some r
      | none => if ng = 0 then some 0x0105 else none
    else if ng ≤ fld w 191 184 then some 0x0105
    else none

/-- R297: the effect of a page engine command. -/
def pageEff (s : State) (p w : Nat) : Eff :=
  match pageRefusal s p w with
  | some r => .inl r
  | none =>
    let q := fld w 223 192
    let g := fld w 191 184
    match cmdOpcode w with
    | 0x20 => effOf (kvPalloc s p q g (fld w 183 168))
    | 0x21 => effOf (kvPfree s p q g (fld w 183 152))
    | 0x22 => effOf (kvPtedit s p q g (fld w 183 152) (fld w 151 120))
    | _ => effOf (kvPshare s p q (fld w 191 160) (fld w 159 128))

/-! ### XFER and CHKPT (R195, R299, R343, R344, R348) -/

/-- R10: `n` bytes from a partition virtual address meet the bytes `lo` up to `hi` of its space. -/
def meets (va n lo hi : Nat) : Bool := decide (vaLow va < hi) && decide (lo < vaLow va + n)

/-- R281, R299: the first pages, layers and state of the sets: a write of `n` bytes at `va` touches a NEW set. -/
def touchesNewSet (s : State) (p va n : Nat) : Bool :=
  let pl := (part s p).place
  (List.range (kvNgroup pl)).any fun g =>
    let gr := kvGroup pl g
    (List.range gr.nset).any fun k => setState s p g k == 2 &&
      meets va n (setPage gr k * pageStride pl) ((setPage gr k + gr.layers) * pageStride pl)

/-- R195, R299: the refusal of an XFER by its destination. -/
def xferRefusal (s : State) (p dst n : Nat) : Option Nat :=
  let pl := (part s p).place
  match vaSpace dst with
  | 0 => match ptile pl (vaPti dst) with
    | none => some 0x0106
    | some t => if touchesKind t 0 (vaOff dst) n then some 0x011A else none
  | 4 => if meets dst n (descBase pl) (poolSize pl) || touchesNewSet s p dst n then some 0x020C else none
  | _ => none

/-- R299, R348: an XFER into the page area or a STREAM region waits for the boundary of a running step. -/
def xferHolds (s : State) (p dst n : Nat) : Bool :=
  let pl := (part s p).place
  stepActive s p && ((vaSpace dst == 4 && meets dst n 0 (npage pl * pageStride pl)) ||
    (vaSpace dst == 2 && pl.hregs.any fun r => r.kind == 1 && meets dst n r.vbase (r.vbase + r.size)))

/-- R348: a write into a staging slot removes the slot's directory entry. -/
def unstageWrite (s : State) (p dst n : Nat) : State :=
  if vaSpace dst = 2 then
    { s with staged := s.staged.filter fun e => !(e.1 == p && meets dst n (vaLow e.2.1) (vaLow e.2.1 + stageBytes)) }
  else s

/-- R299: every ring tag of the partition that names a page written becomes invalid. -/
def untagPages (s : State) (p dst n : Nat) : State :=
  let pl := (part s p).place
  if vaSpace dst = 4 then
    { s with ringTags := s.ringTags.filter fun e =>
        !(pl.tiles.any (fun t => t.tile == e.1 / 2 ^ 40) &&
          meets dst n ((e.2 - 1) * pageStride pl) (e.2 * pageStride pl)) }
  else s

/-- R333: bytes that a transfer moves out of and into HBM (obj 0x58pp:3, :4). -/
def countHbm (s : State) (p src dst n : Nat) : State :=
  let s := if vaSpace src = 2 ∨ vaSpace src = 4 then addObj s (pidx 0x58 p) 3 n else s
  if vaSpace dst = 2 ∨ vaSpace dst = 4 then addObj s (pidx 0x58 p) 4 n else s

/-- R148: a write at a scratchpad address would read an uncorrectable word. -/
def dstBad (s : State) (p dst n : Nat) : Bool :=
  vaSpace dst == 0 && match ptile (part s p).place (vaPti dst) with
    | none => false
    | some t => spWriteBad s t.tile (vaOff dst) n

/-- XFER (R195, R338): moves one linear run. -/
def xferEff (s : State) (p src dst n : Nat) : Eff :=
  match xferRefusal s p dst n with
  | some r => .inl r
  | none =>
    let s := unstageWrite s p dst n
    if pvaBad s p src n then .inl (if vaSpace src = 0 then 0x0703 else 0x070A)
    else if dstBad s p dst n then .inl 0x0703
    else ok (countHbm (untagPages (pvaWrite s p dst (pvaRead s p src n)) p dst n) p src dst n)

/-- R343, R344: bytes of a page of a group. -/
def pageBytes (g : KvGroup) : Nat := 128 * g.nkvh * g.dh * kvEsize g
/-- R343: bytes of a checkpoint of a sequence of a length. -/
def chkptBytes (pl : Placement) (len : Nat) : Nat :=
  4096 + (pl.kv.groups.map fun g => (len + 63) / 64 * g.layers * pageBytes g).foldl (· + ·) 0

/-- R344: the checkpoint's address lies in a WORK or CHKPT region that holds all of it. -/
def chkptFits (pl : Placement) (va n : Nat) : Bool :=
  match regionAt pl 2 (vaLow va) with
  | none => false
  | some r => (r.kind == 0 || r.kind == 4) && decide (vaLow va + n ≤ r.vbase + r.size)

/-- R343: the pages of a sequence's sets, in the order in which a checkpoint holds them: page number and bytes. -/
def chkptPages (pl : Placement) (sets : Nat → Nat → Nat) (len : Nat) : List (Nat × Nat) :=
  (List.range (kvNgroup pl)).flatMap fun g =>
    let gr := kvGroup pl g
    (List.range ((len + 63) / 64)).flatMap fun i => (List.range gr.layers).map fun x =>
      (setPage gr (sets g i) + x, pageBytes gr)

/-- R343: the header words of a checkpoint, with CRC 0. -/
def chkptHeader (pl : Placement) (seq : Nat) (x : Seq) : List Byte :=
  leBytes 32 (put 1 8 248 + put (kvNgroup pl - 1) 4 244 + put seq 32 208 + put x.len 32 176 + put x.key 64 112
    + put x.temp 32 80 + put x.topk 7 73 + put x.topp 32 41 + put x.csrc 2 39)
  ++ leBytes 32 pl.image
  ++ (List.range 16).flatMap (fun g => leBytes 2 (if g < kvNgroup pl then (x.len + 63) / 64 else 0))
  ++ leBytes 4000 0

/-- CHKPT save (R344). -/
def chkptSaveEff (s : State) (p q va : Nat) : Eff :=
  let pl := (part s p).place
  match seqRefusal s p q, seqOf s p q with
  | some r, _ => .inl r
  | none, none => .inl 0x0207
  | none, some x =>
    if seqBusy s p q then .inl 0x0205
    else if !chkptFits pl va (chkptBytes pl x.len) then .inl 0x0105
    else
      let pages := chkptPages pl (fun g i => (table x g).getD i 0) x.len
      if pages.any fun e => pvaBad s p (4 * 2 ^ 44 + e.1 * pageStride pl) e.2 then .inl 0x070A
      else
        let body := chkptHeader pl q x ++ pages.flatMap fun e => pvaRead s p (4 * 2 ^ 44 + e.1 * pageStride pl) e.2
        let bytes := leBytes 4 (crc32 body) ++ body.drop 4
        let s := unstageWrite s p va bytes.length
        ok (countHbm (pvaWrite s p va bytes) p va va bytes.length)

/-- R344: the refusal of a restore; the checks of its header, bytes and free sets. -/
def chkptRefusal (s : State) (p q va : Nat) : Option Nat :=
  let pl := (part s p).place
  let h := leNat (pvaRead s p va 32)
  let len := fld h 207 176
  let n := chkptBytes pl len
  if (seqOf s p q).isSome then some 0x020A
  else if 65536 ≤ liveCount s p then some 0x0303
  else if !chkptFits pl va 4096 then some 0x0105
  else if pvaBad s p va 4096 then some 0x070A
  else if fld h 255 248 ≠ 1 ∨ fld h 247 244 + 1 ≠ kvNgroup pl ∨ leNat (pvaRead s p (va + 32) 8) ≠ pl.image then some 0x0709
  else if !chkptFits pl va n then some 0x0105
  else if pvaBad s p va n then some 0x070A
  else if crc32 (leBytes 4 0 ++ (pvaRead s p va n).drop 4) ≠ h % 2 ^ 32 then some 0x0709
  else if (List.range (kvNgroup pl)).any (fun g => decide ((freeSets s p g).length < (len + 63) / 64)) then some 0x0304
  else none

/-- CHKPT restore (R344): takes sets, makes the sequence live and writes its pages. -/
def chkptRestoreEff (s : State) (p q va : Nat) : Eff :=
  match chkptRefusal s p q va with
  | some r => .inl r
  | none =>
    let pl := (part s p).place
    let h := leNat (pvaRead s p va 32)
    let len := fld h 207 176
    let k := (len + 63) / 64
    let tabs := (List.range (kvNgroup pl)).map fun g => (g, (freeSets s p g).take k)
    let s1 := tabs.foldl (fun t e => e.2.foldl (fun t n => putSet t p e.1 n 1 1) t) s
    let x : Seq := { handle := freeHandle s p, len := len, key := fld h 175 112, temp := fld h 111 80
                     topk := fld h 79 73, topp := fld h 72 41, csrc := fld h 40 39, tables := tabs }
    let pages := chkptPages pl (fun g i => (table x g).getD i 0) len
    let s2 := (pages.foldl (fun (a : State × Nat) e =>
      let dst := 4 * 2 ^ 44 + e.1 * pageStride pl
      (untagPages (pvaWrite a.1 p dst (pvaRead s p (va + a.2) e.2)) p dst e.2, a.2 + e.2)) (s1, 4096)).1
    ok (countHbm (setSeq s2 p q x) p va va (chkptBytes pl len))

/-! ### Commands held to the boundary (R298) -/

/-- The effect of the command that a queue holds, as it is judged at the boundary or the discard. -/
def heldEff (s : State) (q w : Nat) : Eff :=
  let p := qPart q
  match cmdOpcode w with
  | 0x03 => seqcloseEff s p (fld w 223 192)
  | 0x10 => xferEff s p (fld w 223 176) (fld w 175 128) (fld w 127 96)
  | 0x12 => chkptRestoreEff s p (fld w 222 191) (fld w 190 143)
  | _ => pageEff s p w

/-- R344: a checkpoint has been judged: it is refused, or its copy runs until the next tick of the reference (log 27). -/
def startCopy (s : State) (q : Nat) (e : Eff) : State :=
  match e with
  | .inl r => refuseCmd s q r
  | .inr (t, _) => beginCmd t q copyMark

/-- R27 action 5, R298: the held commands take effect in submission order and complete; a restore begins its copy. -/
def judgeHeld (s : State) (held : List Nat) : State :=
  held.foldl (fun s q => match curCmd s q with
    | none => s
    | some (_, w) => if cmdOpcode w = 0x12 then startCopy s q (heldEff s q w) else finish s q (heldEff s q w)) s

/-- R344: a page command names a sequence whose checkpoint is being copied. -/
def pageWaits (s : State) (p w : Nat) : Bool :=
  copying s p (fld w 223 192) || (cmdOpcode w == 0x23 && copying s p (fld w 191 160))

/-- R298: a page command that waited for a checkpoint takes effect, or is held to the boundary of a running step. -/
def pageResume (s : State) (q : Nat) : State :=
  match curCmd s q with
  | none => s
  | some (r, w) =>
    if r.begun && r.aux == copyMark && !pageWaits s (qPart q) w then
      if stepActive s (qPart q) then holdCmd s q else finish s q (pageEff s (qPart q) w)
    else s

/-- R344: the checkpoint copies of a partition complete, and the page commands that waited for them go on. -/
def copiesEnd (s : State) (p : Nat) : State :=
  match curCmd s (8 * p + 1) with
  | none => s
  | some (r, _) => if r.begun && r.aux == copyMark then pageResume (completeCmd s (8 * p + 1) []) (8 * p + 2) else s

/-! ### CANCEL (R194, R318–R320) -/

/-- R194: CANCEL's result word. -/
def cancelWord (s : State) (p q : Nat) : W256 :=
  let last := match (seqOf s p q).bind (·.lastStep) with
    | some n => n
    | none => Config.noLastStep q
  BitVec.ofNat 256 (put q 32 224 + put last 64 160)

/-- Fills the result words of the CANCELs of one list that have become final. -/
def finalOne (s : State) (p : Nat) (seq : Nat → Bool) (r : RunList) : RunList :=
  (r.aux.filter fun e => seq (e / 65536)).foldl (fun r e =>
    { r with results := r.results.set (e % 65536) (cancelWord s p (e / 65536)), aux := r.aux.erase e }) r

/-- R194, R320: the CANCELs of partition `p` for the sequences that satisfy `seq` are final: their result words are
filled in, and a list of which none waits any more ends. -/
def finalCancels (s : State) (p : Nat) (seq : Nat → Bool) : State :=
  let upd := s.cancelWait.map fun e => if qPart e.1 = p then (e.1, finalOne s p seq e.2) else e
  let run := (List.range 1).foldl (fun s _ => match (queue s (128 + 8 * p)).running with
    | none => s
    | some r => setQueue s (128 + 8 * p) { queue s (128 + 8 * p) with running := some (finalOne s p seq r) }) s
  let s := { run with cancelWait := upd.filter fun e => !e.2.aux.isEmpty }
  releaseWaits ((upd.filter fun e => e.2.aux.isEmpty).foldl (fun s e =>
    endRun s e.1 e.2 (if e.2.begun then 0x0207 else 0) (if e.2.begun then e.2.pos else 0)) s) p 6

end Sys2Proof.Machine
end

