-- ==== Sys2Proof/Machine/Steps.lean ====
section
/-! DEFINITION. The step of a partition (R17, R27, R142–R144, R205, R294, R322): its commit point, its early end, its stalls,
its discard, and the taking of a fault. -/
namespace Sys2Proof.Machine

/-- R417: a change of the POWER mode holds enabled partitions in ARMED. -/
def modeHolds (s : State) : Bool := s.modeRec.kind == 3 && (s.modeRec.st == 1 || s.modeRec.st == 2)
/-- R17, R417: a partition reaches IDLE, or ARMED while a change of the POWER mode is ARMING or ARMED. -/
def toIdle (s : State) (p : Nat) : State := setPState s p (if modeHolds s then .armed else .idle)

def stepOf (s : State) (p : Nat) : Option StepRun := (part s p).step
def updStep (s : State) (p : Nat) (f : StepRun → StepRun) : State :=
  updPart s p fun x => { x with step := x.step.map f }
def updSlot (s : State) (p slot : Nat) (f : SlotB → SlotB) : State :=
  updStep s p fun r => { r with slots := r.slots.map fun b => if b.slot = slot then f b else b }

/-! ### Tiles that cannot run -/

/-- R454: the hot spot of a tile. -/
def hotSpot (t : Nat) : Nat := 2 * clusterOf t + fld t 6 4 / 4
/-- R238, R239, R462: the tile's sequencer is dark. -/
def tileDark (s : State) (t : Nat) : Bool :=
  s.heatOff.contains (hotSpot t) || decide (2 ≤ FMap.get 0 s.blockSt (clusterOf t)) || !computes s

/-- The tiles of a partition. -/
def tilesOf (s : State) (p : Nat) : List Nat := (part s p).place.tiles.map (·.tile)

/-! ### Hubs (R231) -/

/-- R231: a placement whose standby hub `h` serves as the hub; its tiles go by their tables' second entries. -/
def hubToStandby (pl : Placement) (h : Nat) : Placement :=
  { pl with hub := h, standby := none, tiles := pl.tiles.map fun x => { x with notice := x.noticeS, noticeS := (0, 0) } }

/-- R231, R515: the link die that slot 4 of a firmware update switches now. -/
def switchingLd (s : State) : Option Nat := if (s.fw.st = 3 ∨ s.fw.st = 5) ∧ s.fw.todo.head? = some 4 then s.fw.lds.head? else none

/-- R231: at a step boundary a partition hubbed on the link die that switches moves to its standby hub. -/
def hubMove (s : State) (p : Nat) : State :=
  let pl := (part s p).place
  match pl.standby with
  | none => s
  | some h => if (part s p).st ≠ .free ∧ switchingLd s = some pl.hub ∧ (part s p).step = none then
      updPart s p fun x => { x with place := hubToStandby x.place h }
    else s

/-! ### Stalls (R142–R144, R203, R204) -/

/-- R17, R239, R240, R378: a tile of the partition is dark, a failure holds one of its transfers, or its group has lost its quorum in a group
step: every tile holds at once, without a notice. -/
def frozen (s : State) (p : Nat) : Bool :=
  (tilesOf s p).any (tileDark s) || (heldFlow s p).isSome || ((group s p).st == 3 && (stepOf s p).any (·.group.isSome))

/-- A late tile of the partition, a dark one, a held transfer (R239, R240), or the loss of its group's quorum (R378). -/
def stallReason (s : State) (p : Nat) : Bool := (s.tiles.any fun e => e.2.part == p && e.2.late) || frozen s p

/-- R126, R131: some tile of the partition is late by a repeat or a pin. -/
def guardLate (s : State) (p : Nat) : Bool := s.tiles.any fun e => e.2.part == p && e.2.late && (e.2.lateFor == 4 || e.2.lateFor == 5)

/-- R160: the scratchpad offset of a tile's command list for a program. -/
def listBase (pl : Placement) (pti prog : Nat) : Option Nat :=
  match ptile pl pti, pl.progs.find? (fun x => x.prog == prog) with
  | some t, some g =>
    match g.entries[pti]? with
    | none => none
    | some (ridx, off) => (t.regions.find? fun r => r.ridx == ridx).map fun r => r.base + off
  | _, _ => none

/-- The run that a launch gives a tile: its list's header is at `base` (R141, R160). -/
def newRun (s : State) (t p prog base : Nat) : TileRun :=
  { part := p, prog := prog, base := base, ncmd := fld (leNat (spRead s t base 16)) 115 100 }

/-- The next TSTEP of a run from word `i` on: its word number and word. -/
def nextTstep (s : State) (t : Nat) (r : TileRun) (i : Nat) : Nat → Option (Nat × Nat)
  | 0 => none
  | k + 1 =>
    if r.ncmd < i then none
    else
      let w := leNat (spRead s t (r.base + 16 * i) 16)
      if fld w 127 120 == 0x02 then some (i, w) else nextTstep s t r (i + 1) k

/-- R204: the TSTEP that a tile of the stepping partition has not reached: its offset and START; zeros where its list holds none. -/
def tstepAhead (s : State) (p t : Nat) : Nat × Nat :=
  let run := match FMap.find s.tiles t with
    | some r => some r
    | none => match ownerOf s t, stepOf s p with
      | some (_, pti), some r => (listBase (part s p).place pti r.prog).map (newRun s t p r.prog)
      | _, _ => none
  match run.bind fun r => nextTstep s t r r.pos (r.ncmd + 1) with
  | none => (0, 0)
  | some (i, w) => (i, fld w 119 94)

/-- R17, R204: the partition becomes STALLED, with the cause and place of the stall, and is counted. -/
def enterStall (s : State) (p cause tile off start : Nat) : State :=
  if (part s p).st = .stepping then
    let s := addObj (setPState s p .stalled) (pidx 0x51 p) 24 1
    updStep s p fun r => { r with
      stallFrom := nowNs s, stallCause := cause, stallTile := tile, stallOff := off, stallStart := start, stallPosted := false }
  else s

/-- R143, R204: the partition leaves STALLED; the time is added up. -/
def leaveStall (s : State) (p : Nat) : State :=
  match (part s p).st, stepOf s p with
  | .stalled, some r =>
    let d := nowNs s - r.stallFrom
    let s := addObj (setPState s p .stepping) (pidx 0x51 p) 25 d
    updStep s p fun r => { r with stallNs := r.stallNs + d }
  | _, _ => s

/-- R126, R130, R135: the time for which a tile has been late by a repeat or a pin is added to obj 0x51pp:20; overlapping times count once. -/
def addGuardTime (s : State) (p : Nat) : State :=
  match stepOf s p with
  | none => s
  | some r => addObj s (pidx 0x51 p) 20 (nowNs s - r.guardFrom)

/-- R17, R238–R240: judges again whether a stepping partition is stalled: with cause 7 by a dark tile, with cause 12 by a transfer that a failure
holds. -/
def reviewStall (s : State) (p : Nat) : State :=
  if stallReason s p then
    match (tilesOf s p).find? (tileDark s), heldFlow s p with
    | some t, _ => enterStall s p 7 t (tstepAhead s p t).1 (tstepAhead s p t).2
    | none, some t => enterStall s p 12 t (tstepAhead s p t).1 (tstepAhead s p t).2
    | none, none => s
  else leaveStall s p

/-! ### Commit point (R27, R310, R320, R322) -/

/-- R128, R129: the step engine judges the step for a guard storm; the end of a run of storm steps raises a second cause. -/
def stormCheck (s : State) (p : Nat) : State :=
  match stepOf s p with
  | none => s
  | some r =>
    let i := pidx 0x51 p
    -- DESIGN CHOICE (log 98): a step in which no layer was guarded is no storm step
    if r.guarded ≠ [] ∧ r.stormFrac * r.guarded.length ≤ 100 * r.repeated.length then
      let s := updStep (setObj (addObj s i 21 1) i 22 r.stepNo) p fun r => { r with storm := true }
      let s := if (part s p).stormOpen then s else raise s { sev := 2, cls := 4, part := some p }
      updPart s p fun x => { x with stormOpen := true, calmSteps := 0 }
    else if (part s p).stormOpen then
      if 1000 ≤ (part s p).calmSteps + 1 then
        updPart (raise s { sev := 1, cls := 4, part := some p }) p fun x => { x with stormOpen := false, calmSteps := 0 }
      else updPart s p fun x => { x with calmSteps := x.calmSteps + 1 }
    else s

/-- The commit point: the step stands for every unmasked slot, and the CANCELs recorded before it are final. A group step reaches it as R375
allows. -/
def commitPoint (s : State) (p : Nat) : State :=
  match stepOf s p with
  | none => s
  | some r =>
    if r.committed || !groupGate s p r then s
    else
      let s := sendCommit (updStep (stormCheck s p) p fun r => { r with committed := true }) p r
      let s := r.slots.foldl (fun s b => if b.masked then s else
        match seqOf s p b.seq with
        | none => s
        | some x => setSeq s p b.seq { x with lastStep := some r.stepNo }) s
      let mine := fun q => r.slots.any fun b => b.seq == q && b.cancelled
      finalForwards (finalCancels s p fun q => mine q && !awaitsMaster s p q) p mine

/-- R310: the commit point follows the last ACCEPT. -/
def commitIfDecided (s : State) (p : Nat) : State :=
  match stepOf s p with
  | none => s
  | some r => if r.slots.all fun b => b.masked || b.decided then commitPoint s p else s

/-- Removes the runs of a partition's tiles, its reduction operands and its fabric traffic. -/
def dropRuns (s : State) (p : Nat) : State :=
  { s with
    tiles := s.tiles.filter fun e => e.2.part != p
    accPend := s.accPend.filter fun e => !(s.tiles.any fun r => r.1 == e.1 / 128 && r.2.part == p)
    flights := s.flights.filter fun f => f.part != p
    rflights := s.rflights.filter fun f => f.part != p
    rslots := s.rslots.filter fun f => f.part != p
    fills := s.fills.filter fun f => f.1 != p }

/-- R322: every bound slot of the running step is masked: the tiles abandon their lists and the commit point is reached at once. -/
def endIfMasked (s : State) (p : Nat) : State :=
  match stepOf s p with
  | none => s
  | some r =>
    if r.committed || !(r.slots.all (·.masked)) then s
    else
      let s := leaveStall (addObj (dropRuns (if guardLate s p then addGuardTime s p else s) p) (pidx 0x57 p) 8 1) p
      commitPoint (sendMasks (updStep s p fun r => { r with ended := tilesOf s p }) p) p

/-- Masks a slot of the running step (R28, R293, R307). -/
def maskSlot (s : State) (p slot : Nat) (cancel : Bool) (cause : Nat) : State :=
  updSlot s p slot fun b => { b with masked := true, cancelled := b.cancelled || cancel, cause := if b.cause = 0 then cause else b.cause }

/-! ### Discard and faults (R185, R190, R205, R206, R294, R298) -/

/-- The queue position of the STEP that runs: the offset in its list. -/
def stepOffset (s : State) (p : Nat) : Nat :=
  match (queue s (8 * p)).running with
  | none => 0
  | some r => r.pos

/-- R161, R205: after a fault the tiles of the partition run on to their next TSTEP; its reduction operands go. -/
def stopRuns (s : State) (p : Nat) : State :=
  { s with
    tiles := s.tiles.map fun e => if e.2.part = p then (e.1, { e.2 with stopping := true }) else e
    rflights := s.rflights.filter fun f => f.part != p
    rslots := s.rslots.filter fun f => f.part != p
    fills := s.fills.filter fun f => f.1 != p }

/-- R194: a step that had passed its commit point is discarded: it is no longer the last step that committed for a slot's sequence. -/
def uncommitSlot (p : Nat) (s : State) (b : SlotB) : State :=
  if b.masked then s
  else
    match seqOf s p b.seq with
    | none => s
    | some x => setSeq s p b.seq { x with lastStep := b.prevLast }

/-- R190, R294, R298: the running step is discarded with a reason: what the allocation call gave is undone, the ring tags it
touched become invalid, its tiles stop (at their next TSTEP where `soft`, else at once), held commands are judged, and the
STEP's list ends. -/
def discardStep (s : State) (p reason : Nat) (soft : Bool := false) : State :=
  match stepOf s p with
  | none => s
  | some r =>
    let s := leaveStall (if guardLate s p then addGuardTime s p else s) p
    let s := if r.committed then r.slots.foldl (uncommitSlot p) s else s
    let s := r.slots.reverse.foldl (undoSlot p) s
    let s := invalidateStepTags s p r
    let s := if soft then stopRuns s p else dropRuns s p
    let s := updPart s p fun x => { x with step := none }
    let s := judgeHeld s r.held
    let s := finalForwards (finalCancels s p fun _ => true) p fun _ => true
    let s := if r.group.isSome then orderRevert s p else s
    releaseWaits (endList s (8 * p) reason (stepOffset s p) (some r.stepNo)) p 6

/-- R17: a partition leaves DISABLING: lists still waiting are returned, and a pending swap record applies. -/
def leaveDisabling (s : State) (p : Nat) : State :=
  let s := applySwap (setPState s p .loaded) p
  returnQueued (returnRunning s (8 * p) 0x0203) p 0x0203

/-- R30: a partition's tile waits, in a SYNC that is not satisfied, on the object of the link that the partition is the target of. -/
def linkWaits (s : State) (tp l : Nat) : Bool :=
  s.tiles.any fun e => e.2.part == tp && match e.2.syncHeld with
    | some (o, _) => o == objD 0 s 0x5200 (8 * l + 5)
    | none => false

/-- R30: the draft partition of a link is FAULTED or disabled. -/
def draftDown (s : State) (l : Nat) : Bool :=
  let d := part s (objD 0xFF s 0x5200 (8 * l + 1))
  d.st == .faulted || !d.enable

/-- R30: a target's step that waits on the link of a partition that is FAULTED or disabled raises a cause, once for a wait. -/
def draftCheck (s : State) (tp : Nat) : State :=
  match linkOfTarget s tp with
  | none => s
  | some l =>
    if inStep s tp && draftDown s l && linkWaits s tp l && !(part s tp).draftCause then
      updPart (raise s { sev := 3, cls := 2, part := some tp }) tp fun x => { x with draftCause := true }
    else s

/-- R30: a partition faults or is disabled: the target of its draft link is judged. -/
def draftGone (s : State) (p : Nat) : State :=
  match linkOfDraft s p with
  | none => s
  | some l => draftCheck s (objD 0xFF s 0x5200 (8 * l + 2))

/-- R482: the kind of Kennel event of a fault's reason, 0 for none. -/
def faultKind (reason : Nat) : Nat :=
  match reason with
  | 0x0703 => 1
  | 0x0704 => 2
  | 0x0705 => 9
  | _ => 0

/-- R376: reverts an undo record. -/
def revertUndo (s : State) (p : Nat) (u : Undo) : State :=
  let s := u.sets.foldl (fun s e => { s with kvSets := FMap.put (0, 0) s.kvSets e.1 e.2 }) s
  let s := u.seqs.foldl (fun s e => match seqOf s p e.1 with
    | none => s
    | some x => setSeq s p e.1 { x with len := e.2.len, tables := e.2.tables, lastStep := e.2.lastStep }) s
  updPart s p fun x => { x with stepCounter := x.stepCounter - 1 }

/-- R380: a master's group step that has committed and is not posted yet is reverted, and its STEP's list ends. -/
def abandonPosting (s : State) (p reason : Nat) : State :=
  let g := group s p
  match g.posting with
  | none => s
  | some r =>
    let s := match g.undo with
      | none => s
      | some u => revertUndo s p u
    let s := orderRevert (updGroup s p fun g => { g with posting := none, undo := none, ranks := [], masks := [], done := [], sent := false }) p
    releaseWaits (endList s (8 * p) reason (stepOffset s p) (some r.stepNo)) p 6

/-- R205, R206: a partition faults. `src` 0 tile command, 1 call, 2 engine. The first fault of a step discards it, posts the
record, raises a cause and is kept in Kennel (R32, R481); a fault found in a partition that is FAULTED already is counted. -/
def partFault (s : State) (p src tile off prog unit reason addr : Nat) : State :=
  let s := abandonPosting s p reason
  match (part s p).st with
  | .faulted => addObj s (pidx 0x51 p) 29 1
  | .free => s
  | .loading => s
  | st =>
    let stepNo := match stepOf s p with
      | some r => r.stepNo
      | none => (part s p).stepCounter
    let s := discardStep s p reason true
    let s := if st = .disabling then leaveDisabling s p else setPState s p .faulted
    let s := postDebug s p { typ := 1, body := faultRecord src tile off prog unit reason addr stepNo }
    let s := raiseRc s 4 reason (some p) (if src = 2 then 0 else 1) (if src = 2 then 0 else tile) off
    let s := if src = 2 ∨ tile = 0xFFFF then kennelEvent s 0 0 0 0 reason (off * 2 ^ 64 + stepNo)
      else kennelEvent s (faultKind reason) 1 tile 0 reason (off * 2 ^ 64 + stepNo)
    -- R268
    let s := updPart s p fun x => { x with permFault := src != 2 && tile != 0xFFFF && (kUnit s (kKey 1 tile 0)).st == 2 }
    draftGone s p

/-- A fault of SOURCE 2. -/
def engineFault (s : State) (p reason : Nat) : State :=
  partFault s p 2 0xFFFF 0 (match stepOf s p with
    | some r => r.prog
    | none => 0) 0 reason 0

/-- R150: a word found uncorrectable in a memory of a tile is counted. -/
def countMem (s : State) (t reason : Nat) : State :=
  if reason = 0x0703 then addObj s 0x3101 2 1 t else if reason = 0x0704 then addObj s 0x3101 6 1 t else s

/-- R161, R205: a tile's command faults. The tile's run ends and its issued commands, its SENDs among them, are abandoned; an uncorrectable word of the tile is counted (R150); a fault found in a tile that is stopping is counted. -/
def tileFault (s : State) (p src t off prog unit reason addr : Nat) : State :=
  let s := countMem s t reason
  let stopping := (FMap.find s.tiles t).any (·.stopping)
  let s := { s with
    tiles := FMap.del s.tiles t, accPend := s.accPend.filter fun e => e.1 / 128 != t
    flights := s.flights.filter fun f => f.src != t }
  if stopping then addObj s (pidx 0x51 p) 29 1 else partFault s p src t off prog unit reason addr

end Sys2Proof.Machine
end

