-- ==== Sys2Proof/Machine/Operands.lean ====
section
/-! DEFINITION. Tile operands (R152, R153): what an operand of a tile command names, when it faults, when it waits, and
reading and writing it. Writes inside a guarded tile-step are noted, so that a repeat can restore them (R124). -/
namespace Sys2Proof.Machine

/-! ### Addresses -/

/-- R152: bit 23, 1 for the accumulator memory. -/
def opAcc (a : Nat) : Bool := bitAt a 23
def opOff (a : Nat) : Nat := if opAcc a then a % 2 ^ 19 else a % 2 ^ 23
/-- R152: the operand of `n` bytes is aligned to `al`, in the accumulator memory to a word at least, and lies within its memory. -/
def opOk (a n al : Nat) : Bool :=
  if opAcc a then a % 4 == 0 && opOff a % al == 0 && decide (opOff a + n ≤ 0x80000)
  else opOff a % al == 0 && decide (opOff a + n ≤ spTop)

/-- R152, R161: bits [22:19] of an operand in the accumulator memory are reserved. -/
def opResv (a : Nat) : Bool := opAcc a && fld a 22 19 != 0

/-- The accumulator rows that `n` bytes of an operand touch. -/
def opRows (a n : Nat) : List Nat :=
  if opAcc a && decide (0 < n) then
    (List.range ((opOff a + n - 1) / 4096 + 1 - opOff a / 4096)).map (· + opOff a / 4096)
  else []

/-- R10, R152: the partition virtual address of a tile operand. -/
def opVa (pti a : Nat) : Nat := put (b2n (opAcc a)) 4 44 + put pti 12 32 + opOff a

/-- Two operand ranges share a byte. -/
def opOverlap (a n b m : Nat) : Bool :=
  opAcc a == opAcc b && decide (opOff a < opOff b + m) && decide (opOff b < opOff a + n) && decide (0 < n) && decide (0 < m)

/-- R155: a destination that overlaps a source without starting where it starts. -/
def opClash (dst n src m : Nat) : Bool := opOverlap dst n src m && (dst % 2 ^ 24 != src % 2 ^ 24)

/-! ### Runs -/

def runOf (s : State) (t : Nat) : Option TileRun := FMap.find s.tiles t
def updRun (s : State) (t : Nat) (f : TileRun → TileRun) : State :=
  match runOf s t with
  | none => s
  | some r => { s with tiles := FMap.set s.tiles t (f r) }

/-- R45, R171: a row whose result is still to be written, or that an open scope of the present run holds. -/
def rowTaken (s : State) (t row : Nat) : Bool :=
  decide (0 < FMap.get 0 s.accPend (rowKey t row)) ||
  match runOf s t with
  | none => false
  | some r => r.scope && r.rows.contains row

/-- R123, R124: a row that readers must wait for: it is taken, or a result of an abandoned run that its repeat has not written again. -/
def rowPending (s : State) (t row : Nat) : Bool :=
  rowTaken s t row || match runOf s t with
  | none => false
  | some r => r.oldRows.contains row && !r.rows.contains row

/-- R123, R124: scratchpad bytes that an open scope holds pending, or that an abandoned run wrote and its repeat has not written again. -/
def spPending (s : State) (t off n : Nat) : Bool :=
  match runOf s t with
  | none => false
  | some r =>
    let hits := fun (x : Nat × Nat) => decide (x.1 < off + n) && decide (off < x.1 + x.2)
    (r.scope && r.spans.any hits) || r.oldSpans.any fun x => hits x && !(r.spans.any fun y =>
      decide (y.1 ≤ Nat.max x.1 off) && decide (Nat.min (x.1 + x.2) (off + n) ≤ y.1 + y.2))

/-- R139: the operand touches a pending row or pending scratchpad bytes. -/
def opPending (s : State) (t a n : Nat) : Bool := (opRows a n).any (rowPending s t) || (!opAcc a && spPending s t (opOff a) n)

/-- R139: the operand touches a row whose result is still to be written. -/
def opTaken (s : State) (t a n : Nat) : Bool := (opRows a n).any (rowTaken s t)

/-! ### Reading -/

/-- The bytes of the accumulator memory from a byte offset. -/
def accBytes (s : State) (t off n : Nat) : List Byte :=
  (List.range n).map fun i => (leBytes 4 (accRead s t 0 ((off + i) / 4)).toNat).getD ((off + i) % 4) 0

def opBytes (s : State) (t a n : Nat) : List Byte :=
  if opAcc a then accBytes s t (opOff a) n else spRead s t (opOff a) n

/-- R102, R148, R151, R152: why a read of an operand faults, none where it does not. `raw` reads may name rows that are not SCALED. -/
def opReadFault (s : State) (t a n : Nat) (raw : Bool := false) : Option Nat :=
  if opAcc a then
    if !raw && (opRows a n).any (fun r => !accScaled s t r) then some 0x0113
    else if accBad s t (opOff a / 4) ((n + 3) / 4) then some 0x0704
    else none
  else if spBad s t (opOff a) n then some 0x0703
  else none

/-- Little-endian numbers of `k` bytes each. -/
def chunks (k n : Nat) (bs : List Byte) : List Nat :=
  (List.range n).map fun i => leNat ((bs.drop (i * k)).take k)

def opW32 (s : State) (t a n : Nat) : List Nat := chunks 4 n (opBytes s t a (4 * n))
def opBf16 (s : State) (t a n : Nat) : List Nat := chunks 2 n (opBytes s t a (2 * n))

/-! ### Writing -/

/-- R147: the operand touches a RESIDENT or REPEAT region of the tile. -/
def opProtected (s : State) (p t a n : Nat) : Bool :=
  !opAcc a && match (part s p).place.tiles.find? (fun x => x.tile == t) with
    | none => false
    | some pt => touchesKind pt 0 (opOff a) n || touchesKind pt 3 (opOff a) n

/-- R148, R151: a write of these bytes finds a partly written word that is uncorrectable. -/
def opWriteFault (s : State) (t a n : Nat) : Option Nat :=
  if opAcc a then
    let lo := opOff a
    let hi := opOff a + n
    if 0 < n ∧ ((lo % 8 ≠ 0 ∧ 2 ≤ accErrAt s t (lo / 8)) ∨ (hi % 8 ≠ 0 ∧ 2 ≤ accErrAt s t (hi / 8))) then some 0x0704 else none
  else if spWriteBad s t (opOff a) n then some 0x0703
  else none

/-- R124: a guarded tile-step whose scope has not closed keeps what it overwrites. -/
def logging (r : TileRun) : Bool := r.grd && !r.closed

/-- R124: notes scratchpad bytes before they are overwritten. -/
def noteSp (s : State) (t off n : Nat) : State :=
  updRun s t fun r => if logging r then
    { r with undoSp := ((List.range n).map fun i => (spKey t (off + i), Memory.read s.sp (spKey t (off + i)))) ++ r.undoSp }
  else r

/-- R123: scratchpad bytes that a guarded tile-step has written as a result. -/
def noteSpan (s : State) (t off n : Nat) : State :=
  updRun s t fun r => if logging r then { r with spans := (off, n) :: r.spans } else r

/-- R123, R124: notes accumulator words and the tags of their rows, which become the tile-step's results. -/
def noteAcc (s : State) (t i n : Nat) : State :=
  updRun s t fun r => if logging r then
    let rows := if n = 0 then [] else (List.range ((i + n - 1) / 1024 + 1 - i / 1024)).map (· + i / 1024)
    { r with
      undoAcc := ((List.range n).map fun k => (t * 2 ^ 17 + i + k, accRead s t 0 (i + k))) ++ r.undoAcc
      undoTag := (rows.map fun w => (rowKey t w, accTag s t w)) ++ r.undoTag
      rows := r.rows ++ rows }
  else r

/-- R151: the tag that any command but EVAL and SCL leaves: VERSION 0b01 and SCALED. -/
def tagScaled : Nat := 0x6000

/-- Writes an operand that a tile command has quantised to the scratchpad. -/
def tileOperand (s : State) (t off : Nat) (bs : List Byte) : State := spWrite (noteSp s t off bs.length) t off bs

/-- Writes a tile command's result to the scratchpad. -/
def tileSp (s : State) (t off : Nat) (bs : List Byte) : State := noteSpan (tileOperand s t off bs) t off bs.length

/-- Writes accumulator words from word `i` for a tile command and tags their rows. -/
def tileAcc (s : State) (t i : Nat) (ws : List W32) (tag : Nat := tagScaled) : State :=
  let n := ws.length
  let s := accWriteWords (noteAcc s t i n) t i ws
  if n = 0 then s
  else (List.range ((i + n - 1) / 1024 + 1 - i / 1024)).foldl (fun s k => setAccTag s t (i / 1024 + k) tag) s

/-- Accumulator words that `n` bytes from a byte offset give, the unwritten bytes of the last word kept. -/
def mergeWords (s : State) (t off : Nat) (bs : List Byte) : List W32 :=
  let k := (bs.length + 3) / 4
  let pad := (accBytes s t (off + bs.length) (4 * k - bs.length))
  (chunks 4 k (bs ++ pad)).map fun v => BitVec.ofNat 32 v

/-- Writes bytes at a tile operand. -/
def opWrite (s : State) (t a : Nat) (bs : List Byte) : State :=
  if opAcc a then tileAcc s t (opOff a / 4) (mergeWords s t (opOff a) bs) else tileSp s t (opOff a) bs

/-- R124: what comes from outside the tile-step stays on a repeat: the notes of what it overwrote go. -/
def forgetUndo (s : State) (t a n : Nat) : State :=
  updRun s t fun r =>
    if opAcc a then
      { r with undoAcc := r.undoAcc.filter fun e =>
          !(decide (t * 2 ^ 17 + opOff a / 4 ≤ e.1) && decide (e.1 < t * 2 ^ 17 + (opOff a + n + 3) / 4)) }
    else { r with undoSp := r.undoSp.filter fun e => !(decide (spKey t (opOff a) ≤ e.1) && decide (e.1 < spKey t (opOff a) + n)) }

/-- Delivers bytes that came over the fabric at a tile operand; they are no result of the tile's own tile-step. -/
def opDeliver (s : State) (t a : Nat) (bs : List Byte) : State :=
  let s := forgetUndo s t a bs.length
  if opAcc a then
    let ws := mergeWords s t (opOff a) bs
    let i := opOff a / 4
    let n := ws.length
    let s := accWriteWords s t i ws
    if n = 0 then s
    else (List.range ((i + n - 1) / 1024 + 1 - i / 1024)).foldl (fun s k => setAccTag s t (i / 1024 + k) tagScaled) s
  else spWrite s t (opOff a) bs

def w32Bytes (vs : List Nat) : List Byte := vs.flatMap (leBytes 4)
def bf16Bytes (vs : List Nat) : List Byte := vs.flatMap (leBytes 2)

end Sys2Proof.Machine
end

