-- ==== Sys2Proof/Machine/Flags.lean ====
section
/-! DEFINITION. Tile flags (R159) and the counters of numeric events (R113). -/
namespace Sys2Proof.Machine

def tileFlag (r : TileRun) (f : Nat) : Nat := FMap.get 0 r.flags f

/-- R159: an event increments a flag; past 0xFFFF_FFFF it faults at the command offset given. -/
def incFlag (s : State) (t f off unit : Nat) : State :=
  match runOf s t with
  | none => s
  | some r =>
    if tileFlag r f = 0xFFFFFFFF then tileFault s r.part 0 t off r.prog unit 0x0119 0
    else updRun s t fun r => { r with flags := FMap.set r.flags f (tileFlag r f + 1) }

/-- R113: overflows to infinity and invalid results of a partition (obj 0x51pp:10, :11). -/
def countNum (s : State) (p ovf inv : Nat) : State :=
  let s := if ovf = 0 then s else addObj s (pidx 0x51 p) 10 ovf
  if inv = 0 then s else addObj s (pidx 0x51 p) 11 inv

/-- R113: SAT elements of conversions to MXFP6, MXFP8, MXINT8 and A8 (obj 0x51pp:12). -/
def countSat (s : State) (p n : Nat) : State := if n = 0 then s else addObj s (pidx 0x51 p) 12 n

end Sys2Proof.Machine
end

