-- ==== Sys2Proof/Machine/TileSeq.lean ====
section
/-! DEFINITION. The tile sequencer (R137–R144, R159–R163): fetching and decoding a command word, the hazard detector (R207–R209),
the sequencer's own commands, and the events of late tiles and their notices. -/
namespace Sys2Proof.Machine

/-! ### Fetch and decode (R160, R161) -/

/-- The command that a tile's sequencer has reached: partition, tile, run, word. -/
structure TCtx where
  p : Nat
  t : Nat
  run : TileRun
  w : Nat

/-- R162: the opcode is assigned. -/
def tcmdAssigned (op : Nat) : Bool :=
  decide (op ≤ 0x07) || [0x10, 0x11, 0x20, 0x30, 0x31, 0x32, 0x33, 0x34, 0x40, 0x41, 0x50, 0x51, 0x60, 0x61].contains op

/-- R163–R170: the number of low bits that a command's field table reserves. -/
def tcmdReserved (w : Nat) : Nat :=
  match fld w 127 120 with
  | 0x00 => 120 | 0x01 => 120 | 0x02 => 85 | 0x03 => 82 | 0x04 => 113 | 0x05 => 45 | 0x06 => 88 | 0x07 => 104
  | 0x10 => 34 | 0x11 => 90 | 0x20 => 11 | 0x31 => 32 | 0x33 => 15 | 0x34 => 17
  | 0x40 => 40 | 0x41 => 48 | 0x50 => 29 | 0x51 => 51 | 0x60 => 27 | 0x61 => 83
  | _ => 0

/-- R152, R165–R169: the lowest bits of a command's tile operands of 24 bits. -/
def tcmdOperands (w : Nat) : List Nat :=
  let fn := fld w 119 112
  match fld w 127 120 with
  | 0x10 => [57]
  | 0x20 => [12]
  | 0x30 => [72, 48] ++ (if fn ≤ 0x07 ∨ fn = 0x15 ∨ 0x18 ≤ fn then [24] else []) ++ if fn = 0x04 then [0] else []
  | 0x31 => [72, 48]
  | 0x32 => [72, 48, 24]
  | 0x33 => [74]
  | 0x34 => [72]
  | 0x40 => [96]
  | 0x41 => [96, 48]
  | 0x50 => [96, 36]
  | 0x51 => [96]
  | _ => []

/-- R161: a reserved bit of a command, or of one of its operands, is nonzero. -/
def tcmdResvSet (w : Nat) : Bool := w % 2 ^ tcmdReserved w != 0 || (tcmdOperands w).any fun l => opResv (fld w (l + 23) l)

/-- The word that a running tile's sequencer would issue next; none where it issues nothing: no run, the list's end, a dark
tile, a repeat about to start (R124), or a hold at BRK (R163). -/
def tileFetch (s : State) (t : Nat) : Option TCtx :=
  match runOf s t with
  | none => none
  | some r =>
    if r.pos ≤ r.ncmd ∧ !tileDark s t ∧ !r.flagged ∧ r.brk ≠ 1 then
      some { p := r.part, t := t, run := r, w := leNat (spRead s t (r.base + 16 * r.pos) 16) }
    else none

/-- A fault of the command reached. -/
def TCtx.fault (c : TCtx) (s : State) (unit reason : Nat) (addr : Nat := 0) : State :=
  tileFault s c.p 0 c.t c.run.pos c.run.prog unit reason addr

/-- R148, R150, R151: a read of `n` bytes corrects the words that hold one bad bit; each is counted and recorded. -/
def correctRead (s : State) (t a n : Nat) : State :=
  if opAcc a then
    ((List.range ((n + 15) / 8)).map (· + opOff a / 8)).foldl (fun s k =>
      if accErrAt s t k = 1 then
        kennelCorrected (addObj { s with accErr := FMap.del s.accErr (t * 2 ^ 16 + k) } 0x3101 5 1 t) 1 t
      else s) s
  else
    (wordsOf (opOff a) n).foldl (fun s w =>
      if spWordErr s t w = 1 then
        kennelCorrected (addObj { s with spErr := FMap.del s.spErr (t * 2 ^ 20 + w) } 0x3101 1 1 t) 1 t
      else s) s

/-- The unit, in the order of R137, of an opcode. -/
def tcmdUnit (op : Nat) : Nat :=
  if op = 0x06 then 7 else if op < 0x10 then 8 else if op = 0x10 then 0 else if op = 0x11 then 1 else if op = 0x20 then 2
  else if op < 0x40 then 3 else if op < 0x50 then 4 else if op < 0x60 then 5 else 6

/-- R211: the charge in mW of a command's unit while it is busy. -/
def cmdCharge (op : Nat) : Nat :=
  if op = 0x10 then 41 else if op = 0x11 then 150 else if op = 0x20 then 3400 else if op < 0x30 then 0
  else if op < 0x40 then 1100 else if op < 0x50 then 250 else if op < 0x60 then 300 else 200

/-- R137, R159, R254: SENDs and RDC contributions of a tile that have been issued and are still under way. -/
def inFlight (s : State) (t : Nat) : Nat :=
  (s.flights.filter fun f => f.src == t).length + (s.rflights.filter fun f => f.src == t + 1).length

/-- R211: the charges in mW of the units of a tile that are busy on a command that has not completed. -/
def busyCharge (s : State) (t : Nat) (r : TileRun) : Nat :=
  41 * r.evals.length + (if r.tmms.isEmpty then 0 else 3400) + (if r.kvrds.isEmpty then 0 else 200)
    + (if inFlight s t = 0 then 0 else 300)

/-- R211: the grant placed on a tile, in power units. -/
def tileGrant (s : State) (t : Nat) : Nat :=
  match ownerOf s t with
  | none => 0
  | some (p, i) => ((ptile (part s p).place i).map (·.grant)).getD 0

/-- R139, R211: the issue is held under a factor `f` in 1/64: the busy units' charges and the command's exceed the grant times the factor. -/
def grantShort (s : State) (t : Nat) (r : TileRun) (w f : Nat) : Bool :=
  let q := cmdCharge (fld w 127 120)
  q != 0 && decide (tileGrant s t * 1000 * f < 64 * (busyCharge s t r + q))
/-- R139, R211: the issue is held under the factor in force. -/
def grantHeld (s : State) (c : TCtx) : Bool := grantShort s c.t c.run c.w (FMap.get {} s.spots (hotSpot c.t)).f

/-- R207: bit `b` of the debug mode in force. -/
def debugBit (s : State) (p b : Nat) : Bool := bitAt (objD 0 s (pidx 0x51 p) 26) b

/-- R207: with the hazard detector on, a unit that still runs a command accepts no other. -/
def unitHeld (s : State) (t : Nat) (r : TileRun) (w : Nat) : Bool :=
  debugBit s r.part 1 && match tcmdUnit (fld w 127 120) with
    | 0 => !r.evals.isEmpty
    | 2 => !r.tmms.isEmpty
    | 5 => inFlight s t != 0
    | 6 => !r.kvrds.isEmpty
    | 7 => !r.calls.isEmpty
    | _ => false

/-- Issues the command that tile `t` has reached where `sel` accepts its word; an unassigned opcode, a reserved field that
is nonzero and an uncorrectable word fault (R148, R161); another command's word, or a hold of the power grant (R139) or of the hazard
detector (R207), leaves the state as it is. -/
def tileCmd (t : Nat) (sel : Nat → Bool) (f : TCtx → State → State) (s : State) : Host.Outcome State Fault Refusal :=
  if !tileOk t then .fault .noSuchUnit
  else
    match tileFetch s t with
    | none => .next s
    | some c =>
      if spBad s t (c.run.base + 16 * c.run.pos) 16 then .next (c.fault s 8 0x0703 (opVa 0 (c.run.base + 16 * c.run.pos)))
      else if !tcmdAssigned (fld c.w 127 120) then .next (c.fault s 8 0x0117)
      else if !sel c.w then .next s
      else if tcmdResvSet c.w then .next (c.fault s (tcmdUnit (fld c.w 127 120)) 0x0118)
      else if grantHeld s c || unitHeld s t c.run c.w then .next s
      else .next (f c s)

def isOp (op w : Nat) : Bool := fld w 127 120 == op

/-- The sequencer goes on to the next word. -/
def tileNext (s : State) (t : Nat) : State := updRun s t fun r => { r with pos := r.pos + 1 }

/-! ### The hazard detector (R207–R209) -/

/-- R208: what stands after `a` orders it before a later command `b`. -/
def hzOrders (a : HzRec) (e : HzRec) : Bool :=
  match e.kind with
  | 1 => decide (a.unit ≤ 7) && a.unit != 1 && bitAt e.arg
      (match a.unit with
        | 0 => 7 | 2 => 6 | 3 => 5 | 4 => 4 | 5 => 3 | 6 => 2 | _ => 1)
  | 2 => a.flag == e.arg + 1
  | _ => false

/-- R208: a SYNC wait orders the command at `off` where a signal to the same object was made by this tile after the command had completed. -/
def hzSyncOrders (off : Nat) : List HzRec → List Nat → Bool
  | [], _ => false
  | e :: t, sig =>
    if e.kind = 4 then hzSyncOrders off t (if e.busy.contains off then sig else e.arg :: sig)
    else if e.kind = 3 then sig.contains e.arg || hzSyncOrders off t sig
    else hzSyncOrders off t sig

/-- The first byte that two lists of ranges share, and how many from there: operand and length. -/
def hzOverlap (xs ys : List (Nat × Nat)) : Option (Nat × Nat) :=
  (xs.flatMap fun x => ys.filterMap fun y =>
    if opOverlap x.1 x.2 y.1 y.2 then
      let lo := Nat.max (opOff x.1) (opOff y.1)
      some (put (b2n (opAcc x.1)) 1 23 + lo, Nat.min (opOff x.1 + x.2) (opOff y.1 + y.2) - lo)
    else none).head?

/-- R208: the kind of an unordered pair, none where the commands do not conflict. -/
def hzKind (a b : HzRec) : Option (Nat × Nat × Nat) :=
  if a.unit = 15 then
    match hzOverlap (b.rd ++ b.wr) a.wr with
    | some o => some (5, o.1, o.2)
    | none => none
  else
    match hzOverlap b.rd a.wr, hzOverlap b.wr a.rd, hzOverlap b.wr a.wr with
    | some o, _, _ => some (1, o.1, o.2)
    | none, some o, _ => some (2, o.1, o.2)
    | none, none, some o => some (3, o.1, o.2)
    | none, none, none => none

/-- The hazards that a command `b` forms with what was issued before it. -/
def hzPairs (b : HzRec) : List HzRec → List (HzRec × Nat × Nat × Nat)
  | [] => []
  | a :: t =>
    (if a.kind = 0 ∧ a.unit ≠ b.unit ∧ !(t.any (hzOrders a)) ∧ !(a.unit ≤ 8 ∧ hzSyncOrders a.off t []) then
      match hzKind a b with
      | some k => [(a, k)]
      | none => []
    else []) ++ hzPairs b t

/-- R209: the 32 bytes of a hazard record. -/
def hazardRecord (kind tile offA offB ua ub op len step : Nat) : List Byte :=
  leBytes 32 (put 1 8 248 + put kind 4 244 + put tile 16 228 + put offA 16 212 + put offB 16 196 + put ua 4 192
    + put ub 4 188 + put op 24 164 + put (Nat.min len 1048575) 20 144 + put step 64 0)

/-- R208: reports one hazard once per step; with stop-on-hazard the partition faults. -/
def hzReport (c : TCtx) (s : State) (a : HzRec) (b : HzRec) (kind op len : Nat) : State :=
  match stepOf s c.p with
  | none => s
  | some r =>
    if r.hazards.contains (c.t, a.off, b.off) then s
    else
      let s := updStep s c.p fun r => { r with hazards := (c.t, a.off, b.off) :: r.hazards }
      let s := addObj s (pidx 0x51 c.p) 28 1
      let s := postDebug s c.p { typ := 2, body := hazardRecord kind c.t (if kind = 5 then 0 else a.off) b.off a.unit b.unit op len r.stepNo }
      if debugBit s c.p 2 then c.fault s b.unit 0x0108 else s

/-- The unit that a tracked command of a run took, the vector engine where none is tracked. -/
def hzUnit (r : TileRun) (off : Nat) : Nat := ((r.hz.find? fun h => h.kind == 0 && h.off == off).map (·.unit)).getD 3

/-- R125, R208: reports a command's writes to the guarded sources of the open scope; `own` are sources that the command itself guards. -/
def hzGuarded (c : TCtx) (s : State) (b : HzRec) (own : List (Nat × Nat)) : State :=
  let gs := (if c.run.scope then c.run.gsrc else []) ++ own.map fun x => (x.1, x.2, c.run.pos)
  gs.foldl (fun s g => match hzOverlap b.wr [(g.1, g.2.1)] with
    | some o => hzReport c s { off := g.2.2, unit := if g.2.2 = c.run.pos then b.unit else hzUnit c.run g.2.2 } b 4 o.1 o.2
    | none => s) s

/-- R207, R208: tracks a command at its issue and reports the pairs it leaves unordered. -/
def hzIssue (c : TCtx) (s : State) (b : HzRec) (own : List (Nat × Nat) := []) : State :=
  if debugBit s c.p 1 then
    let b := { b with off := c.run.pos }
    let s1 := (hzPairs b c.run.hz).foldl (fun s e => hzReport c s e.1 b e.2.1 e.2.2.1 e.2.2.2) s
    updRun (hzGuarded c s1 b own) c.t fun r => { r with hz := r.hz ++ [b] }
  else s

/-- Issues a command of a unit that reads and writes ranges of bytes; nothing runs where stop-on-hazard has faulted it. `own` are the
sources that the command itself guards (R125). -/
def issue (c : TCtx) (unit : Nat) (rd wr : List (Nat × Nat)) (f : State → State) (s : State) (flag : Nat := 0) (own : List (Nat × Nat) := []) :
    State :=
  let s := hzIssue c s { off := 0, unit := unit, rd := rd, wr := wr, flag := flag } own
  let s := (rd ++ wr).foldl (fun s x => correctRead s c.t x.1 x.2) s
  if (runOf s c.t).isSome then tileNext (f s) c.t else s

/-- R208: the offsets of the commands of a tile that have been issued and have not completed. -/
def openOffsets (s : State) (t : Nat) (r : TileRun) : List Nat :=
  r.evals.map (·.off) ++ r.tmms.map (·.off) ++ r.kvrds.map (·.off) ++ r.calls.map (·.off) ++ (s.flights.filter fun f => f.src == t).map (·.off)
    ++ (s.rflights.filter fun f => f.src == t + 1).map (·.off)

/-- Notes an ordering command for the hazard detector and goes on. -/
def seqNext (c : TCtx) (kind arg : Nat) (s : State) : State :=
  tileNext (if debugBit s c.p 1 then
      updRun s c.t fun r => { r with hz := r.hz ++ [{ off := r.pos, unit := 8, kind := kind, arg := arg, busy := openOffsets s c.t c.run }] }
    else s) c.t

/-! ### Sequencer commands (R163) -/

/-- NOP (R163). -/
def execNop (t : Nat) (s : State) : Host.Outcome State Fault Refusal :=
  tileCmd t (isOp 0x00) (fun c s => tileNext s c.t) s

/-- Every command that a tile issued has completed. -/
def tileDrained (s : State) (t : Nat) (r : TileRun) : Bool :=
  r.evals.isEmpty && r.tmms.isEmpty && r.kvrds.isEmpty && r.calls.isEmpty && inFlight s t == 0

/-- R310: every tile has reached END while an unmasked slot is undecided: the step engine faults the partition with
RC_ACCEPT_MISSING. -/
def acceptMissing (s : State) (p : Nat) : Bool :=
  match stepOf s p with
  | none => false
  | some r => !r.committed && !(r.group.isSome && groupRole s p == 2) && (tilesOf s p).all (r.ended.contains ·) && r.slots.any fun b => !b.masked && !b.decided

/-- The commit point, once every tile has reached END and every unmasked slot is decided (R27, R163). -/
def tryCommit (s : State) (p : Nat) : State :=
  match stepOf s p with
  | none => s
  | some r => if (tilesOf s p).all (r.ended.contains ·) then commitIfDecided s p else s

/-- END (R163): issues once every earlier command has completed, and reports the tile done. -/
def execEndCmd (t : Nat) (s : State) : Host.Outcome State Fault Refusal :=
  tileCmd t (isOp 0x01) (fun c s =>
    if tileDrained s t c.run then
      let s := { s with tiles := FMap.del s.tiles t }
      if c.run.stopping then s
      else
        let s := updStep s c.p fun r => { r with ended := t :: r.ended }
        let s := reviewStall s c.p
        tryCommit (if (stepOf s c.p).any fun r => (tilesOf s c.p).all (r.ended.contains ·) then sendMasks s c.p else s) c.p
    else s) s

/-- R143: the late tile reaches its TSTEP, whatever other stalls hold its clock: it sends a resume to every tile and is late no longer. Lateness
by a repeat or a pin is timed (R126). -/
def sendResume (c : TCtx) (s : State) : State :=
  if c.run.late then
    let start := ((c.run.stalls.find? fun x => x.1 == c.t).map (·.2)).getD 0
    let was := guardLate s c.p
    let s := updRun s c.t fun r => { r with late := false, lateFor := 0, stalls := r.stalls.filter fun x => x.1 != c.t }
    let s := if was && !guardLate s c.p then addGuardTime s c.p else s
    let s := updStep s c.p fun r => { r with
      notices := r.notices ++ ((tilesOf s c.p).filter (· != c.t)).map fun d => (d, c.t, start, 1) }
    reviewStall s c.p
  else s

/-- TSTEP (R141, R143, R161): a late tile that reaches it sends its resume; it issues once the step clock is at START and nothing holds the
whole partition; it begins a tile-step. -/
def execTstep (t : Nat) (s : State) : Host.Outcome State Fault Refusal :=
  tileCmd t (isOp 0x02) (fun c s =>
    if c.run.stopping then { s with tiles := FMap.del s.tiles t, accPend := s.accPend.filter fun e => e.1 / 128 != t }
    else
    let s := sendResume c s
    if c.run.clk < fld c.w 119 94 ∨ frozen s c.p then s
    else
      let g := bitAt c.w 85
      tileNext (updRun s t fun r => { r with
        tstep := r.pos, layer := fld c.w 93 86, grd := g
        scope := false, closed := false, rows := [], spans := [], oldRows := [], oldSpans := [], undoSp := [], undoAcc := [], undoTag := [], level := 0, gsrc := []
        redirects := if g then [] else r.redirects
        repeatNext := if g then 0 else r.repeatNext
        masked := r.masked ++ r.maskNext, maskNext := [] }) t) s

/-- WAITF (R163): goes on once the flag is at least VALUE. -/
def execWaitf (t : Nat) (s : State) : Host.Outcome State Fault Refusal :=
  tileCmd t (isOp 0x03) (fun c s =>
    if fld c.w 113 82 ≤ tileFlag c.run (fld c.w 119 114) then seqNext c 2 (fld c.w 119 114) s else s) s

/-- R163: a unit that FENCE's mask names still holds incomplete commands. -/
def fenceHolds (s : State) (t m : Nat) (r : TileRun) : Bool :=
  (bitAt m 7 && !r.evals.isEmpty) || (bitAt m 6 && !r.tmms.isEmpty) || (bitAt m 3 && inFlight s t != 0) ||
  (bitAt m 2 && !r.kvrds.isEmpty) || (bitAt m 1 && !r.calls.isEmpty)

/-- FENCE (R163): goes on once the units of MASK hold no incomplete command. -/
def execFence (t : Nat) (s : State) : Host.Outcome State Fault Refusal :=
  tileCmd t (isOp 0x04) (fun c s => if fenceHolds s t (fld c.w 119 112) c.run then s else seqNext c 1 (fld c.w 119 112) s) s

/-- SYNC signal (R163, R183): adds VALUE to an object of the partition; a sum past 2^64 − 1 faults. -/
def execSyncSignal (t : Nat) (s : State) : Host.Outcome State Fault Refusal :=
  tileCmd t (fun w => isOp 0x05 w && !bitAt w 119) (fun c s =>
    let o := fld c.w 118 109
    if !ownsSync s c.p o then c.fault s 8 0x0106 (3 * 2 ^ 44 + 8 * o)
    else
      match syncSum s c.p o (fld c.w 108 45) with
      | none => c.fault s 8 0x0107 (3 * 2 ^ 44 + 8 * o)
      | some v => seqNext c 4 o (syncWrite s c.p o v)) s

/-- SYNC wait (R163, R183, R184): goes on once the object is at least VALUE, or a value written since it was held has been; a wait on the link of
a draft partition that is FAULTED or disabled raises a cause (R30). -/
def execSyncWait (t : Nat) (s : State) : Host.Outcome State Fault Refusal :=
  tileCmd t (fun w => isOp 0x05 w && bitAt w 119) (fun c s =>
    let o := fld c.w 118 109
    if !ownsSync s c.p o then c.fault s 8 0x0106 (3 * 2 ^ 44 + 8 * o)
    else if fld c.w 108 45 ≤ syncGet s c.p o ∨ c.run.syncFree = true then
      seqNext c 3 o (updRun s c.t fun r => { r with syncHeld := none, syncFree := false })
    else draftCheck (updRun s c.t fun r => { r with syncHeld := some (o, fld c.w 108 45) }) c.p) s

/-- The body of a breakpoint record: VERSION 1, TILE, CODE and command offset, then zeros (the model's layout). -/
def brkRecord (tile code off : Nat) : List Byte := leBytes 16 (put 1 8 120 + put tile 16 104 + put code 16 88 + put off 16 72)

/-- BRK (R163): a NOP unless the debug mode enables it; then it posts a record and holds the tile until it is released. -/
def execBrk (t : Nat) (s : State) : Host.Outcome State Fault Refusal :=
  tileCmd t (isOp 0x07) (fun c s =>
    if !debugBit s c.p 0 then tileNext s c.t
    else if c.run.brk = 2 then tileNext (updRun s t fun r => { r with brk := 0 }) t
    else
      postDebug (updRun s t fun r => { r with brk := 1 }) c.p
        { typ := 5, body := brkRecord t (fld c.w 119 104) c.run.pos }) s

/-! ### Late tiles and notices (R142–R144) -/

/-- R131: the pin code of a layer in the running step. -/
def pinOf (r : StepRun) (layer : Nat) : Nat := r.pins.getD (layer / 16) 0 / 2 ^ (2 * (layer % 16)) % 4

/-- R54: the bank that an EVAL word names is REPAIRING. -/
def evalRepairing (s : State) (t w : Nat) : Bool :=
  match mapBank s t (fld w 119 114) (fld w 113 113) with
  | some b => (bankOf s (bankKey t (fld w 119 114) b)).st == .repairing
  | none => false

/-- R211: the lowered factor, and not the grant alone, holds the issue of a word. -/
def factorHeld (s : State) (t : Nat) (r : TileRun) (w : Nat) : Bool :=
  grantShort s t r w (FMap.get {} s.spots (hotSpot t)).f && !grantShort s t r w 64

/-- R203: the cause that a tile held ahead of its TSTEP has. DESIGN CHOICE (log 99): a tile held by nothing that the table names has cause 12. -/
def lateCause (s : State) (t : Nat) (r : TileRun) : Nat :=
  let w := leNat (spRead s t (r.base + 16 * r.pos) 16)
  let op := fld w 127 120
  let pinned := match stepOf s r.part with
    | none => false
    | some st => pinOf st r.layer != 0
  if tileDark s t then 7
  else if r.brk = 1 then 9
  else if r.flagged || decide (0 < r.level) && (!r.closed || !r.evals.isEmpty || !r.tmms.isEmpty) then 4
  else if op = 0x03 then
    let f := fld w 119 114
    if r.kvrds.any (fun k => k.flag == f) then 1
    else
      match r.calls.find? (fun k => k.flag == f) with
      | some k => if k.eng = 1 then 2 else 3
      | none => 12
  else if op = 0x04 ∧ !r.kvrds.isEmpty then 1
  else if op = 0x04 ∧ !r.calls.isEmpty then (if r.calls.any fun k => k.eng == 1 then 2 else 3)
  else if op = 0x05 ∧ bitAt w 119 then 8
  else if op == 0x10 && evalRepairing s t w then 6
  else if op = 0x60 ∨ op = 0x61 then 1
  else if factorHeld s t r w then 10
  else if op = 0x06 then (if fld w 119 117 = 1 then 2 else 3)
  else if 0 < r.level then 4
  else if pinned then 5
  else if debugBit s r.part 1 then 11
  else 12

/-- R54, R546: evaluations of a REPAIRING bank stall the partition: a cause. -/
def repairCause (s : State) (p t cause : Nat) : State :=
  if cause = 6 then raise s { sev := 3, cls := 7, part := some p, unitKind := 1, unit := t } else s

/-- R238: a declared flow of tile `t`, or to it, crosses a region that is switched off for heat. -/
def flowCrossesHeat (s : State) (p t : Nat) : Bool :=
  let pl := (part s p).place
  let is := fun i => (ptile pl i).map (·.tile) == some t
  let hot := fun (path : List Nat) => path.any fun n => s.heatOff.contains (hotSpot (routerTile n))
  pl.flows.any fun f => if f.dkind = 2 then is f.spti && f.legs.any fun e => hot e.2 else (is f.spti || is f.dest) && hot f.path

/-- TILE_LATE (R142): the tile's step clock has reached the START of a TSTEP ahead of which it is still held. It holds its
clock, sends a stall notice to every tile of the partition, and the partition is STALLED. -/
def execTileLate (t : Nat) (s : State) : Host.Outcome State Fault Refusal :=
  if !tileOk t then .fault .noSuchUnit
  else
    match runOf s t with
    | none => .next s
    | some r =>
      match nextTstep s t r r.pos (r.ncmd + 1) with
      | none => .next s
      | some (i, w) =>
        let start := fld w 119 94
        if r.late ∨ r.stopping ∨ i = r.pos ∨ r.clk < start ∨ (part s r.part).step.isNone then .next s
        else
          let heat := [1, 2, 3, 12].contains (lateCause s t r) && flowCrossesHeat s r.part t
          let cause := if heat then 7 else lateCause s t r
          let s := if heat then raise s { sev := 3, cls := 6, part := some r.part, reason := 0x0608, unitKind := 1, unit := t } else s
          let guard := cause = 4 ∨ cause = 5
          let s := if guard ∧ !guardLate s r.part then updStep s r.part fun q => { q with guardFrom := nowNs s } else s
          let s := updRun s t fun r => { r with late := true, lateFor := cause, clk := start, stalls := (t, start) :: r.stalls }
          let s := updStep s r.part fun q => { q with
            notices := q.notices ++ ((tilesOf s r.part).filter (· != t)).map fun d => (d, t, start, 0) }
          .next (draftCheck (repairCause (enterStall s r.part cause t i start) r.part t cause) r.part)

/-- Takes the oldest notice of a kind on its way from `src` to `t`. -/
def takeNotice (s : State) (p t src kind : Nat) : Option (Nat × State) :=
  match stepOf s p with
  | none => none
  | some r =>
    match r.notices.find? fun n => n.1 == t && n.2.1 == src && n.2.2.2 == kind with
    | none => none
    | some n => some (n.2.2.1, updStep s p fun r => { r with notices := r.notices.erase n })

/-- STALL_NOTICE (R142): a stall notice of tile `src` reaches tile `t`, which sets its clock to the smallest START outstanding. -/
def execStallNotice (t src : Nat) (s : State) : Host.Outcome State Fault Refusal :=
  if !tileOk t || !tileOk src then .fault .noSuchUnit
  else
    match runOf s t with
    | none => .next s
    | some r =>
      match takeNotice s r.part t src 0 with
      | none => .next s
      | some (start, s) =>
        .next (updRun s t fun r =>
          let st := (src, start) :: r.stalls
          { r with stalls := st, clk := st.foldl (fun m x => Nat.min m x.2) start })

/-- R230: the latency in ticks of the notice route from a tile up to its partition's hub and down to another. -/
def noticeTicks (s : State) (src t : Nat) : Nat :=
  let tab := fun x => (ownerOf s x).bind fun o => ptile (part s o.1).place o.2
  ((tab src).map (·.notice.1)).getD 0 + ((tab t).map (·.notice.2)).getD 0

/-- RESUME_NOTICE (R143, R230): a resume of tile `src` reaches tile `t`: the clock is set to the held START plus the route's latency. The
latency is fixed in the notice tables: a notice that took another time is none. DESIGN CHOICE (log 100): while another stall is outstanding
the clock stays at the smallest START still outstanding. -/
def execResumeNotice (t src lat : Nat) (s : State) : Host.Outcome State Fault Refusal :=
  if !tileOk t || !tileOk src then .fault .noSuchUnit
  else
    match runOf s t with
    | none => .next s
    | some r =>
      if lat ≠ noticeTicks s src t then .next s
      else
      match takeNotice s r.part t src 1 with
      | none => .next s
      | some (start, s) =>
        .next (updRun s t fun r =>
          let st := r.stalls.filter fun x => x.1 != src
          match st with
          | [] => { r with stalls := [], clk := start + lat }
          | x :: _ => { r with stalls := st, clk := st.foldl (fun m y => Nat.min m y.2) x.2 })

/-- R204: the 32 bytes of a stall record. -/
def stallRecord (cause tile off start heldUs step : Nat) : List Byte :=
  leBytes 32 (put 1 8 248 + put cause 4 244 + put tile 16 228 + put off 16 212 + put start 26 186
    + put (Nat.min heldUs 0xFFFFFFFF) 32 154 + put step 64 0)

/-- R405: the class of a stall cause. -/
def stallClass (c : Nat) : Nat := if c = 6 then 7 else if c = 7 ∨ c = 10 then 6 else if c = 9 then 2 else 3

/-- STALL_LIMIT_EXPIRE (R144, R203): a stall longer than the partition's limit posts a stall record and raises one cause. -/
def execStallLimitExpire (p : Nat) (s : State) : Host.Outcome State Fault Refusal :=
  if 16 ≤ p then .fault .noSuchUnit
  else
    match (part s p).st, stepOf s p with
    | .stalled, some r =>
      let d := nowNs s - r.stallFrom
      if r.stallPosted ∨ d ≤ objD 10000 s (pidx 0x51 p) 23 * 1000 then .next s
      else
        let s := updStep s p fun r => { r with stallPosted := true }
        let s := postDebug s p { typ := 6, body := stallRecord r.stallCause r.stallTile r.stallOff r.stallStart (d / 1000) r.stepNo }
        .next (raise s { sev := 3, cls := stallClass r.stallCause, part := some p, unitKind := 1, unit := r.stallTile, detail := r.stallCause })
    | _, _ => .next s

end Sys2Proof.Machine
end

