-- ==== Sys2Proof/Machine/TileArr.lean ====
section
/-! DEFINITION. Quantisation at run time and the block guard (R118–R134, R157), array evaluations (R33–R47, R101, R164),
sampled checking (R58–R60, R472–R475), the scale step (R102, R103), and their tile commands. -/
namespace Sys2Proof.Machine

/-! ### Formats at run time (R118, R131, R416) -/

/-- R118: the guarded formats: A4, E2M1, E3M2, E2M3. -/
def guardedFmt (f : Nat) : Bool := f == 8 || f == 6 || f == 5 || f == 4
/-- R90: the next wider format of a guarded one. -/
def widerFmt (f : Nat) : Nat := if f = 8 then 9 else if f = 6 then 5 else if f = 5 ∨ f = 4 then 2 else f
/-- `n` steps along the repeat chain. -/
def chainFmt (f : Nat) : Nat → Nat
  | 0 => f
  | n + 1 => chainFmt (widerFmt f) n

/-- R131, R416: the pin code that a layer runs at: the larger of its pin and the NUMERIC mode. -/
def pinCode (s : State) (p layer : Nat) : Nat :=
  match stepOf s p with
  | none => 0
  | some r => Nat.max (pinOf r layer) r.numeric

/-- R118, R124, R131: the format at which a run-time quantisation compiled for `f` runs in the run's present tile-step. -/
def runFmt (s : State) (c : TCtx) (f : Nat) : Nat :=
  if guardedFmt f then chainFmt f (pinCode s c.p c.run.layer + c.run.level) else f

/-- R124 step 4: the format at which a stored operand is read in a repeat, to the end of its tile-step. -/
def storedFmt (c : TCtx) (f : Nat) : Nat := if c.run.grd && guardedFmt f then chainFmt f c.run.level else f

/-- R120, R321: the slot is masked for the step, or at this tile by a cancel notice. -/
def slotMasked (s : State) (r : TileRun) (slot : Nat) : Bool :=
  r.masked.contains slot ||
  match stepOf s r.part with
  | none => true
  | some st => match st.slots.find? fun b => b.slot == slot with
    | none => true
    | some b => b.masked

/-! ### Guard scopes (R121–R124) -/

/-- Whether a word quantises at run time into a guarded format as compiled. -/
def quantWord (w : Nat) : Bool :=
  (isOp 0x33 w && guardedFmt (fld w 119 115)) || (isOp 0x10 w && fld w 111 110 != 0 && !bitAt w 112)

/-- A later command of the tile-step quantises into a guarded format. -/
def quantAhead (s : State) (t : Nat) (r : TileRun) (i : Nat) : Nat → Bool
  | 0 => false
  | k + 1 =>
    if r.ncmd < i then false
    else
      let w := leNat (spRead s t (r.base + 16 * i) 16)
      if isOp 0x02 w || isOp 0x01 w then false else quantWord w || quantAhead s t r (i + 1) k

/-- R123: the scope closes once the last quantisation of the tile-step has been decided unflagged: its results are released. -/
def closeScope (s : State) (c : TCtx) : State :=
  match runOf s c.t with
  | none => s
  | some r =>
    if r.scope && !quantAhead s c.t r (c.run.pos + 1) (r.ncmd + 1) then
      updRun s c.t fun r => { r with
        scope := false, closed := true, rows := [], spans := [], oldRows := [], oldSpans := [], undoSp := [], undoAcc := [], undoTag := [], gsrc := [] }
    else s

/-- One guard block: its SAT and ZERO counts, and its index. -/
structure GBlock where
  sat : Nat
  zero : Nat
  idx : Nat

/-- R119, R120, R134: the guard blocks of the units that one quantisation produced, their index counted on from unit to unit along the reduction
dimension; a non-finite unit has none. -/
def guardBlocks (f : Nat) (qs : List Quant) : List GBlock :=
  (qs.zip (List.range qs.length)).flatMap fun e =>
    if e.1.nonfin then []
    else
      (List.range (e.1.codes.length / 32)).map fun b =>
        { sat := (((e.1.sat.drop (32 * b)).take 32).filter id).length
          zero := (((e.1.zero.drop (32 * b)).take 32).filter id).length
          idx := if f = 8 then 32 * e.2 + b else e.2 }

/-- R121: the block is flagged under the thresholds latched for the step. -/
def blockFlagged (s : State) (p : Nat) (b : GBlock) : Bool :=
  match stepOf s p with
  | none => false
  | some r => decide (r.satThr ≤ b.sat) || decide (r.zeroThr ≤ b.zero)

/-- R134: the 16 bytes of a guard record. -/
def guardRecord (s : State) (c : TCtx) (slot node f side : Nat) (b : GBlock) : List Byte :=
  let r := stepOf s c.p
  let st := (r.map (·.satThr)).getD 4
  let zt := (r.map (·.zeroThr)).getD 28
  leBytes 16 (put 1 8 120 + put c.t 16 104 + put c.run.layer 8 96 + put c.run.pos 16 80 + put slot 8 72 + put node 4 68
    + put f 5 63 + put (widerFmt f) 5 58 + put b.sat 6 52 + put b.zero 6 46 + put (b2n (decide (st ≤ b.sat))) 1 45
    + put (b2n (decide (zt ≤ b.zero))) 1 44 + put (b2n (b.sat == 32 || b.zero == 32)) 1 43 + put side 1 42
    + put (Nat.min b.idx 1023) 10 32 + put ((r.map (·.stepNo)).getD 0) 32 0)

/-- R124 steps 1 and 2, R134: a flagged quantisation: what the tile-step has in flight is suppressed, the repeat is counted and
recorded, and the sequencer issues nothing until the repeat starts. -/
def flagRun (s : State) (c : TCtx) (slot node f side : Nat) (b : GBlock) : State :=
  let s := addObj s (pidx 0x51 c.p) 19 1
  let s := if objD 0 s (pidx 0x51 c.p) 16 = 1 then postDebug s c.p { typ := 4, body := guardRecord s c slot node f side b } else s
  let s := updStep s c.p fun r => { r with
    repeats := r.repeats + 1, repeated := if r.repeated.contains c.run.layer then r.repeated else c.run.layer :: r.repeated }
  updRun s c.t fun r => { r with
    flagged := true, scope := true
    evals := r.evals.map fun e => if r.tstep < e.off then { e with suppressed := true } else e
    tmms := r.tmms.map fun e => if r.tstep < e.off then { e with suppressed := true } else e }

/-- R118–R121, R128: counts the guard blocks of a quantisation at format `f`; the flagged block that decides, if any. -/
def guardCount (s : State) (c : TCtx) (slot f : Nat) (qs : List Quant) : State × Option GBlock :=
  if guardedFmt f then
    let s := updStep s c.p fun r => { r with
      guarded := if r.guarded.contains c.run.layer then r.guarded else c.run.layer :: r.guarded }
    let s := updRun s c.t fun r => { r with scope := r.scope || !r.closed }
    if slotMasked s c.run slot then (s, none)
    else
      let bs := guardBlocks f qs
      let hit := bs.filter (blockFlagged s c.p)
      let s := addObj (addObj s (pidx 0x51 c.p) 17 bs.length) (pidx 0x51 c.p) 18 hit.length
      (s, hit.head?)
  else (s, none)

/-- R99, R113: counts the non-finite conversions and the SAT elements of a quantisation. -/
def quantCount (s : State) (p f : Nat) (qs : List Quant) : State :=
  let s := countNum s p 0 (qs.filter (·.nonfin)).length
  if f = 6 ∨ f = 8 then s else countSat s p ((qs.map fun q => (q.sat.filter id).length).foldl (· + ·) 0)

/-! ### Redirected operands (R124, R157) -/

/-- The redirect that holds the unit of `n` bytes at a scratchpad offset, and the unit's index in it. -/
def redirectAt (r : TileRun) (off n : Nat) : Option (Redirect × Nat) :=
  (r.redirects.find? fun x => x.unit == n && decide (x.src ≤ off) && decide (off < x.src + x.n * x.unit) && (off - x.src) % x.unit == 0).map
    fun x => (x, (off - x.src) / x.unit)

/-- The REPEAT region of a placed tile: base and size. -/
def repeatRegion (s : State) (p t : Nat) : Nat × Nat :=
  match (part s p).place.tiles.find? (fun x => x.tile == t) with
  | none => (0, 0)
  | some pt => match pt.regions.find? fun r => r.kind == 3 with
    | none => (0, 0)
    | some r => (r.base, r.size)

/-- Bytes of one unit: a block of 32, or a vector of 1,024 for A4 and A8. -/
def unitLen (f : Nat) : Nat := if f = 8 ∨ f = 9 then 1024 else 32
def unitBytes (f : Nat) : Nat := unitLen f * fmtWidth f / 8

/-- R103: notes which of the vectors written from a scratchpad offset on are marked non-finite. -/
def markVectors (s : State) (t off len : Nat) (qs : List Quant) : State :=
  { s with nonfinVec := (qs.zip (List.range qs.length)).foldl (fun m e =>
      if e.1.nonfin then FMap.set m (spKey t (off + e.2 * len)) len else m) s.nonfinVec }

/-- R103: a stored vector is marked non-finite. -/
def vectorNonfin (s : State) (t off : Nat) : Bool := (FMap.find s.nonfinVec (spKey t off)).isSome

/-- R125, R157: writes quantised units, to their destination or, at a wider format than compiled, to the REPEAT region, where a vector at
A8 takes 1,024 bytes and leaves its scale byte at its destination. DESIGN CHOICE (log 103): units that do not fit the region fault. -/
def quantWrite (s : State) (c : TCtx) (compiled f dst dsts : Nat) (qs : List Quant) : Sum Nat State :=
  let elems := qs.flatMap fun q => packElems (fmtWidth f) q.codes
  let scales := qs.map fun q => BitVec.ofNat 8 q.scale
  if f = compiled then
    let keep := fun (x : Redirect) => !opOverlap x.src (x.n * x.unit) dst elems.length
    let s := updRun s c.t fun r => { r with redirects := r.redirects.filter keep }
    let s := tileOperand (tileOperand s c.t dst elems) c.t dsts scales
    .inr (if compiled = 8 ∨ compiled = 9 then markVectors s c.t dst (unitBytes compiled) qs else s)
  else
    let rr := repeatRegion s c.p c.t
    let base := rr.1 + c.run.repeatNext
    let n := elems.length + (if f = 9 then 0 else scales.length)
    if rr.2 < c.run.repeatNext + n then .inl 0x0119
    else
      let at_ := if f = 9 then dsts else base + elems.length
      let s := spWrite s c.t base elems
      let s := if f = 9 then markVectors (tileOperand s c.t dsts scales) c.t base 1024 qs else spWrite s c.t at_ scales
      .inr (updRun s c.t fun r => { r with
        repeatNext := c.run.repeatNext + n
        redirects := ({ src := dst, unit := unitBytes compiled, n := qs.length, fmt := f, elems := base
                        scales := at_ } : Redirect) :: (r.redirects.filter fun x => x.src != dst) })

/-- FP32 source values of a run-time quantisation. -/
def quantSource (s : State) (t a n : Nat) (bf : Bool) : List Nat :=
  if bf then (opBf16 s t a n).map bf16to32 else opW32 s t a n

/-- QNT (R157): quantises NB units; the guard decides on them. -/
def execQnt (t : Nat) (s : State) : Host.Outcome State Fault Refusal :=
  tileCmd t (isOp 0x33) (fun c s =>
    let d := fld c.w 119 115
    let bf := bitAt c.w 114
    let nb := fld c.w 113 98
    let src := fld c.w 97 74
    let dst := fld c.w 73 51
    let dsts := fld c.w 50 28
    let slot := fld c.w 27 20
    let n := nb * unitLen d
    let sb := n * (if bf then 2 else 4)
    let db := nb * unitBytes d
    if 0x0A ≤ d then c.fault s 3 0x0110
    else if d < 2 ∨ nb = 0 then c.fault s 3 0x0119
    else if guardedFmt d ∧ !c.run.grd then c.fault s 3 0x0119
    else if !opOk src sb (if bf then 2 else 4) || !opOk dst db 1 || !opOk dsts nb 1 then c.fault s 3 0x0119
    else if opClash dst db src sb || opClash dsts nb src sb then c.fault s 3 0x0119
    else if opProtected s c.p t dst db || opProtected s c.p t dsts nb then c.fault s 3 0x011A (opVa 0 dst)
    else if opPending s t src sb then s
    else
      match opReadFault s t src sb with
      | some e => c.fault s 3 e (opVa 0 src)
      | none =>
        match opWriteFault s t dst db, opWriteFault s t dsts nb with
        | none, none =>
          let f := runFmt s c d
          let vs := quantSource s t src n bf
          let qs := (List.range nb).map fun i => quantise f ((vs.drop (i * unitLen d)).take (unitLen d))
          let s1 := quantCount s c.p f qs
          let (s2, hit) := guardCount s1 c slot f qs
          let s3 := if guardedFmt d then updRun s2 t fun r => { r with gsrc := (src, sb, c.run.pos) :: r.gsrc } else s2
          match hit with
          | some b => flagRun s3 c slot (fld c.w 19 16) f (fld c.w 15 15) b
          | none =>
            match quantWrite s3 c d f dst dsts qs with
            | .inl e => c.fault s3 3 e
            | .inr _ =>
              issue c 3 [(src, sb)] [(dst, db), (dsts, nb)] (fun s =>
                match quantWrite s c d f dst dsts qs with
                | .inl _ => s
                | .inr s => closeScope s c) s3 0 (if guardedFmt d then [(src, sb)] else [])
        | some e, _ => c.fault s 3 e (opVa 0 dst)
        | none, some e => c.fault s 3 e (opVa 0 dsts)) s

/-- GUARD_REPEAT_START (R124 step 3): tGR after a flagged decision the tile-step begins again from its first command, at the
next level of the chain; nothing of the abandoned run survives, and its destinations stay pending until the repeat's scope closes. -/
def execGuardRepeatStart (t : Nat) (s : State) : Host.Outcome State Fault Refusal :=
  if !tileOk t then .fault .noSuchUnit
  else
    match runOf s t with
    | none => .next s
    | some r =>
      if r.flagged then
        let s := { s with
          sp := r.undoSp.foldl (fun m e => Memory.write m e.1 e.2) s.sp
          acc := r.undoAcc.foldl (fun m e => FMap.put (0 : W32) m e.1 e.2) s.acc
          accTag := r.undoTag.foldl (fun m e => FMap.put 0x4000 m e.1 e.2) s.accTag }
        .next (updRun s t fun r => { r with
          flagged := false, scope := false, pos := r.tstep + 1, level := r.level + 1, rows := [], spans := [], oldRows := r.rows ++ r.oldRows
          oldSpans := r.spans ++ r.oldSpans, undoSp := [], undoAcc := [], undoTag := [], redirects := [], repeatNext := 0, gsrc := []
          syncHeld := none, syncFree := false })
      else .next s

/-! ### Evaluations (R44–R47, R54, R164) -/

/-- The input of an EVAL: codes, scale, A8, non-finite. -/
structure EvalIn where
  codes : List Int
  scale : Nat
  wide : Bool
  nonfin : Bool

/-- R38, R95: 1,024 codes from bytes, the last `unused` rows 0. -/
def codesOf (wide : Bool) (unused : Nat) (bs : List Byte) : List Int :=
  let w := if wide then 8 else 4
  ((unpackElems w 1024 bs).zip (List.range 1024)).map fun e => if e.2 < 1024 - unused then toSigned w e.1 else 0

/-- A stored vector of codes (SFMT 0b00), from the REPEAT region where it was redirected, at A8 in a repeat. -/
def storedInput (s : State) (c : TCtx) (wide : Bool) (src sclb unused : Nat) : EvalIn :=
  match if opAcc src then none else redirectAt c.run src (if wide then 1024 else 512) with
  | some (x, i) =>
    { codes := codesOf (x.fmt == 9) unused (spRead s c.t (x.elems + i * unitBytes x.fmt) (unitBytes x.fmt))
      scale := (leNat (spRead s c.t (x.scales + i) 1)), wide := x.fmt == 9, nonfin := vectorNonfin s c.t (x.elems + i * unitBytes x.fmt) }
  | none =>
    { codes := codesOf wide unused (opBytes s c.t src (if wide then 1024 else 512))
      scale := leNat (spRead s c.t sclb 1), wide := storedFmt c (if wide then 9 else 8) == 9
      nonfin := !opAcc src && vectorNonfin s c.t (opOff src) }

/-- R124, R148: the bytes of a stored vector and its scale that an EVAL reads, in the REPEAT region where it was redirected. -/
def storedBad (s : State) (c : TCtx) (wide : Bool) (src : Nat) : Bool :=
  match if opAcc src then none else redirectAt c.run src (if wide then 1024 else 512) with
  | some (x, i) => spBad s c.t (x.elems + i * unitBytes x.fmt) (unitBytes x.fmt) || spBad s c.t (x.scales + i) 1
  | none => false

/-- Puts an evaluation in flight: the row is pending until its result is written (R45). -/
def startEval (s : State) (c : TCtx) (a bank row : Nat) (x : EvalIn) : State :=
  let k := rowKey c.t row
  let s := { s with accPend := FMap.set s.accPend k (FMap.get 0 s.accPend k + 1) }
  updRun s c.t fun r => { r with
    rows := if logging r then r.rows ++ [row] else r.rows
    evals := r.evals ++ [{ array := a, bank := bank, wide := x.wide, codes := x.codes, scale := x.scale, nonfin := x.nonfin
                           row := row, off := c.run.pos }] }

/-- EVAL (R164): range checks, the bank that the map gives, the input, and the guard where the input is quantised here. -/
def evalCmd (c : TCtx) (s : State) : State :=
  let w := c.w
  let a := fld w 119 114
  let lb := fld w 113 113
  let wide := bitAt w 112
  let sfmt := fld w 111 110
  let row := fld w 109 103
  let slot := fld w 102 95
  let src := fld w 80 57
  let sclb := fld w 56 34
  let n := if sfmt = 1 then 4096 else if sfmt = 2 then 2048 else if wide then 1024 else 512
  let al := if sfmt = 1 then 4 else if sfmt = 2 then 2 else 1
  if sfmt = 3 ∨ (lb = 1 ∧ !(part s c.p).place.dual) ∨ (sfmt ≠ 0 ∧ sclb ≠ 0) ∨ (sfmt = 0 ∧ spTop ≤ sclb) ∨ !opOk src n al then
    c.fault s 0 0x0119
  else if sfmt ≠ 0 ∧ !wide ∧ !c.run.grd then c.fault s 0 0x0119
  else
    match mapBank s c.t a lb with
    | none => c.fault s 0 0x0106
    | some b =>
      let st := (bankOf s (bankKey c.t a b)).st
      if st = .invalid then c.fault s 0 0x0714
      else if st = .repairing ∨ rowTaken s c.t row ∨ opPending s c.t src n ∨ (sfmt = 0 ∧ opPending s c.t sclb 1) then s
      else
        match opReadFault s c.t src n, (if sfmt = 0 then opReadFault s c.t sclb 1 else none) with
        | some e, _ => c.fault s 0 e (opVa 0 src)
        | none, some e => c.fault s 0 e (opVa 0 sclb)
        | none, none =>
          if sfmt = 0 ∧ storedBad s c wide src = true then c.fault s 0 0x0703 (opVa 0 src)
          else if sfmt = 0 then
            let x := storedInput s c wide src sclb (fld w 90 81)
            issue c 0 [(src, n), (sclb, 1)] [(2 ^ 23 + row * 4096, 4096)] (fun s => startEval s c a b row x) s
          else
            let d := if wide then 9 else 8
            let f := runFmt s c d
            let used := 1024 - fld w 90 81
            let vs := ((quantSource s c.t src 1024 (sfmt == 2)).zip (List.range 1024)).map fun e => if e.2 < used then e.1 else 0
            let q := quantise f vs
            let s1 := quantCount s c.p f [q]
            let (s2, hit) := guardCount s1 c slot f [q]
            let s3 := if wide then s2 else updRun s2 c.t fun r => { r with gsrc := (src, n, c.run.pos) :: r.gsrc }
            match hit with
            | some g => flagRun s3 c slot (fld w 94 91) f 0 g
            | none =>
              let x : EvalIn := { codes := q.codes.map (toSigned (fmtWidth f)), scale := q.scale, wide := f == 9, nonfin := q.nonfin }
              issue c 0 [(src, n)] [(2 ^ 23 + row * 4096, 4096)] (fun s => closeScope (startEval s c a b row x) c) s3

/-- EVAL with WIDE 0 (R44, R164). -/
def execEvalA4 (t : Nat) (s : State) : Host.Outcome State Fault Refusal :=
  tileCmd t (fun w => isOp 0x10 w && !bitAt w 112) evalCmd s

/-- EVAL with WIDE 1 (R46, R164). -/
def execEvalA8 (t : Nat) (s : State) : Host.Outcome State Fault Refusal :=
  tileCmd t (fun w => isOp 0x10 w && bitAt w 112) evalCmd s

/-! ### Sampled checking (R58–R60, R472–R475) -/

/-- R58: E_g and K_g of a group. -/
def groupSums (r : List Int) (g : Nat) : Int × Int :=
  (((r.drop (256 * g)).take 256).foldl (· + ·) 0,
   256 * r.getD (1026 + 3 * g) 0 + 16 * r.getD (1025 + 3 * g) 0 + r.getD (1024 + 3 * g) 0)

/-- R58: the lowest group that disagrees by more than the tolerance. -/
def disagree (r : List Int) (tol : Nat) : Option Nat :=
  (List.range 4).find? fun g => decide (tol < ((groupSums r g).2 - (groupSums r g).1).natAbs)

/-- R474: the 32 bytes of a check record. -/
def checkRecord (t a b g : Nat) (wide cap : Bool) (pos : Nat) (e k : Int) (step capid : Nat) : List Byte :=
  leBytes 32 (put 1 8 248 + put t 16 232 + put a 6 226 + put b 1 225 + put g 2 223 + put (b2n wide) 1 222 + put (b2n cap) 1 221
    + put (Nat.min pos 65535) 16 205 + put (ofSigned 32 e) 32 173 + put (ofSigned 32 k) 32 141 + put step 64 64 + put capid 32 32)

/-- R475: a disagreement is captured where the tile's latch is empty and the store has room. -/
def takeCapture (s : State) (p t : Nat) (e : EvalRun) (g : Nat) (r : List Int) (tol : Nat) : State × Nat :=
  if (FMap.find s.capLatch t).isSome || decide (64 ≤ s.captures.length) then (addObj s (pidx 0x51 p) 38 1, 0)
  else
    let b := bankOf s (bankKey t e.array e.bank)
    let l := latchOf s t
    let n := s.capNo + 1
    let x : Capture :=
        { id := n, part := p, tile := t, array := e.array, bank := e.bank, group := g, wide := e.wide, codes := e.codes, results := r
          temp := l.1, band := l.2, calTime := ((curTable b).map (·.calTime)).getD 0
          eg := (groupSums r g).1, kg := (groupSums r g).2, tol := tol, block := b.block, format := b.format
          ageSec := tilePowered s t, ageCyc := b.progCycles }
    ({ s with capNo := n, capLatch := FMap.set s.capLatch t x }, n)

/-- R56, R58, R77: the deviations of the four reference columns from their exact values for an input. -/
def refDevs (res codes : List Int) : List Int :=
  (List.range 4).map fun i => res.getD (1036 + i) 0 - (5 * (i : Int) - 8) * codes.foldl (· + ·) 0

/-- R58, R60, R472: an evaluation that is not suppressed advances its array's check counter; one that meets a multiple of N is checked. -/
def checkEval (s : State) (p t : Nat) (r : TileRun) (e : EvalRun) (res : List Int) : State :=
  let key := t * 64 + e.array
  let n := FMap.get 0 s.checkCount key + 1
  let pos := FMap.get 0 r.evalPos e.array
  let s := { s with checkCount := FMap.set s.checkCount key n }
  let s := updRun s t fun r => { r with evalPos := FMap.set r.evalPos e.array (pos + 1) }
  match stepOf s p with
  | none => s
  | some st =>
    if st.checkN = 0 ∨ n % st.checkN ≠ 0 then s
    else
      let s := updBank s (bankKey t e.array e.bank) fun y => { y with refDev := refDevs res e.codes }
      match disagree res st.checkT with
      | none => s
      | some g =>
        let s := addObj s (pidx 0x51 p) 37 1
        let (s, cap) := takeCapture s p t e g res st.checkT
        let k := groupSums res g
        let s := postDebug s p { typ := 3, body := checkRecord t e.array e.bank g e.wide (cap != 0) pos k.1 k.2 st.stepNo cap }
        raiseRc s 2 0x070C (some p) 1 t

/-- R101: the tag that an evaluation writes. -/
def evalTag (e : EvalRun) : Nat := put 1 2 14 + put (b2n e.nonfin) 1 12 + put (b2n e.wide) 1 11 + put e.scale 8 0

/-- EVAL_RESULT_WRITE (R41, R44, R46): the oldest evaluation in flight at an array ends with the phase codes that its
converters gave; its row and tag are written, unless a guard repeat has suppressed it. -/
def execEvalResultWrite (t a : Nat) (codes : List (List (BitVec 12))) (s : State) : Host.Outcome State Fault Refusal :=
  if !tileOk t then .fault .noSuchUnit
  else
    match runOf s t with
    | none => .next s
    | some r =>
      match r.evals.find? fun e => e.array == a with
      | none => .next s
      | some e =>
        let k := rowKey t e.row
        let s := { s with accPend := FMap.put 0 s.accPend k (FMap.get 0 s.accPend k - 1) }
        let s := updRun s t fun r => { r with evals := r.evals.erase e }
        if e.suppressed then .next s
        else
          let b := bankOf s (bankKey t a e.bank)
          let res := physResults b (latchOf s t).1 e.wide e.codes codes
          let words := (logicalRow b.format res (e.codes.foldl (· + ·) 0)).map fun v => BitVec.ofNat 32 v
          let s := if e.off > r.tstep then tileAcc s t (e.row * 1024) words (evalTag e)
            else setAccTag (accWriteWords s t (e.row * 1024) words) t e.row (evalTag e)
          .next (checkEval s r.part t r e res)

/-! ### Scale step (R102, R103, R164) -/

/-- SCL: scales a row by its activation scale and a vector of column scales. -/
def execScl (t : Nat) (s : State) : Host.Outcome State Fault Refusal :=
  tileCmd t (isOp 0x11) (fun c s =>
    let row := fld c.w 119 113
    let cs := fld c.w 112 90
    if !opOk cs 4096 4 then c.fault s 1 0x0119
    else if rowPending s t row || opPending s t cs 4096 then s
    else if accScaled s t row then c.fault s 1 0x0113
    else
      match opReadFault s t (2 ^ 23 + row * 4096) 4096 true, opReadFault s t cs 4096 with
      | some e, _ => c.fault s 1 e (opVa 0 (2 ^ 23 + row * 4096))
      | none, some e => c.fault s 1 e (opVa 0 cs)
      | none, none =>
        let tag := accTag s t row
        let rs := opW32 s t (2 ^ 23 + row * 4096) 1024
        let r := collect ((rs.zip (opW32 s t cs 1024)).map fun e => if bitAt tag 12 then quietNan else scaleWord e.1 (fld tag 7 0) e.2)
        issue c 1 [(cs, 4096), (2 ^ 23 + row * 4096, 4096)] [(2 ^ 23 + row * 4096, 4096)] (fun s =>
          countNum (tileAcc s t (row * 1024) (r.vs.map fun v => BitVec.ofNat 32 v) (tag + 2 ^ 13)) c.p r.ovf r.inv) s) s

end Sys2Proof.Machine
end

