-- ==== Sys2Proof/Machine/TileMath.lean ====
section
/-! DEFINITION. The tensor engine (R153, R154, R165), the vector engine (R155, R156, R158, R166, R167) and the copy unit (R168). -/
namespace Sys2Proof.Machine

/-! ### Tensor engine -/

/-- One block of a matrix operand as it is read: format, element codes, scale code. -/
structure MBlock where
  fmt : Nat
  codes : List Nat
  scale : Nat

/-- R153: bytes of an operand of `rows` rows and `kb` blocks a row. -/
def matBytes (f rows kb : Nat) : Nat := if f = 1 then rows * kb * 64 else rows * kb * (4 * fmtWidth f + 1)

/-- R153, R124, R157: block `b` of row `m` of an operand, from the REPEAT region where it was redirected there, and widened
where a repeat widens stored operands. -/
def matBlock (s : State) (c : TCtx) (f off rows kb m b : Nat) : MBlock :=
  if f = 1 then { fmt := 1, codes := chunks 2 32 (spRead s c.t (off + (m * kb + b) * 64) 64), scale := 127 }
  else
    let w := fmtWidth f
    let eo := off + (m * kb + b) * 4 * w
    match redirectAt c.run eo (4 * w) with
    | some (x, i) =>
      { fmt := x.fmt, codes := unpackElems (fmtWidth x.fmt) 32 (spRead s c.t (x.elems + i * unitBytes x.fmt) (unitBytes x.fmt))
        scale := leNat (spRead s c.t (x.scales + i) 1) }
    | none =>
      let g := storedFmt c f
      let cs := unpackElems w 32 (spRead s c.t eo (4 * w))
      { fmt := g, codes := if g = f then cs else cs.map (widenElem f g)
        scale := leNat (spRead s c.t (off + rows * kb * 4 * w + m * kb + b) 1) }

/-- R124, R148: a block of an operand that was redirected to the REPEAT region cannot be read there. -/
def matBad (s : State) (c : TCtx) (f off rows kb : Nat) : Bool :=
  !c.run.redirects.isEmpty && f != 1 && (List.range (rows * kb)).any fun i =>
    match redirectAt c.run (off + i * 4 * fmtWidth f) (4 * fmtWidth f) with
    | some (x, j) => spBad s c.t (x.elems + j * unitBytes x.fmt) (unitBytes x.fmt) || spBad s c.t (x.scales + j) 1
    | none => false

/-- R104, R105, R107: the block value of a pair of blocks. -/
def blockPair (x y : MBlock) : FR := if x.fmt = 1 then blockBF x.codes y.codes else blockMX x.fmt y.fmt x.codes y.codes x.scale y.scale

/-- R154: one dot product: block values summed by the tree in block order. -/
def dotProduct (xs ys : List MBlock) : FR :=
  let bs := collect ((xs.zip ys).map fun e => blockPair e.1 e.2)
  let r := tree bs.vs
  ⟨r.v, r.ovf + bs.ovf, r.inv + bs.inv⟩

/-- R165: the format that a field of TMM names; the DQ-S form 0x00 in both is E4M3. -/
def tmmFmt (a b : Nat) : Nat := if a = 0 ∧ b = 0 then 2 else a

/-- Destination words of a TMM: word index and element, within the tile operand. -/
def tmmWords (m n : Nat) : List (Nat × Nat × Nat) :=
  (List.range m).flatMap fun i => (List.range n).map fun j => (64 * i + j, i, j)

/-- TMM (R154, R165): forms C and puts its writing in flight; rows of the accumulator memory are pending until then. -/
def execTmm (t : Nat) (s : State) : Host.Outcome State Fault Refusal :=
  tileCmd t (isOp 0x20) (fun c s =>
    let w := c.w
    let fa := tmmFmt (fld w 119 115) (fld w 114 110)
    let fb := tmmFmt (fld w 114 110) (fld w 119 115)
    let m := fld w 109 104 + 1
    let n := fld w 103 98 + 1
    let kb := fld w 97 82
    let ao := fld w 81 59
    let bo := fld w 58 36
    let dst := fld w 35 12
    let acc := bitAt w 11
    let na := matBytes fa m kb
    let nb := matBytes fb n kb
    let nd := if opAcc dst then ceilDiv m 16 * 4096 else 4 * (64 * (m - 1) + n)
    if 0x0A ≤ fa ∨ 0x0A ≤ fb then c.fault s 2 0x0110
    else if fa = 0 ∨ fb = 0 ∨ 8 ≤ fa ∨ 8 ≤ fb ∨ (fa = 1) ≠ (fb = 1) ∨ kb = 0 then c.fault s 2 0x0119
    else if !opOk ao na (if fa = 1 then 2 else 1) || !opOk bo nb (if fb = 1 then 2 else 1) || !opOk dst nd 4 ||
        (opAcc dst && dst % 4096 != 0) then c.fault s 2 0x0119
    else if opProtected s c.p t dst nd then c.fault s 2 0x011A (opVa 0 dst)
    else if (if acc then opPending s t dst nd else opTaken s t dst nd) || opPending s t ao na || opPending s t bo nb
        || decide (3 ≤ c.run.tmms.length) then s
    else if matBad s c fa ao m kb || matBad s c fb bo n kb then c.fault s 2 0x0703
    else
      match opReadFault s t ao na, opReadFault s t bo nb, (if acc then opReadFault s t dst nd else none) with
      | some e, _, _ => c.fault s 2 e (opVa 0 ao)
      | none, some e, _ => c.fault s 2 e (opVa 0 bo)
      | none, none, some e => c.fault s 2 e (opVa 0 dst)
      | none, none, none =>
        let rows := (List.range m).map fun i => (List.range kb).map fun b => matBlock s c fa ao m kb i b
        let cols := (List.range n).map fun j => (List.range kb).map fun b => matBlock s c fb bo n kb j b
        let rs := (tmmWords m n).map fun e => (e.1, dotProduct (rows.getD e.2.1 []) (cols.getD e.2.2 []))
        let k := collect (rs.map (·.2))
        issue c 2 ([(ao, na), (bo, nb)] ++ if acc then [(dst, nd)] else []) [(dst, nd)] (fun s =>
          let s := (opRows dst nd).foldl (fun s r =>
            { s with accPend := FMap.set s.accPend (rowKey t r) (FMap.get 0 s.accPend (rowKey t r) + 1) }) s
          let s := updRun s t fun r => { r with
            rows := if logging r then r.rows ++ opRows dst nd else r.rows
            tmms := r.tmms ++ [{ dst := dst, acc := acc, words := rs.map fun e => (e.1, e.2.v), off := r.pos }] }
          countNum s c.p k.ovf k.inv) s) s

/-- The bytes or words that a TMM writes, one result at a time, each added to what it replaces where ACC is 1. -/
def tmmWrite (s : State) (t : Nat) (x : TmmRun) (logged : Bool) : State × Nat × Nat :=
  x.words.foldl (fun (a : State × Nat × Nat) e =>
    let s := a.1
    let i := if opAcc x.dst then opOff x.dst / 4 + e.1 else opOff x.dst + 4 * e.1
    let old := if opAcc x.dst then (accRead s t 0 i).toNat else leNat (spRead s t i 4)
    let r := if x.acc then fadd old e.2 else ⟨e.2, 0, 0⟩
    let s := if opAcc x.dst then
        if logged then tileAcc s t i [BitVec.ofNat 32 r.v] else setAccTag (accWriteWords s t i [BitVec.ofNat 32 r.v]) t (i / 1024) tagScaled
      else if logged then tileSp s t i (leBytes 4 r.v) else spWrite s t i (leBytes 4 r.v)
    (s, a.2.1 + r.ovf, a.2.2 + r.inv)) (s, 0, 0)

/-- R148, R151: a row of results of a TMM writes part of an uncorrectable word or pair, or with ACC reads one. -/
def tmmFault (s : State) (t : Nat) (x : TmmRun) : Option Nat :=
  let m := x.words.foldl (fun m e => Nat.max m (e.1 / 64 + 1)) 0
  let n := x.words.foldl (fun n e => Nat.max n (e.1 % 64 + 1)) 0
  (List.range m).findSome? fun i =>
    let a := x.dst + 256 * i
    match (if x.acc then opReadFault s t a (4 * n) true else none) with
    | some e => some e
    | none => opWriteFault s t a (4 * n)

/-- TMM_RESULT_WRITE (R154): the oldest TMM of the tile writes its results, unless a guard repeat has suppressed it. -/
def execTmmResultWrite (t : Nat) (s : State) : Host.Outcome State Fault Refusal :=
  if !tileOk t then .fault .noSuchUnit
  else
    match runOf s t with
    | none => .next s
    | some r =>
      match r.tmms with
      | [] => .next s
      | x :: rest =>
        let nd := (x.words.foldl (fun m e => Nat.max m (e.1 + 1)) 0) * 4
        let s := (opRows x.dst nd).foldl (fun s row =>
          { s with accPend := FMap.put 0 s.accPend (rowKey t row) (FMap.get 0 s.accPend (rowKey t row) - 1) }) s
        let s := updRun s t fun r => { r with tmms := rest }
        if x.suppressed then .next s
        else
          match tmmFault s t x with
          | some e => .next (tileFault s r.part 0 t x.off r.prog 2 e (opVa 0 x.dst))
          | none =>
            let k := tmmWrite s t x (decide (r.tstep < x.off))
            .next (countNum k.1 r.part k.2.1 k.2.2)

/-! ### Vector engine -/

/-- A vector command over ranges: refused as a fault on range, alignment, partial overlap or a protected destination; held on a
pending source or a destination row that is taken; faulted on an unreadable source; else `f` runs. `srcs` and `dsts` are operands with bytes and
alignment; with `free` they may overlap. -/
def vecCmd (c : TCtx) (unit : Nat) (srcs dsts : List (Nat × Nat × Nat)) (f : State → State) (s : State) (free : Bool := false) : State :=
  let noAl := fun (l : List (Nat × Nat × Nat)) => l.map fun x => (x.1, x.2.1)
  if (srcs ++ dsts).any (fun x => !opOk x.1 x.2.1 x.2.2) then c.fault s unit 0x0119
  else if !free && dsts.any (fun d => srcs.any fun x => opClash d.1 d.2.1 x.1 x.2.1) then c.fault s unit 0x0119
  else
    match dsts.find? (fun d => opProtected s c.p c.t d.1 d.2.1) with
    | some d => c.fault s unit 0x011A (opVa 0 d.1)
    | none =>
      if srcs.any (fun x => opPending s c.t x.1 x.2.1) || dsts.any (fun x => opTaken s c.t x.1 x.2.1) then s
      else
        match srcs.findSome? (fun x => (opReadFault s c.t x.1 x.2.1).map fun e => (e, x.1)),
            dsts.findSome? (fun x => (opWriteFault s c.t x.1 x.2.1).map fun e => (e, x.1)) with
        | some (e, a), _ => c.fault s unit e (opVa 0 a)
        | none, some (e, a) => c.fault s unit e (opVa 0 a)
        | none, none => issue c unit (noAl srcs) (noAl dsts) f s

/-- Writes FP32 results and counts what their arithmetic met. -/
def putF32 (s : State) (c : TCtx) (dst : Nat) (r : FRs) : State := countNum (opWrite s c.t dst (w32Bytes r.vs)) c.p r.ovf r.inv

/-- R167: the VEW of a function code over element triples. -/
def vewEl (fn a b d : Nat) : FR :=
  match fn with
  | 0x01 => fadd a b
  | 0x02 => fsub a b
  | 0x03 => fmul a b
  | 0x04 => ffma a b d
  | 0x05 => fdiv a b
  | 0x06 => fmax a b
  | 0x07 => fmin a b
  | 0x08 => fsqrt a
  | 0x16 => toBf16 a
  | 0x17 => ⟨bf16to32 a, 0, 0⟩
  | 0x18 => fmul a b
  | 0x19 => fadd a b
  | _ => fnSpecial fn a

/-- R167 code 0x15: one rotary pair. -/
def rotaryPair (x0 x1 cs sn : Nat) : List FR :=
  let p := fmul x1 sn
  let q := fmul x1 cs
  let r0 := ffma x0 cs (p.v ^^^ 0x80000000)
  let r1 := ffma x0 sn q.v
  [⟨r0.v, p.ovf + r0.ovf, p.inv + r0.inv⟩, ⟨r1.v, q.ovf + r1.ovf, q.inv + r1.inv⟩]

/-- R166: the sources that a VEW of a function code reads: operand, bytes, alignment. -/
def vewSrcs (fn n sa sb sc : Nat) : List (Nat × Nat × Nat) :=
  (if fn = 0x17 then [(sa, 2 * n, 2)] else [(sa, 4 * n, 4)]) ++
  (if fn ≤ 0x07 ∨ fn = 0x15 then [(sb, 4 * n, 4)] else if 0x18 ≤ fn then [(sb, 4, 4)] else []) ++
  (if fn = 0x04 then [(sc, 4 * n, 4)] else [])

/-- A VEW command word with a listed function code. -/
def vewCmd (c : TCtx) (s : State) : State :=
  let fn := fld c.w 119 112
  let n := fld c.w 111 96
  let dst := fld c.w 95 72
  let sa := fld c.w 71 48
  let sb := fld c.w 47 24
  let sc := fld c.w 23 0
  if fn = 0 ∨ 0x19 < fn ∨ n = 0 ∨ (fn = 0x15 ∧ n % 2 = 1) then c.fault s 3 0x0119
  else
    vecCmd c 3 (vewSrcs fn n sa sb sc) [(dst, (if fn = 0x16 then 2 else 4) * n, if fn = 0x16 then 2 else 4)] (fun s =>
      let a := if fn = 0x17 then opBf16 s c.t sa n else opW32 s c.t sa n
      let b := if fn ≤ 0x07 ∨ fn = 0x15 then opW32 s c.t sb n else if 0x18 ≤ fn then List.replicate n ((opW32 s c.t sb 1).headD 0)
        else List.replicate n 0
      let d := if fn = 0x04 then opW32 s c.t sc n else List.replicate n 0
      let r := collect (if fn = 0x15 then
          (List.range (n / 2)).flatMap fun i => rotaryPair (a.getD (2 * i) 0) (a.getD (2 * i + 1) 0) (b.getD (2 * i) 0) (b.getD (2 * i + 1) 0)
        else ((a.zip b).zip d).map fun e => vewEl fn e.1.1 e.1.2 e.2)
      if fn = 0x16 then countNum (opWrite s c.t dst (bf16Bytes r.vs)) c.p r.ovf r.inv else putF32 s c dst r) s

/-- Selects the VEW words of a function code; words with a code that is not listed belong to the first row. -/
def isVew (fn w : Nat) : Bool := isOp 0x30 w && (fld w 119 112 == fn || (fn == 1 && (fld w 119 112 == 0 || decide (0x19 < fld w 119 112))))

/-- VEW 0x01 (R167): SA + SB. -/
def execVewAdd (t : Nat) (s : State) : Host.Outcome State Fault Refusal := tileCmd t (isVew 0x01) vewCmd s
/-- VEW 0x02 (R167): SA − SB. -/
def execVewSub (t : Nat) (s : State) : Host.Outcome State Fault Refusal := tileCmd t (isVew 0x02) vewCmd s
/-- VEW 0x03 (R167): SA × SB. -/
def execVewMul (t : Nat) (s : State) : Host.Outcome State Fault Refusal := tileCmd t (isVew 0x03) vewCmd s
/-- VEW 0x04 (R167): fma(SA, SB, SC). -/
def execVewFma (t : Nat) (s : State) : Host.Outcome State Fault Refusal := tileCmd t (isVew 0x04) vewCmd s
/-- VEW 0x05 (R167): SA ÷ SB. -/
def execVewDiv (t : Nat) (s : State) : Host.Outcome State Fault Refusal := tileCmd t (isVew 0x05) vewCmd s
/-- VEW 0x06 (R167): max(SA, SB). -/
def execVewMax (t : Nat) (s : State) : Host.Outcome State Fault Refusal := tileCmd t (isVew 0x06) vewCmd s
/-- VEW 0x07 (R167): min(SA, SB). -/
def execVewMin (t : Nat) (s : State) : Host.Outcome State Fault Refusal := tileCmd t (isVew 0x07) vewCmd s
/-- VEW 0x08 (R167): sqrt SA. -/
def execVewSqrt (t : Nat) (s : State) : Host.Outcome State Fault Refusal := tileCmd t (isVew 0x08) vewCmd s
/-- VEW 0x09 (R167): rsqrt SA. -/
def execVewRsqrt (t : Nat) (s : State) : Host.Outcome State Fault Refusal := tileCmd t (isVew 0x09) vewCmd s
/-- VEW 0x0A (R167): reciprocal estimate of SA. -/
def execVewRecip (t : Nat) (s : State) : Host.Outcome State Fault Refusal := tileCmd t (isVew 0x0A) vewCmd s
/-- VEW 0x0B (R167): exp2 SA. -/
def execVewExp2 (t : Nat) (s : State) : Host.Outcome State Fault Refusal := tileCmd t (isVew 0x0B) vewCmd s
/-- VEW 0x0C (R167): log2 SA. -/
def execVewLog2 (t : Nat) (s : State) : Host.Outcome State Fault Refusal := tileCmd t (isVew 0x0C) vewCmd s
/-- VEW 0x0D (R167): exp SA. -/
def execVewExp (t : Nat) (s : State) : Host.Outcome State Fault Refusal := tileCmd t (isVew 0x0D) vewCmd s
/-- VEW 0x0E (R167): log SA. -/
def execVewLog (t : Nat) (s : State) : Host.Outcome State Fault Refusal := tileCmd t (isVew 0x0E) vewCmd s
/-- VEW 0x0F (R167): sin SA. -/
def execVewSin (t : Nat) (s : State) : Host.Outcome State Fault Refusal := tileCmd t (isVew 0x0F) vewCmd s
/-- VEW 0x10 (R167): cos SA. -/
def execVewCos (t : Nat) (s : State) : Host.Outcome State Fault Refusal := tileCmd t (isVew 0x10) vewCmd s
/-- VEW 0x11 (R167): tanh SA. -/
def execVewTanh (t : Nat) (s : State) : Host.Outcome State Fault Refusal := tileCmd t (isVew 0x11) vewCmd s
/-- VEW 0x12 (R167): sigmoid SA. -/
def execVewSigmoid (t : Nat) (s : State) : Host.Outcome State Fault Refusal := tileCmd t (isVew 0x12) vewCmd s
/-- VEW 0x13 (R167): silu SA. -/
def execVewSilu (t : Nat) (s : State) : Host.Outcome State Fault Refusal := tileCmd t (isVew 0x13) vewCmd s
/-- VEW 0x14 (R167): gelu SA, tanh form. -/
def execVewGelu (t : Nat) (s : State) : Host.Outcome State Fault Refusal := tileCmd t (isVew 0x14) vewCmd s
/-- VEW 0x15 (R167): rotary pairs. -/
def execVewRotary (t : Nat) (s : State) : Host.Outcome State Fault Refusal := tileCmd t (isVew 0x15) vewCmd s
/-- VEW 0x16 (R167): FP32 to BF16. -/
def execVewToBf16 (t : Nat) (s : State) : Host.Outcome State Fault Refusal := tileCmd t (isVew 0x16) vewCmd s
/-- VEW 0x17 (R167): BF16 to FP32. -/
def execVewToFp32 (t : Nat) (s : State) : Host.Outcome State Fault Refusal := tileCmd t (isVew 0x17) vewCmd s
/-- VEW 0x18 (R167): SA[i] × SB[0]. -/
def execVewMulScalar (t : Nat) (s : State) : Host.Outcome State Fault Refusal := tileCmd t (isVew 0x18) vewCmd s
/-- VEW 0x19 (R167): SA[i] + SB[0]. -/
def execVewAddScalar (t : Nat) (s : State) : Host.Outcome State Fault Refusal := tileCmd t (isVew 0x19) vewCmd s

/-- R167: one segment of a VRED: 0 sum, 1 sum of squares, 2 max, 3 min. -/
def vredSeg (fn : Nat) (l : List Nat) : FR :=
  match fn with
  | 0 => tree l
  | 1 =>
    let q := collect (l.map fun x => fmul x x)
    let r := tree q.vs
    ⟨r.v, r.ovf + q.ovf, r.inv + q.inv⟩
  | 2 => match l with
    | [] => ⟨0, 0, 0⟩
    | x :: t => t.foldl (fun a y => fmax a.v y) (fmax x x)
  | _ => match l with
    | [] => ⟨0, 0, 0⟩
    | x :: t => t.foldl (fun a y => fmin a.v y) (fmin x x)

/-- A VRED command word. -/
def vredCmd (c : TCtx) (s : State) : State :=
  let fn := fld c.w 119 112
  let n := fld c.w 111 96
  let dst := fld c.w 95 72
  let sa := fld c.w 71 48
  let l := fld c.w 47 32
  if 3 < fn ∨ n = 0 ∨ l = 0 ∨ n % l ≠ 0 then c.fault s 3 0x0119
  else
    vecCmd c 3 [(sa, 4 * n, 4)] [(dst, 4 * (n / l), 4)] (fun s =>
      let a := opW32 s c.t sa n
      putF32 s c dst (collect ((List.range (n / l)).map fun i => vredSeg fn ((a.drop (i * l)).take l)))) s

def isVred (fn w : Nat) : Bool := isOp 0x31 w && (fld w 119 112 == fn || (fn == 0 && decide (3 < fld w 119 112)))

/-- VRED 0x00 (R167): sums of segments. -/
def execVredSum (t : Nat) (s : State) : Host.Outcome State Fault Refusal := tileCmd t (isVred 0) vredCmd s
/-- VRED 0x01 (R167): sums of squares. -/
def execVredSumSquares (t : Nat) (s : State) : Host.Outcome State Fault Refusal := tileCmd t (isVred 1) vredCmd s
/-- VRED 0x02 (R167): greatest of each segment. -/
def execVredMax (t : Nat) (s : State) : Host.Outcome State Fault Refusal := tileCmd t (isVred 2) vredCmd s
/-- VRED 0x03 (R167): least of each segment. -/
def execVredMin (t : Nat) (s : State) : Host.Outcome State Fault Refusal := tileCmd t (isVred 3) vredCmd s

/-- R156: one VSMX: the probabilities and the new m, l, c. -/
def vsmxStep (xs : List Nat) (m l : Nat) : FRs × FRs :=
  let mn := (xs.foldl (fun a x => fmax a.v x) (fmax m m)).v
  if mn = 0xFF800000 then
    let lr := collect [fmul l one32]
    let p : FRs := { vs := xs.map fun _ => 0 }
    let r := fadd (lr.vs.headD 0) (tree p.vs).v
    (p, { vs := [mn, r.v, one32], ovf := lr.ovf + r.ovf, inv := lr.inv + r.inv })
  else
    let d := fsub m mn
    let e := fnSpecial 0x0D d.v
    let ds := xs.map fun x => fsub x mn
    let ps := collect (ds.map fun x => fnSpecial 0x0D x.v)
    let dc := collect ds
    let lc := fmul l e.v
    let tr := tree ps.vs
    let r := fadd lc.v tr.v
    ({ vs := ps.vs, ovf := ps.ovf + dc.ovf, inv := ps.inv + dc.inv },
     { vs := [mn, r.v, e.v], ovf := d.ovf + e.ovf + lc.ovf + tr.ovf + r.ovf, inv := d.inv + e.inv + lc.inv + tr.inv + r.inv })

/-- VSMX (R156). -/
def execVsmx (t : Nat) (s : State) : Host.Outcome State Fault Refusal :=
  tileCmd t (isOp 0x32) (fun c s =>
    let n := fld c.w 111 96
    let pd := fld c.w 95 72
    let ss := fld c.w 71 48
    let st := fld c.w 47 24
    if fld c.w 119 112 ≠ 0 ∨ fld c.w 23 0 ≠ 0 ∨ n = 0 then c.fault s 3 0x0119
    else
      vecCmd c 3 [(ss, 4 * n, 4), (st, 12, 4)] [(pd, 4 * n, 4), (st, 12, 4)] (fun s =>
        let q := opW32 s t st 3
        let r := vsmxStep (opW32 s t ss n) (q.getD 0 0) (q.getD 1 0)
        putF32 (putF32 s c pd r.1) c st r.2) s) s

/-- The 64-bit words of a top-k list of `k` entries. -/
def listWords (s : State) (t a k : Nat) : List Nat := chunks 8 (k + 1) (opBytes s t a (8 + 8 * k))

/-- TOPK with MODE 0 (R158): selects the first K of N elements; the list's TAG is kept. -/
def execTopkSelect (t : Nat) (s : State) : Host.Outcome State Fault Refusal :=
  tileCmd t (fun w => isOp 0x34 w && !bitAt w 119) (fun c s =>
    let k := fld c.w 118 112
    let n := fld c.w 111 96
    let src := fld c.w 95 72
    let dst := fld c.w 71 49
    if k = 0 ∨ 64 < k then c.fault s 3 0x0112
    else if n = 0 then c.fault s 3 0x0119
    else
      vecCmd c 3 [(src, 4 * n, 4), (dst, 8, 8)] [(dst, 8 + 8 * k, 8)] (fun s =>
        let tag := topkTag (leNat (spRead s t dst 8))
        let l := (opW32 s t src n).zip ((List.range n).map fun i => (fld c.w 48 17 + i) % 2 ^ 32)
        opWrite s t dst ((topkWords k tag (topK k l)).flatMap (leBytes 8))) s) s

/-- TOPK with MODE 1 (R116, R158): merges the list at SRC into the list at DST. -/
def execTopkMerge (t : Nat) (s : State) : Host.Outcome State Fault Refusal :=
  tileCmd t (fun w => isOp 0x34 w && bitAt w 119) (fun c s =>
    let k := fld c.w 118 112
    let src := fld c.w 95 72
    let dst := fld c.w 71 49
    if k = 0 ∨ 64 < k then c.fault s 3 0x0112
    else if fld c.w 111 96 ≠ 0 ∨ fld c.w 48 17 ≠ 0 ∨ !opOk src 8 8 || !opOk dst 8 8 then c.fault s 3 0x0119
    else if opPending s t src 8 then s
    else
      match opReadFault s t src 8, opReadFault s t dst 8 with
      | some e, _ => c.fault s 3 e (opVa 0 src)
      | none, some e => c.fault s 3 e (opVa 0 dst)
      | none, none =>
        let ha := leNat (opBytes s t dst 8)
        let hb := leNat (opBytes s t src 8)
        if topkBad ha || topkBad hb then c.fault s 3 0x0112
        else if topkK ha ≠ k ∨ topkK hb ≠ k ∨ topkTag ha ≠ topkTag hb then c.fault s 3 0x0111
        else
          vecCmd c 3 [(src, 8 + 8 * k, 8), (dst, 8 + 8 * k, 8)] [(dst, 8 + 8 * k, 8)] (fun s =>
            match topkMerge (listWords s t dst k) (listWords s t src k) with
            | .inl _ => s
            | .inr ws => opWrite s t dst (ws.flatMap (leBytes 8))) s) s

/-! ### Copy unit -/

/-- FILL (R168): a 32-bit pattern over LEN bytes. -/
def execFill (t : Nat) (s : State) : Host.Outcome State Fault Refusal :=
  tileCmd t (isOp 0x40) (fun c s =>
    let dst := fld c.w 119 96
    let n := fld c.w 95 72
    if n = 0 ∨ n % 4 ≠ 0 then c.fault s 4 0x0119
    else
      vecCmd c 4 [] [(dst, n, 4)] (fun s =>
        opWrite s t dst ((List.replicate (n / 4) (leBytes 4 (fld c.w 71 40))).flatten)) s) s

/-- COPY (R168): moves LEN bytes as if the whole source were read before the first write. DESIGN CHOICE (log 104): its operands need no
alignment in a scratchpad. -/
def execCopy (t : Nat) (s : State) : Host.Outcome State Fault Refusal :=
  tileCmd t (isOp 0x41) (fun c s =>
    let dst := fld c.w 119 96
    let n := fld c.w 95 72
    let src := fld c.w 71 48
    if n = 0 ∨ n % 4 ≠ 0 then c.fault s 4 0x0119
    else vecCmd c 4 [(src, n, 1)] [(dst, n, 1)] (fun s => opWrite s t dst (opBytes s t src n)) s true) s

end Sys2Proof.Machine
end

