-- ==== Sys2Proof/Machine/TileNet.lean ====
section
/-! DEFINITION. The router port (R159, R169) and the fabric's reductions (R109, R232–R235): SEND, RDC, and the arrival of what
they send. -/
namespace Sys2Proof.Machine

/-! ### SEND (R159, R169) -/

/-- The step whose run a tile executes. -/
def stepNoOf (s : State) (p : Nat) : Nat :=
  match stepOf s p with
  | some r => r.stepNo
  | none => (part s p).stepCounter

/-- A SEND over LEN bytes leaves for a tile by its flow's route, or with XL by a lane granted to the partition (R228). -/
def launchFlight (s : State) (f : Flight) (spti dpti : Nat) (xl : Bool) : State :=
  let pl := (part s f.part).place
  let f := match (if xl then laneFor pl.lanes (clusterOf f.src) (clusterOf f.dst) else none) with
    | some l => { f with lane := some l.lane, route := [clusterOf f.src, clusterOf f.dst] }
    | none => { f with route := flowPath pl spti (b2n (opAcc f.addr)) dpti f.src f.dst }
  reviewStall { s with flights := s.flights ++ [f] } f.part

/-- SEND (R159, R169): LEN bytes leave for the destination tile; at most 16 transfers of a tile are in flight at once (R137). -/
def execSend (t : Nat) (s : State) : Host.Outcome State Fault Refusal :=
  tileCmd t (isOp 0x50) (fun c s =>
    let src := fld c.w 119 96
    let n := fld c.w 95 72
    let dpti := fld c.w 71 60
    let dst := fld c.w 59 36
    let pl := (part s c.p).place
    -- DESIGN CHOICE (log 104): the operands of SEND need no alignment in a scratchpad
    if n = 0 ∨ n % 4 ≠ 0 ∨ !opOk src n 1 ∨ !opOk dst n 1 then c.fault s 5 0x0119
    else
      match ptile pl dpti with
      | none => c.fault s 5 0x0106 (opVa dpti dst)
      | some d =>
        if opProtected s c.p d.tile dst n then c.fault s 5 0x011A (opVa dpti dst)
        else if opPending s t src n || decide (16 ≤ inFlight s t) then s
        else
          match opReadFault s t src n with
          | some e => c.fault s 5 e (opVa 0 src)
          | none =>
            issue c 5 [(src, n)] [] (fun s =>
              launchFlight s { part := c.p, src := t, dst := d.tile, addr := dst, flag := fld c.w 35 30, off := c.run.pos
                               step := stepNoOf s c.p, data := opBytes s t src n }
                ((pl.tiles.findIdx? fun x => x.tile == t).getD 0) dpti (bitAt c.w 29)) s) s

/-- Removes the `n`-th entry of a list. -/
def dropNth {α : Type} (l : List α) (n : Nat) : List α := l.take n ++ l.drop (n + 1)

/-- The place in a list of the `n`-th entry that satisfies a test. -/
def nthWhere {α : Type} (p : α → Bool) : List α → Nat → Nat → Option Nat
  | [], _, _ => none
  | a :: t, n, i => if p a then (if n = 0 then some i else nthWhere p t (n - 1) (i + 1)) else nthWhere p t n (i + 1)

/-- R208: what a remote write adds to the hazard detector of the destination: it conflicts with the tile's commands still under way, with its
guarded sources (R125), and with what is issued before the flag orders it. `key` tells the remote writes of a step apart. -/
def hzRemote (s : State) (p t addr n flag key : Nat) : State :=
  match runOf s t with
  | none => s
  | some r =>
    if debugBit s p 1 then
      let b : HzRec := { off := 65536 + key, unit := 15, wr := [(addr, n)], flag := flag + 1 }
      let c : TCtx := { p := p, t := t, run := r, w := 0 }
      let open_ := openOffsets s t r
      let s := (r.hz.filter fun a => a.kind == 0 && a.unit != 15 && open_.contains a.off).foldl (fun s a =>
        match hzOverlap (a.rd ++ a.wr) b.wr with
        | some o => hzReport c s { b with unit := 15 } a 5 o.1 o.2
        | none => s) s
      updRun (hzGuarded c s b []) t fun r => { r with hz := r.hz ++ [b] }
    else s

/-- R159: data of another tile is written at a tile operand, and its flag increments where the step that sent it runs. -/
def deliver (s : State) (p t addr : Nat) (bs : List Byte) (flag step off key : Nat) : State :=
  let s := hzRemote (opDeliver s t addr bs) p t addr bs.length flag key
  if stepNoOf s p = step then incFlag s t flag off 5 else s

/-- R224: flits for a memory that the sender's partition does not own are dropped and counted, and the partition faults. -/
def dropFlits (s : State) (f : Flight) : State :=
  tileFault (addObj s 0x3102 6 ((f.data.length + 63) / 64) f.dst) f.part 0 f.src f.off (((stepOf s f.part).map (·.prog)).getD 0) 5 0x0106 (opVa 0 f.addr)

/-- R229: an earlier transfer of the same lane to the same tile is still in flight. -/
def laneOrdered (s : State) (i : Nat) (f : Flight) : Bool :=
  f.lane.isNone || !((s.flights.take i).any fun g => g.lane == f.lane && g.dst == f.dst)

/-- SEND_ARRIVE (R159, R224, R228): the last byte of the `n`-th SEND of tile `src` that is in flight is written and its flag increments. A
transfer held by a failure waits (R240). -/
def execSendArrive (src n : Nat) (s : State) : Host.Outcome State Fault Refusal :=
  if !tileOk src then .fault .noSuchUnit
  else
    match nthWhere (fun f => f.src == src) s.flights n 0 with
    | none => .next s
    | some i =>
      match s.flights[i]? with
      | none => .next s
      | some f =>
        if flightHeld s f || !laneOrdered s i f then .next s
        else
          let s := forward { s with flights := dropNth s.flights i } (flightRouters f) f.data.length
          if (ownerOf s f.dst).map (·.1) ≠ some f.part then .next (dropFlits s f)
          else
            match opWriteFault s f.dst f.addr f.data.length with
            | some e => .next (tileFault s f.part 0 f.dst f.off ((stepOf s f.part).map (·.prog) |>.getD 0) 5 e (opVa 0 f.addr))
            | none => .next (deliver s f.part f.dst f.addr f.data f.flag f.step f.off (f.src / 16 * 65536 + f.off))

/-! ### Reductions (R108, R109, R232–R235) -/

/-- Hands an operand to the fabric. -/
def rlaunch (s : State) (f : RFlight) : State := reviewStall { s with rflights := s.rflights ++ [rclimb f 12] } f.part

/-- RDC (R109, R116, R169): hands one contribution to a reduction, FP32 words or a top-k list. -/
def rdcCmd (c : TCtx) (s : State) : State :=
  let t := c.t
  let src := fld c.w 119 96
  let nw := fld c.w 95 80
  let idx := fld c.w 67 52
  let topk := bitAt c.w 51
  let pl := (part s c.p).place
  match reduceOf s c.p (fld c.w 79 68) with
  | none => c.fault s 5 0x0119
  | some d =>
    let mine := match d.contribs[idx]? with
      | none => false
      | some pti => match ptile (part s c.p).place pti with
        | none => false
        | some x => x.tile == t
    if !mine || (d.kind == 1) != topk || (if topk then nw != 0 else nw == 0 || nw != d.nw) then c.fault s 5 0x0119
    else
      let head := leNat (opBytes s t src 8)
      let n := if topk then 8 + 8 * topkK head else 4 * nw
      if !opOk src (Nat.max n 8) (if topk then 8 else 4) then c.fault s 5 0x0119
      else if opPending s t src n || decide (16 ≤ inFlight s t) then s
      else
        match opReadFault s t src n with
        | some e => c.fault s 5 e (opVa 0 src)
        | none =>
          if topk && topkBad head then c.fault s 5 0x0112 (opVa 0 src)
          else
            issue c 5 [(src, n)] [] (fun s =>
              rlaunch s { part := c.p, rid := d.rid, lvl := 0, idx := idx, n := d.contribs.length, step := stepNoOf s c.p
                          src := t + 1, off := c.run.pos
                          route := (contribRoute pl.flows d.onLanes (d.contribs.getD idx 0) d.dpti t
                            (((ptile pl d.dpti).map (·.tile)).getD 0)).getD []
                          data := if topk then chunks 8 (topkK head + 1) (opBytes s t src n) else opW32 s t src nw }) s

/-- RDC with KIND 0 (R109). -/
def execRdcSum (t : Nat) (s : State) : Host.Outcome State Fault Refusal := tileCmd t (fun w => isOp 0x51 w && !bitAt w 51) rdcCmd s
/-- RDC with KIND 1 (R116). -/
def execRdcTopk (t : Nat) (s : State) : Host.Outcome State Fault Refusal := tileCmd t (fun w => isOp 0x51 w && bitAt w 51) rdcCmd s

/-- A fault of a partition at a reduction unit's tile. -/
def unitFault (s : State) (p t reason : Nat) : State := partFault (countMem s t reason) p 0 t 0 ((stepOf s p).map (·.prog) |>.getD 0) 5 reason 0

/-- R108, R116: the value of an addition from its left and right operands, or the reason of a fault. -/
def rcombine (kind : Nat) (a b : List Nat) : Sum Nat (List Nat × Nat × Nat) :=
  if kind = 1 then
    match topkMerge a b with
    | .inl e => .inl e
    | .inr l => .inr (l, 0, 0)
  else
    let r := collect ((a.zip b).map fun e => fadd e.1 e.2)
    .inr (r.vs, r.ovf, r.inv)

/-- The bytes of an operand of a reduction. -/
def resultBytes (d : Reduce) (f : RFlight) : List Byte := if d.kind = 1 then f.data.flatMap (leBytes 8) else w32Bytes f.data

/-- R233, R235: the operand that a unit holds for the addition of one that arrives: it stands beside it, or is of another step. -/
def slotFor (s : State) (f : RFlight) : Option RFlight :=
  s.rslots.find? fun g => g.part == f.part && g.rid == f.rid && g.lvl == f.lvl && g.idx / 2 == f.idx / 2 && (g.idx != f.idx || g.step != f.step)

/-- REDUCTION_OPERAND_ARRIVE (R233, R235): the `i`-th operand in flight reaches the unit of its addition, which holds it, adds it
to the operand that waits, or drops both where their steps differ. -/
def execReductionOperandArrive (i : Nat) (s : State) : Host.Outcome State Fault Refusal :=
  match s.rflights[i]? with
  | none => .next s
  | some f =>
    match reduceOf s f.part f.rid with
    | none => .next { s with rflights := dropNth s.rflights i }
    | some d =>
      let u := unitOf d f
      if f.n ≤ 1 ∨ legHeld s d f = true then .next s
      else
        let s := forward { s with rflights := dropNth s.rflights i } (legRouters s d f) (resultBytes d f).length
        let f := { f with route := routeFrom f.route (unitPoint d.onLanes u), src := 0, off := 0, through := false }
        match slotFor s f with
        | none => .next { s with rslots := s.rslots ++ [f] }
        | some g =>
          let s := { s with rslots := s.rslots.erase g }
          if g.step ≠ f.step then .next (unitFault s f.part (unitTile u) 0x0706)
          else
            let l := if f.idx % 2 = 0 then f else g
            let r := if f.idx % 2 = 0 then g else f
            match rcombine d.kind l.data r.data with
            | .inl e => .next (unitFault s f.part (unitTile u) e)
            | .inr (v, ovf, inv) =>
              let s := countNum (if u % 4 = 0 then addObj s 0x3102 5 1 (unitTile u) else s) f.part ovf inv
              .next (rlaunch s { l with lvl := f.lvl + 1, idx := f.idx / 2, n := f.n - f.n / 2, data := v })

/-- R254: the operand at the destination of a reduction; one in the scratchpad is relative to its region. -/
def reduceDst (x : PTile) (d : Reduce) : Nat :=
  if opAcc d.dst then d.dst else d.dst + ((x.regions.find? fun r => r.ridx == d.dreg).map (·.base)).getD 0

/-- REDUCTION_RESULT_ARRIVE (R234): the last byte of the result that is the `i`-th operand in flight is written at the
destination, and the flag increments. -/
def execReductionResultArrive (i : Nat) (s : State) : Host.Outcome State Fault Refusal :=
  match s.rflights[i]? with
  | none => .next s
  | some f =>
    match reduceOf s f.part f.rid with
    | none => .next { s with rflights := dropNth s.rflights i }
    | some d =>
      match ptile (part s f.part).place d.dpti with
      | none => .next { s with rflights := dropNth s.rflights i }
      | some x =>
        if 1 < f.n ∨ legHeld s d f = true then .next s
        else
          let bs := resultBytes d f
          let a := reduceDst x d
          let s := forward { s with rflights := dropNth s.rflights i } (legRouters s d f) bs.length
          if opProtected s f.part x.tile a bs.length then .next (unitFault s f.part x.tile 0x011A)
          else
            match opWriteFault s x.tile a bs.length with
            | some e => .next (unitFault s f.part x.tile e)
            | none => .next (deliver s f.part x.tile a bs d.dflag f.step 0 (4096 * 65536 + d.rid))

/-! ### A failure on a route (R240, R243) -/

/-- R240, R243: of a transfer of `n` bytes, how many flits had passed the point of a failure: a free value. -/
def flitsPast (s : State) (src off n : Nat) : Nat := Config.flitsPast s.refTicks (src * 65536 + off) % ((n + 63) / 64 + 1)

/-- R240, R243: what a failure does to a SEND that it holds: the flits past it are delivered. One that had passed it whole arrives; of another
the bytes past it are written, and its flag never increments. -/
def cutFlight (s : State) (f : Flight) : State × Flight :=
  let k := flitsPast s f.src f.off f.data.length
  let bs := f.data.take (64 * k)
  if f.data.length ≤ 64 * k then (s, { f with through := true })
  else if bs.isEmpty || (opWriteFault s f.dst f.addr bs.length).isSome then (s, f)
  else (opDeliver s f.dst f.addr bs, f)

/-- The same of an operand of a reduction: one on its last leg writes at the destination. -/
def cutOperand (s : State) (f : RFlight) : State × RFlight :=
  match reduceOf s f.part f.rid with
  | none => (s, f)
  | some d =>
    let n := (resultBytes d f).length
    let k := flitsPast s f.src (f.idx * 4096 + f.lvl) n
    if n ≤ 64 * k then (s, { f with through := true })
    else
      match ptile (part s f.part).place d.dpti with
      | none => (s, f)
      | some x =>
        let bs := (resultBytes d f).take (64 * k)
        if 1 < f.n || bs.isEmpty || (opWriteFault s x.tile (reduceDst x d) bs.length).isSome then (s, f)
        else (opDeliver s x.tile (reduceDst x d) bs, f)

/-- R240: a failure that turns `s0` into `s`: what it holds from now on is cut at it. -/
def cutRoutes (s0 s : State) : State :=
  let a := s.flights.foldl (fun (a : State × List Flight) f =>
    let r := if flightHeld s0 f || !flightHeld s f then (a.1, f) else cutFlight a.1 f
    (r.1, a.2 ++ [r.2])) (s, [])
  let b := s.rflights.foldl (fun (b : State × List RFlight) f =>
    let r := if operandHeld s0 f || !operandHeld s f then (b.1, f) else cutOperand b.1 f
    (r.1, b.2 ++ [r.2])) (a.1, [])
  { b.1 with flights := a.2, rflights := b.2 }

end Sys2Proof.Machine
end

