-- ==== Sys2Proof/Machine/TileKv.lean ====
section
/-! DEFINITION. The page walker and the call port (R163, R170, R286–R292, R336–R338): KVRD, KVAP, the allocation call, ring fills,
set copies and the Retriever's chains. -/
namespace Sys2Proof.Machine

/-! ### What a KV command names -/

/-- What KVRD and KVAP of a layer and slot work on: KV tile record, group number, group. -/
structure KvCtx where
  k : KvTile
  gi : Nat
  g : KvGroup

/-- R289: the tile's record for a layer, and the slot below the program's S; none faults. -/
def kvCtx (s : State) (c : TCtx) (slot layer : Nat) : Option KvCtx :=
  let pl := (part s c.p).place
  match pl.tiles.findIdx? (fun x => x.tile == c.t), pl.progs.find? (fun x => x.prog == c.run.prog) with
  | some pti, some pr =>
    match kvTile pl pti layer, kvGroupOf pl layer with
    | some k, some gi => if slot < pr.slots then some { k := k, gi := gi, g := kvGroup pl gi } else none
    | _, _ => none
  | _, _ => none

/-- The binding of a slot of the running step. -/
def slotOf (s : State) (p slot : Nat) : Option SlotB :=
  match stepOf s p with
  | none => none
  | some r => r.slots.find? fun b => b.slot == slot

/-- R279: static scale byte of a held head: K scales first, then V scales. -/
def kvScale (s : State) (c : TCtx) (x : KvCtx) (v j : Nat) : Nat :=
  if x.g.fmt = 1 then 127
  else
    match (part s c.p).place.tiles.find? (fun y => y.tile == c.t) with
    | none => 127
    | some pt =>
      let base := ((pt.regions.find? fun r => r.ridx == x.k.scalereg).map (·.base)).getD 0
      leNat (spRead s c.t (base + x.k.scaleoff + v * x.k.nh + j) 1)

/-- R287: preparation precedes every walk of the tile. -/
def preparing (s : State) (t : Nat) : Bool := s.fills.any fun f => f.2.1 == t

/-! ### KVRD (R170, R288–R290) -/

/-- R288: bytes of a delivery of N positions. -/
def kvrdBytes (x : KvCtx) (n : Nat) : Nat :=
  4 * n + x.k.nh * (n * x.g.dh * kvEsize x.g + (if x.g.fmt = 1 then 0 else n * x.g.dh / 32) + 2 * n * x.g.dh)

/-- The value of a KV element: its pattern times 2^(scale − 127). -/
def kvValue (f code scale : Nat) : FP :=
  if f = 1 then dec32 (bf16to32 code)
  else if scale = 255 then .nan
  else
    match decElem f code with
    | .fin n m e => .fin n m (e + (scale : Int) - 127)
    | y => y

/-- R288: a V element as BF16. -/
def kvBf16 (f code scale : Nat) : Nat := if f = 1 then code else (toBf16 (packFP (kvValue f code scale)).v).v

/-- R288, R289: the delivery of N positions from P0, from the element patterns that `el v j p d` gives; V of an unseen position is zero. -/
def kvDelivery (x : KvCtx) (scale : Nat → Nat → Nat) (seen : Nat → Bool) (el : Nat → Nat → Nat → Nat → Nat) (p0 n : Nat) : List Byte :=
  let ps := (List.range n).map (· + p0)
  let mask := ps.flatMap fun p => leBytes 4 (if seen p then 0 else inf32 true)
  mask ++ (List.range x.k.nh).flatMap fun j =>
    (ps.flatMap fun p => (List.range x.g.dh).flatMap fun d => leBytes (kvEsize x.g) (el 0 j p d)) ++
    (if x.g.fmt = 1 then [] else List.replicate (n * x.g.dh / 32) (BitVec.ofNat 8 (scale 0 j))) ++
    ((List.range x.g.dh).flatMap fun d => ps.flatMap fun p => leBytes 2 (if seen p then kvBf16 x.g.fmt (el 1 j p d) (scale 1 j) else 0))

/-- R286: the residency window of a slot: page indices from `e + 1 − W`. -/
def inWindow (x : KvCtx) (len n i : Nat) : Bool :=
  let e := (len + n - 1) / 64
  decide (i ≤ e) && decide (e < i + x.k.w)

/-- R287, R290: one page index that a KVRD reads: a hole or a poisoned page faults; a page of the window is filled where its tag
does not match, and counted where it does. -/
def walkPage (c : TCtx) (x : KvCtx) (b : SlotB) (a : Sum Nat State) (i : Nat) : Sum Nat State :=
  match a with
  | .inl e => .inl e
  | .inr s =>
    match seqOf s c.p b.seq with
    | none => .inl 0x0708
    | some q =>
      match (table q x.gi)[i]? with
      | none => .inl 0x0708
      | some n =>
        let page := setPage x.g n + (x.k.layer - x.g.l0)
        if setState s c.p x.gi n = 0 then .inl 0x0708
        else if inWindow x b.len b.nnode i ∧ FMap.get 0 s.ringTags (tagKey c.t x.k.layer b.slot (i % x.k.w)) = page + 1 then
          .inr (addObj s (pidx 0x56 c.p) 8 1)
        else if (partCoords x.k x.g).any fun o => poolBad s c.p page (pageByte x.k x.g o) then .inl 0x070A
        else if inWindow x b.len b.nnode i then .inr (fillRing s c.p x.k x.gi b.slot i page page)
        else .inr (addObj (addObj s (pidx 0x56 c.p) 7 (partBytes x.k x.g)) (pidx 0x58 c.p) 3 (partBytes x.k x.g))

/-- R287: the ring holds the page of a page index that a KVRD reads. -/
def ringHit (s : State) (c : TCtx) (x : KvCtx) (b : SlotB) (i : Nat) : Bool :=
  inWindow x b.len b.nnode i && match pageOf s c.p b.seq x.gi x.k.layer i with
    | none => false
    | some page => FMap.get 0 s.ringTags (tagKey c.t x.k.layer b.slot (i % x.k.w)) == page + 1

/-- One element pattern at a position: from the ring inside the window, else from HBM. -/
def kvElem (s : State) (c : TCtx) (x : KvCtx) (b : SlotB) (v j p d : Nat) : Nat :=
  let i := p / 64
  if inWindow x b.len b.nnode i then
    leNat (spRead s c.t (ringOff (part s c.p).place x.k x.g b.slot (i % x.k.w) + partOff x.k x.g v (p % 64) j d) (kvEsize x.g))
  else
    match pageOf s c.p b.seq x.gi x.k.layer i with
    | none => 0
    | some page =>
      leNat ((List.range (kvEsize x.g)).map fun o => poolRead s c.p page (pageOff x.g v (p % 64) (x.k.h0 + j) d + o))

/-- The ring bytes of a page index that a delivery would read are uncorrectable. -/
def ringBad (s : State) (c : TCtx) (x : KvCtx) (b : SlotB) (i : Nat) : Bool :=
  inWindow x b.len b.nnode i &&
    spBad s c.t (ringOff (part s c.p).place x.k x.g b.slot (i % x.k.w)) (partBytes x.k x.g)

/-- KVRD (R170, R288): reads the positions in walker order and puts their delivery in flight. -/
def execKvrd (t : Nat) (s : State) : Host.Outcome State Fault Refusal :=
  tileCmd t (isOp 0x60) (fun c s =>
    let slot := fld c.w 119 112
    let p0 := fld c.w 103 72
    let n := fld c.w 71 56
    let dst := fld c.w 55 33
    match kvCtx s c slot (fld c.w 111 104) with
    | none => c.fault s 6 0x0119
    | some x =>
      let size := kvrdBytes x n
      if n = 0 ∨ n % 32 ≠ 0 ∨ p0 % 32 ≠ 0 ∨ spTop < dst + size then c.fault s 6 0x0119
      else if opProtected s c.p t dst size then c.fault s 6 0x011A (opVa 0 dst)
      else if preparing s t || decide (8 ≤ c.run.kvrds.length) then s
      else
        let start := fun (s : State) (data : List Byte) (far : Bool) =>
          issue c 6 [] [(dst, size)] (fun s => reviewStall (updRun s t fun r => { r with
            kvrds := r.kvrds ++ [{ off := c.run.pos, dst := dst, flag := fld c.w 32 27, far := far, data := data }] }) c.p) s (fld c.w 32 27 + 1)
        match slotOf s c.p slot, slotMasked s c.run slot with
        | some b, false =>
          let hi := Nat.min (p0 + n) (b.len + b.nnode)
          let pages := if p0 < hi then (List.range ((hi - 1) / 64 + 1 - p0 / 64)).map (· + p0 / 64) else []
          match pages.foldl (walkPage c x b) (.inr s) with
          | .inl e => c.fault s 6 e (4 * 2 ^ 44)
          | .inr s1 =>
            if pages.any (ringBad s1 c x b) then c.fault s1 6 0x0703
            else
              start s1 (kvDelivery x (kvScale s1 c x) (fun p => decide (p < b.len + b.nnode))
                (fun v j p d => if p < b.len + b.nnode then kvElem s1 c x b v j p d else 0) p0 n)
                (pages.any fun i => !ringHit s c x b i)
        | _, _ => start s (kvDelivery x (kvScale s c x) (fun _ => false) (fun _ _ _ _ => 0) p0 n) false) s

/-- KVRD_COMPLETE (R288): the oldest KV read of tile `t` writes its delivery, and its flag increments. One that a failure on the route to its
memory bridge holds waits (R240). -/
def execKvrdComplete (t : Nat) (s : State) : Host.Outcome State Fault Refusal :=
  if !tileOk t then .fault .noSuchUnit
  else
    match runOf s t with
    | none => .next s
    | some r =>
      match r.kvrds with
      | [] => .next s
      | k :: rest =>
        if tileDark s t || (k.far && bridgeCut s r.part t) then .next s
        else
          let s := updRun s t fun r => { r with kvrds := rest }
          match opWriteFault s t k.dst k.data.length with
          | some e => .next (tileFault s r.part 0 t k.off r.prog 6 e (opVa 0 k.dst))
          | none => .next (incFlag (tileSp s t k.dst k.data) t k.flag k.off 6)

/-! ### KVAP (R291) -/

/-- R291: an FP32 word converted to the KV format: pattern, saturated, non-finite. -/
def kvConvert (f scale w : Nat) : Nat × Bool × Bool :=
  if f = 1 then ((toBf16 w).v, false, !(dec32 w).isFin)
  else if scale = 255 then (0x7F, false, true)
  else
    let e : Int := (scale : Int) - 127
    match dec32 w with
    | .fin n m x => let r := quantElem f e n m x; (r.1, r.2.1, false)
    | y => if f = 3 then ((quantSpecial e y).1, false, true) else (0x7F, false, true)

/-- KVAP (R170, R291): converts the words of a SCALED row and writes them as the entry of the slot's node into the ring. -/
def execKvap (t : Nat) (s : State) : Host.Outcome State Fault Refusal :=
  tileCmd t (isOp 0x61) (fun c s =>
    let slot := fld c.w 119 112
    let node := fld c.w 111 108
    let row := fld c.w 107 101
    let woff := fld c.w 100 91
    match kvCtx s c slot (fld c.w 90 83) with
    | none => c.fault s 6 0x0119
    | some x =>
      let m := x.k.nh * x.g.dh
      let src := 2 ^ 23 + row * 4096 + 4 * woff
      if 1024 < woff + 2 * m then c.fault s 6 0x0119
      else if opPending s t src (8 * m) || preparing s t then s
      else
        match slotOf s c.p slot, slotMasked s c.run slot with
        | some b, false =>
          if b.nnode ≤ node then issue c 6 [] [] id s
          else
            match opReadFault s t src (8 * m) with
            | some e => c.fault s 6 e (opVa 0 src)
            | none =>
              let pos := b.len + node
              let rs := (opW32 s t src (2 * m)).zip (List.range (2 * m)) |>.map fun e =>
                kvConvert x.g.fmt (kvScale s c x (e.2 / m) (e.2 % m / x.g.dh)) e.1
              let bs := rs.flatMap fun e => leBytes (kvEsize x.g) e.1
              let h := m * kvEsize x.g
              let offs := (entryRuns (part s c.p).place x.k x.g slot pos).map (·.1)
              issue c 6 [(src, 8 * m)] (offs.map fun o => (o, h)) (fun s =>
                let s := countNum (countSat s c.p (rs.filter fun e => e.2.1).length) c.p 0 (rs.filter fun e => e.2.2).length
                spWrite (spWrite s t (offs.getD 0 0) (bs.take h)) t (offs.getD 1 0) (bs.drop h)) s
        | _, _ => issue c 6 [] [] id s) s

/-! ### Ring fills and copies -/

/-- RING_FILL_DONE (R287, R345): the `n`-th page part being read lands in its ring position and its tag is set, unless a failure on the route
from its memory bridge holds it (R240). -/
def execRingFillDone (n : Nat) (s : State) : Host.Outcome State Fault Refusal :=
  match s.fills[n]? with
  | none => .next s
  | some (p, t, layer, slot, i, src) =>
    let pl := (part s p).place
    if bridgeCut s p t then .next s
    else
    let s := { s with fills := dropNth s.fills n }
    match pl.tiles.findIdx? (fun x => x.tile == t), kvGroupOf pl layer, slotOf s p slot with
    | some pti, some gi, some b =>
      match kvTile pl pti layer, pageOf s p b.seq gi layer i with
      | some k, some page =>
        if (partCoords k (kvGroup pl gi)).any fun o => poolBad s p src (pageByte k (kvGroup pl gi) o) then .next (engineFault s p 0x070A)
        else .next (fillRing s p k gi slot i src page)
      | _, _ => .next s
    | _, _, _ => .next s

/-- ALLOC_COPY_DONE (R292): the `n`-th copy of a shared set in flight for partition `p` completes. -/
def execAllocCopyDone (p n : Nat) (s : State) : Host.Outcome State Fault Refusal :=
  if 16 ≤ p then .fault .noSuchUnit
  else
    match stepOf s p with
    | none => .next s
    | some r =>
      match r.copies[n]? with
      | none => .next s
      | some (g, src, dst, lo, hi) =>
        .next (copySet (updStep s p fun r => { r with copies := dropNth r.copies n }) p g src dst lo hi)

/-! ### The call port (R163) -/

def pcallEng (w : Nat) : Nat := fld w 119 117
def pcallDesc (w : Nat) : Nat := fld w 116 94
def pcallFlag (w : Nat) : Nat := fld w 93 88

/-- R206: a fault of a step-program call. -/
def callFault (c : TCtx) (s : State) (reason : Nat) (addr : Nat := 0) : State :=
  tileFault s c.p 1 c.t c.run.pos c.run.prog 7 reason addr

/-- R123, R163: a PCALL whose descriptor can be read: a fault where it is misaligned, out of reach or uncorrectable, a hold at the outstanding
limit and while the descriptor is a pending result. -/
def pcallCmd (c : TCtx) (f : Nat → State → State) (s : State) : State :=
  let a := pcallDesc c.w
  if a % 16 ≠ 0 ∨ spTop < a + 16 then c.fault s 7 0x0119
  else if 4 ≤ c.run.calls.length ∨ opPending s c.t a 16 then s
  else if spBad s c.t a 16 then c.fault s 7 0x0703 (opVa 0 a)
  else f (leNat (spRead s c.t a 16)) s

/-- PCALL_PAGE_ALLOC (R287, R292): the first call to the page engine of a step is the allocation call; the rings are prepared
when it completes. A later call finds nothing to do. -/
def execPcallPageAlloc (t : Nat) (s : State) : Host.Outcome State Fault Refusal :=
  tileCmd t (fun w => isOp 0x06 w && pcallEng w == 2) (fun c s => pcallCmd c (fun _ s =>
    let first := match stepOf s c.p with
      | none => false
      | some r => !r.alloced
    issue c 7 [(pcallDesc c.w, 16)] [] (fun s =>
      let s := if first then
          endIfMasked (reviewStall (prepareRings (allocCall (updStep s c.p fun r => { r with alloced := true }) c.p) c.p) c.p) c.p
        else s
      incFlag s t (pcallFlag c.w) c.run.pos 7) s) s) s

/-- R337: the runs of a transfer descriptor: source, destination, length of each. -/
def chainRuns (w : Nat) : List (Nat × Nat × Nat) :=
  let n := if bitAt w 247 then fld w 111 96 + 1 else 1
  (List.range n).map fun i => (fld w 239 192 + i * fld w 95 64, fld w 191 144 + i * fld w 63 32, fld w 143 112)

/-- R10, R337, R338: why a transfer descriptor faults; a reserved space lies outside every partition. -/
def chainRefusal (s : State) (p w : Nat) : Option Nat :=
  let pl := (part s p).place
  let d := bitAt w 247
  let src := fld w 239 192
  let dst := fld w 191 144
  if fld w 255 248 ≠ 1 ∨ fld w 246 240 ≠ 0 ∨ fld w 31 0 ≠ 0 ∨ fld w 143 112 = 0 ∨ fld w 143 112 % 4 ≠ 0 then some 0x0119
  else if 6 ≤ vaSpace src ∨ 6 ≤ vaSpace dst then some 0x0106
  else if !spaceIn src [0, 2, 4] || !spaceIn dst [0, 2] then some 0x0119
  else if d && (fld w 95 64 % 4 != 0 || fld w 63 32 % 4 != 0) then some 0x0119
  else if !d && fld w 111 32 != 0 then some 0x0119
  else if (chainRuns w).any fun r => !ownsRange pl r.1 r.2.2 || !ownsRange pl r.2.1 r.2.2 then some 0x0106
  else if (chainRuns w).any fun r => vaSpace r.2.1 == 0 && match ptile pl (vaPti r.2.1) with
      | none => false
      | some x => touchesKind x 0 (vaOff r.2.1) r.2.2 || touchesKind x 3 (vaOff r.2.1) r.2.2 then some 0x011A
  else none

/-- PCALL_CHAIN (R336–R338): the Retriever takes a chain of transfer descriptors. An ENG that names no engine faults. -/
def execPcallChain (t : Nat) (s : State) : Host.Outcome State Fault Refusal :=
  tileCmd t (fun w => isOp 0x06 w && pcallEng w != 2 && pcallEng w != 3) (fun c s =>
    if pcallEng c.w ≠ 1 then c.fault s 7 0x0119
    else pcallCmd c (fun d s =>
      let n := fld d 115 104
      let a := fld d 103 81
      if fld d 127 120 ≠ 1 ∨ fld d 119 116 ≠ 1 ∨ n = 0 ∨ a % 32 ≠ 0 ∨ d % 2 ^ 81 ≠ 0 ∨ spTop < a + 32 * n then callFault c s 0x0119
      else if opPending s t a (32 * n) then s
      else if spBad s t a (32 * n) then callFault c s 0x0703 (opVa 0 a)
      else
        let ds := (List.range n).map fun i => leNat (spRead s t (a + 32 * i) 32)
        match ds.findSome? (chainRefusal s c.p) with
        | some e => callFault c s e
        | none =>
          issue c 7 [(pcallDesc c.w, 16), (a, 32 * n)] [] (fun s => reviewStall (updRun s t fun r => { r with
            calls := r.calls ++ [{ off := c.run.pos, eng := 1, flag := pcallFlag c.w, descs := ds }] }) c.p) s (pcallFlag c.w + 1)) s) s

/-- R338: one run of a transfer: its bytes move, unless the read finds an uncorrectable word: then the reason, and the address at which it is
found; what the runs before it have written stays. -/
def chainMove (p : Nat) (a : State × Option (Nat × Nat)) (r : Nat × Nat × Nat) : State × Option (Nat × Nat) :=
  match a with
  | (s, some e) => (s, some e)
  | (s, none) =>
    if pvaBad s p r.1 r.2.2 then (s, some (if vaSpace r.1 = 0 then 0x0703 else 0x070A, r.1))
    else if dstBad s p r.2.1 r.2.2 then (s, some (0x0703, r.2.1))
    else (countHbm (pvaWrite (unstageWrite s p r.2.1 r.2.2) p r.2.1 (pvaRead s p r.1 r.2.2)) p r.1 r.2.1 r.2.2, none)

/-- R150: the word that a chain finds uncorrectable is counted for the tile whose scratchpad holds it; the fault counts it for the caller. -/
def chainCount (s : State) (p t reason va : Nat) : State :=
  if reason ≠ 0x0703 then s
  else match ptile (part s p).place (vaPti va) with
    | none => s
    | some x => if x.tile = t then s else addObj (countMem s x.tile reason) 0x3101 2 (2 ^ 64 - 1) t

/-- RETRIEVER_CALL_DONE (R338): the last byte of the oldest chain of tile `t` is written, in chain order, and its flag increments. One that a
failure on the route to a memory bridge holds waits (R240). -/
def execRetrieverCallDone (t : Nat) (s : State) : Host.Outcome State Fault Refusal :=
  if !tileOk t then .fault .noSuchUnit
  else
    match runOf s t with
    | none => .next s
    | some r =>
      match r.calls with
      | [] => .next s
      | k :: rest =>
        if k.eng == 1 && bridgeCut s r.part t then .next s
        else
        let s := updRun s t fun r => { r with calls := rest }
        match (k.descs.flatMap chainRuns).foldl (chainMove r.part) (s, none) with
        | (s, some (e, va)) => .next (tileFault (chainCount s r.part t e va) r.part 1 t k.off r.prog 7 e va)
        | (s, none) => .next (incFlag s t k.flag k.off 7)

end Sys2Proof.Machine
end

