-- ==== Sys2Proof/Machine/Sampler.lean ====
section
/-! DEFINITION. Candidate trees, the sampler's calls and the draft link (R303–R315), and cancels as tiles and the sampler context
see them (R318–R321). -/
namespace Sys2Proof.Machine

/-! ### Candidate trees (R303–R305) -/

/-- R303: node `k` of a tree given as the number that its 96 bytes spell. -/
def treeNode (tr k : Nat) : Nat := fld tr (48 * k + 47) (48 * k)
def nodeTok (w : Nat) : Nat := w % 2 ^ 32
def nodeParent (w : Nat) : Nat := fld w 35 32
def nodeForce (w : Nat) : Bool := bitAt w 36
def nodeQ (w : Nat) : Nat := fld w 47 37

/-- R303, R304: node `k` of a tree of `n` nodes is well formed. -/
def nodeOk (tr n k : Nat) : Bool :=
  let w := treeNode tr k
  if n ≤ k then w == 0
  else if k = 0 then w / 2 ^ 32 == 0 && nodeTok w != 0xFFFFFFFF
  else
    decide (nodeParent w < k) && nodeTok w != 0xFFFFFFFF &&
    (!nodeForce w ||
      ((nodeParent w == 0 || nodeForce (treeNode tr (nodeParent w))) &&
        (List.range n).all fun j => j == 0 || j == k || nodeParent (treeNode tr j) != nodeParent w))

/-- R304: a tree of `n` nodes is well formed. -/
def treeOk (tr n : Nat) : Bool := decide (1 ≤ n) && decide (n ≤ 16) && (List.range 16).all (nodeOk tr n)

/-- The nodes of a tree as a slot holds them. -/
def treeNodes (tr n : Nat) : List CandNode :=
  (List.range n).map fun k => { token := nodeTok (treeNode tr k), parent := nodeParent (treeNode tr k), q := nodeQ (treeNode tr k) }
def treeForce (tr n : Nat) : List Bool := (List.range n).map fun k => nodeForce (treeNode tr k)

def parentOf (b : SlotB) (k : Nat) : Nat := ((b.nodes[k]?).map (·.parent)).getD 0

/-- R305: the nodes from `k` up to the anchor, `k` first. -/
def ancestors (b : SlotB) (k : Nat) : Nat → List Nat
  | 0 => [k]
  | f + 1 => if k = 0 then [0] else k :: ancestors b (parentOf b k) f

/-- R305: depth of a node. -/
def depthOf (b : SlotB) (k : Nat) : Nat := (ancestors b k 16).length - 1
def childrenOf (b : SlotB) (k : Nat) : List Nat := (List.range b.nodes.length).filter fun j => j != 0 && parentOf b j == k

/-! ### Draft link (R306, R307) -/

/-- R306: the tile and scratchpad offset of entry `slot` of a link's candidate buffer. -/
def linkEntry (s : State) (l tp slot : Nat) : Option (Nat × Nat) :=
  match ptile (part s tp).place (objD 0 s 0x5200 (8 * l + 3)) with
  | none => none
  | some x => (x.regions.find? fun r => r.ridx == objD 0 s 0x5200 (8 * l + 4)).map fun r => (x.tile, r.base + 128 * slot)

/-- R13, R306, R307: what a link's entry makes of a slot that draws on it. -/
def drawEntry (s : State) (p : Nat) (b : SlotB) : Sum Nat SlotB :=
  match (linkOfTarget s p).bind fun l => linkEntry s l p b.slot with
  | none => .inl 0x0211
  | some (t, a) =>
    let w := fun o n => leNat (spRead s t (a + o) n)
    let n := w 8 1
    if w 0 4 ≠ b.seq ∨ w 4 4 ≠ b.len then .inl 0x0211
    else if w 9 1 ≠ 1 ∨ w 10 6 ≠ 0 ∨ w 24 8 ≠ 0 ∨ !treeOk (w 32 96) n then .inl 0x0121
    else
      let m := Nat.min n b.nnode
      .inr { b with nodes := treeNodes (w 32 96) m, force := treeForce (w 32 96) m }

/-! ### Sampler calls (R308) -/

def sOp (d : Nat) : Nat := fld d 119 116
def sSlot0 (d : Nat) : Nat := fld d 115 108
def sNslot (d : Nat) : Nat := fld d 107 99
def sOff (d : Nat) : Nat := fld d 98 76

/-- R308: the descriptor breaks a range. -/
def samplerBad (s : State) (c : TCtx) (d : Nat) : Bool :=
  let lim := match (part s c.p).place.progs.find? (fun x => x.prog == c.run.prog) with
    | none => 0
    | some x => x.slots
  fld d 127 120 != 1 || sOp d == 0 || decide (3 < sOp d) || sNslot d == 0 || decide (256 < sNslot d) ||
    decide (lim < sSlot0 d + sNslot d) || (sOp d == 3 && sOff d != 0) || d % 2 ^ 76 != 0

/-- A PCALL to the sampler whose descriptor has the OP of the row; a descriptor that breaks a range faults. -/
def samplerCmd (op : Nat) (c : TCtx) (f : Nat → State → State) (s : State) : State :=
  pcallCmd c (fun d s =>
    if samplerBad s c d then callFault c s 0x0119
    else if sOp d ≠ op then s
    else f d s) s

def isSampler (w : Nat) : Bool := isOp 0x06 w && pcallEng w == 3

/-! ### TREE (R309) -/

/-- R309: the 2,048-byte record of a slot; `none` for a masked one. -/
def treeRecord (seq len : Nat) (b : Option SlotB) : List Byte :=
  match b with
  | none =>
    leBytes 4 seq ++ leBytes 4 len ++ leBytes 1 0 ++ leBytes 1 1 ++ leBytes 22 0 ++ leBytes 96 0
      ++ (List.replicate 16 (leBytes 4 0xFFFFFFFF)).flatten ++ leBytes 64 0
      ++ (List.replicate 256 (leBytes 4 (inf32 true))).flatten ++ leBytes 768 0
  | some b =>
    let n := b.nodes.length
    let node := fun k => match b.nodes[k]? with
      | none => 0
      | some x => put x.q 11 37 + put (b2n (b.force.getD k false)) 1 36 + put x.parent 4 32 + x.token % 2 ^ 32
    leBytes 4 seq ++ leBytes 4 len ++ leBytes 1 n ++ leBytes 1 0 ++ leBytes 22 0
      ++ (List.range 16).flatMap (fun k => leBytes 6 (node k))
      ++ (List.range 16).flatMap (fun k => leBytes 4 (if k < n then b.len + depthOf b k else 0xFFFFFFFF))
      ++ leBytes 64 0
      ++ (List.range 16).flatMap (fun k => (List.range 16).flatMap fun j =>
          leBytes 4 (if j < n ∧ k < n ∧ (ancestors b k 16).contains j then 0 else inf32 true))
      ++ leBytes 768 0

/-- R307, R309: one slot of a TREE call. -/
def treeSlot (c : TCtx) (d : Nat) (s : State) (slot : Nat) : State :=
  let dst := sOff d + (slot - sSlot0 d) * 2048
  match slotOf s c.p slot with
  | none => tileSp s c.t dst (treeRecord 0 0 none)
  | some b =>
    if slotMasked s c.run slot then tileSp s c.t dst (treeRecord b.seq b.len none)
    else if b.csrc = 2 then
      match drawEntry s c.p b with
      | .inl cause =>
        let s := addObj (maskSlot s c.p slot false cause) (pidx 0x57 c.p) 9 1
        tileSp s c.t dst (treeRecord b.seq b.len none)
      | .inr b' =>
        tileSp (updSlot s c.p slot fun _ => { b' with treeDone := true }) c.t dst (treeRecord b.seq b.len (some b'))
    else tileSp (updSlot s c.p slot fun b => { b with treeDone := true }) c.t dst (treeRecord b.seq b.len (some b))

/-- The candidate buffer entries that a TREE call reads hold an uncorrectable word. -/
def drawBad (s : State) (c : TCtx) (d : Nat) : Bool :=
  ((List.range (sNslot d)).map (· + sSlot0 d)).any fun slot =>
    match slotOf s c.p slot with
    | none => false
    | some b => b.csrc == 2 && !slotMasked s c.run slot &&
      match (linkOfTarget s c.p).bind fun l => linkEntry s l c.p slot with
      | none => false
      | some (t, a) => spBad s t a 128

/-- R147: bytes of the tile's scratchpad touch a region of a kind. -/
def spTouches (s : State) (c : TCtx) (kind off n : Nat) : Bool :=
  match (part s c.p).place.tiles.find? (fun x => x.tile == c.t) with
  | none => false
  | some x => touchesKind x kind off n

/-- SAMPLER_TREE (R309). -/
def execSamplerTree (t : Nat) (s : State) : Host.Outcome State Fault Refusal :=
  tileCmd t isSampler (fun c s => samplerCmd 1 c (fun d s =>
    let n := 2048 * sNslot d
    if spTop < sOff d + n ∨ spTouches s c 0 (sOff d) n then callFault c s 0x0119
    else if spTouches s c 3 (sOff d) n then callFault c s 0x011A (opVa 0 (sOff d))
    else if drawBad s c d ∨ (opWriteFault s t (sOff d) n).isSome then callFault c s 0x0703 (opVa 0 (sOff d))
    else
      issue c 7 [(pcallDesc c.w, 16)] [(sOff d, n)] (fun s =>
        let s := ((List.range (sNslot d)).map (· + sSlot0 d)).foldl (treeSlot c d) s
        endIfMasked (incFlag s t (pcallFlag c.w) c.run.pos 7) c.p) s) s) s

/-! ### The distribution and the generator (R311, R312) -/

/-- R312: the mixing function, modulo 2^64. -/
def mix64 (z : BitVec 64) : BitVec 64 :=
  let z := (z ^^^ (z >>> 30)) * 0xBF58476D1CE4E5B9#64
  let z := (z ^^^ (z >>> 27)) * 0x94D049BB133111EB#64
  z ^^^ (z >>> 31)

/-- R312: the 24-bit uniform of a draw, as its numerator over 2^24. -/
def genBits (key seq p d : Nat) : Nat :=
  let x := mix64 (BitVec.ofNat 64 key ^^^ BitVec.ofNat 64 (seq % 2 ^ 32 * 2 ^ 32 + p % 2 ^ 32))
  (mix64 (x + 0x9E3779B97F4A7C15#64 * BitVec.ofNat 64 (d + 1)) >>> 40).toNat

/-- R312: the uniform as an FP32 value. -/
def gen (key seq p d : Nat) : Nat := (round32 false (genBits key seq p d) (-24)).v

/-- R311: exp, exactly 1.0 at +0. -/
def sExp (a : Nat) : Nat := if a = 0 then one32 else (fnSpecial 0x0D a).v

/-- R311: running sums in rank order. -/
def runSums : List Nat → Nat → List Nat
  | [], _ => []
  | w :: t, acc =>
    let a := (fadd acc w).v
    a :: runSums t a
def cumSums : List Nat → List Nat
  | [] => []
  | w :: t => w :: runSums t w

/-- A kept set: tokens and weights by rank. -/
structure KeptSet where
  toks : List Nat
  ws : List Nat
  deriving DecidableEq, Repr

def ltF (a b : Nat) : Bool := ltFP (dec32 a) (dec32 b)

/-- R311: the kept set of a list's pairs; none is greedy. -/
def keptSet (temp topk topp : Nat) (ps : List (Nat × Nat)) : Option KeptSet :=
  if (dec32 temp).isZero then none
  else
    let kk := if topk = 0 then ps.length else Nat.min topk ps.length
    let v0 := ((ps[0]?).map (·.1)).getD 0
    let ws := (ps.take kk).map fun e => sExp (fdiv (fsub e.1 v0).v temp).v
    let cs := cumSums ws
    let z := (fmul topp (cs.getD (kk - 1) 0)).v
    let m := 1 + ((List.range kk).find? fun i => ltF z (cs.getD i 0) || cs.getD i 0 == z).getD (kk - 1)
    some { toks := (ps.take m).map (·.2), ws := ws.take m }

def KeptSet.total (k : KeptSet) : Nat := (cumSums k.ws).getD (k.ws.length - 1) 0
/-- The rank of a token in a kept set. -/
def KeptSet.rank (k : KeptSet) (tok : Nat) : Option Nat := k.toks.findIdx? (· == tok)
def KeptSet.weight (k : KeptSet) (tok : Nat) : Nat := ((k.rank tok).map fun i => k.ws.getD i 0).getD 0

/-- R307: min(2,047, ⌈p × 2,048⌉ − 1) for p = w ÷ c; 2,047 where the set is greedy. -/
def draftQ (w c : Nat) : Nat :=
  match dec32 w, dec32 c with
  | .fin _ mw ew, .fin _ mc ec =>
    if mc = 0 then 0
    else
      let a := mw * 2048 * (if ec ≤ ew then 2 ^ (ew - ec).toNat else 1)
      let b := mc * (if ec ≤ ew then 1 else 2 ^ (ec - ew).toNat)
      Nat.min 2047 ((a + b - 1) / b - 1)
  | _, _ => 0

/-! ### Acceptance (R313–R315) -/

/-- R313: what a walk has gathered. -/
structure Walk where
  path : List Nat := [0]
  tokens : List Nat := []
  qs : List Nat := []
  nonfin : Bool := false
  tested : Nat := 0
  accepted : Nat := 0
  nonfins : Nat := 0

/-- What testing the children of a node has come to: the child taken, its Q, the set left, draws made, tokens tested, tests made. -/
structure Test where
  next : Option (Nat × Nat) := none
  set : KeptSet
  d : Nat := 0
  toks : List Nat := []
  tests : Nat := 0

/-- R313: one child tested against the kept set. -/
def testChild (b : SlotB) (p : Nat) (a : Test) (c : Nat) : Test :=
  if a.next.isSome then a
  else
    let tok := ((b.nodes[c]?).map (·.token)).getD 0
    let total := a.set.total
    let wx := a.set.weight tok
    if b.force.getD c false then { a with next := some (c, draftQ wx total) }
    else
      let u := gen b.key b.seq p a.d
      let q := (round32 false (((b.nodes[c]?).map (·.q)).getD 0 + 1) (-11)).v
      let a := { a with d := a.d + 1, toks := tok :: a.toks, tests := a.tests + 1 }
      if ltF (fmul (fmul u q).v total).v wx then { a with next := some (c, draftQ wx total) }
      else if ltF 0 wx then
        let w' := (fmax 0 (fsub wx (fmul q total).v).v).v
        match a.set.rank tok with
        | none => a
        | some i => { a with set := { a.set with ws := a.set.ws.set i w' } }
      else a

/-- R314: one child tested greedily: its token against rank 0. -/
def testGreedy (b : SlotB) (top : Nat) (a : Option Nat × Nat) (c : Nat) : Option Nat × Nat :=
  if a.1.isSome then a
  else if b.force.getD c false then (some c, a.2)
  else if ((b.nodes[c]?).map (·.token)).getD 0 = top then (some c, a.2 + 1)
  else (none, a.2 + 1)

/-- R311, R313: the closing token and its Q. -/
def closeToken (b : SlotB) (p : Nat) (ps : List (Nat × Nat)) (t : Test) : Nat × Nat :=
  let top := ((ps[0]?).map (·.2)).getD 0
  let cs := cumSums t.set.ws
  let total := t.set.total
  if ltF 0 total then
    let z := (fmul (gen b.key b.seq p 16) total).v
    let i := ((List.range t.set.ws.length).find? fun i => ltF z (cs.getD i 0)).getD (t.set.ws.length - 1)
    (t.set.toks.getD i top, draftQ (t.set.ws.getD i 0) total)
  else (((ps.map (·.2)).find? fun x => !t.toks.contains x).getD top, 0)

/-- R313: the walk of a slot's tree from a node; `lists` gives a node's list as 64-bit words, or the code with which reading it faults. -/
def walkTree (b : SlotB) (lists : Nat → Sum Nat (List Nat)) (node : Nat) (w : Walk) : Nat → Sum Nat Walk
  | 0 => .inr w
  | f + 1 =>
    match lists node with
    | .inl r => .inl r
    | .inr l =>
      let ps := topkPairs l
      let p := b.len + depthOf b node
      let top := ((ps[0]?).map (·.2)).getD 0
      let tok := fun (k : Nat) => ((b.nodes[k]?).map (·.token)).getD 0
      let onto := fun (w : Walk) (k q : Nat) =>
        { w with path := w.path ++ [k], tokens := w.tokens ++ [tok k], qs := w.qs ++ [q], accepted := w.accepted + 1 }
      let w := { w with nonfin := w.nonfin || ps.any fun e => !(dec32 e.1).isFin }
      if ps.any fun e => (dec32 e.1).isNan || e.1 == inf32 false then
        .inr { w with tokens := w.tokens ++ [top], qs := w.qs ++ [2047], nonfin := true, nonfins := w.nonfins + 1 }
      else
        match keptSet b.temp b.topk b.topp ps with
        | none =>
          let r := (childrenOf b node).foldl (testGreedy b top) (none, 0)
          let w := { w with tested := w.tested + r.2 }
          match r.1 with
          | some k => walkTree b lists k (onto w k 2047) f
          | none => .inr { w with tokens := w.tokens ++ [top], qs := w.qs ++ [2047] }
        | some set =>
          let t := (childrenOf b node).foldl (testChild b p) { set := set }
          let w := { w with tested := w.tested + t.tests }
          match t.next with
          | some (k, q) => walkTree b lists k (onto w k q) f
          | none =>
            let e := closeToken b p ps t
            .inr { w with tokens := w.tokens ++ [e.1], qs := w.qs ++ [e.2] }

/-- R148, R310: the list of a slot and node; 0x0703 where a word read is uncorrectable, 0x0112 where its header has K outside
1–64 or COUNT of 0 or above K. -/
def acceptList (s : State) (t off : Nat) : Sum Nat (List Nat) :=
  let h := leNat (spRead s t off 8)
  if spBad s t off 8 then .inl 0x0703
  else if topkBad h || topkCount h == 0 then .inl 0x0112
  else if spBad s t off (8 + 8 * topkK h) then .inl 0x0703
  else .inr (chunks 8 (topkK h + 1) (spRead s t off (8 + 8 * topkK h)))

/-- R310, R313: one slot of an ACCEPT call; the code where a list it reads faults. -/
def acceptSlot (c : TCtx) (d : Nat) (a : Sum Nat State) (slot : Nat) : Sum Nat State :=
  match a with
  | .inl r => .inl r
  | .inr s =>
    match slotOf s c.p slot with
    | none => .inr s
    | some b =>
      if b.masked then .inr s
      else
        match walkTree b (fun k => acceptList s c.t (sOff d + ((slot - sSlot0 d) * 16 + k) * 520)) 0 {} 17 with
        | .inl r => .inl r
        | .inr w =>
          let s := updSlot s c.p slot fun b => { b with
            decided := true, kept := w.path, tokens := w.tokens, qs := w.qs, nonfinite := w.nonfin }
          let i := pidx 0x57 c.p
          .inr (addObj (addObj (addObj (addObj s i 1 w.tested) i 2 w.accepted) i 3 w.tokens.length) i 4 w.nonfins)

/-- SAMPLER_ACCEPT (R308, R310, R313): decides the slots of the call; the commit point follows the last of the step. -/
def execSamplerAccept (t : Nat) (s : State) : Host.Outcome State Fault Refusal :=
  tileCmd t isSampler (fun c s => samplerCmd 2 c (fun d s =>
    let slots := (List.range (sNslot d)).map (· + sSlot0 d)
    let n := sNslot d * 16 * 520
    let decided := slots.any fun x => match slotOf s c.p x with
      | none => false
      | some b => b.decided
    if spTop < sOff d + n ∨ decided then callFault c s 0x0119
    else if opPending s t (sOff d) n then s
    else
      match slots.foldl (acceptSlot c d) (.inr s) with
      | .inl r => callFault c s r (opVa 0 (sOff d))
      | .inr _ =>
        issue c 7 [(pcallDesc c.w, 16), (sOff d, n)] [] (fun s =>
          match slots.foldl (acceptSlot c d) (.inr s) with
          | .inl _ => s
          | .inr s => tryCommit (incFlag s t (pcallFlag c.w) c.run.pos 7) c.p) s) s) s

/-- SAMPLER_PUBLISH (R307, R310): registers a slot range in the draft of a link. -/
def execSamplerPublish (t : Nat) (s : State) : Host.Outcome State Fault Refusal :=
  tileCmd t isSampler (fun c s => samplerCmd 3 c (fun d s =>
    if (linkOfDraft s c.p).isNone then callFault c s 0x0208
    else
      issue c 7 [(pcallDesc c.w, 16)] [] (fun s =>
        incFlag (updStep s c.p fun r => { r with published := r.published ++ [(sSlot0 d, sNslot d)] })
          t (pcallFlag c.w) c.run.pos 7) s) s) s

/-- ACCEPT_MISSING (R310): every tile has reached END with an unmasked slot undecided: the partition faults, SOURCE 2. -/
def execAcceptMissing (p : Nat) (s : State) : Host.Outcome State Fault Refusal :=
  if 16 ≤ p then .fault .noSuchUnit
  else if acceptMissing s p then .next (engineFault s p 0x0122)
  else .next s

/-! ### Cancels (R194, R318–R321) -/

/-- R377: a member's link engine forwards a cancel to the master. -/
def forwardCancel (s : State) (p seq : Nat) : State :=
  updGroup (toRank s p (group s p).master 10 [seq]) p fun g => { g with forwarded := g.forwarded ++ [ownRank s p * 2 ^ 32 + seq] }

/-- CANCEL (R194, R318): the link engine acts on the next CANCEL of partition `p`'s front priority list: it sets the sequence's
flag and enters the notice. Where no uncommitted step carries the sequence it completes at once (R320); a sequence that is
not live ends its list. A member of a group forwards it to the master and waits for the decision (R377). -/
def cancelEff (s : State) (p : Nat) (r : RunList) : State :=
  let q0 := 128 + 8 * p
  let w := r.lst.word r.pos
  let seq := fld w 223 192
  let last := fun (s : State) (r : RunList) (bad : Bool) =>
    let s := setQueue s q0 { queue s q0 with running := none }
    let r := { r with begun := bad }
    if r.aux.isEmpty then endRun s (8 * p) r (if bad then 0x0207 else 0) (if bad then r.pos else 0)
    else { s with cancelWait := s.cancelWait ++ [(8 * p, r)] }
  match (if isMember s p && replica s p then some ((seqOf s p seq).getD {}) else seqOf s p seq) with
  | none => releaseWaits (last s r true) p 6
  | some x =>
    let busy := match stepOf s p with
      | none => false
      | some st => !st.committed && st.slots.any fun b => b.seq == seq
    let member := isMember s p
    let waits := (busy && !x.cancelled) || member
    let s := if member then forwardCancel s p seq else setSeq s p seq { x with cancelled := true }
    let s := if waits then s else addObj s (pidx 0x57 p) 6 1
    let r := { r with
      results := r.results ++ [cancelWord s p seq]
      aux := if waits then r.aux ++ [seq * 65536 + r.results.length] else r.aux
      pos := r.pos + 1 }
    if hdrNwords r.lst.hdr < r.pos then releaseWaits (last s r false) p 6
    else setQueue s q0 { queue s q0 with running := some r }

/-- CANCEL (R194, R318): the link engine takes the next CANCEL of the priority lists of the partition whose step queue is `q`. -/
def execCancel (q : Nat) (s : State) : Host.Outcome State Fault Refusal :=
  if 128 ≤ q then .fault .noSuchUnit
  else
    let p := qPart q
    let q0 := 128 + 8 * p
    if (part s p).st = .free then .next s
    else
      match (queue s q0).running, (queue s q0).waiting with
      | some r, _ => .next (cancelEff s p r)
      | none, l :: t => .next (cancelEff (setQueue s q0 { waiting := t, running := some { lst := l } }) p { lst := l })
      | none, [] => .next s

/-- CANCEL_NOTICE_TILE (R321): a cancel notice for a slot of the running step reaches tile `t`, which masks the slot from its next
TSTEP on. -/
def execCancelNoticeTile (t slot : Nat) (s : State) : Host.Outcome State Fault Refusal :=
  if !tileOk t then .fault .noSuchUnit
  else
    match runOf s t with
    | none => .next s
    | some r =>
      match slotOf s r.part slot with
      | none => .next s
      | some b =>
        if ((seqOf s r.part b.seq).any (·.cancelled)) && !(r.masked ++ r.maskNext).contains slot then
          .next (updRun s t fun r => { r with maskNext := slot :: r.maskNext })
        else .next s

/-- A CANCEL of partition `p` for a sequence, its own or one forwarded to it, waits for its record. -/
def cancelPending (s : State) (p seq : Nat) : Bool :=
  (groupRole s p == 1 && (group s p).forwarded.any fun f => f % 2 ^ 32 == seq) ||
  (s.cancelWait.any fun e => qPart e.1 == p && e.2.aux.any fun a => a / 65536 == seq) ||
  match (queue s (128 + 8 * p)).running with
  | none => false
  | some r => r.aux.any fun a => a / 65536 == seq

/-- CANCEL_RECORDED (R320): the sampler context records the cancel of a sequence `lat` ns after its arrival. Before the commit
point its slot is masked and the CANCEL waits for that point; after it the step stands and the CANCEL completes. The master of a group
sends the masking to the ranks of the step (R377). -/
def execCancelRecorded (p seq lat : Nat) (s : State) : Host.Outcome State Fault Refusal :=
  if 16 ≤ p then .fault .noSuchUnit
  else if !cancelPending s p seq || isMember s p then .next s
  else
    let i := pidx 0x57 p
    let s := setObj s i 7 (Nat.max (objD 0 s i 7) lat % 2 ^ 32)
    match stepOf s p, boundSlot s p seq with
    | some r, some b =>
      if r.committed then .next (finalForwards (finalCancels (addObj s i 6 1) p (· == seq)) p (· == seq))
      else if b.cancelled then .next s
      else
        let s := if r.group.isSome then toRanks s p (group s p).ranks 11 [seq, b.slot, 0, 0] else s
        let s := { s with tiles := s.tiles.map fun e =>
          if e.2.part = p ∧ !(e.2.masked ++ e.2.maskNext).contains b.slot then (e.1, { e.2 with maskNext := b.slot :: e.2.maskNext }) else e }
        .next (tryCommit (endIfMasked (addObj (maskSlot s p b.slot true 0) i 5 1) p) p)
    | _, _ => .next (finalForwards (finalCancels (addObj s i 6 1) p (· == seq)) p (· == seq))

end Sys2Proof.Machine
end

