-- ==== Sys2Proof/Machine/StepCmds.lean ====
section
/-! DEFINITION. The step engine (R25–R27, R141, R188–R193), the boundary of a step and what follows it (R53, R64, R71, R76, R307),
and the host commands of the Retriever, the page engine, the sampler and the debug queue (R192–R201, R298, R341). -/
namespace Sys2Proof.Machine

/-! ### STEP (R25, R188–R191) -/

/-- The `i`-th slot binding of a STEP's payload: its word 0 and the number that its tree bytes spell. -/
def bindWord (pay : List Nat) (i : Nat) : Nat := pay.getD (4 * i) 0
def bindTree (pay : List Nat) (i : Nat) : Nat :=
  pay.getD (4 * i + 1) 0 + pay.getD (4 * i + 2) 0 * 2 ^ 256 + pay.getD (4 * i + 3) 0 * 2 ^ 512
def bindSlot (w : Nat) : Nat := fld w 255 248
def bindSeq (w : Nat) : Nat := fld w 247 216
def bindNnode (w : Nat) : Nat := fld w 215 211

/-- R189: the source of a binding, with the sequence's default resolved. -/
def bindSrc (s : State) (p w : Nat) : Nat :=
  if fld w 210 209 ≠ 0 then fld w 210 209 else ((seqOf s p (bindSeq w)).map (·.csrc)).getD 1

/-- No number occurs twice. -/
def distinct : List Nat → Bool
  | [] => true
  | a :: t => !t.contains a && distinct t

/-- R190, R304: why a STEP is refused at dispatch: the reason, and the result word of a malformed tree. -/
def stepRefusal (s : State) (p prog : Nat) (pay : List Nat) : Option (Nat × List W256) :=
  let n := pay.length / 4
  let ws := (List.range n).map (bindWord pay)
  let is := List.range n
  match (part s p).place.progs.find? (fun x => x.prog == prog) with
  | none => some (0x0105, [])
  | some g =>
    if ws.any (fun w => decide (g.slots ≤ bindSlot w) || decide (g.cap < bindNnode w)) || !distinct (ws.map bindSlot) then some (0x0105, [])
    else if is.any fun i => bindSrc s p (bindWord pay i) == 2 && bindTree pay i != 0 then some (0x0105, [])
    else if ws.any fun w => (seqOf s p (bindSeq w)).isNone then some (0x0207, [])
    else if !distinct (ws.map bindSeq) || ws.any (fun w => seqBusy s p (bindSeq w)) then some (0x0205, [])
    else if ws.any (fun w => bindSrc s p w == 2) && (linkOfTarget s p).isNone then some (0x0208, [])
    else
      match is.find? fun i => bindSrc s p (bindWord pay i) == 1 && !treeOk (bindTree pay i) (bindNnode (bindWord pay i)) with
      | some i => some (0x0121, [BitVec.ofNat 256 (put (bindSlot (bindWord pay i)) 8 248)])
      | none => none

/-- The slot that a binding makes. A sequence whose cancel flag is set is masked (R190). -/
def bindOf (s : State) (p : Nat) (pay : List Nat) (i : Nat) : SlotB :=
  let w := bindWord pay i
  let src := bindSrc s p w
  let n := bindNnode w
  let b : SlotB := { slot := bindSlot w, seq := bindSeq w, nnode := n, csrc := src }
  match seqOf s p (bindSeq w) with
  | none => b
  | some x =>
    { b with
      nodes := if src = 1 then treeNodes (bindTree pay i) n else []
      force := if src = 1 then treeForce (bindTree pay i) n else []
      len := x.len, key := x.key, temp := x.temp, topk := x.topk, topp := x.topp
      masked := x.cancelled, cancelled := x.cancelled, prevLast := x.lastStep }

/-- R132: the 16 words of a partition's pin table. -/
def pinTable (s : State) (p : Nat) : List Nat := (List.range 16).map fun i => objD 0 s (pidx 0x54 p) (i + 1)

/-- The step that a STEP starts, with the values latched at its dispatch (R132, R416, R59). -/
def newStep (s : State) (p prog : Nat) (bs : List SlotB) : StepRun :=
  let i := pidx 0x51 p
  { prog := prog, stepNo := (part s p).stepCounter, slots := bs, startNs := nowNs s
    satThr := objD 4 s i 13, zeroThr := objD 28 s i 14, stormFrac := objD 100 s i 15, pins := pinTable s p
    numeric := objD 0 s i 34, checkN := (part s p).checkN, checkT := (part s p).checkT }

/-- R17: the partition becomes STEPPING and runs `r`. -/
def startStep (s : State) (p : Nat) (r : StepRun) : State :=
  endIfMasked (reviewStall (setPState (updPart s p fun x => { x with step := some r }) p .stepping) p) p

/-- R17, R53, R71, R231: a STEP can be dispatched. -/
def stepReady (s : State) (p : Nat) : Bool :=
  (part s p).st == .idle && (part s p).step.isNone && !(part s p).holdSwap && !(part s p).holdTables && !(part s p).noHub && s.power == .ready

/-! ### Group steps (R375) -/

/-- A 256-bit word as four numbers of 64 bits, lowest first, and back. -/
def quad (w : Nat) : List Nat := [fld w 63 0, fld w 127 64, fld w 191 128, fld w 255 192]
def quads : List Nat → List Nat
  | a :: b :: c :: d :: t => (a % 2 ^ 64 + put b 64 64 + put c 64 128 + put d 64 192) :: quads t
  | _ => []

/-- R375: the ranks that a group step is sent to: every rank of a split group, the homes of the bound sequences of a replica group. -/
def stepRanks (s : State) (p : Nat) (pay : List Nat) : List Nat :=
  let g := group s p
  if replica s p then
    g.joined.filter fun r => (List.range (pay.length / 4)).any fun i => FMap.get (ownRank s p) g.homes (bindSeq (bindWord pay i)) == r
  else g.joined

/-- R375: the bindings that a rank receives: all, or those of the sequences it holds. -/
def rankBinds (s : State) (p r : Nat) (pay : List Nat) : List Nat :=
  (List.range (pay.length / 4)).flatMap fun i =>
    if replica s p && FMap.get (ownRank s p) (group s p).homes (bindSeq (bindWord pay i)) != r then [] else (pay.drop (4 * i)).take 4

/-- R375: the master starts the next group step: STEPGO to the ranks, and its own launch. -/
def groupStep (s : State) (p prog : Nat) (pay : List Nat) (bs : List SlotB) : State :=
  let n := (group s p).confirmed + 1
  let rs := stepRanks s p pay
  let s := updGroup s p fun g => { g with ranks := rs, masks := [], done := [], sent := false }
  let s := rs.foldl (fun s r => toRank s p r 3 (n :: prog :: (rankBinds s p r pay).flatMap quad)) s
  let bs := bs.map fun b => { b with away := replica s p && FMap.get (ownRank s p) (group s p).homes b.seq != ownRank s p }
  startStep s p { newStep s p prog bs with group := some n }

/-- R375: a rank launches a group step. -/
def launchGo (s : State) (p : Nat) (x : StepGo) : State :=
  let s := updGroup s p fun g => { g with masked := false, commit := false }
  let bs := (List.range (x.binds.length / 4)).map (bindOf s p x.binds)
  startStep s p { newStep s p x.prog bs with group := some x.step }

/-- R375: the first STEPGO that waits is launched once the step before it is confirmed and the partition can step. -/
def goWaiting (s : State) (p : Nat) : State :=
  match (group s p).waiting with
  | [] => s
  | x :: t =>
    if stepReady s p && (group s p).undo.isNone then launchGo (updGroup s p fun g => { g with waiting := t }) p x else s

/-- STEP (R25, R26, R190, R375): dispatched once the partition is IDLE; it is refused, or the step starts. The STEP of a group's master waits
until every rank has joined. -/
def execStep (q : Nat) (s : State) : Host.Outcome State Fault Refusal :=
  withCommand s q 0x01 fun r w =>
    let p := qPart q
    let pay := payload (r.lst.words.map (·.toNat)) r.pos (cmdNpay w)
    if !stepReady s p || (isMaster s p && (group s p).st != 2) then s
    else
      match stepRefusal s p (fld w 223 220) pay with
      | some (e, res) => refuseCmd s q e res
      | none =>
        let bs := (List.range (pay.length / 4)).map (bindOf s p pay)
        if isMaster s p then groupStep (beginCmd s q []) p (fld w 223 220) pay bs
        else startStep (beginCmd s q []) p (newStep s p (fld w 223 220) bs)



/-- STEP_LAUNCH (R141, R159, R160): the launch reaches a tile of the stepping partition: its clock reads what the other tiles of
the partition read, its flags are 0, and it starts at word 1 of its list. -/
def execStepLaunch (t : Nat) (s : State) : Host.Outcome State Fault Refusal :=
  if !tileOk t then .fault .noSuchUnit
  else
    match ownerOf s t with
    | none => .next s
    | some (p, pti) =>
      match stepOf s p with
      | none => .next s
      | some r =>
        match listBase (part s p).place pti r.prog with
        | none => .next s
        | some base =>
          if r.launched.contains t ∨ r.committed ∨ tileDark s t then .next s
          else
            let clk := ((s.tiles.find? fun e => e.2.part == p && !e.2.stopping).map (·.2.clk)).getD 0
            let s := { s with tiles := FMap.set s.tiles t { newRun s t p r.prog base with clk := clk }, accPend := s.accPend.filter fun e => e.1 / 128 != t }
            .next (updStep s p fun r => { r with launched := t :: r.launched })

/-! ### The step boundary (R27, R191) -/

/-- R191: the summary word of a step. -/
def stepWord (s : State) (r : StepRun) : W256 :=
  BitVec.ofNat 256 (put 0x10 8 248 + put r.prog 4 244 + put (b2n r.storm) 1 243 + put (Nat.min r.repeats 65535) 16 208
    + put r.slots.length 16 192 + put r.stallNs 64 128 + put (nowNs s - r.startNs) 32 96)

/-- R191: the three words of a slot's entry. -/
def slotWords (s : State) (p : Nat) (b : SlotB) : List W256 :=
  let toks := if b.masked then [] else b.tokens
  let len := ((seqOf s p b.seq).map (·.len)).getD b.len
  let tok := fun i => toks.getD i 0xFFFFFFFF
  let half := fun o => ((List.range 8).map fun i => put (tok (o + i)) 32 (32 * i)).foldl (· + ·) 0
  [BitVec.ofNat 256 (put b.slot 8 248 + put b.seq 32 216 + put len 32 184 + put toks.length 5 179 + put (b2n b.masked) 1 178
      + put (b2n b.cancelled) 1 177 + put (b2n b.nonfinite) 1 176 + put (b2n b.noPage) 1 175 + put b.cause 16 144),
    BitVec.ofNat 256 (half 0), BitVec.ofNat 256 (half 8)]



/-- R307: the 128 bytes of a draft link's entry for a slot of a step that has committed. -/
def linkBytes (r : StepRun) (b : SlotB) : List Byte :=
  let toks := (b.tokens.zip b.qs).take 15
  let n := toks.length + 1
  let node0 := ((b.nodes[0]?).map (·.token)).getD 0
  let tree := leBytes 6 node0 ++ (toks.zip (List.range 15)).flatMap fun e => leBytes 6 (put e.1.2 11 37 + put e.2 4 32 + e.1.1 % 2 ^ 32)
  leBytes 4 b.seq ++ leBytes 4 b.len ++ leBytes 1 n ++ leBytes 1 1 ++ leBytes 6 0 ++ leBytes 8 r.stepNo ++ leBytes 8 0
    ++ tree ++ leBytes (96 - 6 * n) 0

/-- R307: after the boundary of a draft's step its sampler writes the entries of the published slots and signals the link object. -/
def publish (s : State) (p : Nat) (r : StepRun) : State :=
  match linkOfDraft s p with
  | none => s
  | some l =>
    if r.published.isEmpty then s
    else
      let tp := objD 0xFF s 0x5200 (8 * l + 2)
      let s := r.slots.foldl (fun s b =>
        if b.masked || !(r.published.any fun x => decide (x.1 ≤ b.slot) && decide (b.slot < x.1 + x.2)) then s
        else
          match linkEntry s l tp b.slot with
          | none => s
          | some (t, a) => spWrite s t a (linkBytes r b)) s
      let obj := objD 0 s 0x5200 (8 * l + 5)
      let s := updPart s tp fun x => { x with draftCause := false }
      if !ownsSync s tp obj then s
      else
        match syncSum s tp obj 1 with
        | none => raiseRc s 3 0x0107 (some tp)
        | some v => syncWrite s tp obj v

/-- R287: the ring fills of a partition that no command of its step has waited for end with the step. -/
def dropFills (s : State) (p : Nat) : State := { s with fills := s.fills.filter fun f => f.1 != p }

/-- R52, R64, R71: the latches of a boundary: every owned tile latches T, pending swaps apply, tables fitted in service come into
use; a band change holds the dispatch of STEP. -/
def boundaryLatch (s : State) (p : Nat) : State :=
  let ts := tilesOf s p
  let s1 := ts.foldl latchTile s
  let moved := ts.any fun t => (latchOf s t).2 != (latchOf s1 t).2
  let s2 := applySwap s1 p
  let s3 := (ts.flatMap (serviceBanks s2)).foldl (fun s k => if (bankOf s k).newTable then loadTable s k else s) s2
  if moved then addObj (updPart s3 p fun x => { x with holdTables := true, boundDue := true }) (pidx 0x51 p) 9 1 else s3

/-- R76, R546: BOUND_HELD of the partition's banks in service is judged at a step boundary, after the tables of a new band are loaded; losing
the first and regaining the last raise a cause. -/
def boundaryBounds (s : State) (p : Nat) : State :=
  let ks := (tilesOf s p).flatMap (serviceBanks s)
  let s := updPart s p fun x => { x with boundDue := false }
  let s := ks.foldl (fun s k => updBank s k fun b => { b with boundHeld := boundNow s k }) s
  let lost := ks.any fun k => !(bankOf s k).boundHeld
  let s := if lost then addObj s (pidx 0x51 p) 8 1 else s
  if lost && !(part s p).boundLost then
    updPart (raise s { sev := 2, cls := 7, part := some p }) p fun x => { x with boundLost := true }
  else if !lost && (part s p).boundLost then
    updPart (raise s { sev := 1, cls := 7, part := some p }) p fun x => { x with boundLost := false }
  else s

/-- R74, R546: a region that holds a bank in service latches T below 20 °C, or every such region of the device is back. -/
def coldCheck (s : State) : State :=
  let cold := s.banks.any fun e => e.2.st == .inService && decide ((latchOf s (bankTile e.1)).1 < 320)
  if cold && !s.coldRaised then raise { s with coldRaised := true } { sev := 2, cls := 6 }
  else if !cold && s.coldRaised then raise { s with coldRaised := false } { sev := 1, cls := 6 }
  else s

/-- R300: groups whose FREE sets lie below the low-free level; the first boundary at which one does raises a cause. The FREE sets are noted. -/
def lowFreeCheck (s : State) (p : Nat) : State :=
  let lvl := objD 0 s (pidx 0x56 p) 10
  let low := (List.range (kvNgroup (part s p).place)).filter fun g => decide ((freeSets s p g).length < lvl)
  let new := low.any fun g => !(part s p).lowFree.contains g
  let free := (List.range (kvNgroup (part s p).place)).map fun g => (g, (freeSets s p g).length)
  updPart (if new then raise s { sev := 2, cls := 3, part := some p } else s) p fun x => { x with lowFree := low, freeAt := free }

/-- R27 actions 1–5: write-through, page returns, the step counter, the held edits. -/
def commitActions (s : State) (p : Nat) (r : StepRun) : State :=
  let s := r.slots.foldl (commitSlot p) s
  let s := r.slots.foldl (returnSets p) s
  let s := updPart s p fun x => { x with stepCounter := (x.stepCounter + 1) % 2 ^ 64, step := none }
  judgeHeld s r.held

/-- R59, R472: a check period and a tolerance written since the last boundary take effect. -/
def latchCheck (s : State) (p : Nat) : State :=
  updPart s p fun x => { x with checkN := objD 0 s (pidx 0x51 p) 5, checkT := objD 0x100000 s (pidx 0x51 p) 6 }

/-- R17: what follows a boundary; the partition is IDLE again, or LOADED where it was DISABLING. -/
def leaveStep (s : State) (p : Nat) (r : StepRun) : State :=
  let s := latchCheck (boundaryLatch (publish (dropFills s p) p r) p) p
  let s := if (part s p).boundDue then s else boundaryBounds s p
  let s := hubMove (lowFreeCheck (coldCheck s) p) p
  if (part s p).st = .disabling then leaveDisabling s p else toIdle s p

/-- R17, R27 action 6: the record is posted, and the partition leaves the step. -/
def endStep (s : State) (p : Nat) (r : StepRun) : State :=
  let res := stepWord s r :: (sortSlots r.slots).flatMap (slotWords s p)
  leaveStep (completeCmd s (8 * p) res (some r.stepNo)) p r

/-! ### The boundary of a group step (R375, R376) -/

/-- R376: the undo record of group step `n`, from the state before its actions 1–5 and the state after them. -/
def undoOf (s t : State) (p : Nat) (r : StepRun) (n : Nat) : Undo :=
  let b := r.slots.reverse.foldl (undoSlot p) s
  let keys := (b.kvSets.map (·.1) ++ (t.kvSets.map (·.1)).filter fun k => (FMap.find b.kvSets k).isNone).filter fun k => k / 2 ^ 40 == p
  { step := n
    seqs := r.slots.filterMap fun x => (seqOf b p x.seq).map fun y => (x.seq, { y with lastStep := x.prevLast })
    sets := (keys.filter fun k => FMap.get (0, 0) b.kvSets k != FMap.get (0, 0) t.kvSets k).map fun k => (k, FMap.get (0, 0) b.kvSets k) }

/-- Actions 1–5 of R27 for a group step, with its undo record. -/
def groupActions (s : State) (p : Nat) (r : StepRun) (n : Nat) : State :=
  let t := commitActions s p r
  updGroup t p fun g => { g with undo := some (undoOf s t p r n) }

/-- R375 order 8: the master posts the record of its group step and confirms it. -/
def postGroup (s : State) (p : Nat) (r : StepRun) : State :=
  let n := r.group.getD 0
  let s := updGroup s p fun g => { g with
    posting := none, undo := none, confirmed := n, table := groupTable s p, tableAt := n, ranks := [], masks := [], done := [], sent := false }
  toRanks (endStep s p r) p (openRanks s p) 9 [n]

/-- R375 order 7: once every rank has committed, BOUNDARY goes to the backup; with no backup to reach, the step is posted. -/
def groupBoundary (s : State) (p : Nat) : State :=
  let g := group s p
  match g.posting with
  | none => s
  | some r =>
    if g.sent || !(g.ranks.all (g.done.contains ·)) then s
    else if g.backup < 16 ∧ g.backup ≠ ownRank s p ∧ (rankSession s p g.backup).isSome then
      updGroup (toRank s p g.backup 7 (r.group.getD 0 :: (tableChanges g.table (groupTable s p)).flatMap fun w =>
        [fld w 63 0, fld w 127 64, fld w 191 128, fld w 255 192, w / 2 ^ 256])) p fun g => { g with sent := true }
    else postGroup s p r

/-- R375: what the master forwarded to a rank takes effect there. -/
def orderEff (s : State) (p w : Nat) : State :=
  let q := fld w 223 192
  let e : Eff := match w / 2 ^ 248 with
    | 0x02 => seqopenEff s p q
    | 0x03 => seqcloseEff s p q
    | 0x30 => seqParamEff s p q fun x => { x with temp := fld w 191 160, topk := fld w 159 153, topp := fld w 152 121 }
    | 0x31 => seqParamEff s p q fun x => { x with key := fld w 191 128 }
    | 0x32 => seqParamEff s p q fun x => { x with csrc := fld w 191 190 }
    | _ => pageEff s p w
  match e with
  | .inl _ => s
  | .inr (t, _) => t

/-- R375 order 6: a rank has committed its KV: it replies COMMITTED and leaves its step. -/
def memberBoundary (s : State) (p : Nat) (r : StepRun) (n : Nat) : State :=
  let s := leaveStep (groupActions s p r n) p r
  let os := (group s p).orders
  let s := os.foldl (fun s w => orderEff s p w) (updGroup s p fun g => { g with orders := [] })
  toRank s p (group s p).master 6 [n]

/-- STEP_BOUNDARY (R27, R295, R375): once the copies of a committed step have completed, its actions run and its record is posted. A group
step's master posts it once its ranks and its backup have answered; a rank posts none. -/
def execStepBoundary (p : Nat) (s : State) : Host.Outcome State Fault Refusal :=
  if 16 ≤ p then .fault .noSuchUnit
  else
    match stepOf s p with
    | none => .next s
    | some r =>
      if r.committed && r.copies.isEmpty then
        match r.group with
        | none => .next (endStep (commitActions s p r) p r)
        | some n =>
          if groupRole s p = 2 then .next (memberBoundary s p r n)
          else .next (groupBoundary (updGroup (groupActions s p r n) p fun g => { g with posting := some r }) p)
      else .next s

/-- TSWAP_END (R53): tSWAP has passed and the dispatch hold is released. -/
def execTswapEnd (p : Nat) (s : State) : Host.Outcome State Fault Refusal :=
  if 16 ≤ p then .fault .noSuchUnit else .next (goWaiting (updPart s p fun x => { x with holdSwap := false }) p)

/-- BAND_TABLE_LOAD_DONE (R71, R72): every owned tile has the tables of its latched band, and dispatch resumes. -/
def execBandTableLoadDone (p : Nat) (s : State) : Host.Outcome State Fault Refusal :=
  if 16 ≤ p then .fault .noSuchUnit
  else if (part s p).holdTables then
    let s := ((tilesOf s p).flatMap (storedBanks s)).foldl loadTable s
    let s := if (part s p).boundDue then boundaryBounds s p else s
    .next (goWaiting (updPart s p fun x => { x with holdTables := false }) p)
  else .next s

/-- TEMP_LATCH_TICK (R64, R71): an idle or unowned tile latches its temperature and band again. -/
def execTempLatchTick (t : Nat) (s : State) : Host.Outcome State Fault Refusal :=
  if !tileOk t then .fault .noSuchUnit
  else
    let s1 := latchTile s t
    let moved := (latchOf s t).2 != (latchOf s1 t).2
    match ownerOf s t with
    | none => .next s1
    | some (p, _) =>
      if (part s p).step.isSome then .next s
      else .next (coldCheck (if moved then updPart s1 p fun x => { x with holdTables := true } else s1))

/-! ### Sequences, sampling parameters, pages (R192–R197, R298) -/

/-- Judges a command at once, or holds it to the boundary where a step runs. -/
def nowOrHeld (s : State) (q : Nat) (pre : Option Nat) (e : Eff) : State :=
  if stepActive s (qPart q) then
    match pre with
    | some r => refuseCmd s q r
    | none => holdCmd s q
  else finish s q e

/-- SEQOPEN (R192). -/
def execSeqopen (q : Nat) (s : State) : Host.Outcome State Fault Refusal :=
  withCommand s q 0x02 fun _ w => finish s q (seqopenEff s (qPart q) (fld w 223 192))

/-- SEQCLOSE (R193): at once, or at the boundary where a step runs that does not carry the sequence. -/
def execSeqclose (q : Nat) (s : State) : Host.Outcome State Fault Refusal :=
  withCommand s q 0x03 fun _ w =>
    let p := qPart q
    let x := fld w 223 192
    nowOrHeld s q (if (seqOf s p x).isNone then some 0x0207 else if seqBusy s p x then some 0x0205 else none) (seqcloseEff s p x)

/-- R196, R298, R344: a page command takes effect at once, at the boundary where a step runs, and after a checkpoint of a sequence it names. -/
def pageCmd (s : State) (q w : Nat) : State :=
  if pageWaits s (qPart q) w then beginCmd s q copyMark
  else nowOrHeld s q (pageRefusal s (qPart q) w) (pageEff s (qPart q) w)

/-- PALLOC (R196, R297). -/
def execPalloc (q : Nat) (s : State) : Host.Outcome State Fault Refusal := withCommand s q 0x20 fun _ w => pageCmd s q w
/-- PFREE (R196, R297). -/
def execPfree (q : Nat) (s : State) : Host.Outcome State Fault Refusal := withCommand s q 0x21 fun _ w => pageCmd s q w
/-- PTEDIT (R196, R297). -/
def execPtedit (q : Nat) (s : State) : Host.Outcome State Fault Refusal := withCommand s q 0x22 fun _ w => pageCmd s q w
/-- PSHARE (R196, R297). -/
def execPshare (q : Nat) (s : State) : Host.Outcome State Fault Refusal := withCommand s q 0x23 fun _ w => pageCmd s q w

/-- SPARAM (R197). -/
def execSparam (q : Nat) (s : State) : Host.Outcome State Fault Refusal :=
  withCommand s q 0x30 fun _ w => finish s q (seqParamEff s (qPart q) (fld w 223 192) fun x =>
    { x with temp := fld w 191 160, topk := fld w 159 153, topp := fld w 152 121 })
/-- SKEY (R197). -/
def execSkey (q : Nat) (s : State) : Host.Outcome State Fault Refusal :=
  withCommand s q 0x31 fun _ w => finish s q (seqParamEff s (qPart q) (fld w 223 192) fun x => { x with key := fld w 191 128 })
/-- SSRC (R197): the draft link is selected only where one is configured. -/
def execSsrc (q : Nat) (s : State) : Host.Outcome State Fault Refusal :=
  withCommand s q 0x32 fun _ w =>
    let p := qPart q
    let seq := fld w 223 192
    finish s q (if (seqRefusal s p seq).isNone ∧ fld w 191 190 = 2 ∧ (linkOfTarget s p).isNone then .inl 0x0208
      else seqParamEff s p seq fun x => { x with csrc := fld w 191 190 })

/-! ### Retriever host commands (R195, R299, R341, R344) -/

/-- XFER (R195, R299): moves one run; into the page area or a STREAM region it waits for the boundary of a running step. -/
def execXfer (q : Nat) (s : State) : Host.Outcome State Fault Refusal :=
  withCommand s q 0x10 fun _ w =>
    let p := qPart q
    let src := fld w 223 176
    let dst := fld w 175 128
    let n := fld w 127 96
    if xferHolds s p dst n then
      match xferRefusal s p dst n with
      | some r => refuseCmd s q r
      | none => holdCmd s q
    else finish s q (xferEff s p src dst n)

/-- R341: the address is the start of a slot of a STAGE region. -/
def stageSlotOk (pl : Placement) (va : Nat) : Bool :=
  pl.hregs.any fun r => r.kind == 2 && decide (r.vbase ≤ vaLow va) && (vaLow va - r.vbase) % stageBytes == 0 &&
    decide (vaLow va + stageBytes ≤ r.vbase + r.size)

/-- R341: writes a golden block into a staging slot; the slot enters the directory where its BCRC matches. -/
def stageInto (s : State) (p va id : Nat) (g : Golden) : Eff :=
  let s := { s with staged := s.staged.filter fun e => !(e.1 == p && e.2.1 == va) }
  let bytes := leBytes 32 g.word ++ g.data ++ leBytes (stageBytes - 32 - g.data.length) 0
  let s := addObj (pvaWrite s p va bytes) (pidx 0x58 p) 4 stageBytes
  if goldenCrcOk g then ok { s with staged := s.staged ++ [(p, va, id)] } else ok s

/-- STAGE (R195, R341): a failed BCRC ends it with RC_BLOCK_CRC after the copy has been written. -/
def execStage (q : Nat) (s : State) : Host.Outcome State Fault Refusal :=
  withCommand s q 0x11 fun _ w =>
    let p := qPart q
    let pl := (part s p).place
    let va := fld w 159 112
    if !stageSlotOk pl va then refuseCmd s q 0x0105
    else
      match storeGolden s pl.image (fld w 223 160) with
      | none => refuseCmd s q 0x0305
      | some g =>
        match stageInto s p va (fld w 223 160) g with
        | .inl r => refuseCmd s q r
        | .inr (t, res) => if goldenCrcOk g then completeCmd t q res else refuseCmd t q 0x0707

/-- CHKPT with DIR 0 (R195, R344): saves a sequence, which is busy until the copy completes. -/
def execChkptSave (q : Nat) (s : State) : Host.Outcome State Fault Refusal :=
  withCommand s q 0x12 fun _ w =>
    if bitAt w 223 then s else startCopy s q (chkptSaveEff s (qPart q) (fld w 222 191) (fld w 190 143))

/-- CHKPT with DIR 1 (R195, R344): restores a sequence, at the boundary where a step runs. -/
def execChkptRestore (q : Nat) (s : State) : Host.Outcome State Fault Refusal :=
  withCommand s q 0x12 fun _ w =>
    if bitAt w 223 then
      let p := qPart q
      let x := fld w 222 191
      if stepActive s p then
        match (if (seqOf s p x).isSome then some 0x020A else if 65536 ≤ liveCount s p then some 0x0303 else none) with
        | some r => refuseCmd s q r
        | none => holdCmd s q
      else startCopy s q (chkptRestoreEff s p x (fld w 190 143))
    else s

/-! ### Debug commands (R201) -/

/-- R201: the debug commands are accepted. -/
def debugOn (s : State) (p : Nat) : Bool := (part s p).st == .faulted || debugBit s p 0 || debugBit s p 1

/-- DBGREL (R201): releases a tile held at BRK, or every one. -/
def execDbgrel (q : Nat) (s : State) : Host.Outcome State Fault Refusal :=
  withCommand s q 0x70 fun _ w =>
    let p := qPart q
    if !debugOn s p then refuseCmd s q 0x0209
    else
      let pti := fld w 223 212
      let t := ((ptile (part s p).place pti).map (·.tile))
      let s := { s with tiles := s.tiles.map fun e =>
        if e.2.part = p ∧ e.2.brk = 1 ∧ (pti = 0xFFF ∨ t = some e.1) then (e.1, { e.2 with brk := 2 }) else e }
      completeCmd s q []

/-- R201: a type 7 record: header and the bytes read, with a mark for each 32-byte unit that holds a bad word. -/
def dbgrdRecord (s : State) (p va n : Nat) : List Byte :=
  let marks := ((List.range (n / 32)).map fun u => put (b2n (pvaBad s p (va + 32 * u) 32)) 1 u).foldl (· + ·) 0
  leBytes 32 (put 1 8 248 + put va 48 200 + put n 16 184 + put marks 128 0) ++ pvaRead s p va n

/-- DBGRD (R201): reads bytes of the partition into a debug record, without a fault. -/
def execDbgrd (q : Nat) (s : State) : Host.Outcome State Fault Refusal :=
  withCommand s q 0x71 fun _ w =>
    let p := qPart q
    if !debugOn s p then refuseCmd s q 0x0209
    else
      completeCmd (postDebug s p { typ := 7, body := dbgrdRecord s p (fld w 223 176) (fld w 175 160) }) q []

end Sys2Proof.Machine
end

