-- ==== Sys2Proof/Machine/Banks.lean ====
section
/-! DEFINITION. The array maintenance engine (R48–R62, R66–R88, R198, R199, R443): its commands, the events that end bank
operations, the drift probe, the scheduler, and the arbitration of captures (R475–R478). -/
namespace Sys2Proof.Machine

/-! ### Legality (R52, R54) -/

/-- R54: why an operation on a bank is refused, none where it starts or has no effect. `dual` is the partition's bank mode. -/
def bankRefusal (op : Nat) (dual : Bool) (b sib : Bank) : Option Nat :=
  let worn := if 100000 ≤ b.progCycles then some 0x0225 else none
  if dual && (op == 0x42 || op == 0x43) || !dual && op == 0x44 then some 0x0224
  else
    match b.st with
    | .retired => some 0x0223
    | .programming => some 0x0221
    | .calibrating => some 0x0221
    | .repairing => some (if op = 0x42 ∨ op = 0x43 then 0x0224 else 0x0221)
    | .empty => if op = 0x40 then worn else if op = 0x45 then none else some 0x0222
    | .invalid => if op = 0x40 then worn else if op = 0x45 then none else some 0x0222
    | .programmed => if op = 0x40 then worn else if op = 0x41 ∨ op = 0x45 then none else some 0x0222
    | .standby =>
      if op = 0x40 then worn
      else if op = 0x44 then some 0x0222
      else if op = 0x42 then (if sib.st = .inService then none else some 0x0222)
      else none
    | .swapArmed => if op = 0x42 ∨ op = 0x43 then none else if op = 0x44 then some 0x0222 else some 0x0220
    | .inService =>
      if op = 0x41 then (if !dual then some 0x0224 else none)
      else if op = 0x44 then worn
      else some 0x0220

/-! ### Starting operations -/

/-- What is written into a bank: block, format, codes of the data cells (R33), column sums. -/
structure BankImage where
  block : Nat
  format : Nat
  cells : List Byte
  sums : List Int

/-- R52: verify-first programming of a bank begins; its first pulse waits for VPGM (R443). -/
def startProgram (s : State) (k : Nat) (x : BankImage) (op : BankOp) : State :=
  updBank s k fun b => { b with
    st := .programming, prior := b.st, op := op, block := some x.block, format := x.format, cells := x.cells, sums := x.sums
    cur := none, newTable := false, openEntry := false, noCopy := false, fitFails := 0 }

/-- R52, R54: calibration begins in the tile's present band. DESIGN CHOICE (log 33): where one runs in service on the bank already, it is started
afresh for the new command. -/
def startCal (s : State) (k : Nat) (op : BankOp) : State :=
  let l := latchOf s (bankTile k)
  updBank s k fun b =>
    if b.st = .inService then { b with calInPlace := true, op := op, calBand := l.2, calT := l.1 }
    else { b with st := .calibrating, prior := b.st, op := op, calBand := l.2, calT := l.1 }

/-- R52: an in-place repair begins: evaluations of the bank are held. DESIGN CHOICE (log 105): a calibration of the bank that runs in service is
given up, its CALIBRATE completes with RC_BANK_BUSY, and a table fitted for the old programming does not come into use. -/
def startRepair (s : State) (k : Nat) (x : BankImage) (op : BankOp) : State :=
  updBank (calAbort s k 0x0221) k fun b => { b with
    st := .repairing, op := op, openEntry := false, fitting := false, newTable := false, fitFails := 0, cells := x.cells, sums := x.sums }

/-- R443: a request for VPGM joins those that wait. -/
def vpgmRequest (s : State) (placer : Bool) (ks : List Nat) : State := { s with vpgmWait := s.vpgmWait ++ [(placer, ks)] }

/-- R53: the swap point of a record is immediate unless a step runs or has yet to reach its boundary (R375); FAULTED keeps the record
pending. -/
def swapNow (s : State) (p : Nat) : Bool :=
  (part s p).step.isNone && (group s p).posting.isNone && (part s p).st != .faulted && (part s p).st != .loading

/-- R52, R53: arms a standby bank. -/
def armSwap (s : State) (p k : Nat) : State :=
  if (bankOf s k).st = .swapArmed then s
  else updPart (updBank s k fun b => { b with st := .swapArmed }) p fun x => { x with swap := x.swap ++ [k] }

/-- R52: takes an armed bank out of the record. -/
def disarm (s : State) (p k : Nat) : State :=
  if (bankOf s k).st = .swapArmed then
    updPart (updBank s k fun b => { b with st := .standby }) p fun x => { x with swap := x.swap.filter (· != k) }
  else s

/-- R52: takes a bank permanently out of use. -/
def retireBank (s : State) (k : Nat) : State :=
  kennelRetire (updBank s k fun b => { b with st := .retired, cur := none }) 1 (bankTile k) (bankSub (bankArray k) (k % 2))

/-! ### Sources (R199, R341, R342) -/

/-- R199: why a source is refused: its BCRC, its format code or a nibble outside its format. -/
def sourceBad (g : Golden) : Option Nat :=
  if !goldenCrcOk g then some 0x0707
  else if 3 < fld g.word 164 162 || !goldenLevelsOk (fld g.word 164 162) g.data then some 0x0105
  else none

def imageOf (id : Nat) (g : Golden) : BankImage :=
  { block := id, format := fld g.word 164 162, cells := g.data, sums := columnSums g.data }

/-- R342: a staged copy whose BCRC fails leaves the directory. -/
def unstage (s : State) (p id : Nat) : State := { s with staged := s.staged.filter fun e => !(e.1 == p && e.2.2 == id) }

/-- R342: a staged copy whose BCRC fails leaves the directory; another refusal leaves it. -/
def dropBad (s : State) (p id : Nat) : Option Nat → State
  | none => s
  | some e => if e = 0x0707 then unstage s p id else s

/-- The golden block as a source, or the reason why it cannot be one. -/
def sourceFrom (id : Nat) (g : Golden) : Option Nat → Sum Nat BankImage
  | none => .inr (imageOf id g)
  | some e => .inl e

/-- R199, R342: the golden copy of a block that the device itself reads: the staged copy, else the image store's. A staged copy
that fails its BCRC leaves the directory. -/
def deviceSource (s : State) (p id : Nat) : State × Sum Nat BankImage :=
  let pl := (part s p).place
  match stagedSlot s p id, storeGolden s pl.image id with
  | some a, _ => (dropBad s p id (sourceBad (slotGolden s pl a)), sourceFrom id (slotGolden s pl a) (sourceBad (slotGolden s pl a)))
  | none, some g => (s, sourceFrom id g (sourceBad g))
  | none, none => (s, .inl 0x0305)

/-- R199: the source of a host PROGRAM. -/
def programSource (s : State) (p w : Nat) : State × Sum Nat BankImage :=
  let pl := (part s p).place
  let id := fld w 144 81
  match fld w 146 145 with
  | 0 => match stagedSlot s p id with
    | none => (s, .inl 0x0305)
    | some _ => deviceSource s p id
  | 1 => match storeGolden s pl.image id with
    | none => (s, .inl 0x0305)
    | some g => (s, sourceFrom id g (sourceBad g))
  | _ => (s, sourceFrom id (slotGolden s pl (vaLow (fld w 80 33))) (sourceBad (slotGolden s pl (vaLow (fld w 80 33)))))

/-! ### Host commands (R198, R199) -/

/-- The bank keys that a command word selects on a placed tile: its arrays are the tile's placed ones, by LAN. -/
def selBanks (pl : Placement) (w : Nat) : List Nat :=
  match ptile pl (fld w 223 212) with
  | none => []
  | some t => (maskArrays (fld w 210 147)).map fun a => bankKey t.tile (t.arrays.getD a a) (fld w 211 211)

/-- R199: the first selected bank that an operation is refused on, with the reason. -/
def selRefusal (s : State) (p op : Nat) (ks : List Nat) : Option (Nat × Nat) :=
  ks.findSome? fun k =>
    (bankRefusal op (part s p).place.dual (bankOf s k) (bankOf s (sibling k))).map fun r => (r, k)

/-- R80, R82: a host command accepted on a bank is noted, and the scheduler's plan for it and its sibling is dropped. -/
def noteHost (s : State) (k : Nat) : State :=
  updBank (updBank s k fun b => { b with hostAt := some (ageNs s), plan := 0 }) (sibling k) fun b => { b with plan := 0 }

/-- A maintenance command whose banks have been judged: `f` starts it and it waits for every bank, or completes at once. -/
def bankCommand (q op : Nat) (waits : Bool) (f : State → Nat → List Nat → Sum Nat State) (s : State) :
    Host.Outcome State Fault Refusal :=
  withCommand s q op fun _ w =>
    let p := qPart q
    let ks := selBanks (part s p).place w
    match selRefusal s p op ks with
    | some (r, a) => refuseCmd s q r [bankWord (lanOf (part s p).place a) 0]
    | none =>
      match f s w ks with
      | .inl r => refuseCmd s q r
      | .inr t =>
        let t := ks.foldl noteHost t
        if waits then beginCmd t q ks else completeCmd t q []

/-- PROGRAM (R199): reads and checks its whole source, then every selected bank is PROGRAMMING. -/
def execProgram (q : Nat) (s : State) : Host.Outcome State Fault Refusal :=
  bankCommand q 0x40 true (fun s w ks =>
    match programSource s (qPart q) w with
    | (_, .inl r) => .inl r
    | (s, .inr x) => .inr (vpgmRequest (ks.foldl (fun s k => startProgram s k x .host) s) false ks)) s

/-- CALIBRATE (R52, R199). -/
def execCalibrate (q : Nat) (s : State) : Host.Outcome State Fault Refusal :=
  bankCommand q 0x41 true (fun s _ ks => .inr (ks.foldl (fun s k => startCal s k .host) s)) s

/-- SWAP (R52, R53, R199): completes at the swap point. -/
def execSwap (q : Nat) (s : State) : Host.Outcome State Fault Refusal :=
  match bankCommand q 0x42 true (fun s _ ks =>
    if (part s (qPart q)).st = .faulted then .inl 0x0202 else .inr (ks.foldl (armSwap · (qPart q)) s)) s with
  | .next t => .next (if swapNow t (qPart q) then applySwap t (qPart q) else t)
  | o => o

/-- DISARM (R52, R199). -/
def execDisarm (q : Nat) (s : State) : Host.Outcome State Fault Refusal :=
  bankCommand q 0x43 false (fun s _ ks => .inr (ks.foldl (disarm · (qPart q)) s)) s

/-- R199: the sources of a REFRESH, one for each bank's own block. -/
def refreshAll (p : Nat) (op : BankOp) : State → List Nat → List (Nat × BankImage) → Sum Nat State
  | s, [], l => .inr (l.foldl (fun s e => startRepair s e.1 e.2 op) s)
  | s, k :: t, l =>
    match (bankOf s k).block with
    | none => .inl 0x0305
    | some id =>
      match deviceSource s p id with
      | (_, .inl r) => .inl r
      | (s, .inr x) => refreshAll p op s t (l ++ [(k, x)])

/-- REFRESH (R52, R199): dual-bank mode only. -/
def execRefresh (q : Nat) (s : State) : Host.Outcome State Fault Refusal :=
  bankCommand q 0x44 true (fun s _ ks =>
    match refreshAll (qPart q) .host s ks [] with
    | .inl r => .inl r
    | .inr t => .inr (vpgmRequest t false ks)) s

/-- RETIRE (R52, R199). -/
def execRetire (q : Nat) (s : State) : Host.Outcome State Fault Refusal :=
  bankCommand q 0x45 false (fun s _ ks => .inr (ks.foldl retireBank s)) s

/-! ### QUERY (R66–R69, R84, R199) -/

/-- R84: the wear record of a bank. -/
def wearRecord (b : Bank) : Nat :=
  put 1 8 248 + put b.st.code 4 244 + put b.format 3 241 + put b.progCycles 32 208 + put b.refreshes 32 176 + put b.cals 32 144
    + put b.progTime 32 112 + put (((curTable b).map (·.resid)).getD 0) 16 96 + put b.drift 16 80 + put (Nat.min b.slowCells 65535) 16 64
    + put b.maxPulses 8 56 + ((List.range 8).map fun i => put (b2n ((FMap.find (validTables b) i).isSome)) 1 (48 + i)).foldl (· + ·) 0
    + put (b2n b.boundHeld) 1 47 + put (b2n b.refreshDue) 1 46 + put (b2n b.calDue) 1 45 + put (b2n (decide (20000 < b.progCycles))) 1 44
    + put b.probesSkipped 32 0

/-- R68: a column entry that carries no correction, as it stands after reset. -/
def noCorrection : BitVec 64 := BitVec.ofNat 64 (put 0x8000 16 48 + put 0x8000 16 32)

/-- R68: a record that holds no table. -/
def noTable : CalTable :=
  { band := 0, format := 0, tref := 0, resid := 0, calTime := 0, progCycle := 0, block := 0, cols := List.replicate 1040 noCorrection, trim := []
    sig := [] }

/-- R66–R68: the 12,608 bytes of a table record; one that is not valid has its CRC field inverted. -/
def tableRecord (k : Nat) (c : CalTable) (valid : Bool) : List Byte :=
  let head := put 1 8 504 + put c.band 4 500 + put (k % 2) 1 499 + put c.format 3 496 + put c.tref 16 480 + put c.resid 16 464
    + put c.calTime 32 432 + put c.progCycle 32 400 + put c.block 64 336 + put (bankTile k) 16 320 + put (bankArray k) 6 314
  let body := (List.range 1040).flatMap (fun j => leBytes 8 (c.cols.getD j 0).toNat)
    ++ (List.range 32).flatMap (fun j => leBytes 2 (c.trim.getD j 0).toNat)
    ++ (List.range 1040).flatMap fun j => leBytes 4 (c.sig.getD j 0).toNat
  let crc := crc32 (leBytes 64 head ++ body)
  leBytes 64 (head + (if valid then crc else 0xFFFFFFFF - crc)) ++ body

/-- R199: the states in which a bank holds a verified programming. -/
def holdsSums (b : Bank) : Bool :=
  match b.st with
  | .programmed => true | .calibrating => true | .standby => true | .swapArmed => true | .inService => true | .repairing => true
  | _ => false

/-- QUERY with WHAT 0b00 (R84, R199): a wear record for each selected array. -/
def execQueryWear (q : Nat) (s : State) : Host.Outcome State Fault Refusal :=
  withCommand s q 0x46 fun _ w =>
    if fld w 146 145 ≠ 0 then s
    else completeCmd s q ((selBanks (part s (qPart q)).place w).map fun k => BitVec.ofNat 256 (wearRecord (bankOf s k)))

/-- Writes a query's blocks of bytes at a stride. -/
def writeAt (s : State) (p va stride : Nat) (l : List (List Byte)) : State :=
  (l.zip (List.range l.length)).foldl (fun s e =>
    addObj (pvaWrite s p (va + stride * e.2) e.1) (pidx 0x58 p) 4 e.1.length) s

/-- QUERY with WHAT 0b01 (R66, R199): the table record of a band for each selected array, at a 16 KiB stride. -/
def execQueryTable (q : Nat) (s : State) : Host.Outcome State Fault Refusal :=
  withCommand s q 0x46 fun _ w =>
    if fld w 146 145 ≠ 1 then s
    else
      let p := qPart q
      let recs := (selBanks (part s p).place w).map fun k =>
        let b := bankOf s k
        match FMap.find b.tables (fld w 144 141) with
        | some c => tableRecord k c (tableValid b c)
        | none => tableRecord k noTable false
      completeCmd (writeAt s p (fld w 140 93) 16384 recs) q []

/-- QUERY with WHAT 0b10 (R36, R199): the column sums of each selected array, at a 4 KiB stride. -/
def execQueryColsums (q : Nat) (s : State) : Host.Outcome State Fault Refusal :=
  withCommand s q 0x46 fun _ w =>
    if fld w 146 145 ≠ 2 then s
    else
      let p := qPart q
      let recs := (selBanks (part s p).place w).map fun k =>
        let b := bankOf s k
        (List.range 1040).flatMap fun j => leBytes 2 (if holdsSums b then ofSigned 16 (b.sums.getD j 0) else 0x8000)
      completeCmd (writeAt s p (fld w 140 93) 4096 recs) q []

/-! ### Events of bank operations (R49–R52, R62, R85, R86, R443) -/

/-- R443: arrays that draw on VPGM: their program-start entries are open. -/
def drawing (s : State) (c : Option Nat) : Nat :=
  (s.banks.filter fun e => e.2.openEntry && (c.isNone || c == some (clusterOf (bankTile e.1)))).length

/-- R443: the allocation covers every array of a request: 4,000 arrays in the module and 80 in a cluster. -/
def vpgmCovers (s : State) (ks : List Nat) : Bool :=
  decide (drawing s none + ks.length ≤ 4000) &&
    ks.all fun k => let c := clusterOf (bankTile k)
      !s.vpgmLost.contains c && decide (drawing s (some c) + (ks.filter fun x => clusterOf (bankTile x) == c).length ≤ 80)

/-- R55, R500: repairs cut by a power loss start again in the power-on order, once its step 7 has judged the banks. -/
def restarting (s : State) : Bool := s.power == .starting && decide (8 ≤ s.life.step)

/-- R443: the request that is served next: the placer's first, then the rest, each in order; one waits whose cluster's
VPGM is off, or whose region or block is out of service (R52). -/
def vpgmNext (s : State) : Option (Bool × List Nat) :=
  let off := fun t => s.heatOff.contains (hotSpot t) || decide (2 ≤ FMap.get 0 s.blockSt (clusterOf t)) || !(computes s || restarting s)
  let able := s.vpgmWait.filter fun e => e.2.all fun k => !s.vpgmLost.contains (clusterOf (bankTile k)) && !off (bankTile k)
  match able.find? (·.1) with
  | some e => some e
  | none => able.head?

/-- R85: the program-start entry of a bank, before its first pulse. -/
def openProgram (s : State) (k : Nat) : State :=
  if (bankOf s k).st = .programming ∨ (bankOf s k).st = .repairing then
    kennelAdd (updBank s k fun b => { b with openEntry := true, openRefresh := b.st == .repairing || b.op == .scheduler })
      { typ := 3, ukind := 1, unit := bankTile k, sub := bankSub (bankArray k) (k % 2) }
  else s

/-- VPGM_GRANT (R443): the request that is next in order is covered, and its first pulses are given. -/
def execVpgmGrant (s : State) : Host.Outcome State Fault Refusal :=
  match vpgmNext s with
  | none => .next s
  | some e =>
    if vpgmCovers s e.2 then .next (e.2.foldl openProgram { s with vpgmWait := s.vpgmWait.erase e }) else .next s

/-- R84, R86, R546: a program cycle of a bank is counted, and passing rated wear raises a cause once. -/
def countCycle (s : State) (k : Nat) (refresh : Bool) : State :=
  let s := updBank s k fun b => { b with
    progCycles := b.progCycles + 1, refreshes := b.refreshes + b2n refresh, progTime := tilePowered s (bankTile k) }
  if (bankOf s k).progCycles > 20000 ∧ (bankOf s k).wearRaised = false then
    raise (updBank s k fun b => { b with wearRaised := true }) { sev := 2, cls := 7, unitKind := 1, unit := bankTile k }
  else s

/-- R84, R85: a program operation ends, whatever its outcome: its cycle is counted and its entry is closed. -/
def closeProgram (s : State) (k : Nat) : State :=
  let b := bankOf s k
  if b.openEntry then
    kennelAdd (countCycle (updBank s k fun b => { b with openEntry := false }) k b.openRefresh)
      { typ := 4, ukind := 1, unit := bankTile k, sub := bankSub (bankArray k) (k % 2) }
  else s

/-- R85, R500: at power-on open program-start entries are closed, and their cycles counted. -/
def closeEntries (s : State) : State := ((s.banks.filter fun e => e.2.openEntry).map (·.1)).foldl closeProgram s

/-- A tile, array or bank number that the built module does not have. -/
def badBank (t a b : Nat) : Bool := !tileOk t || decide (64 ≤ a) || decide (2 ≤ b)

/-- R78, R257: arrays of a cluster that program, and whether the limit leaves room for another. -/
def programming (s : State) (c : Nat) : Nat :=
  (s.banks.filter fun e => clusterOf (bankTile e.1) == c && (e.2.st == .programming || e.2.st == .repairing)).length
def mayProg (s : State) (k : Nat) : Bool := decide (programming s (clusterOf (bankTile k)) < objD 64 s 0x2300 10)

/-! ### The placer's programming (R257, R258, R270) -/

/-- R47, R251: the golden block of a placed array's bank in an image; in shadow mode both banks hold the one logical bank's. -/
def placedBlock (m : Memory) (dual : Bool) (w : PlaceTile) (k : Nat) : Nat :=
  match w.arrays.findIdx? (· == bankArray k) with
  | none => 0
  | some lan => (((imgBlocks m).find? fun b => b.pti == w.pti && b.lan == lan && b.lbank == (if dual then k % 2 else 0)).map (·.id)).getD 0

/-- R257, R270 step 6: the banks that a placed tile programs, A before B; in shadow mode bank B becomes the standby copy. -/
def placedBanks (w : PlaceTile) : List Nat := w.arrays.map (bankKey w.tile · 0) ++ w.arrays.map (bankKey w.tile · 1)

/-- R270 steps 6 and 7: begins the programming of a bank that waits for it: the other bank of its array does not program, and the
cluster's limit leaves room. A source that fails is noted in the job. DESIGN CHOICE (log 110): a bank at its program limit (R86) keeps its
state, and its array leaves eligibility as one that has failed. -/
def startPlaced (w : PlaceTile) (s : State) (k : Nat) : State :=
  match s.jobs with
  | [] => s
  | j :: r =>
    let x := bankOf s (sibling k)
    if j.fail ≠ 0 ∨ x.st = .programming ∨ (k % 2 = 1 ∧ x.st = .invalid) ∨ !mayProg s k then s
    else if 100000 ≤ (bankOf s k).progCycles then { s with jobs := { j with dead := (bankTile k * 64 + bankArray k) :: j.dead } :: r }
    else
      let m := ((FMap.find s.images j.image).map (·.bytes)).getD []
      match deviceSource s j.part (placedBlock m j.plan.dual w k) with
      | (s, .inl e) => { s with jobs := { j with fail := e } :: r }
      | (s, .inr im) =>
        let s := vpgmRequest (startProgram s k im .placer) true [k]
        { s with jobs := { j with work := j.work.map fun y => if y.pti = w.pti then { y with todo := y.todo.filter (· != k) } else y } :: r }

/-- R258: a bank whose first fit failed, or whose calibration was interrupted, is calibrated again. -/
def recalPlaced (s : State) (k : Nat) : State :=
  if (bankOf s k).st = .programmed ∧ (bankOf s k).fitFails < 2 ∧ (bankOf s k).op = .none then startCal s k .placer else s

/-- The placer's bank work goes on. -/
def placerPump (s : State) : State :=
  match s.jobs with
  | [] => s
  | j :: _ =>
    if !j.begun then s
    else j.work.foldl (fun s w =>
      let s := ((placedBanks w).filter fun k => !w.todo.contains k).foldl recalPlaced s
      w.todo.foldl (startPlaced w) s) s

/-- The placer and the scheduler follow a verified programming with a calibration (R80, R258). -/
def afterVerify (s : State) (k : Nat) (op : BankOp) : State :=
  match op with
  | .placer => startCal s k .placer
  | _ => s

/-- The table that a fit gives a bank. -/
def fitTable (s : State) (k : Nat) (f : FitTable) : CalTable :=
  let b := bankOf s k
  { band := b.calBand, format := b.format, tref := ofSigned 16 b.calT, resid := f.resid, calTime := tilePowered s (bankTile k)
    progCycle := b.progCycles, block := b.block.getD 0, cols := f.cols, trim := f.trim, sig := f.sig }

/-- R68: the maintenance engine never writes an entry without correction into a valid record: DESIGN CHOICE (log 107): a fit that holds one
has failed. -/
def fitOk : Option FitTable → Option FitTable
  | none => none
  | some f => if f.cols.contains noCorrection then none else some f

/-- R79, R84: what a completed fit does to a bank's record. -/
def fitNoted (s : State) (k : Nat) : State :=
  let now := ageNs s
  let s := updBank s k fun b => { b with
    cals := b.cals + 1, drift := 0, driftTime := tilePowered s (bankTile k), probesSkipped := 0, calDue := false, fitFails := 0
    tSum := 0, tCount := 0, dataRecal := if b.dataPending then some now else b.dataRecal, dataPending := false }
  updBank s (sibling k) fun b => if b.dataPending then { b with dataPending := false, dataRecal := some now } else b

/-- R70: the record of a fit is committed: it replaces the bank's record of that band. -/
def commitTable (s : State) (k : Nat) (c : CalTable) : State := updBank s k fun b => { b with tables := FMap.set b.tables c.band c }

/-- R79, R80: a fit of a bank in service, or of its standby copy, that ends above the refresh threshold makes refresh due on the bank in
service. -/
def residCheck (s : State) (k resid : Nat) : State :=
  if objD 35 s 0x2300 6 * 10 < resid then
    let s := updBank s k fun b => { b with plan := 0 }
    let j := if (bankOf s k).st = .inService then k else sibling k
    updBank s j fun b => if b.st = .inService ∧ b.block = (bankOf s k).block then { b with refreshDue := true } else b
  else s

/-- CAL_FIT_DONE (R52, R70): the fit of a calibrating bank completes with a table, or fails. The table of a fit in service comes into use at
the next boundary at which a step commits. -/
def execCalFitDone (t a b : Nat) (fit : Option FitTable) (s : State) : Host.Outcome State Fault Refusal :=
  if badBank t a b then .fault .noSuchUnit
  else
    let k := bankKey t a b
    let x := bankOf s k
    if x.st ≠ .calibrating ∧ x.calInPlace = false then .next s
    else
      match fitOk fit with
      | none =>
        let s := kennelEvent s 8 1 t (bankSub a b) 0x0702
        let s := updBank s k fun y => { y with fitFails := y.fitFails + 1 }
        .next (placerPump (calAbort s k 0x0702))
      | some f =>
        let s := fitNoted (commitTable s k (fitTable s k f)) k
        let s := if x.calInPlace then updBank s k fun y => { y with calInPlace := false, newTable := true }
          else loadTable (updBank s k fun y => { y with st := .standby, plan := if x.op == .scheduler then 3 else 0 }) k
        .next (residCheck (bankDone s k 0 0) k f.resid)

/-- CAL_TIMEOUT (R50): a calibration not complete after 1 s is abandoned. -/
def execCalTimeout (t a b : Nat) (s : State) : Host.Outcome State Fault Refusal :=
  if badBank t a b then .fault .noSuchUnit else .next (placerPump (calAbort s (bankKey t a b) 0x0310))

/-- R54, R143: evaluations that a repair held can go on: the stall is judged again. -/
def repairEnded (s : State) (k : Nat) : State :=
  match ownerOf s (bankTile k) with
  | none => s
  | some (p, _) => reviewStall s p

/-- R52: a repair ends INVALID with a reason. -/
def repairLost (s : State) (k reason cells : Nat) : State :=
  repairEnded (bankDone (updBank s k fun y => { y with st := .invalid, fitting := false }) k reason cells) k

/-- R49, R84: the program-and-verify of a bank ends: what it found is kept, and a failure is an event of Kennel. -/
def verifyNoted (s : State) (k cells slow pulses : Nat) : State :=
  let s := updBank (closeProgram s k) k fun y => { y with slowCells := Nat.min slow 65535, maxPulses := Nat.min pulses 8 }
  if cells = 0 then s else kennelEvent s 7 1 (bankTile k) (bankSub (bankArray k) (k % 2)) 0x0701

/-- R52: the verify of a repair ends: its fit begins, or it ends INVALID. -/
def repairVerified (s : State) (k cells slow pulses : Nat) : State :=
  let s := verifyNoted s k cells slow pulses
  if cells = 0 then startFit s k else repairLost s k 0x0701 (Nat.min cells 2097151)

/-- BANK_VERIFY_DONE (R49, R52, R84): program-and-verify of a bank ends with `cells` cells left outside their windows, `slow` cells
that needed more than 4 pulses and at most `pulses` pulses to any: it is PROGRAMMED, or INVALID; a repair goes on with its fit, in the
band of that moment (R67). -/
def execBankVerifyDone (t a b cells slow pulses : Nat) (s : State) : Host.Outcome State Fault Refusal :=
  if badBank t a b then .fault .noSuchUnit
  else
    let k := bankKey t a b
    let x := bankOf s k
    if (x.st ≠ .programming ∧ x.st ≠ .repairing) ∨ x.openEntry = false then .next s
    else if x.st = .repairing then .next (repairVerified s k cells slow pulses)
    else
        let s := verifyNoted s k cells slow pulses
        let s := updBank s k fun y => { y with refreshDue := false, calDue := false }
        if cells = 0 then .next (placerPump (afterVerify (bankDone (updBank s k fun y => { y with st := .programmed }) k 0 0) k x.op))
        else .next (bankDone (updBank s k fun y => { y with st := .invalid, plan := 0 }) k 0x0701 (Nat.min cells 2097151))

/-- R52: the fit of a repair ends: with a table the bank is IN_SERVICE again and uses it at once; a first failed fit is started again, and a
second in a row ends the repair INVALID. -/
def repairFitted (s : State) (k : Nat) (fit : Option FitTable) : State :=
  match fitOk fit with
  | none =>
    let n := (bankOf s k).fitFails
    let s := kennelEvent s 8 1 (bankTile k) (bankSub (bankArray k) (k % 2)) 0x0702
    if n = 0 then startFit (updBank s k fun y => { y with fitFails := 1 }) k else repairLost s k 0x0702 0
  | some f =>
    let s := fitNoted (commitTable s k (fitTable s k f)) k
    let s := updBank s k fun y => { y with st := .inService, fitting := false, refreshDue := false, overdue := false, noCopy := false }
    repairEnded (residCheck (bankDone (loadTable s k) k 0 0) k f.resid) k

/-- REPAIR_DONE (R52): a repair ends with its fit. One whose verify no BANK_VERIFY_DONE has reported ends its verify first, with what the
command brings of it. -/
def execRepairDone (t a b cells slow pulses : Nat) (fit : Option FitTable) (s : State) : Host.Outcome State Fault Refusal :=
  if badBank t a b then .fault .noSuchUnit
  else
    let k := bankKey t a b
    if (bankOf s k).st ≠ .repairing then .next s
    else if (bankOf s k).fitting then .next (repairFitted s k fit)
    else if (bankOf s k).openEntry = false then .next s
    else
      let v := repairVerified s k cells slow pulses
      .next (if cells = 0 then repairFitted v k fit else v)

/-- R52, R62: an event interrupts what runs on a bank, with its reason code; `lost` says that a repair ends INVALID (the loss of VPGM). -/
def interruptBank (reason : Nat) (lost : Bool) (s : State) (k : Nat) : State :=
  let b := bankOf s k
  match b.st with
  | .programming => bankDone (updBank (closeProgram s k) k fun y => { y with st := .invalid, plan := 0 }) k reason 0
  | .repairing =>
    if lost then repairLost (closeProgram s k) k reason 0
    else vpgmRequest (updBank (closeProgram s k) k fun y => { y with fitting := false, fitFails := 0 }) false [k]
  | _ => if lost then s else calAbort s k reason

/-- R52: an event interrupts something on a bank. -/
def interrupted (lost : Bool) (b : Bank) : Bool :=
  b.st == .programming || b.st == .repairing || (!lost && (b.st == .calibrating || b.calInPlace))

/-- The partition whose host command waits for a bank. -/
def commandOf (s : State) (k : Nat) : Option Nat :=
  (List.range 16).find? fun p => (queue s (8 * p + 4)).running.any fun r => r.begun && r.aux.contains k

/-- R62, R546: the banks that stand for the interrupted commands: the lowest of each host command, and each that no host command waits for
(DESIGN CHOICE, log 109: the scheduler's and the placer's commands are taken one bank at a time). -/
def commandHeads (s : State) : List Nat → List Nat → List Nat
  | [], _ => []
  | k :: r, seen =>
    match commandOf s k with
    | none => k :: commandHeads s r seen
    | some p => if seen.contains p then commandHeads s r seen else k :: commandHeads s r (p :: seen)

/-- R52, R62: interrupts every bank that satisfies a test, with one cause for each command; requests for VPGM of banks that no longer wait
go. -/
def interruptBanks (s : State) (sel : Nat → Bool) (reason : Nat) (lost : Bool := false) : State :=
  let ks := (s.banks.map (·.1)).filter fun k => sel k && interrupted lost (bankOf s k)
  let heads := commandHeads s ks []
  let s := ks.foldl (interruptBank reason lost) s
  let s := heads.foldl (fun s k => raise s { sev := 3, cls := 6, reason := reason, unitKind := 1, unit := bankTile k }) s
  { s with vpgmWait := s.vpgmWait.filterMap fun e =>
      let ks := e.2.filter fun k => (bankOf s k).st == .programming || (bankOf s k).st == .repairing
      if ks.isEmpty then none else some (e.1, ks) }

/-! ### The drift monitor (R77) -/

/-- R77: the probe vector. -/
def probeVector : List Int := (List.range 1024).map fun i => (((7 * i + 3) % 16 : Nat) : Int) - 8

/-- R77: D in 0.001 % of FS, rounded down, from the results and the signature. -/
def driftOf (res : List Int) (c : CalTable) : Nat :=
  let sq := ((List.range 1024).map fun j => (res.getD j 0 - toSigned 32 (c.sig.getD j 0).toNat) ^ 2).foldl (· + ·) 0
  isqrt (sq.natAbs * 10 ^ 10 / 1024) / 65536

/-- DRIFT_PROBE (R77): a probe evaluation of a bank in service, from its phase codes; no codes where it found no free slot. -/
def execDriftProbe (t a b : Nat) (codes : List (List (BitVec 12))) (s : State) : Host.Outcome State Fault Refusal :=
  if badBank t a b then .fault .noSuchUnit
  else
    let k := bankKey t a b
    let x := bankOf s k
    match x.st, curTable x with
    | .inService, some c =>
      if codes.isEmpty then .next (updBank s k fun y => { y with probesSkipped := y.probesSkipped + 1 })
      else
        let res := passResults (some c) (latchOf s t).1 probeVector codes
        .next (updBank s k fun y => { y with
          drift := Nat.min (driftOf res c) 65535, driftTime := tilePowered s t
          refDev := refDevs res probeVector })
    | _, _ => .next s

/-! ### The maintenance scheduler (R78–R82) -/

/-- R79: 2^((70 − T_avg) ÷ 10) as a fixed-point value, T_avg in sixteenths as a sum and a count. -/
def ageFactor (sum : Int) (n : Nat) : Int :=
  fxExp (fxMul ((1120 * (n : Int) - sum) * fxOne / (160 * (n : Int))) fxLn2)

/-- R79: an interval of `base` seconds scaled by the factor, rounded down. -/
def scaledSec (base : Nat) (f : Int) : Nat := ((base : Int) * f / fxOne).toNat

/-- The latched T of a bank since its table was fitted, as a sum and a count of at least one. -/
def meanT (s : State) (k : Nat) : Int × Nat :=
  let b := bankOf s k
  if b.tCount = 0 then ((latchOf s (bankTile k)).1, 1) else (b.tSum, b.tCount)

/-- R79: calibration is due. -/
def calDueNow (s : State) (k : Nat) : Bool :=
  let b := bankOf s k
  let t := bankTile k
  let m := meanT s k
  let now := tilePowered s t
  match curTable b with
  | none => true
  | some c =>
    let iv := Nat.max (objD 7200 s 0x2300 3) (Nat.min (objD 345600 s 0x2300 4) (scaledSec (objD 86400 s 0x2300 2) (ageFactor m.1 m.2)))
    let thr := objD 25 s 0x2300 5 * 10
    let age := now - c.calTime
    -- the projection through the latest D reaches the threshold at calTime + (driftTime − calTime) × thr ÷ D
    let proj := if b.drift = 0 then iv else (b.driftTime - c.calTime) * thr / b.drift
    decide (Nat.min iv proj ≤ age) || decide (thr ≤ b.drift) || (FMap.find (validTables b) (latchOf s t).2).isNone

/-- R79: a bank's program age has reached the refresh age. -/
def agedOut (s : State) (k : Nat) : Bool :=
  let m := meanT s k
  decide (scaledSec (objD 7776000 s 0x2300 7) (ageFactor m.1 m.2) ≤ tilePowered s (bankTile k) - (bankOf s k).progTime)

/-- R78: arrays of a tile that calibrate. -/
def calibrating (s : State) (t : Nat) : Nat := (s.banks.filter fun e => bankTile e.1 == t && (e.2.st == .calibrating || e.2.calInPlace)).length
def mayCal (s : State) (k : Nat) : Bool := decide (calibrating s (bankTile k) < objD 4 s 0x2300 9)

/-- R270 step 6, R274: the placer's programming in a bank's cluster has not ended. -/
def placerPrograms (s : State) (k : Nat) : Bool :=
  match s.jobs with
  | [] => false
  | j :: _ => j.begun && j.work.any fun w => clusterOf w.tile == clusterOf (bankTile k) &&
      (!w.todo.isEmpty || (placedBanks w).any fun x => (bankOf s x).st == .programming)

/-- R80, R81, R546: a bank in service is reported as overdue, once. -/
def reportOverdue (s : State) (p k : Nat) : State :=
  if (bankOf s k).overdue then s
  else raise (updBank s k fun y => { y with overdue := true })
    { sev := 2, cls := 7, part := some p, unitKind := 1, unit := bankTile k, detail := bankArray k * 2 + k % 2 }

/-- R80: the scheduler's next step for a bank in shadow mode. DEDUCED (log 111): a sibling with other weights is left to the host while it is
SWAP_ARMED or the host has commanded it within 60 s; the bank in service is then reported as overdue. -/
def planShadow (s : State) (p k : Nat) : State :=
  let b := bankOf s k
  let j := sibling k
  let x := bankOf s j
  let copy := x.block == b.block && (x.st == .standby || x.st == .programmed) && !x.noCopy
  let faulted := (part s p).st == .faulted
  if !b.calDue && !b.refreshDue then s
  else if x.plan = 3 ∧ x.st = .standby ∧ copy then
    if faulted then s else
      let s := armSwap s p j
      if swapNow s p then applySwap s p else s
  else if (copy && !b.refreshDue && !agedOut s j) || (x.plan == 2 && x.st == .programmed) then
    if (bankRefusal 0x41 false x b).isNone && mayCal s j then updBank (startCal s j .scheduler) j fun y => { y with plan := 1 } else s
  else if faulted && !copy then s
  else
    let recent := match x.hostAt with
      | none => false
      | some h => decide (ageNs s < h + 60000000000)
    if x.block != b.block && (recent || x.st == .swapArmed) then reportOverdue s p k
    else if (bankRefusal 0x40 false x b).isSome || !mayProg s j || placerPrograms s j then s
    else
      match b.block with
      | none => s
      | some id =>
        match deviceSource s p id with
        | (s, .inl _) => s
        | (s, .inr im) => vpgmRequest (updBank (startProgram s j im .scheduler) j fun y => { y with plan := 2 }) false [j]

/-- R81: the scheduler's next step for a bank in dual-bank mode. -/
def planDual (s : State) (p k : Nat) : State :=
  let b := bankOf s k
  let mode := objD 1 s 0x2300 8
  let st := (part s p).st
  if st = .faulted then s
  else if b.refreshDue ∧ (mode = 2 ∨ (mode = 1 ∧ (st = .idle ∨ st = .loaded))) ∧ (bankRefusal 0x44 true b (bankOf s (sibling k))).isNone ∧ mayProg s k ∧
      placerPrograms s k = false then
    match refreshAll p .scheduler s [k] [] with
    | .inl _ => s
    | .inr t => vpgmRequest t false [k]
  else
    let stale := decide (250 < b.drift) || decide (350 < ((curTable b).map (·.resid)).getD 0) || decide (b.driftTime + 3600 ≤ tilePowered s (bankTile k))
    let s := if b.refreshDue && mode == 0 && stale then reportOverdue s p k else s
    if b.calDue && !b.calInPlace && mayCal s k then startCal s k .scheduler else s

/-- R88: after a retention wake the standby copies are refreshed too: programmed from their own golden blocks, then calibrated, once the bank in
service is done. -/
def planStandby (s : State) (p k : Nat) : State :=
  let b := bankOf s k
  let j := bankOf s (sibling k)
  if j.st != .inService || j.calDue || j.refreshDue then s
  else if b.st == .programmed && b.plan == 2 then
    if mayCal s k then updBank (startCal s k .scheduler) k fun y => { y with plan := 1 } else s
  else if b.st == .standby && b.refreshDue && (bankRefusal 0x40 false b j).isNone && mayProg s k && !placerPrograms s k then
    match b.block with
    | none => s
    | some id =>
      match deviceSource s p id with
      | (s, .inl _) => s
      | (s, .inr im) => vpgmRequest (updBank (startProgram s k im .scheduler) k fun y => { y with plan := 2 }) false [k]
  else s

/-- R78: the scheduler may issue commands for a partition's banks. -/
def mayMaintain (s : State) (p : Nat) : Bool := objD 1 s 0x2300 1 != 0 && objD 1 s (pidx 0x51 p) 7 != 0

/-- R79–R82: the scheduler's evaluation of one bank. -/
def evalBank (s : State) (k : Nat) : State :=
  match ownerOf s (bankTile k) with
  | none => s
  | some (p, _) =>
    if s.life.refresh && mayMaintain s p && !(part s p).place.dual && (part s p).st != .loading
        && ((bankOf s k).st == .standby || (bankOf s k).st == .programmed) then planStandby s p k
    else if (bankOf s k).st ≠ .inService ∨ (part s p).st = .loading then s
    else
      let s := updBank s k fun b => { b with calDue := b.calDue || calDueNow s k, refreshDue := b.refreshDue || agedOut s k }
      let s := updBank s k fun b => { b with overdue := b.overdue && (b.calDue || b.refreshDue) }
      if !mayMaintain s p then s
      else if (part s p).place.dual then planDual s p k else planShadow s p k

/-- SCHEDULER_EVAL (R78, R79): once a second the scheduler judges every bank in service and issues its commands. -/
def execSchedulerEval (s : State) : Host.Outcome State Fault Refusal :=
  .next ((s.banks.map (·.1)).foldl evalBank s)

/-! ### Arbitration (R475–R478) -/

/-- CAPTURE_DRAIN (R475): a tile's capture latch drains into the store. -/
def execCaptureDrain (t : Nat) (s : State) : Host.Outcome State Fault Refusal :=
  if !tileOk t then .fault .noSuchUnit
  else
    match FMap.find s.capLatch t with
    | none => .next s
    | some c =>
      if 64 ≤ s.captures.length then .next s
      else .next { s with capLatch := FMap.del s.capLatch t, captures := s.captures ++ [c] }

/-- ARBITRATION_START (R476): the oldest stored capture that waits is arbitrated, while fewer than 4 are. -/
def execArbitrationStart (s : State) : Host.Outcome State Fault Refusal :=
  if 4 ≤ (s.captures.filter (·.running)).length then .next s
  else
    match s.captures.find? fun c => !c.running with
    | none => .next s
    | some c => .next { s with captures := s.captures.map fun x => if x.id = c.id then { x with running := true } else x }

/-- R73–R75: fresh and end-of-life maximum error at a temperature, in units of 10^−5 ÷ 35 of full scale, for a format (1 W3, 2 W2). -/
def maxError (format : Nat) (t : Int) : Nat × Nat :=
  let f := match format with
    | 1 => 2000
    | 2 => 1600
    | _ => 2500
  let e := match format with
    | 1 => 3000
    | 2 => 2400
    | _ => 3500
  if t ≤ 1360 then (35 * f, 35 * e)
  else if t ≤ 1440 then (35 * f * 32 / 25, 35 * e * 9 / 7)
  else (35 * f * 8 / 5, 35 * e * 11 / 7)

/-- R476: column `j` deviates by more than M × F. -/
def overLimit (c : Capture) (j : Nat) (dev : Int) : Bool :=
  if c.temp < 320 ∨ 1520 ≤ c.temp ∨ 7 * 31557600 < c.ageSec ∨ 20000 < c.ageCyc then false
  else
    let fmt := if 1024 ≤ j then 0 else c.format
    let m := maxError fmt c.temp
    let den := 7 * 31557600 * 20000
    let num := Nat.max (c.ageSec * 20000) (c.ageCyc * (7 * 31557600))
    let full := (if fmt = 2 then 57344 else 65536) * (if c.wide then 16 else 1)
    let lim := (m.1 * den + (m.2 - m.1) * num) * full * (if c.wide then 17 else 16)
    decide (lim < dev.natAbs * 3500000 * den * 16)

/-- R476: the exact recomputation: the 1,040 results from the golden block. -/
def exactResults (c : Capture) (g : Golden) : List Int :=
  (List.range 1040).map fun j => ((c.codes.zip (List.range 1024)).map fun e => e.1 * cellCode g.data e.2 j).foldl (· + ·) 0

/-- R476: a verdict: code, golden source, columns named, worst column and its deviation, Es, dE, dK. -/
structure Verdict where
  code : Nat := 4
  source : Nat := 0
  ncol : Nat := 0
  worst : Nat := 0
  worstDev : Int := 0
  es : Int := 0
  de : Nat := 0
  dk : Nat := 0

def judgeCapture (c : Capture) (source : Nat) (g : Golden) : Verdict :=
  let rs := exactResults c g
  let es := ((rs.drop (256 * c.group)).take 256).foldl (· + ·) 0
  let de := (c.eg - es).natAbs
  let dk := (c.kg - es).natAbs
  let devs := (List.range 1040).map fun j => c.results.getD j 0 - rs.getD j 0
  let worst := (List.range 1040).foldl (fun w j => if (devs.getD w 0).natAbs < (devs.getD j 0).natAbs then j else w) 0
  { code := if c.tol < 2 * de ∧ c.tol < 2 * dk then 3 else if de < dk then 2 else 1
    source := source, ncol := ((List.range 1040).filter fun j => overLimit c j (devs.getD j 0)).length
    worst := worst, worstDev := devs.getD worst 0, es := es, de := de, dk := dk }

/-- R477: the verdict record. -/
def verdictRecord (c : Capture) (v : Verdict) : Nat :=
  put 1 8 248 + put v.code 8 240 + put c.tile 16 224 + put c.array 6 218 + put c.bank 1 217 + put c.group 2 215
    + put v.source 1 214 + put v.ncol 11 203 + put v.worst 11 192 + put (ofSigned 32 v.es) 32 160 + put v.de 32 128
    + put v.dk 32 96 + put (ofSigned 32 v.worstDev) 32 64 + put c.id 32 32

/-- R476: reads the golden copies and judges; the state loses a staged copy that fails its BCRC. -/
def arbitrate (s : State) (c : Capture) : State × Verdict :=
  let pl := (part s c.part).place
  match c.block with
  | none => (s, {})
  | some id =>
    let store := fun (s : State) => match storeGolden s pl.image id with
      | none => (s, ({} : Verdict))
      | some g => if goldenCrcOk g then (s, judgeCapture c 1 g) else (s, { source := 1 })
    match stagedSlot s c.part id with
    | some a =>
      let g := slotGolden s pl a
      if goldenCrcOk g then (s, judgeCapture c 0 g) else store (unstage s c.part id)
    | none => store s

/-- R494: the bank of a capture has been programmed, or its programming has begun, since. -/
def reprogrammed (s : State) (c : Capture) : Bool :=
  let b := bankOf s (bankKey c.tile c.array c.bank)
  b.progCycles != c.ageCyc || b.openEntry || b.block != c.block

/-- R478, R494: what a verdict does to its bank; to one reprogrammed since, nothing. -/
def verdictBank (s : State) (c : Capture) (code : Nat) : State :=
  let day := 86400000000000
  if reprogrammed s c then s else updBank s (bankKey c.tile c.array c.bank) fun b =>
    match code with
    | 1 =>
      let again := match b.dataRecal with
        | none => false
        | some a => decide (ageNs s < a + day)
      { b with calDue := true, dataPending := true, refreshDue := b.refreshDue || again }
    | 2 => { b with refreshDue := true, noCopy := true }
    | 3 => { b with refreshDue := true, noCopy := true }
    | _ => b

/-- ARBITRATION_VERDICT (R476–R478): the arbitration of capture `id` ends: its verdict is recorded, raised as a cause and acted on. -/
def execArbitrationVerdict (id : Nat) (s : State) : Host.Outcome State Fault Refusal :=
  match s.captures.find? fun c => c.id == id && c.running with
  | none => .next s
  | some c =>
    let (s, v) := arbitrate s c
    let rec_ := verdictRecord c v
    let s := { s with
      captures := s.captures.filter fun x => x.id != id
      verdicts := (FMap.set s.verdicts id rec_).drop (s.verdicts.length + 1 - 256) }
    let sub := if v.code = 3 then arraySub c.array else bankSub c.array c.bank
    let s := kennelAdd s { typ := 8, ukind := 1, unit := c.tile, sub := sub, cls := 3, detail := rec_ / 2 ^ 128 }
    let s := if v.code < 4 then kennelEvent s (3 + v.code) 1 c.tile sub else s
    let s := raise s { sev := if v.code ≤ 2 then 2 else 3, cls := 7, part := some c.part, reason := if v.code = 4 then 0x070D else 0
                       unitKind := 1, unit := c.tile, detail := c.id * 2 ^ 32 + v.code }
    .next (verdictBank s c v.code)

/-! ### The scrubber (R149) -/

/-- R149: one 64-bit word as the scrubber finds it: 0 no error, 1 one bad bit, 2 or more bad bits. -/
def scrubWord (t : Nat) (s : State) (e : Nat × Nat) : State :=
  let key := t * 2 ^ 20 + e.1
  let cond := Nat.max e.2 (FMap.get 0 s.spErr key)
  if cond = 0 ∨ cond = 3 then s
  else if cond = 1 then kennelCorrected (addObj { s with spErr := FMap.del s.spErr key } 0x3101 1 1 t) 1 t
  else
    let s := addObj { s with spErr := FMap.set s.spErr key 3 } 0x3101 2 1 t
    let s := raiseRc s 3 0x0703 none 1 t
    kennelEvent s 1 1 t 0 0x0703

/-- SCRUB_LINE (R149): the scrubber reads a 256-bit line of a scratchpad in an idle cycle; `conds` gives what its four words hold. The
last line of the scratchpad ends a pass, whose duration is kept (R150). -/
def execScrubLine (t line : Nat) (conds : List Nat) (s : State) : Host.Outcome State Fault Refusal :=
  if !tileOk t || decide (196608 ≤ line) then .fault .noSuchUnit
  else
    let s := ((List.range 4).map fun i => (4 * line + i, conds.getD i 0)).foldl (scrubWord t) s
    let s := if line = 0 then { s with scrubAt := FMap.set s.scrubAt t (ageNs s) } else s
    if line = 196607 then
      .next (addObj (match FMap.find s.scrubAt t with
        | none => s
        | some a => setObj { s with scrubAt := FMap.del s.scrubAt t } 0x3101 3 ((ageNs s - a) / 1000000 % 2 ^ 32) t) 0x3101 4 1 t)
    else .next s

end Sys2Proof.Machine
end

