-- ==== Sys2Proof/Machine/Objects.lean ====
section
/-! DEFINITION. The object dictionary's parameters: which exist, and the descriptor of each (R384–R388, R391, R393, R396, R420, R424, R425,
R429, R529, R530 and the parameter tables of the other chapters). -/
namespace Sys2Proof.Machine

def ro (t : Nat) (d : Nat := 0) : ObjDesc := { typ := t, acc := .ro, dflt := d, max := typMax t }
def rw (t : Nat) (d : Nat := 0) (lo : Nat := 0) (hi : Nat := typMax t) : ObjDesc := { typ := t, acc := .rw, dflt := d, min := lo, max := hi }
def rwp (t : Nat) (d : Nat := 0) (lo : Nat := 0) (hi : Nat := typMax t) : ObjDesc := { typ := t, acc := .rwp, dflt := d, min := lo, max := hi }
def rwe (t : Nat) (d : Nat := 0) (lo : Nat := 0) (hi : Nat := typMax t) : ObjDesc := { typ := t, acc := .rwe, dflt := d, min := lo, max := hi }
def wo (t : Nat) (lo : Nat := 0) (hi : Nat := typMax t) : ObjDesc := { typ := t, acc := .wo, min := lo, max := hi }
/-- A BLOB or STR of a length between `lo` and `hi`. -/
def blob (a : Access) (lo hi : Nat) (t : Nat := 11) : ObjDesc := { typ := t, acc := a, min := lo, max := hi }
/-- A selector (R388). -/
def selr (t hi : Nat) (d : Nat := 0) : ObjDesc := { typ := t, acc := .rw, dflt := d, max := hi, selector := true }
/-- A parameter that refers to the unit that a selector names (R388). -/
def by_ (idx el : Nat) (d : ObjDesc) : ObjDesc := { d with sel := some (idx * 256 + el) }
/-- An enable bit (R412). -/
def enb (d : ObjDesc) : ObjDesc := { d with enable := true }

/-- Type codes (R385). -/
def U8 : Nat := 0
def U16 : Nat := 1
def U32 : Nat := 2
def U64 : Nat := 3
def I16 : Nat := 5
def ENUM : Nat := 9
def STR : Nat := 10

/-- Elements of 0x51pp (R530). -/
def obj51 : Nat → Option ObjDesc
  | 1 => some { ro ENUM with max := 8 }
  | 2 => some (enb (rwe U8 0 0 1))
  | 3 => some (ro U64)
  | 4 => some { ro ENUM with max := 1 }
  | 5 => some (rw U16) | 6 => some (rw U32 0x00100000)
  | 7 => some (rw U8 1 0 1)
  | 13 => some (rw U8 4 1 32) | 14 => some (rw U8 28 1 32) | 15 => some (rw U8 100 1 100) | 16 => some (rw U8 0 0 1)
  | 23 => some (rw U32 10000)
  | 26 => some (rwe U8 0 0 7)
  | 30 => some (ro U16) | 31 => some (ro U32) | 32 => some (ro U16) | 33 => some (ro U32)
  | 34 => some (rwe U8 0 0 2) | 35 => some (rwe U8 0xFF)
  | 36 => none
  | n => if 8 ≤ n ∧ n ≤ 38 then some (ro U64) else none

/-- The value of a parameter is listed: where legal values are not one range, which of them are (R416). -/
def listed (idx el v : Nat) : Bool :=
  if idx / 256 = 0x51 ∧ el = 35 then decide (v ≤ 7) || v == 0xFF
  else if idx = 0x5200 ∧ (el % 8 = 1 ∨ el % 8 = 2) then decide (v ≤ 15) || v == 0xFF
  else if idx / 256 = 0x63 ∧ el = 6 then decide (v ≤ 15) || v == 0xFF
  else if idx / 256 = 0x63 ∧ el = 4 then v == 0 || (decide (2 ≤ v) && decide (v ≤ 16))
  else if (idx = 0x4040 ∧ el = 1) ∨ (idx = 0x4050 ∧ el = 2) then v != 3
  else if idx = 0x6000 ∧ el = 4 then v % 1024 == 0
  else if idx / 2 * 2 = 0x9100 then v % 16 == 0
  else true

/-- Elements of the other partition families. -/
def objPart (fam p el : Nat) : Option ObjDesc :=
  let i := fam * 256 + p
  match fam with
  | 0x51 => obj51 el
  | 0x53 => if 1 ≤ el ∧ el ≤ 8 then some (ro U16) else none
  | 0x54 => if 1 ≤ el ∧ el ≤ 16 then some (rw U32) else none
  | 0x55 => match el with
    | 1 => some (rwp ENUM 0 0 2) | 2 => some (rwp U32 100) | 3 => some (rwp U8 0 0 1) | 4 => some (rwp U32 0 0 0xFFFFFF)
    | 5 => some { ro ENUM with max := 3 } | 6 => some (ro U16) | 7 => some (ro U32) | 8 => some (selr U16 65535)
    | 9 => some (by_ i 8 (ro U16)) | 10 => some (by_ i 8 (blob .ro 64 64)) | 11 => some (ro U8) | 12 => some (ro U32) | _ => none
  | 0x56 => match el with
    | 1 => some (selr U8 15) | 2 => some (by_ i 1 (ro U32)) | 3 => some (by_ i 1 (ro U32)) | 4 => some (by_ i 1 (ro U32))
    | 5 => some (ro U64) | 6 => some (ro U64) | 7 => some (ro U64) | 8 => some (ro U64) | 9 => some (ro U64)
    | 10 => some (rw U32) | 11 => some (ro U64) | 12 => some (ro U64) | 13 => some (selr U32 0xFFFFFFFF)
    | 14 => some (by_ i 13 (ro U16)) | 15 => some (by_ i 13 (ro U32)) | _ => none
  | 0x57 => if el = 7 then some (ro U32) else if 1 ≤ el ∧ el ≤ 9 then some (ro U64) else none
  | 0x58 => match el with
    | 1 => some (rwe U32 3968) | 2 => some (ro U32) | 3 => some (ro U64) | 4 => some (ro U64) | 5 => some (ro U32) | 6 => some (ro U64)
    | _ => none
  | 0x62 => some (rw U16 0xFFFF)
  | 0x63 => match el with
    | 1 => some (rwe U32) | 2 => some (rwe ENUM 0 0 2) | 3 => some (rwe U8 0 0 15) | 4 => some (rwe U8 0 0 16) | 5 => some (rwe U8 0 0 15)
    | 6 => some (rwe U8 0xFF) | 7 => some (rwp ENUM 0 0 1) | 8 => some (rwe U16 1000) | 9 => some (rwe U16 20) | 10 => some (ro U16)
    | 11 => some { ro ENUM with max := 4 } | 12 => some (ro U64) | 13 => some (rwe ENUM 0 0 1) | 14 => some (blob .rwe 512 512)
    | _ => none
  | 0x64 => if 1 ≤ el ∧ el ≤ 64 then some (blob .rwe 32 32) else none
  | 0x66 => if 1 ≤ el ∧ el ≤ 6 then some (ro U64) else none
  | _ => none

/-- Thresholds and intervals of R482: the default threshold of a kind. -/
def kindDefault : Nat → Nat
  | 1 => 3 | 2 => 3 | 3 => 0 | 4 => 3 | 5 => 3 | 6 => 2 | 7 => 2 | 8 => 3 | 9 => 1 | 10 => 1 | 11 => 1 | 12 => 2
  | 13 => 3 | 14 => 1 | 15 => 1 | 16 => 1 | 17 => 3 | 18 => 3 | 19 => 1 | _ => 0

/-- Elements of the module-scoped indexes 0x1000–0x3FFF. -/
def objLow (idx el : Nat) : Option ObjDesc :=
  match idx with
  | 0x1000 => match el with
    | 1 => some (blob .ro 0 255 STR) | 2 => some (blob .ro 0 255 STR) | 3 => some (blob .ro 0 255 STR) | 4 => some (ro U64)
    | 5 => some (ro U8 1) | 6 => some (ro U8 0x10) | 7 => some (ro U8 0x10) | _ => none
  | 0x2010 => match el with
    | 0 => some (selr U8 1) | 1 => some (by_ idx 0 (enb (rwp U8 1 0 1))) | 2 => some (by_ idx 0 { ro ENUM with max := 2 })
    | 3 => some (by_ idx 0 (ro U64)) | 4 => some (by_ idx 0 (blob .rwp 16 16)) | 5 => some (by_ idx 0 (rwp U8 64))
    | 6 => some (by_ idx 0 (blob .rwp 16 16)) | 7 => some (by_ idx 0 (rwp U16 49353)) | _ => none
  | 0x2020 => if 1 ≤ el ∧ el ≤ 64 then some (blob .rwp 16 16) else none
  | 0x2021 => if 1 ≤ el ∧ el ≤ 64 then some (blob .wo 32 32) else none
  | 0x2300 => match el with
    | 1 => some (rwp U8 1 0 1) | 2 => some (rwp U32 86400) | 3 => some (rwp U32 7200) | 4 => some (rwp U32 345600) | 5 => some (rwp U16 25)
    | 6 => some (rwp U16 35) | 7 => some (rwp U32 7776000) | 8 => some (rwp ENUM 1 0 2) | 9 => some (rwp U8 4) | 10 => some (rwp U16 64)
    | 11 => some (rwp U16 60) | 12 => some (rwp U16 50) | _ => none
  | 0x2310 => if el = 1 then some (rwp U8 9 1 16) else none
  | 0x2400 => match el with
    | 1 => some { ro ENUM with max := 5 } | 2 => some (ro U8) | 3 => some (ro U8) | 4 => some (ro U8) | 5 => some (ro U64) | 6 => some (ro U16)
    | 7 => some (ro U32) | 8 => some (ro U16) | 9 => some (ro U16) | 10 => some (ro U16) | 11 => some (rwp U32 1000) | 12 => some (rwp U32 100)
    | 13 => some (rwp U32 100 20 1000000) | 14 => some (rwp U16 10) | _ => none
  | 0x2401 => match el with
    | 0 => some (selr U16 65535) | 1 => some (by_ idx 0 (ro U32)) | 2 => some (by_ idx 0 (ro ENUM)) | 3 => some (by_ idx 0 (ro U16))
    | 4 => some (by_ idx 0 (ro U8)) | _ => none
  | 0x3100 => match el with
    | 0 => some (selr U16 65535) | 1 => some (by_ idx 0 (ro U64)) | _ => none
  | 0x3101 => if el = 3 then some (by_ 0x3100 0 (ro U32)) else if 1 ≤ el ∧ el ≤ 6 then some (by_ 0x3100 0 (ro U64)) else none
  | 0x3102 => match el with
    | 3 => some (by_ 0x3100 0 (ro U8)) | 4 => some (by_ 0x3100 0 { ro ENUM with max := 3 }) | 7 => some (by_ 0x3100 0 (ro U16))
    | n => if 1 ≤ n ∧ n ≤ 6 then some (by_ 0x3100 0 (ro U64)) else none
  | 0x3110 => match el with
    | 1 => some { ro ENUM with max := 2 } | 2 => some (ro U32) | _ => none
  | 0x3120 => match el with
    | 0 => some (selr U8 39) | 1 => some (by_ idx 0 { ro ENUM with max := 2 }) | 2 => some (by_ idx 0 (ro U64)) | 3 => some (by_ idx 0 (ro U64))
    | 4 => some (by_ idx 0 (ro U32)) | 5 => some (by_ idx 0 (ro U32)) | _ => none
  | _ => none

/-- Elements of the indexes 0x4000–0x4FFF. -/
def objPower (idx el : Nat) : Option ObjDesc :=
  match idx with
  | 0x4000 => match el with
    | 1 => some (ro U8) | 2 => some (ro U32) | 3 => some (ro U32) | 4 => some (ro U32) | 5 => some (ro U64) | 6 => some (ro U16)
    | 7 => some (ro U8 64) | 8 => some (ro U64) | _ => none
  | 0x4001 => match el with
    | 0 => some (selr U8 1) | 1 => some (by_ idx 0 (ro U16)) | 2 => some (by_ idx 0 (ro U32)) | 3 => some (by_ idx 0 { ro ENUM with max := 6 })
    | _ => none
  | 0x4002 => match el with
    | 0 => some (selr U8 4) | 1 => some (by_ idx 0 { ro ENUM with max := 4 }) | 2 => some (by_ idx 0 (ro U16)) | 3 => some (by_ idx 0 (ro U8))
    | 4 => some (by_ idx 0 (ro U16)) | 5 => some (by_ idx 0 (ro U32)) | 6 => some (by_ idx 0 (wo U8 0 1)) | _ => none
  | 0x4003 => if el = 1 then some (rwp ENUM 0 0 2) else none
  | 0x4010 => if el = 1 then some (rwp U8 84 70 92) else none
  | 0x4011 => match el with
    | 0 => some (selr U16 575) | 5 => some (by_ idx 0 (ro U16)) | 6 => some (by_ idx 0 (ro U16)) | 7 => some (by_ idx 0 (ro U16))
    | 8 => some (by_ idx 0 (ro U16 1250)) | 9 => some (wo U16 0 575) | n => if 1 ≤ n ∧ n ≤ 4 then some (by_ idx 0 (ro I16)) else none
  | 0x4012 => match el with
    | 0 => some (selr U8 39) | 1 => some (by_ idx 0 (ro I16)) | 2 => some (by_ idx 0 { ro ENUM with max := 2 }) | _ => none
  | 0x4020 => match el with
    | 1 => some (ro I16) | 2 => some (ro I16) | 3 => some (ro U16) | 4 => some (rwp U16 2700 900 3600) | 5 => some (ro U32) | 6 => some (ro U8)
    | 7 => some { ro ENUM with max := 3 } | 8 => some (rwp U16 120 10 3600) | 9 => some (wo U8 1 1) | 10 => some (ro U32) | _ => none
  | 0x4030 => match el with
    | 1 => some (enb (rwp U8 0 0 1)) | 2 => some (rwe U8 0 0 31) | 3 => some (ro U8) | _ => none
  | 0x4031 => match el with
    | 1 => some (enb (rwp U8 1 0 1)) | 2 => some (rwe U8 80 60 90) | 3 => some (rwe U16 1 1 3600) | _ => none
  | 0x4040 => match el with
    | 1 => some (wo U8 1 4) | 2 => some { ro ENUM with max := 7 } | 3 => some (rwp ENUM 1 0 2) | 4 => some (rwp U16 10) | 5 => some (ro U32)
    | 6 => some (rwp U64) | 7 => some (ro U8) | 8 => some (ro U32) | 9 => some (ro U64) | _ => none
  | 0x4050 => match el with
    | 1 => some (ro I16) | 2 => some (rwp ENUM 2 2 4) | 3 => some (rwp U64) | 4 => some (rwp U8 1 0 1) | 5 => some (rwp U8 1 0 1)
    | 6 => some (rwp U16 3600) | _ => none
  | 0x4100 => match el with
    | 0 => some (selr U16 287) | 1 => some (by_ idx 0 { ro ENUM with max := 3 }) | 2 => some (by_ idx 0 (ro U8 8)) | 3 => some (by_ idx 0 (ro U8 112))
    | 4 => some (by_ idx 0 (ro U16)) | 5 => some (by_ idx 0 (ro U32)) | 6 => some (by_ idx 0 (ro U16)) | 7 => some (by_ idx 0 (ro U16))
    | 8 => some (by_ idx 0 (ro U8)) | 11 => some (by_ idx 0 (wo U8 1 1)) | _ => none
  | 0x4101 => match el with
    | 1 => some (rwp U8 4 0 20) | 2 => some (rwp U8 10 0 20) | 3 => some (rwp U8 2 0 20) | 5 => some (rwp U16 80) | _ => none
  | 0x4102 => if el = 1 then some (ro U16) else none
  | _ => none

/-- Elements of the indexes 0x5000–0x7FFF that are not partition-scoped. -/
def objMid (idx el : Nat) : Option ObjDesc :=
  match idx with
  | 0x5000 => match el with
    | 1 => some (ro U16) | 2 => some (selr U16 65535) | 3 => some (by_ idx 2 (ro U64)) | 4 => some (by_ idx 2 (ro U64)) | 5 => some (ro U64)
    | _ => none
  | 0x5010 => match el with
    | 1 => some (rwp U32 19200 0 19200) | 2 => some (ro U32) | 3 => some (rwp U8 0 0 8) | 4 => some (ro U16) | _ => none
  | 0x5011 => if 1 ≤ el ∧ el ≤ 24 then some (ro U8) else none
  | 0x5012 => if 1 ≤ el ∧ el ≤ 24 then some (ro U8) else none
  | 0x5020 => match el with
    | 1 => some (ro U32 686640) | 2 => some (ro U64) | 3 => some (rwp U32 2048) | 4 => some (ro U8 40) | _ => none
  | 0x5030 => match el with
    | 1 => some (rwp U8 1 0 1) | 2 => some (rwp U16 60) | 3 => some (ro U64) | n => if 16 ≤ n ∧ n < 32 then some (ro U8) else none
  | 0x5200 => if 64 < el then none else match el % 8 with
    | 1 => some (rwe U8 0xFF) | 2 => some (rwe U8 0xFF) | 3 => some (rwe U16) | 4 => some (rwe U8 0 0 15) | 5 => some (rwe U16 0 0 1023)
    | _ => none
  | 0x6000 => match el with
    | 1 => some (ro U64) | 2 => some (rwp U16 0x88B5) | 3 => some (rwp U16 49352) | 4 => some (rwp U16 8192 1024 8192) | 5 => some (rwp U32 40)
    | 6 => some (rwp U16 10) | 7 => some (rwp U16 100) | 8 => some (rwp U32 0x00464445) | _ => none
  | 0x6010 => match el with
    | 0 => some (selr U8 47) | 1 => some (by_ idx 0 (enb (rwp U8 1 0 1))) | 2 => some (by_ idx 0 { ro ENUM with max := 4 })
    | 3 => some (by_ idx 0 (ro U64)) | 4 => some (by_ idx 0 (blob .rwp 16 16)) | 5 => some (by_ idx 0 (blob .rwp 16 16))
    | 6 => some (by_ idx 0 (rwp U16 0 0 4094)) | 7 => some (by_ idx 0 (rwp U8)) | 8 => some (by_ idx 0 (ro U64)) | 9 => some (by_ idx 0 (ro U64))
    | 10 => some (by_ idx 0 (ro U64)) | 11 => some (by_ idx 0 (ro U64)) | 12 => some (by_ idx 0 (ro U8)) | _ => none
  | 0x6020 => match el with
    | 0 => some (selr U8 63) | 1 => some (by_ idx 0 { ro ENUM with max := 3 }) | 2 => some (by_ idx 0 { ro ENUM with max := 2 })
    | 3 => some (by_ idx 0 (ro U8)) | 4 => some (by_ idx 0 (ro U8)) | 5 => some (by_ idx 0 (ro U64)) | _ => none
  | 0x7000 => match el with
    | 1 => some (ro U64) | 2 => some (ro U64) | 3 => some (selr U64 (2 ^ 64 - 1)) | 4 => some (by_ idx 3 (blob .ro 64 64)) | _ => none
  | 0x7001 => if 1 ≤ el ∧ el ≤ 19 then some (rwp U8 (kindDefault el) 1 255) else none
  | 0x7002 => if 1 ≤ el ∧ el ≤ 19 then some (rwp U32 2592000 3600 31536000) else none
  | 0x7010 => match el with
    | 0 => some (selr U32 0xFFFFFFFF) | 1 => some (by_ idx 0 { ro ENUM with max := 3 }) | 2 => some (by_ idx 0 (ro U32)) | 3 => some (by_ idx 0 (ro U8))
    | 4 => some (by_ idx 0 (ro U64)) | 5 => some (by_ idx 0 (ro U64)) | 6 => some (by_ idx 0 (wo U8 1 1)) | _ => none
  | 0x7020 => match el with
    | 7 => some (selr U32 0xFFFFFFFF) | 8 => some (by_ idx 7 (blob .ro 32 32)) | _ => none
  | 0x7030 => match el with
    | 1 => some (rwp U8 1 0 1) | 2 => some (rwp U16 24 1 720) | 3 => some (rwp U16 180 30 3650) | 5 => some (wo U32) | 6 => some (ro U64)
    | 7 => some (ro U64) | 8 => some (ro U64) | 9 => some (blob .ro 48 48) | _ => none
  | 0x7040 => match el with
    | 0 => some (selr U8 1) | 1 => some (by_ idx 0 { ro ENUM with max := 5 }) | 2 => some (by_ idx 0 (wo U8 1 1)) | 3 => some (by_ idx 0 (ro U8))
    | _ => none
  | _ => none

/-- Elements of the indexes 0x8000–0x9FFF. -/
def objHigh (idx el : Nat) : Option ObjDesc :=
  match idx with
  | 0x8000 => match el with
    | 1 => some { ro ENUM with max := 5 } | 2 => some (ro U64) | 3 => some (ro U16) | 4 => some (ro U8) | 5 => some (rwp U32)
    | 6 => some (blob .wo 32 32) | n => if (16 ≤ n ∧ n ≤ 24) ∨ (32 ≤ n ∧ n ≤ 40) then some (ro U32) else none
  | 0x8010 => if el = 1 then some (by_ 0x7040 0 (ro U32)) else none
  | 0x9000 => match el with
    | 1 => some (ro U16) | 2 => some (ro U64) | 3 => some (ro U64) | 4 => some (ro U8) | _ => none
  | 0x9010 => match el with
    | 1 => some (ro U32) | 2 => some (ro U32) | 3 => some (selr U32 0xFFFFFFFF) | 4 => some (by_ idx 3 (blob .ro 32 32)) | _ => none
  | 0x9100 => some (rwp U16 0x8810) | 0x9101 => some (rwp U16 0x8810)
  | 0x9200 => some (rw U8) | 0x9201 => some (rw U8)
  | 0x9300 => some (ro U32) | 0x9301 => some (ro U32)
  | _ => none

/-- The partition family of an index, 0 for a module-scoped one (R384). -/
def famOf (idx : Nat) : Nat :=
  let f := idx / 256
  if (f = 0x51 ∨ f = 0x53 ∨ f = 0x54 ∨ f = 0x55 ∨ f = 0x56 ∨ f = 0x57 ∨ f = 0x58 ∨ f = 0x62 ∨ f = 0x63 ∨ f = 0x64 ∨ f = 0x66) then f else 0

/-- R384, R388: the descriptor of a parameter; none where it is absent. -/
def objDesc (idx el : Nat) : Option ObjDesc :=
  if famOf idx ≠ 0 then (if idx % 256 < 16 then objPart (famOf idx) (idx % 256) el else none)
    else if idx < 0x4000 then objLow idx el
    else if idx < 0x5000 then objPower idx el
    else if idx < 0x8000 then objMid idx el
    else objHigh idx el

/-- R386, R388: PERSIST. -/
def objPersists (idx el : Nat) (d : ObjDesc) : Bool :=
  match d.acc with
  | .rwp => true
  | .rwe => true
  | .wo => idx == 0x2021 || (idx == 0x8000 && el == 6)
  | _ => false

/-- Every index of R529, in rising order. -/
def allIndexes : List Nat :=
  let parts := fun f => (List.range 16).map fun p => f * 256 + p
  [0x1000, 0x2010, 0x2020, 0x2021, 0x2300, 0x2310, 0x2400, 0x2401, 0x3100, 0x3101, 0x3102, 0x3110, 0x3120, 0x4000, 0x4001, 0x4002, 0x4003,
    0x4010, 0x4011, 0x4012, 0x4020, 0x4030, 0x4031, 0x4040, 0x4050, 0x4100, 0x4101, 0x4102, 0x5000, 0x5010, 0x5011, 0x5012, 0x5020, 0x5030]
  ++ parts 0x51 ++ [0x5200] ++ [0x53, 0x54, 0x55, 0x56, 0x57, 0x58].flatMap parts ++ [0x6000, 0x6010, 0x6020]
  ++ [0x62, 0x63, 0x64, 0x66].flatMap parts
  ++ [0x7000, 0x7001, 0x7002, 0x7010, 0x7020, 0x7030, 0x7040, 0x8000, 0x8010, 0x9000, 0x9010, 0x9100, 0x9101, 0x9200, 0x9201, 0x9300, 0x9301]

end Sys2Proof.Machine
end

