-- ==== Sys2Proof/Machine/Power.lean ====
section
/-! DEFINITION. Power input, conversion and cooling (R432–R468): feeds, bricks, regulator blocks, the governor, hot spots, stacks,
coolant and leaks. -/
namespace Sys2Proof.Machine

/-! ### Ending field tests (R486, R487) -/

def dieOf (t : Nat) : Nat := fld t 15 11

/-- R85, R86, R486, R494: a full test counts one program cycle on each of the tile's banks, and leaves them EMPTY, or INVALID where the power is lost. -/
def testedBanks (s : State) (t : Nat) (st : BankState) : State :=
  (List.range 128).foldl (fun s i =>
    let k := t * 8 + i
    if (bankOf s k).st == .retired then s
    else countCycle (updBank s k fun b => { b with st := st, block := none, cells := [], sums := [], tables := [], cur := none }) k false) s

/-- Ends the test of a die without an event (R487), which leaves the banks of a full test in a state. -/
def abortTest (st : BankState) (s : State) (d : Nat) : State :=
  match FMap.find s.ftests d with
  | none => s
  | some f =>
    let s := { s with ftests := FMap.del s.ftests d }
    addObj (if f.full then testedBanks s f.tile st else s) 0x7030 8 1

/-- R487: aborts the tests on tiles that satisfy a test. -/
def abortTests (s : State) (sel : FieldTest → Bool) : State :=
  ((s.ftests.filter fun e => sel e.2).map (·.1)).foldl (abortTest .empty) s

/-- R487, R494: a power loss aborts every test. -/
def loseTests (s : State) : State := (s.ftests.map (·.1)).foldl (abortTest .invalid) s

/-! ### Feeds (R434, R435) -/

def feed (s : State) (f : Nat) : Feed := FMap.get {} s.feeds f
def setFeed (s : State) (f : Nat) (x : Feed) : State := { s with feeds := FMap.set s.feeds f x }

/-- R434: the state code of a voltage. -/
def feedCode (v : Int) : Nat :=
  if v < -60 then 6 else if v < 60 then 0 else if v < 620 then 1 else if v < 700 then 2
  else if v ≤ 900 then 3 else if v ≤ 950 then 4 else 5

/-- R435: the feed that a brick prefers. -/
def preferred (s : State) (b : Nat) : Nat :=
  match objD 0 s 0x4003 1 with
  | 0 => b % 2
  | 1 => 0
  | _ => 1

/-- R435: the feed that a brick draws from: its preferred feed while that is usable, else the other, else none; `back` lets a brick
return to a preferred feed. -/
def feedFor (s : State) (b : Nat) (x : Brick) (back : Bool) : Nat :=
  let p := preferred s b
  if (feed s p).usable && (back || x.feed == p || !(feed s (1 - p)).usable || x.feed == 0xFF) then p
  else if (feed s (1 - p)).usable then 1 - p
  else if (feed s p).usable then p else 0xFF

def brick (s : State) (b : Nat) : Brick := FMap.get {} s.bricks b
def setBrick (s : State) (b : Nat) (x : Brick) : State := { s with bricks := FMap.set s.bricks b x }

/-- A brick draws from a feed in SERVICE and STARTING. -/
def brickDraws (x : Brick) : Bool := x.st == 1 || x.st == 2

/-- R435: every brick moves off a feed that is not usable. -/
def moveFeeds (s : State) : State :=
  (List.range 5).foldl (fun s b =>
    let x := brick s b
    if brickDraws x then setBrick s b { x with feed := feedFor s b x false } else setBrick s b { x with feed := 0xFF }) s

/-- R435: the preference has been written: every brick draws from its preferred feed while that is usable. -/
def preferFeeds (s : State) : State :=
  (List.range 5).foldl (fun s b =>
    let x := brick s b
    if brickDraws x then setBrick s b { x with feed := feedFor s b x true } else s) s

/-- FEED_STATE_CHANGE (R434): the voltage of a feed crosses a boundary; `ma` is its current. -/
def execFeedStateChange (f : Nat) (volts : Int) (ma : Nat) (s : State) : Host.Outcome State Fault Refusal :=
  if 2 ≤ f then .fault .noSuchUnit
  else
    let x := feed s f
    let c := feedCode volts
    let old := feedCode x.volts
    let inBand := decide (640 ≤ volts) && decide (volts ≤ 940)
    let used := x.usable && decide (2 ≤ c) && decide (c ≤ 4)
    let s := setFeed s f { x with
      volts := volts, ma := ma, usable := used, bandAt := if inBand then some (x.bandAt.getD (ageNs s)) else none }
    let s := setCond s (419 + f) (c != 3)
    let s := moveFeeds s
    .next (if c = old then s
      else match c with
        | 0 => raiseRc s 3 0x0606
        | 3 => raise s { sev := 1, cls := 6 }
        | 6 => raiseRc s 3 0x060E
        | _ => raiseRc s 3 0x0605)

/-- FEED_RETURN_PREFERRED (R435): a brick returns to its preferred feed once that has been usable for 1 s. -/
def execFeedReturnPreferred (b : Nat) (s : State) : Host.Outcome State Fault Refusal :=
  if 5 ≤ b then .fault .noSuchUnit
  else
    let x := brick s b
    match (feed s (preferred s b)).usableAt with
    | none => .next s
    | some t =>
      if brickDraws x && (feed s (preferred s b)).usable && decide (t + 1000000000 ≤ ageNs s) then
        .next (setBrick s b { x with feed := feedFor s b x true })
      else .next s

/-! ### Bricks and the module cap (R436–R439, R448) -/

/-- R437: bricks in SERVICE. -/
def bricksIn (s : State) : Nat := ((List.range 5).filter fun b => (brick s b).st == 2).length
/-- R437: the brick limit in W. -/
def brickLimit (s : State) : Nat := Nat.min 24000 (6000 * bricksIn s)
/-- R448: the mode cap in W. -/
def modeCap (s : State) : Nat := 24000 - 4000 * objD 0 s 0x4000 1
/-- R448 obj 0x4000:2: the module cap in force. -/
def moduleCap (s : State) : Nat := Nat.min (modeCap s) (brickLimit s)

/-- Puts a brick slot into a state, with its event source (R423) and its time in service. -/
def brickTo (s : State) (b : Nat) (st : Nat) (present : Bool) : State :=
  let x := brick s b
  let spent := match x.since with
    | some t => ageNs s - t
    | none => 0
  let s := setBrick s b { x with
    st := st, present := present, shedding := false, hours := x.hours + spent, since := if st = 2 then some (ageNs s) else none }
  moveFeeds (setCond s (414 + b) (st == 0 || st == 4))

/-- R437: the cause of a fall to four bricks or fewer. -/
def brickFallen (before : Nat) (s : State) : State :=
  if bricksIn s < before ∧ bricksIn s ≤ 4 then raise s { sev := 3, cls := 6 } else s

/-- BRICK_FAULT (R436): a brick isolates itself; it stays in FAULT until it is removed. -/
def execBrickFault (b : Nat) (s : State) : Host.Outcome State Fault Refusal :=
  if 5 ≤ b then .fault .noSuchUnit
  else if (brick s b).st = 0 ∨ (brick s b).st = 4 then .next s
  else
    let n := bricksIn s
    let s := raiseRc (brickTo s b 4 true) 5 0x0604 none 7 b
    let s := protective (kennelEvent s 16 7 b 0 0x0604) 7 b 0x0604
    .next (brickFallen n s)

/-- BRICK_REMOVE (R439, R491): a brick is pulled; one that was not PREPARED leaves service as a failed one would, without a fault record. -/
def execBrickRemove (b : Nat) (s : State) : Host.Outcome State Fault Refusal :=
  if 5 ≤ b then .fault .noSuchUnit
  else if (brick s b).st = 0 then .next s
  else .next (partMoved (brickFallen (bricksIn s) (brickTo s b 0 false)) 7 b)

/-- The module's bricks are powered: some feed is usable and the module is at or past the bricks' power-on step. -/
def bricksPowered (s : State) : Bool :=
  ((feed s 0).usable || (feed s 1).usable) && (s.power == .ready || s.power == .hold || s.power == .starting || s.power == .stopping)

/-- BRICK_INSERT (R439, R491): a brick is inserted and starts. -/
def execBrickInsert (b : Nat) (s : State) : Host.Outcome State Fault Refusal :=
  if 5 ≤ b then .fault .noSuchUnit
  else if (brick s b).st = 0 then .next (partMoved (brickTo s b 1 true) 7 b)
  else .next s

/-- BRICK_START_DONE (R436): a brick that starts reaches SERVICE, and the brick limit rises. -/
def execBrickStartDone (b : Nat) (s : State) : Host.Outcome State Fault Refusal :=
  if 5 ≤ b then .fault .noSuchUnit
  else if (brick s b).st = 1 ∧ bricksPowered s then .next (brickTo s b 2 true)
  else .next s

/-- R439: bricks in SERVICE other than one. -/
def otherBricks (s : State) (b : Nat) : Nat := ((List.range 5).filter fun i => i != b && (brick s i).st == 2).length

/-- R439: the bricks in SERVICE other than one cover the module cap. -/
def brickSpared (s : State) (b : Nat) : Bool := decide (moduleCap s ≤ 6000 * otherBricks s b)

/-- R439, R526: a write of 1 to obj 0x4002:6; a reason where it is refused, as it is while the switch of slot 7 holds a brick PREPARED. -/
def brickPrepare (s : State) (b : Nat) : Sum Nat State :=
  if s.fw.held.isSome then .inl 0x0315
  else if !brickSpared s b then .inl 0x0315
  else if (brick s b).st = 2 then .inr (setBrick s b { brick s b with shedding := true })
  else .inr s

/-- BRICK_SHED_DONE (R439): a brick prepared for removal has shed its load and moves to PREPARED. -/
def execBrickShedDone (b : Nat) (s : State) : Host.Outcome State Fault Refusal :=
  if 5 ≤ b then .fault .noSuchUnit
  else if (brick s b).st = 2 ∧ (brick s b).shedding then .next (brickFallen (bricksIn s) (brickTo s b 3 true))
  else .next s

/-- R439: a write of 0 to obj 0x4002:6. -/
def brickUnprepare (s : State) (b : Nat) : State := if (brick s b).st = 3 then brickTo s b 1 true else s

/-! ### Regulator blocks (R444–R447) -/

def block (s : State) (c : Nat) : Block := FMap.get {} s.blocks c
def setBlock (s : State) (c : Nat) (x : Block) : State := { s with blocks := FMap.set s.blocks c x }
/-- R445: 0 SERVICE, 1 DEGRADED, 2 LOST, 3 RESTARTING. -/
def blockState (s : State) (c : Nat) : Nat := FMap.get 0 s.blockSt c

/-- R446: primary and secondary tie partner of a cluster, in the same half-die. -/
def primaryTie (c : Nat) : Nat := c / 6 * 6 + (c % 6 + 3) % 6
def secondaryTie (c : Nat) : Nat := c / 6 * 6 + 3 * (c % 6 / 3) + (c % 6 % 3 + 1) % 3
/-- R446: the partner that feeds the fabric domain of a cluster whose block is out. -/
def tieOf (s : State) (c : Nat) : Option Nat :=
  if blockState s c < 2 then none
  else if blockState s (primaryTie c) < 2 then some (primaryTie c)
  else if blockState s (secondaryTie c) < 2 then some (secondaryTie c)
  else none
/-- R445, R446 obj 0x4100:8: the clusters whose ties a block carries. -/
def tiesCarried (s : State) (c : Nat) : List Nat := ((List.range 6).map (· + c / 6 * 6)).filter fun d => tieOf s d == some c
/-- R265, R445: the cluster cap in power units. -/
def clusterCap (s : State) (c : Nat) : Nat :=
  if 2 ≤ blockState s c then 0
  else if 6 ≤ (block s c).phases then 14 * (block s c).phases - 8 * (tiesCarried s c).length else 0

/-- The tiles of a hot spot. -/
def spotTiles (h : Nat) : List Nat := (clusterTiles (h / 2)).filter fun t => fld t 6 4 / 4 == h % 2

/-- R423: event source of a cluster's block. -/
def blockCond (s : State) (c : Nat) : State := setCond s c (decide (2 ≤ blockState s c) || decide ((block s c).phases < 8))

/-- R242, R238: sets a tile's router state. -/
def setRouter (s : State) (t v : Nat) : State := setObj s 0x3102 4 v t

/-- Judges again the stalls of every partition. -/
def reviewAll (s : State) : State := (List.range 16).foldl reviewStall s

/-- R240: a router fails: its transfers are held; a cause and a Kennel record. -/
def routerFail (s : State) (t : Nat) : State :=
  if routerState s t = 3 then s
  else
    let s0 := s
    let s := cutRoutes s0 { setRouter s t 3 with lostAt := FMap.set s.lostAt (65536 + t) (ageNs s) }
    reviewAll <| raiseRc (kennelEvent s 10 1 t 0 0x0705) 3 0x0705 none 1 t

/-- R446: routers of a half-die's clusters whose block is out follow the ties: reduced on a tie, failed without one. -/
def followTies (s : State) (c : Nat) : State :=
  ((List.range 6).map (· + c / 6 * 6)).foldl (fun s d =>
    if blockState s d < 2 then s
    else
      match tieOf s d with
      | some _ => if s.tieLost.contains d then s
        else (clusterTiles d).foldl (fun s t => if routerState s t = 3 then s else setRouter s t 2) s
      | none => if s.tieLost.contains d then s
        else (clusterTiles d).foldl routerFail { s with tieLost := d :: s.tieLost }) s

/-- R239: the tiles of a cluster lose their contents. -/
def loseTiles (s : State) (ts : List Nat) : State :=
  { s with
    sp := s.sp.filter fun e => !ts.contains (e.1 / 2 ^ 23)
    spErr := s.spErr.filter fun e => !ts.contains (e.1 / 2 ^ 20)
    acc := s.acc.filter fun e => !ts.contains (e.1 / 2 ^ 17)
    accTag := s.accTag.filter fun e => !ts.contains (e.1 / 128)
    accPend := s.accPend.filter fun e => !ts.contains (e.1 / 128)
    accErr := s.accErr.filter fun e => !ts.contains (e.1 / 2 ^ 16)
    ringTags := s.ringTags.filter fun e => !ts.contains (e.1 / 2 ^ 40)
    capLatch := s.capLatch.filter fun e => !ts.contains e.1 }

/-- R444, R446: a block is isolated: LOST. -/
def loseBlock (s : State) (c : Nat) : State :=
  if 2 ≤ blockState s c then s
  else
    let s := { s with blockSt := FMap.set s.blockSt c 2, lostAt := FMap.set s.lostAt c (ageNs s) }
    let s := vlogOff s c
    let s := loseTiles s (clusterTiles c)
    let s := interruptBanks s (fun k => clusterOf (bankTile k) == c) 0x0602
    let s := raiseRc (followTies (blockCond s c) c) 5 0x0602 none 2 c
    reviewAll (protective (kennelEvent s 12 2 c 0 0x0602) 2 c 0x0602)

/-- R444: a VLOG phase fails: it is switched off; a third one is a block fault. -/
def losePhase (s : State) (c i : Nat) : State :=
  let x := block s c
  if x.off.contains i ∨ 2 ≤ blockState s c then s
  else
    let s := setBlock s c { x with phases := x.phases - 1, off := i :: x.off }
    let s := { s with blockSt := FMap.set s.blockSt c 1 }
    let s := raiseRc (kennelEvent (blockCond s c) 11 2 c 0 0x0601) 3 0x0601 none 2 c
    if (block s c).phases < 6 then loseBlock s c else s

/-- R444: a cluster's VPGM is switched off. -/
def loseVpgm (s : State) (c : Nat) : State :=
  if s.vpgmLost.contains c then s
  else
    let s := interruptBanks { s with vpgmLost := c :: s.vpgmLost } (fun k => clusterOf (bankTile k) == c) 0x060F true
    protective (raiseRc s 3 0x060F none 2 c) 2 c 0x060F

/-- R444: a sample of the drop-share monitor against the load line: the excess resistance averages over 10 s (1,000,000 samples) of
current at or above 80 A, and one that passes the threshold is reported. -/
def jointSample (s : State) (c vout vsense ma : Nat) : State :=
  if ma < 80000 then s
  else
    let x := block s c
    let rll := s.gov.loadLines.getD 0 4
    let drop : Int := (vout : Int) - (rll * 50 * ma / 1000 : Nat) - (vsense : Int)
    let x := { x with drSum := x.drSum + drop * 1000 / (ma : Int), drN := x.drN + 1 }
    if x.drN < 1000000 then setBlock s c x
    else
      let dr := (x.drSum / 1000000).toNat
      let thr := objD 80 s 0x4101 5
      let hit := match x.drAt with
        | none => decide (thr < dr)
        | some d => decide (d + thr ≤ dr)
      let s := setBlock s c { x with dr := dr, drSum := 0, drN := 0, drAt := if hit then some dr else x.drAt }
      if hit then
        -- VLOG at the cluster cap's current, in µV
        let amps1000 := clusterCap s c * 1000000000 / Nat.max vout 1
        let worst := decide (vout < 600000 + (rll * 50 + dr) * amps1000 / 1000)
        raiseRc s (if worst then 3 else 2) 0x0603 none 2 c dr
      else s

/-- DROPSHARE_SAMPLE (R444): a sample of cluster `c`'s block: the eight phase currents in mA, phase drivers that report a fault as a
mask, the output and sense voltages in µV, VARR in mV, whether VPGM is in regulation, and whether a block fault stands. -/
def execDropshareSample (c : Nat) (ph : List Nat) (drv vout vsense varr : Nat) (vpgmOk fault : Bool) (s : State) :
    Host.Outcome State Fault Refusal :=
  if 288 ≤ c then .fault .noSuchUnit
  else if 2 ≤ blockState s c then .next s
  else
    let ma := ph.foldl (· + ·) 0
    let x := block s c
    let on := (List.range 8).filter fun i => !x.off.contains i
    let weak := fun i => decide (40000 ≤ ma) && decide (4 * ph.getD i 0 * (on.length - 1) < ma - ph.getD i 0)
    let low := (List.range 8).map fun i => if on.contains i && weak i then x.low.getD i 0 + 1 else 0
    let bad := if vpgmOk then 0 else x.vpgmBad + 1
    let s := setBlock s c { x with low := low, vpgmBad := bad, vlog := vsense / 1000, ma := ma, varr := varr }
    let s := jointSample s c vout vsense ma
    let s := (on.filter fun i => decide (10 ≤ low.getD i 0) || bitAt drv i).foldl (fun s i => losePhase s c i) s
    let s := if 10 ≤ bad then loseVpgm s c else s
    .next (if fault then loseBlock s c else s)

/-- R447: a write of 1 to obj 0x4100:11. -/
def blockRestart (s : State) (c : Nat) : Sum Nat State :=
  if blockState s c ≠ 2 ∨ (clusterTiles c).any (fun t => (ownerOf s t).isSome) then .inl 0x021A
  else .inr { s with blockSt := FMap.set s.blockSt c 3 }

/-- R238: router state of a tile in a cluster whose block is in service. -/
def routerBack (s : State) (t : Nat) : State := setRouter s t (if s.heatOff.contains (hotSpot t) then 1 else 0)

/-- BLOCK_RESTART_DONE (R447): the restart test ends with the phases it found healthy, or fails. -/
def execBlockRestartDone (c phases : Nat) (ok : Bool) (s : State) : Host.Outcome State Fault Refusal :=
  if 288 ≤ c then .fault .noSuchUnit
  else if blockState s c ≠ 3 then .next s
  else if ok ∧ 6 ≤ phases ∧ phases ≤ 8 then
    let s := setBlock s c { block s c with phases := phases, off := (List.range 8).drop phases, low := [0, 0, 0, 0, 0, 0, 0, 0] }
    let s := { s with blockSt := FMap.set s.blockSt c (if phases = 8 then 0 else 1), tieLost := s.tieLost.filter (· != c), lostAt := FMap.del s.lostAt c }
    let s := loseTiles (vlogOn (blockCond s c) c) (clusterTiles c)
    .next (reviewAll ((clusterTiles c).foldl routerBack s))
  else .next (raiseRc { s with blockSt := FMap.set s.blockSt c 2 } 5 0x0602 none 2 c)

/-! ### The governor (R448–R450) and the thermal model (R456, R457) -/

def spot (s : State) (h : Nat) : HotSpot := FMap.get {} s.spots h
def setSpot (s : State) (h : Nat) (x : HotSpot) : State := { s with spots := FMap.set s.spots h x }
def updSpot (s : State) (h : Nat) (f : HotSpot → HotSpot) : State := setSpot s h (f (spot s h))

/-- R454: the protection reading of a hot spot. -/
def protection (s : State) (h : Nat) : Int :=
  let r := FMap.get (0, 0) s.hot h
  if r.1 < r.2 then r.2 else r.1

/-- Grants placed on some tiles, in power units. -/
def grantsOn (s : State) (sel : Nat → Bool) : Nat :=
  s.parts.foldl (fun n e => e.2.place.tiles.foldl (fun n x => if sel x.tile then n + x.grant else n) n) 0

/-- R449: f_e of a cluster in 1/64, rounded down. -/
def electricFactor (s : State) (c : Nat) : Nat :=
  let g := grantsOn s fun t => clusterOf t == c
  if g = 0 then 64 else Nat.min 64 (64 * clusterCap s c / g)

/-- R449: f_m in 1/64, rounded down. -/
def moduleFactor (s : State) : Nat := if s.gov.fm.2 = 0 then 0 else Nat.min 64 (64 * s.gov.fm.1 / s.gov.fm.2)

/-- WINDOW_BOUNDARY (R211, R449): the grant factor of every region comes into force; a stop sets it to 0 and the clock to 1.0 GHz. -/
def execWindowBoundary (s : State) : Host.Outcome State Fault Refusal :=
  let stop := !computes s
  let fm := moduleFactor s
  .next { s with spots := (List.range 576).map fun h =>
    let x := spot s h
    if stop then (h, { x with f := 0, k := 0 })
    else (h, { x with f := Nat.min (electricFactor s (h / 2)) (Nat.min x.ft fm) }) }

/-- R449, R450: the region's clock and thermal factor for a dynamic draw `d` and static draw `pst`, in 0.1 W. -/
def regionControls (g : Nat) (l : Int) (d : Nat) : Nat × Nat :=
  if (d : Int) ≤ l then (8, 64)
  else
    let n := if l ≤ 0 then 0 else Nat.sqrt (1600 * l.toNat / d)
    if 32 ≤ n then (Nat.min (n - 32) 8, 64)
    else (0, if l ≤ 0 then 0 else if g = 0 then 64 else Nat.min 64 (10 * l.toNat / g))

/-- R450: some region of a cluster is capped for heat. -/
def capBinds (s : State) (c : Nat) : Bool :=
  [2 * c, 2 * c + 1].any fun h => (spot s h).off == 0 && (decide ((spot s h).ft < 64) || decide ((spot s h).k < 8))

/-- GOVERNOR_REGION_TICK (R449): the governor sets one region's clock and factor, from its dynamic draw scaled to 1.25 GHz and its
static draw, in 0.1 W. The first binding of the cap in a cluster after 10 s without is reported. -/
def execGovernorRegionTick (h d pst : Nat) (s : State) : Host.Outcome State Fault Refusal :=
  if 576 ≤ h then .fault .noSuchUnit
  else if (spot s h).off ≠ 0 ∨ !computes s then .next s
  else
    let c := h / 2
    let kf := regionControls (grantsOn s fun t => hotSpot t == h) ((spot s h).ptherm - (pst : Int)) d
    let s := updSpot s h fun x => { x with k := kf.1, ft := kf.2 }
    if capBinds s c then
      let free := match FMap.find s.gov.capped c with
        | none => true
        | some t => decide (t + 10000000000 ≤ ageNs s)
      let s := { s with gov := { s.gov with capped := FMap.set s.gov.capped c (ageNs s) } }
      .next (if free then protective (raiseRc s 5 0x0607 none 2 c) 2 c 0x0607 else s)
    else .next s

/-- A fraction in lowest terms. -/
def reduceFrac (a b : Nat) : Nat × Nat := if Nat.gcd a b = 0 then (a, b) else (a / Nat.gcd a b, b / Nat.gcd a b)

/-- R449: f_m after a 100 µs period with input power `pin` and the tiles' dynamic draw `dyn`, in W. -/
def nextFm (s : State) (pin dyn : Nat) : Nat × Nat :=
  let cap := moduleCap s
  let fm := s.gov.fm
  if cap < pin + 200 then
    -- P_cap − 200 − Pfix, with Pfix = pin − dyn
    let n := cap + dyn - (200 + pin)
    if dyn = 0 then (0, 1) else reduceFrac (fm.1 * n) (fm.2 * dyn)
  else if s.gov.fmAt + 1000000 ≤ ageNs s then
    let q := reduceFrac (64 * fm.1 + fm.2) (64 * fm.2)
    if q.2 ≤ q.1 then (1, 1) else q
  else fm

/-- GOVERNOR_MODULE_TICK (R449, R467): every 100 µs input power is sampled and, while tiles compute, the module factor follows the cap. `bus` is the 50 V bus in mV; `bricks` gives bricks'
input power in W and temperature in 1/16 K. -/
def execGovernorModuleTick (pin dyn bus : Nat) (bricks : List (Nat × Nat × Nat)) (s : State) : Host.Outcome State Fault Refusal :=
  if bricks.any fun e => decide (5 ≤ e.1) then .fault .noSuchUnit
  else if s.power = .off ∨ s.power = .standby then .next s
  else
    let fm := if computes s then nextFm s pin dyn else s.gov.fm
    let g := s.gov
    let now := ageNs s
    let below := if fm.1 < fm.2 then 1 else 0
    let s := { s with gov := { g with
      fm := fm, fmAt := if fm = g.fm then g.fmAt else now, energy := g.energy + pin, below := g.below + below, bus := bus
      samples := (now, pin) :: g.samples.filter fun e => decide (now < e.1 + 1000000000) } }
    .next (bricks.foldl (fun s e => setBrick s e.1 { brick s e.1 with watts := e.2.1, temp := e.2.2 }) s)

/-- R467 obj 0x4000:3, :4: the mean of the last 1 ms and the largest sample of the last second. -/
def meanPower (s : State) : Nat :=
  let l := s.gov.samples.filter fun e => decide (ageNs s < e.1 + 1000000)
  if l.isEmpty then 0 else (l.foldl (fun n e => n + e.2) 0) / l.length
def peakPower (s : State) : Nat :=
  (s.gov.samples.filter fun e => decide (ageNs s < e.1 + 1000000000)).foldl (fun n e => Nat.max n e.2) 0

/-! ### Coolant values (R453) -/

def coolVal (s : State) (i : Nat) : Int := s.coolant.vals.getD i 0
def coolOk (s : State) (i : Nat) : Bool := !bitAt s.coolant.failed i
/-- R453: one of a pair, by `pick`, of the sensors that have not failed; `d` where both have. -/
def coolPair (s : State) (i j : Nat) (pick : Int → Int → Int) (d : Int) : Int :=
  if coolOk s i then (if coolOk s j then pick (coolVal s i) (coolVal s j) else coolVal s i)
  else if coolOk s j then coolVal s j else d
def iMin (a b : Int) : Int := if a < b then a else b
def iMax (a b : Int) : Int := if a < b then b else a
/-- R453: the lower and the higher flow in 0.01 L/min, DP in Pa, the higher inlet and outlet temperature in 1/16 °C. -/
def lowFlow (s : State) : Int := coolPair s 0 1 iMin (iMin (coolVal s 0) (coolVal s 1))
def highFlow (s : State) : Int := coolPair s 0 1 iMax (iMax (coolVal s 0) (coolVal s 1))
def coolDp (s : State) : Int := coolVal s 2
def inletT (s : State) : Int := coolPair s 3 4 iMax (iMax (coolVal s 3) (coolVal s 4))
def outletT (s : State) : Int := coolPair s 5 6 iMax (iMax (coolVal s 5) (coolVal s 6))

/-- R456: local coolant temperature of a hot spot: X0 is the region's westmost column. -/
def localT (s : State) (h : Nat) : Int :=
  let x0 := tileX ((spotTiles h).headD 0)
  inletT s + ((x0 : Int) + 2) * (outletT s - inletT s) / 72

/-- R456, R457: the thermal model's figures of a hot spot for a power `p` in 0.1 W. e^(−2) is 0.1353. -/
def modelSpot (s : State) (h p : Nat) : State :=
  let x := spot s h
  let tj := protection s h
  let tl := localT s h
  let busy := decide (50 ≤ p)
  let sample := if p = 0 then 0 else ((tj - tl + 10 * (tj - x.prev)) * 625 / (p : Int)).toNat
  let lo := Nat.min x.mean sample
  let mean := if !busy then x.mean else if x.periods = 0 then sample
    else lo + Config.rthMean x.mean sample % (Nat.max x.mean sample - lo + 1)
  let periods := if busy then x.periods + 1 else x.periods
  let r := if periods < 1000 then Config.factoryRth h (lowFlow s).toNat * 5 / 4 else mean
  let rise : Int := ((r * p * 16 / 10000 : Nat) : Int)
  let cap : Int := 16 * (objD 84 s 0x4010 1 : Nat)
  setSpot s h { x with
    pred := tl + rise + (tj - tl - rise) * 1353 / 10000
    rth := r
    ptherm := ((cap - tl) * 10000 - (tj - tl) * 1353) * 625 / ((r * 8647 : Nat) : Int)
    periods := periods, mean := mean, power := p, prev := tj }

/-- THERMAL_MODEL_TICK (R456): the model runs for the hot spots whose region power is given, in 0.1 W. -/
def execThermalModelTick (powers : List (Nat × Nat)) (s : State) : Host.Outcome State Fault Refusal :=
  if powers.any fun e => decide (576 ≤ e.1) then .fault .noSuchUnit
  else if !computes s then .next s
  else .next (powers.foldl (fun s e => modelSpot s e.1 e.2) s)

/-! ### Hot spots (R454, R455, R458) -/

/-- R458, R238: a region is switched off. -/
def switchOff (s : State) (h code : Nat) : State :=
  if (spot s h).off ≠ 0 then s
  else
    let s := updSpot { s with heatOff := h :: s.heatOff } h fun x => { x with off := code, coolAt := none }
    let s := interruptBanks s (fun k => hotSpot (bankTile k) == h) 0x0608
    let s := abortTests s fun f => hotSpot f.tile == h
    let s := (spotTiles h).foldl (fun s t => if routerState s t = 0 then setRouter s t 1 else s) s
    let s := raiseRc s 5 0x0608 none 2 (h / 2) (h % 2)
    reviewAll (protective s 2 (h / 2) 0x0608)

/-- R458: a region is switched on again, at 1.0 GHz. -/
def switchOn (s : State) (h : Nat) : State :=
  let s := updSpot { s with heatOff := s.heatOff.filter (· != h) } h fun x => { x with off := 0, k := 0 }
  let s := (spotTiles h).foldl (fun s t => if routerState s t = 1 then setRouter s t 0 else s) s
  reviewAll (raise s { sev := 1, cls := 6, unitKind := 2, unit := h / 2, detail := h % 2 })

/-- A hot-spot sensor after one sample: reading, bad samples in a row, failed, since when a failed one reads in range, and whether it has
failed now (R453, R455). -/
structure SensorStep where
  v : Int
  bad : Nat
  fail : Bool
  okAt : Option Nat
  new : Bool

def sensorStep (now : Nat) (old : Int) (bad : Nat) (fail : Bool) (okAt : Option Nat) (x : Option Int) : SensorStep :=
  let good := match x with
    | none => false
    | some v => decide (-640 ≤ v) && decide (v ≤ 2400)
  if fail then
    if good then
      let t := okAt.getD now
      if t + 1000000000 ≤ now then { v := x.getD 0, bad := 0, fail := false, okAt := none, new := false }
      else { v := -640, bad := 0, fail := true, okAt := some t, new := false }
    else { v := -640, bad := bad + 1, fail := true, okAt := none, new := false }
  else if good then { v := x.getD 0, bad := 0, fail := false, okAt := none, new := false }
  else if 2 ≤ bad then { v := -640, bad := bad + 1, fail := true, okAt := none, new := true }
  else { v := x.getD old, bad := bad + 1, fail := false, okAt := none, new := false }

/-- R455, R482: a sensor fault of a hot spot: its cause, and its Kennel event on the cluster. -/
def sensorLost (s : State) (h : Nat) : State := kennelEvent (raiseRc s 3 0x0609 none 2 (h / 2)) 18 2 (h / 2) 0 0x0609

/-- R455: the disagreement fault of a pair after a sample. -/
def disagreeStep (s : State) (h : Nat) : State :=
  let r := FMap.get (0, 0) s.hot h
  let x := spot s h
  let d := if r.1 < r.2 then r.2 - r.1 else r.1 - r.2
  if 80 < d then
    let x := { x with apart := x.apart + 1, agreeAt := none }
    if x.disagree ∨ x.apart < 10 then setSpot s h x
    else
      let est := localT s h + ((x.rth * x.power * 16 / 10000 : Nat) : Int)
      let da := (r.1 - est).natAbs
      let db := (r.2 - est).natAbs
      let s := setSpot s h { x with disagree := true, implA := decide (db < da), implB := decide (da < db) }
      sensorLost s h
  else if x.disagree then
    let t := x.agreeAt.getD (ageNs s)
    if t + 10000000000 ≤ ageNs s then
      raise (setSpot s h { x with apart := 0, disagree := false, implA := false, implB := false, agreeAt := none })
        { sev := 1, cls := 6, unitKind := 2, unit := h / 2 }
    else setSpot s h { x with apart := 0, agreeAt := some t }
  else setSpot s h { x with apart := 0 }

/-- R423: sources 288–311: some hot spot of the die lies above its warning level. -/
def dieCond (s : State) (h : Nat) : State :=
  let d := h / 24
  setCond s (288 + d) ((List.range 24).any fun i => decide ((Config.hotWarning : Int) < protection s (24 * d + i)))

/-- R458: since when a region's reading lies at or below the return temperature. -/
def coolSince (s : State) (h : Nat) : State :=
  let low := decide (protection s h ≤ 16 * (objD 80 s 0x4031 2 : Nat))
  updSpot s h fun x => { x with coolAt := if low then some (x.coolAt.getD (ageNs s)) else none }

/-- R458: a reading of 95 °C, or two failed sensors, switch the region off. -/
def heatCheck (s : State) (h : Nat) : State :=
  let x := spot s h
  if x.failA && x.failB then switchOff s h 4
  else if 1520 ≤ protection s h then switchOff s h 3 else s

/-- HOTSPOT_SAMPLE (R454, R455): the two sensors of a hot spot are sampled, in 1/16 °C; none where a conversion fails. -/
def execHotspotSample (h : Nat) (a b : Option Int) (s : State) : Host.Outcome State Fault Refusal :=
  if 576 ≤ h then .fault .noSuchUnit
  else
    let x := spot s h
    let r := FMap.get (0, 0) s.hot h
    let sa := sensorStep (ageNs s) r.1 x.badA x.failA x.okA a
    let sb := sensorStep (ageNs s) r.2 x.badB x.failB x.okB b
    let s := { s with hot := FMap.set s.hot h (sa.v, sb.v) }
    let s := setSpot s h { x with
      badA := sa.bad, badB := sb.bad, failA := sa.fail, failB := sb.fail, okA := sa.okAt, okB := sb.okAt }
    let s := if sa.new then sensorLost s h else s
    let s := if sb.new then sensorLost s h else s
    let s := coolSince (dieCond (disagreeStep s h) h) h
    .next (if computes s ∨ s.power = .starting then heatCheck s h else s)

/-- R458: a switched-off region meets the return condition: a working sensor and a reading at or below the return temperature. -/
def returnOk (s : State) (h : Nat) : Bool := (spot s h).off == 3 && !((spot s h).failA && (spot s h).failB)
  && decide (protection s h ≤ 16 * (objD 80 s 0x4031 2 : Nat))

/-- REGION_RETURN (R458): the thermal return policy switches a region on again after the hold time. -/
def execRegionReturn (h : Nat) (s : State) : Host.Outcome State Fault Refusal :=
  if 576 ≤ h then .fault .noSuchUnit
  else
    let since := ((spot s h).coolAt).getD (ageNs s)
    if objD 1 s 0x4031 1 = 1 ∧ returnOk s h ∧ since + objD 1 s 0x4031 3 * 1000000000 ≤ ageNs s then .next (switchOn s h)
    else .next s

/-- R458: a write of a hot-spot number to obj 0x4011:9. -/
def regionReturn (s : State) (h : Nat) : Sum Nat State := if returnOk s h then .inr (switchOn s h) else .inl 0x021B

/-- R468 obj 0x4011:7. -/
def spotStatus (s : State) (h : Nat) : Nat :=
  let x := spot s h
  let st := if x.off ≠ 0 then x.off else if x.ft < 64 then 2 else if x.k < 8 then 1 else 0
  put st 3 13 + put (b2n x.failA) 1 12 + put (b2n x.failB) 1 11 + put (b2n x.disagree) 1 10
    + put (b2n x.implA) 1 9 + put (b2n x.implB) 1 8 + x.ft % 128

/-! ### Stacks (R459) -/

def stack (s : State) (k : Nat) : Stack := FMap.get {} s.stackSt k
def setStack (s : State) (k : Nat) (x : Stack) : State := { s with stackSt := FMap.set s.stackSt k x }
/-- R347 obj 0x3120:1. -/
def stackState (s : State) (k : Nat) : Nat := if (stack s k).failed then 2 else if 1360 < (stack s k).temp then 1 else 0
/-- R423: sources 312–351. -/
def stackCond (s : State) (k : Nat) : State := setCond s (312 + k) (stackState s k != 0)

/-- R459: the cap of a stack that reads `v`, in 1/16 °C. -/
def stackCap (cap : Nat) (v : Int) : Nat :=
  if 1520 ≤ v then 2 else if cap = 2 ∧ 1408 < v then 2 else if 1472 ≤ v then 1 else 0

/-- STACK_TEMP_SAMPLE (R326, R459): a stack's sensor is sampled, in 1/16 °C; none where a conversion fails. -/
def execStackTempSample (k : Nat) (v : Option Int) (s : State) : Host.Outcome State Fault Refusal :=
  if 40 ≤ k then .fault .noSuchUnit
  else
    match v with
    | none => .next s
    | some v =>
      let x := stack s k
      let cap := stackCap x.cap v
      let s := stackCond (setStack s k { x with temp := v, cap := cap }) k
      .next (if x.cap = 0 ∧ 0 < cap then protective (raiseRc s 5 0x0612 none 3 k) 3 k 0x0612 else s)

/-! ### Coolant (R453, R460–R463) -/

/-- R453: the range of a coolant sensor; the manual gives the temperature sensors none. -/
def coolRange (i : Nat) (v : Int) : Bool :=
  if i < 2 then decide (0 ≤ v) && decide (v ≤ 6000) else if i = 2 then decide (0 ≤ v) && decide (v ≤ 250000) else true

/-- R453: one coolant sensor after a sample. -/
def coolSensor (s : State) (i : Nat) (v : Option Int) : State :=
  let c := s.coolant
  if bitAt c.failed i then s
  else
    let good := match v with
      | none => false
      | some x => coolRange i x
    if good then { s with coolant := { c with vals := c.vals.set i (v.getD 0), bad := c.bad.set i 0 } }
    else
      let n := c.bad.getD i 0 + 1
      if n < 3 then { s with coolant := { c with bad := c.bad.set i n } }
      else raiseRc { s with coolant := { c with bad := c.bad.set i n, failed := c.failed + 2 ^ i } } 3 0x0609

/-- R453: the drop lies outside 0.5–2.0 times the drop that R451 predicts for a flow in 0.01 L/min: (F ÷ 36)^1.8, to the fifth power. -/
def dpOut (f dp : Nat) : Bool :=
  decide (dp ^ 5 * 3600 ^ 9 < 40000 ^ 5 * f ^ 9) || decide (160000 ^ 5 * f ^ 9 < dp ^ 5 * 3600 ^ 9)

/-- R453: conditions of sources 421, 422 and 423. -/
def flowLow (s : State) : Bool := decide (lowFlow s < (objD 2700 s 0x4020 4 : Nat))
def dpBad (s : State) : Bool := decide (600 ≤ lowFlow s) && coolOk s 2 && dpOut (lowFlow s).toNat (coolDp s).toNat
def inletBad (s : State) : Bool := decide (inletT s < 288) || decide (640 < inletT s)

/-- R453: a coolant source follows its condition; becoming active raises a cause. -/
def coolSource (s : State) (n : Nat) (b : Bool) : State :=
  let s' := setCond s n b
  if b && !(evSrc s n).raw then raiseRc s' 3 0x060B else s'

/-- R461: the criteria after a sample. -/
def coolCriteria (s : State) : State :=
  let c := s.coolant
  let meters := coolOk s 0 || coolOk s 1
  let dpo := coolOk s 2
  let c1 := if meters && dpo && decide (highFlow s < 600) && decide (coolDp s < 4000) then c.c1 + 1 else 0
  let c2 := if meters && !dpo && decide (highFlow s < 600) then c.c2 + 1 else 0
  let c3 := if !meters && dpo && decide (coolDp s < 4000) then c.c3 + 1 else 0
  { s with coolant := { c with
    c1 := c1, c2 := c2, c3 := c3
    lost := decide (2 ≤ c1) || decide (5 ≤ c2) || decide (5 ≤ c3) || (!meters && !dpo) } }

/-- R463, R511: since when the coolant is good for the end of a hold, and for the wafer's power. DEDUCED: coolant that has recovered and is not good any
more has not recovered. -/
def coolGood (s : State) : State :=
  let gate := !flowLow s && !inletBad s
  let good := gate && !dpBad s && coolOk s 2
  let c := s.coolant
  { s with coolant := { c with
    st := if c.st = 3 ∧ good = false then 2 else c.st
    goodAt := if good then some (c.goodAt.getD (ageNs s)) else none
    gateAt := if gate then some (c.gateAt.getD (ageNs s)) else none } }

/-- R462: what a coolant-loss stop and a controlled stop do at once: steps that have not reached their commit point are discarded with
RC_COOLANT_STOP, bank operations are interrupted, and the module enters its hold. -/
def stopCompute (s : State) : State :=
  let s := { s with power := .hold, coolant := { s.coolant with st := 2, stopAt := ageNs s, goodAt := none } }
  let s := (List.range 16).foldl (fun s p =>
    match stepOf s p with
    | none => s
    | some r => if r.committed then s else dropRuns (engineFault s p 0x060A) p) s
  abortTests (interruptBanks s (fun _ => true) 0x060A) fun _ => true

/-- R461, R462: a coolant-loss stop is declared. -/
def coolantStop (s : State) : State :=
  let s := stopCompute (raiseRc s 6 0x060A)
  protective (addObj s 0x4020 10 1 0 32) 0 0 0x060A

/-- The samples of the seven coolant sensors and what follows from them, but for the stop. -/
def coolantSampled (s : State) (v : List (Option Int)) : State :=
  let s := (List.range 7).foldl (fun s i => coolSensor s i (v.getD i none)) s
  let s := coolSource s 421 (flowLow s)
  let s := coolSource s 422 (dpBad s)
  let s := coolSource s 423 (inletBad s)
  coolGood (coolCriteria s)

/-- COOLANT_RECOVERED (R463): in a hold, flow, pressure drop and inlet have been good for 10 s. -/
def execCoolantRecovered (s : State) : Host.Outcome State Fault Refusal :=
  match s.coolant.goodAt with
  | some t =>
    if s.power = .hold ∧ s.coolant.st = 2 ∧ t + 10000000000 ≤ ageNs s then
      .next (raise { s with coolant := { s.coolant with st := 3 } } { sev := 1, cls := 6 })
    else .next s
  | none => .next s

/-- R463: a write of 1 to obj 0x4020:9: the hold ends; the regions' clocks start at 1.0 GHz. -/
def resume (s : State) : Sum Nat State :=
  if s.power ≠ .hold then .inl 0x021B
  else if s.coolant.st ≠ 3 then .inl 0x060D
  else .inr (reviewAll { s with power := .ready, coolant := { s.coolant with st := 0 } })

/-- R467 obj 0x4020:7: capped by coolant where some region is capped for heat. -/
def coolantState (s : State) : Nat :=
  if s.coolant.st = 0 ∧ (List.range 288).any (capBinds s) then 1 else s.coolant.st

/-! ### Relays (R465) -/

/-- R465: a sensor fault is outstanding. -/
def sensorFault (s : State) : Bool :=
  s.coolant.failed != 0 || s.leaks.failed != 0 || s.spots.any fun e => e.2.failA || e.2.failB || e.2.disagree
/-- R465: the 12 V standby rail is present. -/
def standbyRail (s : State) : Bool := s.power != .off
/-- R465: the MAJOR relay is open. -/
def majorOpen (s : State) : Bool :=
  !standbyRail s || s.power == .hold || s.coolant.st != 0 || s.leaks.wet != 0 || (!(feed s 0).usable && !(feed s 1).usable)
/-- R465: the MINOR relay is open. -/
def minorOpen (s : State) : Bool :=
  !standbyRail s || feedCode (feed s 0).volts != 3 || feedCode (feed s 1).volts != 3 || decide (bricksIn s < 5)
    || s.blockSt.any (fun e => e.2 == 2) || !s.heatOff.isEmpty || sensorFault s

end Sys2Proof.Machine
end

