-- ==== Sys2Proof/Machine/Repair.lean ====
section
/-! DEFINITION. Failures of the fabric and of HBM (R219, R223, R240, R345, R346, R490) and field tests (R485–R488). -/
namespace Sys2Proof.Machine

/-! ### The fabric -/

/-- R223, R240: a link or lane segment is declared failed at a port of a router: what was to cross it is held. -/
def linkFailed (s : State) (t port : Nat) : State :=
  if bitAt (failedPorts s t) port then s
  else
    let s := cutRoutes s (setObj s 0x3102 3 (failedPorts s t + 2 ^ port) t)
    reviewAll <| raiseRc (kennelEvent s 9 1 t 0 0x0705) 3 0x0705 none 1 t port

/-- FLIT_CRC_ERROR (R223): tile `t`'s router finds an error in a flit on a port and asks for it again; `again` says that the flit was
itself a retry; no event where the port has no link (R217). -/
def execFlitCrcError (t port : Nat) (again : Bool) (s : State) : Host.Outcome State Fault Refusal :=
  if !tileOk t || !hasLink t port then .fault .noSuchUnit
  else
    let n := if again then FMap.get 0 s.retries (t * 8 + port) + 1 else 0
    let s := { s with retries := FMap.set s.retries (t * 8 + port) n }
    .next (if 8 ≤ n then linkFailed s t port else addObj s 0x3102 2 1 t)

/-- ROUTER_FAIL (R240): a tile's router fails. -/
def execRouterFail (t : Nat) (s : State) : Host.Outcome State Fault Refusal :=
  if !tileOk t then .fault .noSuchUnit else .next (routerFail s t)

/-- REFERENCE_FAIL (R219): the reference of LD0 (0) or of LD2 (1) fails. -/
def execReferenceFail (r : Nat) (s : State) : Host.Outcome State Fault Refusal :=
  if 2 ≤ r then .fault .noSuchUnit
  else if bitAt s.refDown r then .next s
  else
    let used := objD 0 s 0x3110 1
    let s := { s with refDown := s.refDown + 2 ^ r }
    if used ≠ r then .next s
    else
      let s := setCond s 431 true
      if s.refDown = 3 then .next (raise (setObj s 0x3110 1 2) { sev := 6, cls := 7 })
      else .next (addObj (setObj s 0x3110 1 (1 - r)) 0x3110 2 1 0 32)

/-! ### HBM -/

/-- R346: a stack enters the failed state, and every partition with a region on it faults. -/
def stackFail (s : State) (k : Nat) : State :=
  if (stack s k).failed then s
  else
    let s := stackCond (setStack s k { stack s k with failed := true }) k
    let s := raiseRc s 4 0x070A none 3 k
    (List.range 16).foldl (fun s p =>
      if (part s p).place.hregs.any (fun r => r.stackIds.contains k) then engineFault s p 0x070A else s) s

/-- HBM_PATROL (R345): the patrol scrub reads extent `e` of stack `k` and finds sectors that it corrects and sectors, by number in
the extent, that it cannot correct. -/
def execHbmPatrol (k e corrected : Nat) (bad : List Nat) (s : State) : Host.Outcome State Fault Refusal :=
  if 40 ≤ k ∨ 17166 ≤ e then .fault .noSuchUnit
  else
    let s := addObj s 0x3120 2 corrected k
    .next (bad.foldl (fun s i =>
      let f := k * stackBytes + e * extentBytes + 32 * (i % 65536)
      if hbmPoisoned s f then s
      else
        let s := addObj { s with hbmErr := FMap.set s.hbmErr f 1 } 0x3120 3 1 k
        let s := kennelEvent (raiseRc s 3 0x070A none 3 k e) 13 3 k 0 0x070A
        if 2 ≤ kState s 3 k then stackFail s k else s) s)

/-- MEMORY_BRIDGE_FAIL (R490): a memory bridge fails: its four stacks enter the failed state. -/
def execMemoryBridgeFail (m : Nat) (s : State) : Host.Outcome State Fault Refusal :=
  if 10 ≤ m then .fault .noSuchUnit
  else .next ([4 * m, 4 * m + 1, 4 * m + 2, 4 * m + 3].foldl stackFail (setCond s (400 + m) true))

/-! ### Field tests -/

/-- R260: a tile is healthy. -/
def tileHealthy (s : State) (t : Nat) : Bool :=
  kHealthy s 1 t && failedPorts s t == 0 && routerState s t != 3 && decide (blockState s (clusterOf t) < 2)

/-- R485: the tiles of a die, in ascending address. -/
def dieTiles (d : Nat) : List Nat := (List.range 12).flatMap fun i => clusterTiles (12 * d + i)

/-- A tile that the placer's running job programs. -/
def placing (s : State) (t : Nat) : Bool := s.jobs.any fun j => j.begun && j.work.any fun w => w.tile == t

/-- R485: a tile may be tested: healthy, unowned and not dark, no other test on its die, and 4 power units free in its cluster. -/
def testable (s : State) (t : Nat) : Bool :=
  tileHealthy s t && (ownerOf s t).isNone && !placing s t && !tileDark s t && (FMap.find s.ftests (dieOf t)).isNone
    && decide (grantsOn s (fun x => clusterOf x == clusterOf t) + 4 ≤ clusterCap s (clusterOf t))

/-- R486: VPGM covers a full test after every other request. -/
def fullCovered (s : State) (t : Nat) : Bool :=
  s.vpgmWait.isEmpty && decide (drawing s none + 64 ≤ 4000) && decide (drawing s (some (clusterOf t)) + 64 ≤ 80)
    && !s.vpgmLost.contains (clusterOf t)

/-- Starts a field test. -/
def startTest (s : State) (t : Nat) (full asked : Bool) : State :=
  { s with
    ftests := FMap.set s.ftests (dieOf t) { tile := t, full := full, asked := asked }
    ftLast := if asked then s.ftLast else FMap.set s.ftLast (dieOf t) (t + 1)
    ftLight := FMap.set s.ftLight t (ageNs s)
    ftFull := if full then FMap.set s.ftFull t (ageNs s) else s.ftFull }

/-- R485: the next tile of a die in rotation that is due. -/
def nextTest (s : State) (d : Nat) (due : Nat → Bool) : Option Nat :=
  let ts := dieTiles d
  let from_ := FMap.get 0 s.ftLast d
  (ts.filter (fun t => decide (from_ ≤ t)) ++ ts.filter (fun t => decide (t < from_))).find? fun t =>
    tileHealthy s t && (ownerOf s t).isNone && due t

/-- R485: a test of a period of `ns` is due. -/
def testDue (s : State) (m : FMap Nat) (ns t : Nat) : Bool :=
  match FMap.find m t with
  | none => true
  | some a => decide (a + ns ≤ ageNs s)

/-- FTEST_LIGHT_DUE (R485): under the policy, a light test of the die's next tile in rotation that is due starts. -/
def execFtestLightDue (d : Nat) (s : State) : Host.Outcome State Fault Refusal :=
  if 24 ≤ d then .fault .noSuchUnit
  else if s.power ≠ .ready ∨ objD 1 s 0x7030 1 = 0 then .next s
  else
    match nextTest s d (testDue s s.ftLight (objD 24 s 0x7030 2 * 3600000000000)) with
    | none => .next s
    | some t => .next (if testable s t then startTest s t false false else s)

/-- FTEST_FULL_DUE (R485, R486): under the policy, a full test of the die's next tile in rotation that is due starts. -/
def execFtestFullDue (d : Nat) (s : State) : Host.Outcome State Fault Refusal :=
  if 24 ≤ d then .fault .noSuchUnit
  else if s.power ≠ .ready ∨ objD 1 s 0x7030 1 = 0 then .next s
  else
    match nextTest s d (testDue s s.ftFull (objD 180 s 0x7030 3 * 86400000000000)) with
    | none => .next s
    | some t => .next (if testable s t && fullCovered s t then startTest s t true false else s)

/-- FTEST_DONE (R487): the test of a die ends; `part` names the row of R486 that differed, from 1, or is 0. A first difference repeats
the test. -/
def execFtestDone (d part : Nat) (s : State) : Host.Outcome State Fault Refusal :=
  if 24 ≤ d then .fault .noSuchUnit
  else
    match FMap.find s.ftests d with
    | none => .next s
    | some f =>
      if part ≠ 0 ∧ !f.again then .next { s with ftests := FMap.set s.ftests d { f with again := true, part := part } }
      else
        let s := { s with ftests := FMap.del s.ftests d }
        let s := if f.full then testedBanks s f.tile .empty else s
        let s := kennelAdd s { typ := 7, ukind := 1, unit := f.tile, detail := part * 256 + b2n (part != 0) }
        .next (if part = 0 then
            addObj (if f.again then kennelCorrected s 1 f.tile else s) 0x7030 6 1
          else raiseRc (kennelEvent (addObj s 0x7030 7 1) 15 1 f.tile 0 0x070E) 3 0x070E none 1 f.tile part)

/-- R488: a write to obj 0x7030:5: a tile address, with bit 16 set for a full test. -/
def requestTest (s : State) (v : Nat) : Sum Nat State :=
  let t := v % 65536
  if s.power ≠ .ready then .inl 0x021E
  else if !tileOk t || v / 131072 != 0 then .inl 0x012A
  else if (ownerOf s t).isSome || !tileHealthy s t || (FMap.find s.ftests (dieOf t)).isSome then .inl 0x021D
  else .inr (startTest s t (bitAt v 16) true)

end Sys2Proof.Machine
end

