-- ==== Sys2Proof/Machine/Values.lean ====
section
/-! DEFINITION. The values that parameters read as (R386, R388, R400 and the parameter tables): stored values, and the values that the
device forms from its state; with the healthy counts and spares of the dies (R260, R273). -/
namespace Sys2Proof.Machine

/-! ### Healthy tiles and spares (R260, R273) -/

/-- R260: H of a die. -/
def dieH (s : State) (d : Nat) : Nat := ((dieTiles d).filter (tileHealthy s)).length
/-- R260: the healthy tiles of a die that are not owned. -/
def dieSpares (s : State) (d : Nat) : List Nat := (dieTiles d).filter fun t => tileHealthy s t && (ownerOf s t).isNone
/-- R264 obj 0x5010:2: the grants reserved by all partitions. -/
def reservedGrants (s : State) : Nat :=
  (s.parts.map fun e => (e.2.place.tiles.map (·.grant)).foldl (· + ·) 0).foldl (· + ·) 0

/-! ### HBM extents (R328, R331, R347) -/

/-- R328: extents 0–354 of a stack are the device's. -/
def firstExtent : Nat := 355
def stackExtents : Nat := 17166
/-- The extents of a stack that regions hold. -/
def usedExtents (s : State) (k : Nat) : List Nat :=
  s.parts.flatMap fun e => e.2.place.hregs.flatMap fun r =>
    ((r.stackIds.zip r.extents).filter fun x => x.1 == k).flatMap (·.2)
def freeExtents (s : State) (k : Nat) : Nat := stackExtents - firstExtent - (usedExtents s k).length
/-- R347: stacks not failed. -/
def goodStacks (s : State) : List Nat := (List.range 40).filter fun k => !(stack s k).failed

/-! ### Selectors and sessions -/

/-- R388: a session's own value of a selector. -/
def selValue (s : State) (ses idx el : Nat) : Nat :=
  FMap.get (((objDesc idx el).map (·.dflt)).getD 0) (session s ses).sel (idx * 256 + el)

/-- R358: the sessions that count, in order of identifier. -/
def counted (s : State) : List Nat := (s.sessions.filter fun e => decide (1 ≤ e.2.st) && e.1 != console).map (·.1)

/-! ### Attention (R406–R408) -/

/-- R406: a cause as its 256-bit record. -/
def causeRecord (c : Cause) : Nat :=
  put 1 8 248 + put c.sev 3 245 + put c.cls 4 241 + put (b2n c.part.isSome) 1 240 + put (c.part.getD 0) 4 236 + put c.reason 16 220
    + put c.object 24 196 + put c.unit 16 180 + put c.unitKind 4 176 + put c.cause 32 128 + put c.time 64 64 + put c.detail 64 0

/-- R407: a cause is visible to a session's credential. -/
def causeVisible (s : State) (ses : Nat) (c : Cause) : Bool :=
  match c.part with
  | none => hasMread s ses
  | some p => hasRead s ses p

/-- R408: the cause that a number names, while it is held and visible. -/
def heldCause (s : State) (ses n : Nat) : Option Cause := s.attn.log.find? fun c => c.cause == n && causeVisible s ses c

/-! ### Kennel (R481, R484) -/

/-- R481: the 64 bytes of a Kennel record. -/
def kennelRecord (r : KRec) : List Byte :=
  let w := put 1 8 504 + put r.typ 8 496 + put r.ukind 4 492 + put r.unit 16 476 + put r.sub 8 468 + put r.kind 8 460 + put r.reason 16 444
    + put r.cls 4 440 + put r.st 4 436 + put r.count 8 428 + put r.time 64 320 + put r.rtc 64 256 + put r.powerOn 32 224 + put r.recNo 64 160
    + put r.detail 128 32
  leBytes 64 (w + crc32 (leBytes 64 w))

/-- The unit that obj 0x7010:0 selects, as a key of the summary store. -/
def unitKey (v : Nat) : Nat := kKey (fld v 19 16) (v % 65536) (if bitAt v 28 then fld v 27 20 else 0)

/-- A Kennel record by number, in the block being gathered or in the ring. -/
def kennelFind (s : State) (n : Nat) : Option KRec := (s.kennel.gathering ++ s.kennel.ring).find? fun r => r.recNo == n

/-! ### States as codes -/

/-- R17, R51 codes of a partition state. -/
def PState.code : PState → Nat
  | .free => 0 | .loading => 1 | .loaded => 2 | .idle => 3 | .armed => 4 | .stepping => 5 | .stalled => 6 | .disabling => 7 | .faulted => 8

/-- R496. -/
def Power.code : Power → Nat
  | .off => 0 | .standby => 1 | .attended => 2 | .starting => 3 | .ready => 4 | .stopping => 5 | .hold => 6 | .recovery => 7

def card (s : State) (c : Nat) : Card := (FMap.find s.cards c).getD { st := c }
def setCard (s : State) (c : Nat) (x : Card) : State := { s with cards := FMap.set s.cards c x }


/-! ### Reading (R400) -/

/-- What a read gives: a refusal, or a length in bytes and a value. -/
abbrev Read := Sum Nat (Nat × Nat)

def num (n v : Nat) : Read := .inr (n, v % 2 ^ (8 * n))
def bytesRead (l : List Byte) : Read := .inr (l.length, leNat l)
def ofStr (t : String) : List Byte := t.toList.map fun c => BitVec.ofNat 8 c.toNat

/-- The mean of the input power over the last 1 ms and its largest value in the last second (R467). -/
def inputMean (s : State) : Nat :=
  let l := s.gov.samples.filter fun e => decide (ageNs s < e.1 + 1000000)
  if l.isEmpty then 0 else (l.map (·.2)).foldl (· + ·) 0 / l.length
def inputPeak (s : State) : Nat := ((s.gov.samples.filter fun e => decide (ageNs s < e.1 + 1000000000)).map (·.2)).foldl Nat.max 0

/-- Values that the partition families form from the state; none for a stored value. -/
def readPart (s : State) (fam p el u : Nat) : Option Nat :=
  let x := part s p
  let pl := x.place
  let g := kvGroup pl u
  match fam, el with
  | 0x51, 1 => some x.st.code | 0x51, 2 => some (b2n x.enable) | 0x51, 3 => some x.stepCounter | 0x51, 4 => some (b2n pl.dual)
  | 0x51, 30 => some (p * 1024) | 0x51, 31 => some ((pl.tiles.map (·.grant)).foldl (· + ·) 0) | 0x51, 32 => some pl.lanes.length
  | 0x51, 33 => some ((pl.flows.map fun f => 16 * f.rate).foldl (· + ·) 0)
  | 0x53, e => some (queue s (8 * p + (e - 1))).waiting.length
  | 0x55, 5 => some (if s.jobs.any fun j => j.part == p && !j.isLoad then 3 else
      match x.st with
      | .free => 0
      | .loading => 1
      | _ => 2)
  | 0x55, 9 => some (((ptile pl u).map (·.tile)).getD 0xFFFF)
  | 0x55, 10 => some ((((List.range 64).map fun i => put (((ptile pl u).bind (·.arrays[i]?)).getD 0xFF) 8 (8 * i)).foldl (· + ·) 0))
  | 0x55, 11 => some pl.hub
  | 0x56, 2 => some g.nset
  | 0x56, 3 => some (FMap.get g.nset (part s p).freeAt u)
  | 0x56, 4 => some ((List.range g.nset).filter fun n => decide (1 < setRef s p u n)).length
  | 0x56, 11 => some (descBase pl) | 0x56, 12 => some (tableBase pl)
  | 0x58, 2 => some pl.floor | 0x58, 5 => some (s.staged.filter fun e => e.1 == p).length
  | 0x58, 6 => some ((pl.hregs.map fun r => (r.extents.map (·.length)).foldl (· + ·) 0).foldl (· + ·) 0 * extentBytes)
  | 0x63, 10 => some (group s p).epoch | 0x63, 11 => some (group s p).st | 0x63, 12 => some (group s p).confirmed
  | _, _ => none

/-- Values that the module families form from the state; none for a stored value. -/
def readModule (s : State) (ses idx el u : Nat) : Option Nat :=
  match idx, el with
  | 0x1000, 4 => some Config.moduleId | 0x6000, 1 => some Config.moduleId
  | 0x1000, 5 => some 1 | 0x1000, 6 => some s.fw.dict | 0x1000, 7 => some 0x10
  | 0x2010, 2 => some (match portState s (48 + u) with
      | 0 => 0
      | 3 => 2
      | _ => 1)
  | 0x2010, 3 => some (Config.portMac (48 + u)) | 0x6010, 3 => some (Config.portMac u)
  | 0x2400, 1 => some s.modeRec.st | 0x2400, 2 => some s.modeRec.kind | 0x2400, 3 => some s.modeRec.part | 0x2400, 4 => some s.modeRec.value
  | 0x2400, 5 => some s.modeRec.epoch | 0x2400, 6 => some s.modeRec.reason | 0x2400, 7 => some s.modeRec.failed
  | 0x2400, 8 => some s.modeRec.units.length
  | 0x2400, 9 => some (s.modeRec.units.filter fun x => x.st == 2 || x.st == 3 || x.st == 6).length
  | 0x2400, 10 => some (s.modeRec.units.filter fun x => x.st == 3).length
  | 0x2401, 1 => (s.modeRec.units[u]?).map (·.ident) | 0x2401, 2 => (s.modeRec.units[u]?).map (·.st)
  | 0x2401, 3 => (s.modeRec.units[u]?).map (·.reason)
  | 0x2401, 4 => (s.modeRec.units[u]?).map fun x => if x.st = 3 then s.modeRec.value else
      match s.modeRec.kind with
      | 1 => objD 0 s (pidx 0x51 s.modeRec.part) 34
      | 2 => objD 0xFF s (pidx 0x51 s.modeRec.part) 35
      | _ => objD 0 s 0x4000 1
  | 0x3100, 1 => some (tilePowered s u) | 0x3102, 7 => some (tileX u * 256 + tileY u)
  | 0x3120, 1 => some (stackState s u) | 0x3120, 4 => some (freeExtents s u) | 0x3120, 5 => some (Config.deliveredRate u s.refTicks)
  | 0x4000, 2 => some (moduleCap s) | 0x4000, 3 => some (inputMean s) | 0x4000, 4 => some (inputPeak s) | 0x4000, 5 => some (s.gov.energy / 10000)
  | 0x4000, 6 => some s.gov.bus | 0x4000, 7 => some (moduleFactor s) | 0x4000, 8 => some (s.gov.below / 10)
  | 0x4001, 1 => some (ofSigned 16 (feed s u).volts) | 0x4001, 2 => some (feed s u).ma | 0x4001, 3 => some (feedCode (feed s u).volts)
  | 0x4002, 1 => some (brick s u).st | 0x4002, 2 => some (brick s u).watts | 0x4002, 3 => some (brick s u).feed | 0x4002, 4 => some (brick s u).temp
  | 0x4002, 5 => some (((brick s u).hours + (match (brick s u).since with
      | some t => ageNs s - t
      | none => 0)) / 3600000000000)
  | 0x4011, 1 => some (ofSigned 16 (FMap.get (0, 0) s.hot u).1) | 0x4011, 2 => some (ofSigned 16 (FMap.get (0, 0) s.hot u).2)
  | 0x4011, 3 => some (ofSigned 16 (protection s u)) | 0x4011, 4 => some (ofSigned 16 (spot s u).pred) | 0x4011, 5 => some (spot s u).rth
  | 0x4011, 6 => some (ofSigned 16 (spot s u).ptherm) | 0x4011, 7 => some (spotStatus s u) | 0x4011, 8 => some (1000 + (spot s u).k * 3125 / 100)
  | 0x4012, 1 => some (ofSigned 16 (stack s u).temp) | 0x4012, 2 => some (stack s u).cap
  | 0x4020, 1 => some (ofSigned 16 (inletT s)) | 0x4020, 2 => some (ofSigned 16 (outletT s)) | 0x4020, 3 => some (lowFlow s).toNat
  | 0x4020, 5 => some (coolDp s).toNat | 0x4020, 6 => some s.coolant.failed | 0x4020, 7 => some (coolantState s)
  | 0x4030, 3 => some (s.leaks.wet + 16 * s.leaks.failed)
  | 0x4040, 2 => some s.power.code | 0x4040, 5 => some s.life.lastMs | 0x4040, 6 => some (rtcNow s) | 0x4040, 7 => some (b2n s.rtcValid)
  | 0x4040, 8 => some s.powerOns | 0x4040, 9 => some s.life.interval | 0x4050, 1 => some (ofSigned 16 s.life.lastHot)
  | 0x4100, 1 => some (blockState s u) | 0x4100, 2 => some (block s u).phases | 0x4100, 3 => some (clusterCap s u) | 0x4100, 4 => some (block s u).vlog
  | 0x4100, 5 => some (block s u).ma | 0x4100, 6 => some (block s u).varr | 0x4100, 7 => some (block s u).dr
  | 0x4100, 8 => some (b2n ((tiesCarried s u).any fun d => primaryTie d == u) + 2 * b2n ((tiesCarried s u).any fun d => primaryTie d != u)
      + 4 * b2n (tieOf s u).isSome)
  | 0x4102, 1 => some (drawing s none)
  | 0x5000, 1 => some s.images.length | 0x5000, 3 => (s.images[u]?).map (·.1) | 0x5000, 4 => (s.images[u]?).map (·.2.len)
  | 0x5000, 5 => some (Config.storeBytes - (s.images.map (·.2.len)).foldl (· + ·) 0 - (s.uploads.map (·.len)).foldl (· + ·) 0)
  | 0x5010, 2 => some (reservedGrants s)
  | 0x5010, 4 => some (((List.range 24).map fun d => Nat.min 88 (dieH s d - 1)).foldl (· + ·) 0)
  | 0x5011, d => some (dieSpares s (d - 1)).length | 0x5012, d => some (dieH s (d - 1))
  | 0x5020, 2 => some (((List.range 40).map (freeExtents s)).foldl (· + ·) 0 * extentBytes) | 0x5020, 4 => some (goodStacks s).length
  | 0x5030, 3 => some ((s.parts.map fun e => match e.2.saved with
      | none => 0
      | some v => (v.pages.map (·.2.length)).foldl (· + ·) 0).foldl (· + ·) 0)
  | 0x6010, 8 => some (if s.refTicks = 0 then 0 else Config.fecCount u 0 s.refTicks % 2 ^ 64)
  | 0x6010, 9 => some (if s.refTicks = 0 then 0 else Config.fecCount u 1 s.refTicks % 2 ^ 64)
  | 0x6010, 2 => some (portState s u) | 0x6010, 12 => some (if (port s u).present then (port s u).cls else 0)
  | 0x6020, 1 => some (session s ((counted s).getD u 0)).st
  | 0x6020, 2 => some ((session s ((counted s).getD u 0)).kind % 3) | 0x6020, 3 => some (0x10 + (session s ((counted s).getD u 0)).vmin)
  | 0x6020, 4 => some (session s ((counted s).getD u 0)).port | 0x6020, 5 => some (session s ((counted s).getD u 0)).resent
  | 0x7000, 1 => some s.kennel.recNo | 0x7000, 2 => some (((s.kennel.ring.getLast?).map (·.recNo)).getD 0)
  | 0x7010, 1 => some (kUnit s (unitKey u)).st | 0x7010, 2 => some (kUnit s (unitKey u)).total | 0x7010, 3 => some (kUnit s (unitKey u)).lastKind
  | 0x7010, 4 => some (kUnit s (unitKey u)).lastRec | 0x7010, 5 => some (kUnit s (unitKey u)).corrected
  | 0x7020, 8 => FMap.find s.verdicts u
  | 0x7030, 9 => some (((List.range 24).map fun d => put (((FMap.find s.ftests d).map (·.tile)).getD 0xFFFF) 16 (16 * d)).foldl (· + ·) 0)
  | 0x7040, 1 => some (card s u).st | 0x7040, 3 => some (card s u).mirror
  | 0x8000, 1 => some s.fw.st | 0x8000, 2 => some ((s.fw.ranges.map (·.2)).foldl (· + ·) 0)
  | 0x8000, 3 => some ((s.fw.switched.map fun x => 2 ^ x).foldl (· + ·) 0) | 0x8000, 4 => some s.fw.floor
  | 0x8010, 1 => some (Config.idcode u)
  | 0x9000, 1 => some (s.events.filter fun e => e.2.target == 1 && decide (2 ≤ e.2.st)).length
  | 0x9000, 4 => some (b2n s.life.retained)
  | 0x9010, 1 => some s.attn.newest | 0x9010, 2 => some (((s.attn.log.getLast?).map (·.cause)).getD 0)
  | 0x9010, 4 => (heldCause s ses u).map causeRecord
  | 0x9200, n => some (put (b2n (evSrc s n).raw) 1 7 + put (evSrc s n).st 2 5 + put (b2n (evSrc s n).overrun) 1 4)
  | 0x9201, n => some (put (b2n (evSrc s (256 + n)).raw) 1 7 + put (evSrc s (256 + n)).st 2 5 + put (b2n (evSrc s (256 + n)).overrun) 1 4)
  | 0x9300, n => some (evSrc s n).count | 0x9301, n => some (evSrc s (256 + n)).count
  | 0x8000, n => if 16 ≤ n ∧ n ≤ 24 then some (FMap.get 0 s.fw.run (n - 16)) else if 32 ≤ n ∧ n ≤ 40 then some (FMap.get 0 s.fw.other (n - 32)) else none
  | 0x5030, n => if 16 ≤ n ∧ n < 32 then some (b2n (part s (n - 16)).saved.isSome) else none
  | _, _ => none

/-- R530, obj 0x56pp:14 and :15: the selected sequence. -/
def readSeq (s : State) (p el u : Nat) : Nat :=
  match seqOf s p u with
  | none => if el = 14 then 0xFFFF else 0
  | some x => if el = 14 then x.handle else (atBoundary s p u x).len

/-- The value of a parameter that exists, for unit `u`; `pend` asks for the pending value (R390). -/
def objRead (s : State) (ses idx el u : Nat) (pend : Bool) (d : ObjDesc) : Read :=
  let n := if d.typ < 10 then typLen d.typ else d.max
  let fam := famOf idx
  let unit := if d.sel.isSome then u else 0
  if d.selector then num n (selValue s ses idx el)
  else if idx = 0x1000 ∧ el ≤ 3 then bytesRead (if el = 1 then ofStr "Plorraum" else if el = 2 then ofStr "DQW-1" else Config.serial)
  else if idx = 0x7000 ∧ el = 4 then
    match kennelFind s u with
    | none => .inl 0x0311
    | some r => bytesRead (kennelRecord r)
  else if fam = 0x56 ∧ 14 ≤ el then num n (readSeq s (idx % 256) el u)
  else if pend && d.acc == .rwe && (FMap.find s.pend (objKey idx el unit)).isSome then num n (FMap.get 0 s.pend (objKey idx el unit))
  else
    match (if fam ≠ 0 then readPart s fam (idx % 256) el u else readModule s ses idx el u) with
    | some v => num n v
    | none =>
      if idx = 0x2401 ∨ (idx = 0x5000 ∧ 3 ≤ el) then .inl 0x012A
      else if (idx = 0x9010 ∧ el = 4) ∨ (idx = 0x7020 ∧ el = 8) then .inl 0x0311
      else num n (objD d.dflt s idx el unit)

end Sys2Proof.Machine
end

