-- ==== Sys2Proof/Machine/Broler.lean ====
section
/-! DEFINITION. Sessions and windows: closing a session (R361), acknowledgements (R181, R362, R363), the state of windows (R365, R371), and
opening link sessions (R359, R373). -/
namespace Sys2Proof.Machine

/-! ### Windows (R365, R371) -/

def window (s : State) (p w : Nat) : Window := FMap.get {} s.windows (p * 256 + w)
def setWindow (s : State) (p w : Nat) (x : Window) : State := { s with windows := FMap.set s.windows (p * 256 + w) x }

/-- R371: announces a window to every rank of the group. -/
def announce (s : State) (p w : Nat) : State :=
  let x := window s p w
  (groupSessions s p).foldl (fun s ses => emit s (.cascade ses 12 [w, x.epoch, x.st])) s

/-- R365: a CLOSING window into which every accepted write has landed or been abandoned is CLOSED, and its WCLOSE completes. -/
def windowSettle (s : State) (p w : Nat) : State :=
  if (window s p w).st ≠ 2 || s.inWrites.any (fun x => x.part == p && x.win == w && !x.refused) then s
  else
    let s := announce (setWindow s p w { window s p w with st := 0 }) p w
    match curCmd s (8 * p + 5) with
    | some (r, c) => if r.begun && cmdOpcode c == 0x51 && fld c 223 208 == w then completeCmd s (8 * p + 5) [] else s
    | none => s

/-! ### Acknowledgements (R181, R362, R363) -/

/-- R181: a session no longer has to acknowledge the records that satisfy a test; a record that no session still has to acknowledge leaves. -/
def ackRecords (s : State) (ses : Nat) (sel : ReplyRec → Bool) : State :=
  { s with replyQ := s.replyQ.map fun e => (e.1, e.2.filterMap fun r =>
      if sel r && r.waitingFor.contains ses then
        let w := r.waitingFor.filter (· != ses)
        if w.isEmpty then none else some { r with waitingFor := w }
      else some r) }

/-- The records whose last byte a segment carries. -/
def segRecord (g : Seg) : Option Nat :=
  match g.msg with
  | .record _ no _ _ => if g.last then some no else none
  | _ => none

/-- R362, R363: an acknowledgement: every segment before `ack` and in the ranges has arrived; the credit moves; what it admits is sent. -/
def ackRx (s : State) (ses c ack credit : Nat) (ranges : List (Nat × Nat)) : State :=
  let x := chan s ses c
  let gone := x.segs.filter fun g => serLt g.seq ack
  let left := (x.segs.filter fun g => !serLt g.seq ack).map fun g =>
    if ranges.any fun r => !serLt g.seq r.1 && !serLt r.2 g.seq then { g with got := true } else g
  let moved := !gone.isEmpty
  let lim := (ack + credit) % 2 ^ 32
  let limit := match x.txLimit with
    | none => lim
    | some l => if serLt l lim then lim else l
  let s := setChan s ses c { x with
    segs := left, txLimit := some limit, expiries := if moved then 0 else x.expiries
    timerAt := if left.any (fun g => serLt g.seq x.txSent) then (if moved then some (nowNs s) else x.timerAt) else none }
  let s := ackRecords s ses fun r => gone.any fun g => segRecord g == some r.no
  flushAll (pump s ses c)

/-- R363: the segments that a selective acknowledgement shows missing are sent again. -/
def resendMissing (s : State) (ses c : Nat) : State :=
  let x := chan s ses c
  let top := (x.segs.filter (·.got)).getLast?
  match top with
  | none => s
  | some g =>
    let miss := x.segs.filter fun m => !m.got && serLt m.seq g.seq && serLt m.seq x.txSent
    if miss.isEmpty || !mayTransmit s ses c then s
    else
      let s := updSession s ses fun y => { y with resent := y.resent + miss.length, lastTx := nowNs s }
      sendSegs s ses c miss

/-! ### Closing (R361) -/

/-- R200, R361: the remote writes that await an answer on a session end. -/
def dropOutWrites (s : State) (ses : Nat) : State :=
  let l := s.outWrites.filter fun w => w.session == ses
  let s := { s with outWrites := s.outWrites.filter fun w => w.session != ses }
  l.foldl (fun s w => match w.queue with
    | some q => refuseCmd s q 0x0504
    | none => s) s

/-- R361, R367: a session reaches CLOSED; a write whose last segment has not arrived is abandoned.
R497: from the last session that closes ATTENDED counts its time. -/
def closeSession (s : State) (ses : Nat) : State :=
  let s := { s with
    sessions := FMap.del s.sessions ses, closed := FMap.set s.closed ses (nowNs s)
    debugQ := s.debugQ.map fun e => (e.1, e.2.map fun r => { r with toSend := r.toSend.filter (· != ses) }) }
  let s := dropOutWrites (ackRecords s ses fun _ => true) ses
  let ws := s.inWrites.filter fun w => w.session == ses && w.last.isNone
  let s := { s with inWrites := s.inWrites.filter fun w => w.session != ses || w.last.isSome }
  let s := if s.sessions.any fun e => e.2.st == 2 then s else { s with life := { s.life with idleAt := ageNs s } }
  ws.foldl (fun s w => windowSettle s w.part w.win) s

/-! ### Identifiers and opening (R358, R359) -/

/-- R358: the lowest identifier from `n` on that is not busy, of the next `fuel` and one. -/
def firstId (busy : Nat → Bool) : Nat → Nat → Nat
  | 0, n => n
  | fuel + 1, n => if busy n then firstId busy fuel (n + 1) else n

/-- R358: the lowest identifier that no session holds and that none has held within 10 s. -/
def freeId (s : State) : Nat :=
  let busy := fun n => (FMap.find s.sessions n).isSome || match FMap.find s.closed n with
    | none => false
    | some t => decide (nowNs s < t + 10000000000)
  firstId busy 65534 1

/-- R359: the 40 bytes of the OPEN of a link session. -/
def openBytes (cred : Nat) (nonce : List Byte) (lpart rpart rank gid : Nat) : List Byte :=
  leBytes 1 0x11 ++ leBytes 1 2 ++ leBytes 2 cred ++ leBytes 4 0 ++ nonce ++ leBytes 1 lpart ++ leBytes 1 rpart ++ leBytes 1 rank
    ++ leBytes 5 0 ++ leBytes 4 gid ++ leBytes 4 0

/-- R396: the lowest credential entry that a link session may use. -/
def linkCred (s : State) : Nat :=
  (((List.range 64).map (· + 1)).find? fun n =>
    let r := objD (2 ^ 120) s 0x2020 n
    bitAt r 119 && bitAt r 112 && (FMap.find s.dict (objKey 0x2021 n 0)).isSome).getD 0

/-- R359, R373: this module opens a link session from a partition to a rank, unless one exists. -/
def openLink (s : State) (p r : Nat) : State :=
  if s.sessions.any (fun e => e.2.kind == 2 && e.2.lpart == p && e.2.rank == r) then s
  else
    let id := freeId s
    let nonce := Config.nonce s.refTicks id
    let cred := linkCred s
    let bytes := openBytes cred nonce p p (ownRank s p) (govD 0 s p (pidx 0x63 p) 1)
    let e := peerEntry s p r
    let x : Session := { kind := 2, cred := cred, opener := true, open_ := bytes, lpart := p, rpart := p, rank := r, udp := bitAt e 63
                         addr := fld e 191 64, group := govD 0 s p (pidx 0x63 p) 1, openedAt := nowNs s, lastRx := nowNs s }
    let s := setSession s id x
    match sendPort s id with
    | none => s
    | some port => sendFrame s port 1 id 0 0 bytes

/-- The ranks that a partition's export records name, the master's rank standing for whichever rank is master (R368). -/
def exportWord (s : State) (p e : Nat) : Nat := govD 0 s p (pidx 0x64 p) (e + 1)
def exportRanks (s : State) (p : Nat) : List Nat :=
  ((List.range 64).map (exportWord s p)).filterMap fun w => if fld w 255 248 = 0 then none else some (fld w 246 243)

/-- R359, R373: a partition opens link sessions to the ranks it must reach whose number exceeds its own. -/
def openLinks (s : State) (p : Nat) : State :=
  let g := group s p
  let rs := (g.master :: g.backup :: exportRanks s p).filter fun r => decide (r < 16) && decide (ownRank s p < r)
  rs.foldl (fun s r => openLink s p r) s

end Sys2Proof.Machine
end

