-- ==== Sys2Proof/Machine/LifeOps.lean ====
section
/-! DEFINITION. The gate of the wafer's power (R509, R511) and the beginnings of the power-on order and of an orderly stop (R497, R498,
R500, R504). -/
namespace Sys2Proof.Machine

/-- An element of a sorted list; insertion sort. -/
def insertInt (x : Int) : List Int → List Int
  | [] => [x]
  | y :: t => if x ≤ y then x :: y :: t else y :: insertInt x t
/-- R509: the median of the samples kept. -/
def median (l : List Int) : Int := let m := l.foldr insertInt []; m.getD (m.length / 2) 0

/-- R511: the parameter of the first condition of the gate that fails, as index × 256 + element; none where the gate is open. -/
def gateFails (s : State) : Option Nat :=
  let good := match s.coolant.gateAt with
    | none => false
    | some t => decide (t + 10000000000 ≤ ageNs s)
  if !(feed s 0).usable && !(feed s 1).usable then some 0x400103
  else if s.leaks.wet ≠ 0 then some 0x403003
  else if s.coolant.lost then some 0x402007
  else if !good then some (if inletBad s then 0x402001 else 0x402003)
  else if s.life.carrier.any fun l => decide (1120 < median l) then some 0x405001
  else none

/-- R87: the unpowered interval goes on while the wafer is off in ATTENDED: reckoned from the power-down, or on from the boot of the cards. -/
def attendedInterval (s : State) : Nat :=
  if s.life.intervalAt ≤ s.life.offAt then (ageNs s - s.life.offAt) / 1000000000
  else s.life.interval + (ageNs s - s.life.intervalAt) / 1000000000

/-- R85, R87, R500 step 2: what the cards settle at a power-on from ATTENDED, which does not boot them: open program-start entries, and the
unpowered interval with its highest temperature. -/
def attendedRecords (s : State) : State :=
  closeEntries { s with life := { s.life with
    interval := Nat.min (attendedInterval s) 0xFFFFFFFFFFFFFFFF, intervalAt := ageNs s, lastHot := s.life.hottest.getD 640 } }

/-- R497, R500: the power-on order begins; step 1 is done with the gate. -/
def enterStarting (s : State) (step : Nat) : State :=
  let s := if step = 3 then attendedRecords s else s
  { s with power := .starting, powerOns := s.powerOns + 1
           life := { s.life with step := step, startAt := ageNs s, overran := false, wake := none } }

/-- R88, R504: an orderly stop begins: 1 STANDBY, 2 ATTENDED or 7 RECOVERY is where it ends. A refresh that the module was woken for no longer sends
it back to standby. -/
def beginStop (s : State) (target : Nat) : State :=
  { s with power := .stopping, life := { s.life with stop := 1, stopAt := ageNs s, stopTo := target, refresh := false } }

/-- R428: the cards sleep: the event controller's state is kept, and every session is closed. -/
def enterStandby (s : State) : State :=
  let s := (s.sessions.map (·.1)).foldl closeSession s
  { s with power := .standby, life := { s.life with retention := true, stop := 0 } }

/-- R498: a write of obj 0x4040:1; a reason, with the failing condition's parameter, where it is refused. -/
def powerTarget (s : State) (v : Nat) : Sum (Nat × Nat) State :=
  match s.power, v with
  | .ready, 1 => .inr (beginStop s 1)
  | .ready, 2 => .inr (beginStop s 2)
  | .attended, 1 => .inr (enterStandby s)
  | .attended, 4 => match gateFails s with
    | some o => .inl (0x0614, o)
    | none => .inr (enterStarting s 3)
  | _, _ => .inl (0x021E, 0x404001)

/-- R491: a write of 1 to obj 0x7040:2: the card hands over the active role and is PREPARED. DEDUCED: a card that is SYNCING is refused too, since the
first condition covers the other card in every state but ACTIVE and STANDBY. -/
def cardPrepare (s : State) (c : Nat) : Sum Nat State :=
  if 1 < (card s (1 - c)).st ∨ (card s c).st = 2 then .inl 0x0316
  else if 3 ≤ (card s c).st then .inr s
  else
    let s := if (card s c).st = 0 then setCard s (1 - c) { card s (1 - c) with st := 0 } else s
    .inr (setCard s c { card s c with st := 3 })

end Sys2Proof.Machine
end

