-- ==== Sys2Proof/Machine/Requests.lean ====
section
/-! DEFINITION. Management requests that read: READ, DESCRIBE and LIST (R387, R388, R398–R400), attention (R408, R409) and the event
controller (R424–R428). -/
namespace Sys2Proof.Machine

/-! ### Serving requests (R397–R399, R496, R524) -/

/-- R496, R500, R513: a controller card holds the active role, so that requests are served: not before step 2 of the power-on order is done; in
RECOVERY Headstock serves them. -/
def cardsUp (s : State) : Bool :=
  s.power == .recovery ||
    (s.power != .off && s.power != .standby && !(s.power == .starting && s.life.step == 2) && ((card s 0).st == 0 || (card s 1).st == 0))

/-- R24, R394, R397: the session is an open host or management session, or the console. -/
def live (s : State) (ses : Nat) : Bool := ses == console || ((session s ses).st == 2 && (session s ses).kind != 2)

/-- R398: the reply to a request that is refused. -/
def refuseReq (s : State) (ses op reqid reason : Nat) (obj : Nat := 0) (item : Nat := 0) : State :=
  reply s { session := ses, op := op, reqid := reqid, reason := reason, failIdx := obj / 256, failElem := obj % 256, failItem := item }

/-- R398: the reply to a request that succeeds. -/
def acceptReq (s : State) (ses op reqid : Nat) (values : List (Nat × Nat × Nat) := []) : State :=
  reply s { session := ses, op := op, reqid := reqid, values := values }

/-- R397: the operations that the console carries. -/
def consoleOp (op : Nat) : Bool := op == 1 || op == 2 || op == 3 || op == 5
/-- R524: the operations that Headstock accepts. -/
def headstockOp (op : Nat) : Bool := op == 1 || (decide (0x40 ≤ op) && decide (op ≤ 0x43))

/-- A request reaches the control plane: nothing is served while no card runs, or to a session that is not open; RECOVERY serves few
operations. -/
def served (s : State) (ses op reqid : Nat) (f : State → State) : Host.Outcome State Fault Refusal :=
  if !cardsUp s || !live s ses || (ses == console && !consoleOp op) then .next s
  else if s.power == .recovery && !headstockOp op then .next (refuseReq s ses op reqid 0x021E)
  else .next (f s)

/-! ### Rights to parameters (R387, R388) -/

def readRight (s : State) (ses idx : Nat) : Bool :=
  if famOf idx ≠ 0 then hasRead s ses (idx % 256) else if 0xF000 ≤ idx then hasDiag s ses else hasMread s ses
def writeRight (s : State) (ses idx : Nat) (d : ObjDesc) : Bool :=
  if d.selector then readRight s ses idx
  else if famOf idx ≠ 0 then hasConfigure s ses (idx % 256)
  else if 0xF000 ≤ idx then hasDiag s ses
  else if idx / 4096 = 8 then hasFirmware s ses else hasMconfig s ses

/-! ### READ (R400) -/

def riIdx (w : Nat) : Nat := fld w 63 48
def riEl (w : Nat) : Nat := fld w 47 40
def riPend (w : Nat) : Bool := bitAt w 39
def riSel (w : Nat) : Bool := bitAt w 38

/-- R388, R400: the unit that an item refers to. -/
def riUnit (s : State) (ses w : Nat) (d : ObjDesc) : Nat :=
  match d.sel with
  | none => 0
  | some k => if riSel w then w % 2 ^ 32 else selValue s ses (k / 256) (k % 256)

/-- R400: a selector value that stands in is legal for the selector. -/
def selLegal (d : ObjDesc) (v : Nat) : Bool :=
  match d.sel with
  | none => true
  | some k => match objDesc (k / 256) (k % 256) with
    | none => true
    | some x => decide (v ≤ x.max) && (k != 0x310000 || tileOk v)

/-- R400: what a read item gives, or why it fails. -/
def readItem (s : State) (ses w : Nat) : Sum Nat (Nat × Nat × Nat) :=
  if fld w 37 32 ≠ 0 then .inl 0x0127
  else
    match objDesc (riIdx w) (riEl w) with
    | none => .inl 0x0128
    | some d =>
      if d.acc = .wo then .inl 0x012B
      else if !readRight s ses (riIdx w) then .inl 0x0204
      else if riSel w && !selLegal d (w % 2 ^ 32) then .inl 0x012A
      else if s.power == .recovery && riIdx w != 0x1000 && riIdx w != 0x8000 then .inl 0x021E
      else
        match objRead s ses (riIdx w) (riEl w) (riUnit s ses w d) (riPend w) d with
        | .inl r => .inl r
        | .inr v => .inr (d.typ, v)

/-- The items of a read in order: the first failure with its number, or every value. -/
def readItems (s : State) (ses : Nat) : List Nat → Nat → Sum (Nat × Nat × Nat) (List (Nat × Nat × Nat))
  | [], _ => .inr []
  | w :: t, i =>
    match readItem s ses w with
    | .inl r => .inl (r, i, w)
    | .inr v => match readItems s ses t (i + 1) with
      | .inl e => .inl e
      | .inr l => .inr (v :: l)

/-- READ (R400): every item is judged before any value is returned; the values are taken at one instant. -/
def execRead (ses reqid : Nat) (items : List Nat) (s : State) : Host.Outcome State Fault Refusal :=
  served s ses 1 reqid fun s =>
    match readItems s ses items 0 with
    | .inl (r, i, w) => refuseReq s ses 1 reqid r (riIdx w * 256 + riEl w) i
    | .inr l => acceptReq s ses 1 reqid l

/-! ### DESCRIBE and LIST (R388, R399, R402) -/

def Access.code : Access → Nat
  | .ro => 0 | .rw => 1 | .wo => 2 | .rwp => 3 | .rwe => 4

/-- R388, R390: the enable bit that governs an RWE parameter, index × 256 + element; a draft link's is that of the target it names. -/
def governor (s : State) (idx el : Nat) : Nat :=
  if famOf idx ≠ 0 then (0x5100 + idx % 256) * 256 + 2
  else if idx = 0x5200 then
    let t := FMap.get (objD 0xFF s 0x5200 (el / 8 * 8 + 2)) s.pend (objKey 0x5200 (el / 8 * 8 + 2) 0)
    if t < 16 then (0x5100 + t) * 256 + 2 else 0
  else if idx = 0x4030 ∨ idx = 0x4031 then idx * 256 + 1 else 0

/-- R388: the 256-bit descriptor. -/
def descriptor (s : State) (idx el : Nat) (d : ObjDesc) : Nat :=
  let n := decide (d.typ < 10)
  put d.typ 4 252 + put d.acc.code 3 249 + put (b2n (objPersists idx el d)) 1 248 + put (b2n d.enable) 1 247 + put (b2n d.selector) 1 246
    + put (b2n d.sel.isSome) 1 245 + put (b2n (famOf idx != 0)) 1 244 + put (d.sel.getD 0) 24 220
    + put (if d.acc = .rwe then governor s idx el else 0) 24 196 + put (if n then d.dflt else 0) 64 128 + put d.min 64 64 + put d.max 64 0

def describeItems (s : State) (ses : Nat) : List Nat → Nat → Sum (Nat × Nat × Nat) (List (Nat × Nat × Nat))
  | [], _ => .inr []
  | w :: t, i =>
    match objDesc (riIdx w) (riEl w) with
    | none => .inl (0x0128, i, w)
    | some d =>
      if fld w 37 32 ≠ 0 then .inl (0x0127, i, w)
      else if !readRight s ses (riIdx w) then .inl (0x0204, i, w)
      else
        let name := Config.objName (riIdx w) (riEl w)
        match describeItems s ses t (i + 1) with
        | .inl e => .inl e
        | .inr l => .inr ((11, 32, descriptor s (riIdx w) (riEl w) d) :: (10, name.length, leNat name) :: l)

/-- DESCRIBE (R388, R399): the descriptor and name of each parameter. -/
def execDescribe (ses reqid : Nat) (items : List Nat) (s : State) : Host.Outcome State Fault Refusal :=
  served s ses 3 reqid fun s =>
    match describeItems s ses items 0 with
    | .inl (r, i, w) => refuseReq s ses 3 reqid r (riIdx w * 256 + riEl w) i
    | .inr l => acceptReq s ses 3 reqid l

/-- LIST (R399): the present indexes of a range that the session may read, as U16. -/
def execList (ses reqid first last : Nat) (s : State) : Host.Outcome State Fault Refusal :=
  served s ses 4 reqid fun s =>
    acceptReq s ses 4 reqid ((allIndexes.filter fun i => decide (first ≤ i) && decide (i ≤ last) && readRight s ses i).map fun i => (1, 2, i))

/-! ### Attention (R408, R409) -/

/-- ACKATTN (R408): the acknowledgement point of the session's credential moves up to a cause number. -/
def execAckattn (ses reqid c : Nat) (s : State) : Host.Outcome State Fault Refusal :=
  served s ses 5 reqid fun s =>
    let k := (session s ses).cred
    let s := { s with attn := { s.attn with acks := FMap.set s.attn.acks k (Nat.max (FMap.get 0 s.attn.acks k) c) } }
    acceptReq s ses 5 reqid

/-- ATTN_FRAME_SEND (R409): a KEEPALIVE, whose STATUS shows the cause, on every open management and host session that has carried no frame since
a cause visible to its credential was raised. -/
def execAttnFrameSend (s : State) : Host.Outcome State Fault Refusal :=
  .next ((s.sessions.filter fun e => e.2.st == 2 && e.2.kind != 2 && e.1 != console
      && s.attn.log.any fun c => causeVisible s e.1 c && decide (e.2.lastTx ≤ c.time)).foldl (fun s e =>
    match sendPort s e.1 with
    | none => s
    | some p => sendFrame (updSession s e.1 fun x => { x with lastTx := nowNs s }) p 7 e.1 e.2.peer 0 []) s)

/-! ### The event controller (R424–R428) -/

def setEv (s : State) (n : Nat) (x : EvSrc) : State := { s with events := FMap.set s.events n x }

/-- R428: the sources that Sheepdog watches. -/
def watched (n : Nat) : Bool := (decide (288 ≤ n) && decide (n ≤ 311)) || (decide (419 ≤ n) && decide (n ≤ 428))

/-- R426: a source is sensed now: its level while IDLE, or a selected edge. -/
def evSensed (s : State) (n : Nat) : Bool :=
  let e := evSrc s n
  evEn s n && (if evSense s n = 0 then e.raw && e.st == 0 else e.edge)

/-- EV_SENSE (R426, R428): a source is sensed. -/
def execEvSense (n : Nat) (s : State) : Host.Outcome State Fault Refusal :=
  if 512 ≤ n then .fault .noSuchUnit
  else if s.power == .off || (s.power == .standby && !watched n) || !evSensed s n then .next s
  else
    let e := evSrc s n
    let e := { e with edge := false, count := (e.count + 1) % 2 ^ 32 }
    match e.st with
    | 0 => .next (setEv s n { e with st := 1, target := evTarget s n })
    | 2 => .next (setEv s n { e with st := 3 })
    | 3 => .next (addObj (setEv s n { e with overrun := true }) 0x9000 3 1)
    | _ => .next (setEv s n e)

/-- R427: the next source that a server takes: one to be taken first, else by PRIO and number. -/
def evNext (s : State) (srv : Nat) : Option Nat :=
  let l := s.events.filter fun e => e.2.st == 1 && e.2.target == srv
  match l.find? fun e => e.2.first with
  | some e => some e.1
  | none =>
    match l with
    | [] => none
    | e :: t => some (t.foldl (fun b x => if evPrio s x.1 < evPrio s b then x.1 else b) e.1)

/-- EV_TAKE (R426, R427): a server (0 the processor, 1 the host) takes its first PENDING source; for the host a cause of class 9 is raised. -/
def execEvTake (srv : Nat) (s : State) : Host.Outcome State Fault Refusal :=
  if 2 ≤ srv then .fault .noSuchUnit
  else if !cardsUp s || (if srv = 0 then decide (8 ≤ (s.events.filter fun e => decide (2 ≤ e.2.st) && e.2.target == 0).length)
      else decide (32 ≤ (s.events.filter fun e => decide (2 ≤ e.2.st) && e.2.target == 1).length)) then .next s
  else
    match evNext s srv with
    | none => .next s
    | some n =>
      let e := evSrc s n
      let s := setEv s n { e with st := 2, first := false }
      if srv = 0 then .next s
      else .next (addObj (raise s { sev := fld (evCfg s n) 6 4, cls := 9, unitKind := 9, unit := n, detail := e.count }) 0x9000 2 1)

/-- R426: a source that is ACTIVE or ACTIVE_PENDING is completed. -/
def evComplete (s : State) (n : Nat) : State :=
  let e := evSrc s n
  let idle := { e with st := 0, target := evTarget s n }
  if e.st = 2 then
    setEv s n (if evSense s n == 0 && e.raw && evEn s n then { e with st := 1 } else idle)
  else if e.st = 3 then setEv s n (if evEn s n then { e with st := 1, first := true } else idle)
  else s

/-- EV_PROCESSOR_COMPLETE (R426): the card processor's handler completes a source that it has taken. -/
def execEvProcessorComplete (n : Nat) (s : State) : Host.Outcome State Fault Refusal :=
  if 512 ≤ n then .fault .noSuchUnit
  else if cardsUp s && (evSrc s n).target == 0 then .next (evComplete s n) else .next s

/-- EVCOMPLETE (R427): a session with MCONFIG completes a source that is active toward the host. -/
def execEvcomplete (ses reqid n : Nat) (s : State) : Host.Outcome State Fault Refusal :=
  served s ses 6 reqid fun s =>
    if !hasMconfig s ses then refuseReq s ses 6 reqid 0x0204
    else if (evSrc s n).st < 2 ∨ (evSrc s n).target ≠ 1 then refuseReq s ses 6 reqid 0x0216
    else acceptReq (evComplete s n) ses 6 reqid

/-- R424, R426, R427: the configuration of a source is written: clearing EN drops a PENDING source, a change of SENSE resets the edge
detector, and a new TARGET holds at once while the source is IDLE. -/
def evConfigure (s : State) (n v : Nat) : State :=
  let e := evSrc s n
  let sense := evSense s n
  let s := if n < 256 then setObj s 0x9100 n v else setObj s 0x9101 (n - 256) v
  let e := if fld v 14 13 = sense && bitAt v 15 then e else { e with edge := false }
  let e := if !bitAt v 15 && e.st == 1 then { e with st := 0, first := false } else e
  let e := if e.st = 0 then { e with target := fld v 12 12 } else e
  setEv s n e

end Sys2Proof.Machine
end

