-- ==== Sys2Proof/Machine/Control.lean ====
section
/-! DEFINITION. Writing parameters (R386–R390, R401, R425), enable bits and their checks (R412–R415), and images (R403). -/
namespace Sys2Proof.Machine

/-! ### Write items (R401) -/

def wiIdx (x : WriteItem) : Nat := fld x.head.toNat 63 48
def wiEl (x : WriteItem) : Nat := fld x.head.toNat 47 40
def wiTyp (x : WriteItem) : Nat := fld x.head.toNat 39 36
def wiLen (x : WriteItem) : Nat := x.head.toNat % 65536
def wiV (x : WriteItem) : Nat := leNat x.value

/-- The item of the documented form for a numeric parameter. -/
def itemFor (idx el v : Nat) : WriteItem :=
  let t := ((objDesc idx el).map (·.typ)).getD 0
  { head := BitVec.ofNat 64 (put idx 16 48 + put el 8 40 + put t 4 36 + typLen t), value := leBytes (typLen t) v }

/-- R388: the unit that a written parameter refers to. -/
def unitFor (s : State) (ses : Nat) (d : ObjDesc) : Nat :=
  match d.sel with
  | none => 0
  | some k => selValue s ses (k / 256) (k % 256)

/-- Number of 1 bits among the low eight. -/
def ones8 (v : Nat) : Nat := ((List.range 8).filter (bitAt v)).length

/-- R131: a word of the pin table holds the reserved pin code. -/
def reservedPin (v : Nat) : Bool := (List.range 16).any fun i => fld v (2 * i + 1) (2 * i) == 3

/-- R122, R131: parameters whose range the chapter on the guard answers with its own code. -/
def guardParam (idx el : Nat) : Bool :=
  (famOf idx == 0x51 && decide (13 ≤ el) && decide (el ≤ 16)) || (famOf idx == 0x54 && decide (1 ≤ el) && decide (el ≤ 16))

/-- R368: an export record in use whose SOFF is not 4-byte aligned or whose NW is out of its range; NW is zero for a top-k list. DEDUCED: R401's range
check judges them at the WRITE. -/
def exportBad (v : Nat) : Bool :=
  let nw := fld v 204 189
  let contrib := bitAt v 247
  fld v 255 248 == 1 && (fld v 227 205 % 4 != 0 || if contrib && bitAt v 83 then nw != 0 else nw == 0 || (contrib && decide (1024 < nw)))

/-- R13, R368, R373, R396: a BLOB whose layout the manual gives holds a nonzero reserved field, or a record that the layout does not admit. -/
def blobReserved (idx el v : Nat) : Bool :=
  (idx == 0x2020 && fld v 63 0 != 0)
    || (famOf idx == 0x64 && (fld v 242 240 != 0 || fld v 82 0 != 0 || exportBad v))
    || (famOf idx == 0x63 && el == 14 && (List.range 16).any fun r => fld v (256 * r + 62) (256 * r + 48) != 0)

/-- R13, R401, check 5. -/
def rangeFail (idx el : Nat) (d : ObjDesc) (v : Nat) : Option Nat :=
  if blobReserved idx el v then some 0x012A
  else if 10 ≤ d.typ then none
  else if idx = 0x6010 ∧ el = 7 ∧ 2 < ones8 v then some 0x0126
  else if v < d.min ∨ d.max < v ∨ !listed idx el v then some (if guardParam idx el then 0x0116 else 0x012A)
  else if famOf idx = 0x54 ∧ guardParam idx el ∧ reservedPin v then some 0x0116
  else if idx = 0x3100 ∧ el = 0 ∧ !tileOk v then some 0x012A
  else none

/-- The value in force of an enable bit. -/
def enableBit (s : State) (idx el u : Nat) : Nat :=
  if famOf idx = 0x51 then b2n (part s (idx % 256)).enable
  else objD (((objDesc idx el).map (·.dflt)).getD 0) s idx el u

/-- The reason, if any, of an operation that answers a reason or a state. -/
def failOf : Sum Nat State → Option Nat
  | .inl r => some r
  | .inr _ => none
def stateOf (s : State) : Sum Nat State → State
  | .inl _ => s
  | .inr t => t

/-- R401, checks 5 and 6: the conditions on the present state, with the parameter named where it is another (R273: the image selected is below
the count of images). -/
def stateFail (s : State) (idx el u v : Nat) : Option (Nat × Option Nat) :=
  let plain := fun (x : Option Nat) => x.map fun r => (r, (none : Option Nat))
  if famOf idx = 0x51 ∧ el = 2 ∧ v = 1 ∧ !(part s (idx % 256)).enable then
    if (part s (idx % 256)).check.isSome then some (0x0219, some (idx * 256 + 1))
    else if (part s (idx % 256)).st ≠ .loaded then some (0x0206, some (idx * 256 + 1)) else none
  else if idx = 0x5000 ∧ el = 2 ∧ s.images.length ≤ v then some (0x012A, none)
  else if idx = 0x5010 ∧ el = 1 ∧ v < reservedGrants s then some (0x0210, none)
  else if idx = 0x4002 ∧ el = 6 ∧ v = 1 then plain (failOf (brickPrepare s u))
  else if idx = 0x4100 ∧ el = 11 then plain (failOf (blockRestart s u))
  else if idx = 0x4011 ∧ el = 9 then plain (failOf (regionReturn s v))
  else if idx = 0x4020 ∧ el = 9 then plain (failOf (resume s))
  else if idx = 0x4040 ∧ el = 1 then
    match powerTarget s v with
    | .inl (r, o) => some (r, some o)
    | .inr _ => none
  else if idx = 0x7010 ∧ el = 6 then (if (reinstate s (unitKey u)).isNone then some (0x021C, none) else none)
  else if idx = 0x7030 ∧ el = 5 then plain (failOf (requestTest s v))
  else if idx = 0x7040 ∧ el = 2 then plain (failOf (cardPrepare s u))
  else if idx = 0x4010 ∧ el = 1 ∧ objD 1 s 0x4031 1 = 1 ∧ v < objD 80 s 0x4031 2 + 3 then some (0x0409, none)
  else none

/-- R401: why an item fails, with the parameter named where it is not the item's own. The one condition that `stateFail` has for an enable bit is
R413's first, which the check that follows R401's judges: R401's check 7 comes before it. -/
def itemFail (s : State) (ses : Nat) (alone : Bool) (x : WriteItem) : Option (Nat × Option Nat) :=
  if fld x.head.toNat 35 16 ≠ 0 ∨ x.value.length ≠ (wiLen x) then some (0x0127, none)
  else
    match objDesc (wiIdx x) (wiEl x) with
    | none => some (0x0128, none)
    | some d =>
      if d.acc = .ro then some (0x012B, none)
      else if !writeRight s ses (wiIdx x) d then some (0x0204, none)
      else if s.power == .recovery then some (0x021E, none)
      else if (wiTyp x) ≠ d.typ || (if d.typ < 10 then (wiLen x) != typLen d.typ else decide ((wiLen x) < d.min) || decide (d.max < (wiLen x))) then
        some (0x0129, none)
      else
        match rangeFail (wiIdx x) (wiEl x) d (wiV x) with
        | some r => some (r, none)
        | none =>
          let u := unitFor s ses d
          if d.enable && (wiV x) == 1 && enableBit s (wiIdx x) (wiEl x) u == 0 && !alone then some (0x0127, none)
          else stateFail s (wiIdx x) (wiEl x) u (wiV x)

/-- R388: a write to a selector changes the writing session's own value. -/
def setSel (s : State) (ses idx el v : Nat) : State := updSession s ses fun y => { y with sel := FMap.set y.sel (idx * 256 + el) v }

/-- The items in order: the first that fails, with its number; selectors written earlier in the request count. -/
def itemsFail (s : State) (ses : Nat) (alone : Bool) : List WriteItem → Nat → Option (Nat × Option Nat × Nat × WriteItem)
  | [], _ => none
  | x :: t, i =>
    match itemFail s ses alone x with
    | some (r, o) => some (r, o, i, x)
    | none =>
      let sel := ((objDesc (wiIdx x) (wiEl x)).map (·.selector)).getD false
      itemsFail (if sel then setSel s ses (wiIdx x) (wiEl x) (wiV x) else s) ses alone t (i + 1)

/-- R389: bytes of a request's persistent items in the journal block. -/
def persistBytes (items : List WriteItem) : Nat :=
  (items.map fun x => match objDesc (wiIdx x) (wiEl x) with
    | none => 0
    | some d => if d.acc != .rwe && objPersists (wiIdx x) (wiEl x) d then 8 + ((wiLen x) + 7) / 8 * 8 else 0).foldl (· + ·) 0

/-! ### Clearing an enable bit (R17, R415, R418) -/

/-- R423: sources 352–399 show a port that is not UP. -/
def portCond (s : State) (p : Nat) : State := if p < 48 then setCond s (352 + p) (portState s p != 3) else s

/-- R419: a unit of the mode-change record is dark. -/
def unitDark (s : State) (id : Nat) : Bool :=
  match id / 65536 with
  | 1 => tileDark s (id % 65536)
  | 2 => decide (2 ≤ blockState s (id % 65536))
  | _ => (brick s (id % 65536)).st != 2

/-- R418: every partition that a change holds returns to IDLE. -/
def releaseArmed (s : State) : State :=
  (List.range 16).foldl (fun s p => if (part s p).st = .armed then setPState s p .idle else s) s

/-- R418, R419: the change is rolled back: its record, its partitions and its cause. -/
def modeRollback (s : State) (reason : Nat) : State :=
  let m := s.modeRec
  let us := m.units.map fun u =>
    if u.st = 6 then u
    else if unitDark s u.ident then { u with st := 6, reason := 0x0611 }
    else if u.st = 4 then u else { u with st := 5 }
  let m := { m with st := 5, reason := reason, units := us, waiter := none }
  let s := releaseArmed { s with modeRec := m }
  raise (setCond s 448 true) { sev := 3, cls := 10, part := if m.kind = 3 then none else some m.part, reason := reason, object := 0x240001
                               unitKind := m.failed / 65536, unit := m.failed % 65536 }

/-- A change of kind 1 or 2 holds a partition. -/
def modeOwns (s : State) (p : Nat) : Bool := decide (s.modeRec.st = 1 ∨ s.modeRec.st = 2) && s.modeRec.kind != 3 && s.modeRec.part == p

/-- R179: a list held at a WAIT is returned at once. -/
def returnHeld (s : State) (p reason : Nat) : State :=
  (List.range 6).foldl (fun s e => match curCmd s (8 * p + e) with
    | some (r, w) => if r.begun && cmdOpcode w == 0xF0 then returnRunning s (8 * p + e) reason else s
    | none => s) s

/-- R17: a partition with no step leaves IDLE, ARMED or FAULTED for LOADED: its queued commands are returned, with the list whose STEP waits. -/
def returnStanding (s : State) (p : Nat) : State :=
  let s := returnHeld (setPState s p .loaded) p 0x0203
  returnQueued (returnRunning s (8 * p) 0x0203) p 0x0203

/-- R17, R412, R415: a write of 0 to a partition enable bit. -/
def enableClear (s : State) (p : Nat) : State :=
  match (part s p).check with
  | some c =>
    let s := updGroup (updPart s p fun x => { x with check := none }) p fun g => { g with joinAt := none }
    refuseReq s c.session 2 c.reqid 0x0219 ((0x5100 + p) * 256 + 2)
  | none =>
    if !(part s p).enable then s
    else
      let s := updGroup (updPart s p fun x => { x with enable := false }) p fun g => { g with st := if g.st = 4 then 4 else 0, joined := [] }
      let m := s.modeRec
      let s := match (part s p).st with
        | .idle => returnStanding s p
        | .faulted => returnStanding s p
        | .armed =>
          let own := modeOwns s p
          let s := returnStanding s p
          if own then
            let s := modeRollback s 0
            match m.waiter with
            | some (ses, r) => if m.st = 1 then acceptReq s ses 0x20 r else s
            | none => s
          else s
        | .stepping => returnHeld (setPState s p .disabling) p 0x0203
        | .stalled => returnHeld (setPState (leaveStall s p) p .disabling) p 0x0203
        | _ => s
      draftGone s p

/-! ### Checks of ports and policies (R414, R458, R466) -/

/-- An address is unicast: neither unspecified nor multicast. The 16 bytes of a BLOB are kept little-endian. -/
def unicast6 (v : Nat) : Bool := v != 0 && v % 256 != 0xFF
/-- A link-local unicast address. -/
def linkLocal6 (v : Nat) : Bool := v % 256 == 0xFE && v / 256 % 256 / 64 == 2

/-- R414: the check of an Ethernet or management port enable; the parameter at fault. -/
def portCheck (s : State) (idx u : Nat) : Option (Nat × Nat) :=
  let a := if idx = 0x6010 then objD 0 s idx 4 u else objD 0 s idx 4 u
  let g := if idx = 0x6010 then objD 0 s idx 5 u else objD 0 s idx 6 u
  if a ≠ 0 ∧ !unicast6 a then some (0x0408, idx * 256 + 4)
  else if g ≠ 0 ∧ !linkLocal6 g then some (0x0408, idx * 256 + (if idx = 0x6010 then 5 else 6))
  else if idx = 0x6010 ∧ objD 0 s idx 7 u ≠ 0 ∧ 4094 < objD 0 s idx 6 u then some (0x0408, idx * 256 + 6)
  else if idx = 0x2010 ∧ (objD 64 s idx 5 u = 0 ∨ 128 < objD 64 s idx 5 u) then some (0x0408, idx * 256 + 5)
  else none

/-- The value that an enable of a policy would bring into force. -/
def judgedD (d : Nat) (s : State) (idx el : Nat) : Nat := (FMap.find s.pend (objKey idx el 0)).getD (objD d s idx el)

/-- R458, R466: the check of a policy enable. -/
def policyCheck (s : State) (idx : Nat) : Option (Nat × Nat) :=
  if idx = 0x4031 then
    if objD 84 s 0x4010 1 < judgedD 80 s 0x4031 2 + 3 then some (0x0409, 0x403102) else none
  else
    let m := judgedD 0 s 0x4030 2
    if m = 0 ∨ (List.range 4).any fun i => bitAt m i && bitAt s.leaks.failed i then some (0x0409, 0x403002) else none

/-- R390: pending values of some keys come into force. -/
def bring (s : State) (keys : Nat → Bool) : State :=
  let l := s.pend.filter fun e => keys e.1
  { s with pend := s.pend.filter fun e => !keys e.1, dict := l.foldl (fun d e => FMap.set d e.1 e.2) s.dict }

/-- The keys of an index. -/
def keyIdx (k : Nat) : Nat := k / 65536 / 256
def keyEl (k : Nat) : Nat := k / 65536 % 256

/-! ### The partition enable check (R335, R368, R373, R413) -/

/-- R30, R390: a pending value that the enable bit of partition `p` governs. -/
def governed (s : State) (p k : Nat) : Bool :=
  let i := keyIdx k
  (i % 256 == p && (famOf i == 0x51 || famOf i == 0x58 || famOf i == 0x63 || famOf i == 0x64))
    || (i == 0x5200 && judgedD 0xFF s 0x5200 (keyEl k / 8 * 8 + 2) == p)

/-- R413, condition 4: the failing element of the draft links that name the partition. -/
def draftFail (s : State) (p : Nat) : Option Nat :=
  let j := fun l e => judgedD (if e < 3 then 0xFF else 0) s 0x5200 (8 * l + e)
  (List.range 8).findSome? fun l =>
    let d := j l 1
    let t := j l 2
    if d ≠ p ∧ t ≠ p then none
    else if d = 0xFF ∨ (List.range 8).any (fun m => m != l && j m 1 == d) then some (8 * l + 1)
    else if t = 0xFF ∨ (List.range 8).any (fun m => m != l && j m 2 == t) then some (8 * l + 2)
    else
      match ptile (part s t).place (j l 3) with
      | none => some (8 * l + 3)
      | some x => if x.regions.any fun r => r.ridx == j l 4 && r.kind == 1 && decide (32768 ≤ r.size) then none else some (8 * l + 4)

/-- R335, R413: the HBM shares of the enabled partitions and of earlier checks that have accepted, with the reserve and `p`'s own. -/
def shareSum (s : State) (p : Nat) : Nat :=
  objD 2048 s 0x5020 3 + judgedD 3968 s (pidx 0x58 p) 1
    + ((List.range 16).map fun q =>
        let x := part s q
        if q = p then 0
        else if x.enable then objD 3968 s (pidx 0x58 q) 1
        else match x.check with
          | some c => if c.reason = 0 then govD 3968 s q (pidx 0x58 q) 1 else 0
          | none => 0).foldl (· + ·) 0

/-- R368, R373, R413 condition 6: the failing element of obj 0x63pp or 0x64pp, as index × 256 + element. -/
def groupFail (s : State) (p : Nat) : Option Nat :=
  let i := pidx 0x63 p
  let v := fun el d => judgedD d s i el
  let gid := v 1 0
  let size := v 4 0
  let exps := (List.range 64).filter fun e => fld (judgedD 0 s (pidx 0x64 p) (e + 1)) 255 248 != 0
  let rank := fun e => fld (judgedD 0 s (pidx 0x64 p) (e + 1)) 246 243
  let lacks := fun r => decide (r < 16) && r != v 3 0 && v 14 0 / 2 ^ (256 * r) % 2 ^ 256 == 0
  if (gid == 0) != (v 2 0 == 0) then some (i * 256 + 2)
  else if gid = 0 then exps.head?.map fun e => pidx 0x64 p * 256 + e + 1
  else if size ≤ v 3 0 then some (i * 256 + 3)
  else if size ≤ v 5 0 then some (i * 256 + 5)
  else if v 6 0xFF ≠ 0xFF ∧ size ≤ v 6 0xFF then some (i * 256 + 6)
  else
    match exps.find? fun e => decide (size ≤ rank e) with
    | some e => some (pidx 0x64 p * 256 + e + 1)
    | none => if lacks (v 5 0) || (v 6 0xFF != 0xFF && lacks (v 6 0xFF)) || exps.any fun e => lacks (rank e) then some (i * 256 + 14) else none

/-- The banks of a partition that are in service. -/
def partService (s : State) (p : Nat) : List Nat := (tilesOf s p).flatMap (serviceBanks s)
/-- R413, R417: every bank in service has a valid table for a band. -/
def bandTables (s : State) (p b : Nat) : Bool := (partService s p).all fun k => (FMap.find (validTables (bankOf s k)) b).isSome

/-- R413: the first condition of 2–7 that fails, with the object named; 0 where all hold. -/
def enableVerdict (s : State) (p : Nat) : Nat × Nat :=
  let i := pidx 0x51 p
  let dbg := judgedD 0 s i 26
  let band := judgedD 0xFF s i 35
  if s.jobs.any (fun j => j.part == p && !j.isLoad) then (0x020F, pidx 0x55 p * 256 + 5)
  else if bitAt dbg 2 && !bitAt dbg 1 then (0x0405, i * 256 + 26)
  else
    match draftFail s p with
    | some e => (0x0407, 0x520000 + e)
    | none =>
      if 65536 < shareSum s p ∨ judgedD 3968 s (pidx 0x58 p) 1 < (part s p).place.floor then (0x0403, pidx 0x58 p * 256 + 1)
      else
        match groupFail s p with
        | some o => (0x0506, o)
        | none => if band < 8 ∧ !bandTables s p band then (0x0406, i * 256 + 35) else (0, 0)

/-- R413: a check begins; conditions 1–7 are judged on the state and the pending values as they stand. -/
def enableStart (s : State) (p ses reqid : Nat) : State :=
  let v := enableVerdict s p
  updPart s p fun x => { x with
    check := some { session := ses, reqid := reqid, reason := v.1, object := v.2, snapshot := s.pend.filter fun e => governed s p e.1 } }

/-- R421: the tiles of a partition take the band that is forced on them; where none is, they latch afresh, with the load of R71. -/
def forceBand (s : State) (p : Nat) : State :=
  let b := objD 0xFF s (pidx 0x51 p) 35
  let ts := tilesOf s p
  if b < 8 then
    ts.foldl (fun s t => (serviceBanks s t).foldl loadTable { s with latch := FMap.set s.latch t ((latchOf s t).1, b) }) s
  else
    let s1 := ts.foldl latchTile s
    if ts.any fun t => (latchOf s t).2 != (latchOf s1 t).2 then updPart s1 p fun x => { x with holdTables := true } else s1

/-- R369: the counts of the exports are set to their objects' values. -/
def armExports (s : State) (p : Nat) : State :=
  (List.range 64).foldl (fun s e =>
    let w := exportWord s p e
    if fld w 255 248 = 0 then s else { s with exports := FMap.set s.exports (p * 64 + e) (syncGet s p (fld w 188 179)) }) s

/-- R374, R380: the partition enters its group: a master waits for its ranks to join, one that is STALE until it has been a member stays so; a member
has joined its master. -/
def groupEnter (s : State) (p : Nat) : State :=
  let i := pidx 0x63 p
  let role := objD 0 s i 2
  let master := objD 0 s i 5
  updGroup s p fun g => { g with
    st := if role = 1 then (if g.st = 4 then 4 else 1) else 0, role := 0, master := master, backup := objD 0xFF s i 6, joined := if role = 2 then [master] else []
    joinAt := none, lost := [] }

/-- R390, R413: the check accepts: the enable commit brings the judged values into force, and the partition reaches IDLE. -/
def enableFinish (s : State) (p : Nat) : State :=
  match (part s p).check with
  | none => s
  | some c =>
    let s := { s with
      dict := c.snapshot.foldl (fun d e => FMap.set d e.1 e.2) s.dict
      pend := s.pend.filter fun e => FMap.find c.snapshot e.1 != some e.2 }
    let s := updPart s p fun x => { x with check := none, enable := true }
    let s := openLinks (groupEnter (armExports s p) p) p
    let s := if (FMap.find c.snapshot (objKey (pidx 0x51 p) 35 0)).isSome then forceBand s p else s
    acceptReq (toIdle s p) c.session 2 c.reqid

/-- R413: the check refuses. -/
def enableRefuse (s : State) (p reason obj : Nat) : State :=
  match (part s p).check with
  | none => s
  | some c =>
    let s := updGroup (updPart s p fun x => { x with check := none }) p fun g => { g with joinAt := none }
    refuseReq s c.session 2 c.reqid reason obj

/-- R374: a member sends JOIN to its master over the open session. -/
def sendJoin (s : State) (p : Nat) : State := toRank s p (govD 0 s p (pidx 0x63 p) 5) 1 [ownRank s p, (group s p).epoch]

/-- ENABLE_CHECK_DONE (R374, R413): the judgement of partition `p`'s check ends. A member of a group begins to join its master, and the
check goes on until the master answers. -/
def execEnableCheckDone (p : Nat) (s : State) : Host.Outcome State Fault Refusal :=
  if 16 ≤ p then .fault .noSuchUnit
  else
    match (part s p).check with
    | none => .next s
    | some c =>
      if c.reason ≠ 0 then .next (enableRefuse s p c.reason c.object)
      else if govD 0 s p (pidx 0x63 p) 1 = 0 ∨ govD 0 s p (pidx 0x63 p) 2 ≠ 2 then .next (enableFinish s p)
      else if (group s p).joinAt.isSome then .next s
      else
        let i := pidx 0x63 p
        let s := updGroup s p fun g => { g with
          joinAt := some (nowNs s), role := 0, master := govD 0 s p i 5, backup := govD 0xFF s p i 6 }
        .next (sendJoin (openLinks s p) p)

/-! ### Applying items (R386, R401) -/

/-- R412: a write of an enable bit, with its check where that ends at once: a reason and object, or the state. -/
def writeEnable (s : State) (ses reqid idx el u v : Nat) : Sum (Nat × Nat) (State × Bool) :=
  if famOf idx = 0x51 then
    if v = 0 then .inr (enableClear s (idx % 256), true)
    else if (part s (idx % 256)).enable then .inr (s, true) else .inr (enableStart s (idx % 256) ses reqid, false)
  else if v = enableBit s idx el u then .inr (s, true)
  else if idx = 0x6010 ∨ idx = 0x2010 then
    match (if v = 1 then portCheck s idx u else none) with
    | some e => .inl e
    | none =>
      let s := setObj s idx el v u
      let p := if idx = 0x6010 then u else 48 + u
      -- R351: the enable cleared and set takes a port out of FAULT
      let s := if v = 1 ∧ (port s p).fault ∧ !(port s p).stuck then setPort s p { port s p with fault := false, link := false, leftAt := some (nowNs s) } else s
      let s := if v = 0 then setPort s p { port s p with link := false } else s
      .inr (portCond s p, true)
  else
    match (if v = 1 then policyCheck s idx else none) with
    | some e => .inl e
    | none => .inr (if v = 1 then bring (setObj s idx el v) fun k => keyIdx k == idx else setObj s idx el v, true)

/-- Applies one item that has passed its checks, other than an enable bit. -/
def applyItem (s : State) (ses : Nat) (idx el u v : Nat) (d : ObjDesc) : State :=
  if d.selector then setSel s ses idx el v
  else if d.acc = .rwe then { s with pend := FMap.set s.pend (objKey idx el u) v }
  else if idx = 0x4002 ∧ el = 6 then (if v = 1 then stateOf s (brickPrepare s u) else brickUnprepare s u)
  else if idx = 0x4100 ∧ el = 11 then stateOf s (blockRestart s u)
  else if idx = 0x4003 ∧ el = 1 then preferFeeds (setObj s idx el v u)
  else if idx = 0x4011 ∧ el = 9 then stateOf s (regionReturn s v)
  else if idx = 0x4020 ∧ el = 9 then stateOf s (resume s)
  else if idx = 0x4040 ∧ el = 1 then
    match powerTarget s v with
    | .inl _ => s
    | .inr t => t
  else if idx = 0x4040 ∧ el = 6 then { s with rtcValid := true, rtcSet := v, rtcTick := s.refTicks }
  else if idx = 0x7010 ∧ el = 6 then (reinstate s (unitKey u)).getD s
  else if idx = 0x7030 ∧ el = 5 then stateOf s (requestTest s v)
  else if idx = 0x7040 ∧ el = 2 then stateOf s (cardPrepare s u)
  else if idx / 2 * 2 = 0x9100 then evConfigure s ((idx - 0x9100) * 256 + el) v
  else if idx / 2 * 2 = 0x9200 then
    let n := (idx - 0x9200) * 256 + el
    if bitAt v 4 then setEv s n { evSrc s n with overrun := false } else s
  else
    let s := setObj s idx el v u
    if idx = 0x7030 ∧ el = 1 ∧ v = 0 then abortTests s fun f => !f.asked else s

/-- R401: the items are applied in order; the state, and whether a reply is due at once, or the refusal of an enable check. -/
def applyItems (s : State) (ses reqid : Nat) : List WriteItem → Sum (Nat × Nat) (State × Bool)
  | [] => .inr (s, true)
  | x :: t =>
    match objDesc (wiIdx x) (wiEl x) with
    | none => applyItems s ses reqid t
    | some d =>
      let u := unitFor s ses d
      if d.enable then
        match writeEnable s ses reqid (wiIdx x) (wiEl x) u (wiV x) with
        | .inl e => .inl e
        | .inr (s, now) => if now then applyItems s ses reqid t else .inr (s, false)
      else applyItems (applyItem s ses (wiIdx x) (wiEl x) u (wiV x) d) ses reqid t

/-- WRITE (R389, R401): every item is judged; then all are applied, and the persistent ones committed together. -/
def writeRequest (ses reqid : Nat) (items : List WriteItem) (s : State) : Host.Outcome State Fault Refusal :=
  served s ses 2 reqid fun s =>
    match itemsFail s ses (items.length == 1) items 0 with
    | some (r, o, i, x) => refuseReq s ses 2 reqid r (o.getD ((wiIdx x) * 256 + (wiEl x))) i
    | none =>
      if 3968 < persistBytes items then refuseReq s ses 2 reqid 0x0313
      else
        match applyItems s ses reqid items with
        | .inl (r, o) => refuseReq s ses 2 reqid r o
        | .inr (s, now) => if now then acceptReq s ses 2 reqid else s

/-- WRITE (R401). -/
def execWrite (ses reqid : Nat) (items : List WriteItem) (s : State) : Host.Outcome State Fault Refusal := writeRequest ses reqid items s

/-! ### Rows that write one parameter -/

/-- SELECTOR_WRITE (R388): a write of a selector. -/
def execSelectorWrite (ses reqid idx el v : Nat) (s : State) : Host.Outcome State Fault Refusal :=
  if ((objDesc idx el).map (·.selector)).getD false then writeRequest ses reqid [itemFor idx el v] s else .next s

/-- PART_ENABLE_SET (R412, R413): a write of 1 to a partition enable bit. -/
def execPartEnableSet (ses reqid p : Nat) (s : State) : Host.Outcome State Fault Refusal :=
  if 16 ≤ p then .fault .noSuchUnit else writeRequest ses reqid [itemFor (pidx 0x51 p) 2 1] s

/-- PART_ENABLE_CLEAR (R17, R415): a write of 0 to a partition enable bit. -/
def execPartEnableClear (ses reqid p : Nat) (s : State) : Host.Outcome State Fault Refusal :=
  if 16 ≤ p then .fault .noSuchUnit else writeRequest ses reqid [itemFor (pidx 0x51 p) 2 0] s

/-- PORT_ENABLE_SET (R414): a write of 1 to the enable of the port that the session has selected: an Ethernet port, or a management port. -/
def execPortEnableSet (ses reqid : Nat) (mgmt : Bool) (s : State) : Host.Outcome State Fault Refusal :=
  writeRequest ses reqid [itemFor (if mgmt then 0x2010 else 0x6010) 1 1] s

/-- POLICY_ENABLE_SET (R458, R466): a write of 1 to the enable of the controlled-stop or the thermal-return policy. -/
def execPolicyEnableSet (ses reqid : Nat) (thermal : Bool) (s : State) : Host.Outcome State Fault Refusal :=
  writeRequest ses reqid [itemFor (if thermal then 0x4031 else 0x4030) 1 1] s

/-- BRICK_PREPARE (R439): a write of 1 to obj 0x4002:6 for the brick that the session has selected. -/
def execBrickPrepare (ses reqid : Nat) (s : State) : Host.Outcome State Fault Refusal := writeRequest ses reqid [itemFor 0x4002 6 1] s
/-- BRICK_UNPREPARE (R439): a write of 0 to it. -/
def execBrickUnprepare (ses reqid : Nat) (s : State) : Host.Outcome State Fault Refusal := writeRequest ses reqid [itemFor 0x4002 6 0] s
/-- BLOCK_RESTART (R447): a write of 1 to obj 0x4100:11 for the cluster that the session has selected. -/
def execBlockRestart (ses reqid : Nat) (s : State) : Host.Outcome State Fault Refusal := writeRequest ses reqid [itemFor 0x4100 11 1] s
/-- REGION_RETURN_REQUEST (R458): a write of a hot-spot number to obj 0x4011:9. -/
def execRegionReturnRequest (ses reqid h : Nat) (s : State) : Host.Outcome State Fault Refusal := writeRequest ses reqid [itemFor 0x4011 9 h] s
/-- RESUME (R463): a write of 1 to obj 0x4020:9. -/
def execResume (ses reqid : Nat) (s : State) : Host.Outcome State Fault Refusal := writeRequest ses reqid [itemFor 0x4020 9 1] s
/-- POWER_TARGET_STANDBY (R498): a write of 1 to obj 0x4040:1. -/
def execPowerTargetStandby (ses reqid : Nat) (s : State) : Host.Outcome State Fault Refusal := writeRequest ses reqid [itemFor 0x4040 1 1] s
/-- POWER_TARGET_ATTENDED (R498): a write of 2 to obj 0x4040:1. -/
def execPowerTargetAttended (ses reqid : Nat) (s : State) : Host.Outcome State Fault Refusal := writeRequest ses reqid [itemFor 0x4040 1 2] s
/-- POWER_TARGET_READY (R498): a write of 4 to obj 0x4040:1. -/
def execPowerTargetReady (ses reqid : Nat) (s : State) : Host.Outcome State Fault Refusal := writeRequest ses reqid [itemFor 0x4040 1 4] s
/-- UNIT_REINSTATE (R484): a write of 1 to obj 0x7010:6 for the unit that the session has selected. -/
def execUnitReinstate (ses reqid : Nat) (s : State) : Host.Outcome State Fault Refusal := writeRequest ses reqid [itemFor 0x7010 6 1] s
/-- FTEST_REQUEST_LIGHT (R488): a write of a tile address to obj 0x7030:5. -/
def execFtestRequestLight (ses reqid t : Nat) (s : State) : Host.Outcome State Fault Refusal :=
  writeRequest ses reqid [itemFor 0x7030 5 (t % 65536)] s
/-- FTEST_REQUEST_FULL (R488): the same with bit 16 set. -/
def execFtestRequestFull (ses reqid t : Nat) (s : State) : Host.Outcome State Fault Refusal :=
  writeRequest ses reqid [itemFor 0x7030 5 (65536 + t % 65536)] s
/-- CARD_PREPARE (R491): a write of 1 to obj 0x7040:2 for the card that the session has selected. -/
def execCardPrepare (ses reqid : Nat) (s : State) : Host.Outcome State Fault Refusal := writeRequest ses reqid [itemFor 0x7040 2 1] s
/-- EV_CONFIG_WRITE (R424, R426): a write of the configuration of source `n`. -/
def execEvConfigWrite (ses reqid n v : Nat) (s : State) : Host.Outcome State Fault Refusal :=
  if 512 ≤ n then .fault .noSuchUnit else writeRequest ses reqid [itemFor (0x9100 + n / 256) (n % 256) v] s
/-- EV_OVERRUN_CLEAR (R425): a write of 1 to OVERRUN in the status of source `n`. -/
def execEvOverrunClear (ses reqid n : Nat) (s : State) : Host.Outcome State Fault Refusal :=
  if 512 ≤ n then .fault .noSuchUnit else writeRequest ses reqid [itemFor (0x9200 + n / 256) (n % 256) 16] s

/-! ### Images (R403) -/

/-- R403: a partition in a state other than FREE was loaded from an image. -/
def imageUsed (s : State) (id : Nat) : Bool :=
  (List.range 16).any (fun p => (part s p).st != .free && (part s p).place.image == id) || s.jobs.any fun j => j.isLoad && j.image == id

/-- Bytes free in the store, which open uploads reserve too. -/
def storeFree (s : State) : Nat :=
  Config.storeBytes - (s.images.map (·.2.len)).foldl (· + ·) 0 - (s.uploads.map (·.len)).foldl (· + ·) 0

/-- An image request: it needs MCONFIG. -/
def imgRequest (ses op reqid : Nat) (f : State → Sum Nat State) (s : State) : Host.Outcome State Fault Refusal :=
  served s ses op reqid fun s =>
    if !hasMconfig s ses then refuseReq s ses op reqid 0x0204
    else
      match f s with
      | .inl r => refuseReq s ses op reqid r
      | .inr t => acceptReq t ses op reqid

/-- IMGBEGIN (R403): reserves space for an upload. -/
def execImgbegin (ses reqid id len : Nat) (s : State) : Host.Outcome State Fault Refusal :=
  imgRequest ses 0x30 reqid (fun s =>
    let rest := s.uploads.filter fun u => u.image != id
    if imageUsed s id then .inl 0x0218
    else if 4 ≤ rest.length ∨ storeFree { s with uploads := rest } < len then .inl 0x0314
    else .inr { s with uploads := rest ++ [{ image := id, len := len }] }) s

/-- IMGDATA (R403): writes bytes of an open upload. -/
def execImgdata (ses reqid id off : Nat) (data : List Byte) (s : State) : Host.Outcome State Fault Refusal :=
  imgRequest ses 0x31 reqid (fun s =>
    match s.uploads.find? fun u => u.image == id with
    | none => .inl 0x0127
    | some u =>
      if u.len < off + data.length ∨ 2097136 < data.length then .inl 0x0127
      else
        let v := { u with bytes := Memory.writeN u.bytes off data, ranges := (off, data.length) :: u.ranges }
        .inr { s with uploads := s.uploads.map fun x => if x.image = id then v else x }) s

/-- Whether ranges cover every byte below `len`, from `at_` on; `n` bounds the search. -/
def coversFrom (ranges : List (Nat × Nat)) (len at_ : Nat) : Nat → Bool
  | 0 => decide (len ≤ at_)
  | n + 1 =>
    let top := (ranges.filter fun r => decide (r.1 ≤ at_)).foldl (fun m r => Nat.max m (r.1 + r.2)) at_
    decide (len ≤ at_) || (decide (at_ < top) && coversFrom ranges len top n)

/-- IMGEND (R403): the upload is complete and its header good: the image is committed. -/
def execImgend (ses reqid id : Nat) (s : State) : Host.Outcome State Fault Refusal :=
  imgRequest ses 0x32 reqid (fun s =>
    match s.uploads.find? fun u => u.image == id with
    | none => .inl 0x0127
    | some u =>
      if coversFrom u.ranges u.len 0 u.ranges.length && imgMagic u.bytes == 0x4F4C4931 && imgLength u.bytes * 4096 == u.len && imgHdrCrcOk u.bytes then
        .inr { s with images := FMap.set s.images id { bytes := u.bytes, len := u.len }, uploads := s.uploads.filter fun x => x.image != id }
      else .inl 0x011D) s

/-- IMGDELETE (R403): abandons an upload, or removes a committed image. -/
def execImgdelete (ses reqid id : Nat) (s : State) : Host.Outcome State Fault Refusal :=
  imgRequest ses 0x33 reqid (fun s =>
    if imageUsed s id then .inl 0x0218
    else if s.uploads.any fun u => u.image == id then .inr { s with uploads := s.uploads.filter fun u => u.image != id }
    else if (FMap.find s.images id).isSome then .inr { s with images := FMap.del s.images id }
    else .inl 0x0127) s

end Sys2Proof.Machine
end

