-- ==== Sys2Proof/Machine/Windows.lean ====
section
/-! DEFINITION. Remote-write windows, remote writes, exports and contributions (R200, R365–R372). -/
namespace Sys2Proof.Machine

/-! ### WOPEN, WCLOSE, RWRITE (R200, R365) -/

/-- R200: a window over a range would cover a RESIDENT region. -/
def coversResident (s : State) (p va n : Nat) : Bool :=
  vaSpace va == 0 && match ptile (part s p).place (vaPti va) with
    | none => false
    | some t => touchesKind t 0 (vaOff va) n

/-- WOPEN (R200, R365, R371): the epoch rises by 1, never to 0, and the window opens over its range. -/
def execWopen (q : Nat) (s : State) : Host.Outcome State Fault Refusal :=
  withCommand s q 0x50 fun _ w =>
    let p := qPart q
    let n := fld w 223 208
    let x := window s p n
    if x.st ≠ 0 then refuseCmd s q 0x020D
    else if coversResident s p (fld w 207 160) (fld w 159 128) then refuseCmd s q 0x011A
    else
      let e := if x.epoch = 0xFFFF then 1 else x.epoch + 1
      let s := setWindow s p n { st := 1, epoch := e, va := fld w 207 160, len := fld w 159 128 }
      completeCmd (announce s p n) q [BitVec.ofNat 256 (put e 16 240)]

/-- WCLOSE (R200, R365): the window is CLOSING; it closes, and WCLOSE completes, once every accepted write has landed. -/
def execWclose (q : Nat) (s : State) : Host.Outcome State Fault Refusal :=
  withCommand s q 0x51 fun _ w =>
    let p := qPart q
    let n := fld w 223 208
    if (window s p n).st ≠ 1 then refuseCmd s q 0x020D
    else windowSettle (beginCmd (setWindow s p n { window s p n with st := 2 }) q []) p n

/-- RWRITE (R200, R366): sends a remote write on an open link session of the partition; it completes on the peer's answer. -/
def execRwrite (q : Nat) (s : State) : Host.Outcome State Fault Refusal :=
  withCommand s q 0x52 fun _ w =>
    let p := qPart q
    let ses := fld w 207 192
    let src := fld w 175 128
    let n := fld w 95 64
    let x := session s ses
    if x.st ≠ 2 ∨ x.kind ≠ 2 ∨ x.lpart ≠ p then refuseCmd s q 0x020D
    else if pvaBad s p src n then refuseCmd s q (if vaSpace src = 0 then 0x0703 else 0x070A)
    else
      let data := pvaRead s p src n
      let o : OutWrite := { session := ses, part := p, tag := s.nextTag, queue := some q, exp := 0, win := fld w 223 208, epoch := fld w 191 176
                            off := fld w 127 96, data := data }
      let s := beginCmd (countHbm s p src 0 n) q []
      emit { s with outWrites := s.outWrites ++ [o], nextTag := (s.nextTag + 1) % 2 ^ 32 } (.write ses o.win o.epoch o.off o.tag data)

/-! ### A remote write arrives (R366, R367) -/

/-- R367: the body of WACK and WNAK. -/
def wackBody (s : State) (p w tag : Nat) : Nat := put tag 32 32 + put (window s p w).epoch 16 16 + put (window s p w).st 2 14

/-- R367: bytes land at an address of the partition. -/
def landBytes (s : State) (p va : Nat) (bs : List Byte) : State :=
  countHbm (unstageWrite (pvaWrite s p va bs) p va bs.length) p 0 va bs.length

/-- R366: why a write's first segment is refused: reason and the counter of the refusal. -/
def writeRefusal (x : Window) (epoch off n : Nat) : Option (Nat × Nat) :=
  if x.st ≠ 1 then some (0x0501, 2)
  else if epoch ≠ x.epoch then some (0x0502, 3)
  else if x.len < off + n then some (0x0503, 4)
  else none

/-- The write that a session's segments belong to: its newest. -/
def updInWrite (s : State) (ses : Nat) (f : InWrite → Option InWrite) : State :=
  { s with inWrites := s.inWrites.filterMap fun x => if x.session = ses ∧ x.last.isNone then f x else some x }

/-- R366, R367: data of an accepted write: the bytes of every segment but the last land; the last segment's wait for WRITE_LANDED. A write
whose segments do not carry LEN bytes is abandoned. -/
def writeData (s : State) (ses : Nat) (last : Bool) (data : List Byte) : State :=
  match s.inWrites.find? fun x => x.session == ses && x.last.isNone with
  | none => s
  | some x =>
    if x.refused then (if last then updInWrite s ses fun _ => none else s)
    else if (if last then x.left ≠ data.length else x.left ≤ data.length) then
      windowSettle (updInWrite s ses fun y => if last then none else some { y with refused := true }) x.part x.win
    else if last then updInWrite s ses fun y => some { y with last := some data }
    else landBytes (updInWrite s ses fun y => some { y with va := y.va + data.length, left := y.left - data.length }) x.part x.va data

/-- R361, R366: a session's write whose last segment has not come ends when another begins; its window may then settle. -/
def dropInWrite (s : State) (ses : Nat) : State :=
  match s.inWrites.find? fun x => x.session == ses && x.last.isNone with
  | none => s
  | some x =>
    let s := updInWrite s ses fun _ => none
    if x.refused then s else windowSettle s x.part x.win

/-- R366: the first segment of a write: the whole write is judged against its window. -/
def writeFirst (s : State) (ses : Nat) (last : Bool) (payload : List Byte) : State :=
  let h := leNat (payload.take 16)
  let p := (session s ses).lpart
  let n := fld h 63 32
  let w := fld h 119 112
  let tag := h % 2 ^ 32
  let x : InWrite := { session := ses, part := p, win := w, tag := tag, va := 0, left := n }
  let s := dropInWrite s ses
  if payload.length < 16 ∨ fld h 127 120 ≠ 1 ∨ n = 0 ∨ n % 4 ≠ 0 then
    if last then s else { s with inWrites := s.inWrites ++ [{ x with refused := true }] }
  else
    match writeRefusal (window s p w) (fld h 111 96) (fld h 95 64) n with
    | some (r, c) =>
      let s := emit (addObj s (pidx 0x66 p) c 1) (.wack ses r (wackBody s p w tag))
      if last then s else { s with inWrites := s.inWrites ++ [{ x with refused := true }] }
    | none =>
      let s := { s with inWrites := s.inWrites ++ [{ x with va := (window s p w).va + fld h 95 64 }] }
      writeData s ses last (payload.drop 16)

/-- A WRITE segment in sequence (R366). -/
def writeRx (s : State) (ses : Nat) (g : RxSeg) : State :=
  if g.first then writeFirst s ses g.last g.payload else writeData s ses g.last g.payload

/-- R183, R367: an object named by a dictionary value receives a signal of 1. -/
def signalOne (s : State) (p obj : Nat) : State :=
  if !ownsSync s p obj then s
  else
    match syncSum s p obj 1 with
    | none => raiseRc s 3 0x0107 (some p)
    | some v => syncWrite s p obj v

/-- WRITE_LANDED (R367): the last byte of the `i`-th remote write is written: its window's landing object is signalled and WACK is sent. -/
def execWriteLanded (i : Nat) (s : State) : Host.Outcome State Fault Refusal :=
  match s.inWrites[i]? with
  | none => .next s
  | some x =>
    match x.last with
    | none => .next s
    | some data =>
      let s := landBytes { s with inWrites := s.inWrites.take i ++ s.inWrites.drop (i + 1) } x.part x.va data
      let s := signalOne (addObj s (pidx 0x66 x.part) 1 1) x.part (objD 0xFFFF s (pidx 0x62 x.part) x.win)
      let s := emit s (.wack x.session 0 (wackBody s x.part x.win x.tag))
      .next (windowSettle s x.part x.win)

/-! ### The answer to a remote write (R200, R367, R370) -/

def findOut (s : State) (ses tag : Nat) : Option OutWrite := s.outWrites.find? fun w => w.session == ses && w.tag == tag
def dropOut (s : State) (ses tag : Nat) : State := { s with outWrites := s.outWrites.filter fun w => !(w.session == ses && w.tag == tag) }

/-- R13, R367: a WACK completes the RWRITE, or the export's write, that its TAG names. One with a nonzero reserved field is dropped. -/
def wackRx (s : State) (ses body : Nat) : State :=
  if fld body 13 0 ≠ 0 then s else
  match findOut s ses (fld body 63 32) with
  | none => s
  | some w =>
    let s := dropOut s ses w.tag
    match w.queue with
    | some q => completeCmd s q []
    | none => s

/-- R13, R200, R370: a WNAK ends an RWRITE's list; an export's write is resent once at the window's present epoch, or dropped. A WNAK with a
nonzero reserved field is dropped. -/
def wnakRx (s : State) (ses reason body : Nat) : State :=
  if fld body 13 0 ≠ 0 then s else
  match findOut s ses (fld body 63 32) with
  | none => s
  | some w =>
    match w.queue with
    | some q => refuseCmd (dropOut s ses w.tag) q reason
    | none =>
      let e := fld body 31 16
      if reason = 0x0502 ∧ fld body 15 14 = 1 ∧ e ≠ w.epoch ∧ w.again = false then
        let s := { s with outWrites := s.outWrites.map fun x => if x.session = ses ∧ x.tag = w.tag then { x with epoch := e, again := true } else x }
        emit s (.write ses w.win e w.off w.tag w.data)
      else
        raise (addObj (dropOut s ses w.tag) (pidx 0x66 w.part) 5 1)
          { sev := 3, cls := 5, part := some w.part, reason := reason, object := pidx 0x64 w.part * 256 + w.exp + 1 }

/-! ### Exports (R368–R371) -/

/-- R368, R379: the rank that an export goes to; the master's rank means whichever rank is master. -/
def exportRank (s : State) (p w : Nat) : Nat :=
  let r := fld w 246 243
  if r = objD 0 s (pidx 0x63 p) 5 then (group s p).master else r

/-- R368, R371: the epoch that a WRITE export names: fixed, or the latest announced one. -/
def exportEpoch (s : State) (p w : Nat) : Option Nat :=
  if fld w 110 95 ≠ 0 then some (fld w 110 95)
  else (FMap.find s.announced ((p * 16 + exportRank s p w) * 256 + fld w 178 171)).map (· / 4)

/-- R369: the export's data is read and sent; an export without an announced epoch or an open session is not sent yet. -/
def sendExport (s : State) (p e w : Nat) : State :=
  let contrib := bitAt w 247
  let n := if bitAt w 83 then 520 else 4 * fld w 204 189
  match rankSession s p (exportRank s p w), ptile (part s p).place (fld w 239 228), exportEpoch s p w with
  | some ses, some t, ep =>
    if !contrib && ep.isNone then s
    else if spBad s t.tile (fld w 227 205) n then engineFault s p 0x0703
    else
      let data := spRead s t.tile (fld w 227 205) n
      let s := { s with exports := FMap.set s.exports (p * 64 + e) (FMap.get 0 s.exports (p * 64 + e) + 1) }
      let s := if bitAt w 94 then signalOne s p (fld w 93 84) else s
      if contrib then
        let k := if bitAt w 83 then 8 else 4
        emit s (.contrib ses (fld w 170 159) (fld w 158 143) (bitAt w 83) (((stepOf s p).bind (·.group)).getD 0) (chunks k (n / k) data))
      else
        let o : OutWrite := { session := ses, part := p, tag := s.nextTag, queue := none, exp := e, win := fld w 178 171, epoch := ep.getD 0
                              off := fld w 142 111, data := data }
        emit { s with outWrites := s.outWrites ++ [o], nextTag := (s.nextTag + 1) % 2 ^ 32 } (.write ses o.win o.epoch o.off o.tag data)
  | _, _, _ => s

/-- EXPORT_TRIGGER (R369): the object of export `e` of partition `p` has reached its count + 1. -/
def execExportTrigger (p e : Nat) (s : State) : Host.Outcome State Fault Refusal :=
  if 16 ≤ p ∨ 64 ≤ e then .fault .noSuchUnit
  else
    let w := objD 0 s (pidx 0x64 p) (e + 1)
    if fld w 255 248 ≠ 0 ∧ (part s p).enable = true ∧ FMap.get 0 s.exports (p * 64 + e) < syncGet s p (fld w 188 179) then .next (sendExport s p e w)
    else .next s

/-! ### Contributions (R372) -/

/-- R372: a complete contribution is staged at its destination, or dropped. -/
def contribDone (s : State) (p : Nat) (bs : List Byte) : State :=
  let h := leNat (bs.take 16)
  let data := bs.drop 16
  let topk := bitAt h 80
  let nw := fld h 91 81
  let drop := raise (addObj s (pidx 0x66 p) 6 1) { sev := 3, cls := 5, part := some p }
  if bs.length < 16 ∨ fld h 127 120 ≠ 1 ∨ fld h 79 64 ≠ 0 ∨ data.length ≠ (if topk then 520 else 4 * nw) then drop
  else
    match reduceOf s p (fld h 119 108) with
    | none => drop
    | some d =>
      if d.contribs[fld h 107 92]? ≠ some 0xFFF ∨ (d.kind == 1) ≠ topk ∨ (if topk then nw ≠ 0 else nw ≠ d.nw)
          ∨ (stepOf s p).bind (·.group) ≠ some (h % 2 ^ 64) then drop
      else
        let ws := if topk then chunks 8 (topkK (leNat (data.take 8)) + 1) data else chunks 4 nw data
        rlaunch s { part := p, rid := d.rid, lvl := 0, idx := fld h 107 92, n := d.contribs.length, step := stepNoOf s p, data := ws }

/-- A CONTRIB segment in sequence (R372). -/
def contribRx (s : State) (ses : Nat) (g : RxSeg) : State :=
  let x := chan s ses 5
  let bs := if g.first then g.payload else x.asm_.getD [] ++ g.payload
  if !g.first && x.asm_.isNone then s
  else if g.last then contribDone (setChan s ses 5 { x with asm_ := none }) (session s ses).lpart bs
  else setChan s ses 5 { x with asm_ := some bs }

end Sys2Proof.Machine
end

