-- ==== Sys2Proof/Machine/Groups.lean ====
section
/-! DEFINITION. Cascade groups (R373–R380): joining, group steps as their messages arrive, quorum, failover. Each row below is the arrival of
one cascade control message on a link session. -/
namespace Sys2Proof.Machine

/-- The partition that a link session belongs to, while it is enabled in a group and the session is open. -/
def linkPart (s : State) (ses : Nat) : Option Nat :=
  let x := session s ses
  if x.st == 2 && x.kind == 2 && x.group != 0 && inGroup s x.lpart then some x.lpart else none

def addRank (l : List Nat) (r : Nat) : List Nat := if l.contains r then l else l ++ [r]

/-! ### Quorum (R378) -/

/-- R378: the master and every rank whose link session to it is open. -/
def liveCountOf (s : State) (p : Nat) : Nat := 1 + ((openRanks s p).foldl addRank []).length
def hasQuorum (s : State) (p : Nat) : Bool := decide (groupSize s p < 2 * liveCountOf s p)

/-- R374, R378: a master with quorum is FORMED once every rank has joined; a step that was fenced goes on. -/
def masterSettle (s : State) (p : Nat) : State :=
  let g := group s p
  if !isMaster s p || g.st == 0 || g.st == 4 || !hasQuorum s p then s
  else
    let s := updGroup s p fun g => { g with st := if groupSize s p ≤ g.joined.length + 1 then 2 else 1 }
    tryCommit (if g.st = 3 then reviewStall s p else s) p

/-- R378: the master loses quorum. -/
def fence (s : State) (p : Nat) : State :=
  if (group s p).st = 3 then s
  else
    let s := raise (updGroup s p fun g => { g with st := 3 }) { sev := 4, cls := 5, part := some p }
    if (stepOf s p).any fun r => r.group.isSome && !r.committed then enterStall s p 3 0xFFFF 0 0 else s

/-! ### Steps that end without their boundary (R376, R379) -/

/-- R294, R379: the running step is discarded and the partition is IDLE again. -/
def stepGone (s : State) (p : Nat) : State :=
  if (stepOf s p).isNone then s
  else
    let s := discardStep s p 0x0504
    if (part s p).st = .disabling then leaveDisabling s p else toIdle s p

/-- R376: an undo record of a step later than `n` is reverted. -/
def revertAfter (s : State) (p n : Nat) : State :=
  match (group s p).undo with
  | none => s
  | some u => if n < u.step then revertUndo s p u else s

/-- R379, R380: the sequences that a lost rank takes with it: all of a split group, those homed on it in a replica group. -/
def lostSeqs (s : State) (p r : Nat) : List Nat :=
  ((s.seqs.filter fun e => e.1 / 2 ^ 32 == p).map fun e => e.1 % 2 ^ 32).filter fun q => !replica s p || FMap.get (ownRank s p) (group s p).homes q == r

/-- R193: sequences are closed, here and at the ranks. -/
def closeSeqs (s : State) (p : Nat) (qs : List Nat) : State :=
  qs.foldl (fun s q =>
    let s := toRanks (closeSeq s p q) p (openRanks s p) 16 (quad (put 3 8 248 + put q 32 192))
    updGroup s p fun g => { g with homes := FMap.del g.homes q }) s

/-! ### A link session of a group is lost (R378, R380) -/

/-- R378, R380: what the loss of the session to rank `r` does at partition `p`. -/
def rankLost (s : State) (p r : Nat) : State :=
  let g := group s p
  if isMaster s p && g.st != 0 && g.st != 4 then
    let s := updGroup s p fun g => { g with joined := g.joined.filter (· != r) }
    if !hasQuorum s p then fence s p
    else
      let s := updGroup s p fun g => { g with st := 1 }
      let s := engineFault s p 0x0504
      if replica s p then closeSeqs s p (lostSeqs s p r) else s
  else if isMember s p && g.master == r && g.backup < 16 && g.backup != ownRank s p then toRank s p g.backup 13 [ownRank s p]
  else s

/-- R380: a partition learns of a higher group epoch: a master is STALE, a member joins the new master. -/
def learnEpoch (s : State) (p r e : Nat) : State :=
  if isMaster s p then engineFault (updGroup s p fun g => { g with st := 4 }) p 0x0505
  else toRank (updGroup s p fun g => { g with epoch := e, master := r }) p r 1 [ownRank s p, e]

/-! ### Joining (R371, R374) -/

/-- JOIN at the master (R371, R374): answered with the epoch, in a split group the sequence records, and the open windows. -/
def joinRx (s : State) (ses : Nat) : State :=
  match linkPart s ses with
  | none => s
  | some p =>
    if !isMaster s p || (group s p).st == 0 || (group s p).st == 4 then s
    else
      let s := updGroup s p fun g => { g with joined := addRank g.joined (session s ses).rank }
      let recs := if replica s p then [] else (groupTable s p).flatMap fun e => quad e.2 ++ [e.2 / 2 ^ 256]
      let s := emit s (.cascade ses 2 ((group s p).epoch :: recs))
      let s := (List.range 256).foldl (fun s w =>
        if (window s p w).st = 1 then emit s (.cascade ses 12 [w, (window s p w).epoch, 1]) else s) s
      masterSettle s p

/-- Words of 320 bits, as five numbers of 64 bits each. -/
def fives : List Nat → List Nat
  | a :: b :: c :: d :: e :: t => (a % 2 ^ 64 + put b 64 64 + put c 64 128 + put d 64 192 + put e 64 256) :: fives t
  | _ => []

/-- Sequences of a partition take what packed words give them. -/
def adoptSeqs (s : State) (p : Nat) (ws : List Nat) : State :=
  ws.foldl (fun s w =>
    let q := w % 2 ^ 32
    setSeq s p q (unpackSeq w ((seqOf s p q).getD { handle := freeHandle s p }))) s

/-- The answer to JOIN at a member (R374): it takes the epoch and the records, and its enable check accepts. -/
def joinAnswerRx (s : State) (ses epoch : Nat) (ws : List Nat) : State :=
  match linkPart s ses with
  | none => s
  | some p =>
    if !isMember s p then s
    else
      let s := updGroup s p fun g => { g with epoch := epoch, master := (session s ses).rank, joined := [(session s ses).rank] }
      let s := if (part s p).check.isSome && (group s p).joinAt.isSome then enableFinish s p else s
      adoptSeqs s p ws

/-- JOIN (R374): a member's JOIN arrives. -/
def execJoin (ses : Nat) (s : State) : Host.Outcome State Fault Refusal := .next (joinRx s ses)

/-- JOIN_TIMEOUT (R374): no answer within 1 s: the enable check of partition `p` refuses. -/
def execJoinTimeout (p : Nat) (s : State) : Host.Outcome State Fault Refusal :=
  if 16 ≤ p then .fault .noSuchUnit
  else
    match (group s p).joinAt with
    | none => .next s
    | some t => if t + 1000000000 ≤ nowNs s then .next (enableRefuse s p 0x0506 (pidx 0x63 p * 256 + 5)) else .next s

/-! ### A group step (R375, R376) -/

/-- STEPGO at a rank. -/
def stepgoRx (s : State) (ses n prog : Nat) (binds : List Nat) : State :=
  match linkPart s ses with
  | none => s
  | some p =>
    if isMember s p && (part s p).enable && (group s p).master == (session s ses).rank then
      goWaiting (updGroup s p fun g => { g with waiting := g.waiting ++ [{ session := ses, step := n, prog := prog, binds := binds }] }) p
    else s

/-- STEPGO (R375): group step `n` with a program and the 256-bit words of its bindings; it waits for the step before it to be confirmed. -/
def execStepgo (ses n prog : Nat) (binds : List Nat) (s : State) : Host.Outcome State Fault Refusal := .next (stepgoRx s ses n prog binds)

/-- The session is a rank's to a master whose running or posting step is group step `n`. -/
def masterOf (s : State) (ses n : Nat) : Option Nat :=
  (linkPart s ses).filter fun p => isMaster s p && (group s p).confirmed + 1 == n && (group s p).ranks.contains (session s ses).rank

/-- MASKS at the master: the slots that a rank masked are masked for the group. -/
def masksRx (s : State) (ses n : Nat) (slots : List Nat) : State :=
  match masterOf s ses n with
  | none => s
  | some p =>
    let s := updGroup s p fun g => { g with masks := addRank g.masks (session s ses).rank }
    if (stepOf s p).any fun r => r.group == some n && !r.committed then
      let s := slots.foldl (fun s i => maskSlot s p i false 0) s
      tryCommit (endIfMasked s p) p
    else s

/-- MASKS (R375). -/
def execMasks (ses n : Nat) (slots : List Nat) (s : State) : Host.Outcome State Fault Refusal := .next (masksRx s ses n slots)

/-- The words of COMMIT, ten for each slot. -/
def tens (l : List Nat) : Nat → List (List Nat)
  | 0 => []
  | k + 1 => l.take 10 :: tens (l.drop 10) k

/-- COMMIT at a rank: its slots take the master's decisions; it commits once its tiles have reached END. -/
def commitRx (s : State) (ses n : Nat) (words : List Nat) : State :=
  match linkPart s ses with
  | none => s
  | some p =>
    if isMember s p && (stepOf s p).any fun r => r.group == some n then
      let ds := tens words (words.length / 10)
      let s := updStep s p fun r => { r with slots := r.slots.map fun b => match ds.find? fun d => fld (d.getD 0 0) 63 56 == b.slot with
        | none => b
        | some d => commitSlotOf b d }
      tryCommit (endIfMasked (updGroup s p fun g => { g with commit := true }) p) p
    else s

/-- GROUP_COMMIT (R375). -/
def execGroupCommit (ses n : Nat) (words : List Nat) (s : State) : Host.Outcome State Fault Refusal := .next (commitRx s ses n words)

/-- COMMITTED at the master. -/
def committedRx (s : State) (ses n : Nat) : State :=
  match masterOf s ses n with
  | none => s
  | some p => groupBoundary (updGroup s p fun g => { g with done := addRank g.done (session s ses).rank }) p

/-- COMMITTED (R375): a rank has committed group step `n`. -/
def execCommitted (ses n : Nat) (s : State) : Host.Outcome State Fault Refusal := .next (committedRx s ses n)

/-- BOUNDARY at the backup: the changes join its copy of the table. -/
def boundaryRx (s : State) (ses n : Nat) (ws : List Nat) : State :=
  match linkPart s ses with
  | none => s
  | some p =>
    if isMember s p then
      emit (updGroup s p fun g => { g with table := tableApply g.table ws, tableAt := n }) (.cascade ses 8 [n])
    else s

/-- BOUNDARY (R375): the sequence-table changes of group step `n`, one packed word each. -/
def execBoundary (ses n : Nat) (ws : List Nat) (s : State) : Host.Outcome State Fault Refusal := .next (boundaryRx s ses n ws)

/-- The acknowledgement of BOUNDARY at the master: the record is posted and the step confirmed. -/
def boundaryAckRx (s : State) (ses n : Nat) : State :=
  match linkPart s ses with
  | none => s
  | some p =>
    match (group s p).posting with
    | none => s
    | some r => if r.group = some n ∧ (group s p).sent = true ∧ (group s p).backup = (session s ses).rank then postGroup s p r else s

/-- BOUNDARY_ACK (R375). -/
def execBoundaryAck (ses n : Nat) (s : State) : Host.Outcome State Fault Refusal := .next (boundaryAckRx s ses n)

/-- CONFIRM at a rank: its undo record goes, and the next STEPGO may launch. -/
def confirmRx (s : State) (ses n : Nat) : State :=
  match linkPart s ses with
  | none => s
  | some p =>
    if isMember s p && (group s p).master == (session s ses).rank then
      goWaiting (updGroup s p fun g => { g with confirmed := n, undo := g.undo.filter fun u => decide (n < u.step) }) p
    else s

/-- CONFIRM (R375, R376). -/
def execConfirm (ses n : Nat) (s : State) : Host.Outcome State Fault Refusal := .next (confirmRx s ses n)

/-- What the master forwarded arrives at a rank (R375): at once, or at the boundary where a step runs. -/
def orderRx (s : State) (ses w : Nat) : State :=
  match linkPart s ses with
  | none => s
  | some p =>
    let op := w / 2 ^ 248
    if !isMember s p || !groupOp op || op == 1 then s
    else if (op == 3 || (decide (0x20 ≤ op) && decide (op ≤ 0x23))) && stepActive s p then updGroup s p fun g => { g with orders := g.orders ++ [w] }
    else orderEff s p w

/-! ### Cancels of group sequences (R377) -/

/-- A forwarded cancel at the master: as if it had arrived there. -/
def cancelForwardRx (s : State) (ses q : Nat) : State :=
  match linkPart s ses with
  | none => s
  | some p =>
    if !isMaster s p then s
    else
      let s := updGroup s p fun g => { g with forwarded := g.forwarded ++ [(session s ses).rank * 2 ^ 32 + q] }
      match seqOf s p q with
      | none => finalForwards s p (· == q)
      | some x =>
        let busy := (stepOf s p).any fun r => !r.committed && r.slots.any fun b => b.seq == q
        let s := setSeq s p q { x with cancelled := true }
        if busy && !x.cancelled then s else finalForwards (addObj s (pidx 0x57 p) 6 1) p (· == q)

/-- CANCEL_FORWARD (R377). -/
def execCancelForward (ses q : Nat) (s : State) : Host.Outcome State Fault Refusal := .next (cancelForwardRx s ses q)

/-- A masking from the master at a rank: its tiles mask the slot; a final one completes the CANCEL that waits, with the last committed step + 1. -/
def maskingRx (s : State) (ses q slot fin last : Nat) : State :=
  match linkPart s ses with
  | none => s
  | some p =>
    if !isMember s p then s
    else
      let s := match seqOf s p q with
        | none => s
        | some x => setSeq s p q { x with cancelled := true, lastStep := if fin ≠ 0 ∧ last ≠ 0 then some (last - 1) else x.lastStep }
      if fin ≠ 0 then
        finalCancels (updGroup s p fun g => { g with forwarded := g.forwarded.filter fun f => f % 2 ^ 32 != q }) p (· == q)
      else if (boundSlot s p q).any fun b => b.slot == slot then
        let s := { s with tiles := s.tiles.map fun e =>
          if e.2.part = p ∧ !(e.2.masked ++ e.2.maskNext).contains slot then (e.1, { e.2 with maskNext := slot :: e.2.maskNext }) else e }
        endIfMasked (maskSlot s p slot true 0) p
      else s

/-- GROUP_MASKING (R377): a masking of a sequence in a slot; `fin` 1 where it is the decision that a member's CANCEL waits for. -/
def execGroupMasking (ses q slot fin last : Nat) (s : State) : Host.Outcome State Fault Refusal := .next (maskingRx s ses q slot fin last)

/-! ### Windows of other ranks (R371) -/

def announceRx (s : State) (ses w e st : Nat) : State :=
  match linkPart s ses with
  | none => s
  | some p => { s with announced := FMap.set s.announced ((p * 16 + (session s ses).rank) * 256 + w % 256) (e * 4 + st % 4) }

/-- WINDOW_ANNOUNCE (R371): window, epoch and state. -/
def execWindowAnnounce (ses w e st : Nat) (s : State) : Host.Outcome State Fault Refusal := .next (announceRx s ses w e st)

/-! ### Failover (R378, R379) -/

def masterlostRx (s : State) (ses : Nat) : State :=
  match linkPart s ses with
  | none => s
  | some p =>
    if isMember s p && (group s p).backup == ownRank s p then updGroup s p fun g => { g with lost := addRank g.lost (session s ses).rank } else s

/-- MASTERLOST (R378): a rank tells the backup that it has lost the master. -/
def execMasterlost (ses : Nat) (s : State) : Host.Outcome State Fault Refusal := .next (masterlostRx s ses)

/-- R379: the member and the ranks from which it has MASTERLOST make more than half the group. -/
def promoteQuorum (s : State) (p : Nat) : Bool := decide (groupSize s p < 2 * (1 + (group s p).lost.length))
/-- R379: the member's link session to the master has been lost. -/
def masterGone (s : State) (p : Nat) : Bool := isMember s p && (part s p).enable && (rankSession s p (group s p).master).isNone

/-- R379: the member becomes master. -/
def promote (s : State) (p : Nat) : State :=
  let g := group s p
  let own := ownRank s p
  let n := if g.backup = own then g.tableAt else g.confirmed
  let s := revertAfter (stepGone s p) p n
  let live := (openRanks s p).foldl addRank []
  let backup := if objD 0 s (pidx 0x63 p) 7 = 1 then ((List.range 16).find? fun r => live.contains r).getD 0xFF
    else if g.backup = own then 0xFF else g.backup
  let s := updGroup s p fun g => { g with
    st := 1, epoch := (g.epoch + 1) % 65536, role := 1, master := own, backup := backup, joined := [], ranks := [], masks := [], done := [], sent := false
    posting := none, undo := none, confirmed := n, lost := [], waiting := [], orders := [], forwarded := []
    homes := g.table.map fun e => (e.1, fld e.2 269 266) }
  let s := if replica s p then adoptSeqs s p (g.table.map (·.2)) else s
  let s := toRanks s p live 14 [(group s p).epoch, n]
  let gone := lostSeqs s p g.master
  raise (closeSeqs s p gone) { sev := 3, cls := 5, part := some p, detail := gone.getD 0 0 + put (gone.getD 1 0) 32 32 }

/-- BACKUP_PROMOTE (R379): the backup of a group with the standing policy promotes itself once the conditions hold. -/
def execBackupPromote (p : Nat) (s : State) : Host.Outcome State Fault Refusal :=
  if 16 ≤ p then .fault .noSuchUnit
  else if masterGone s p && (group s p).backup == ownRank s p && objD 0 s (pidx 0x63 p) 7 == 1 && promoteQuorum s p then .next (promote s p)
  else .next s

/-- PROMOTE (R379): a request that makes a member the master. -/
def execPromote (ses reqid p gid : Nat) (s : State) : Host.Outcome State Fault Refusal :=
  if 16 ≤ p then .fault .noSuchUnit
  else
    served s ses 0x14 reqid fun s =>
      if !hasConfigure s ses p then refuseReq s ses 0x14 reqid 0x0204
      else if gid ≠ objD 0 s (pidx 0x63 p) 1 ∨ masterGone s p = false then refuseReq s ses 0x14 reqid 0x0212
      else if !promoteQuorum s p then refuseReq s ses 0x14 reqid 0x0507
      else acceptReq (promote s p) ses 0x14 reqid

/-- NEWMASTER at a rank: its running step and a later undo record go, and it follows the sender. -/
def newmasterRx (s : State) (ses epoch n : Nat) : State :=
  match linkPart s ses with
  | none => s
  | some p =>
    let g := group s p
    let r := (session s ses).rank
    if epoch < g.epoch then s
    else if isMaster s p then (if g.epoch < epoch then learnEpoch s p r epoch else s)
    else
      let s := revertAfter (stepGone s p) p n
      let s := finalCancels s p fun _ => true
      let s := updGroup s p fun g => { g with
        epoch := epoch, confirmed := n, master := r, joined := [r], undo := none, waiting := [], forwarded := [], lost := []
        backup := if g.backup = r then 0xFF else g.backup }
      emit s (.cascade ses 15 [epoch])

/-- NEWMASTER (R379). -/
def execNewmaster (ses epoch n : Nat) (s : State) : Host.Outcome State Fault Refusal := .next (newmasterRx s ses epoch n)

/-- The reply to NEWMASTER at the new master: the rank follows it. -/
def newmasterReplyRx (s : State) (ses : Nat) : State :=
  match linkPart s ses with
  | none => s
  | some p => if isMaster s p then masterSettle (updGroup s p fun g => { g with joined := addRank g.joined (session s ses).rank }) p else s

/-- A cascade control message of a kind (OutMsg.cascade) with its content as 64-bit numbers. -/
def cascadeRx (s : State) (ses kind : Nat) (b : List Nat) : State :=
  let a := fun i => b.getD i 0
  match kind with
  | 1 => joinRx s ses
  | 2 => joinAnswerRx s ses (a 0) (fives (b.drop 1))
  | 3 => stepgoRx s ses (a 0) (a 1) (quads (b.drop 2))
  | 4 => masksRx s ses (a 0) (b.drop 1)
  | 5 => commitRx s ses (a 0) (b.drop 1)
  | 6 => committedRx s ses (a 0)
  | 7 => boundaryRx s ses (a 0) (fives (b.drop 1))
  | 8 => boundaryAckRx s ses (a 0)
  | 9 => confirmRx s ses (a 0)
  | 10 => cancelForwardRx s ses (a 0)
  | 11 => maskingRx s ses (a 0) (a 1) (a 2) (a 3)
  | 12 => announceRx s ses (a 0) (a 1) (a 2)
  | 13 => masterlostRx s ses
  | 14 => newmasterRx s ses (a 0) (a 1)
  | 15 => newmasterReplyRx s ses
  | 16 => orderRx s ses ((quads b).getD 0 0)
  | _ => s

end Sys2Proof.Machine
end

