-- ==== Sys2Proof/Machine/Modes.lean ====
section
/-! DEFINITION. Two-phase mode changes (R416–R422, R448). -/
namespace Sys2Proof.Machine

/-- R271: a re-placement of some partition is queued or running. -/
def replacing (s : State) : Bool := s.jobs.any fun j => !j.isLoad

/-- R416, R420: the units of a change, in readback order: UNITKIND × 65536 + number. -/
def modeUnits (s : State) (kind p : Nat) : List Nat :=
  if kind ≠ 3 then (tilesOf s p).map (65536 + ·)
  else ((List.range 16).filter fun q => (part s q).enable).flatMap (fun q => (tilesOf s q).map (65536 + ·))
    ++ ((List.range 288).filter fun c => decide (blockState s c < 2)).map (131072 + ·)
    ++ (List.range 5).map (458752 + ·)

/-- R418, R419: a record enters ARMING, the only one that the device keeps (so that RC_MODE_BUSY answers a change of any scope meanwhile); units dark at that moment are DEFERRED; the partitions it holds in IDLE enter ARMED. -/
def modeArm (s : State) (ses reqid kind p v : Nat) : State :=
  let us := (modeUnits s kind p).map fun id =>
    if unitDark s id then { ident := id, st := 6, reason := 0x0611 } else ({ ident := id, st := 1 } : ModeUnit)
  let s := { s with
    modeRec := { st := 1, since := nowNs s, kind := kind, part := if kind = 3 then 0xFF else p, value := v, units := us, waiter := some (ses, reqid) }
    gov := if kind = 3 then { s.gov with armedLines := [objD 4 s 0x4101 1, objD 10 s 0x4101 2, objD 2 s 0x4101 3] } else s.gov }
  let s := setCond s 448 false
  if kind ≠ 3 then setPState s p .armed
  else (List.range 16).foldl (fun s q => if (part s q).enable && (part s q).st == .idle then setPState s q .armed else s) s

/-- R417: why MCARM is refused. -/
def mcarmFail (s : State) (ses kind p v : Nat) : Option Nat :=
  let legal := match kind with
    | 1 => decide (v ≤ 2)
    | 2 => decide (v ≤ 7) || v == 0xFF
    | _ => decide (v ≤ 3)
  if !(if kind = 3 then hasMconfig s ses else hasConfigure s ses p) then some 0x0204
  else if !legal then some 0x012A
  else if s.power ≠ .ready then some 0x021E
  else if kind ≠ 3 ∧ (part s p).st ≠ .idle then some 0x0206
  else if s.modeRec.st = 1 ∨ s.modeRec.st = 2 ∨ s.modeRec.st = 3 then some 0x0214
  else if kind = 3 ∧ replacing s then some 0x020F
  else if kind = 2 ∧ v ≠ 0xFF ∧ !bandTables s p v then some 0x0406
  else none

/-- MCARM (R417): refused, or accepted; its reply comes when the record leaves ARMING. -/
def mcarm (ses reqid kind p v : Nat) (s : State) : Host.Outcome State Fault Refusal :=
  if kind ≠ 3 ∧ 16 ≤ p then .fault .noSuchUnit
  else served s ses 0x20 reqid fun s =>
    match mcarmFail s ses kind p v with
    | some r => refuseReq s ses 0x20 reqid r
    | none => modeArm s ses reqid kind p v

/-- MCARM_NUMERIC (R416, R417): kind 1. -/
def execMcarmNumeric (ses reqid p v : Nat) (s : State) : Host.Outcome State Fault Refusal := mcarm ses reqid 1 p v s
/-- MCARM_BAND (R416, R417, R421): kind 2. -/
def execMcarmBand (ses reqid p v : Nat) (s : State) : Host.Outcome State Fault Refusal := mcarm ses reqid 2 p v s
/-- MCARM_POWER (R416, R417, R448): kind 3. -/
def execMcarmPower (ses reqid v : Nat) (s : State) : Host.Outcome State Fault Refusal := mcarm ses reqid 3 0 v s

/-- Sends the reply that the record's MCARM or MCAPPLY waits for. -/
def modeReply (s : State) (op reason : Nat) : State :=
  match s.modeRec.waiter with
  | none => s
  | some (ses, r) =>
    let s := { s with modeRec := { s.modeRec with waiter := none } }
    if reason = 0 then acceptReq s ses op r else refuseReq s ses op r reason

/-- Rolls back and sends the waiting reply. -/
def modeFail (s : State) (op reason : Nat) : State :=
  let m := s.modeRec
  let t := modeRollback s reason
  modeReply { t with modeRec := { t.modeRec with waiter := m.waiter } } op reason

/-- R417: an enabled partition of a change of module scope still runs a step, so that its tiles are not armed. -/
def modeWaits (s : State) : Bool :=
  s.modeRec.kind == 3 && (List.range 16).any fun p => (part s p).st == .stepping || (part s p).st == .stalled || (part s p).st == .disabling

/-- MC_ARMED (R418): every unit has armed. -/
def execMcArmed (s : State) : Host.Outcome State Fault Refusal :=
  if s.modeRec.st ≠ 1 ∨ modeWaits s then .next s
  else
    let m := s.modeRec
    let s := { s with modeRec := { m with st := 2, since := nowNs s, units := m.units.map fun u => if u.st = 1 then { u with st := 2 } else u } }
    .next (modeReply s 0x20 0)

/-- MC_ARM_TIMEOUT (R418): the arm timeout passes in ARMING. -/
def execMcArmTimeout (s : State) : Host.Outcome State Fault Refusal :=
  if s.modeRec.st ≠ 1 ∨ nowNs s < s.modeRec.since + objD 100 s 0x2400 12 * 1000000 then .next s else .next (modeFail s 0x20 0x0312)

/-- MC_ARM_UNIT_FAIL (R418): unit `i` of the record, which is reachable, fails to arm. -/
def execMcArmUnitFail (i : Nat) (s : State) : Host.Outcome State Fault Refusal :=
  let m := s.modeRec
  match m.units[i]? with
  | none => .next s
  | some u =>
    if m.st ≠ 1 ∨ u.st ≠ 1 ∨ unitDark s u.ident then .next s
    else
      let m := { m with units := m.units.set i { u with st := 4, reason := 0x070B }, failed := u.ident }
      .next (modeFail { s with modeRec := m } 0x20 0x070B)

/-- MC_HOLD_TIMEOUT (R418): the hold timeout passes in ARMED. -/
def execMcHoldTimeout (s : State) : Host.Outcome State Fault Refusal :=
  if s.modeRec.st ≠ 2 ∨ nowNs s < s.modeRec.since + objD 1000 s 0x2400 11 * 1000000 then .next s else .next (modeRollback s 0x0312)

/-- R399: the right that a request on the record needs. -/
def modeRight (s : State) (ses : Nat) : Bool :=
  if s.modeRec.kind = 0 then true
  else if s.modeRec.kind = 3 then hasMconfig s ses else hasConfigure s ses s.modeRec.part

/-- MCAPPLY (R419): schedules the apply for `epoch`, in ns; 0 is the present time plus the lead. -/
def execMcapply (ses reqid epoch : Nat) (s : State) : Host.Outcome State Fault Refusal :=
  served s ses 0x21 reqid fun s =>
    let soonest := nowNs s + objD 100 s 0x2400 13 * 1000
    if !modeRight s ses then refuseReq s ses 0x21 reqid 0x0204
    else if s.modeRec.st ≠ 2 then refuseReq s ses 0x21 reqid 0x0215
    else if epoch ≠ 0 ∧ epoch < soonest then refuseReq s ses 0x21 reqid 0x0217
    else { s with modeRec := { s.modeRec with st := 3, epoch := if epoch = 0 then soonest else epoch, waiter := some (ses, reqid) } }

/-- MCABORT (R418). -/
def execMcabort (ses reqid : Nat) (s : State) : Host.Outcome State Fault Refusal :=
  served s ses 0x22 reqid fun s =>
    if !modeRight s ses then refuseReq s ses 0x22 reqid 0x0204
    else if s.modeRec.st ≠ 2 then refuseReq s ses 0x22 reqid 0x0215
    else acceptReq (modeRollback s 0) ses 0x22 reqid

/-- MC_APPLY_EPOCH (R419): at EPOCH every armed unit switches and confirms, but for the units numbered in `bad` and those that have become dark. -/
def execMcApplyEpoch (bad : List Nat) (s : State) : Host.Outcome State Fault Refusal :=
  let m := s.modeRec
  if m.st ≠ 3 ∨ nowNs s < m.epoch then .next s
  else
    let us := (m.units.zip (List.range m.units.length)).map fun e =>
      if e.1.st = 2 ∧ !bad.contains e.2 ∧ !unitDark s e.1.ident then { e.1 with st := 3 } else e.1
    .next { s with modeRec := { m with units := us } }

/-- R416, R418, R421, R442, R448: the new value is in force and committed. -/
def modeCommit (s : State) : State :=
  let m := s.modeRec
  match m.kind with
  | 1 => setObj s (pidx 0x51 m.part) 34 m.value
  | 2 => forceBand (setObj s (pidx 0x51 m.part) 35 m.value) m.part
  | _ => setObj { s with gov := { s.gov with loadLines := s.gov.armedLines } } 0x4000 1 m.value

/-- MC_CONFIRM_END (R418, R419): the confirm window ends: DONE where every unit has confirmed, else the change is rolled back. -/
def execMcConfirmEnd (s : State) : Host.Outcome State Fault Refusal :=
  let m := s.modeRec
  if m.st ≠ 3 ∨ nowNs s < m.epoch then .next s
  else
    match m.units.find? fun u => u.st == 2 with
    | none =>
      let s := modeCommit s
      let s := releaseArmed { s with modeRec := { s.modeRec with st := 4, reason := 0 } }
      let s := raise (setCond s 448 true) { sev := 1, cls := 10, part := if m.kind = 3 then none else some m.part, object := 0x240001 }
      .next (modeReply s 0x21 0)
    | some f =>
      if nowNs s < m.epoch + objD 10 s 0x2400 14 * 1000 then .next s
      else
        let reason := fun (u : ModeUnit) => if unitDark s u.ident then 0x0611 else 0x070B
        let us := m.units.map fun u => if u.st = 2 then { u with st := 4, reason := reason u } else u
        .next (modeFail { s with modeRec := { m with units := us, failed := f.ident } } 0x21 (reason f))

end Sys2Proof.Machine
end

