-- ==== Sys2Proof/Machine/ImageCheck.lean ====
section
/-! DEFINITION. The checks that the placer makes of an image (R257, checks 2–9; R280, R330, R339, R340, R372). -/
namespace Sys2Proof.Machine

/-- The reason of the first check, in order, that is not met. -/
def firstFail : List (Bool × Nat) → Option Nat
  | [] => none
  | (ok, r) :: t => if ok then firstFail t else some r

def allDistinct : List Nat → Bool
  | [] => true
  | a :: t => !t.contains a && allDistinct t

def sumNat (l : List Nat) : Nat := l.foldl (· + ·) 0
def maxNat (l : List Nat) : Nat := l.foldl Nat.max 0

/-- Ranges, as start and length, that share nothing. -/
def disjoint : List (Nat × Nat) → Bool
  | [] => true
  | a :: t => t.all (fun b => decide (a.1 + a.2 ≤ b.1) || decide (b.1 + b.2 ≤ a.1)) && disjoint t

/-! ### Lists and transfers of an image -/

/-- A tile command list as compiled: its PTI, step program, byte offset in the image, its header, and its region's SIZE and its offset there. -/
structure ImgList where
  pti : Nat
  prog : Nat
  off : Nat
  hdr : Nat
  room : Nat

def imgRegionOf (t : ImgTile) (ridx : Nat) : Option ImgRegion := t.regions.find? fun r => r.ridx == ridx

/-- The list of a PTI in a step program (R250), where its entry point lies in a region of the tile. -/
def imgList (m : Memory) (t : ImgTile) (prog ridx off : Nat) : Option ImgList :=
  (imgRegionOf t ridx).map fun r =>
    let o := sectOff m 4 + r.data + off
    { pti := t.pti, prog := prog, off := o, hdr := imgNat m o 16, room := r.size - off }

def imgLists (m : Memory) : List ImgList :=
  (imgProgs m).flatMap fun e => (imgTiles m).filterMap fun t =>
    match e.2[t.pti]? with
    | none => none
    | some x => imgList m t (fld e.1 63 60) x.1 x.2

def ImgList.ncmd (l : ImgList) : Nat := fld l.hdr 115 100
/-- The command word of an index. -/
def ImgList.word (m : Memory) (l : ImgList) (i : Nat) : Nat := imgNat m (l.off + 16 * i) 16
def ImgList.cmds (m : Memory) (l : ImgList) : List Nat := (List.range l.ncmd).map fun i => l.word m (i + 1)

/-- Some command of the image satisfies a test. -/
def imgAny (m : Memory) (p : Nat → Bool) : Bool := (imgLists m).any fun l => (l.cmds m).any p

/-- R225: commands that use a flow. -/
def isTransfer (w : Nat) : Bool := isOp 0x50 w || isOp 0x51 w || isOp 0x60 w || (isOp 0x06 w && fld w 119 117 == 1)

/-! ### Check 2: header and section table (R246, R247) -/

def headerFormOk (m : Memory) : Bool :=
  let h := imgHdr m
  let n := imgNsect m
  let len := imgLength m * 4096
  imgMagic m == 0x4F4C4931 && decide (1 ≤ n) && decide (n ≤ 64) && decide (64 + 16 * n ≤ len)
    && fld h 465 464 == 0 && fld h 451 448 == 0 && fld h 351 32 == 0
    && (sections m).all (fun x => decide (1 ≤ x.typ) && decide (x.typ ≤ 11) && decide (x.off + x.len ≤ len))
    && allDistinct ((sections m).map (·.typ))

/-- R247: every section that the image must have is present. -/
def sectionsOk (m : Memory) : Bool :=
  let has := fun t => (sect m t).isSome
  [1, 2, 3, 4, 5].all has && (imgSCompat m || has 6)
    && (has 7 || !imgAny m isTransfer) && (has 9 || !imgAny m (isOp 0x51))
    && (has 8 || !(imgAny m (fun w => isOp 0x50 w && bitAt w 29) || (has 9 && (imgReduces m).any fun d => bitAt d.1 37)))
    && (has 11 || dHbm m == 0)

/-! ### Check 3: versions -/

def versionsOk (m : Memory) : Bool :=
  fld (imgHdr m) 479 476 == 1 && fld (imgHdr m) 471 468 == 1 && (sections m).all (fun x => x.ver == 1)
    && fld (demand m) 255 248 == 1 && (imgTiles m).all (fun t => fld t.word 255 248 == 1)
    && (imgBlocks m).all (fun b => fld b.word 255 248 == 1) && (imgReduces m).all (fun d => fld d.1 127 120 == 1)
    && ((sect m 11).isNone || (fld (hbmHdr m) 127 120 == 1 && (!hbmHasKv m || imgNat m (kvOff m + 15) 1 == 1)))

/-! ### Check 4: CRCs -/

def crcsOk (m : Memory) : Bool :=
  imgHdrCrcOk m && (sections m).all (fun x => crc32 (Memory.readN m x.off x.len) == x.crc)
    && (imgBlocks m).all fun b => goldenCrcOk (imgGolden m b)

/-! ### Check 5: ranges (R248–R256, R277–R279, R329, R330, R339) -/

/-- The records of a section lie inside it. -/
def recordsOk (m : Memory) : Bool :=
  decide (32 ≤ sectLen m 1)
    && decide (sumNat ((imgTiles m).map fun t => 32 + 8 * t.regions.length) ≤ sectLen m 2)
    && decide (imgNprog m * progStride m ≤ sectLen m 3) && sectLen m 5 % 524320 == 0 && sectLen m 6 % 16 == 0
    && decide (8 * dNflow m ≤ sectLen m 7) && decide (32 * dNlane m ≤ sectLen m 8)
    && decide (sumNat ((imgReduces m).map fun d => 16 + (2 * d.2.length + 15) / 16 * 16) ≤ sectLen m 9)
    && decide (sumNat ((imgHandoffs m).map fun h => 16 + (2 * h.2.1.length + 15) / 16 * 16 + 8 * h.2.2.length) ≤ sectLen m 10)

def demandOk (m : Memory) : Bool :=
  decide (1 ≤ dNpti m) && decide (dNpti m ≤ 2112) && decide (1 ≤ dNsync m) && decide (dNsync m ≤ 1024) && decide (dNlane m ≤ 1536)
    && fld (demand m) 109 0 == 0 && (imgSCompat m || dGrant m == sumNat ((imgTiles m).map (·.grant)))
    && dHbm m == sumNat ((imgHregs m).map fun w => (hregOf w).size)

def regionOk (m : Memory) (r : ImgRegion) : Bool :=
  decide (r.kind ≤ 3) && decide (r.ridx ≤ 14) && r.reserved == 0 && (imgSCompat m || r.fixoff == 0)
    && (if r.kind = 0 then decide (r.data + r.size ≤ sectLen m 4) else r.data == 0)

def tileRecOk (m : Memory) (t : ImgTile) (i : Nat) : Bool :=
  t.pti == i && decide (t.lx ≤ 71) && decide (t.narray ≤ 64) && decide (t.grant ≤ 16) && decide (t.accRows ≤ 128)
    && decide (1 ≤ t.regions.length) && decide (t.spbytes ≤ spTop) && t.spbytes == sumNat (t.regions.map (·.size))
    && fld t.word 175 0 == 0 && allDistinct (t.regions.map (·.ridx)) && t.regions.all (regionOk m)

/-- An entry point names a RESIDENT region of its tile and an offset in it. -/
def entryOk (m : Memory) (t : ImgTile) (e : Nat × Nat) : Bool :=
  match imgRegionOf t e.1 with
  | none => false
  | some r => r.kind == 0 && decide (e.2 + 16 ≤ r.size)

def progsOk (m : Memory) : Bool :=
  let ps := imgProgs m
  allDistinct (ps.map fun e => fld e.1 63 60)
    && ps.all (fun e => fld e.1 47 0 == 0 && (!imgSCompat m || fld e.1 59 52 == 0)
      && (imgTiles m).all fun t => entryOk m t (e.2.getD t.pti (15, 0)))
    && (List.range (imgNprog m)).all fun i => (List.range (dNpti m)).all fun p =>
        imgNat m (sectOff m 3 + i * progStride m + 8 + 4 * p) 4 % 16 == 0

def blockKeys (m : Memory) : List (Nat × Nat × Nat) := (imgBlocks m).map fun b => (b.pti, b.lan, b.lbank)

/-- R251: each logical bank of each LAN of each PTI has exactly one block, and equal identities have equal contents. -/
def blocksOk (m : Memory) : Bool :=
  let bs := imgBlocks m
  bs.all (fun b => fld b.word 161 160 == 0 && b.word % 2 ^ 128 == 0 && decide (b.format ≤ 3) && goldenLevelsOk b.format (imgGolden m b).data)
    && (imgTiles m).all (fun t => (List.range t.narray).all fun a => (List.range (if imgDual m then 2 else 1)).all fun l =>
        ((blockKeys m).filter (· == (t.pti, a, l))).length == 1)
    && bs.length == sumNat ((imgTiles m).map fun t => t.narray * (if imgDual m then 2 else 1))
    && bs.all fun b => match bs.find? fun x => x.id == b.id with
        | none => true
        | some x => x.off == b.off || (x.format == b.format && (imgGolden m x).data == (imgGolden m b).data)

def trafficOk (m : Memory) : Bool :=
  let np := dNpti m
  (imgFlows m).all (fun w => decide (fld w 63 52 < np) && fld w 32 0 == 0 && decide (1 ≤ fld w 37 33) && decide (fld w 37 33 ≤ 16)
      && (match fld w 51 50 with
        | 2 => decide (fld w 49 38 < (imgHregs m).length)
        | 3 => false
        | _ => decide (fld w 49 38 < np)))
    && (imgLanes m).all (fun w => decide (fld w 255 244 < np) && fld w 47 0 == 0
      && (List.range 16).all fun i => if i ≤ fld w 243 240 then decide (fld w (59 + 12 * i) (48 + 12 * i) < np) else fld w (59 + 12 * i) (48 + 12 * i) == 0)
    && allDistinct ((imgReduces m).map fun d => fld d.1 119 108)
    && (imgReduces m).all (fun d => decide (fld d.1 83 72 < np) && fld d.1 36 0 == 0
      && (if bitAt d.1 95 then fld d.1 94 84 == 0 else decide (1 ≤ fld d.1 94 84) && decide (fld d.1 94 84 ≤ 1024))
      && (bitAt d.1 71 || (imgTiles m).any fun t => t.pti == fld d.1 83 72 && (imgRegionOf t (fld d.1 47 44)).isSome)
      && d.2.all fun c => c == 0xFFF || decide (c < np))

/-- R255: what a site entry names is a SEND. -/
def siteOk (m : Memory) (w : Nat) : Bool :=
  w % 2 ^ 31 == 0 && match (imgLists m).find? fun l => l.pti == fld w 63 52 && l.prog == fld w 51 48 with
    | none => false
    | some l => decide (1 ≤ fld w 47 32) && decide (fld w 47 32 ≤ l.ncmd) && isOp 0x50 (l.word m (fld w 47 32))

def handoffsOk (m : Memory) : Bool :=
  (imgHandoffs m).all fun h => fld h.1 82 0 == 0 && !h.2.1.isEmpty && h.2.2.all (siteOk m)
    && h.2.1.all fun e => fld e 14 12 == 0 && (imgReduces m).any fun d => fld d.1 119 108 == e % 4096

/-- R330: the rules for region records. -/
def hregsOk (m : Memory) : Bool :=
  let ws := imgHregs m
  let rs := ws.map hregOf
  let pool := poolSize { kv := imgKv m }
  (ws.zip (List.range ws.length)).all (fun e =>
      let r := hregOf e.1
      r.ridx == e.2 && decide (r.kind ≤ 4) && decide (r.width ≤ 4) && r.vbase % 2097152 == 0 && fld e.1 64 64 == 0 && r.size != 0
        && decide (r.vbase + r.size ≤ 2 ^ 44) && decide (r.init ≤ 1)
        && (if r.init = 1 then decide (fld (hbmHdr m) 63 32 * 4096 + r.data + r.size ≤ sectLen m 11) else r.data == 0)
        && (decide (r.kind ≤ 1) || r.init == 0) && (r.kind != 3 || (r.vbase == 0 && decide (pool ≤ r.size))))
    && (rs.filter fun r => r.kind == 3).length == b2n (hbmHasKv m)
    && disjoint ((rs.filter fun r => r.kind != 3).map fun r => (r.vbase, r.size))

def slrOk (m : Memory) (e : Nat × List Nat) : Bool :=
  let w := e.1
  decide (1 ≤ fld w 119 115) && decide (fld w 119 115 ≤ 7) && decide (1 ≤ fld w 102 91) && decide (fld w 102 91 ≤ 2112)
    && fld w 90 75 != 0 && fld w 74 0 == 0
    && (match (imgHregs m)[fld w 114 103]? with
      | none => false
      | some r => (hregOf r).kind == 1)
    && e.2.all fun t => fld t 23 0 == 0 && match (imgTiles m)[fld t 63 52]? with
      | none => false
      | some x => match imgRegionOf x (fld t 27 24) with
        | none => false
        | some r => r.kind == 2

def kvRangesOk (m : Memory) : Bool :=
  let w := imgNat m (kvOff m) 16
  let ng := fld w 119 116 + 1
  let k := imgKv m
  decide (1 ≤ k.maxent) && decide (k.maxent ≤ 16384) && decide (1 ≤ fld w 99 88) && decide (1 ≤ k.pageUnits) && fld w 71 0 == 0
    && (List.range ng).all (fun i =>
      let g := imgNat m (kvOff m + 16 + 16 * i) 16
      fld g 127 124 == i && decide (1 ≤ fld g 107 103) && decide (fld g 107 103 ≤ 3) && decide (1 ≤ fld g 92 61) && fld g 28 0 == 0)
    && k.tiles.all fun t => decide (t.pti < dNpti m) && decide (2 ≤ t.w)
        && (match k.groups.find? fun g => decide (g.l0 ≤ t.layer) && decide (t.layer < g.l0 + g.layers) with
          | none => true
          | some g => g.fmt != 1 || (t.scalereg == 0 && t.scaleoff == 0))

/-- R90: a format code that is reserved. -/
def fmtReserved (c : Nat) : Bool := decide (0x0A ≤ c)

/-- R90, R117: no KV group and no streamed layer names a reserved format code. -/
def formatsOk (m : Memory) : Bool :=
  (sect m 11).isNone
    || (imgSlrs m).1.all (fun e => !fmtReserved (fld e.1 119 115))
      && (!hbmHasKv m || (List.range (fld (imgNat m (kvOff m) 16) 119 116 + 1)).all fun i => !fmtReserved (fld (imgNat m (kvOff m + 16 + 16 * i) 16) 107 103))

def hbmOk (m : Memory) : Bool :=
  if (sect m 11).isNone then true
  else decide (1 ≤ hbmNreg m) && fld (hbmHdr m) 98 64 == 0 && fld (hbmHdr m) 31 0 == 0
    && decide (kvOff m + (if hbmHasKv m then 16 + 16 * (imgKv m).groups.length + 8 * (imgKv m).tiles.length else 0) ≤ sectOff m 11 + sectLen m 11)
    && hregsOk m && (imgSlrs m).1.all (slrOk m) && (!hbmHasKv m || kvRangesOk m)

def rangesOk (m : Memory) : Bool :=
  recordsOk m && demandOk m && ((imgTiles m).zip (List.range (dNpti m))).all (fun e => tileRecOk m e.1 e.2)
    && progsOk m && blocksOk m && trafficOk m && handoffsOk m && hbmOk m

/-! ### Check 6: lists (R160) -/

/-- R13, R160: a list header of the mode and of a list that fits `room` bytes. -/
def listHdrOk (hdr room : Nat) (scompat : Bool) : Bool :=
  fld hdr 127 120 == 1 && bitAt hdr 99 == scompat && fld hdr 86 32 == 0 && decide (1 ≤ fld hdr 115 100) && decide (16 * (fld hdr 115 100 + 1) ≤ room)

def listsOk (m : Memory) : Bool := (imgLists m).all fun l => listHdrOk l.hdr l.room (imgSCompat m)

/-! ### Check 7: relocation records (R256) -/

/-- A relocation record. -/
structure Reloc where
  kind : Nat
  pti : Nat
  prog : Nat
  homereg : Nat
  site : Nat
  lsb : Nat
  width : Nat
  target : Nat

def relocOf (w : Nat) : Reloc :=
  { kind := fld w 127 124, pti := fld w 123 112, prog := fld w 111 108, homereg := fld w 107 104, site := fld w 103 80
    lsb := fld w 79 73, width := fld w 72 68, target := fld w 67 64 }

/-- The byte in the image of the 128-bit unit that a record names, where it lies in its list or region. -/
def relocUnit (m : Memory) (r : Reloc) : Option Nat :=
  if r.kind < 2 then
    match (imgLists m).find? fun l => l.pti == r.pti && l.prog == r.prog with
    | none => none
    | some l => if 1 ≤ r.site ∧ r.site ≤ l.ncmd then some (l.off + 16 * r.site) else none
  else
    match (imgTiles m)[r.pti]? with
    | none => none
    | some t => match imgRegionOf t r.homereg with
      | none => none
      | some g => if g.kind = 0 ∧ r.site % 16 = 0 ∧ r.site + 16 ≤ g.size then some (sectOff m 4 + g.data + r.site) else none

/-- The value of a field as compiled. -/
def relocValue (m : Memory) (r : Reloc) (off : Nat) : Nat := imgNat m off 16 / 2 ^ r.lsb % 2 ^ r.width

def relocOk (m : Memory) (w : Nat) : Bool :=
  let r := relocOf w
  fld w 63 0 == 0 && decide (r.kind ≤ 2) && (!imgSCompat m || r.kind == 1) && decide (r.lsb + r.width ≤ 128)
    && (r.kind == 2 || r.homereg == 0) && (r.kind != 2 || r.prog == 0)
    && match relocUnit m r, (imgTiles m)[r.pti]? with
      | some o, some t =>
        let v := relocValue m r o
        if r.kind = 1 then r.width == 6 && decide (v < t.narray)
        else (r.width == 23 || (r.width == 24 && !bitAt v 23))
          && match imgRegionOf t r.target with
            | none => false
            | some g => decide (v % 2 ^ 23 < g.size)
      | _, _ => false

/-! ### Check 8 -/

/-- R125: the bytes of repeat buffer that a list's guarded tile-steps need: the open tile-step's sum and the largest so far. -/
def guardNeed : List Nat → Bool → Nat → Nat → Nat
  | [], _, n, mx => Nat.max n mx
  | w :: t, g, n, mx =>
    if isOp 0x02 w then guardNeed t (bitAt w 85) 0 (Nat.max n mx)
    else if g && quantWord w then
      guardNeed t g (n + (if isOp 0x10 w then 1024 else fld w 113 98 * (if fld w 119 115 = 8 then 1024 else 33))) mx
    else guardNeed t g n mx

def guardOk (m : Memory) : Bool :=
  (imgLists m).all fun l => match (imgTiles m)[l.pti]? with
    | none => true
    | some t => decide (guardNeed (l.cmds m) false 0 0 ≤ ((t.regions.find? fun r => r.kind == 3).map (·.size)).getD 0)

/-- R252: the flow of a source, a kind of destination and a destination is declared. -/
def hasFlow (m : Memory) (spti dkind dest : Nat) : Bool :=
  (imgFlows m).any fun w => fld w 63 52 == spti && fld w 51 50 == dkind && fld w 49 38 == dest

/-- R225: a command of a tile has the flow it uses. -/
def flowOk (m : Memory) (pti w : Nat) : Bool :=
  if isOp 0x50 w then hasFlow m pti (b2n (bitAt w 59)) (fld w 71 60)
  else if isOp 0x51 w then
    match (imgReduces m).find? fun d => fld d.1 119 108 == fld w 79 68 with
    | none => false
    | some d => hasFlow m pti (b2n (bitAt d.1 71)) (fld d.1 83 72)
  else if isOp 0x60 w then
    match (imgHregs m).findIdx? fun r => (hregOf r).kind == 3 with
    | none => false
    | some i => hasFlow m pti 2 i
  else if isOp 0x06 w && fld w 119 117 == 1 then (imgFlows m).any fun f => fld f 63 52 == pti && fld f 51 50 == 2
  else true

def flowsOk (m : Memory) : Bool := (imgLists m).all fun l => (l.cmds m).all (flowOk m l.pti)

/-- R211, R212: the grant that a tile receives. -/
def grantOf (s : State) (m : Memory) (t : ImgTile) : Nat := if imgSCompat m then objD 9 s 0x2310 1 else t.grant

def chargesOk (s : State) (m : Memory) : Bool :=
  (imgLists m).all fun l => match (imgTiles m)[l.pti]? with
    | none => true
    | some t => (l.cmds m).all fun w => decide (cmdCharge (fld w 127 120) ≤ 1000 * grantOf s m t)

/-! ### Check 9: handoffs (R236) -/

/-- The SEND that a site entry names. -/
def siteWord (m : Memory) (w : Nat) : Nat :=
  match (imgLists m).find? fun l => l.pti == fld w 63 52 && l.prog == fld w 51 48 with
  | none => 0
  | some l => l.word m (fld w 47 32)

/-- R236: the bytes of a fan-out that a lane record would carry. -/
def laneLoad (m : Memory) (lane : Nat) (sites : List Nat) : Nat :=
  sumNat ((sites.filter fun w =>
      fld w 63 52 == fld lane 255 244
        && (List.range (fld lane 243 240 + 1)).any fun i => fld lane (59 + 12 * i) (48 + 12 * i) == fld (siteWord m w) 71 60).map
    fun w => fld (siteWord m w) 95 72)

def handoffOk (m : Memory) (h : Nat × List Nat × List Nat) : Bool :=
  let stats := h.2.2.filter fun w => bitAt w 31
  let fan := h.2.2.filter fun w => !bitAt w 31
  let from_ := fun (l : List Nat) w => (l.filter fun x => fld x 63 52 == fld w 63 52).length
  decide (fld h.1 95 87 ≤ 256) && decide (fld h.1 86 83 ≤ 10)
    && h.2.1.all (fun e => match (imgReduces m).find? fun d => fld d.1 119 108 == e % 4096 with
      | none => false
      | some d => bitAt d.1 37 && decide (d.2.length ≤ 64) && (!bitAt e 15 || (!bitAt d.1 95 && decide (4 * fld d.1 94 84 ≤ 256))))
    && h.2.2.all (fun w => bitAt (siteWord m w) 29)
    && stats.all (fun w => decide (from_ stats w ≤ 16) && decide (fld (siteWord m w) 95 72 ≤ 64))
    && fan.all (fun w => decide (from_ fan w ≤ 16) && decide (fld (siteWord m w) 95 72 ≤ 1040))
    && (imgLanes m).all fun l => decide (laneLoad m l fan ≤ 4160)

/-! ### After the checks of R257 -/

/-- R280: the KV records. -/
def kvLayoutOk (m : Memory) : Bool :=
  let k := imgKv m
  let gs := k.groups
  let smax := maxNat ((imgProgs m).map fun e => fld e.1 59 52 + 1)
  if gs.isEmpty then true
  else
    disjoint (gs.map fun g => (g.l0, g.layers)) && gs.all (fun g => decide (g.l0 + g.layers ≤ 256))
      && gs.all (fun g => (List.range g.layers).all fun i =>
        let ts := k.tiles.filter fun t => t.layer == g.l0 + i
        ts.all (fun t => decide (t.h0 + t.nh ≤ g.nkvh))
          && (List.range g.nkvh).all fun h => (ts.filter fun t => decide (t.h0 ≤ h) && decide (h < t.h0 + t.nh)).length == 1)
      && allDistinct (k.tiles.map fun t => t.pti * 256 + t.layer)
      && gs.all (fun g => decide (128 * g.nkvh * g.dh * kvEsize g ≤ k.pageUnits * 4096))
      && disjoint (gs.map fun g => (g.basepage, g.nset * g.layers))
      && k.tiles.all (fun t => match gs.find? fun g => decide (g.l0 ≤ t.layer) && decide (t.layer < g.l0 + g.layers), (imgTiles m)[t.pti]? with
        | some g, some x =>
          (match imgRegionOf x t.ring with
            | none => false
            | some r => r.kind == 1 && decide (smax * t.w * partBytes t g ≤ r.size))
          && (g.fmt == 1 || match imgRegionOf x t.scalereg with
            | none => false
            | some r => r.kind == 0 && decide (t.scaleoff + 2 * t.nh ≤ r.size))
        | none, _ => true
        | _, none => false)
      && decide (poolSize { kv := k } ≤ dHbm m)

/-- R339: bytes that a tile streams per step. -/
def streamBytes (fmt nblk : Nat) : Nat := nblk * (if fmt = 1 then 64 else 4 * fmtWidth fmt + 1)

def streamBuffersOk (m : Memory) : Bool :=
  (imgSlrs m).1.all fun e =>
    let fmt := fld e.1 119 115
    e.2.all (fun t => match (imgTiles m)[fld t 63 52]? with
      | none => false
      | some x => match imgRegionOf x (fld t 27 24) with
        | none => false
        | some r => decide (2 * fld e.1 90 75 * 4096 ≤ r.size))
    && decide (sumNat (e.2.map fun t => streamBytes fmt (fld t 51 28)) ≤ ((imgHregs m)[fld e.1 114 103]?.map fun w => (hregOf w).size).getD 0)

/-- R331: stacks of a stripe. -/
def widthStacks : Nat → Nat
  | 0 => 40 | 1 => 20 | 2 => 8 | 3 => 4 | _ => 1

/-- R340: the rate rule of one streamed layer for one step program; `sh` is the partition's HBM share. -/
def streamRateOk (m : Memory) (sh : Nat) (e : Nat × List Nat) (prog : Nat) : Bool :=
  let fmt := fld e.1 119 115
  let reg := fld e.1 114 103
  let passes := ceilDiv ((fld prog 59 52 + 1) * (fld prog 51 48 + 1)) 64
  let comp := passes * maxNat (e.2.map fun t => fld t 51 28) * 8
  let div := if fmt = 6 then 4 else if fmt = 1 then 1 else 2
  let wd := widthStacks (((imgHregs m)[reg]?.map fun w => (hregOf w).width).getD 0)
  let bytes := fun t => streamBytes fmt (fld t 51 28)
  decide (40 * sumNat (e.2.map bytes) * 10 * div < comp * sh * wd)
    && e.2.all fun t =>
      let rate := sumNat (((imgFlows m).filter fun w => fld w 63 52 == fld t 63 52 && fld w 51 50 == 2 && fld w 49 38 == reg).map fun w => fld w 37 33)
      decide (bytes t * 10 * div < comp * 16 * rate)

def streamRatesOk (m : Memory) (sh : Nat) : Bool :=
  (imgSlrs m).1.all fun e => (imgProgs m).all fun p => streamRateOk m sh e p.1

/-- R372: at most 8 contributions from other modules at one tile. -/
def stagingOk (m : Memory) : Bool :=
  (imgTiles m).all fun t =>
    decide (sumNat (((imgReduces m).filter fun d => fld d.1 83 72 == t.pti).map fun d => (d.2.filter (· == 0xFFF)).length) ≤ 8)

/-- R90, R257, R280, R339, R372: the reason of the first check of a stored image that is not met. DEDUCED (log 113): a reserved format code is
judged where the ranges of the records are. -/
def imageFail (s : State) (m : Memory) : Option Nat :=
  firstFail [(headerFormOk m && sectionsOk m, 0x011D), (versionsOk m, 0x0802), (crcsOk m, 0x011E), (!recordsOk m || formatsOk m, 0x0110), (rangesOk m, 0x011D),
    (listsOk m, 0x011B),
    (imgSCompat m && (sect m 6).isNone || (imgRelocs m).all (relocOk m), 0x011F),
    ((imgReduces m).all (fun d => !d.2.isEmpty), 0x0114), (guardOk m, 0x0115), (flowsOk m, 0x011C), (chargesOk s m, 0x0401),
    (!imgSCompat m || decide (dNpti m ≤ 88), 0x0105), ((imgHandoffs m).all (handoffOk m), 0x0402),
    (kvLayoutOk m, 0x0120), (streamBuffersOk m, 0x0123), (stagingOk m, 0x0125)]

end Sys2Proof.Machine
end

