-- ==== Sys2Proof/Machine/Place.lean ====
section
/-! DEFINITION. The search for a placement (R215–R237, R260–R265, R331): eligible tiles, routes, lanes, reduction slots, handoffs, the
hub, regions and HBM extents. -/
namespace Sys2Proof.Machine

/-! ### Eligible tiles (R260, R265) -/

/-- What one choice of a tile depends on: permitted dies (0 every die), the reserve that the die limit leaves, tiles that do not count as owned
(R270), tiles chosen so far with their grants, tiles that have failed, arrays and grant needed. -/
structure Seek where
  dies : Nat := 0
  reserve : Nat := 0
  leaving : List Nat := []
  taken : List (Nat × Nat) := []
  bad : List Nat := []
  /-- R258; arrays removed from eligibility, by tile × 64 + array. -/
  dead : List Nat := []
  narray : Nat := 0
  grant : Nat := 0

def allTiles : List Nat := (List.range 24).flatMap dieTiles
def dieAllowed (dies d : Nat) : Bool := dies == 0 || bitAt dies d
/-- R258, R261: the arrays of a tile that have no RETIRED bank and are not among those removed from eligibility, ascending. -/
def goodArrays (s : State) (dead : List Nat) (t : Nat) : List Nat :=
  (List.range 64).filter fun a => !dead.contains (t * 64 + a) && (bankOf s (bankKey t a 0)).st != .retired && (bankOf s (bankKey t a 1)).st != .retired
/-- R260: tiles of a die that count as owned. -/
def dieOwned (s : State) (k : Seek) (d : Nat) : Nat :=
  ((dieTiles d).filter fun t => ((ownerOf s t).isSome && !k.leaving.contains t) || k.taken.any (·.1 == t)).length
/-- R260: the die's limit. -/
def dieLimit (s : State) (k : Seek) (d : Nat) : Nat := Nat.min 88 (dieH s d - 1 - k.reserve)

/-- R260: a tile is free, healthy, on a permitted die below its limit, and its fabric runs at full clock. -/
def tileFree (s : State) (k : Seek) (t : Nat) : Bool :=
  tileHealthy s t && (ownerOf s t).isNone && !k.taken.any (·.1 == t) && !k.bad.contains t && dieAllowed k.dies (dieOf t)
    && decide (dieOwned s k (dieOf t) < dieLimit s k (dieOf t)) && routerState s t == 0
/-- R260, R265: the cluster's grants leave room for the tile's. -/
def capFits (s : State) (k : Seek) (t : Nat) : Bool :=
  decide (grantsOn s (fun x => clusterOf x == clusterOf t && !k.leaving.contains x)
    + sumNat ((k.taken.filter fun e => clusterOf e.1 == clusterOf t).map (·.2)) + k.grant ≤ clusterCap s (clusterOf t))

/-- R260: how far a tile lies from a point of the mesh. -/
def tileDist (t : Nat) (x y : Int) : Nat := ((tileX t : Int) - x).natAbs + ((tileY t : Int) - y).natAbs

/-- R260: the order of choice: distance, a tile under field test after the others at its distance, tile address. -/
def choiceKey (s : State) (x y : Int) (t : Nat) : Nat :=
  (tileDist t x y * 2 + b2n ((FMap.find s.ftests (dieOf t)).any fun f => f.tile == t)) * 65536 + t

/-- R260: the tile of choice nearest to a point; else the limiting code: the cluster cap alone excluded every tile, or there is none. -/
def chooseTile (s : State) (k : Seek) (x y : Int) : Sum Nat Nat :=
  let cands := allTiles.filter fun t => tileFree s k t && decide (k.narray ≤ (goodArrays s k.dead t).length)
  let fit := cands.filter (capFits s k)
  match fit with
  | [] => .inl (if cands.isEmpty then 0x0309 else 0x030E)
  | a :: l => .inr (l.foldl (fun b t => if choiceKey s x y t < choiceKey s x y b then t else b) a)

/-- R260: the tiles of an anchor, in PTI order. -/
def mapTiles (s : State) (m : Memory) (dx dy : Int) : List ImgTile → Seek → Sum Nat (List Nat)
  | [], _ => .inr []
  | t :: r, k =>
    match chooseTile s { k with narray := t.narray, grant := grantOf s m t } ((t.lx : Int) + dx) ((t.ly : Int) + dy) with
    | .inl e => .inl e
    | .inr a => match mapTiles s m dx dy r { k with taken := k.taken ++ [(a, grantOf s m t)] } with
      | .inl e => .inl e
      | .inr l => .inr (a :: l)

/-! ### Routes (R215–R225, R262) -/

/-- The load of each mesh link direction, in 1/40 of 16 GB/s, by from × 4096 + to; a bridge or link die attached to a router is node 4095. -/
abbrev Loads := FMap Nat

def addPath (l : Loads) (path : List Nat) (w : Nat) : Loads :=
  (path.zip (path.drop 1)).foldl (fun l e => FMap.upd 0 l (e.1 * 4096 + e.2) (· + w)) l
/-- R225: 768 GB/s of declared flows on a link direction. -/
def linkRoom (l : Loads) (w a b : Nat) : Bool := decide (FMap.get 0 l (a * 4096 + b) + w ≤ 1920)

/-- The legs of a placed flow: load and path; the path to a bridge ends at node 4095. -/
def flowLegs (f : Flow) : List (Nat × List Nat) := if f.dkind = 2 then f.legs.map fun e => (e.1, e.2 ++ [4095]) else [(40 * f.rate, f.path)]
def addFlow (l : Loads) (f : Flow) : Loads := (flowLegs f).foldl (fun l e => addPath l e.2 e.1) l

/-- R262: a router that a route may pass. -/
def routerOk (s : State) (n : Nat) : Bool := n == 4095 || routerState s (routerTile n) == 0

def pathOk (s : State) (l : Loads) (w : Nat) (path : List Nat) : Bool :=
  path.all (routerOk s) && (path.zip (path.drop 1)).all fun e => linkOk s e.1 e.2 && linkRoom l w e.1 e.2

/-- R222: Y then X between two routers. -/
def pathYX (a b : Nat) : List Nat :=
  (span (a / 72) (b / 72)).map (fun y => y * 72 + a % 72) ++ ((span (a % 72) (b % 72)).drop 1).map fun x => b / 72 * 72 + x
/-- R222: Y then X turns west only where it makes no turn. -/
def yxLegal (a b : Nat) : Bool := decide (a % 72 ≤ b % 72) || a / 72 == b / 72

/-- R222: the neighbours a route may take from a router; while it has only gone west it may go on west. -/
def nextHops (n : Nat) (west : Bool) : List (Nat × Bool) :=
  (if west && decide (0 < n % 72) then [(n - 1, true)] else []) ++ (if 72 ≤ n then [(n - 72, false)] else [])
    ++ (if n % 72 < 71 then [(n + 1, false)] else []) ++ (if n + 72 < 2304 then [(n + 72, false)] else [])

/-- One level of the search for a detour: by router × 2 + (still going west), the least sum of coordinates and the path, newest first. -/
def detourLevel (s : State) (l : Loads) (w : Nat) (seen : List Nat) (front : FMap (Nat × List Nat)) : FMap (Nat × List Nat) :=
  front.foldl (fun acc e =>
    let n := e.1 / 2
    (nextHops n (e.1 % 2 == 1)).foldl (fun acc h =>
      let key := h.1 * 2 + b2n h.2
      let cost := e.2.1 + h.1 % 72 + h.1 / 72
      if seen.contains key || !routerOk s h.1 || !linkOk s n h.1 || !linkRoom l w n h.1 then acc
      else match FMap.find acc key with
        | none => FMap.set acc key (cost, h.1 :: e.2.2)
        | some x => if cost < x.1 then FMap.set acc key (cost, h.1 :: e.2.2) else acc) acc) []

def detourGo (s : State) (l : Loads) (w dst : Nat) : Nat → List Nat → FMap (Nat × List Nat) → Option (List Nat)
  | 0, _, _ => none
  | k + 1, seen, front =>
    match front.filter fun e => e.1 / 2 == dst with
    | a :: r => some ((r.foldl (fun (b : Nat × (Nat × List Nat)) x => if x.2.1 < b.2.1 then x else b) a).2.2).reverse
    | [] => if front.isEmpty then none else detourGo s l w dst k (front.map (·.1) ++ seen) (detourLevel s l w (front.map (·.1) ++ seen) front)

/-- R262 item 1: the route between two routers; `last` adds the hop to a bridge. -/
def route (s : State) (l : Loads) (w a b : Nat) (bridge : Bool) : Option (List Nat) :=
  let end_ := if bridge then [4095] else []
  if pathOk s l w (pathXY a b ++ end_) then some (pathXY a b)
  else if yxLegal a b && pathOk s l w (pathYX a b ++ end_) then some (pathYX a b)
  else if !routerOk s a || (bridge && !(linkOk s b 4095 && linkRoom l w b 4095)) then none
  else detourGo s l w b 4609 [] [(a * 2 + 1, (a % 72 + a / 72, [a]))]

/-- R217: the router at which a bridge is reached from a column: the nearest of its twelve. -/
def bridgeRouter (b x : Nat) : Nat :=
  let lo := 14 * (b % 5) + 1
  (if b < 5 then 0 else 31 * 72) + Nat.max lo (Nat.min (lo + 11) x)

/-- R252, R331: the flow of a record with its route between placed tiles. -/
def routeFlow (s : State) (l : Loads) (tiles : List Nat) (hregs : List HReg) (w : Nat) : Option Flow :=
  let f : Flow := { spti := fld w 63 52, dkind := fld w 51 50, dest := fld w 49 38, rate := fld w 37 33 }
  let a := routerNo (tiles.getD f.spti 0)
  if f.dkind = 2 then
    let st := ((hregs[f.dest]?).map (·.stackIds)).getD []
    ((List.range 10).foldl (fun (acc : Option (Loads × List (Nat × List Nat))) b =>
      match acc with
      | none => none
      | some (l, legs) =>
        let n := (st.filter fun k => k / 4 == b).length
        if n = 0 then acc
        else
          let q := 40 * f.rate * n / st.length
          match route s l q a (bridgeRouter b (a % 72)) true with
          | none => none
          | some p => some (addPath l (p ++ [4095]) q, legs ++ [(q, p)])) (some (l, []))).map fun e => { f with legs := e.2 }
  else (route s l (40 * f.rate) a (routerNo (tiles.getD f.dest 0)) false).map fun p => { f with path := p }

/-- R225: a tile's flows declare at most 256 GB/s outward and 256 GB/s inward. -/
def tileRatesOk (m : Memory) : Bool :=
  (List.range (dNpti m)).all fun p =>
    decide (sumNat (((imgFlows m).filter fun w => fld w 63 52 == p).map fun w => fld w 37 33) ≤ 16)
      && decide (sumNat (((imgFlows m).filter fun w => decide (fld w 51 50 < 2) && fld w 49 38 == p).map fun w => fld w 37 33) ≤ 16)

/-- Routes the flows in record order; a kept flow stands. -/
def routeFlows (s : State) (tiles : List Nat) (hregs : List HReg) : List (Nat × Option Flow) → Loads → Option (List Flow)
  | [], _ => some []
  | (_, some f) :: r, l => (routeFlows s tiles hregs r l).map (f :: ·)
  | (w, none) :: r, l =>
    match routeFlow s l tiles hregs w with
    | none => none
    | some f => (routeFlows s tiles hregs r (addFlow l f)).map (f :: ·)

/-- The placements of the other partitions. -/
def others (s : State) (p : Nat) : List Placement := (s.parts.filter fun e => e.1 != p).map (·.2.place)

/-- R270 step 4: a placed flow both of whose ends stay, and whose route still passes no failed, reduced or dark router. -/
def keepFlow (s : State) (moved : List Nat) (f : Flow) : Option Flow :=
  if moved.contains f.spti || (f.dkind != 2 && moved.contains f.dest) then none
  else if (flowLegs f).all fun e => e.2.all (routerOk s) && (e.2.zip (e.2.drop 1)).all fun x => linkOk s x.1 x.2 then some f else none

/-! ### Lanes (R216, R228, R253) -/

/-- R262: a lane stop in service at full clock. -/
def stopOk (s : State) (c : Nat) : Bool := routerState s (stopTile c) == 0 && !bitAt (failedPorts s (stopTile c)) 5

def laneDptis (w : Nat) : List Nat := (List.range (fld w 243 240 + 1)).map fun i => fld w (59 + 12 * i) (48 + 12 * i)
def dedup (l : List Nat) : List Nat := l.foldl (fun a x => if a.contains x then a else a ++ [x]) []

/-- R262 item 2: grants the lanes in record order: the lowest free lane of the source stop's die; a kept lane stands. -/
def grantLanes (s : State) (tiles : List Nat) : List (Nat × Option Lane) → List Nat → Option (List Lane)
  | [], _ => some []
  | (_, some x) :: r, used => (grantLanes s tiles r used).map (x :: ·)
  | (w, none) :: r, used =>
    let ds := laneDptis w
    let c := clusterOf (tiles.getD (fld w 255 244) 0)
    let stops := dedup (ds.map fun d => clusterOf (tiles.getD d 0))
    match ((List.range 64).map (c / 12 * 64 + ·)).find? fun n => !used.contains n with
    | none => none
    | some n =>
      if (c :: stops).all (stopOk s) then
        (grantLanes s tiles r (n :: used)).map ({ spti := fld w 255 244, dptis := ds, lane := n, src := c, dsts := stops } :: ·)
      else none

/-- R228: some granted lane runs from one cluster's stop to another's. -/
def laneJoins (ls : List Lane) (a b : Nat) : Bool := (laneFor ls a b).isSome

/-- R228: every XL transfer, and every reduction leg mapped onto lanes, has a granted lane. -/
def lanesServe (m : Memory) (tiles : List Nat) (ls : List Lane) : Bool :=
  let cl := fun p => clusterOf (tiles.getD p 0)
  (imgLists m).all (fun l => (l.cmds m).all fun w => !(isOp 0x50 w && bitAt w 29) || laneJoins ls (cl l.pti) (cl (fld w 71 60)))
    && (imgReduces m).all fun d => !bitAt d.1 37 || d.2.all fun c =>
        c == 0xFFF || cl c == cl (fld d.1 83 72) || laneJoins ls (cl c) (cl (fld d.1 83 72))

/-- R228: a declared flow serves SENDs with XL, or legs of a reduction mapped onto lanes. -/
def flowOnLanes (m : Memory) (f : Flow) : Bool :=
  ((imgLists m).any fun l => l.pti == f.spti && (l.cmds m).any fun w =>
      isOp 0x50 w && bitAt w 29 && fld w 71 60 == f.dest && b2n (bitAt w 59) == f.dkind)
    || (imgReduces m).any fun d => bitAt d.1 37 && fld d.1 83 72 == f.dest && d.2.contains f.spti

/-- R225, R228: the flows of a placement that a lane carries declare at most its 256 GB/s. -/
def laneRoom (m : Memory) (tiles : List Nat) (flows : List Flow) (ls : List Lane) : Bool :=
  let cl := fun p => clusterOf (tiles.getD p 0)
  let mine := flows.filter fun f => decide (f.dkind < 2) && flowOnLanes m f
  ls.all fun l => decide (sumNat ((mine.filter fun f =>
    (laneFor ls (cl f.spti) (cl f.dest)).map (·.lane) == some l.lane).map (·.rate)) ≤ 16)

/-! ### Reduction units (R232, R233, R262) -/

/-- An operand of a reduction as it is mapped: none for one whose additions the destination's vector engine makes (R372); else the routers,
or the clusters of lane stops, that it still passes, and when it stands at the first, ns. -/
abbrev Operand := Option (List Nat × Nat)

def dieDist (a b : Nat) : Nat := ((a / 12 % 6 : Nat) - (b / 12 % 6 : Nat) : Int).natAbs + ((a / 72 : Nat) - (b / 72 : Nat) : Int).natAbs
/-- R216: mesh hops between a tile and its lane stop. -/
def stopHops (t : Nat) : Nat := tileDist t (tileX (stopTile (clusterOf t))) (tileY (stopTile (clusterOf t)))
/-- R229: time along a route of lane stops from its first to another. -/
def laneTime : List Nat → Nat → Nat
  | a :: b :: t, c => if a = c then 0 else 24 + 3 * dieDist a b + laneTime (b :: t) c
  | _, _ => 0

/-- R233, R262 item 3: the addition of two operands: its unit, and the sum as an operand. The last is made at the destination. -/
def mapAdd (dst : Nat) (onLanes topk last : Bool) (x y : Operand) : Nat × Operand :=
  match x, y with
  | some a, some b =>
    match meetAt a.1 b.1 last with
    | none => (2 * dst + 2, none)
    | some n =>
      let t := Nat.max (a.2 + laneTime a.1 n) (b.2 + laneTime b.1 n) + (if topk then 32 else 4)
      (if onLanes then 2 * stopTile n + 1 else 2 * routerTile n, some (routeFrom a.1 n, t))
  | _, _ => (2 * dst + 2, none)

/-- One level of tree(): the units of its additions and the operands of the next level. -/
def mapLevel (dst : Nat) (onLanes topk last : Bool) : List Operand → List Nat × List Operand
  | x :: y :: t =>
    let r := mapAdd dst onLanes topk last x y
    let q := mapLevel dst onLanes topk last t
    (r.1 :: q.1, r.2 :: q.2)
  | l => ([], l)

def mapTree (dst : Nat) (onLanes topk : Bool) : Nat → List Operand → List Nat × List Operand
  | 0, l => ([], l)
  | k + 1, l =>
    if l.length ≤ 1 then ([], l)
    else
      let a := mapLevel dst onLanes topk (l.length == 2) l
      let b := mapTree dst onLanes topk k a.2
      (a.1 ++ b.1, b.2)

/-- R233, R254, R372: a reduction with its units, and when its last byte is at the destination, ns from the latest issue. -/
def mapReduce (tiles : List Nat) (flows : List Flow) (d : Nat × List Nat) : Reduce × Nat :=
  let w := d.1
  let dp := fld w 83 72
  let dst := tiles.getD dp 0
  let onLanes := bitAt w 37
  let ops := d.2.map fun c =>
    if c = 0xFFF then none
    else
      let t := tiles.getD c 0
      (contribRoute flows onLanes c dp t dst).map fun r => (r, if onLanes then 4 + 2 * stopHops t else 0)
  let r := mapTree dst onLanes (bitAt w 95) 13 ops
  let bytes := if bitAt w 95 then 520 else 4 * fld w 94 84
  let time := match r.2.head? with
    | some (some a) => a.2 + laneTime a.1 (clusterOf dst) + 4 + 2 * stopHops dst + ceilDiv bytes 256
    | _ => 0
  ({ rid := fld w 119 108, kind := fld w 95 95, nw := fld w 94 84, dpti := dp, dst := fld w 71 48, dreg := fld w 47 44
     dflag := fld w 43 38, onLanes := onLanes, contribs := d.2, units := r.1 }, time)

/-- R232: 4 slots at a router and 32 at a lane stop; the vector engine takes none. -/
def slotsOk (units : List Nat) : Bool :=
  units.all fun u => u % 4 == 2 || decide ((units.filter (· == u)).length ≤ (if u % 4 = 1 then 32 else 4))

/-! ### Handoffs (R236, R237) -/

/-- R228, R236: the bytes of some SENDs that a granted lane carries, whichever tiles of its clusters they join. -/
def laneBytes (m : Memory) (tiles : List Nat) (lanes : List Lane) (l : Lane) (sites : List Nat) : Nat :=
  let cl := fun p => clusterOf (tiles.getD p 0)
  sumNat ((sites.filter fun x =>
    (laneFor lanes (cl (fld x 63 52)) (cl (fld (siteWord m x) 71 60))).map (·.lane) == some l.lane).map fun x => fld (siteWord m x) 95 72)

/-- R229, R237: SENDs of one tile over lanes: one issue a cycle, the worst lane path among them, and the bytes of one lane. -/
def sendsTime (m : Memory) (tiles : List Nat) (lanes : List Lane) (sites : List Nat) (w : Nat) : Nat :=
  let mine := sites.filter fun x => fld x 63 52 == fld w 63 52
  let src := tiles.getD (fld w 63 52) 0
  let head := fun x =>
    let t := tiles.getD (fld (siteWord m x) 71 60) 0
    32 + 2 * (stopHops src + stopHops t) + 3 * dieDist (clusterOf src) (clusterOf t)
  mine.length + maxNat (mine.map head) + ceilDiv (maxNat (lanes.map fun l => laneBytes m tiles lanes l sites)) 256

/-- R236, R237: a declaration's segments on the placed routes, and the bytes of its fan-out on a lane. -/
def handoffTimesOk (m : Memory) (tiles : List Nat) (lanes : List Lane) (reds : List (Reduce × Nat)) (h : Nat × List Nat × List Nat) : Bool :=
  let stats := h.2.2.filter fun w => bitAt w 31
  let fan := h.2.2.filter fun w => !bitAt w 31
  h.2.1.all (fun e => match reds.find? fun r => r.1.rid == e % 4096 with
      | none => false
      | some r => decide (r.2 ≤ (if bitAt e 15 then 93 else 108)))
    && lanes.all (fun l => decide (laneBytes m tiles lanes l fan ≤ 4160))
    && stats.all (fun w => decide (sendsTime m tiles lanes stats w ≤ 88)) && fan.all fun w => decide (sendsTime m tiles lanes fan w ≤ 101)

def handoffRec (h : Nat × List Nat × List Nat) : Handoff :=
  { lfrom := fld h.1 127 120, lto := fld h.1 119 112, owner := fld h.1 95 87, accept := fld h.1 86 83
    rids := h.2.1.map fun e => (e % 4096, bitAt e 15), sends := h.2.2.map fun w => (fld w 63 52, fld w 51 48, fld w 47 32, bitAt w 31) }

/-! ### Hub (R230, R231) -/

/-- R230: the largest up latency over a map. -/
def upMax (tiles : List Nat) (l : Nat) : Nat := maxNat (tiles.map fun t => Config.noticeUp t l % 40)
/-- The link die in service, other than `no`, with the smallest largest up latency. -/
def chooseHub (s : State) (tiles : List Nat) (no : Option Nat) : Option Nat :=
  match (List.range 4).filter fun l => !s.ldDown.contains l && some l != no with
  | [] => none
  | a :: r => some (r.foldl (fun b l => if upMax tiles l < upMax tiles b then l else b) a)

/-- R230, R231: the latencies of a tile's notices up to a link die and down from it, in ticks. -/
def noticeOf (t l : Nat) : Nat × Nat := (Config.noticeUp t l % 40, Config.noticeDown t l % 40)

/-- R230, R231, R262 item 5: fills the notice table of every tile for the hub and the standby hub. -/
def fillNotices (pl : Placement) : Placement :=
  { pl with tiles := pl.tiles.map fun x =>
      { x with notice := noticeOf x.tile pl.hub, noticeS := (pl.standby.map (noticeOf x.tile)).getD (0, 0) } }

/-! ### Regions (R262 item 6) -/

def insertRegion (r : ImgRegion) : List ImgRegion → List ImgRegion
  | [] => [r]
  | x :: t => if r.ridx ≤ x.ridx then r :: x :: t else x :: insertRegion r t

def baseRegions : List ImgRegion → Nat → List Region
  | [], _ => []
  | r :: t, o => { ridx := r.ridx, kind := r.kind, base := o, size := r.size } :: baseRegions t (o + r.size)

/-- The placed regions of a tile. -/
def placeRegions (scompat : Bool) (t : ImgTile) : List Region :=
  if scompat then t.regions.map fun r => { ridx := r.ridx, kind := r.kind, base := r.fixoff, size := r.size }
  else baseRegions (t.regions.foldr insertRegion []) 0

def fixedOk (t : ImgTile) : Bool := disjoint (t.regions.map fun r => (r.fixoff, r.size)) && t.regions.all fun r => decide (r.fixoff + r.size ≤ spTop)

/-! ### HBM (R331) -/

/-- Free extents of a stack, lowest first, beside those that regions of this image have taken. -/
def freeList (s : State) (mine : FMap (List Nat)) (k : Nat) : List Nat :=
  let used := usedExtents s k ++ FMap.get [] mine k
  ((List.range (stackExtents - firstExtent)).map (firstExtent + ·)).filter fun e => !used.contains e
def freeCount (s : State) (mine : FMap (List Nat)) (k : Nat) : Nat := freeExtents s k - (FMap.get [] mine k).length
def minFree (s : State) (mine : FMap (List Nat)) (l : List Nat) : Nat :=
  match l with
  | [] => 0
  | a :: t => t.foldl (fun b k => Nat.min b (freeCount s mine k)) (freeCount s mine a)

/-- The entry with the greatest value, the first of equals. -/
def best (l : List Nat) (f : Nat → Nat) : Option Nat :=
  match l with
  | [] => none
  | a :: t => some (t.foldl (fun b k => if f b < f k then k else b) a)

def bridgeStacks (b : Nat) : List Nat := [4 * b, 4 * b + 1, 4 * b + 2, 4 * b + 3]

/-- R331: the stack list of a region, none where it cannot be formed. -/
def stackList (s : State) (mine : FMap (List Nat)) (width : Nat) : Option (List Nat) :=
  let good := fun k => !(stack s k).failed
  let ok := fun (l : List Nat) => if l.all good then some l else none
  let lo := List.range 20
  let hi := (List.range 20).map (20 + ·)
  let free := fun b => minFree s mine (bridgeStacks b)
  let bridges := (List.range 10).filter fun b => (bridgeStacks b).all good
  match width with
  | 0 => ok (List.range 40)
  | 1 => if !lo.all good then ok hi else if !hi.all good then some lo else some (if minFree s mine lo < minFree s mine hi then hi else lo)
  | 2 => match best bridges free with
    | none => none
    | some a => (best (bridges.filter (· != a)) free).map fun b => bridgeStacks (Nat.min a b) ++ bridgeStacks (Nat.max a b)
  | 3 => (best bridges free).map bridgeStacks
  | _ => (best ((List.range 40).filter good) (freeCount s mine)).map fun k => [k]

/-- R331: allocates regions in RIDX order; none where one cannot be. -/
def placeHregs (s : State) : List HReg → FMap (List Nat) → Option (List HReg)
  | [], _ => some []
  | r :: t, mine =>
    match stackList s mine r.width with
    | none => none
    | some l =>
      let e := ceilDiv r.size (l.length * extentBytes)
      let ex := l.map fun k => (freeList s mine k).take e
      if ex.all fun x => x.length == e then
        (placeHregs s t ((l.zip ex).foldl (fun m x => FMap.upd [] m x.1 (· ++ x.2)) mine)).map ({ r with stackIds := l, extents := ex } :: ·)
      else none

/-! ### A map's placement (R262) -/

/-- R262 items 1–4 for a candidate map; `old` is a placement that stands but for the PTIs moved. The limiting code where a check fails. -/
def fitMap (s : State) (p : Nat) (m : Memory) (tiles : List Nat) (hregs : List HReg) (old : Option (Placement × List Nat)) :
    Sum Nat (List Flow × List Lane × List Reduce) :=
  let keepF := fun (i : Nat) => match old with
    | none => none
    | some (pl, moved) => (pl.flows[i]?).bind (keepFlow s moved)
  let stops := fun w => (clusterOf (tiles.getD (fld w 255 244) 0), dedup ((laneDptis w).map fun d => clusterOf (tiles.getD d 0)))
  let keepL := fun (i w : Nat) => match old with
    | none => none
    | some (pl, _) => (pl.lanes[i]?).filter fun l => (l.src, l.dsts) == stops w && (l.src :: l.dsts).all (stopOk s)
  let ws := imgFlows m
  let fs := (ws.zip (List.range ws.length)).map fun e => (e.1, keepF e.2)
  let ls := imgLanes m
  let lk := (ls.zip (List.range ls.length)).map fun e => (e.1, keepL e.2 e.1)
  let loads := ((others s p).flatMap (·.flows) ++ fs.filterMap (·.2)).foldl addFlow []
  let used := (others s p).flatMap (fun pl => pl.lanes.map (·.lane)) ++ lk.filterMap fun e => e.2.map (·.lane)
  match (if tileRatesOk m then routeFlows s tiles hregs fs loads else none) with
  | none => .inl 0x0306
  | some flows =>
    match grantLanes s tiles lk used with
    | none => .inl 0x0307
    | some lanes =>
      if !lanesServe m tiles lanes then .inl 0x0307
      else if !laneRoom m tiles flows lanes then .inl 0x0306
      else
        let reds := (imgReduces m).map (mapReduce tiles flows)
        if !slotsOk ((others s p).flatMap (fun pl => pl.reduces.flatMap (·.units)) ++ reds.flatMap (·.1.units)) then .inl 0x0306
        else if !(imgHandoffs m).all (handoffTimesOk m tiles lanes reds) then .inl 0x0402
        else .inr (flows, lanes, reds.map (·.1))

/-- R261, R262: the placed tile of a record. -/
def placeTile (s : State) (m : Memory) (t : ImgTile) (a : Nat) : PTile :=
  { tile := a, arrays := (goodArrays s [] a).take t.narray, grant := grantOf s m t, accRows := t.accRows, regions := placeRegions (imgSCompat m) t }

def progRec (e : Nat × List (Nat × Nat)) : Prog :=
  { prog := fld e.1 63 60, slots := fld e.1 59 52 + 1, cap := fld e.1 51 48 + 1, entries := e.2 }

/-- R263: the placement of an image on tiles that fit. -/
def placementOf (s : State) (m : Memory) (image sh : Nat) (tiles : List Nat) (hregs : List HReg) (x : List Flow × List Lane × List Reduce) : Placement :=
  let hub := chooseHub s tiles none
  fillNotices
  { image := image, scompat := imgSCompat m, dual := imgDual m, nsync := dNsync m
    tiles := ((imgTiles m).zip tiles).map fun e => placeTile s m e.1 e.2
    progs := (imgProgs m).map progRec, flows := x.1, lanes := x.2.1, reduces := x.2.2, handoffs := (imgHandoffs m).map handoffRec
    hub := hub.getD 0, standby := hub.bind fun h => chooseHub s tiles (some h)
    hregs := hregs, kv := imgKv m, floor := if (imgSlrs m).1.isEmpty then 0 else sh }

/-! ### The search (R257, R260) -/

/-- R260: the anchors in order, as (dX, dY). -/
def anchors : List (Int × Int) :=
  (List.range 63).flatMap fun (y : Nat) => (List.range 143).map fun (x : Nat) => ((x : Int) - 71, (y : Int) - 31)

def onMesh (m : Memory) (a : Int × Int) : Bool :=
  (imgTiles m).all fun t =>
    let x := (t.lx : Int) + a.1
    let y := (t.ly : Int) + a.2
    decide (0 ≤ x) && decide (x < 72) && decide (0 ≤ y) && decide (y < 32)

/-- R260: takes the first anchor that passes every check: its tiles and what fits them, or the code that excluded the last anchor tried. -/
def searchMap (s : State) (p : Nat) (m : Memory) (k : Seek) (hregs : List HReg) :
    List (Int × Int) → Nat → Sum Nat ((Int × Int) × List Nat × (List Flow × List Lane × List Reduce))
  | [], lim => .inl lim
  | a :: r, lim =>
    if !onMesh m a then searchMap s p m k hregs r lim
    else
      match mapTiles s m a.1 a.2 (imgTiles m) k with
      | .inl e => searchMap s p m k hregs r e
      | .inr tiles => match fitMap s p m tiles hregs none with
        | .inl e => searchMap s p m k hregs r e
        | .inr x => .inr (a, tiles, x)

/-- R257: tiles of the permitted dies that a load may take. -/
def eligibleCount (s : State) (k : Seek) : Nat :=
  sumNat ((List.range 24).map fun d =>
    Nat.min ((dieTiles d).filter (tileFree s k)).length (dieLimit s k d - dieOwned s k d))

/-- R341: distinct blocks of an image, and slots of its STAGE regions. -/
def distinctBlocks (m : Memory) : List Nat := dedup ((imgBlocks m).map (·.id))
def stageSlots (rs : List HReg) : List Nat :=
  (rs.filter fun r => r.kind == 2).flatMap fun r => (List.range (r.size / 528384)).map fun i => r.vbase + i * 528384

/-- R257, R260, R262: places an image for a partition: the REASON and LIMIT of a failure, or the anchor and the placement. DEDUCED (log 114): the
HBM regions are allocated before the search, since the routes of flows to HBM lead to the stacks that hold them. -/
def placeImage (s : State) (p : Nat) (m : Memory) (image dies : Nat) (stage : Bool) : Sum (Nat × Nat) ((Int × Int) × Placement) :=
  let k : Seek := { dies := dies, reserve := objD 0 s 0x5010 3 }
  let sh := objD 3968 s (pidx 0x58 p) 1
  let grants := sumNat ((imgTiles m).map (grantOf s m))
  if !streamRatesOk m sh then .inl (0x0404, 0)
  else if eligibleCount s k < dNpti m then .inl (0x0309, 0)
  else if sumNat ((goodStacks s).map (freeExtents s)) * extentBytes < dHbm m then .inl (0x030A, 0)
  else if objD 19200 s 0x5010 1 < reservedGrants s + grants then .inl (0x030B, 0)
  else if stage && decide ((stageSlots ((imgHregs m).map hregOf)).length < (distinctBlocks m).length) then .inl (0x030A, 0)
  else
    match placeHregs s ((imgHregs m).map hregOf) [] with
    | none => .inl (0x030A, 0)
    | some hregs =>
      match searchMap s p m k hregs anchors 0x0309 with
      | .inl e => .inl (0x030D, e)
      | .inr (a, tiles, x) =>
        if imgSCompat m && !(imgTiles m).all fixedOk then .inl (0x011D, 0) else .inr (a, placementOf s m image sh tiles hregs x)

end Sys2Proof.Machine
end

