-- ==== Sys2Proof/Machine/Placer.lean ====
section
/-! DEFINITION. The placer's services (R17, R202, R245–R275): LOAD, UNLOAD, RESTART, REPLACE and their completion. -/
namespace Sys2Proof.Machine

/-! ### Results (R259, R273) -/

def jobMs (s : State) (j : PlaceJob) : Nat := (ageNs s - j.startNs) / 1000000

/-- R259: the result word. -/
def placeWord (s : State) (j : PlaceJob) (pl : Placement) (limit : Nat) : Nat :=
  put 1 8 248 + put pl.tiles.length 12 236
    + put (((dedup (pl.tiles.map fun t => dieOf t.tile)).map (2 ^ ·)).foldl (· + ·) 0) 24 212 + put pl.hub 2 210
    + put (sumNat (pl.tiles.map (·.grant))) 16 194 + put pl.lanes.length 11 183 + put limit 16 167 + put (jobMs s j) 32 135

def jobOp (j : PlaceJob) : Nat := if j.isLoad then 0x10 else 0x13

/-- The end of a job: the reply with its result word, and obj 0x55pp:6 and :7. -/
def endJob (s : State) (j : PlaceJob) (reason limit : Nat) (pl : Placement) : State :=
  let s := setObj s (pidx 0x55 j.part) 7 (jobMs s j)
  let s := if limit = 0 then s else setObj s (pidx 0x55 j.part) 6 limit
  let s := { s with jobs := s.jobs.drop 1 }
  if j.asked then
    reply s { session := j.session, op := jobOp j, reqid := j.reqid, reason := reason, values := [(11, 32, placeWord s j pl limit)] }
  else s

/-! ### Releasing (R52, R258) -/

/-- R52, R53: UNBIND: a bank goes to EMPTY unless it is RETIRED, and leaves every swap record; a program
cycle under way has ended (R85). -/
def unbind (s : State) (k : Nat) : State :=
  let s := updBank (closeProgram s k) k fun b => if b.st = .retired then b else
    { b with st := .empty, op := .none, calInPlace := false, openEntry := false, fitting := false, cur := none, newTable := false, plan := 0
             refreshDue := false, calDue := false, boundHeld := false, overdue := false }
  { s with bankMap := FMap.del s.bankMap k
           parts := s.parts.map fun e => (e.1, { e.2 with swap := e.2.swap.filter (· != k) })
           vpgmWait := (s.vpgmWait.map fun e => (e.1, e.2.filter (· != k))).filter fun e => !e.2.isEmpty }

/-- R258: the banks of a candidate are released: those that failed stay INVALID. -/
def dropCandidate (s : State) (w : PlaceTile) : State :=
  ((placedBanks w).filter fun k => !w.todo.contains k).foldl (fun s k => if (bankOf s k).st = .invalid then s else unbind s k) s

/-- The banks of a placed tile that its partition owns: both of every mapped array (R261). -/
def ownedBanks (t : PTile) : List Nat := t.arrays.flatMap fun a => [bankKey t.tile a 0, bankKey t.tile a 1]

/-- R17: every list of a partition is returned. -/
def returnAll (s : State) (p reason : Nat) : State :=
  (List.range 8).foldl (fun s e => returnWaiting (returnRunning s (8 * p + e) reason) (8 * p + e) reason)
    { s with cancelWait := s.cancelWait.filter fun e => e.1 % 128 / 8 != p }

/-- What a partition that becomes FREE leaves: its sequences, page sets, objects, staged blocks and windows. -/
def clearPart (s : State) (p : Nat) : State :=
  let ts := tilesOf s p
  let s := dropRuns s p
  let s := { s with
    seqs := s.seqs.filter fun e => e.1 / 2 ^ 32 != p
    kvSets := s.kvSets.filter fun e => e.1 / 2 ^ 40 != p
    ringTags := s.ringTags.filter fun e => !ts.contains (e.1 / 2 ^ 40)
    sync := s.sync.filter fun e => e.1 / 1024 != p
    staged := s.staged.filter fun e => e.1 != p
    windows := s.windows.filter fun e => e.1 / 256 != p
    inWrites := s.inWrites.filter fun w => w.part != p }
  setPState (setPart s p {}) p .free

/-! ### Loading: contents (R146, R256, R257, R330, R341) -/

/-- A scratchpad range reads as zero, with fresh check bits. -/
def zeroSp (s : State) (t off n : Nat) : State :=
  { s with
    sp := s.sp.filter fun e => decide (e.1 < spKey t off) || decide (spKey t off + n ≤ e.1)
    spErr := s.spErr.filter fun e => decide (e.1 < t * 2 ^ 20 + off / 8) || decide (t * 2 ^ 20 + (off + n) / 8 ≤ e.1) }

/-- R256: patches a field of a 128-bit unit in a scratchpad. -/
def patchField (s : State) (t a lsb width v : Nat) : State :=
  let u := leNat (spRead s t a 16)
  spWrite s t a (leBytes 16 (u - u / 2 ^ lsb % 2 ^ width * 2 ^ lsb + v % 2 ^ width * 2 ^ lsb))

/-- R256: applies a relocation record of a placed tile. -/
def patchReloc (pl : Placement) (pti : Nat) (x : PTile) (s : State) (w : Nat) : State :=
  let r := relocOf w
  let base := fun i => ((x.regions.find? fun g => g.ridx == i).map (·.base)).getD 0
  if r.pti ≠ pti then s
  else
    let a := if r.kind < 2 then (listBase pl pti r.prog).map (· + 16 * r.site) else some (base r.homereg + r.site)
    match a with
    | none => s
    | some a =>
      let v := leNat (spRead s x.tile a 16) / 2 ^ r.lsb % 2 ^ r.width
      patchField s x.tile a r.lsb r.width (if r.kind = 1 then x.arrays.getD v v else base r.target + v)

/-- R256: writes the PTI of a list header and its CRC. -/
def patchHeader (pl : Placement) (pti : Nat) (x : PTile) (s : State) (g : Prog) : State :=
  match listBase pl pti g.prog with
  | none => s
  | some a =>
    let s := patchField (patchField s x.tile a 87 12 pti) x.tile a 0 32 0
    let n := fld (leNat (spRead s x.tile a 16)) 115 100
    patchField s x.tile a 0 32 (crc32 (spRead s x.tile a (16 * (n + 1))))

/-- R146, R270 step 8: writes the regions of a placed tile from the image and applies its relocations. -/
def writeTile (m : Memory) (pl : Placement) (s : State) (pti : Nat) : State :=
  match ptile pl pti, (imgTiles m)[pti]? with
  | some x, some t =>
    let s := x.regions.foldl (fun s r =>
      match imgRegionOf t r.ridx with
      | none => s
      | some g => if r.kind = 0 then spWrite s x.tile r.base (Memory.readN m (sectOff m 4 + g.data) g.size) else zeroSp s x.tile r.base r.size) s
    let s := (imgRelocs m).foldl (patchReloc pl pti x) s
    pl.progs.foldl (patchHeader pl pti x) s
  | _, _ => s

/-- R149: a placed region holds a word that the scrubber has marked poisoned. -/
def poisoned (s : State) (t : Nat) (r : Region) : Bool :=
  s.spErr.any fun e => e.2 == 3 && decide (t * 2 ^ 20 + r.base / 8 ≤ e.1) && decide (e.1 < t * 2 ^ 20 + (r.base + r.size) / 8)

/-- R147, R149: rewrites the RESIDENT regions of a placed tile that hold a poisoned word from the image source, as they were bound. -/
def healTile (m : Memory) (pl : Placement) (s : State) (pti : Nat) : State :=
  match ptile pl pti with
  | none => s
  | some x =>
    let fresh := writeTile m pl s pti
    (x.regions.filter fun r => r.kind == 0 && poisoned s x.tile r).foldl (fun s r => spWrite s x.tile r.base (spRead fresh x.tile r.base r.size)) s

/-- R147, R149: what a RESTART rewrites. -/
def healRegions (s : State) (p : Nat) : State :=
  let pl := (part s p).place
  (List.range pl.tiles.length).foldl (healTile (((FMap.find s.images pl.image).map (·.bytes)).getD []) pl) s

/-- R346: a region of the partition lies on a failed stack: no RESTART. -/
def stackLost (s : State) (p : Nat) : Bool := (part s p).place.hregs.any fun r => r.stackIds.any fun k => (stack s k).failed

/-- R17, R149: RESTART of a FAULTED partition. -/
def restartPart (s : State) (p : Nat) : State := armExports (toIdle (healRegions s p) p) p

/-- R330: the initial contents of a region: zeros, or a copy from the image's data area. -/
def initRegion (m : Memory) (s : State) (r : HReg) : State :=
  let ranges := (r.stackIds.zip r.extents).flatMap fun e => e.2.map fun x => e.1 * stackBytes + x * extentBytes
  let outside := fun a => ranges.all fun b => decide (a < b) || decide (b + extentBytes ≤ a)
  let s := { s with hbm := s.hbm.filter fun e => outside e.1, hbmErr := s.hbmErr.filter fun e => outside e.1 }
  if r.init = 1 then
    let lo := hbmDataOff m + r.data
    (m.filter fun e => decide (lo ≤ e.1) && decide (e.1 < lo + r.size)).foldl (fun s e =>
      match r.resolve (r.vbase + (e.1 - lo)) with
      | none => s
      | some f => hbmWrite s f e.2) s
  else s

/-- The state after an effect, the same where it was refused. -/
def effState (s : State) : Eff → State
  | .inl _ => s
  | .inr r => r.1

/-- R341: stages the block of the image with an identifier into a slot. -/
def stageOne (p : Nat) (m : Memory) (s : State) (e : Nat × Nat) : State :=
  match (imgBlocks m).find? fun b => b.id == e.1 with
  | none => s
  | some b => effState s (stageInto s p (2 * 2 ^ 44 + e.2) e.1 (imgGolden m b))

/-- R341: LOAD with STAGE stages every distinct block of the image, in ascending slot order. -/
def stageAll (s : State) (p : Nat) (m : Memory) : State :=
  ((distinctBlocks m).zip (stageSlots (part s p).place.hregs)).foldl (stageOne p m) s

/-- R47, R52: BIND: the verified banks of a placed tile enter service and its maps are set. -/
def bindTile (dual : Bool) (s : State) (t : PTile) : State :=
  t.arrays.foldl (fun s a =>
    let bind := fun (s : State) lb =>
      let k := bankKey t.tile a lb
      loadTable { updBank s k (fun b => { b with st := .inService }) with bankMap := FMap.set s.bankMap k lb } k
    if dual then bind (bind s 0) 1 else bind s 0) s

/-! ### Starting a load -/

/-- R390: at LOAD the partition's RW parameters return to their defaults and its counters are cleared; obj 0x55pp:6 and :7 keep what the last
placement left (R273). -/
def resetParams (s : State) (p : Nat) : State :=
  { s with dict := s.dict.filter fun e =>
      let i := e.1 / 65536 / 256
      !(decide (famOf i ≠ 0) && i % 256 == p && match objDesc i (e.1 / 65536 % 256) with
        | none => false
        | some d => d.acc == .rw || (d.acc == .ro && !(i / 256 == 0x55 && (e.1 / 65536 % 256 == 6 || e.1 / 65536 % 256 == 7)))) }

/-- A load fails: the partition returns to FREE and its candidates are released. -/
def failLoad (s : State) (j : PlaceJob) (reason limit : Nat) : State :=
  let s := j.work.foldl (fun s w => dropCandidate s w) s
  endJob (clearPart (returnAll s j.part 0x0201) j.part) j reason limit {}

/-- The bank work of a placed tile. -/
def workOf (dual : Bool) (pl : Placement) (pti : Nat) : Option PlaceTile :=
  match ptile pl pti with
  | none => none
  | some t =>
    let w : PlaceTile := { pti := pti, tile := t.tile, narray := t.arrays.length, arrays := t.arrays }
    if t.arrays.isEmpty then none else some { w with todo := placedBanks w }

def abortOn (s : State) (t : Nat) : State := abortTests s fun f => f.tile == t

/-- R257, R260: the placer takes up a load: totals, search, and the programming of the banks. -/
def beginLoad (s : State) (j : PlaceJob) : State :=
  let m := ((FMap.find s.images j.image).map (·.bytes)).getD []
  match placeImage s j.part m j.image j.dies j.stage with
  | .inl (r, l) => failLoad s j r l
  | .inr (a, pl) =>
    let pl := { pl with stage := j.stage }
    let j := { j with
      begun := true, reserve := objD 0 s 0x5010 3, plan := pl, dx := a.1, dy := a.2, work := (List.range pl.tiles.length).filterMap (workOf pl.dual pl) }
    let s := (pl.tiles.map (·.tile)).foldl abortOn s
    placerPump { updPart s j.part (fun x => { x with place := pl }) with jobs := j :: s.jobs.drop 1 }

/-! ### Starting a re-placement (R270) -/

/-- R270 step 2: the PTIs of the vacated set. -/
def vacatedSet (s : State) (j : PlaceJob) : List Nat :=
  let pl := (part s j.part).place
  (List.range pl.tiles.length).filter fun i => match ptile pl i with
    | none => false
    | some t => if j.mode = 0 then t.tile == j.tile else !tileHealthy s t.tile

/-- R270 step 3: a replacement tile for each vacated PTI: the limiting code is always RC_NO_SPARE. -/
def pickSpares (s : State) (m : Memory) (pl : Placement) (bad : Nat → List Nat) : List Nat → Seek → Option (List (Nat × Nat))
  | [], _ => some []
  | i :: r, k =>
    match ptile pl i, (imgTiles m)[i]? with
    | some t, some x =>
      match chooseTile s { k with narray := x.narray, grant := t.grant, bad := bad i } (tileX t.tile) (tileY t.tile) with
      | .inl _ => none
      | .inr a => (pickSpares s m pl bad r { k with taken := k.taken ++ [(a, t.grant)] }).map ((i, a) :: ·)
    | _, _ => none

/-- A placement with some PTIs on other tiles: their arrays are mapped again and their regions keep their bases. -/
def movePtis (s : State) (dead : List Nat) (pl : Placement) (l : List (Nat × Nat)) : List PTile :=
  (pl.tiles.zip (List.range pl.tiles.length)).map fun e => match l.find? fun x => x.1 == e.2 with
    | none => e.1
    | some x => { e.1 with tile := x.2, arrays := (goodArrays s dead x.2).take e.1.arrays.length }

/-- R262, R270 step 4: the placement with moved PTIs, or the limiting code. -/
def refit (s : State) (p : Nat) (m : Memory) (dead : List Nat) (pl : Placement) (l : List (Nat × Nat)) : Sum Nat Placement :=
  let ts := movePtis s dead pl l
  let tiles := ts.map (·.tile)
  match fitMap s p m tiles pl.hregs (some (pl, l.map (·.1))) with
  | .inl e => .inl e
  | .inr x =>
    let hub := if s.ldDown.contains pl.hub then (chooseHub s tiles none).getD pl.hub else pl.hub
    .inr (fillNotices { pl with tiles := ts, flows := x.1, lanes := x.2.1, reduces := x.2.2, hub := hub, standby := chooseHub s tiles (some hub) })

/-- A re-placement fails: the committed record stands, and the new tiles' banks are released. -/
def failReplace (s : State) (j : PlaceJob) (reason limit : Nat) : State :=
  endJob (j.work.foldl (fun s w => dropCandidate s w) s) j reason limit (part s j.part).place

/-- R268, R270: the states in which a re-placement starts. -/
def mayReplace (s : State) (p : Nat) : Bool :=
  match (part s p).st with
  | .faulted => true | .stalled => true | .idle => true | .loaded => true
  | _ => false

/-- R270 steps 1–4 and 6: the placer takes up a re-placement. -/
def beginReplace (s : State) (j : PlaceJob) : State :=
  let s := if (part s j.part).st = .stalled ∨ (part s j.part).st = .idle then engineFault s j.part 0x020E else s
  let pl := (part s j.part).place
  let m := ((FMap.find s.images pl.image).map (·.bytes)).getD []
  let v := vacatedSet s j
  let old := v.filterMap fun i => (ptile pl i).map (·.tile)
  match pickSpares s m pl (fun _ => []) v { dies := j.dies, leaving := old } with
  | none => failReplace s j 0x030C 0
  | some l =>
    match refit s j.part m j.dead pl l with
    | .inl e => failReplace s j e e
    | .inr new =>
      let j := { j with
        begun := true, image := pl.image, plan := new, vacated := v.zip old
        work := v.filterMap fun i => match ptile new i with
          | none => none
          | some t =>
            let w : PlaceTile := { pti := i, tile := t.tile, narray := t.arrays.length, arrays := t.arrays }
            some { w with todo := placedBanks w } }
      let s := (l.map (·.2)).foldl abortOn s
      placerPump { s with jobs := j :: s.jobs.drop 1 }

/-! ### The placement queue (R245) -/

/-- A job can be taken up. -/
def jobReady (s : State) (j : PlaceJob) : Bool := j.isLoad || mayReplace s j.part

/-- R245: the placer takes up the next job of the queue; one job at a time, each of which either runs or ends. -/
def serveJobs (s : State) : Nat → State
  | 0 => s
  | n + 1 =>
    match s.jobs with
    | [] => s
    | j :: _ =>
      if j.begun then s
      else
        match s.jobs.find? (jobReady s) with
        | none => s
        | some x =>
          let s := { s with jobs := x :: s.jobs.erase x }
          serveJobs (if x.isLoad then beginLoad s x else beginReplace s x) n

/-- R245: a job joins the queue: re-placements stand ahead of loads that have not begun. -/
def queueJob (s : State) (j : PlaceJob) : State :=
  let ahead := s.jobs.filter fun x => x.begun || !x.isLoad || j.isLoad
  let behind := s.jobs.filter fun x => !(x.begun || !x.isLoad || j.isLoad)
  let s := { s with jobs := ahead ++ [j] ++ behind }
  serveJobs s (s.jobs.length + 1)

/-! ### Requests (R202, R257, R269, R271) -/

/-- Why a placement request is refused before its own conditions: the right, READY, the partition's state, a re-placement or a check. -/
def placeRefusal (s : State) (ses p : Nat) (formOk version okState : Bool) (busy : Bool) : Option Nat :=
  if !hasConfigure s ses p then some 0x0204
  else if !version then some 0x0804
  else if !formOk then some 0x0127
  else if s.power ≠ .ready then some 0x021E
  else if busy && s.jobs.any (fun j => j.part == p && !j.isLoad) then some 0x020F
  else if (part s p).check.isSome then some 0x0219
  else if !okState then some 0x0206
  else none

/-- LOAD (R17, R257): the placer checks the image; an accepted LOAD moves the partition to LOADING and joins the placement queue. -/
def execLoad (ses reqid body : Nat) (s : State) : Host.Outcome State Fault Refusal :=
  served s ses 0x10 reqid fun s =>
    let p := fld body 247 244
    let id := fld body 239 176
    match placeRefusal s ses p (fld body 242 240 == 0 && body % 2 ^ 152 == 0 && decide (body < 2 ^ 256)) (fld body 255 248 == 1)
        ((part s p).st == .free) false with
    | some r => refuseReq s ses 0x10 reqid r
    | none =>
      match FMap.find s.images id with
      | none => refuseReq s ses 0x10 reqid 0x0308
      | some im =>
        match imageFail s im.bytes with
        | some r => refuseReq s ses 0x10 reqid r
        | none =>
          let s := setPState (setPart (resetParams s p) p {}) p .loading
          let s := { s with windows := s.windows.filter fun e => e.1 / 256 != p }
          queueJob s { part := p, isLoad := true, session := ses, reqid := reqid, dies := fld body 175 152, stage := bitAt body 243, image := id
                       startNs := ageNs s }

/-- UNLOAD (R17, R202): a LOADED partition releases its resources and becomes FREE; its banks go to EMPTY. -/
def execUnload (ses reqid p : Nat) (s : State) : Host.Outcome State Fault Refusal :=
  if 16 ≤ p then .fault .noSuchUnit
  else
    served s ses 0x11 reqid fun s =>
      match placeRefusal s ses p true true ((part s p).st == .loaded) false with
      | some r => refuseReq s ses 0x11 reqid r
      | none =>
        let s := match s.jobs.find? fun j => j.part == p with
          | none => s
          | some j =>
            let rest := s.jobs.filter fun x => x.part != p
            let s := failReplace { s with jobs := j :: rest } j 0x0206 0
            serveJobs s (s.jobs.length + 1)
        let ts := (part s p).place.tiles
        let s := returnAll s p 0x0201
        let s := (ts.flatMap ownedBanks).foldl unbind s
        acceptReq (clearPart s p) ses 0x11 reqid

/-- RESTART (R17, R202, R271, R346): a FAULTED partition is IDLE again, its sequences at their last committed boundary. -/
def execRestart (ses reqid p : Nat) (s : State) : Host.Outcome State Fault Refusal :=
  if 16 ≤ p then .fault .noSuchUnit
  else
    served s ses 0x12 reqid fun s =>
      match placeRefusal s ses p true true ((part s p).st == .faulted) true with
      | some r => refuseReq s ses 0x12 reqid r
      | none => if stackLost s p then refuseReq s ses 0x12 reqid 0x070A else acceptReq (restartPart s p) ses 0x12 reqid

/-- R269: a REPLACE request. -/
def replaceRequest (ses reqid body : Nat) (s : State) : Host.Outcome State Fault Refusal :=
  served s ses 0x13 reqid fun s =>
    let p := fld body 247 244
    let mode := fld body 243 242
    let pl := (part s p).place
    match placeRefusal s ses p (body % 2 ^ 200 == 0 && decide (body < 2 ^ 256)) (fld body 255 248 == 1) (mayReplace s p) true with
    | some r => refuseReq s ses 0x13 reqid r
    | none =>
      if 2 ≤ mode then refuseReq s ses 0x13 reqid 0x0105
      else if (mode = 0 && !pl.tiles.any fun t => t.tile == fld body 239 224)
          || (mode = 1 && (fld body 239 224 != 0 || pl.tiles.all fun t => tileHealthy s t.tile)) then refuseReq s ses 0x13 reqid 0x0105
      else
        queueJob s { part := p, isLoad := false, session := ses, reqid := reqid, dies := fld body 223 200, mode := mode, tile := fld body 239 224
                     restart := bitAt body 241, retire := bitAt body 240, startNs := ageNs s }

/-- REPLACE_TILE (R269): REPLACE with MODE 0b00, or with a MODE that is out of range. -/
def execReplaceTile (ses reqid body : Nat) (s : State) : Host.Outcome State Fault Refusal :=
  if fld body 243 242 = 1 then .next s else replaceRequest ses reqid body s

/-- REPLACE_UNHEALTHY (R269): REPLACE with MODE 0b01. -/
def execReplaceUnhealthy (ses reqid body : Nat) (s : State) : Host.Outcome State Fault Refusal :=
  if fld body 243 242 = 1 then replaceRequest ses reqid body s else .next s

/-- R268: a trigger of the standing policy stands: the partition is FAULTED, and Kennel held the tile of its fault record PERMANENT at that
fault, or a tile has been dark on a lost block or a failed router for the set time. -/
def triggered (s : State) (p : Nat) : Bool :=
  let dark := objD 100 s (pidx 0x55 p) 2 * 1000000
  let long := fun k => match FMap.find s.lostAt k with
    | none => false
    | some t => decide (t + dark ≤ ageNs s)
  ((part s p).st == .faulted && (part s p).permFault) || (tilesOf s p).any fun t =>
    (decide (2 ≤ blockState s (clusterOf t)) && long (clusterOf t))
      || (routerState s t == 3 && long (65536 + t))

/-- REPLACE_TRIGGER (R268, R270): the standing policy of partition `p` queues a re-placement on a trigger; the placer takes up what waits. -/
def execReplaceTrigger (p : Nat) (s : State) : Host.Outcome State Fault Refusal :=
  if 16 ≤ p then .fault .noSuchUnit
  else
    let i := pidx 0x55 p
    let policy := objD 0 s i 1
    if s.power = .ready ∧ policy ≠ 0 ∧ triggered s p ∧ !(s.jobs.any fun j => j.part == p) then
      let j : PlaceJob :=
        { part := p, isLoad := false, mode := 1, restart := policy == 2, retire := objD 0 s i 3 == 1, dies := objD 0 s i 4, asked := false
          startNs := ageNs s }
      .next (queueJob (updPart s p fun x => { x with permFault := false }) j)
    else .next (serveJobs s (s.jobs.length + 1))

/-! ### Completion (R257, R258, R270) -/

/-- R258: how a bank of a tile being programmed has failed: 0x0701 its verify, 0x0702 its fit twice in a row. -/
def bankFailed (s : State) (w : PlaceTile) (k : Nat) : Option Nat :=
  let b := bankOf s k
  if w.todo.contains k then none
  else if b.st = .invalid then some 0x0701
  else if b.st = .programmed ∧ 2 ≤ b.fitFails then some 0x0702 else none

/-- The eligibility key of an array. -/
def arrayKey (k : Nat) : Nat := bankTile k * 64 + bankArray k

/-- R258: the code of a tile being programmed that has failed: a bank of it has, or one of its arrays has left eligibility. -/
def workFailed (s : State) (dead : List Nat) (w : PlaceTile) : Option Nat :=
  match (placedBanks w).findSome? (bankFailed s w) with
  | some e => some e
  | none => if (placedBanks w).any fun k => dead.contains (arrayKey k) then some 0x0701 else none

/-- R258, R270 step 6: the arrays of a tile that leave eligibility with it. -/
def failedArrays (s : State) (w : PlaceTile) : List Nat := ((placedBanks w).filter fun k => (bankFailed s w k).isSome).map arrayKey

/-- Every bank of a tile is verified and calibrated. -/
def workDone (s : State) (w : PlaceTile) : Bool :=
  w.todo.isEmpty && (placedBanks w).all fun k => (bankOf s k).st == .standby

/-- R258, R270: a PTI takes the next candidate tile; the reason and LIMIT where it cannot. -/
def nextCandidate (s : State) (j : PlaceJob) (w : PlaceTile) (why : Nat) : Sum (Nat × Nat) (State × PlaceJob) :=
  let code := if j.isLoad then 0x030D else 0x030C
  let j := { j with dead := failedArrays s w ++ j.dead }
  if 2 ≤ w.tries then .inl (code, if j.isLoad then why else 0)
  else
    let m := ((FMap.find s.images j.image).map (·.bytes)).getD []
    let bad := w.tile :: w.failed
    let old := j.vacated.map (·.2)
    let others := ((j.plan.tiles.zip (List.range j.plan.tiles.length)).filter fun e =>
      (j.isLoad || j.work.any fun x => x.pti == e.2) && e.2 != w.pti).map fun e => (e.1.tile, e.1.grant)
    -- for a load the plan's tiles are owned already; the failed candidate leaves
    let k : Seek := if j.isLoad then { dies := j.dies, reserve := j.reserve, leaving := [w.tile], bad := bad, dead := j.dead }
      else { dies := j.dies, leaving := old, taken := others, bad := bad, dead := j.dead }
    match ptile j.plan w.pti, (imgTiles m)[w.pti]?, ptile (part s j.part).place w.pti with
    | some t, some x, some cur =>
      let at_ : Int × Int := if j.isLoad then ((x.lx : Int) + j.dx, (x.ly : Int) + j.dy) else (tileX cur.tile, tileY cur.tile)
      match chooseTile s { k with narray := x.narray, grant := t.grant } at_.1 at_.2 with
      | .inl e => .inl (code, if j.isLoad then e else 0)
      | .inr a =>
        match refit s j.part m j.dead j.plan [(w.pti, a)] with
        | .inl e => .inl (if j.isLoad then code else e, e)
        | .inr pl =>
          let s := abortOn (dropCandidate s w) a
          let nw : PlaceTile := { w with
            tile := a, arrays := ((ptile pl w.pti).map (·.arrays)).getD [], tries := w.tries + 1, failed := bad, todo := [] }
          let nw := { nw with todo := placedBanks nw }
          let j := { j with plan := pl, work := j.work.map fun y => if y.pti = w.pti then nw else y }
          let s := if j.isLoad then updPart s j.part fun y => { y with place := pl } else s
          .inr ({ s with jobs := j :: s.jobs.drop 1 }, j)
    | _, _, _ => .inl (code, 0)

/-- The running job goes on: a failed candidate is replaced; else the job, complete or not. -/
def jobStep (s : State) (j : PlaceJob) (fail : State → PlaceJob → Nat → Nat → State) (finish : State → PlaceJob → State) : State :=
  if j.fail ≠ 0 then fail s j j.fail 0
  else
    match j.work.findSome? fun w => (workFailed s j.dead w).map fun e => (w, e) with
    | some (w, e) =>
      match nextCandidate s j w e with
      | .inl (r, l) => fail s j r l
      | .inr (s, _) => placerPump s
    | none => if j.work.all (workDone s) then finish s j else placerPump s

/-- R160, R256: the list of a placed tile as it is bound: its header, patched, and its CRC. -/
def boundListOk (s : State) (pl : Placement) (pti : Nat) (x : PTile) (g : Prog) : Bool :=
  match listBase pl pti g.prog with
  | none => true
  | some a =>
    let h := leNat (spRead s x.tile a 16)
    let room := ((x.regions.find? fun r => decide (r.base ≤ a) && decide (a < r.base + r.size)).map fun r => r.base + r.size - a).getD 0
    let bytes := spRead s x.tile a (16 * (fld h 115 100 + 1))
    listHdrOk h room pl.scompat && crc32 (leBytes 16 (h - h % 2 ^ 32) ++ bytes.drop 16) == h % 2 ^ 32

/-- R256: every list of some placed tiles passes the check at bind. -/
def boundOk (s : State) (pl : Placement) (ptis : List Nat) : Bool :=
  ptis.all fun i => match ptile pl i with
    | none => true
    | some x => pl.progs.all (boundListOk s pl i x)

/-- R257: the regions are written, the lists are checked, the placement record is committed and the partition is LOADED. -/
def finishLoad (s : State) (j : PlaceJob) : State :=
  let p := j.part
  let m := ((FMap.find s.images j.image).map (·.bytes)).getD []
  let pl := j.plan
  let ptis := List.range pl.tiles.length
  let s := ptis.foldl (writeTile m pl) s
  if !boundOk s pl ptis then failLoad s j 0x011B 0
  else
    let s := pl.hregs.foldl (initRegion m) s
    let s := if j.stage then stageAll s p m else s
    let s := { s with sync := s.sync.filter fun e => e.1 / 1024 != p, kvSets := s.kvSets.filter fun e => e.1 / 2 ^ 40 != p }
    let s := pl.tiles.foldl (bindTile pl.dual) s
    endJob (setPState s p .loaded) j 0 0 pl

/-- R365: windows over a moved tile close. -/
def closeMoved (s : State) (p : Nat) (ptis : List Nat) : State :=
  { s with windows := s.windows.map fun e =>
      if e.1 / 256 = p ∧ e.2.st ≠ 0 ∧ vaSpace e.2.va < 2 ∧ ptis.contains (vaPti e.2.va) then (e.1, { e.2 with st := 0 }) else e }

/-- R270 steps 8–10: a re-placement commits. DESIGN CHOICE (log 116): the DETAIL of its cause has room for two tiles vacated and new: the lowest two
PTIs'. -/
def finishReplace (s : State) (j : PlaceJob) : State :=
  let p := j.part
  let m := ((FMap.find s.images j.image).map (·.bytes)).getD []
  let ptis := j.vacated.map (·.1)
  let old := ptis.filterMap (ptile (part s p).place)
  let s := ptis.foldl (writeTile m j.plan) s
  if !boundOk s j.plan ptis then failReplace s j 0x011B 0
  else
    let s := updPart s p fun x => { x with place := j.plan }
    let s := (ptis.filterMap (ptile j.plan)).foldl (bindTile j.plan.dual) s
    let s := (old.flatMap ownedBanks).foldl unbind s
    let s := { closeMoved s p ptis with ringTags := s.ringTags.filter fun e => !(old.any fun t => t.tile == e.1 / 2 ^ 40) }
    let s := if j.retire then old.foldl (fun s t => kennelRetire s 1 t.tile 0) s else s
    let s := if j.restart && (part s p).st == .faulted && !stackLost s p then restartPart s p else s
    let pairs := (old.zip (ptis.filterMap (ptile j.plan))).map fun e => e.1.tile * 65536 + e.2.tile
    let detail := pairs.getD 0 0 + put (pairs.getD 1 0) 32 32
    let s := raise (addObj s (pidx 0x55 p) 12 1 0 32) { sev := 1, cls := 7, part := some p, detail := detail }
    endJob (reviewStall s p) j 0 0 j.plan

/-- LOAD_COMPLETE (R257, R258): the placer goes on with the load of partition `p`: once every bank is verified and calibrated it completes; a
failed candidate is replaced, or the load fails. -/
def execLoadComplete (p : Nat) (s : State) : Host.Outcome State Fault Refusal :=
  if 16 ≤ p then .fault .noSuchUnit
  else
    match s.jobs with
    | [] => .next s
    | j :: _ =>
      if j.begun && j.isLoad && j.part == p then
        let s := jobStep s j failLoad finishLoad
        .next (serveJobs s (s.jobs.length + 1))
      else .next (serveJobs s (s.jobs.length + 1))

/-- REPLACE_COMPLETE (R270): the placer goes on with the re-placement of partition `p`: once every bank is verified and calibrated it commits. -/
def execReplaceComplete (p : Nat) (s : State) : Host.Outcome State Fault Refusal :=
  if 16 ≤ p then .fault .noSuchUnit
  else
    match s.jobs with
    | [] => .next s
    | j :: _ =>
      if j.begun && !j.isLoad && j.part == p then
        let s := jobStep s j failReplace finishReplace
        .next (serveJobs s (s.jobs.length + 1))
      else .next (serveJobs s (s.jobs.length + 1))

end Sys2Proof.Machine
end

