-- ==== Sys2Proof/Machine/Crypto.lean ====
section
/-! DEFINITION. The standard functions that the manual names: SHA-256 and SHA-384 (FIPS 180-4) and HMAC-SHA-256 (FIPS 198-1), for
the proof of R395 and the digests of R516. Their constants are the fraction bits of roots of primes, as FIPS 180-4 defines them. -/
namespace Sys2Proof.Machine

def isPrime (n : Nat) : Bool := decide (2 ≤ n) && (List.range n).all fun d => d < 2 || n % d != 0

/-- The first 80 primes. -/
def primes80 : List Nat := (List.range 410).filter isPrime

/-- The greatest x below 2^n with x^k at most v, found bit by bit. -/
def rootBits (k v : Nat) : Nat → Nat → Nat
  | 0, x => x
  | n + 1, x => if (x + 2 ^ n) ^ k ≤ v then rootBits k v n (x + 2 ^ n) else rootBits k v n x

/-- The first 64 fraction bits of the k-th root of p. -/
def rootFrac (k p : Nat) : Nat := rootBits k (p * 2 ^ (64 * k)) 70 0 % 2 ^ 64

/-- What distinguishes the two hash functions: word width in bits, rounds, rotations, first state and round constants. -/
structure ShaKind where
  w : Nat
  rounds : Nat
  /-- Σ0, Σ1: three rotations; σ0, σ1: two rotations and a shift. -/
  s0 : Nat × Nat × Nat
  s1 : Nat × Nat × Nat
  t0 : Nat × Nat × Nat
  t1 : Nat × Nat × Nat
  h : List Nat
  k : List Nat

def sha256Kind : ShaKind :=
  { w := 32, rounds := 64, s0 := (2, 13, 22), s1 := (6, 11, 25), t0 := (7, 18, 3), t1 := (17, 19, 10)
    h := (primes80.take 8).map fun p => rootFrac 2 p / 2 ^ 32
    k := (primes80.take 64).map fun p => rootFrac 3 p / 2 ^ 32 }
def sha384Kind : ShaKind :=
  { w := 64, rounds := 80, s0 := (28, 34, 39), s1 := (14, 18, 41), t0 := (1, 8, 7), t1 := (19, 61, 6)
    h := ((primes80.drop 8).take 8).map (rootFrac 2)
    k := primes80.map (rootFrac 3) }

/-- Right rotation of a w-bit word. -/
def rotr (w n x : Nat) : Nat := x / 2 ^ n + x % 2 ^ n * 2 ^ (w - n)
def bigSigma (w : Nat) (r : Nat × Nat × Nat) (x : Nat) : Nat := rotr w r.1 x ^^^ rotr w r.2.1 x ^^^ rotr w r.2.2 x
def smallSigma (w : Nat) (r : Nat × Nat × Nat) (x : Nat) : Nat := rotr w r.1 x ^^^ rotr w r.2.1 x ^^^ x / 2 ^ r.2.2

/-- The message schedule, newest word first. -/
def shaSchedule (c : ShaKind) : Nat → List Nat → List Nat
  | 0, l => l
  | n + 1, l =>
    let x := (smallSigma c.w c.t1 (l.getD 1 0) + l.getD 6 0 + smallSigma c.w c.t0 (l.getD 14 0) + l.getD 15 0) % 2 ^ c.w
    shaSchedule c n (x :: l)

/-- One round: the eight working words, then the round constant and the schedule word. -/
def shaRound (c : ShaKind) (v : List Nat) (e : Nat × Nat) : List Nat :=
  match v with
  | [x0, x1, x2, x3, x4, x5, x6, x7] =>
    let ch := (x4 &&& x5) ^^^ ((2 ^ c.w - 1 - x4) &&& x6)
    let maj := (x0 &&& x1) ^^^ (x0 &&& x2) ^^^ (x1 &&& x2)
    let a := x7 + bigSigma c.w c.s1 x4 + ch + e.1 + e.2
    let b := bigSigma c.w c.s0 x0 + maj
    [(a + b) % 2 ^ c.w, x0, x1, x2, (x3 + a) % 2 ^ c.w, x4, x5, x6]
  | _ => v

/-- One block of 16 words. -/
def shaBlock (c : ShaKind) (h ws : List Nat) : List Nat :=
  let sch := (shaSchedule c (c.rounds - 16) ws.reverse).reverse
  ((c.k.zip sch).foldl (shaRound c) h).zip h |>.map fun e => (e.1 + e.2) % 2 ^ c.w

/-- The big-endian number of bytes. -/
def beNat (l : List Byte) : Nat := l.foldl (fun a b => a * 256 + b.toNat) 0
/-- The n big-endian bytes of a number. -/
def beBytes (n v : Nat) : List Byte := (leBytes n v).reverse

/-- The hash of a message: the whole of the last state. -/
def shaBytes (c : ShaKind) (m : List Byte) : List Byte :=
  let b := c.w / 8 * 16
  let z := (2 * b - 1 - c.w / 4 - m.length % b) % b
  let full := m ++ [0x80#8] ++ List.replicate z 0#8 ++ beBytes (c.w / 4) (8 * m.length)
  let n := full.length / b
  let blocks := (List.range n).map fun i =>
    (List.range 16).map fun j => beNat ((full.drop (i * b + j * (c.w / 8))).take (c.w / 8))
  (blocks.foldl (shaBlock c) c.h).flatMap (beBytes (c.w / 8))

def sha256 (m : List Byte) : List Byte := shaBytes sha256Kind m
def sha384 (m : List Byte) : List Byte := (shaBytes sha384Kind m).take 48

/-- HMAC-SHA-256 with a key of at most 64 bytes. -/
def hmac256 (key m : List Byte) : List Byte :=
  let k := key ++ List.replicate (64 - key.length) 0#8
  sha256 (k.map (· ^^^ 0x5C#8) ++ sha256 (k.map (· ^^^ 0x36#8) ++ m))

end Sys2Proof.Machine
end

