-- ==== Sys2Proof/Machine/Ports.lean ====
section
/-! DEFINITION. Ports (R350–R354, R357, R392, R540, R541): links, cages, priority flow control, neighbour discovery, and the checks a received
frame passes before Broler takes it. -/
namespace Sys2Proof.Machine

/-! ### Addresses (R353, R392) -/

/-- The link-local address that a management port forms from its MAC, in modified EUI-64 form; address bytes little-endian. -/
def eui64 (mac : Nat) : Nat :=
  let o := fun i => fld mac (47 - 8 * i) (40 - 8 * i)
  leNat ([0xFE, 0x80, 0, 0, 0, 0, 0, 0, o 0 ^^^ 2, o 1, o 2, 0xFF, 0xFE, o 3, o 4, o 5].map (BitVec.ofNat 8))

/-- R353, R392: an address is the port's. -/
def ownAddress (s : State) (p a : Nat) : Bool :=
  if p < 48 then a != 0 && a == objD 0 s 0x6010 4 p
  else (a != 0 && a == objD 0 s 0x2010 4 (p - 48)) || a == eui64 (Config.portMac p)
/-- R353, R393: the port's gateway address. -/
def gatewayOf (s : State) (p : Nat) : Nat := if p < 48 then objD 0 s 0x6010 5 p else objD 0 s 0x2010 6 (p - 48)

/-- A port is up and what is behind it runs: the wafer for Ethernet ports, a controller card for management ports. -/
def portRuns (s : State) (p : Nat) : Bool := portUp s p && (if p < 48 then s.power == .ready || s.power == .hold || s.power == .stopping || (s.power == .starting && decide (6 ≤ s.life.step)) else cardsUp s)

/-- NEIGHBOR_SOLICITATION (R353): the port answers for its address. -/
def execNeighborSolicitation (p target : Nat) (s : State) : Host.Outcome State Fault Refusal :=
  if 50 ≤ p then .fault .noSuchUnit
  else if portRuns s p && ownAddress s p target then .next (emit s (.icmp p 1 target)) else .next s

/-- NEIGHBOR_ADVERTISEMENT (R353): the gateway's link-layer address. -/
def execNeighborAdvertisement (p target lladdr : Nat) (s : State) : Host.Outcome State Fault Refusal :=
  if 50 ≤ p then .fault .noSuchUnit
  else if portRuns s p && target != 0 && target == gatewayOf s p then .next (setPort s p { port s p with gateway := some lladdr }) else .next s

/-- ECHO_REQUEST (R353): an Echo Request to the port's address from `src` is answered. -/
def execEchoRequest (p dst src : Nat) (s : State) : Host.Outcome State Fault Refusal :=
  if 50 ≤ p then .fault .noSuchUnit
  else if portRuns s p && ownAddress s p dst then .next (emit s (.icmp p 2 src)) else .next s

/-! ### Links and cages (R351, R540, R541) -/

/-- Channels that can send again. -/
def resumeTx (s : State) : State :=
  flushAll (s.sessions.foldl (fun s e => (e.2.chans.map (·.1)).foldl (fun s c => pump s e.1 c) s) s)

/-- R359: the OPEN of a link session that this module could not send yet leaves on the port that has come up. -/
def sendOpens (s : State) (p : Nat) : State :=
  (s.sessions.filter fun e => e.2.opener && e.2.st == 0).foldl (fun s e =>
    if sendPort s e.1 = some p then sendFrame s p 1 e.1 0 0 e.2.open_ else s) s

/-- R353: a port that has come up resolves its gateway. -/
def solicit (s : State) (p : Nat) : State := if gatewayOf s p = 0 then s else emit s (.icmp p 3 (gatewayOf s p))

/-- A link comes up or goes down: sources 352–399 show it, and sessions move. -/
def linkChange (s : State) (p : Nat) (up : Bool) : State :=
  let s := portCond (setPort s p { port s p with link := up, gateway := none, paused := [], xoff := [] }) p
  if portUp s p then resumeTx (sendOpens (solicit s p) p) else resumeTx s

/-- PORT_LINK_CHANGE (R351): the link of a port with a module comes up or goes down. -/
def execPortLinkChange (p : Nat) (up : Bool) (s : State) : Host.Outcome State Fault Refusal :=
  if 48 ≤ p then .fault .noSuchUnit
  else
    let x := port s p
    if up && (portState s p != 2 || x.low || s.ldDown.contains (p / 12)) then .next s else .next (linkChange s p up)

/-- MGMT_PORT_LINK_CHANGE (R392, R541): the link of management port `m` comes up or goes down. -/
def execMgmtPortLinkChange (m : Nat) (up : Bool) (s : State) : Host.Outcome State Fault Refusal :=
  if 2 ≤ m then .fault .noSuchUnit else .next (linkChange s (48 + m) up)

/-- OSFP_INSERT (R351, R491, R540): a module of a CMIS power class that advertises `watts` is in the cage; above 16 W it stays in low-power mode. -/
def execOsfpInsert (p cls watts : Nat) (s : State) : Host.Outcome State Fault Refusal :=
  if 48 ≤ p then .fault .noSuchUnit
  else if (port s p).present then .next s
  else
    let low := decide (16 < watts)
    let s := partMoved s 4 p
    let s := portCond (setPort s p { port s p with present := true, cls := cls % 256, low := low, link := false }) p
    .next (if low then raiseRc s 3 0x0615 none 4 p else s)

/-- OSFP_REMOVE (R351, R491): the cage is ABSENT; a port leaves FAULT. -/
def execOsfpRemove (p : Nat) (s : State) : Host.Outcome State Fault Refusal :=
  if 48 ≤ p then .fault .noSuchUnit
  else
    let x := port s p
    if !x.present then .next s
    else
      let left := if x.fault then some (nowNs s) else x.leftAt
      .next (linkChange (setPort (partMoved s 4 p) p { x with present := false, cls := 0, low := false, fault := false, stuck := false, leftAt := left }) p false)

/-- PORT_ELEC_FAULT (R351, R482, R492): the cage's supply is removed and the port is FAULT; again within 60 s, until its module is removed. -/
def execPortElecFault (p : Nat) (s : State) : Host.Outcome State Fault Refusal :=
  if 48 ≤ p then .fault .noSuchUnit
  else
    let x := port s p
    if !x.present || x.fault || objD 1 s 0x6010 1 p == 0 then .next s
    else
      let again := x.leftAt.any fun t => decide (nowNs s < t + 60000000000)
      let s := linkChange (setPort s p { x with fault := true, stuck := again }) p false
      .next (raiseRc (protective (kennelEvent s 17 4 p 0 0x0620) 4 p 0x0620) 3 0x0620 none 4 p)

/-! ### Priority flow control (R352) -/

/-- PFC_FRAME (R352): pause times in quanta of 512 bit times (0.64 ns) for priorities; one of 0 ends a pause. -/
def execPfcFrame (p : Nat) (pauses : List (Nat × Nat)) (s : State) : Host.Outcome State Fault Refusal :=
  if 48 ≤ p then .fault .noSuchUnit
  else if !portRuns s p then .next s
  else
    let l := pauses.filter fun e => decide (e.1 < 8) && bitAt (objD 0 s 0x6010 7 p) e.1
    let paused := l.foldl (fun m e => if e.2 = 0 then FMap.del m e.1 else FMap.set m e.1 (nowNs s + ceilDiv (e.2 % 65536 * 64) 100)) (port s p).paused
    .next (resumeTx (setPort s p { port s p with paused := paused }))

/-- PFC_PAUSE_EXPIRE (R352): the pause time of a priority has run out. -/
def execPfcPauseExpire (p pri : Nat) (s : State) : Host.Outcome State Fault Refusal :=
  if 48 ≤ p then .fault .noSuchUnit
  else
    match FMap.find (port s p).paused pri with
    | none => .next s
    | some t => if t ≤ nowNs s then .next (resumeTx (setPort s p { port s p with paused := FMap.del (port s p).paused pri })) else .next s

/-- Bytes of a priority that a port has received and Broler has not taken. -/
def buffered (s : State) (p pri : Nat) : Nat := ((s.rx.filter fun x => x.port == p && x.pri == pri).map (·.len)).foldl (· + ·) 0

/-- R352: XOFF above 192 KiB, XON below 96 KiB. -/
def flowControl (s : State) (p pri : Nat) : State :=
  if 48 ≤ p ∨ bitAt (objD 0 s 0x6010 7 p) pri = false then s
  else
    let x := port s p
    let n := buffered s p pri
    if 196608 < n ∧ x.xoff.contains pri = false then emit (setPort s p { x with xoff := pri :: x.xoff }) (.pfc p pri true)
    else if n < 98304 ∧ x.xoff.contains pri then emit (setPort s p { x with xoff := x.xoff.filter (· != pri) }) (.pfc p pri false)
    else s

/-! ### Received frames (R350, R353, R354, R357) -/

def bTyp (h : Nat) : Nat := fld h 247 240
def bChan (h : Nat) : Nat := fld h 234 232
def bDsid (h : Nat) : Nat := fld h 231 216
def bSsid (h : Nat) : Nat := fld h 215 200
def bSeq (h : Nat) : Nat := fld h 199 168
def bAck (h : Nat) : Nat := fld h 167 136
def bCredit (h : Nat) : Nat := fld h 135 120
def bReason (h : Nat) : Nat := fld h 103 88
def bGepoch (h : Nat) : Nat := fld h 73 58

/-- R355: a message type. -/
def typeOk (t : Nat) : Bool := (decide (1 ≤ t) && decide (t ≤ 8)) || t == 0x10 || t == 0x20 || t == 0x21 || t == 0x22 || t == 0x30

/-- R356, R394: a session kind uses a channel. -/
def chanOk (kind c : Nat) : Bool := if kind = 2 then c == 0 || c == 4 || c == 5 else decide (c < 5)

/-- R356, R366, R372: what a channel carries on a session kind. -/
def carries (kind c t : Nat) : Bool := t == 8 || (if c = 5 then t != 0x10 else t == 0x10) && chanOk kind c

/-- R357, R360: a session in a state takes a frame type. -/
def takes (x : Session) (t : Nat) : Bool :=
  match t with
  | 2 => x.opener && x.st == 0
  | 3 => !x.opener && x.st == 1
  | 4 => x.opener && x.st == 1
  | 5 => x.st != 3 && (x.opener || x.group != 0)
  | _ => x.st == 2 || x.st == 3

/-- R350, R353, R392: the frame is the port's to take: length, tags, addresses, EtherType or UDP port, checksum. -/
def envelopeOk (s : State) (p : Nat) (e : Envelope) : Bool :=
  let mgmt := decide (48 ≤ p)
  decide (e.len ≤ (if mgmt then 1522 else 9216)) && decide (e.tags ≤ 1) && (bitAt e.dstMac 40 || e.dstMac == Config.portMac p)
    && if e.etherType = 0x86DD then
        !e.ext && e.nextHeader == 17 && e.checksumOk && ownAddress s p e.dstIp
          && e.udpPort == (if mgmt then objD 49353 s 0x2010 7 (p - 48) else objD 49352 s 0x6000 3)
      else !mgmt && e.etherType == objD 0x88B5 s 0x6000 2

/-- R353: a frame on a session comes in the encapsulation of the session's OPEN. DEDUCED: one in the other encapsulation is dropped. -/
def encapOk (s : State) (h : Nat) (e : Envelope) : Bool :=
  bTyp h == 1 || (session s (bDsid h)).udp == (e.etherType == 0x86DD)

/-- R354, R357: the Broler frame's own form: its check, LENGTH, reserved fields, type. -/
def brolerOk (bs : List Byte) : Bool :=
  let h := leNat (bs.take 32)
  decide (36 ≤ bs.length) && crc32 (bs.take (bs.length - 4)) == leNat (bs.drop (bs.length - 4)) && fld h 87 74 + 36 == bs.length
    && fld h 236 235 == 0 && h % 2 ^ 58 == 0 && typeOk (bTyp h)

/-- R357: the session that a frame names takes it. -/
def sessionOk (s : State) (h : Nat) (mgmt : Bool) : Bool :=
  let t := bTyp h
  if t = 1 then true
  else
    match FMap.find s.sessions (bDsid h) with
    | none => false
    | some x =>
      takes x t && (x.kind == 3) == mgmt && (x.st == 0 || bSsid h == x.peer)
        && (t == 2 || t == 5 || fld h 255 248 == 0x10 + x.vmin) && (decide (t < 8) || (carries x.kind (bChan h) t && chanOk x.kind (bChan h)))

/-- R351 obj 0x6010:10, :11 for an Ethernet port. -/
def countPort (s : State) (p el : Nat) : State := if p < 48 then addObj s 0x6010 el 1 p else s

/-- R378, R380: GEPOCH of a frame on an open group session: the present epoch and the frame's, where they differ. -/
def epochOff (s : State) (h : Nat) : Option (Nat × Nat) :=
  let x := session s (bDsid h)
  if x.st = 2 ∧ x.kind = 2 ∧ x.group ≠ 0 ∧ 6 ≤ bTyp h ∧ (group s x.lpart).epoch ≠ bGepoch h then some ((group s x.lpart).epoch, bGepoch h) else none

/-- FRAME_RECEIVE (R350, R353, R357, R380): a frame arrives at a port, 48 and 49 the management ports, with the bytes of its Broler frame. -/
def execFrameReceive (p : Nat) (e : Envelope) (bs : List Byte) (s : State) : Host.Outcome State Fault Refusal :=
  if 50 ≤ p then .fault .noSuchUnit
  else if !portRuns s p then .next s
  else
    let s := countPort s p 10
    let h := leNat (bs.take 32)
    if !envelopeOk s p e || !brolerOk bs || !sessionOk s h (decide (48 ≤ p)) || !encapOk s h e || decide (524288 < buffered s p e.pri + e.len) then .next (countPort s p 11)
    else
      let f : RxFrame := { port := p, pri := e.pri, len := e.len, udp := e.etherType == 0x86DD, addr := e.addr, hdr := h
                           payload := (bs.drop 32).take (bs.length - 36) }
      let x := session s (bDsid h)
      match epochOff s h with
      | some (own, got) =>
        if got < own then .next (sendFrame s p 5 (bDsid h) x.peer 0x0505 (leBytes 2 own))
        else .next (flowControl { learnEpoch s x.lpart x.rank got with rx := s.rx ++ [f] } p e.pri)
      | none => .next (flowControl { s with rx := s.rx ++ [f] } p e.pri)

/-- A Broler row takes the oldest frame received, if it has the row's type; the session's port and address follow its newest frame (R351). -/
def takeFrame (s : State) (typ : Nat) (f : RxFrame → State → State) : Host.Outcome State Fault Refusal :=
  match s.rx with
  | [] => .next s
  | x :: t =>
    if bTyp x.hdr ≠ typ then .next s
    else
      let s := flowControl { s with rx := t } x.port x.pri
      let n := bDsid x.hdr
      if typ = 1 then .next (f x s)
      else if !takes (session s n) typ then .next s
      else .next (f x (updSession s n fun y => { y with port := x.port, lastRx := nowNs s, addr := if y.kind = 2 then y.addr else x.addr }))

end Sys2Proof.Machine
end

