-- ==== Sys2Proof/Machine/Sessions.lean ====
section
/-! DEFINITION. Sessions: opening, closing, loss (R358–R361, R394–R396), acknowledgement and retransmission (R362, R363). Each BROLER row takes
the oldest frame received. -/
namespace Sys2Proof.Machine

/-! ### Credentials and the proof (R395, R396) -/

/-- R396: the rights record of an entry, and its key where one has been written. -/
def credRights (s : State) (n : Nat) : Nat := objD (2 ^ 120) s 0x2020 n
def credKey (s : State) (n : Nat) : Option (List Byte) := (FMap.find s.dict (objKey 0x2021 n 0)).map (leBytes 32)

/-- R396: an entry may be used for a session kind. -/
def credOk (s : State) (n kind : Nat) : Bool :=
  decide (1 ≤ n) && decide (n ≤ 64) && bitAt (credRights s n) 119 && bitAt (credRights s n) (111 + (if kind = 3 then 3 else if kind = 1 then 2 else 1))
    && (credKey s n).isSome

/-- R395: the 63 bytes that the proof covers. -/
def proofMessage (x : Session) (initiator responder : Nat) : List Byte :=
  x.open_ ++ leBytes 1 (16 + x.vmin) ++ x.nonce ++ leBytes 2 initiator ++ leBytes 2 responder ++ leBytes 2 0

/-- R360: an OPEN is refused, in its own encapsulation and from no session. -/
def refuseOpen (s : State) (f : RxFrame) (reason : Nat) : State :=
  { s with out := .frame (wire s f.port f.udp f.addr 0 (bSsid f.hdr) 5 0 0 reason 0 false false) [] :: s.out }

/-! ### Sessions end (R361, R378) -/

/-- R359, R373: a rank that opens a link session opens it again while its partition needs it. -/
def reopen (s : State) (x : Session) : State :=
  if x.kind == 2 && x.opener && x.group != 0 && ((part s x.lpart).enable || (part s x.lpart).check.isSome) then openLinks s x.lpart else s

/-- A session reaches CLOSED, with what a group's link session takes with it. -/
def endSession (s : State) (ses : Nat) : State :=
  let x := session s ses
  let s := closeSession s ses
  let s := if x.kind == 2 && x.group != 0 && decide (2 ≤ x.st) && inGroup s x.lpart && (rankSession s x.lpart x.rank).isNone then rankLost s x.lpart x.rank else s
  reopen s x

/-! ### Opening (R358–R360, R395) -/

/-- The fields of the 40 bytes of an OPEN. -/
def openKind (b : List Byte) : Nat := leNat ((b.drop 1).take 1)
def openCred (b : List Byte) : Nat := leNat ((b.drop 2).take 2)
def openField (b : List Byte) (at_ n : Nat) : Nat := leNat ((b.drop at_).take n)

/-- R359, R394: the OPEN is well formed for the port it came to. -/
def openOk (b : List Byte) (ssid dsid : Nat) (mgmt : Bool) : Bool :=
  let k := openKind b
  b.length == 40 && decide (1 ≤ k) && decide (k ≤ 3) && (k == 3) == mgmt && ssid != 0 && dsid == 0
    && openField b 4 4 == 0 && openField b 27 5 == 0 && openField b 36 4 == 0
    && (k == 2 || (openField b 24 3 == 0 && openField b 32 4 == 0))

/-- R360, R373: a link OPEN matches the local configuration: group, partitions, rank and the module identity that the peer reports. -/
def linkOpenOk (s : State) (b : List Byte) (peerId : Nat) : Bool :=
  let lp := openField b 24 1
  let p := openField b 25 1
  let r := openField b 26 1
  let gid := openField b 32 4
  decide (p < 16) && lp == p && gid == govD 0 s p (pidx 0x63 p) 1 && (part s p).st != .free &&
    (gid == 0 || (decide (r < groupSize s p) && decide (r < ownRank s p) && fld (peerEntry s p r) 255 192 == peerId
      && !(s.sessions.any fun e => e.2.kind == 2 && decide (1 ≤ e.2.st) && decide (e.2.st ≤ 2) && e.2.lpart == p && e.2.rank == r)))

/-- R360: why an OPEN is refused. -/
def openRefusal (s : State) (b : List Byte) (ssid dsid : Nat) (mgmt : Bool) (peerId : Nat) : Option Nat :=
  if 1 ≤ b.length ∧ openField b 0 1 / 16 ≠ 1 then some 0x0803
  else if 64 ≤ (counted s).length then some 0x0302
  else if !openOk b ssid dsid mgmt then some 0x0124
  else if openKind b = 2 ∧ linkOpenOk s b peerId = false then some 0x0506
  else none

/-- BROLER_OPEN (R359, R360): answered with CHALLENGE, or with REFUSE. `peerId` is the module identity that a link's peer reports. -/
def execBrolerOpen (peerId : Nat) (s : State) : Host.Outcome State Fault Refusal :=
  takeFrame s 1 fun f s =>
    let b := f.payload
    let peer := bSsid f.hdr
    match openRefusal s b peer (bDsid f.hdr) (decide (48 ≤ f.port)) peerId with
    | some r => refuseOpen s f r
    | none =>
      let id := freeId s
      let v := Nat.min (openField b 0 1 % 16) 1
      let nonce := Config.nonce s.refTicks id
      let k := openKind b
      let x : Session := { st := 1, kind := k, cred := openCred b, peer := peer, vmin := v, port := f.port, udp := f.udp, addr := f.addr, open_ := b
                           nonce := nonce, openedAt := nowNs s, lastRx := nowNs s, lastTx := nowNs s }
      let x := if k = 2 then { x with lpart := openField b 25 1, rpart := openField b 24 1, rank := openField b 26 1, group := openField b 32 4 } else x
      sendFrame (setSession s id x) f.port 2 id peer 0 (leBytes 1 (16 + v) ++ nonce)

/-- BROLER_CHALLENGE (R359, R395): this module, the initiator, answers with its proof. -/
def execBrolerChallenge (s : State) : Host.Outcome State Fault Refusal :=
  takeFrame s 2 fun f s =>
    let id := bDsid f.hdr
    let v := openField f.payload 0 1
    if f.payload.length ≠ 17 ∨ v / 16 ≠ 1 ∨ 1 < v % 16 then s
    else
      let x := { session s id with st := 1, peer := bSsid f.hdr, vmin := v % 16, nonce := f.payload.drop 1 }
      let key := (credKey s x.cred).getD []
      sendFrame (setSession s id x) f.port 3 id x.peer 0 (hmac256 key (proofMessage x id x.peer))

/-- R182: debug records that wait are sent to a session that has opened with READ. -/
def sendDebugs (s : State) (ses : Nat) : State :=
  ((List.range 16).filter (hasRead s ses)).foldl (fun s p =>
    let q := FMap.get [] s.debugQ p
    if q.isEmpty then s
    else flushDebug { s with debugQ := FMap.set s.debugQ p (q.map fun r => { r with toSend := r.toSend ++ [ses] }) } p 256) s

/-- R374, R378: a link session has opened: a member that waits to join sends JOIN, and a master counts the rank as live. -/
def linkOpened (s : State) (ses : Nat) : State :=
  let x := session s ses
  if x.kind ≠ 2 ∨ x.group = 0 then s
  else if isMaster s x.lpart then masterSettle s x.lpart
  else if isMember s x.lpart && (group s x.lpart).master == x.rank && ((part s x.lpart).enable || (group s x.lpart).joinAt.isSome) then sendJoin s x.lpart
  else s

/-- BROLER_PROVE (R359, R360, R395, R396): an exact proof opens the session with ACCEPT. -/
def execBrolerProve (s : State) : Host.Outcome State Fault Refusal :=
  takeFrame s 3 fun f s =>
    let id := bDsid f.hdr
    let x := session s id
    if credOk s x.cred x.kind && f.payload == hmac256 ((credKey s x.cred).getD []) (proofMessage x x.peer id) then
      let x := { x with st := 2, rights := if x.kind = 2 then 0 else credRights s x.cred, lastTx := nowNs s }
      let body := if x.kind = 2 then leBytes 2 (group s x.lpart).epoch else leBytes 6 (fld x.rights 111 64)
      let s := sendFrame (setSession s id x) f.port 4 id x.peer 0 (leBytes 2 id ++ body)
      if x.kind = 2 then linkOpened s id else sendDebugs s id
    else closeSession (sendFrame s f.port 5 id x.peer 0x0213 []) id

/-- BROLER_ACCEPT (R359, R373, R380): the session that this module asked for opens; a peer of another identity than the table's is refused. -/
def execBrolerAccept (peerId : Nat) (s : State) : Host.Outcome State Fault Refusal :=
  takeFrame s 4 fun f s =>
    let id := bDsid f.hdr
    let x := session s id
    if x.group ≠ 0 ∧ fld (peerEntry s x.lpart x.rank) 255 192 ≠ peerId then closeSession (sendFrame s f.port 5 id x.peer 0x0506 []) id
    else
      let s := setSession s id { x with st := 2, lastTx := nowNs s }
      let e := openField f.payload 2 2
      let s := if x.group ≠ 0 ∧ (group s x.lpart).epoch < e then learnEpoch s x.lpart x.rank e else s
      linkOpened s id

/-- BROLER_REFUSE (R360, R380): an attempt ends; RC_GROUP_EPOCH on an open session reveals a higher group epoch. -/
def execBrolerRefuse (s : State) : Host.Outcome State Fault Refusal :=
  takeFrame s 5 fun f s =>
    let id := bDsid f.hdr
    let x := session s id
    if x.st < 2 then closeSession s id
    else
      let e := openField f.payload 0 2
      if bReason f.hdr = 0x0505 ∧ x.group ≠ 0 ∧ (group s x.lpart).epoch < e then learnEpoch s x.lpart x.rank e else s

/-- PROVE_TIMEOUT (R360): no PROVE within 100 ms. -/
def execProveTimeout (ses : Nat) (s : State) : Host.Outcome State Fault Refusal :=
  let x := session s ses
  if x.st = 1 ∧ x.opener = false ∧ x.openedAt + 100000000 ≤ nowNs s then .next (closeSession s ses) else .next s

/-! ### Closing (R360, R361) -/

/-- R360: the session is CLOSING. -/
def startClosing (s : State) (ses : Nat) : State := updSession s ses fun x => { x with st := 3, closeAt := nowNs s }

/-- R504: this module closes a session. -/
def sendClose (s : State) (ses : Nat) : State :=
  match sendPort s ses with
  | none => startClosing s ses
  | some p => startClosing (sendFrame s p 6 ses (session s ses).peer 0 []) ses

/-- BROLER_CLOSE (R360). -/
def execBrolerClose (s : State) : Host.Outcome State Fault Refusal :=
  takeFrame s 6 fun f s => if (session s (bDsid f.hdr)).st = 2 then startClosing s (bDsid f.hdr) else s

/-- CLOSING_DONE (R360, R361): every segment sent has been acknowledged, or 100 ms has passed. -/
def execClosingDone (ses : Nat) (s : State) : Host.Outcome State Fault Refusal :=
  let x := session s ses
  if x.st = 3 ∧ ((x.chans.all fun c => c.2.segs.isEmpty) ∨ x.closeAt + 100000000 ≤ nowNs s) then .next (endSession s ses) else .next s

/-! ### Liveness (R363) -/

/-- BROLER_KEEPALIVE (R363): it refreshes the loss timer. -/
def execBrolerKeepalive (s : State) : Host.Outcome State Fault Refusal := takeFrame s 7 fun _ s => s

/-- R363: keepalive period and loss time of a session, ns. -/
def keepalivePeriod (s : State) (x : Session) : Nat :=
  if x.kind = 2 ∧ x.group ≠ 0 then objD 1000 s (pidx 0x63 x.lpart) 8 * 1000 else objD 10 s 0x6000 6 * 1000000
def lossTime (s : State) (x : Session) : Nat :=
  (if x.kind = 2 ∧ x.group ≠ 0 then objD 20 s (pidx 0x63 x.lpart) 9 else objD 100 s 0x6000 7) * 1000000

/-- KEEPALIVE_SEND (R363): an idle end sends KEEPALIVE at the keepalive period. -/
def execKeepaliveSend (ses : Nat) (s : State) : Host.Outcome State Fault Refusal :=
  let x := session s ses
  match sendPort s ses with
  | none => .next s
  | some p =>
    if x.st = 2 ∧ x.lastTx + keepalivePeriod s x ≤ nowNs s then
      .next (sendFrame (setSession s ses { x with lastTx := nowNs s }) p 7 ses x.peer 0 [])
    else .next s

/-- SESSION_LOSS (R361, R363): no frame for the loss time, or 12 expiries in succession. -/
def execSessionLoss (ses : Nat) (s : State) : Host.Outcome State Fault Refusal :=
  match FMap.find s.sessions ses with
  | none => .next s
  | some x =>
    if (x.st = 2 ∨ x.opener = true) ∧ x.st ≠ 3 ∧ (x.lastRx + lossTime s x ≤ nowNs s ∨ x.chans.any fun c => decide (12 ≤ c.2.expiries)) then .next (endSession s ses)
    else .next s

/-! ### Acknowledgement (R362, R363) -/

/-- The ranges that a list of numbers in ascending order makes: first and last of each run. -/
def runsOf : List Nat → List (Nat × Nat)
  | [] => []
  | a :: t => match runsOf t with
    | (b, c) :: r => if b = (a + 1) % 2 ^ 32 then (a, c) :: r else (a, a) :: (b, c) :: r
    | [] => [(a, a)]

/-- R362, R363: an ACKF for a channel, with up to 8 ranges received beyond ACK from version 1.1. -/
def sendAck (s : State) (ses c : Nat) : State :=
  match sendPort s ses with
  | none => s
  | some p =>
    let x := chan s ses c
    let rs := if (session s ses).vmin = 0 then [] else (runsOf (x.held.map (·.1))).take 8
    let s := updSession (setChan s ses c { x with due := 0 }) ses fun y => { y with lastTx := nowNs s }
    let y := session s ses
    { s with out := .ackf ses c (wire s p y.udp y.addr ses y.peer 8 c 0 0 (8 * rs.length) false false) rs :: s.out }

/-- ACK_DELAY (R362): 2 µs have passed since a segment arrived that is not yet acknowledged. -/
def execAckDelay (ses c : Nat) (s : State) : Host.Outcome State Fault Refusal :=
  let x := chan s ses c
  if 2 ≤ (session s ses).st ∧ 0 < x.due ∧ x.dueAt + 2000 ≤ nowNs s then .next (sendAck s ses c) else .next s

/-- The ranges of an ACKF: 8 bytes each, first and last sequence number. -/
def ackRanges (b : List Byte) : List (Nat × Nat) :=
  (List.range (Nat.min 8 (b.length / 8))).map fun i => (openField b (8 * i) 4, openField b (8 * i + 4) 4)

/-- BROLER_ACKF (R362, R363). -/
def execBrolerAckf (s : State) : Host.Outcome State Fault Refusal :=
  takeFrame s 8 fun f s =>
    let id := bDsid f.hdr
    let c := bChan f.hdr
    let sel := (session s id).vmin == 1
    let s := ackRx s id c (bAck f.hdr) (bCredit f.hdr) (if sel then ackRanges f.payload else [])
    if sel then resendMissing s id c else s

/-- R363: the retransmission interval after a number of expiries, ns. -/
def retransmitAfter (s : State) (n : Nat) : Nat := Nat.min 8000000 (objD 40 s 0x6000 5 * 1000 * 2 ^ n)

/-- RETRANSMIT_TIMEOUT (R363): the timer of a channel's oldest segment expires: what is unacknowledged is sent again and the timer doubles;
the twelfth expiry in succession loses the session. -/
def execRetransmitTimeout (ses c : Nat) (s : State) : Host.Outcome State Fault Refusal :=
  let x := chan s ses c
  match x.timerAt with
  | none => .next s
  | some t =>
    if (session s ses).st < 2 ∨ nowNs s < t + retransmitAfter s x.expiries then .next s
    else if 12 ≤ x.expiries + 1 then .next (endSession s ses)
    else
      let l := x.segs.filter fun g => serLt g.seq x.txSent && !(g.got && (session s ses).vmin == 1)
      let s := setChan s ses c { x with expiries := x.expiries + 1, timerAt := some (nowNs s) }
      if mayTransmit s ses c then
        let s := updSession s ses fun y => { y with resent := y.resent + l.length, lastTx := nowNs s }
        .next (sendSegs s ses c l)
      else .next s

end Sys2Proof.Machine
end

