-- ==== Sys2Proof/Machine/PowerDown.lean ====
section
/-! DEFINITION. What the wafer's power-down takes with it, how the cards boot, and Sheepdog's wakes (R32, R55, R85, R87, R88, R390, R428,
R499, R506–R513). -/
namespace Sys2Proof.Machine

/-! ### The wafer goes off (R32, R55, R499) -/

/-- R55, R70: a bank after the power-down: the tables that are committed stand, and the tile's table store is empty. Banks that were programmed
for a load are dealt with by `unloadBanks`. -/
def bankOff (b : Bank) : Bank :=
  let b := { b with op := .none, calInPlace := false, fitting := false, plan := 0, newTable := false, cur := none }
  match b.st with
  | .programming => { b with st := .invalid }
  | .calibrating => { b with st := b.prior }
  | .swapArmed => { b with st := .standby }
  | _ => b

/-- R32, R55, R272: the banks that a job has programmed belong to no partition: those whose programming was cut are INVALID, the others return
EMPTY. -/
def unloadBanks (s : State) : State :=
  match s.jobs with
  | [] => s
  | j :: _ =>
    if !j.begun then s
    else
      let ks := j.work.flatMap fun w => (placedBanks w).filter fun k => !w.todo.contains k
      ks.foldl (fun s k => if (bankOf s k).st = .invalid then s else unbind s k) s

/-- R32: the partition state that a restore returns. -/
def PState.afterOff : PState → PState
  | .free => .free | .loading => .free | .loaded => .loaded | .disabling => .loaded | .faulted => .faulted
  | _ => .idle

/-- R32, R272, R499: a partition after the power-down: its placement, its enable bit and its marker stand; one that was being re-placed, of `busy`, is
FAULTED on its old record. -/
def partDown (busy : List Nat) (s : State) (p : Nat) : State :=
  let x := part s p
  if x.st = .loading then setPState (setPart s p {}) p .free
  else setPState (setPart s p { enable := x.enable, place := x.place, saved := x.saved, lostSeqs := liveCount s p }) p
    (if busy.contains p then .faulted else x.st.afterOff)

/-- R272: partitions that are being re-placed. -/
def replacedParts (s : State) : List Nat := (s.jobs.filter fun j => j.begun && !j.isLoad).map (·.part)

/-- R365, R503: windows are CLOSED at their epochs. -/
def windowsOff (s : State) : State := { s with windows := s.windows.map fun e => (e.1, { e.2 with st := 0 }) }

/-- R84: no block supplies VLOG. -/
def allOff (s : State) : State := ((s.pwrSince).map (·.1)).foldl vlogOff s

/-- R351: every Ethernet link is down. -/
def portsOff (s : State) : State :=
  (List.range 48).foldl (fun s p => if (port s p).link then portCond (setPort s p { port s p with link := false, gateway := none, paused := [], xoff := [] }) p else s) s

/-- R436: the bricks stop; those in SERVICE start again at the next power-on. -/
def bricksOff (s : State) : State :=
  (List.range 5).foldl (fun s b => if (brick s b).st = 2 then brickTo s b 1 true else s) s

/-- R458: the regions' own states end with the power. -/
def spotsOff (s : State) : State :=
  { s with heatOff := [], spots := s.spots.map fun e => (e.1, { e.2 with off := 0, coolAt := none, k := 8, ft := 64, f := 64 }) }

/-- R499: what is volatile in the wafer, HBM and links is gone. -/
def wipe (s : State) : State :=
  { s with
    queues := [], cancelWait := [], replyQ := [], debugQ := [], sync := [], seqs := [], kvSets := [], ringTags := [], fills := [], staged := []
    sp := [], spErr := [], acc := [], accTag := [], accPend := [], accErr := [], hbm := [], hbmErr := []
    tiles := [], flights := [], rflights := [], rslots := [], captures := [], capLatch := [], checkCount := [], retries := [], lostAt := []
    inWrites := [], outWrites := [], announced := [], exports := [], groups := [], rx := s.rx.filter fun f => decide (48 ≤ f.port)
    stackSt := s.stackSt.map fun e => (e.1, { e.2 with cap := 0 }), coolant := { s.coolant with st := 0 }
    gov := { s.gov with fm := (1, 1), samples := [] }
    life := { s.life with step := 0, stop := 0, saving := [], refresh := false, offAt := ageNs s } }

/-- R422: a mode record that had not reached DONE is lost with the cards' memory. -/
def modeBoot (s : State) : State := if s.modeRec.st = 4 then s else setCond { s with modeRec := {} } 448 false

/-- R418, R499: a mode record that is not DONE is dropped. -/
def modeLost (s : State) : State := if s.modeRec.st = 1 ∨ s.modeRec.st = 2 ∨ s.modeRec.st = 3 then { s with modeRec := {} } else s

/-- R55, R499: banks without power: operations end, and the banks of a placement that was not committed are released. -/
def banksOff (s : State) : State :=
  let s := loseTests s
  let s := unloadBanks { s with banks := s.banks.map fun e => (e.1, bankOff e.2) }
  { s with vpgmWait := [], jobs := [] }

/-- R499: the wafer, HBM and links lose power: everything volatile in them is lost. -/
def waferOff (s : State) : State :=
  wipe (modeLost (spotsOff (bricksOff (portsOff (allOff (windowsOff ((List.range 16).foldl (partDown (replacedParts s)) (banksOff s))))))))

/-! ### The cards boot (R85, R390, R428, R499, R513) -/

/-- R422, R463, R488: values that are read only and that outlive the power: the POWER mode, and counts since manufacture. -/
def lasting (idx el : Nat) : Bool :=
  (idx == 0x4000 && el == 1) || (idx == 0x4020 && el == 10) || (idx == 0x7030 && decide (6 ≤ el) && decide (el ≤ 8))

/-- R389, R390, R422, R499: what the dictionary keeps: persistent values, RWE values in force, and the values of `lasting`. -/
def keptValues (d : FMap Nat) : FMap Nat :=
  d.filter fun e => lasting (e.1 / 65536 / 256) (e.1 / 65536 % 256) || match objDesc (e.1 / 65536 / 256) (e.1 / 65536 % 256) with
    | none => false
    | some x => objPersists (e.1 / 65536 / 256) (e.1 / 65536 % 256) x

/-- R428: a source as the retention registers restore it; a level-sensed source is judged afresh. -/
def evRestore (s : State) (n : Nat) (e : EvSrc) : EvSrc :=
  let st := if e.st = 0 then 0 else 1
  let st := if st = 1 && evSense s n == 0 && !e.raw then 0 else st
  { raw := e.raw, st := st, overrun := e.overrun, edge := e.edge, target := evTarget s n }

/-- R428, R429: every source on the wake. -/
def eventsBoot (s : State) : State :=
  let valid := s.life.retention
  { s with
    events := s.events.map fun e => if valid then (e.1, evRestore s e.1 e.2) else (e.1, { raw := e.2.raw, target := evTarget s e.1 })
    life := { s.life with retained := valid, retention := false } }

/-- R513: the cards elect roles: the first whose control plane runs is ACTIVE; a tie goes to card 0. -/
def cardRuns (x : Card) : Bool := !x.dead && (x.st == 0 || x.st == 1 || x.st == 3)
def electCards (s : State) : State :=
  let s := [0, 1].foldl (fun s c => if cardRuns (card s c) then setCard s c { card s c with st := 1 } else s) s
  match [0, 1].find? fun c => (card s c).st == 1 with
  | none => s
  | some c => setCard s c { card s c with st := 0 }

/-- R520, R522: a slot runs the package's copy; and its old copy again. -/
def fwSwitch (f : Fw) (slot : Nat) : Fw :=
  { f with run := FMap.set f.run slot f.release, other := FMap.set f.other slot (FMap.get 0 f.run slot), switched := slot :: f.switched }
def fwUnswitch (f : Fw) (slot : Nat) : Fw :=
  { f with run := FMap.set f.run slot (FMap.get 0 f.other slot), other := FMap.set f.other slot f.release, switched := f.switched.filter (· != slot) }

/-- R519, R521: the settings return to the store that the update froze. -/
def restoreSettings (s : State) : State :=
  let s := match s.fw.frozen with
    | none => s
    | some d =>
      let rest : FMap Nat := s.dict.filter fun e => (FMap.find (keptValues s.dict) e.1).isNone
      { s with dict := d.foldl (fun (m : FMap Nat) (e : Nat × Nat) => FMap.set m e.1 e.2) rest }
  { s with fw := { s.fw with frozen := none, dict := s.fw.oldDict } }

/-- R515, R523: the brick that slot 7 held PREPARED starts again. -/
def fwRelease (s : State) : State :=
  match s.fw.held with
  | none => s
  | some b => brickUnprepare { s with fw := { s.fw with held := none } } b

/-- R519, R523: an update at a boot: a package not yet activated is discarded, an activation goes on as PENDING, a rollback is done; slots
that were pending for the next power-on take effect. Slots already switched stand, slot 2 with its settings (R521, R523). -/
def fwBoot (s : State) : State :=
  let s := fwRelease s
  let f := { s.fw.boot.foldl fwSwitch s.fw with boot := [] }
  match f.st with
  | 1 => { s with fw := { f with st := 0, len := 0, bytes := [], ranges := [] } }
  | 2 => { s with fw := { f with st := 0, len := 0, bytes := [], ranges := [] } }
  | 3 => { s with fw := { f with st := 4, todo := [], pendingAt := ageNs s } }
  | 5 =>
    let s := { s with fw := { f with st := 0, todo := [], switched := [] } }
    if f.todo.contains 2 then { s with fw := { s.fw with frozen := none, oldDict := f.dict } } else restoreSettings s
  | _ => { s with fw := f }

/-- R87: the time of the last shutdown on the real-time clock, s: the newest shutdown stamp's, or without one that of the newest record; 0
where none is known. -/
def shutdownTime (s : State) : Nat :=
  let l := s.kennel.gathering ++ s.kennel.ring
  match (if s.life.stampDue then l.head? else l.find? fun r => r.typ == 11) with
  | none => 0
  | some r => r.rtc

/-- R87, R525: the unpowered interval in seconds; all ones where the clock was not valid. -/
def unpowered (s : State) : Nat :=
  let t := shutdownTime s
  if s.rtcValid && t != 0 then rtcNow s - t else 0xFFFFFFFFFFFFFFFF

/-- R87: retention in seconds for a storage temperature in 1/16 °C; above 70 °C none is stated, and the model takes it as passed. -/
def retentionSec (t : Int) : Nat :=
  if t ≤ 640 then 94672800 else if t ≤ 800 then 31557600 else if t ≤ 960 then 10368000 else if t ≤ 1120 then 3456000 else 0

/-- R492, R507: after a power loss the next power-on reports it with the commits completed after the declaration. -/
def lossCause (s : State) : State :=
  if s.life.loss then
    let n := s.life.commits
    raiseRc { s with life := { s.life with loss := false, stampDue := false, commits := 0 } } 5 0x0606 none 0 0 n
  else s

/-- R497, R499, R510, R513: the cards boot on a wake from STANDBY, into a power state: what they held only in memory restarts, and the causes that
Sheepdog holds are raised. -/
def cardBoot (s : State) (goal : Power) : State :=
  let held := s.life.held
  let iv := unpowered s
  let s := { s with
    power := goal, onTick := s.refTicks, attn := {}, dict := keptValues s.dict, pend := [], sessions := [], closed := [], uploads := [], rx := []
    verdicts := [], capNo := 0, replyNo := 0, nextTag := 0
    gov := { s.gov with energy := 0, below := 0 }
    life := { s.life with held := [], interval := iv, intervalAt := ageNs s, lastHot := s.life.hottest.getD 640, idleAt := ageNs s } }
  let s := closeEntries (electCards (fwBoot (eventsBoot (modeBoot s))))
  let s := held.foldl raise s
  lossCause s

/-! ### Wakes (R510, R511) -/

/-- R511: a wake to READY that finds the gate shut. -/
def blocked (s : State) (retention : Bool) : State :=
  raiseRc { s with power := .attended, life := { s.life with wake := some (ageNs s, retention), step := 0, idleAt := ageNs s } } 3 0x0614

/-- R497, R510, R511: the module wakes from STANDBY, to READY or to ATTENDED. -/
def wake (s : State) (toReady retention : Bool) : State :=
  if toReady then
    match gateFails s with
    | none => enterStarting (cardBoot s .starting) 2
    | some _ => blocked (cardBoot s .attended) retention
  else cardBoot s .attended

/-- R510 obj 0x4050:2: the wake's target is READY. -/
def targetReady (s : State) : Bool := objD 2 s 0x4050 2 == 4

/-- R511: the wafer is powered only while the gate is open: one that shuts during the power-on order ends it. -/
def gateWatch (s : State) : State :=
  if s.power = .starting ∧ (gateFails s).isSome then
    let r := s.life.refresh
    blocked (waferOff s) r
  else s

/-- WAKE_EVENT (R428, R510): source `n`, with WAKE set, has become PENDING while the cards sleep. -/
def execWakeEvent (n : Nat) (s : State) : Host.Outcome State Fault Refusal :=
  if 512 ≤ n then .fault .noSuchUnit
  else if s.power = .standby ∧ watched n = true ∧ evWake s n = true ∧ (evSrc s n).st = 1 then .next (wake s (targetReady s) false) else .next s

/-- SCHEDULED_WAKE (R510): the real-time clock reaches obj 0x4050:3, which is cleared. -/
def execScheduledWake (s : State) : Host.Outcome State Fault Refusal :=
  let t := objD 0 s 0x4050 3
  if s.power = .standby ∧ t ≠ 0 ∧ s.rtcValid = true ∧ t ≤ rtcNow s then .next (wake (setObj s 0x4050 3 0) (targetReady s) false) else .next s

/-- MGMT_OPEN_WAKE (R510): an OPEN arrives at management port `m`; it is not answered. -/
def execMgmtOpenWake (m : Nat) (s : State) : Host.Outcome State Fault Refusal :=
  if 2 ≤ m then .fault .noSuchUnit
  else if s.power = .standby ∧ portUp s (48 + m) = true ∧ objD 1 s 0x4050 4 = 1 then .next (wake s false false) else .next s

/-- R88: seconds after which a retention wake is due: the margin of obj 0x2300:12, in percent, of the retention time. -/
def retentionDue (s : State) : Nat := retentionSec (s.life.hottest.getD 640) * objD 50 s 0x2300 12 / 100

/-- RETENTION_WAKE (R88, R510): in standby, under the maintenance policy, the unpowered interval reaches its margin: a wake to READY for the refresh
of every resident bank. -/
def execRetentionWake (s : State) : Host.Outcome State Fault Refusal :=
  if s.power = .standby ∧ objD 1 s 0x2300 1 = 1 ∧ s.life.wake.isNone ∧ s.life.offAt + retentionDue s * 1000000000 ≤ ageNs s then
    let s := wake s true true
    .next (raise { s with life := { s.life with refresh := true } } { sev := 2, cls := 7 })
  else .next s

/-- R511: the wake that waits is still in time. -/
def wakeInTime (s : State) (t : Nat) : Bool := decide (ageNs s < t + objD 3600 s 0x4050 6 * 1000000000)

/-- WAKE_GATE_OPEN (R508, R511): the gate opens for a wake that waits. -/
def execWakeGateOpen (s : State) : Host.Outcome State Fault Refusal :=
  match s.life.wake with
  | none => .next s
  | some w =>
    if (gateFails s).isSome || !wakeInTime s w.1 then .next s
    else if s.power = .attended then .next (enterStarting { s with life := { s.life with refresh := w.2 } } 3)
    else if s.power = .standby then .next (enterStarting (cardBoot { s with life := { s.life with refresh := w.2 } } .starting) 2)
    else .next s

/-- WAKE_GATE_TIMEOUT (R511): the wake that waits is dropped; a retention wake that is dropped raises a cause. -/
def execWakeGateTimeout (s : State) : Host.Outcome State Fault Refusal :=
  match s.life.wake with
  | none => .next s
  | some w =>
    if wakeInTime s w.1 then .next s
    else
      let s := { s with life := { s.life with wake := none, refresh := false } }
      .next (if w.2 then raise s { sev := 4, cls := 7 } else s)

/-- ATTENDED_IDLE_TIMEOUT (R497): 600 s in ATTENDED with no open session. -/
def execAttendedIdleTimeout (s : State) : Host.Outcome State Fault Refusal :=
  if s.power = .attended ∧ s.sessions.any (fun e => e.2.st == 2) = false ∧ s.life.idleAt + 600000000000 ≤ ageNs s then .next (enterStandby s) else .next s

/-- R508: the restart policy after a power loss: a wake to READY once the gate holds. -/
def restartWake (s : State) : State :=
  if s.power = .standby ∧ s.life.loss = true ∧ objD 1 s 0x4040 3 = 1 then
    match gateFails s with
    | none => wake s true false
    | some _ => { s with life := { s.life with wake := some (ageNs s, false) } }
  else s

/-! ### Feeds and the standby rail (R434, R497, R508) -/

/-- FEED_USABLE (R434, R508): a feed has stayed within 640–940 V for 100 ms. -/
def execFeedUsable (f : Nat) (s : State) : Host.Outcome State Fault Refusal :=
  if 2 ≤ f then .fault .noSuchUnit
  else
    match (feed s f).bandAt with
    | none => .next s
    | some t =>
      if (feed s f).usable = true ∨ ageNs s < t + 100000000 then .next s
      else .next (restartWake (moveFeeds (setFeed s f { feed s f with usable := true, usableAt := some (ageNs s) })))

/-- STANDBY_SUPPLY_APPEAR (R497): the 12 V standby supply appears: Sheepdog starts. -/
def execStandbySupplyAppear (s : State) : Host.Outcome State Fault Refusal :=
  if s.power = .off ∧ ((feed s 0).usable || (feed s 1).usable) = true then .next (restartWake { s with power := .standby }) else .next s

end Sys2Proof.Machine
end

