-- ==== Sys2Proof/Machine/PowerOn.lean ====
section
/-! DEFINITION. The power-on order (R500–R503), the restore of partitions (R32, R503, R505), and link dies that fail or return (R231). -/
namespace Sys2Proof.Machine

/-! ### Link dies (R231) -/

/-- R231: a partition whose hub has gone out of service moves to its standby hub; one with neither receives no launch. -/
def moveHub (s : State) (p : Nat) : State :=
  match (part s p).place.standby with
  | some h => updPart s p fun x => { x with place := hubToStandby x.place h }
  | none => raiseRc (updPart s p fun x => { x with noHub := true }) 4 0x0705 (some p)

/-- R231: what the loss of link die `l` does to one partition: a step that has not committed is discarded. -/
def hubLost (l : Nat) (s : State) (p : Nat) : State :=
  let pl := (part s p).place
  if (part s p).st = .free then s
  else if pl.hub = l then
    let s := match stepOf s p with
      | some r => if r.committed then s else engineFault s p 0x0705
      | none => s
    if (part s p).noHub then s else moveHub s p
  else if pl.standby = some l then updPart s p fun x => { x with place := fillNotices { x.place with standby := none } }
  else s

/-- R231, R351, R423: a link die goes out of service: its twelve ports, and the partitions that it serves. -/
def linkDieDown (s : State) (l : Nat) : State :=
  let s := setCond { s with ldDown := l :: s.ldDown } (410 + l) true
  let s := (List.range 12).foldl (fun s i => linkChange s (12 * l + i) false) s
  (List.range 16).foldl (hubLost l) s

/-- R231: a link die returns: it serves the partitions that have no hub, and is the standby hub of those that lack one. -/
def linkDieBack (s : State) (l : Nat) : State :=
  let s := setCond { s with ldDown := s.ldDown.filter (· != l) } (410 + l) false
  (List.range 16).foldl (fun s p =>
    let x := part s p
    if x.st = .free then s
    else if x.noHub then updPart s p fun x => { x with noHub := false, place := fillNotices { x.place with hub := l } }
    else if x.place.standby.isNone && x.place.hub != l then updPart s p fun x => { x with place := fillNotices { x.place with standby := some l } }
    else s) s

/-- HUB_LINK_DIE_FAIL (R231): link die `l` fails. -/
def execHubLinkDieFail (l : Nat) (s : State) : Host.Outcome State Fault Refusal :=
  if 4 ≤ l then .fault .noSuchUnit
  else if s.ldDown.contains l then .next s
  else
    let s := linkDieDown s l
    .next (kennelAdd (raiseRc s 3 0x0705 none 5 l) { typ := 1, ukind := 5, unit := l, reason := 0x0705, cls := 4 })

/-! ### Steps 4 to 7 (R500, R502, R88) -/

/-- R444, R500 step 4: regulator blocks start, their drop-share monitors afresh, but for those that fail their self-test. Routers that a tie or heat had changed are in service again. -/
def startBlocks (s : State) (bad : List Nat) : State :=
  let lost := fun t => s.tieLost.contains (clusterOf t)
  let s := { s with
    blockSt := s.blockSt.map (fun e => (e.1, if 8 ≤ (block s e.1).phases then 0 else 1)), tieLost := []
    blocks := s.blocks.map (fun e => (e.1, { e.2 with low := [0, 0, 0, 0, 0, 0, 0, 0], vpgmBad := 0, drSum := 0, drN := 0, drAt := none }))
    dict := s.dict.filter fun e => !(e.1 / 65536 == 0x3102 * 256 + 4 && (e.2 != 3 || lost (e.1 % 65536))) }
  let s := (List.range 288).foldl (fun s c => vlogOn (blockCond s c) c) s
  ((List.range 288).filter fun c => bad.contains c || decide ((block s c).phases < 6)).foldl loseBlock s

/-- R500 step 5: link dies and the module reference. -/
def startLinks (s : State) (bad : List Nat) : State :=
  let s := (List.range 4).foldl (fun s l =>
    if bad.contains l then (if s.ldDown.contains l then s else linkDieDown s l)
    else if s.ldDown.contains l then linkDieBack s l else s) s
  setCond (setObj { s with refDown := 0 } 0x3110 1 0) 431 false

/-- R500 step 6: HBM training: a stack that fails is recorded as kind 14. -/
def trainStacks (s : State) (bad : List Nat) : State :=
  (List.range 40).foldl (fun s k =>
    if bad.contains k then kennelEvent (raiseRc (stackCond (setStack s k { stack s k with failed := true }) k) 4 0x070A none 3 k) 14 3 k 0 0x070A
    else if (stack s k).failed && kHealthy s 3 k then stackCond (setStack s k { stack s k with failed := false }) k
    else s) s

/-- R502: the banks that the integrity check judges. -/
def bankJudged (b : Bank) : Bool := b.st == .inService || b.st == .standby || b.st == .swapArmed

/-- R502: a bank fails the integrity check. -/
def integrityFail (s : State) (k : Nat) : State :=
  if bankJudged (bankOf s k) && (ownerOf s (bankTile k)).isSome then
    raiseRc (updBank s k fun b => { b with st := .invalid, cur := none }) 4 0x0711 none 1 (bankTile k) (bankArray k * 2 + k % 2)
  else s

/-- R502: the all-+1 vector. -/
def onesVector : List Int := List.replicate 1024 1

/-- R36, R502: the exact sum of a group's column sums. -/
def groupExact (b : Bank) (g : Nat) : Int := ((b.sums.drop (256 * g)).take 256).foldl (· + ·) 0

/-- R502: a bank's group sums and its check digits lie within the partition's tolerance of the exact sums, for the results of the all-+1
vector. -/
def integrityOk (s : State) (k : Nat) (res : List Int) : Bool :=
  let tol := objD 0x100000 s (pidx 0x51 ((ownerOf s (bankTile k)).map (·.1) |>.getD 0)) 6
  (List.range 4).all fun g =>
    let c := groupExact (bankOf s k) g
    decide (((groupSums res g).1 - c).natAbs ≤ tol) && decide (((groupSums res g).2 - c).natAbs ≤ tol)

/-- R77, R88: the probe of a bank in service that passed. -/
def probed (s : State) (k : Nat) (codes : List (List (BitVec 12))) : State :=
  let x := bankOf s k
  match x.st, curTable x with
  | .inService, some c =>
    let res := passResults (some c) (latchOf s (bankTile k)).1 probeVector codes
    let d := driftOf res c
    let due := decide (objD 25 s 0x2300 5 * 10 < d)
    updBank s k fun b => { b with
      drift := Nat.min d 65535, driftTime := tilePowered s (bankTile k), refDev := refDevs res probeVector, boundHeld := !due
      calDue := b.calDue || due }
  | _, _ => s

/-- R88, R502: the check of one bank, and its probe. `bad` says that its metadata record fails its CRC; `e` gives the phase codes of its two
evaluations. -/
def checkBank (bad : List Nat) (s : State) (e : BankEval) : State :=
  let k := e.bank
  if bankJudged (bankOf s k) then
    let res := passResults (curTable (bankOf s k)) (latchOf s (bankTile k)).1 onesVector e.ones
    if bad.contains k || !integrityOk s k res then integrityFail s k else probed s k e.probe
  else s

/-- R500 step 7: the integrity check and the probes of the banks that are measured; banks whose records fail their CRC; the consequences of the
interval (R87, R88); repairs start again (R55). -/
def checkWeights (s : State) (bad : List Nat) (evals : List BankEval) : State :=
  let ks := s.banks.map (·.1)
  let s := ks.foldl (fun s k => if bankJudged (bankOf s k) then loadTable s k else s) s
  let s := bad.foldl integrityFail (evals.foldl (checkBank bad) s)
  let due := s.life.refresh || decide (retentionSec s.life.lastHot < s.life.interval)
  let s := if due then ks.foldl (fun s k => if bankJudged (bankOf s k) then updBank s k fun b => { b with refreshDue := true } else s) s else s
  (ks.filter fun k => (bankOf s k).st == .repairing).foldl (fun s k => vpgmRequest s false [k]) s

/-! ### Partitions restored (R32, R503, R505) -/

/-- R503: the partition returns FAULTED: a bank that it binds is INVALID, a tile is not healthy, or a region lies on a failed stack. -/
def restoreFaults (s : State) (p : Nat) : Bool :=
  let pl := (part s p).place
  pl.tiles.any (fun t => !tileHealthy s t.tile || (ownedBanks t).any fun k =>
      (bankOf s k).st == .invalid && (mapBank s t.tile (bankArray k) 0 == some (k % 2) || mapBank s t.tile (bankArray k) 1 == some (k % 2)))
    || pl.hregs.any fun r => r.stackIds.any fun k => (stack s k).failed

/-- R505: reads a valid save back: sequences, set descriptors, the bytes of the HELD sets and the step counter. -/
def reload (s : State) (p : Nat) (v : Saved) : State :=
  let s := v.seqs.foldl (fun s e => { s with seqs := FMap.set s.seqs e.1 e.2 }) s
  let s := v.sets.foldl (fun s e => { s with kvSets := FMap.put (0, 0) s.kvSets e.1 e.2 }) s
  let s := v.pages.foldl (fun s e => pvaWrite s p e.1 e.2) s
  updPart s p fun x => { x with saved := none, stepCounter := v.counter, lostSeqs := 0 }

/-- R505: an enabled partition without a valid marker has lost its sequences. -/
def seqsLost (s : State) (p : Nat) : State :=
  let s := if (part s p).enable then raiseRc s 3 0x0712 (some p) 0 0 (part s p).lostSeqs else s
  updPart s p fun x => { x with lostSeqs := 0 }

/-- R274: a partition restored FAULTED for a tile that is not healthy any more: a cause, of DESIGN CHOICE (log 115) severity 4, class integrity; and
a standing policy's trigger. -/
def unhealthyCause (s : State) (p : Nat) : State :=
  raise (updPart s p fun x => { x with permFault := true }) { sev := 4, cls := 7, part := some p }

/-- R503: restores one partition from its placement record, with no search. -/
def restorePart (s : State) (p : Nat) : State :=
  let x := part s p
  if x.st = .free then s
  else
    let pl := x.place
    let m := ((FMap.find s.images pl.image).map (·.bytes)).getD []
    let s := (List.range pl.tiles.length).foldl (writeTile m pl) s
    let s := latchCheck (pl.hregs.foldl (initRegion m) s) p
    let s := match x.saved with
      | some v => reload s p v
      | none => if x.st = .idle then seqsLost s p else s
    let s := if objD 0xFF s (pidx 0x51 p) 35 < 8 then forceBand s p else s
    let s := if pl.stage then stageAll s p m else s
    let s := if restoreFaults s p then setPState s p .faulted else s
    let s := if pl.tiles.any (fun t => !tileHealthy s t.tile) then unhealthyCause s p else s
    if x.enable then openLinks (groupEnter (armExports s p) p) p else s

/-- R500 step 8: every partition in ascending number; then the module is READY. -/
def restoreAll (s : State) : State :=
  let s := (List.range 16).foldl restorePart s
  let s := { s with power := .ready, life := { s.life with step := 0, lastMs := (ageNs s - s.life.startAt) / 1000000 } }
  reviewAll (raise s { sev := 1, cls := 2 })

/-! ### The order (R500, R501) -/

/-- R500: the present step is done, but for the units `bad` that failed in it; `evals` gives what step 7 measures. -/
def stepDone (s : State) (bad : List Nat) (evals : List BankEval) : State :=
  let next := fun (s : State) => { s with life := { s.life with step := s.life.step + 1 } }
  match s.life.step with
  | 2 => next s
  | 3 => if bricksIn s = 0 then s else next s
  | 4 => next (startBlocks s bad)
  | 5 => next (startLinks s bad)
  | 6 => next (trainStacks s bad)
  | 7 => next (checkWeights s bad evals)
  | 8 => restoreAll s
  | _ => s

/-- POWER_ON_STEP_DONE (R500): the present step of the power-on order completes, but for the units `bad` that fail in it: clusters in step 4,
link dies in step 5, stacks in step 6, and in step 7 banks whose metadata records fail their CRC; `evals` gives the codes that step 7 measures on
each resident bank. -/
def execPowerOnStepDone (bad : List Nat) (evals : List BankEval) (s : State) : Host.Outcome State Fault Refusal :=
  if s.power = .starting then .next (stepDone s bad evals) else .next s

/-- R501: the bound of a power-on in ns: 180 s and the time of the reloads at 16 GB/s. -/
def powerOnBound (s : State) : Nat :=
  180000000000 + (s.parts.map fun e => match e.2.saved with
    | none => 0
    | some v => (v.pages.map fun x => x.2.length).foldl (· + ·) 0 / 16).foldl (· + ·) 0

/-- POWER_ON_STEP_OVERRUN (R501): the present step does not complete within the bound; a cause names it, and the device goes on without the
units `bad`. -/
def execPowerOnStepOverrun (bad : List Nat) (evals : List BankEval) (s : State) : Host.Outcome State Fault Refusal :=
  if s.power = .starting ∧ s.life.startAt + powerOnBound s ≤ ageNs s then
    let s := if s.life.overran then s else raise { s with life := { s.life with overran := true } } { sev := 4, cls := 2, detail := s.life.step }
    .next (stepDone s bad evals)
  else .next s

end Sys2Proof.Machine
end

