-- ==== Sys2Proof/Machine/Stop.lean ====
section
/-! DEFINITION. Orderly stop and preservation (R504, R505), power loss (R506, R507), leaks, the alarm input and the controlled stop
(R464, R466), coolant and Sheepdog's samples (R453, R461, R509), the expiry of a hold (R463). -/
namespace Sys2Proof.Machine

/-! ### Orderly stop (R504) -/

/-- R504 step 1: steps that have not reached their commit point at the stop limit are discarded, and lists still running are returned; bank
operations are abandoned. -/
def stopLimit (s : State) : State :=
  let s := (List.range 16).foldl (fun s p => match stepOf s p with
    | none => s
    | some r => if r.committed then s else dropRuns (engineFault s p 0x021E) p) s
  let s := (s.queues.map (·.1)).foldl (fun s q => if q < 128 ∧ (stepOf s (qPart q)).isNone then returnRunning s q 0x021E else s) s
  interruptBanks s (fun _ => true) 0x021E

/-- R504: the stop limit has passed. -/
def pastLimit (s : State) : Bool := decide (s.life.stopAt + objD 10 s 0x4040 4 * 1000000000 ≤ ageNs s)

/-- STOP_LIMIT_EXPIRE (R504): the stop limit passes during an orderly stop. -/
def execStopLimitExpire (s : State) : Host.Outcome State Fault Refusal :=
  if s.power = .stopping ∧ pastLimit s then .next (stopLimit s) else .next s

/-- R504 step 1: no step runs, and no list runs on a queue other than a step engine's. -/
def stepsDrained (s : State) : Bool :=
  (List.range 16).all (fun p => (stepOf s p).isNone && (group s p).posting.isNone) && s.queues.all fun e => e.1 % 8 == 0 || e.2.running.isNone

/-- R504 step 2: every list that waits, priority lists included, is returned unrun; a step engine's list whose next STEP is not dispatched is
returned at it. -/
def returnWaits (s : State) : State :=
  let s := (s.queues.map (·.1)).foldl (fun s q => if q % 8 = 0 then returnRunning s q 0x021E else s) s
  (s.queues.map (·.1)).foldl (fun s q => returnWaiting s q 0x021E) s

/-- R505, R526: after a hold, a partition with a region on a stack that reads 90 °C or more is not saved. -/
def tooHot (s : State) (p : Nat) : Bool :=
  s.coolant.st != 0 && (part s p).place.hregs.any fun r => r.stackIds.any fun k => decide (1440 ≤ (stack s k).temp)
/-- R505: the partitions that preservation saves. -/
def toSave (s : State) : List Nat :=
  if objD 1 s 0x5030 1 = 1 then (List.range 16).filter fun p => (part s p).st == .idle && decide (0 < liveCount s p) && !tooHot s p else []

/-- R504: the stop waits for its records. -/
def saveNext (s : State) (l : List Nat) : State :=
  if l.isEmpty then { s with life := { s.life with saving := [], stop := 3, recAt := ageNs s } } else { s with life := { s.life with saving := l, stop := 2 } }

/-- STOP_STEPS_DRAINED (R504, R505): running steps and lists have ended: lists that wait are returned and preservation begins. -/
def execStopStepsDrained (s : State) : Host.Outcome State Fault Refusal :=
  if s.power = .stopping ∧ s.life.stop = 1 ∧ stepsDrained s then
    let s := returnWaits s
    .next (saveNext s (toSave s))
  else .next s

/-- R505: the pages of the HELD sets of a partition: address in space 4 and bytes. -/
def heldPages (s : State) (p : Nat) : List (Nat × List Byte) :=
  let pl := (part s p).place
  (s.kvSets.filter fun e => e.1 / 2 ^ 40 == p && e.2.1 == 1).flatMap fun e =>
    let g := kvGroup pl (e.1 / 2 ^ 32 % 256)
    (List.range g.layers).map fun i =>
      let va := 4 * 2 ^ 44 + (setPage g (e.1 % 2 ^ 32) + i) * pageStride pl
      (va, pvaRead s p va (pageStride pl))

def savedBytes (v : Saved) : Nat := (v.pages.map fun x => x.2.length).foldl (· + ·) 0

/-- R505: what a save of a partition holds. -/
def saveOf (s : State) (p : Nat) : Saved :=
  { counter := (part s p).stepCounter, seqs := s.seqs.filter fun e => e.1 / 2 ^ 32 == p, sets := s.kvSets.filter fun e => e.1 / 2 ^ 40 == p
    pages := heldPages s p }

/-- R505: bytes that valid saves hold. -/
def areaUsed (s : State) : Nat := (s.parts.map fun e => match e.2.saved with
  | none => 0
  | some v => savedBytes v).foldl (· + ·) 0

/-- PRESERVATION_DONE (R505): the save of partition `p`, the next in order, ends; it is marked valid where the time at 8 GB/s and the area suffice. -/
def execPreservationDone (p : Nat) (s : State) : Host.Outcome State Fault Refusal :=
  if 16 ≤ p then .fault .noSuchUnit
  else
    match s.life.saving with
    | [] => .next s
    | x :: t =>
      if s.power ≠ .stopping ∨ s.life.stop ≠ 2 ∨ x ≠ p then .next s
      else
        let v := saveOf s p
        let ok := decide (savedBytes v / 8 ≤ objD 60 s 0x5030 2 * 1000000000) && decide (areaUsed s + savedBytes v ≤ 4000000000000)
        .next (saveNext (if ok then updPart s p fun y => { y with saved := some v } else s) t)

/-- R507: the shutdown stamp, a Kennel record of TYPE 11 that is durable at once. -/
def stamp (s : State) (commits : Nat) : State :=
  let s := kennelAdd s { typ := 11, ukind := 0, unit := 0, detail := commits }
  { s with kennel := { s.kennel with ring := s.kennel.gathering ++ s.kennel.ring, gathering := [] }, life := { s.life with hottest := none, stampDue := false } }

/-- R504 steps 5–8: the sessions that end, the power-down, the stamp, and where the stop ends. -/
def stopEnds (s : State) : State :=
  let goal := s.life.stopTo
  let gone := (s.sessions.filter fun e => e.1 != console && (e.2.kind != 3 || goal == 1)).map (·.1)
  let s := gone.foldl (fun s n => closeSession (if (session s n).st = 2 then sendClose s n else s) n) s
  let s := stamp (waferOff s) 0
  if goal = 1 then enterStandby s
  else if goal = 2 then { s with power := .attended, life := { s.life with idleAt := ageNs s } }
  else { s with power := .recovery }

/-- R504 step 4: some bank is being programmed. -/
def programsRun (s : State) : Bool := s.banks.any fun e => e.2.st == .programming

/-- R504 step 5: every record that was posted to a session has been acknowledged by it: completion records, and the segments of debug records. -/
def recordsAcked (s : State) : Bool :=
  s.replyQ.all (fun e => e.2.all fun r => r.waitingFor.isEmpty) && s.sessions.all fun e => e.2.st != 2 || (chan s e.1 3).segs.isEmpty

/-- STOP_RECORDS_DONE (R504): every posted record is acknowledged, or 1 s has passed, and bank programming has ended: sessions are closed, and the
wafer is powered down. -/
def execStopRecordsDone (s : State) : Host.Outcome State Fault Refusal :=
  if s.power = .stopping ∧ s.life.stop = 3 ∧ (recordsAcked s || decide (s.life.recAt + 1000000000 ≤ ageNs s)) = true ∧ (!programsRun s || pastLimit s) = true then
    .next (stopEnds (if programsRun s then interruptBanks s (fun _ => true) 0x021E else s))
  else .next s

/-! ### Power loss (R506, R507) -/

/-- R496, R506: the wafer is powered. -/
def waferOn (s : State) : Bool :=
  match s.power with
  | .starting => true | .ready => true | .stopping => true | .hold => true
  | _ => false

/-- POWER_LOSS (R506): no usable feed is left: steps are discarded with no commit point, banks are interrupted as R55 says, and everything is off;
records not yet in a committing block are lost. -/
def execPowerLoss (s : State) : Host.Outcome State Fault Refusal :=
  if waferOn s && !(feed s 0).usable && !(feed s 1).usable then
    let s := waferOff s
    .next { s with
      power := .standby, sessions := [], out := s.out, kennel := { s.kennel with gathering := [] }
      life := { s.life with loss := true, stampDue := true, retention := true, wake := none, commits := 0 } }
  else .next s

/-- SHUTDOWN_STAMP (R507): the commits in flight at the declaration have completed, `commits` of them, and the bus reads `mv` in mV: at 44 V or
more the stamp is committed. -/
def execShutdownStamp (commits mv : Nat) (s : State) : Host.Outcome State Fault Refusal :=
  if s.life.stampDue ∧ s.power = .standby then
    let s := { s with life := { s.life with commits := commits } }
    .next (if 44000 ≤ mv then stamp s commits else s)
  else .next s

/-- BUS_DEPLETED (R507): the bus falls to 40 V without a 12 V supply: the module is OFF, and the retention registers are not valid. -/
def execBusDepleted (s : State) : Host.Outcome State Fault Refusal :=
  if !waferOn s && !(feed s 0).usable && !(feed s 1).usable then
    .next { s with power := .off, sessions := [], life := { s.life with retention := false, held := [], wake := none } }
  else .next s

/-! ### Leaks and the alarm input (R464, R466, R510) -/

/-- R466: the controlled stop: R462 as for a coolant-loss stop, then the wafer is powered down at once. -/
def controlledStop (s : State) : State :=
  if s.power = .ready ∨ s.power = .hold then beginStop (stopCompute (raiseRc s 6 0x0613)) 1 else s

/-- R466: a source that has become active starts the controlled stop where the policy masks it. -/
def policyStop (s : State) (bit : Nat) : State :=
  if objD 0 s 0x4030 1 = 1 ∧ bitAt (objD 0 s 0x4030 2) bit then controlledStop s else s

/-- R510: a leak or an alarm wakes the module to ATTENDED under obj 0x4050:5. -/
def alarmWake (s : State) : State := if s.power = .standby ∧ objD 1 s 0x4050 5 = 1 then wake s false false else s

/-- LEAK_WET (R464, R465): leak sensor `i` becomes wet. -/
def execLeakWet (i : Nat) (s : State) : Host.Outcome State Fault Refusal :=
  if 4 ≤ i then .fault .noSuchUnit
  else if s.power = .off ∨ bitAt s.leaks.wet i ∨ bitAt s.leaks.failed i then .next s
  else
    let s := setCond { s with leaks := { s.leaks with wet := s.leaks.wet + 2 ^ i } } (424 + i) true
    .next (alarmWake (gateWatch (policyStop (raiseRc s 6 0x060C none 9 (424 + i)) i)))

/-- LEAK_DRY (R465): a wet leak sensor becomes dry. -/
def execLeakDry (i : Nat) (s : State) : Host.Outcome State Fault Refusal :=
  if 4 ≤ i then .fault .noSuchUnit
  else if s.power = .off ∨ bitAt s.leaks.wet i = false then .next s
  else .next (setCond { s with leaks := { s.leaks with wet := s.leaks.wet - 2 ^ i } } (424 + i) false)

/-- LEAK_LOOP_BREAK (R464): a leak sensor's loop breaks: the sensor has failed. -/
def execLeakLoopBreak (i : Nat) (s : State) : Host.Outcome State Fault Refusal :=
  if 4 ≤ i then .fault .noSuchUnit
  else if s.power = .off ∨ bitAt s.leaks.failed i then .next s
  else .next (raiseRc { s with leaks := { s.leaks with failed := s.leaks.failed + 2 ^ i } } 3 0x0609 none 9 (424 + i))

/-- ALARM_INPUT (R464): the alarm contact closes. -/
def execAlarmInput (s : State) : Host.Outcome State Fault Refusal :=
  if s.power = .off ∨ s.leaks.alarm then .next s
  else
    let s := setCond { s with leaks := { s.leaks with alarm := true } } 428 true
    .next (alarmWake (policyStop (raise s { sev := 3, cls := 6, unitKind := 9, unit := 428 }) 4))

/-- ALARM_INPUT_OPEN (R464): the alarm contact opens. -/
def execAlarmInputOpen (s : State) : Host.Outcome State Fault Refusal :=
  if s.power = .off ∨ s.leaks.alarm = false then .next s
  else .next (setCond { s with leaks := { s.leaks with alarm := false } } 428 false)

/-! ### Coolant and Sheepdog's samples (R453, R461–R463, R509) -/

/-- COOLANT_SAMPLE (R453, R461): the seven coolant sensors are sampled, in 0.01 L/min, Pa and 1/16 °C; none where a sensor does not answer. The
criteria declare a coolant-loss stop. -/
def execCoolantSample (v : List (Option Int)) (s : State) : Host.Outcome State Fault Refusal :=
  if !waferOn s then .next s
  else
    let s := coolantSampled s v
    if s.coolant.lost && s.power == .ready then .next (coolantStop s)
    else if s.coolant.lost && s.power == .stopping && s.coolant.st == 0 then .next { coolantStop s with power := .stopping }
    else .next (gateWatch s)

/-- HOLD_EXPIRE (R463): a protection or stack reading reaches 85 °C in a hold, or the hold limit passes. -/
def execHoldExpire (s : State) : Host.Outcome State Fault Refusal :=
  let hot := (s.hot.any fun e => decide (1360 ≤ protection s e.1)) || s.stackSt.any fun e => decide (1360 ≤ e.2.temp)
  if s.power = .hold ∧ (hot || decide (s.coolant.stopAt + objD 120 s 0x4020 8 * 1000000000 ≤ ageNs s)) = true then .next (beginStop s 1) else .next s

/-- The latest five of a list of samples with one more. -/
def keepFive (l : List Int) (v : Int) : List Int := (v :: l).take 5

/-- R87, R509: the highest storage temperature. -/
def hotter (h : Option Int) (v : Int) : Option Int :=
  match h with
  | none => some v
  | some x => some (iMax x v)

/-- SHEEPDOG_SAMPLE (R509): Sheepdog samples the carrier sensor of every die, in 1/16 °C, and the coolant sensors as COOLANT_SAMPLE has them; it keeps
medians of five and the highest temperature since the last stamp. While the wafer is off the coolant sources follow the medians. -/
def execSheepdogSample (carrier : List Int) (v : List (Option Int)) (s : State) : Host.Outcome State Fault Refusal :=
  if s.power = .off then .next s
  else
    let l := s.life
    let cs := (List.range 24).map fun d => keepFive (l.carrier.getD d []) (carrier.getD d 0)
    let ws := (List.range 7).map fun i => match v.getD i none with
      | none => l.cool.getD i []
      | some x => keepFive (l.cool.getD i []) x
    let temps := cs.map median ++ ((ws.drop 3).filter fun x => !x.isEmpty).map median
    let s := { s with life := { l with carrier := cs, cool := ws, hottest := temps.foldl hotter l.hottest } }
    let med := (List.range 7).map fun i => (v.getD i none).map fun _ => median (ws.getD i [])
    .next (gateWatch (if waferOn s then s else coolantSampled s med))

end Sys2Proof.Machine
end

