-- ==== Sys2Proof/Machine/Cards.lean ====
section
/-! DEFINITION. Controller cards (R491, R513, R524), the real-time clock's store (R512) and the cards' test ports (R514). -/
namespace Sys2Proof.Machine

/-! ### Roles (R513) -/

/-- R513: requests in progress get no reply when the active role moves. -/
def dropRequests (s : State) : State :=
  let s := { s with modeRec := { s.modeRec with waiter := none }, jobs := s.jobs.map fun j => { j with asked := false } }
  (List.range 16).foldl (fun s p => if (part s p).check.isSome then updPart s p fun x => { x with check := none } else s) s

/-- R513: a card leaves the active role; the STANDBY card takes it. -/
def handOver (s : State) (c : Nat) : State :=
  let s := dropRequests s
  if (card s (1 - c)).st = 1 then setCard s (1 - c) { card s (1 - c) with st := 0 } else s

/-- A card goes into a state in which it has no role. -/
def cardOut (s : State) (c st : Nat) : State :=
  let active := (card s c).st == 0
  let s := setCond (setCard s c { card s c with st := st }) (429 + c) (st == 5)
  if active then handOver s c else s

/-- CARD_FAULT (R423, R482, R513): card `c` faults; steps and sessions go on under the other card. -/
def execCardFault (c : Nat) (s : State) : Host.Outcome State Fault Refusal :=
  if 2 ≤ c then .fault .noSuchUnit
  else if 4 ≤ (card s c).st then .next s else .next (cardOut (kennelEvent s 19 8 c) c 5)

/-- R513, R524: no card has a control plane that boots. -/
def noneBoots (s : State) : Bool := [0, 1].all fun c => (card s c).dead || decide (4 ≤ (card s c).st)

/-- R497, R513: neither copy boots on either card: RECOVERY; a power-on under way ends. -/
def toRecovery (s : State) : State :=
  if noneBoots s then
    match s.power with
    | .attended => { s with power := .recovery }
    | .starting => { waferOff s with power := .recovery }
    | _ => s
  else s

/-- CARD_BOOT_FAIL (R513): a boot of card `c`'s control plane fails; the third in a row boots the other copy of its slot, and when that one has
failed too the card has none. -/
def execCardBootFail (c : Nat) (s : State) : Host.Outcome State Fault Refusal :=
  if 2 ≤ c then .fault .noSuchUnit
  else
    let x := card s c
    if 4 ≤ x.st ∨ x.dead ∨ (s.power ≠ .attended ∧ s.power ≠ .starting) then .next s
    else if x.fails + 1 < 3 then .next (setCard s c { x with fails := x.fails + 1 })
    else
      let s := kennelEvent s 19 8 c 0 0x0713
      let s := setCond (raiseRc s 3 0x0713 none 8 c) (429 + c) true
      if x.other then .next (toRecovery (cardOut (setCard s c { x with fails := 0, dead := true }) c 5))
      else .next (setCard s c { x with fails := 0, other := true })

/-- CARD_INSERT (R491): a card is inserted and mirrors its peer. -/
def execCardInsert (c : Nat) (s : State) : Host.Outcome State Fault Refusal :=
  if 2 ≤ c then .fault .noSuchUnit
  else if (card s c).st ≠ 4 then .next s
  else .next (partMoved (setCard s c { st := 2, mirror := 0 }) 8 c)

/-- CARD_REMOVE (R491): a card is pulled from its slot. -/
def execCardRemove (c : Nat) (s : State) : Host.Outcome State Fault Refusal :=
  if 2 ≤ c then .fault .noSuchUnit
  else if (card s c).st = 4 then .next s
  else .next (partMoved (cardOut s c 4) 8 c)

/-- CARD_SYNC_DONE (R491): the mirror copy of an inserted card is complete. -/
def execCardSyncDone (c : Nat) (s : State) : Host.Outcome State Fault Refusal :=
  if 2 ≤ c then .fault .noSuchUnit
  else if (card s c).st ≠ 2 then .next s
  else .next (setCard s c { card s c with st := if (card s (1 - c)).st = 0 then 1 else 0, mirror := 100 })

/-- RECOVERY_RELEASE (R497): the recovery input is released with a bootable copy; the cards restart from STANDBY. -/
def execRecoveryRelease (s : State) : Host.Outcome State Fault Refusal :=
  if s.power = .recovery ∧ noneBoots s = false then .next (enterStandby s) else .next s

/-- RTC_STORE_EXHAUSTED (R512): the clock's store runs out without the 12 V rail. -/
def execRtcStoreExhausted (s : State) : Host.Outcome State Fault Refusal :=
  if s.power = .off then .next { s with rtcValid := false } else .next s

/-! ### Test ports (R514) -/

/-- IEEE 1149.1: the next state of the TAP controller. States: 0 Test-Logic-Reset, 1 Run-Test/Idle, 2 Select-DR, 3 Capture-DR, 4 Shift-DR,
5 Exit1-DR, 6 Pause-DR, 7 Exit2-DR, 8 Update-DR, 9–15 the same of IR. -/
def tapNext (st : Nat) (tms : Bool) : Nat :=
  match st, tms with
  | 0, true => 0 | 0, false => 1
  | 1, true => 2 | 1, false => 1
  | 2, true => 9 | 2, false => 3
  | 3, true => 5 | 3, false => 4
  | 4, true => 5 | 4, false => 4
  | 5, true => 8 | 5, false => 6
  | 6, true => 7 | 6, false => 6
  | 7, true => 8 | 7, false => 4
  | 8, true => 2 | 8, false => 1
  | 9, true => 0 | 9, false => 10
  | 10, true => 12 | 10, false => 11
  | 11, true => 12 | 11, false => 11
  | 12, true => 15 | 12, false => 13
  | 13, true => 14 | 13, false => 13
  | 14, true => 15 | 14, false => 11
  | 15, true => 2 | 15, false => 1
  | _, _ => 0

/-- The model's instruction codes, in a register of 4 bits. -/
def tapIdcode : Nat := 2
/-- The bits of a number, lowest first. -/
def bitList (n v : Nat) : List Bool := (List.range n).map (bitAt v)
def bitsNat : List Bool → Nat
  | [] => 0
  | b :: t => b2n b + 2 * bitsNat t

/-- Capture-DR: what the register that the instruction selects captures. -/
def tapCapture (s : State) (c : Nat) (x : Card) : List Bool :=
  if x.ir = tapIdcode then bitList 32 (Config.idcode c)
  else if x.ir < 2 then bitList (Config.boundaryLength c) (Config.boundaryPins c s.refTicks)
  else [false]

/-- One register shifted by a bit. -/
def tapShift (l : List Bool) (tdi : Bool) : List Bool := l.drop 1 ++ [tdi]

/-- R514: a card's port is live. -/
def tapLive (s : State) (c : Nat) : Bool := (card s c).st == 3 || (s.power == .recovery && (card s c).st != 4)

/-- One clock of a live TAP: the action of its state, then its next state. -/
def tapClock (s : State) (c : Nat) (tms tdi : Bool) : State :=
  let x := card s c
  let y := match x.tap with
    | 3 => { x with shift := tapCapture s c x }
    | 4 => { x with shift := tapShift x.shift tdi }
    | 10 => { x with irShift := [true, false, false, false] }
    | 11 => { x with irShift := tapShift x.irShift tdi }
    | _ => x
  let n := tapNext x.tap tms
  let y := if n = 0 then { y with tap := n, ir := tapIdcode }
    else if n = 15 then { y with tap := n, ir := bitsNat y.irShift }
    else if n = 8 ∧ y.ir < 2 then { y with tap := n, cells := y.shift }
    else { y with tap := n }
  let s := setCard s c y
  if x.tap = 4 then emit s (.tdo c (x.shift.headD false))
  else if x.tap = 11 then emit s (.tdo c (x.irShift.headD false)) else s

/-- TEST_ACCESS_PORT_CLOCK (R514): a rising edge of TCK on card `c`'s test port with TMS, TDI and TRST; a port that is not live, and TRST, hold it in
Test-Logic-Reset. -/
def execTestAccessPortClock (c : Nat) (tms tdi trst : Bool) (s : State) : Host.Outcome State Fault Refusal :=
  if 2 ≤ c then .fault .noSuchUnit
  else if tapLive s c && !trst then .next (tapClock s c tms tdi)
  else .next (setCard s c { card s c with tap := 0, ir := tapIdcode })

/-! ### Indicators (R541, R544) -/

/-- R544: the removal light of a brick slot and of a controller card. -/
def brickLight (s : State) (b : Nat) : Bool := (brick s b).st == 3
def cardLight (s : State) (c : Nat) : Bool := (card s c).st == 3
/-- R544: the feed's light. -/
def feedLight (s : State) (f : Nat) : Bool := (feed s f).usable
/-- R544: the cage's light: 1 green, 2 amber, 0 dark. -/
def cageLight (s : State) (p : Nat) : Nat := if portState s p = 3 then 1 else if portState s p = 4 then 2 else 0
/-- R541, R544: the light of a management port. -/
def mgmtLight (s : State) (m : Nat) : Bool := portUp s (48 + m)

end Sys2Proof.Machine
end

