-- ==== Sys2Proof/Machine/Firmware.lean ====
section
/-! DEFINITION. Firmware: packages, slots, activation, rollback (R515–R524), and RECOVER. -/
namespace Sys2Proof.Machine

/-! ### Packages (R516, R517) -/

/-- R516: the header of a package, and field `i`'s component entry. -/
def fwHead (m : Memory) : Nat := leNat (Memory.readN m 0 64)
def fwEntry (m : Memory) (i : Nat) : Nat := leNat (Memory.readN m (64 + 64 * i) 64)
def fwCount (m : Memory) : Nat := fld (fwHead m) 431 428
def fwEntries (m : Memory) : List Nat := (List.range (fwCount m)).map (fwEntry m)

/-- R516: the CRC over the header with its own field taken as zero. -/
def fwCrcOk (m : Memory) : Bool := crc32 ([0, 0, 0, 0] ++ Memory.readN m 4 60) == fwHead m % 2 ^ 32

/-- R517: one component lies in the package and has its digest. -/
def fwDigestOk (m : Memory) (len e : Nat) : Bool :=
  let off := fld e 447 416 * 4096
  let n := fld e 415 384
  decide (off + n ≤ len) && leNat (sha384 (Memory.readN m off n)) == e % 2 ^ 384

/-- R516, R517: the form of a package: reserved fields, entries, slots. -/
def fwFormOk (m : Memory) (len : Nat) : Bool :=
  let h := fwHead m
  let es := fwEntries m
  fld h 467 464 == 0 && fld h 419 384 == 0 && fld h 319 32 == 0 && decide (1 ≤ fwCount m) && decide (fwCount m ≤ 8) && fld h 383 320 == len
    && es.all (fun e => decide (1 ≤ fld e 511 508) && decide (fld e 511 508 ≤ 8) && fld e 491 448 == 0) && distinct (es.map fun e => fld e 511 508)

/-- R516: the signature over header and entries. -/
def fwSigned (m : Memory) : Bool :=
  let n := 64 + 64 * fwCount m
  Config.signatureValid (Memory.readN m 0 n) (Memory.readN m n 96)

/-- R518: why FWEND refuses: class 7 for bytes, signature, digest and CRC, class 8 for GEN, SECVER and DICTVER. -/
def fwEndFail (f : Fw) : Option Nat :=
  let m := f.bytes
  let h := fwHead m
  if !coversFrom f.ranges f.len 0 f.ranges.length || fld h 511 480 != 0x44514650 || !fwCrcOk m || !fwFormOk m f.len
      || !(fwEntries m).all (fwDigestOk m f.len) || !fwSigned m then some 0x0710
  else if fld h 479 476 ≠ 1 ∨ fld h 471 468 ≠ 1 ∨ fld h 439 432 < f.floor ∨ (fld h 427 424 ≠ f.dict / 16 ∧ fld h 427 424 ≠ f.dict / 16 + 1) then some 0x0805
  else none

/-- The package is discarded. -/
def fwDiscard (f : Fw) : Fw := { f with st := 0, len := 0, bytes := [], ranges := [] }

/-! ### Requests (R518) -/

/-- A firmware request: it needs FIRMWARE. -/
def fwRequest (ses op reqid : Nat) (f : State → State × Nat) (s : State) : Host.Outcome State Fault Refusal :=
  served s ses op reqid fun s =>
    if !hasFirmware s ses then refuseReq s ses op reqid 0x0204
    else
      let r := f s
      if r.2 = 0 then acceptReq r.1 ses op reqid else refuseReq r.1 ses op reqid r.2

/-- FWBEGIN (R518, R519). -/
def execFwbegin (ses reqid len : Nat) (s : State) : Host.Outcome State Fault Refusal :=
  fwRequest ses 0x40 reqid (fun s =>
    if s.fw.st ≠ 0 then (s, 0x021F)
    else if Config.fwBytes < len then (s, 0x0317)
    else ({ s with fw := { s.fw with st := 1, len := len, bytes := [], ranges := [] } }, 0)) s

/-- FWDATA (R518). -/
def execFwdata (ses reqid off : Nat) (data : List Byte) (s : State) : Host.Outcome State Fault Refusal :=
  fwRequest ses 0x41 reqid (fun s =>
    let f := s.fw
    if f.st ≠ 1 ∨ f.len < off + data.length ∨ 2097136 < data.length then (s, 0x0127)
    else ({ s with fw := { f with bytes := Memory.writeN f.bytes off data, ranges := (off, data.length) :: f.ranges } }, 0)) s

/-- FWEND (R518, R519): a package that passes is written into the slots' other copies; one that fails is discarded. -/
def execFwend (ses reqid : Nat) (s : State) : Host.Outcome State Fault Refusal :=
  fwRequest ses 0x42 reqid (fun s =>
    let f := s.fw
    if f.st ≠ 1 then (s, 0x021F)
    else
      match fwEndFail f with
      | some r => ({ s with fw := fwDiscard f }, r)
      | none =>
        let h := fwHead f.bytes
        let sl := (fwEntries f.bytes).map fun e => fld e 511 508
        let rel := fld h 463 440
        ({ s with fw := { f with
          st := 2, release := rel, secver := fld h 439 432, dictver := fld h 427 420, slots := sl
          other := sl.foldl (fun m x => FMap.set m x rel) f.other } }, 0)) s

/-- R520: the order in which slots switch. -/
def fwOrder : List Nat := [7, 6, 4, 3, 2, 1]

/-- R519: every named slot has switched, or is pending its next boot. -/
def fwPending (s : State) : State :=
  if s.fw.st = 3 ∧ s.fw.todo.isEmpty then raise { s with fw := { s.fw with st := 4, pendingAt := ageNs s } } { sev := 1, cls := 8 } else s

/-- R521: the control plane's settings: the new copy's store is built and the old one frozen. -/
def fwFreeze (s : State) : State :=
  if s.fw.dictver = s.fw.dict then s
  else { s with fw := { s.fw with frozen := some (keptValues s.dict), oldDict := s.fw.dict, dict := s.fw.dictver } }

/-- R520, R524: FWACTIVATE in RECOVERY: every pointer moves in one commit, and the module leaves RECOVERY with the update PENDING. -/
def fwRecovered (s : State) (sel : List Nat) : State :=
  let s := if sel.contains 2 then fwFreeze s else s
  let f := sel.foldl fwSwitch { s.fw with switched := [] }
  let s := [0, 1].foldl (fun s c =>
    let x := card s c
    setCard s c { x with dead := false, fails := 0, other := false, st := if x.st = 5 then 1 else x.st }) s
  { s with fw := { f with st := 4, todo := [], boot := [], pendingAt := ageNs s } }

/-- R439, R515: bricks can be switched one at a time. -/
def bricksSpare (s : State) : Bool :=
  (List.range 5).all fun b => (brick s b).st != 2 || brickSpared s b

/-- FWACTIVATE (R271, R518–R520, R524): the named slots begin to switch; slots 5 and 8 wait for their own activation. -/
def execFwactivate (ses reqid mask : Nat) (s : State) : Host.Outcome State Fault Refusal :=
  match fwRequest ses 0x43 reqid (fun s =>
    let sel := s.fw.slots.filter fun x => mask == 0 || bitAt mask x
    if s.fw.st ≠ 2 then (s, 0x021F)
    else if s.power = .recovery then (fwRecovered s sel, 0)
    else if replacing s then (s, 0x020F)
    else if sel.contains 7 && !bricksSpare s then (s, 0x0315)
    else (fwPending { s with fw := { s.fw with st := 3, todo := fwOrder.filter sel.contains, switched := [], lds := [3, 2, 1, 0], bricks := [0, 1, 2, 3, 4], boot := sel.filter fun x => x == 5 || x == 8 } }, 0)) s with
  | .next t => .next (if t.power = .recovery ∧ s.fw.st = 2 ∧ t.fw.st = 4 then enterStandby t else t)
  | o => o

/-! ### Switching (R515, R519–R521) -/

/-- R231, R515 slot 4: the partitions hubbed on the link die that switches, and are not in a step, move to their standby hubs. -/
def hubsMove (s : State) : State := (List.range 16).foldl hubMove s

/-- R231: a partition hubbed on the link die that switches is still to move, or has no standby hub and is in a step. -/
def hubsWait (s : State) : Bool := (List.range 16).any fun p => (stepOf s p).isSome && switchingLd s == some (part s p).place.hub

/-- R219, R515: LD0's reference hands over to LD2. -/
def refHandover (s : State) : State :=
  if objD 0 s 0x3110 1 = 0 ∧ bitAt s.refDown 1 = false then addObj (setObj (setCond s 431 true) 0x3110 1 1) 0x3110 2 1 0 32 else s

/-- R515 slot 4: one link die switches: its ports go down and come back, and LD0's reference hands over. -/
def ldSwitch (s : State) (l : Nat) : State :=
  if s.ldDown.contains l then s else linkDieBack (linkDieDown (if l = 0 then refHandover s else s) l) l

/-- R515: the effect on service of a slot that switches. -/
def slotEffect (s : State) (slot : Nat) : State :=
  if slot = 2 then
    let s := dropRequests s
    match [0, 1].find? fun c => (card s c).st == 0 with
    | some c => if (card s (1 - c)).st = 1 then setCard (setCard s c { card s c with st := 1 }) (1 - c) { card s (1 - c) with st := 0 } else s
    | none => s
  else s

/-- R519, R521: every slot is on its old copy: IDLE with the old-format settings. -/
def fwRolledBack (s : State) : State :=
  if s.fw.st = 5 ∧ s.fw.todo.isEmpty then
    let s := restoreSettings s
    raise { s with fw := { s.fw with st := 0, switched := [], boot := [] } } { sev := 3, cls := 8 }
  else s

/-- R515, R519: the units of slot 4 or 7 that have switched, newest first, where only some have; the brick held returns at once. -/
def fwHalf (s : State) : List Nat :=
  if s.fw.st ≠ 3 then []
  else if s.fw.todo.head? = some 4 then ([3, 2, 1, 0].filter fun l => !s.fw.lds.contains l).reverse
  else if s.fw.todo.head? = some 7 then ([0, 1, 2, 3, 4].filter fun b => !s.fw.bricks.contains b && s.fw.held != some b).reverse else []

/-- R519: a rollback begins: the slots that have switched return in reverse order. -/
def fwRollback (s : State) : State :=
  let half := fwHalf s
  let slot := s.fw.todo.headD 0
  let s := fwRelease s
  fwRolledBack { s with fw := { s.fw with
    st := 5, todo := if half.isEmpty then s.fw.switched else slot :: s.fw.switched, boot := []
    lds := if half.isEmpty || slot != 4 then [0, 1, 2, 3] else half
    bricks := if half.isEmpty || slot != 7 then [4, 3, 2, 1, 0] else half } }

/-- R231, R515 slot 4: the next link die switches once every partition hubbed on it has moved; the slot has switched after the last. -/
def fwLinkDie (s : State) (done : State → State) : State :=
  let s := hubsMove s
  match s.fw.lds with
  | [] => done { s with fw := { s.fw with lds := [3, 2, 1, 0] } }
  | l :: rest =>
    if hubsWait s then s
    else
      let s := ldSwitch s l
      if rest.isEmpty then done { s with fw := { s.fw with lds := [3, 2, 1, 0] } } else { s with fw := { s.fw with lds := rest } }

/-- The bricks of slot 7 are all done. -/
def fwBricksEnd (s : State) (done : State → State) : State :=
  if s.fw.bricks.isEmpty then done { s with fw := { s.fw with bricks := [0, 1, 2, 3, 4] } } else s

/-- R439, R515 slot 7: bricks switch one at a time, each PREPARED meanwhile, as soon as the others cover the module cap; one that is not in SERVICE
switches where it is. The slot has switched when the last brick starts again. -/
def fwBrick (s : State) (done : State → State) : State :=
  match s.fw.held with
  | some _ => fwBricksEnd (fwRelease s) done
  | none =>
    match s.fw.bricks with
    | [] => fwBricksEnd s done
    | b :: rest =>
      if (brick s b).st ≠ 2 then fwBricksEnd { s with fw := { s.fw with bricks := rest } } done
      else if !brickSpared s b then s
      else brickFallen (bricksIn s) (brickTo { s with fw := { s.fw with bricks := rest, held := some b } } b 3 true)

/-- FW_SLOT_SWITCHED (R515, R519–R521): the next slot starts its new copy, or fails to; in a rollback the next slot is back on its old copy. Of slot 4,
one link die switches at a time, once no partition needs it for its notices; of slot 7, one brick at a time. -/
def execFwSlotSwitched (ok : Bool) (s : State) : Host.Outcome State Fault Refusal :=
  match s.fw.st, s.fw.todo with
  | 3, x :: t =>
    if !ok then .next (fwRollback s)
    else if x = 4 then .next (fwLinkDie s fun s => fwPending { s with fw := { fwSwitch s.fw 4 with todo := t } })
    else if x = 7 then .next (fwBrick s fun s => fwPending { s with fw := { fwSwitch s.fw 7 with todo := t } })
    else
      let s := if x = 2 then fwFreeze s else s
      let s := slotEffect { s with fw := { fwSwitch s.fw x with todo := t } } x
      .next (fwPending s)
  | 5, x :: t =>
    if x = 4 then .next (fwLinkDie s fun s => fwRolledBack { s with fw := { fwUnswitch s.fw 4 with todo := t } })
    else if x = 7 then .next (fwBrick s fun s => fwRolledBack { s with fw := { fwUnswitch s.fw 7 with todo := t } })
    else .next (fwRolledBack (slotEffect { s with fw := { fwUnswitch s.fw x with todo := t } } x))
  | _, _ => .next s

/-- FWCONFIRM (R519): the update stands: the old-format settings go, and the floor of the security version rises to the package's. -/
def execFwconfirm (ses reqid : Nat) (s : State) : Host.Outcome State Fault Refusal :=
  fwRequest ses 0x44 reqid (fun s =>
    if s.fw.st ≠ 4 then (s, 0x021F)
    else ({ s with fw := { s.fw with st := 0, frozen := none, oldDict := s.fw.dict, floor := Nat.max s.fw.floor s.fw.secver, switched := [], bytes := [], ranges := [] } }, 0)) s

/-- FWROLLBACK (R519). -/
def execFwrollback (ses reqid : Nat) (s : State) : Host.Outcome State Fault Refusal :=
  fwRequest ses 0x45 reqid (fun s => if s.fw.st ≠ 4 then (s, 0x021F) else (fwRollback s, 0)) s

/-- FWABORT (R519). -/
def execFwabort (ses reqid : Nat) (s : State) : Host.Outcome State Fault Refusal :=
  fwRequest ses 0x46 reqid (fun s => if s.fw.st ≠ 1 ∧ s.fw.st ≠ 2 then (s, 0x021F) else ({ s with fw := fwDiscard s.fw }, 0)) s

/-- FW_CONFIRM_TIMEOUT (R522): a package still PENDING after the confirm limit is rolled back. -/
def execFwConfirmTimeout (s : State) : Host.Outcome State Fault Refusal :=
  let lim := objD 0 s 0x8000 5
  if s.fw.st = 4 ∧ lim ≠ 0 ∧ s.fw.pendingAt + lim * 1000000000 ≤ ageNs s then .next (fwRollback s) else .next s

/-- RECOVER (R497, R518): an orderly stop that ends in RECOVERY, or RECOVERY at once where the wafer is not powered. -/
def execRecover (ses reqid : Nat) (s : State) : Host.Outcome State Fault Refusal :=
  match fwRequest ses 0x47 reqid (fun s => (s, 0)) s with
  | .next t =>
    if cardsUp s && live s ses && ses != console && hasFirmware s ses then
      match s.power with
      | .ready => .next (beginStop t 7)
      | .hold => .next (beginStop t 7)
      | .stopping => .next { t with life := { t.life with stopTo := 7 } }
      | .starting => .next { waferOff t with power := .recovery }
      | .attended => .next { t with power := .recovery }
      | _ => .next t
    else .next t
  | o => o

end Sys2Proof.Machine
end

