-- ==== Sys2Proof/Machine/Messages.lean ====
section
/-! DEFINITION. Channel messages (R356, R357, R362–R364): segments in sequence, the messages that they make, and what each kind of message does
(R22, R176, R375, R398–R403, R417, R419, R518). -/
namespace Sys2Proof.Machine

/-! ### Management requests (R398, R399) -/

/-- A request's outcome as a state; the operations never stop. -/
def after (s : State) (o : Host.Outcome State Fault Refusal) : State :=
  match o with
  | .next t => t
  | _ => s

/-- Numbers of `k` bytes from a body. -/
def bodyNats (k : Nat) (b : List Byte) : List Nat := (List.range (b.length / k)).map fun i => leNat ((b.drop (k * i)).take k)

/-- R401: the write items of a body: an 8-byte header and LENGTH bytes each; none where the bytes do not tile. -/
def bodyItems (b : List Byte) : Nat → Option (List WriteItem)
  | 0 => if b.isEmpty then some [] else none
  | n + 1 =>
    let h := leNat (b.take 8)
    if b.length < 8 + h % 65536 then none
    else (bodyItems (b.drop (8 + h % 65536)) n).map ({ head := BitVec.ofNat 64 h, value := (b.drop 8).take (h % 65536) } :: ·)

/-- R417: MCARM's body. -/
def mcarmBody (ses reqid p b : Nat) (s : State) : State :=
  if fld b 127 120 ≠ 1 then refuseReq s ses 0x20 reqid 0x0804
  else if b % 2 ^ 108 ≠ 0 then refuseReq s ses 0x20 reqid 0x0127
  else
    match fld b 119 116 with
    | 1 => after s (execMcarmNumeric ses reqid p (fld b 115 108) s)
    | 2 => after s (execMcarmBand ses reqid p (fld b 115 108) s)
    | 3 => after s (execMcarmPower ses reqid (fld b 115 108) s)
    | _ => refuseReq s ses 0x20 reqid 0x012A

/-- R399: the operation with its body, none where the length disagrees with the items or the operation does not exist. -/
def requestOp (ses reqid op p n : Nat) (b : List Byte) (s : State) : Option (Host.Outcome State Fault Refusal) :=
  let k := b.length
  let body := leNat b
  match op with
  | 0x01 => if k = 8 * n then some (execRead ses reqid (bodyNats 8 b) s) else none
  | 0x02 => (bodyItems b n).map fun l => execWrite ses reqid l s
  | 0x03 => if k = 8 * n then some (execDescribe ses reqid (bodyNats 8 b) s) else none
  | 0x04 => if k = 4 ∧ n = 1 then some (execList ses reqid (body % 65536) (body / 65536) s) else none
  | 0x05 => if k = 4 then some (execAckattn ses reqid body s) else none
  | 0x06 => if k = 2 then some (execEvcomplete ses reqid body s) else none
  | 0x10 => if k = 32 then some (execLoad ses reqid body s) else none
  | 0x11 => if k = 0 then some (execUnload ses reqid p s) else none
  | 0x12 => if k = 0 then some (execRestart ses reqid p s) else none
  | 0x13 => if k = 32 then some (if fld body 243 242 = 1 then execReplaceUnhealthy ses reqid body s else execReplaceTile ses reqid body s) else none
  | 0x14 => if k = 4 then some (execPromote ses reqid p body s) else none
  | 0x20 => if k = 16 then some (.next (mcarmBody ses reqid p body s)) else none
  | 0x21 => if k = 0 ∨ k = 8 then some (execMcapply ses reqid body s) else none
  | 0x22 => if k = 0 then some (execMcabort ses reqid s) else none
  | 0x30 => if k = 16 then some (execImgbegin ses reqid (body % 2 ^ 64) (body / 2 ^ 64) s) else none
  | 0x31 => if 16 ≤ k then some (execImgdata ses reqid (leNat (b.take 8)) (leNat ((b.drop 8).take 8)) (b.drop 16) s) else none
  | 0x32 => if k = 8 then some (execImgend ses reqid body s) else none
  | 0x33 => if k = 8 then some (execImgdelete ses reqid body s) else none
  | 0x40 => if k = 8 then some (execFwbegin ses reqid body s) else none
  | 0x41 => if 8 ≤ k then some (execFwdata ses reqid (leNat (b.take 8)) (b.drop 8) s) else none
  | 0x42 => if k = 0 then some (execFwend ses reqid s) else none
  | 0x43 => if k = 2 then some (execFwactivate ses reqid body s) else none
  | 0x44 => if k = 0 then some (execFwconfirm ses reqid s) else none
  | 0x45 => if k = 0 then some (execFwrollback ses reqid s) else none
  | 0x46 => if k = 0 then some (execFwabort ses reqid s) else none
  | 0x47 => if k = 0 then some (execRecover ses reqid s) else none
  | _ => none

/-- R399: operations whose PART names a partition. -/
def partOp (op : Nat) : Bool := (decide (0x10 ≤ op) && decide (op ≤ 0x14)) || op == 0x20

/-- R398: a management request: its header is judged, then its operation runs. -/
def requestRx (s : State) (ses : Nat) (b : List Byte) : State :=
  let h := leNat (b.take 16)
  let op := fld h 119 112
  let reqid := fld h 111 80
  if b.length < 16 then s
  else if fld h 127 124 ≠ 1 then after s (served s ses op reqid fun s => refuseReq s ses op reqid 0x0804)
  else
    let bad := after s (served s ses op reqid fun s => refuseReq s ses op reqid 0x0127)
    if h % 2 ^ 64 ≠ 0 ∨ (partOp op = false ∧ fld h 67 64 ≠ 0) then bad
    else
      match requestOp ses reqid op (fld h 67 64) (fld h 79 68) (b.drop 16) s with
      | some o => after s o
      | none => bad

/-! ### Messages (R364, R375) -/

/-- The 256-bit words of a list's bytes. -/
def wordsOfBytes (b : List Byte) : List W256 := (bodyNats 32 b).map (BitVec.ofNat 256)

/-- R364: the submission reply to a list whose bytes disagree with MLEN. -/
def malformedList (s : State) (ses q : Nat) (b : List Byte) : State :=
  reply s { session := ses, queue := q, reqid := hdrListId (leNat (b.take 32)), reason := 0x0124 }

/-- R364: a whole message on a channel of a session, its prefix first. -/
def messageRx (s : State) (ses : Nat) (bs : List Byte) : State :=
  let h := leNat (bs.take 8)
  let kind := fld h 63 56
  let b := bs.drop 8
  let link := (session s ses).kind == 2
  let ok := decide (8 ≤ bs.length) && fld h 48 32 == 0 && h % 2 ^ 32 == b.length && decide (b.length ≤ 2097152) && (kind == 1 || fld h 55 49 == 0)
  if kind = 1 then
    if link then s
    else if !ok || b.length % 32 != 0 then malformedList s ses (fld h 55 49) b
    else after s (execCommandListSubmit ses (fld h 55 49) (wordsOfBytes b) s)
  else if !ok then s
  else if kind = 5 then (if link then s else requestRx s ses b)
  else if kind = 7 then (if link then cascadeRx s ses (leNat (b.take 1)) (bodyNats 8 (b.drop 1)) else s)
  else s

/-! ### Segments (R362, R363) -/

/-- R364: a MSG segment in sequence joins its message; the last one completes it. -/
def msgRx (s : State) (ses c : Nat) (g : RxSeg) : State :=
  let x := chan s ses c
  if !g.first && x.asm_.isNone then s
  else
    let bs := if g.first then g.payload else x.asm_.getD [] ++ g.payload
    if g.last then messageRx (setChan s ses c { x with asm_ := none }) ses bs else setChan s ses c { x with asm_ := some bs }

/-- R355: what a segment in sequence carries. -/
def segRx (s : State) (ses c : Nat) (g : RxSeg) : State :=
  match g.typ with
  | 0x10 => msgRx s ses c g
  | 0x20 => writeRx s ses g
  | 0x21 => wackRx s ses (leNat g.payload)
  | 0x22 => wnakRx s ses g.reason (leNat g.payload)
  | 0x30 => contribRx s ses g
  | _ => s

/-- R360, R362: the next segment in sequence; while CLOSING a segment that begins a message is acknowledged and not accepted. -/
def takeSeg (s : State) (ses c : Nat) (g : RxSeg) : State :=
  let x := chan s ses c
  let s := setChan s ses c { x with rxNext := (x.rxNext + 1) % 2 ^ 32 }
  if (session s ses).st = 3 ∧ g.first then s else segRx s ses c g

/-- R363: segments kept out of order that have come into sequence. -/
def drain (s : State) (ses c : Nat) : Nat → State
  | 0 => s
  | n + 1 =>
    let x := chan s ses c
    match FMap.find x.held x.rxNext with
    | none => s
    | some g => drain (takeSeg (setChan s ses c { x with held := FMap.del x.held x.rxNext }) ses c g) ses c n

/-- R362: a segment has been received: it is acknowledged at once where the sender asks for that or at the 8th that is due. -/
def noteDue (s : State) (ses c : Nat) (now : Bool) : State :=
  if (session s ses).st < 2 then s
  else
    let x := chan s ses c
    let x := { x with due := x.due + 1, dueAt := if x.due = 0 then nowNs s else x.dueAt }
    let s := setChan s ses c x
    if now || decide (8 ≤ x.due) then sendAck s ses c else s

/-- R362, R363: a segment arrives on a channel: one received before is acknowledged again and discarded; one in sequence is taken; version 1.1
keeps those beyond it within the credit. -/
def segmentRx (f : RxFrame) (s : State) : State :=
  let ses := bDsid f.hdr
  let c := bChan f.hdr
  let q := bSeq f.hdr
  let s := ackRx s ses c (bAck f.hdr) (bCredit f.hdr) []
  let x := chan s ses c
  let g : RxSeg := { typ := bTyp f.hdr, first := bitAt f.hdr 239, last := bitAt f.hdr 238, reason := bReason f.hdr, payload := f.payload }
  if serLt q x.rxNext then sendAck s ses c
  else if q = x.rxNext then noteDue (drain (takeSeg s ses c g) ses c 64) ses c (bitAt f.hdr 237)
  else if (session s ses).vmin = 1 ∧ serLt q ((x.rxNext + defCredit c) % 2 ^ 32) then
    noteDue (setChan s ses c { x with held := FMap.set x.held q g }) ses c (bitAt f.hdr 237)
  else s

/-- BROLER_MSG (R362, R364): a segment of a channel message. -/
def execBrolerMsg (s : State) : Host.Outcome State Fault Refusal := takeFrame s 0x10 segmentRx
/-- BROLER_WRITE (R366): a segment of a remote write. -/
def execBrolerWrite (s : State) : Host.Outcome State Fault Refusal := takeFrame s 0x20 segmentRx
/-- BROLER_WACK (R367). -/
def execBrolerWack (s : State) : Host.Outcome State Fault Refusal := takeFrame s 0x21 segmentRx
/-- BROLER_WNAK (R370). -/
def execBrolerWnak (s : State) : Host.Outcome State Fault Refusal := takeFrame s 0x22 segmentRx
/-- BROLER_CONTRIB (R372). -/
def execBrolerContrib (s : State) : Host.Outcome State Fault Refusal := takeFrame s 0x30 segmentRx

end Sys2Proof.Machine
end

