-- ==== Sys2Proof/Machine/Dispatch.lean ====
section
/-! DEFINITION. The dispatcher: one arm per command, each one direct call of its meaning. -/
namespace Sys2Proof.Machine

def exec (i : Instr) (s : State) : Host.Outcome State Fault Refusal :=
  match i with
  | .commandListSubmit ses q ws => Sys2Proof.Machine.execCommandListSubmit ses q ws s
  | .listDispatch q => Sys2Proof.Machine.execListDispatch q s
  | .wait q => Sys2Proof.Machine.execWait q s
  | .signalAdd q => Sys2Proof.Machine.execSignalAdd q s
  | .signalSet q => Sys2Proof.Machine.execSignalSet q s
  | .step q => Sys2Proof.Machine.execStep q s
  | .seqopen q => Sys2Proof.Machine.execSeqopen q s
  | .seqclose q => Sys2Proof.Machine.execSeqclose q s
  | .cancel q => Sys2Proof.Machine.execCancel q s
  | .xfer q => Sys2Proof.Machine.execXfer q s
  | .stage q => Sys2Proof.Machine.execStage q s
  | .chkptSave q => Sys2Proof.Machine.execChkptSave q s
  | .chkptRestore q => Sys2Proof.Machine.execChkptRestore q s
  | .palloc q => Sys2Proof.Machine.execPalloc q s
  | .pfree q => Sys2Proof.Machine.execPfree q s
  | .ptedit q => Sys2Proof.Machine.execPtedit q s
  | .pshare q => Sys2Proof.Machine.execPshare q s
  | .sparam q => Sys2Proof.Machine.execSparam q s
  | .skey q => Sys2Proof.Machine.execSkey q s
  | .ssrc q => Sys2Proof.Machine.execSsrc q s
  | .program q => Sys2Proof.Machine.execProgram q s
  | .calibrate q => Sys2Proof.Machine.execCalibrate q s
  | .swap q => Sys2Proof.Machine.execSwap q s
  | .disarm q => Sys2Proof.Machine.execDisarm q s
  | .refresh q => Sys2Proof.Machine.execRefresh q s
  | .retire q => Sys2Proof.Machine.execRetire q s
  | .queryWear q => Sys2Proof.Machine.execQueryWear q s
  | .queryTable q => Sys2Proof.Machine.execQueryTable q s
  | .queryColsums q => Sys2Proof.Machine.execQueryColsums q s
  | .wopen q => Sys2Proof.Machine.execWopen q s
  | .wclose q => Sys2Proof.Machine.execWclose q s
  | .rwrite q => Sys2Proof.Machine.execRwrite q s
  | .dbgrel q => Sys2Proof.Machine.execDbgrel q s
  | .dbgrd q => Sys2Proof.Machine.execDbgrd q s
  | .read ses reqid items => Sys2Proof.Machine.execRead ses reqid items s
  | .write ses reqid items => Sys2Proof.Machine.execWrite ses reqid items s
  | .describe ses reqid items => Sys2Proof.Machine.execDescribe ses reqid items s
  | .list ses reqid first last => Sys2Proof.Machine.execList ses reqid first last s
  | .ackattn ses reqid c => Sys2Proof.Machine.execAckattn ses reqid c s
  | .evcomplete ses reqid n => Sys2Proof.Machine.execEvcomplete ses reqid n s
  | .load ses reqid body => Sys2Proof.Machine.execLoad ses reqid body s
  | .loadComplete p => Sys2Proof.Machine.execLoadComplete p s
  | .unload ses reqid p => Sys2Proof.Machine.execUnload ses reqid p s
  | .restart ses reqid p => Sys2Proof.Machine.execRestart ses reqid p s
  | .replaceTile ses reqid body => Sys2Proof.Machine.execReplaceTile ses reqid body s
  | .replaceUnhealthy ses reqid body => Sys2Proof.Machine.execReplaceUnhealthy ses reqid body s
  | .replaceTrigger p => Sys2Proof.Machine.execReplaceTrigger p s
  | .replaceComplete p => Sys2Proof.Machine.execReplaceComplete p s
  | .promote ses reqid p gid => Sys2Proof.Machine.execPromote ses reqid p gid s
  | .mcarmNumeric ses reqid p v => Sys2Proof.Machine.execMcarmNumeric ses reqid p v s
  | .mcarmBand ses reqid p v => Sys2Proof.Machine.execMcarmBand ses reqid p v s
  | .mcarmPower ses reqid v => Sys2Proof.Machine.execMcarmPower ses reqid v s
  | .mcArmed => Sys2Proof.Machine.execMcArmed s
  | .mcArmTimeout => Sys2Proof.Machine.execMcArmTimeout s
  | .mcHoldTimeout => Sys2Proof.Machine.execMcHoldTimeout s
  | .mcapply ses reqid epoch => Sys2Proof.Machine.execMcapply ses reqid epoch s
  | .mcApplyEpoch bad => Sys2Proof.Machine.execMcApplyEpoch bad s
  | .mcConfirmEnd => Sys2Proof.Machine.execMcConfirmEnd s
  | .mcabort ses reqid => Sys2Proof.Machine.execMcabort ses reqid s
  | .imgbegin ses reqid id len => Sys2Proof.Machine.execImgbegin ses reqid id len s
  | .imgdata ses reqid id off data => Sys2Proof.Machine.execImgdata ses reqid id off data s
  | .imgend ses reqid id => Sys2Proof.Machine.execImgend ses reqid id s
  | .imgdelete ses reqid id => Sys2Proof.Machine.execImgdelete ses reqid id s
  | .fwbegin ses reqid len => Sys2Proof.Machine.execFwbegin ses reqid len s
  | .fwdata ses reqid off data => Sys2Proof.Machine.execFwdata ses reqid off data s
  | .fwend ses reqid => Sys2Proof.Machine.execFwend ses reqid s
  | .fwactivate ses reqid mask => Sys2Proof.Machine.execFwactivate ses reqid mask s
  | .fwSlotSwitched ok => Sys2Proof.Machine.execFwSlotSwitched ok s
  | .fwconfirm ses reqid => Sys2Proof.Machine.execFwconfirm ses reqid s
  | .fwrollback ses reqid => Sys2Proof.Machine.execFwrollback ses reqid s
  | .fwabort ses reqid => Sys2Proof.Machine.execFwabort ses reqid s
  | .fwConfirmTimeout => Sys2Proof.Machine.execFwConfirmTimeout s
  | .recover ses reqid => Sys2Proof.Machine.execRecover ses reqid s
  | .selectorWrite ses reqid idx el v => Sys2Proof.Machine.execSelectorWrite ses reqid idx el v s
  | .partEnableSet ses reqid p => Sys2Proof.Machine.execPartEnableSet ses reqid p s
  | .enableCheckDone p => Sys2Proof.Machine.execEnableCheckDone p s
  | .partEnableClear ses reqid p => Sys2Proof.Machine.execPartEnableClear ses reqid p s
  | .portEnableSet ses reqid mgmt => Sys2Proof.Machine.execPortEnableSet ses reqid mgmt s
  | .policyEnableSet ses reqid thermal => Sys2Proof.Machine.execPolicyEnableSet ses reqid thermal s
  | .brickPrepare ses reqid => Sys2Proof.Machine.execBrickPrepare ses reqid s
  | .brickUnprepare ses reqid => Sys2Proof.Machine.execBrickUnprepare ses reqid s
  | .blockRestart ses reqid => Sys2Proof.Machine.execBlockRestart ses reqid s
  | .blockRestartDone c phases ok => Sys2Proof.Machine.execBlockRestartDone c phases ok s
  | .regionReturnRequest ses reqid h => Sys2Proof.Machine.execRegionReturnRequest ses reqid h s
  | .resume ses reqid => Sys2Proof.Machine.execResume ses reqid s
  | .powerTargetStandby ses reqid => Sys2Proof.Machine.execPowerTargetStandby ses reqid s
  | .powerTargetAttended ses reqid => Sys2Proof.Machine.execPowerTargetAttended ses reqid s
  | .powerTargetReady ses reqid => Sys2Proof.Machine.execPowerTargetReady ses reqid s
  | .unitReinstate ses reqid => Sys2Proof.Machine.execUnitReinstate ses reqid s
  | .ftestRequestLight ses reqid t => Sys2Proof.Machine.execFtestRequestLight ses reqid t s
  | .ftestRequestFull ses reqid t => Sys2Proof.Machine.execFtestRequestFull ses reqid t s
  | .cardPrepare ses reqid => Sys2Proof.Machine.execCardPrepare ses reqid s
  | .evConfigWrite ses reqid n v => Sys2Proof.Machine.execEvConfigWrite ses reqid n v s
  | .evOverrunClear ses reqid n => Sys2Proof.Machine.execEvOverrunClear ses reqid n s
  | .evSense n => Sys2Proof.Machine.execEvSense n s
  | .evTake srv => Sys2Proof.Machine.execEvTake srv s
  | .attnFrameSend => Sys2Proof.Machine.execAttnFrameSend s
  | .stepLaunch t => Sys2Proof.Machine.execStepLaunch t s
  | .nop t => Sys2Proof.Machine.execNop t s
  | .endCmd t => Sys2Proof.Machine.execEndCmd t s
  | .tstep t => Sys2Proof.Machine.execTstep t s
  | .waitf t => Sys2Proof.Machine.execWaitf t s
  | .fence t => Sys2Proof.Machine.execFence t s
  | .syncSignal t => Sys2Proof.Machine.execSyncSignal t s
  | .syncWait t => Sys2Proof.Machine.execSyncWait t s
  | .brk t => Sys2Proof.Machine.execBrk t s
  | .evalA4 t => Sys2Proof.Machine.execEvalA4 t s
  | .evalA8 t => Sys2Proof.Machine.execEvalA8 t s
  | .evalResultWrite t a codes => Sys2Proof.Machine.execEvalResultWrite t a codes s
  | .scl t => Sys2Proof.Machine.execScl t s
  | .tmm t => Sys2Proof.Machine.execTmm t s
  | .tmmResultWrite t => Sys2Proof.Machine.execTmmResultWrite t s
  | .vewAdd t => Sys2Proof.Machine.execVewAdd t s
  | .vewSub t => Sys2Proof.Machine.execVewSub t s
  | .vewMul t => Sys2Proof.Machine.execVewMul t s
  | .vewFma t => Sys2Proof.Machine.execVewFma t s
  | .vewDiv t => Sys2Proof.Machine.execVewDiv t s
  | .vewMax t => Sys2Proof.Machine.execVewMax t s
  | .vewMin t => Sys2Proof.Machine.execVewMin t s
  | .vewSqrt t => Sys2Proof.Machine.execVewSqrt t s
  | .vewRsqrt t => Sys2Proof.Machine.execVewRsqrt t s
  | .vewRecip t => Sys2Proof.Machine.execVewRecip t s
  | .vewExp2 t => Sys2Proof.Machine.execVewExp2 t s
  | .vewLog2 t => Sys2Proof.Machine.execVewLog2 t s
  | .vewExp t => Sys2Proof.Machine.execVewExp t s
  | .vewLog t => Sys2Proof.Machine.execVewLog t s
  | .vewSin t => Sys2Proof.Machine.execVewSin t s
  | .vewCos t => Sys2Proof.Machine.execVewCos t s
  | .vewTanh t => Sys2Proof.Machine.execVewTanh t s
  | .vewSigmoid t => Sys2Proof.Machine.execVewSigmoid t s
  | .vewSilu t => Sys2Proof.Machine.execVewSilu t s
  | .vewGelu t => Sys2Proof.Machine.execVewGelu t s
  | .vewRotary t => Sys2Proof.Machine.execVewRotary t s
  | .vewToBf16 t => Sys2Proof.Machine.execVewToBf16 t s
  | .vewToFp32 t => Sys2Proof.Machine.execVewToFp32 t s
  | .vewMulScalar t => Sys2Proof.Machine.execVewMulScalar t s
  | .vewAddScalar t => Sys2Proof.Machine.execVewAddScalar t s
  | .vredSum t => Sys2Proof.Machine.execVredSum t s
  | .vredSumSquares t => Sys2Proof.Machine.execVredSumSquares t s
  | .vredMax t => Sys2Proof.Machine.execVredMax t s
  | .vredMin t => Sys2Proof.Machine.execVredMin t s
  | .vsmx t => Sys2Proof.Machine.execVsmx t s
  | .qnt t => Sys2Proof.Machine.execQnt t s
  | .guardRepeatStart t => Sys2Proof.Machine.execGuardRepeatStart t s
  | .topkSelect t => Sys2Proof.Machine.execTopkSelect t s
  | .topkMerge t => Sys2Proof.Machine.execTopkMerge t s
  | .fill t => Sys2Proof.Machine.execFill t s
  | .copy t => Sys2Proof.Machine.execCopy t s
  | .send t => Sys2Proof.Machine.execSend t s
  | .sendArrive src n => Sys2Proof.Machine.execSendArrive src n s
  | .rdcSum t => Sys2Proof.Machine.execRdcSum t s
  | .rdcTopk t => Sys2Proof.Machine.execRdcTopk t s
  | .reductionOperandArrive k => Sys2Proof.Machine.execReductionOperandArrive k s
  | .reductionResultArrive k => Sys2Proof.Machine.execReductionResultArrive k s
  | .kvrd t => Sys2Proof.Machine.execKvrd t s
  | .kvrdComplete t => Sys2Proof.Machine.execKvrdComplete t s
  | .kvap t => Sys2Proof.Machine.execKvap t s
  | .pcallChain t => Sys2Proof.Machine.execPcallChain t s
  | .retrieverCallDone t => Sys2Proof.Machine.execRetrieverCallDone t s
  | .pcallPageAlloc t => Sys2Proof.Machine.execPcallPageAlloc t s
  | .allocCopyDone p n => Sys2Proof.Machine.execAllocCopyDone p n s
  | .ringFillDone n => Sys2Proof.Machine.execRingFillDone n s
  | .samplerTree t => Sys2Proof.Machine.execSamplerTree t s
  | .samplerAccept t => Sys2Proof.Machine.execSamplerAccept t s
  | .samplerPublish t => Sys2Proof.Machine.execSamplerPublish t s
  | .acceptMissing p => Sys2Proof.Machine.execAcceptMissing p s
  | .stepBoundary p => Sys2Proof.Machine.execStepBoundary p s
  | .tswapEnd p => Sys2Proof.Machine.execTswapEnd p s
  | .bandTableLoadDone p => Sys2Proof.Machine.execBandTableLoadDone p s
  | .tempLatchTick t => Sys2Proof.Machine.execTempLatchTick t s
  | .tileLate t => Sys2Proof.Machine.execTileLate t s
  | .stallNotice t src => Sys2Proof.Machine.execStallNotice t src s
  | .resumeNotice t src lat => Sys2Proof.Machine.execResumeNotice t src lat s
  | .stallLimitExpire p => Sys2Proof.Machine.execStallLimitExpire p s
  | .cancelNoticeTile t slot => Sys2Proof.Machine.execCancelNoticeTile t slot s
  | .cancelRecorded p seq lat => Sys2Proof.Machine.execCancelRecorded p seq lat s
  | .scrubLine t line conds => Sys2Proof.Machine.execScrubLine t line conds s
  | .bankVerifyDone t a b cells slow pulses => Sys2Proof.Machine.execBankVerifyDone t a b cells slow pulses s
  | .vpgmGrant => Sys2Proof.Machine.execVpgmGrant s
  | .calFitDone t a b fit => Sys2Proof.Machine.execCalFitDone t a b fit s
  | .calTimeout t a b => Sys2Proof.Machine.execCalTimeout t a b s
  | .repairDone t a b cells slow pulses fit => Sys2Proof.Machine.execRepairDone t a b cells slow pulses fit s
  | .driftProbe t a b codes => Sys2Proof.Machine.execDriftProbe t a b codes s
  | .schedulerEval => Sys2Proof.Machine.execSchedulerEval s
  | .captureDrain t => Sys2Proof.Machine.execCaptureDrain t s
  | .arbitrationStart => Sys2Proof.Machine.execArbitrationStart s
  | .arbitrationVerdict id => Sys2Proof.Machine.execArbitrationVerdict id s
  | .kennelBlockCommit => Sys2Proof.Machine.execKennelBlockCommit s
  | .kennelSuspectExpire ukind unit sub => Sys2Proof.Machine.execKennelSuspectExpire ukind unit sub s
  | .ftestLightDue d => Sys2Proof.Machine.execFtestLightDue d s
  | .ftestFullDue d => Sys2Proof.Machine.execFtestFullDue d s
  | .ftestDone d part => Sys2Proof.Machine.execFtestDone d part s
  | .flitCrcError t port again => Sys2Proof.Machine.execFlitCrcError t port again s
  | .routerFail t => Sys2Proof.Machine.execRouterFail t s
  | .referenceFail r => Sys2Proof.Machine.execReferenceFail r s
  | .hubLinkDieFail l => Sys2Proof.Machine.execHubLinkDieFail l s
  | .hbmPatrol k e corrected bad => Sys2Proof.Machine.execHbmPatrol k e corrected bad s
  | .stackTempSample k v => Sys2Proof.Machine.execStackTempSample k v s
  | .frameReceive p e bs => Sys2Proof.Machine.execFrameReceive p e bs s
  | .brolerOpen peerId => Sys2Proof.Machine.execBrolerOpen peerId s
  | .brolerChallenge => Sys2Proof.Machine.execBrolerChallenge s
  | .brolerProve => Sys2Proof.Machine.execBrolerProve s
  | .brolerAccept peerId => Sys2Proof.Machine.execBrolerAccept peerId s
  | .brolerRefuse => Sys2Proof.Machine.execBrolerRefuse s
  | .proveTimeout ses => Sys2Proof.Machine.execProveTimeout ses s
  | .brolerClose => Sys2Proof.Machine.execBrolerClose s
  | .closingDone ses => Sys2Proof.Machine.execClosingDone ses s
  | .brolerKeepalive => Sys2Proof.Machine.execBrolerKeepalive s
  | .keepaliveSend ses => Sys2Proof.Machine.execKeepaliveSend ses s
  | .brolerAckf => Sys2Proof.Machine.execBrolerAckf s
  | .ackDelay ses c => Sys2Proof.Machine.execAckDelay ses c s
  | .retransmitTimeout ses c => Sys2Proof.Machine.execRetransmitTimeout ses c s
  | .sessionLoss ses => Sys2Proof.Machine.execSessionLoss ses s
  | .brolerMsg => Sys2Proof.Machine.execBrolerMsg s
  | .brolerWrite => Sys2Proof.Machine.execBrolerWrite s
  | .writeLanded k => Sys2Proof.Machine.execWriteLanded k s
  | .brolerWack => Sys2Proof.Machine.execBrolerWack s
  | .brolerWnak => Sys2Proof.Machine.execBrolerWnak s
  | .brolerContrib => Sys2Proof.Machine.execBrolerContrib s
  | .exportTrigger p e => Sys2Proof.Machine.execExportTrigger p e s
  | .pfcFrame p pauses => Sys2Proof.Machine.execPfcFrame p pauses s
  | .neighborSolicitation p target => Sys2Proof.Machine.execNeighborSolicitation p target s
  | .echoRequest p dst src => Sys2Proof.Machine.execEchoRequest p dst src s
  | .osfpInsert p cls watts => Sys2Proof.Machine.execOsfpInsert p cls watts s
  | .osfpRemove p => Sys2Proof.Machine.execOsfpRemove p s
  | .portLinkChange p up => Sys2Proof.Machine.execPortLinkChange p up s
  | .portElecFault p => Sys2Proof.Machine.execPortElecFault p s
  | .join ses => Sys2Proof.Machine.execJoin ses s
  | .joinTimeout p => Sys2Proof.Machine.execJoinTimeout p s
  | .stepgo ses n prog binds => Sys2Proof.Machine.execStepgo ses n prog binds s
  | .masks ses n slots => Sys2Proof.Machine.execMasks ses n slots s
  | .groupCommit ses n words => Sys2Proof.Machine.execGroupCommit ses n words s
  | .committed ses n => Sys2Proof.Machine.execCommitted ses n s
  | .boundary ses n ws => Sys2Proof.Machine.execBoundary ses n ws s
  | .boundaryAck ses n => Sys2Proof.Machine.execBoundaryAck ses n s
  | .confirm ses n => Sys2Proof.Machine.execConfirm ses n s
  | .cancelForward ses q => Sys2Proof.Machine.execCancelForward ses q s
  | .groupMasking ses q slot fin last => Sys2Proof.Machine.execGroupMasking ses q slot fin last s
  | .windowAnnounce ses w e st => Sys2Proof.Machine.execWindowAnnounce ses w e st s
  | .masterlost ses => Sys2Proof.Machine.execMasterlost ses s
  | .backupPromote p => Sys2Proof.Machine.execBackupPromote p s
  | .newmaster ses epoch n => Sys2Proof.Machine.execNewmaster ses epoch n s
  | .feedStateChange f volts ma => Sys2Proof.Machine.execFeedStateChange f volts ma s
  | .feedUsable f => Sys2Proof.Machine.execFeedUsable f s
  | .feedReturnPreferred b => Sys2Proof.Machine.execFeedReturnPreferred b s
  | .brickFault b => Sys2Proof.Machine.execBrickFault b s
  | .brickInsert b => Sys2Proof.Machine.execBrickInsert b s
  | .brickRemove b => Sys2Proof.Machine.execBrickRemove b s
  | .brickStartDone b => Sys2Proof.Machine.execBrickStartDone b s
  | .brickShedDone b => Sys2Proof.Machine.execBrickShedDone b s
  | .dropshareSample c ph drv vout vsense varr vpgmOk fault => Sys2Proof.Machine.execDropshareSample c ph drv vout vsense varr vpgmOk fault s
  | .governorRegionTick h d pst => Sys2Proof.Machine.execGovernorRegionTick h d pst s
  | .governorModuleTick pin dyn bus bricks => Sys2Proof.Machine.execGovernorModuleTick pin dyn bus bricks s
  | .windowBoundary => Sys2Proof.Machine.execWindowBoundary s
  | .thermalModelTick powers => Sys2Proof.Machine.execThermalModelTick powers s
  | .hotspotSample h a b => Sys2Proof.Machine.execHotspotSample h a b s
  | .regionReturn h => Sys2Proof.Machine.execRegionReturn h s
  | .coolantSample v => Sys2Proof.Machine.execCoolantSample v s
  | .coolantRecovered => Sys2Proof.Machine.execCoolantRecovered s
  | .holdExpire => Sys2Proof.Machine.execHoldExpire s
  | .leakWet k => Sys2Proof.Machine.execLeakWet k s
  | .leakLoopBreak k => Sys2Proof.Machine.execLeakLoopBreak k s
  | .alarmInput => Sys2Proof.Machine.execAlarmInput s
  | .standbySupplyAppear => Sys2Proof.Machine.execStandbySupplyAppear s
  | .sheepdogSample carrier v => Sys2Proof.Machine.execSheepdogSample carrier v s
  | .wakeEvent n => Sys2Proof.Machine.execWakeEvent n s
  | .scheduledWake => Sys2Proof.Machine.execScheduledWake s
  | .mgmtOpenWake m => Sys2Proof.Machine.execMgmtOpenWake m s
  | .retentionWake => Sys2Proof.Machine.execRetentionWake s
  | .wakeGateOpen => Sys2Proof.Machine.execWakeGateOpen s
  | .wakeGateTimeout => Sys2Proof.Machine.execWakeGateTimeout s
  | .attendedIdleTimeout => Sys2Proof.Machine.execAttendedIdleTimeout s
  | .powerOnStepDone bad evals => Sys2Proof.Machine.execPowerOnStepDone bad evals s
  | .powerOnStepOverrun bad evals => Sys2Proof.Machine.execPowerOnStepOverrun bad evals s
  | .stopLimitExpire => Sys2Proof.Machine.execStopLimitExpire s
  | .stopStepsDrained => Sys2Proof.Machine.execStopStepsDrained s
  | .preservationDone p => Sys2Proof.Machine.execPreservationDone p s
  | .stopRecordsDone => Sys2Proof.Machine.execStopRecordsDone s
  | .powerLoss => Sys2Proof.Machine.execPowerLoss s
  | .shutdownStamp commits mv => Sys2Proof.Machine.execShutdownStamp commits mv s
  | .busDepleted => Sys2Proof.Machine.execBusDepleted s
  | .cardFault c => Sys2Proof.Machine.execCardFault c s
  | .cardBootFail c => Sys2Proof.Machine.execCardBootFail c s
  | .cardInsert c => Sys2Proof.Machine.execCardInsert c s
  | .cardSyncDone c => Sys2Proof.Machine.execCardSyncDone c s
  | .recoveryRelease => Sys2Proof.Machine.execRecoveryRelease s
  | .evProcessorComplete n => Sys2Proof.Machine.execEvProcessorComplete n s
  | .mcArmUnitFail k => Sys2Proof.Machine.execMcArmUnitFail k s
  | .memoryBridgeFail m => Sys2Proof.Machine.execMemoryBridgeFail m s
  | .neighborAdvertisement p target lladdr => Sys2Proof.Machine.execNeighborAdvertisement p target lladdr s
  | .pfcPauseExpire p pri => Sys2Proof.Machine.execPfcPauseExpire p pri s
  | .leakDry k => Sys2Proof.Machine.execLeakDry k s
  | .alarmInputOpen => Sys2Proof.Machine.execAlarmInputOpen s
  | .cardRemove c => Sys2Proof.Machine.execCardRemove c s
  | .testAccessPortClock c tms tdi trst => Sys2Proof.Machine.execTestAccessPortClock c tms tdi trst s
  | .rtcStoreExhausted => Sys2Proof.Machine.execRtcStoreExhausted s
  | .mgmtPortLinkChange m up => Sys2Proof.Machine.execMgmtPortLinkChange m up s

end Sys2Proof.Machine
end

