-- ==== Sys2Proof/Machine/Tick.lean ====
section
/-! DEFINITION. What passes by itself: one period of the module reference (R141, R219), which is what the block does while no command waits. -/
namespace Sys2Proof.Machine

/-- R141, R142: a tile's step clock runs only while its partition has no stall outstanding that the tile knows of: none of which a notice has
told it, and no dark tile or lost quorum of its partition. -/
def clockRuns (s : State) (e : Nat × TileRun) : Bool := e.2.stalls.isEmpty && !frozen s e.2.part && !tileDark s e.1

/-- R141: the step clocks of the tiles after one more tick of 6.4 ns. -/
def tickTiles (s : State) : FMap TileRun :=
  s.tiles.map fun e => if clockRuns s e then (e.1, { e.2 with clk := e.2.clk + 1 }) else e

/-- R88: the module was woken for a refresh, and every resident bank has had it. DESIGN CHOICE (log 112): the host has commanded otherwise once it
has written a power target, and for as long as a list of its waits or runs. -/
def refreshOver (s : State) : Bool :=
  s.life.refresh && s.power == .ready && s.queues.all (fun e => e.2.running.isNone && e.2.waiting.isEmpty)
    && s.banks.all fun e => e.2.op == .none && e.2.plan != 2 && !((e.2.st == .inService || e.2.st == .standby) && e.2.refreshDue)

/-- One tick of the module reference. The checkpoint copies that run complete (R344, log 27). The module returns to standby when the refresh that it was woken for completes (R88, R510). -/
def tick (s : State) : State :=
  let s := { s with refTicks := s.refTicks + 1, tiles := tickTiles s }
  let s := if s.queues.any fun e => e.2.running.any fun r => r.begun && r.aux == copyMark then (List.range 16).foldl copiesEnd s else s
  if refreshOver s then beginStop s 1 else s

end Sys2Proof.Machine
end

