-- ==== Sys2Proof/Safety.lean ====
section
/-! DEFINITION. What a good state of the block is: the form of its memories and the capacities that the manual gives its stores. A run is
safe while every state of it is good; reset is, and every step keeps it. -/
namespace Sys2Proof.Machine

/-- The block's memories are in canonical form, and its bounded stores are within their capacities. -/
structure State.Good (s : State) : Prop where
  /-- R145: the scratchpads are one memory in canonical form. -/
  sp : Memory.wf s.sp = true
  /-- R328: the stacks are one memory in canonical form. -/
  hbm : Memory.wf s.hbm = true
  /-- R151: the accumulator memories are one table in canonical form. -/
  acc : FMap.wf (0 : W32) s.acc = true
  /-- R183: the synchronisation objects are one table in canonical form. -/
  sync : FMap.wf 0 s.sync = true
  /-- R408: the attention log keeps the newest 256 causes. -/
  log : s.attn.log.length ≤ 256
  /-- R403: at most four uploads are open. -/
  uploads : s.uploads.length ≤ 4
  /-- R475: the capture store holds 64 captures. -/
  captures : s.captures.length ≤ 64
  /-- R477: the verdict record is kept for the newest 256 captures. -/
  verdicts : s.verdicts.length ≤ 256

/-- `t` is good where `s` is. -/
structure Keeps (s t : State) : Prop where
  good : s.Good → t.Good

/-- Every next state of an outcome is good where `s` is. -/
structure KeepsO (s : State) (o : Host.Outcome State Fault Refusal) : Prop where
  next_good : ∀ t, o = .next t → Keeps s t

end Sys2Proof.Machine
end

