-- ==== Sys2Proof/WellFormed.lean ====
section
/-! DEFINITION. Which commands are well formed: every operand lies in the range that the manual gives it. Requests and segments of any
content reach the block as bytes of a frame, so the ranges here are those of fields, not the conditions that the block itself checks. -/
namespace Sys2Proof

/-- A field of `n` bits. -/
def isU (n v : Nat) : Bool := decide (v < 2 ^ n)
/-- R8: a tile address of the built wafer: die 0–23, half, cluster 0–5 of the half, tile 0–7, unit 0. -/
def isTile (t : Nat) : Bool := decide (t < 49152) && decide (fld t 9 7 < 6) && decide (t % 16 = 0)
/-- R15: partitions 0–15. -/
def isPart (p : Nat) : Bool := decide (p < 16)
/-- R19: queue of a partition's engine 0–5 or 7, partition × 8 + engine. -/
def isQueue (q : Nat) : Bool := decide (q < 128) && decide (q % 8 ≠ 6)
/-- R358: a session identifier. -/
def isSsid (n : Nat) : Bool := decide (n < 65536)
/-- R358, R397: a session identifier, or 65,536 for the serial console. -/
def isSession (n : Nat) : Bool := decide (n ≤ 65536)
/-- R356: channels 0–5. -/
def isChan (c : Nat) : Bool := decide (c < 6)
/-- R351: ports 0–47, and 48 and 49 for the management ports. -/
def isPort (p : Nat) : Bool := decide (p < 50)
/-- R9, R443: clusters 0–287 of the built wafer. -/
def isCluster (c : Nat) : Bool := decide (c < 288)
/-- R7: dies 0–23. -/
def isDie (d : Nat) : Bool := decide (d < 24)
/-- R454: hot spots 0–575. -/
def isSpot (h : Nat) : Bool := decide (h < 576)
/-- R326: stacks 0–39. -/
def isStack (k : Nat) : Bool := decide (k < 40)
/-- R25, R188: slots 0–255. -/
def isSlot (n : Nat) : Bool := decide (n < 256)
/-- R423: event sources 0–511. -/
def isSource (n : Nat) : Bool := decide (n < 512)
/-- R66, R68: the sizes of what a calibration fit gives. -/
def isFit (f : FitTable) : Bool :=
  isU 16 f.resid && decide (f.cols.length = 1040) && decide (f.trim.length = 32) && decide (f.sig.length = 1040)
/-- R41: two or four lists of phase codes for the 1,040 columns, or none where nothing was measured. -/
def isCodes (l : List (List (BitVec 12))) : Bool := (l.isEmpty || l.length == 2) && l.all fun x => decide (x.length = 1040)
/-- R502: a bank number, tile × 8 + array × 2 + bank, with its codes. -/
def isBankEval (e : BankEval) : Bool := decide (e.bank < 393216) && isCodes e.ones && isCodes e.probe

/-- Every operand of the command lies in its range. -/
def Instr.wf (i : Instr) : Bool :=
  match i with
  | .commandListSubmit ses q ws => isSession ses && isQueue q && decide (1 ≤ ws.length) && decide (ws.length ≤ 4096)
  | .listDispatch q => isQueue q
  | .wait q => isQueue q
  | .signalAdd q => isQueue q
  | .signalSet q => isQueue q
  | .step q => isQueue q
  | .seqopen q => isQueue q
  | .seqclose q => isQueue q
  | .cancel q => isQueue q
  | .xfer q => isQueue q
  | .stage q => isQueue q
  | .chkptSave q => isQueue q
  | .chkptRestore q => isQueue q
  | .palloc q => isQueue q
  | .pfree q => isQueue q
  | .ptedit q => isQueue q
  | .pshare q => isQueue q
  | .sparam q => isQueue q
  | .skey q => isQueue q
  | .ssrc q => isQueue q
  | .program q => isQueue q
  | .calibrate q => isQueue q
  | .swap q => isQueue q
  | .disarm q => isQueue q
  | .refresh q => isQueue q
  | .retire q => isQueue q
  | .queryWear q => isQueue q
  | .queryTable q => isQueue q
  | .queryColsums q => isQueue q
  | .wopen q => isQueue q
  | .wclose q => isQueue q
  | .rwrite q => isQueue q
  | .dbgrel q => isQueue q
  | .dbgrd q => isQueue q
  | .read ses reqid items => isSession ses && isU 32 reqid && decide (items.length < 4096) && items.all (isU 64)
  | .write ses reqid items => isSession ses && isU 32 reqid && decide (items.length < 4096) && items.all fun w => decide (w.value.length = w.head.toNat % 65536)
  | .describe ses reqid items => isSession ses && isU 32 reqid && decide (items.length < 4096) && items.all (isU 64)
  | .list ses reqid first last => isSession ses && isU 32 reqid && isU 16 first && isU 16 last
  | .ackattn ses reqid c => isSession ses && isU 32 reqid && isU 32 c
  | .evcomplete ses reqid n => isSession ses && isU 32 reqid && isU 16 n
  | .load ses reqid body => isSession ses && isU 32 reqid && isU 256 body
  | .loadComplete p => isPart p
  | .unload ses reqid p => isSession ses && isU 32 reqid && isPart p
  | .restart ses reqid p => isSession ses && isU 32 reqid && isPart p
  | .replaceTile ses reqid body => isSession ses && isU 32 reqid && isU 256 body
  | .replaceUnhealthy ses reqid body => isSession ses && isU 32 reqid && isU 256 body
  | .replaceTrigger p => isPart p
  | .replaceComplete p => isPart p
  | .promote ses reqid p gid => isSession ses && isU 32 reqid && isPart p && isU 32 gid
  | .mcarmNumeric ses reqid p v => isSession ses && isU 32 reqid && isPart p && isU 8 v
  | .mcarmBand ses reqid p v => isSession ses && isU 32 reqid && isPart p && isU 8 v
  | .mcarmPower ses reqid v => isSession ses && isU 32 reqid && isU 8 v
  | .mcArmed => true
  | .mcArmTimeout => true
  | .mcHoldTimeout => true
  | .mcapply ses reqid epoch => isSession ses && isU 32 reqid && isU 64 epoch
  | .mcApplyEpoch _ => true
  | .mcConfirmEnd => true
  | .mcabort ses reqid => isSession ses && isU 32 reqid
  | .imgbegin ses reqid id len => isSession ses && isU 32 reqid && isU 64 id && isU 64 len
  | .imgdata ses reqid id off data => isSession ses && isU 32 reqid && isU 64 id && isU 64 off && decide (data.length ≤ 2097136)
  | .imgend ses reqid id => isSession ses && isU 32 reqid && isU 64 id
  | .imgdelete ses reqid id => isSession ses && isU 32 reqid && isU 64 id
  | .fwbegin ses reqid len => isSession ses && isU 32 reqid && isU 64 len
  | .fwdata ses reqid off data => isSession ses && isU 32 reqid && isU 64 off && decide (data.length ≤ 2097136)
  | .fwend ses reqid => isSession ses && isU 32 reqid
  | .fwactivate ses reqid mask => isSession ses && isU 32 reqid && isU 16 mask
  | .fwSlotSwitched _ => true
  | .fwconfirm ses reqid => isSession ses && isU 32 reqid
  | .fwrollback ses reqid => isSession ses && isU 32 reqid
  | .fwabort ses reqid => isSession ses && isU 32 reqid
  | .fwConfirmTimeout => true
  | .recover ses reqid => isSession ses && isU 32 reqid
  | .selectorWrite ses reqid idx el v => isSession ses && isU 32 reqid && isU 16 idx && isU 8 el && isU 64 v
  | .partEnableSet ses reqid p => isSession ses && isU 32 reqid && isPart p
  | .enableCheckDone p => isPart p
  | .partEnableClear ses reqid p => isSession ses && isU 32 reqid && isPart p
  | .portEnableSet ses reqid _ => isSession ses && isU 32 reqid
  | .policyEnableSet ses reqid _ => isSession ses && isU 32 reqid
  | .brickPrepare ses reqid => isSession ses && isU 32 reqid
  | .brickUnprepare ses reqid => isSession ses && isU 32 reqid
  | .blockRestart ses reqid => isSession ses && isU 32 reqid
  | .blockRestartDone c phases _ => isCluster c && decide (phases ≤ 8)
  | .regionReturnRequest ses reqid h => isSession ses && isU 32 reqid && isSpot h
  | .resume ses reqid => isSession ses && isU 32 reqid
  | .powerTargetStandby ses reqid => isSession ses && isU 32 reqid
  | .powerTargetAttended ses reqid => isSession ses && isU 32 reqid
  | .powerTargetReady ses reqid => isSession ses && isU 32 reqid
  | .unitReinstate ses reqid => isSession ses && isU 32 reqid
  | .ftestRequestLight ses reqid t => isSession ses && isU 32 reqid && isU 16 t
  | .ftestRequestFull ses reqid t => isSession ses && isU 32 reqid && isU 16 t
  | .cardPrepare ses reqid => isSession ses && isU 32 reqid
  | .evConfigWrite ses reqid n v => isSession ses && isU 32 reqid && isSource n && isU 16 v
  | .evOverrunClear ses reqid n => isSession ses && isU 32 reqid && isSource n
  | .evSense n => isSource n
  | .evTake srv => decide (srv < 2)
  | .attnFrameSend => true
  | .stepLaunch t => isTile t
  | .nop t => isTile t
  | .endCmd t => isTile t
  | .tstep t => isTile t
  | .waitf t => isTile t
  | .fence t => isTile t
  | .syncSignal t => isTile t
  | .syncWait t => isTile t
  | .brk t => isTile t
  | .evalA4 t => isTile t
  | .evalA8 t => isTile t
  | .evalResultWrite t a codes => isTile t && decide (a < 64) && (codes.length == 2 || codes.length == 4) && codes.all fun l => decide (l.length = 1040)
  | .scl t => isTile t
  | .tmm t => isTile t
  | .tmmResultWrite t => isTile t
  | .vewAdd t => isTile t
  | .vewSub t => isTile t
  | .vewMul t => isTile t
  | .vewFma t => isTile t
  | .vewDiv t => isTile t
  | .vewMax t => isTile t
  | .vewMin t => isTile t
  | .vewSqrt t => isTile t
  | .vewRsqrt t => isTile t
  | .vewRecip t => isTile t
  | .vewExp2 t => isTile t
  | .vewLog2 t => isTile t
  | .vewExp t => isTile t
  | .vewLog t => isTile t
  | .vewSin t => isTile t
  | .vewCos t => isTile t
  | .vewTanh t => isTile t
  | .vewSigmoid t => isTile t
  | .vewSilu t => isTile t
  | .vewGelu t => isTile t
  | .vewRotary t => isTile t
  | .vewToBf16 t => isTile t
  | .vewToFp32 t => isTile t
  | .vewMulScalar t => isTile t
  | .vewAddScalar t => isTile t
  | .vredSum t => isTile t
  | .vredSumSquares t => isTile t
  | .vredMax t => isTile t
  | .vredMin t => isTile t
  | .vsmx t => isTile t
  | .qnt t => isTile t
  | .guardRepeatStart t => isTile t
  | .topkSelect t => isTile t
  | .topkMerge t => isTile t
  | .fill t => isTile t
  | .copy t => isTile t
  | .send t => isTile t
  | .sendArrive src _ => isTile src
  | .rdcSum t => isTile t
  | .rdcTopk t => isTile t
  | .reductionOperandArrive _ => true
  | .reductionResultArrive _ => true
  | .kvrd t => isTile t
  | .kvrdComplete t => isTile t
  | .kvap t => isTile t
  | .pcallChain t => isTile t
  | .retrieverCallDone t => isTile t
  | .pcallPageAlloc t => isTile t
  | .allocCopyDone p _ => isPart p
  | .ringFillDone _ => true
  | .samplerTree t => isTile t
  | .samplerAccept t => isTile t
  | .samplerPublish t => isTile t
  | .acceptMissing p => isPart p
  | .stepBoundary p => isPart p
  | .tswapEnd p => isPart p
  | .bandTableLoadDone p => isPart p
  | .tempLatchTick t => isTile t
  | .tileLate t => isTile t
  | .stallNotice t src => isTile t && isTile src
  | .resumeNotice t src _ => isTile t && isTile src
  | .stallLimitExpire p => isPart p
  | .cancelNoticeTile t slot => isTile t && isSlot slot
  | .cancelRecorded p seq _ => isPart p && isU 32 seq
  | .scrubLine t line conds => isTile t && decide (line < 196608) && conds.all fun c => decide (c < 3)
  | .bankVerifyDone t a b _ _ _ => isTile t && decide (a < 64) && decide (b < 2)
  | .vpgmGrant => true
  | .calFitDone t a b fit => isTile t && decide (a < 64) && decide (b < 2) && fit.all isFit
  | .calTimeout t a b => isTile t && decide (a < 64) && decide (b < 2)
  | .repairDone t a b _ _ _ fit => isTile t && decide (a < 64) && decide (b < 2) && fit.all isFit
  | .driftProbe t a b codes => isTile t && decide (a < 64) && decide (b < 2) && codes.all fun l => decide (l.length = 1040)
  | .schedulerEval => true
  | .captureDrain t => isTile t
  | .arbitrationStart => true
  | .arbitrationVerdict id => isU 32 id
  | .kennelBlockCommit => true
  | .kennelSuspectExpire ukind unit sub => decide (1 ≤ ukind) && decide (ukind ≤ 10) && isU 16 unit && isU 16 sub
  | .ftestLightDue d => isDie d
  | .ftestFullDue d => isDie d
  | .ftestDone d part => isDie d && isU 8 part
  | .flitCrcError t port _ => isTile t && decide (port < 6)
  | .routerFail t => isTile t
  | .referenceFail r => decide (r < 2)
  | .hubLinkDieFail l => decide (l < 4)
  | .hbmPatrol k e _ bad => isStack k && decide (e < 17166) && bad.all fun x => decide (x < 65536)
  | .stackTempSample k _ => isStack k
  | .frameReceive p e bs => isPort p && decide (e.tags ≤ 2) && decide (e.pri < 8) && isU 16 e.etherType && isU 48 e.dstMac && isU 8 e.nextHeader && isU 128 e.dstIp && isU 16 e.udpPort && isU 128 e.addr && decide (bs.length ≤ e.len)
  | .brolerOpen peerId => isU 128 peerId
  | .brolerChallenge => true
  | .brolerProve => true
  | .brolerAccept peerId => isU 128 peerId
  | .brolerRefuse => true
  | .proveTimeout ses => isSsid ses
  | .brolerClose => true
  | .closingDone ses => isSsid ses
  | .brolerKeepalive => true
  | .keepaliveSend ses => isSsid ses
  | .brolerAckf => true
  | .ackDelay ses c => isSsid ses && isChan c
  | .retransmitTimeout ses c => isSsid ses && isChan c
  | .sessionLoss ses => isSsid ses
  | .brolerMsg => true
  | .brolerWrite => true
  | .writeLanded _ => true
  | .brolerWack => true
  | .brolerWnak => true
  | .brolerContrib => true
  | .exportTrigger p e => isPart p && decide (e < 64)
  | .pfcFrame p pauses => isPort p && pauses.all fun x => decide (x.1 < 8) && isU 16 x.2
  | .neighborSolicitation p target => isPort p && isU 128 target
  | .echoRequest p dst src => isPort p && isU 128 dst && isU 128 src
  | .osfpInsert p cls _ => decide (p < 48) && decide (1 ≤ cls) && decide (cls ≤ 8)
  | .osfpRemove p => decide (p < 48)
  | .portLinkChange p _ => decide (p < 48)
  | .portElecFault p => decide (p < 48)
  | .join ses => isSsid ses
  | .joinTimeout p => isPart p
  | .stepgo ses n prog binds => isSsid ses && isU 64 n && decide (prog < 16) && binds.all (isU 256)
  | .masks ses n slots => isSsid ses && isU 64 n && slots.all isSlot
  | .groupCommit ses n words => isSsid ses && isU 64 n && words.all (isU 64)
  | .committed ses n => isSsid ses && isU 64 n
  | .boundary ses n ws => isSsid ses && isU 64 n && ws.all (isU 64)
  | .boundaryAck ses n => isSsid ses && isU 64 n
  | .confirm ses n => isSsid ses && isU 64 n
  | .cancelForward ses q => isSsid ses && isU 32 q
  | .groupMasking ses q slot _ _ => isSsid ses && isU 32 q && isSlot slot
  | .windowAnnounce ses w e st => isSsid ses && isU 8 w && isU 16 e && decide (st < 3)
  | .masterlost ses => isSsid ses
  | .backupPromote p => isPart p
  | .newmaster ses epoch n => isSsid ses && isU 16 epoch && isU 64 n
  | .feedStateChange f _ _ => decide (f < 2)
  | .feedUsable f => decide (f < 2)
  | .feedReturnPreferred b => decide (b < 5)
  | .brickFault b => decide (b < 5)
  | .brickInsert b => decide (b < 5)
  | .brickRemove b => decide (b < 5)
  | .brickStartDone b => decide (b < 5)
  | .brickShedDone b => decide (b < 5)
  | .dropshareSample c ph _ _ _ _ _ _ => isCluster c && decide (ph.length = 8)
  | .governorRegionTick h _ _ => isSpot h
  | .governorModuleTick _ _ _ bricks => bricks.all fun e => decide (e.1 < 5)
  | .windowBoundary => true
  | .thermalModelTick powers => powers.all fun e => isSpot e.1
  | .hotspotSample h _ _ => isSpot h
  | .regionReturn h => isSpot h
  | .coolantSample v => decide (v.length = 7)
  | .coolantRecovered => true
  | .holdExpire => true
  | .leakWet k => decide (k < 4)
  | .leakLoopBreak k => decide (k < 4)
  | .alarmInput => true
  | .standbySupplyAppear => true
  | .sheepdogSample carrier v => decide (carrier.length = 24) && decide (v.length = 7)
  | .wakeEvent n => isSource n
  | .scheduledWake => true
  | .mgmtOpenWake m => decide (m < 2)
  | .retentionWake => true
  | .wakeGateOpen => true
  | .wakeGateTimeout => true
  | .attendedIdleTimeout => true
  | .powerOnStepDone _ evals => evals.all isBankEval
  | .powerOnStepOverrun _ evals => evals.all isBankEval
  | .stopLimitExpire => true
  | .stopStepsDrained => true
  | .preservationDone p => isPart p
  | .stopRecordsDone => true
  | .powerLoss => true
  | .shutdownStamp _ _ => true
  | .busDepleted => true
  | .cardFault c => decide (c < 2)
  | .cardBootFail c => decide (c < 2)
  | .cardInsert c => decide (c < 2)
  | .cardSyncDone c => decide (c < 2)
  | .recoveryRelease => true
  | .evProcessorComplete n => isSource n
  | .mcArmUnitFail _ => true
  | .memoryBridgeFail m => decide (m < 10)
  | .neighborAdvertisement p target lladdr => isPort p && isU 128 target && isU 48 lladdr
  | .pfcPauseExpire p pri => isPort p && decide (pri < 8)
  | .leakDry k => decide (k < 4)
  | .alarmInputOpen => true
  | .cardRemove c => decide (c < 2)
  | .testAccessPortClock c _ _ _ => decide (c < 2)
  | .rtcStoreExhausted => true
  | .mgmtPortLinkChange m _ => decide (m < 2)

end Sys2Proof
end

