-- ==== Sys2Proof/Certificates/Slice0/Obligations.lean ====
section
/-! DEFINITION. The statements for the provers. -/
namespace Sys2Proof.Machine

/-- The list that runs on queue `q` has reached a command of opcode `op` that has not begun: its run and its word. The partition's state lets its
engine go on (R17, R181), it is the queue's turn at the engine (R21), the command's addresses and the list's done object are the partition's
(R176 check 10), and the partition is no member of a group that leaves such a command to the master (R375). -/
structure Reached (s : State) (q op : Nat) (r : RunList) (w : Nat) : Prop where
  queueNo : q < 128
  cmd : atCommand s q op = some (r, w)
  ready : mayRun s q = true
  turn : myTurn s q = true
  owned : judged s q r w = true
  allowed : (groupOp op && isMember s (qPart q)) = false

/-- The bytes of `u` after the bytes `data` were stored at a partition virtual address of `s` (R10, R332): in space 0 at the tile's scratchpad
offset, in spaces 2 and 4 each at the HBM byte that its address resolves to; every other byte reads as before. -/
structure Landed (s u : State) (p dst : Nat) (data : List Byte) : Prop where
  sp : vaSpace dst = 0 → ∀ x, ptile (part s p).place (vaPti dst) = some x → ∀ a, Memory.read u.sp a =
    if spKey x.tile (vaOff dst) ≤ a ∧ a < spKey x.tile (vaOff dst) + data.length then data.getD (a - spKey x.tile (vaOff dst)) 0
    else Memory.read s.sp a
  spElse : vaSpace dst ≠ 0 → u.sp = s.sp
  hbm : vaSpace dst = 2 ∨ vaSpace dst = 4 →
    (∀ i j f, i < data.length → j < data.length → hbmResolve (part s p).place (vaSpace dst) (vaLow dst + i) = some f →
      hbmResolve (part s p).place (vaSpace dst) (vaLow dst + j) = some f → i = j) →
    ∀ i a, i < data.length → hbmResolve (part s p).place (vaSpace dst) (vaLow dst + i) = some a → Memory.read u.hbm a = data.getD i 0
  hbmElse : ∀ a, (∀ i, i < data.length → hbmResolve (part s p).place (vaSpace dst) (vaLow dst + i) ≠ some a) →
    Memory.read u.hbm a = Memory.read s.hbm a

/-- A request with operation `op` of session `ses` is served: a card runs, the session is open (the console carries only its operations), and
in RECOVERY the operation is one that Headstock accepts (R394, R397, R398, R496, R524). -/
structure Serves (s : State) (ses op : Nat) : Prop where
  cards : cardsUp s = true
  open_ : live s ses = true
  console_ : (ses == console && !consoleOp op) = false
  power : (s.power == .recovery && !headstockOp op) = false

/-- A WRITE of one item, that a row of the table stands for, passes the checks of R401. -/
structure Writes (s : State) (ses idx el v : Nat) : Prop where
  serves : Serves s ses 2
  item : itemFail s ses true (itemFor idx el v) = none

/-- The banks that the maintenance command word `w` of queue `q` selects (R198). -/
abbrev picked (s : State) (q w : Nat) : List Nat := selBanks (part s (qPart q)).place w

/-- Every bank but those of `ks` is in `u` as in `s`, apart from the scheduler's plan for it (R80, R82). -/
def OthersKept (s u : State) (ks : List Nat) : Prop := ∀ k, k ∉ ks → { bankOf u k with plan := 0 } = { bankOf s k with plan := 0 }

/-- The state after the oldest frame `x` has been taken by its session: it leaves the buffer, and the session notes its port, its address and when
it came (R351, R352, R363). -/
def took (s : State) (x : RxFrame) (t : List RxFrame) : State :=
  updSession (flowControl { s with rx := t } x.port x.pri) (bDsid x.hdr) fun y =>
    { y with port := x.port, lastRx := nowNs s, addr := if y.kind = 2 then y.addr else x.addr }

/-- The oldest frame received is `x`, of type `typ`, and the session that it names takes it (R355, R357, R360). -/
structure Oldest (s : State) (typ : Nat) (x : RxFrame) (t : List RxFrame) : Prop where
  rx : s.rx = x :: t
  frame : bTyp x.hdr = typ
  takes : typ = 1 ∨ takes (session s (bDsid x.hdr)) typ = true

/-- Among what has left the block is a Broler frame of type `typ` on port `p`, from session `ses` to the peer's `dsid`, with a reason and a payload,
its tag, encapsulation and header formed as R352–R354 say from the state in which it was sent. -/
def SentFrame (u : State) (p typ ses dsid reason : Nat) (payload : List Byte) : Prop :=
  ∃ (v : State) (udp : Bool) (addr : Nat),
    OutMsg.frame (wire v p udp addr ses dsid typ 0 0 reason payload.length false false) payload ∈ u.out

/-- A request with operation `op` of session `ses` on partition `p` may be made: it is served, the session has CONFIGURE, the module is READY and no
enable check of the partition runs (R202, R257, R269, R271). -/
structure MayPlace (s : State) (ses p op : Nat) : Prop where
  num : p < 16
  serves : Serves s ses op
  right : hasConfigure s ses p = true
  ready : s.power = .ready
  unchecked : (part s p).check = none

/-- The placer has a job of partition `p` in hand, a load or a re-placement, whose banks are all verified and calibrated and none of which has failed
(R257, R258, R270). -/
structure JobReady (s : State) (p : Nat) (j : PlaceJob) (load : Bool) : Prop where
  num : p < 16
  head : s.jobs.head? = some j
  begun : j.begun = true
  kind : j.isLoad = load
  own : j.part = p
  noFail : j.fail = 0
  done : ∀ w ∈ j.work, workDone s w = true ∧ workFailed s j.dead w = none

/-- `u` is `s` after its mode change was rolled back (R418, R419): the record says so and why, no parameter has changed, the partitions that the
change held are IDLE, and the request that the change kept waiting is refused with that reason. -/
structure RolledBack (s u : State) (op reason : Nat) : Prop where
  st : u.modeRec.st = 5
  why : u.modeRec.reason = reason
  dict : u.dict = s.dict
  held : ∀ p, p < 16 → part u p = if (part s p).st = .armed then { part s p with st := .idle } else part s p
  reply : ∀ ses n, s.modeRec.waiter = some (ses, n) → reason ≠ 0 →
    ∃ r, OutMsg.reply r ∈ u.out ∧ r.session = ses ∧ r.op = op ∧ r.reqid = n ∧ r.reason = reason

/-- No mode change of any scope is under way, and the module is READY (R417). -/
def MayArm (s : State) : Prop := s.power = .ready ∧ s.modeRec.st ≠ 1 ∧ s.modeRec.st ≠ 2 ∧ s.modeRec.st ≠ 3

/-- `u` is `s` with a mode change in ARMING (R417, R418): what it asks for, the request that waits for it, and its units, of which those that are dark
are DEFERRED; no parameter has changed. -/
structure Arming (s u : State) (ses n kind p v : Nat) : Prop where
  st : u.modeRec.st = 1
  sort : u.modeRec.kind = kind
  value : u.modeRec.value = v
  waiter : u.modeRec.waiter = some (ses, n)
  units : u.modeRec.units.map (·.ident) = modeUnits s kind p
  dark : ∀ x ∈ u.modeRec.units, x.st = if unitDark s x.ident then 6 else 1
  dict : u.dict = s.dict

/-- The sequencer of tile `t` has reached the word `w` of its run `r`, a command of opcode `op`, and may issue it (R138, R139, R160, R161): the tile is
lit, no repeat is about to start and no breakpoint holds it, the word can be read and sets no reserved bit, the power grant covers it, and
the hazard detector does not hold its unit. -/
structure AtTile (s : State) (t op : Nat) (r : TileRun) (w : Nat) : Prop where
  tile : tileOk t = true
  run : runOf s t = some r
  inside : r.pos ≤ r.ncmd
  word : leNat (spRead s t (r.base + 16 * r.pos) 16) = w
  lit : tileDark s t = false
  unflagged : r.flagged = false
  released : r.brk ≠ 1
  sound : spBad s t (r.base + 16 * r.pos) 16 = false
  op : fld w 127 120 = op
  clear : tcmdResvSet w = false
  granted : grantHeld s { p := r.part, t := t, run := r, w := w } = false
  unheld : unitHeld s t r w = false

/-- Tile `t` is at the word after the one that its run `r` had reached. -/
def Moved (u : State) (t : Nat) (r : TileRun) : Prop := ∃ r', runOf u t = some r' ∧ r'.pos = r.pos + 1 ∧ r'.part = r.part

/-- A notice on its way from tile `src` to tile `t`: of a stall (kind 0) or a resume (kind 1), with its START. -/
def Noticed (s : State) (p t src kind start : Nat) : Prop :=
  ∃ q n, stepOf s p = some q ∧ q.notices.find? (fun n => n.1 == t && n.2.1 == src && n.2.2.2 == kind) = some n ∧ n.2.2.1 = start

/-- The operands of a command of tile `t`, each with its bytes and alignment, let it run (R140, R147, R148, R151, R152, R155): they lie in their
memories, no destination overlaps a source but where it starts, none is protected, pending or unreadable, and the hazard detector is off. -/
structure Operable (s : State) (t : Nat) (r : TileRun) (srcs dsts : List (Nat × Nat × Nat)) (free : Bool) : Prop where
  detector : debugBit s r.part 1 = false
  fits : ∀ x ∈ srcs ++ dsts, opOk x.1 x.2.1 x.2.2 = true
  apart : free = false → ∀ d ∈ dsts, ∀ x ∈ srcs, opClash d.1 d.2.1 x.1 x.2.1 = false
  writable : ∀ d ∈ dsts, opProtected s r.part t d.1 d.2.1 = false ∧ opTaken s t d.1 d.2.1 = false ∧ opWriteFault s t d.1 d.2.1 = none
  readable : ∀ x ∈ srcs, opPending s t x.1 x.2.1 = false ∧ opReadFault s t x.1 x.2.1 = none

/-- A command of tile `t` wrote the bytes `bs` at the tile operand `dst` and nothing else, and the tile goes on: every other byte of every scratchpad,
every other accumulator word, HBM, the banks, the objects and the sequences are as before. -/
structure Wrote (s u : State) (t : Nat) (r : TileRun) (dst : Nat) (bs : List Byte) : Prop where
  on : Moved u t r
  bytes : opBytes u t dst bs.length = bs
  sp : ∀ a, opAcc dst = true ∨ a < spKey t (opOff dst) ∨ spKey t (opOff dst) + bs.length ≤ a → Memory.read u.sp a = Memory.read s.sp a
  acc : ∀ i j, j < 131072 → opAcc dst = false ∨ i ≠ t ∨ 4 * j + 4 ≤ opOff dst ∨ opOff dst + bs.length ≤ 4 * j → accRead u i 0 j = accRead s i 0 j
  rest : u.hbm = s.hbm ∧ u.banks = s.banks ∧ u.sync = s.sync ∧ u.seqs = s.seqs

/-- The forms of VEW, each with its function code (R167). -/
def vewForms (t : Nat) : List (Instr × Nat) :=
  [(.vewAdd t, 0x01), (.vewSub t, 0x02), (.vewMul t, 0x03), (.vewFma t, 0x04), (.vewDiv t, 0x05), (.vewMax t, 0x06), (.vewMin t, 0x07),
   (.vewSqrt t, 0x08), (.vewRsqrt t, 0x09), (.vewRecip t, 0x0A), (.vewExp2 t, 0x0B), (.vewLog2 t, 0x0C), (.vewExp t, 0x0D), (.vewLog t, 0x0E),
   (.vewSin t, 0x0F), (.vewCos t, 0x10), (.vewTanh t, 0x11), (.vewSigmoid t, 0x12), (.vewSilu t, 0x13), (.vewGelu t, 0x14), (.vewToBf16 t, 0x16),
   (.vewToFp32 t, 0x17), (.vewMulScalar t, 0x18), (.vewAddScalar t, 0x19)]

/-- Element `i` of the three sources of a VEW word (R166, R167): a BF16 source widened by its own code, the scalar of codes 0x18 and 0x19. -/
def vewElem (s : State) (t w i : Nat) : Nat :=
  let fn := fld w 119 112
  let n := fld w 111 96
  (vewEl fn (if fn = 0x17 then (opBf16 s t (fld w 71 48) n).getD i 0 else (opW32 s t (fld w 71 48) n).getD i 0)
    (if fn ≤ 0x07 then (opW32 s t (fld w 47 24) n).getD i 0 else if 0x18 ≤ fn then (opW32 s t (fld w 47 24) 1).getD 0 0 else 0)
    (if fn = 0x04 then (opW32 s t (fld w 23 0) n).getD i 0 else 0)).v

/-- Bytes that came over the fabric stand at the operand `dst` of tile `t`, its flag `f` rose by one, and nothing else of the memories, the banks or
the sequences changed. -/
structure Delivered (s u : State) (t dst : Nat) (bs : List Byte) (f : Nat) (r : TileRun) : Prop where
  bytes : opBytes u t dst bs.length = bs
  flag : ∃ r', runOf u t = some r' ∧ tileFlag r' f = tileFlag r f + 1 ∧ r'.pos = r.pos
  sp : ∀ a, opAcc dst = true ∨ a < spKey t (opOff dst) ∨ spKey t (opOff dst) + bs.length ≤ a → Memory.read u.sp a = Memory.read s.sp a
  acc : ∀ i j, j < 131072 → opAcc dst = false ∨ i ≠ t ∨ 4 * j + 4 ≤ opOff dst ∨ opOff dst + bs.length ≤ 4 * j → accRead u i 0 j = accRead s i 0 j
  rest : u.hbm = s.hbm ∧ u.banks = s.banks ∧ u.seqs = s.seqs

/-- The word that the sequencer of tile `t` has reached is a PCALL to engine `eng`, whose 16-byte descriptor `d` it can read (R163): aligned, within
the scratchpad, neither pending nor uncorrectable; fewer than four calls are outstanding, and the flag has room. -/
structure AtCall (s : State) (t eng : Nat) (r : TileRun) (w d : Nat) : Prop where
  at_ : AtTile s t 0x06 r w
  engine : pcallEng w = eng
  aligned : pcallDesc w % 16 = 0
  within : pcallDesc w + 16 ≤ spTop
  few : r.calls.length < 4
  settled : opPending s t (pcallDesc w) 16 = false
  sound : spBad s t (pcallDesc w) 16 = false
  detector : debugBit s r.part 1 = false
  room : tileFlag r (pcallFlag w) ≠ 0xFFFFFFFF
  desc : leNat (spRead s t (pcallDesc w) 16) = d

/-- Tile `t` is at the word after the one that its run `r` had reached, and its flag `f` rose by one. -/
def Flagged (u : State) (t : Nat) (r : TileRun) (f : Nat) : Prop :=
  ∃ r', runOf u t = some r' ∧ r'.pos = r.pos + 1 ∧ tileFlag r' f = tileFlag r f + 1

end Sys2Proof.Machine

open Sys2Proof Sys2Proof.Machine

/-- A step runs the command at the front of the queue. For every command and state, the step of the state with the command in front of its queue
is the meaning of the command on the state with the rest of the queue. The queue is the model's (log 1). -/
def Obligations.StepTakesFront : Prop :=
  ∀ (c : Instr) (rest : List Instr) (s : State), step { s with pending := c :: rest } = exec c { s with pending := rest }

/-- With no command waiting one period of the module reference passes. With an empty queue a step answers a state whose reference count is one
higher, and no memory, register of the object dictionary, bank, port or Kennel event has changed. Where no checkpoint is being copied and no
refresh wake is under way, nothing but the step clocks of the tiles changes with it. That an idle step is a tick is the model's choice (log
1), and that a copy ends at it (log 27). -/
def Obligations.IdleStepTicks : Prop :=
  (∀ s : State, s.pending = [] → ∃ t, step s = .next t ∧ t.refTicks = s.refTicks + 1 ∧ t.pending = [] ∧ t.sp = s.sp ∧ t.acc = s.acc ∧
    t.hbm = s.hbm ∧ t.banks = s.banks ∧ t.dict = s.dict ∧ t.kennel = s.kennel ∧ t.ports = s.ports) ∧
  (∀ s : State, s.pending = [] → s.life.refresh = false →
    (s.queues.any fun e => e.2.running.any fun r => r.begun && r.aux == copyMark) = false →
    step s = .next { s with refTicks := s.refTicks + 1, tiles := tickTiles s })

/-- The state after reset is good. The memories of the state after reset are in canonical form and its bounded stores lie within their
capacities. -/
def Obligations.ResetIsGood : Prop :=
  State.reset.Good

/-- Every step keeps a state good. For every state whose memories are in canonical form and whose attention log, uploads, capture store and
verdict record lie within their capacities, the next state of a step is such a state. -/
def Obligations.StepKeepsGood : Prop :=
  ∀ s t : State, s.Good → step s = .next t → t.Good

/-- A command whose operands lie in their ranges never stops the block. For every command whose operands lie in the ranges that the manual gives
them, and every state, the meaning answers a next state: no command faults and none is refused by the model. -/
def Obligations.EveryWellFormedCommandCompletes : Prop :=
  ∀ (c : Instr) (s : State), c.wf = true → ∃ t, exec c s = .next t

/-- A list that passes the checks waits last on its queue, and a refused one changes no queue. COMMAND_LIST_SUBMIT: where none of the ten checks
of R176 fails, the list becomes the last waiting list of its queue (a priority list that of its partition's priority queue), what runs there
goes on, and every other queue is as before. Where a check fails, the reply carries its reason and offset, and no queue changes. -/
def Obligations.SubmittedListWaitsLast : Prop :=
  (∀ (ses q : Nat) (ws : List W256) (s : State), q < 128 → submitRefusal s ses q ws = none →
    ∃ t, exec (.commandListSubmit ses q ws) s = .next t ∧
      (queue t (if hdrPriority (ws.getD 0 0).toNat then 128 + q else q)).waiting =
        (queue s (if hdrPriority (ws.getD 0 0).toNat then 128 + q else q)).waiting ++ [{ words := ws, session := ses }] ∧
      (queue t (if hdrPriority (ws.getD 0 0).toNat then 128 + q else q)).running =
        (queue s (if hdrPriority (ws.getD 0 0).toNat then 128 + q else q)).running ∧
      ∀ j, j ≠ (if hdrPriority (ws.getD 0 0).toNat then 128 + q else q) → queue t j = queue s j) ∧
  (∀ (ses q : Nat) (ws : List W256) (s : State) (e o : Nat), q < 128 → submitRefusal s ses q ws = some (e, o) →
    ∃ t, exec (.commandListSubmit ses q ws) s = .next t ∧ t.queues = s.queues ∧ t.parts = s.parts ∧
      t = reply s { session := ses, queue := q, reqid := hdrListId (ws.getD 0 0).toNat, reason := e, failItem := o })

/-- LIST_DISPATCH takes the list at the front of a queue. LIST_DISPATCH: where no list of the queue runs and the module, the partition's state
and its reply queue let the queue dispatch, the oldest waiting list runs from its first command, with no result yet, and the others wait in
their order; every other queue is as before. Where they do not, nothing changes. -/
def Obligations.DispatchTakesTheOldestList : Prop :=
  (∀ (q : Nat) (s : State) (l : HostList) (ls : List HostList), q < 128 → (queue s q).running = none → (queue s q).waiting = l :: ls →
    mayDispatch s q = true → ∃ t, exec (.listDispatch q) s = .next t ∧
      queue t q = { waiting := ls, running := some { lst := l, pos := 1, begun := false, results := [], aux := [] } } ∧
      ∀ j, j ≠ q → queue t j = queue s j) ∧
  (∀ (q : Nat) (s : State), q < 128 → mayDispatch s q = false → exec (.listDispatch q) s = .next s)

/-- A command that completes moves its list to the next command. Where the running list of a host queue has a further command, completing the
command that it has reached, with its result words, makes it reach the word after the command's payload, not begun, with the results added;
other lists are not moved by it except that satisfied WAITs are released. -/
def Obligations.CompletedCommandMovesItsListOn : Prop :=
  ∀ (q : Nat) (s : State) (r : RunList) (res : List W256), (queue s q).running = some r →
    r.pos + 1 + cmdNpay (r.lst.word r.pos) ≤ hdrNwords r.lst.hdr →
    (queue (completeCmd s q res) q).running =
      some { r with pos := r.pos + 1 + cmdNpay (r.lst.word r.pos), begun := false, results := r.results ++ res, aux := [] }

/-- A list ends with its last command and posts one record with its results. Where no command follows, completing the last command frees the
queue and posts one completion record at the end of the partition's reply queue, whose first word is the completion word with reason 0 and
whose other words are the list's results in order. Where sessions read, no record is dropped. -/
def Obligations.LastCommandEndsItsList : Prop :=
  ∀ (q : Nat) (s : State) (r : RunList) (res : List W256), (queue s q).running = some r →
    hdrNwords r.lst.hdr < r.pos + 1 + cmdNpay (r.lst.word r.pos) →
    (queue (advance s q res) q).running = none ∧
    ∃ old no, FMap.get [] (advance s q res).replyQ (qPart q) = old ++ [{
        words := completionWord s (qPart q) (q % 8) (hdrListId r.lst.hdr) 0 0 (r.results ++ res).length (part s (qPart q)).stepCounter ::
          (r.results ++ res), waitingFor := readers s (qPart q), no := no }] ∧
      (readers s (qPart q) ≠ [] → old = FMap.get [] s.replyQ (qPart q))

/-- A command whose precondition fails ends its list with the reason and its offset. The list of a command that is refused no longer runs, so
that no later command of it is carried out, and the synchronisation objects, sequences, banks, windows and memories are as before unless the
list's done signal, which it makes only where its header asks for it always, writes an object. -/
def Obligations.RefusedCommandEndsItsList : Prop :=
  ∀ (q reason : Nat) (s : State) (r : RunList), (queue s q).running = some r → reason ≠ 0 →
    (queue (refuseCmd s q reason) q).running = none ∧ (refuseCmd s q reason).seqs = s.seqs ∧ (refuseCmd s q reason).banks = s.banks ∧
    (refuseCmd s q reason).windows = s.windows ∧ (refuseCmd s q reason).sp = s.sp ∧ (refuseCmd s q reason).hbm = s.hbm ∧
    (refuseCmd s q reason).kvSets = s.kvSets ∧ (refuseCmd s q reason).parts = s.parts ∧
    (hdrSigAlways r.lst.hdr = false → (∀ e, e < 6 → qPart q * 8 + e ≠ q → (queue s (qPart q * 8 + e)).running = none) →
      (refuseCmd s q reason).sync = s.sync)

/-- SIGNAL writes its object or is refused on overflow, and WAIT completes when it is released. SIGNAL_ADD adds VALUE where the sum stays below
2^64 and is refused with RC_SYNC_OVERFLOW otherwise; SIGNAL_SET writes VALUE; each completes when the write is made, and no other object
changes with it. WAIT completes at once where its object has reached VALUE, else it begins and holds its queue, and the release of R184
completes it. -/
def Obligations.SignalsAndWaits : Prop :=
  (∀ (q : Nat) (s : State) (r : RunList) (w : Nat), Reached s q 0xF1 r w → bitAt w 149 = false →
    syncGet s (qPart q) (fld w 223 214) + fld w 213 150 < 2 ^ 64 →
    ∃ u, exec (.signalAdd q) s = .next (turnOver (completeCmd (releaseWaits u (qPart q) 6) q []) q r.pos) ∧
      syncGet u (qPart q) (fld w 223 214) = syncGet s (qPart q) (fld w 223 214) + fld w 213 150 ∧
      (∀ p n, p * 1024 + n ≠ qPart q * 1024 + fld w 223 214 → syncGet u p n = syncGet s p n) ∧ u.queues = s.queues ∧ u.replyQ = s.replyQ) ∧
  (∀ (q : Nat) (s : State) (r : RunList) (w : Nat), Reached s q 0xF1 r w → bitAt w 149 = false →
    2 ^ 64 ≤ syncGet s (qPart q) (fld w 223 214) + fld w 213 150 → exec (.signalAdd q) s = .next (turnOver (refuseCmd s q 0x0107) q r.pos)) ∧
  (∀ (q : Nat) (s : State) (r : RunList) (w : Nat), Reached s q 0xF1 r w → bitAt w 149 = true →
    ∃ u, exec (.signalSet q) s = .next (turnOver (completeCmd (releaseWaits u (qPart q) 6) q []) q r.pos) ∧
      syncGet u (qPart q) (fld w 223 214) = fld w 213 150 ∧
      (∀ p n, p * 1024 + n ≠ qPart q * 1024 + fld w 223 214 → syncGet u p n = syncGet s p n) ∧ u.queues = s.queues ∧ u.replyQ = s.replyQ) ∧
  (∀ (q : Nat) (s : State) (r : RunList) (w : Nat), Reached s q 0xF0 r w → fld w 213 150 ≤ syncGet s (qPart q) (fld w 223 214) →
    exec (.wait q) s = .next (turnOver (completeCmd s q []) q r.pos)) ∧
  (∀ (q : Nat) (s : State) (r : RunList) (w : Nat), Reached s q 0xF0 r w → syncGet s (qPart q) (fld w 223 214) < fld w 213 150 →
    ∃ t, exec (.wait q) s = .next t ∧ (queue t q).running = some { r with begun := true, aux := [] } ∧ t.sync = s.sync ∧
      ∀ j, j ≠ q → queue t j = queue s j) ∧
  (∀ (s : State) (p e : Nat) (r : RunList), (queue s (p * 8 + e)).running = some r → r.begun = true →
    cmdOpcode (r.lst.word r.pos) = 0xF0 → fld (r.lst.word r.pos) 213 150 ≤ syncGet s p (fld (r.lst.word r.pos) 223 214) →
    releaseOne s p e = advance s (p * 8 + e) [])

/-- SEQOPEN, SEQCLOSE, SPARAM, SKEY and SSRC make, end and change one live sequence. SEQOPEN makes a sequence of length 0 with a zero key and
the default parameters, which holds the lowest free handle; SEQCLOSE ends it where no step runs; SPARAM, SKEY and SSRC change the parameters
that they name of a live sequence that is not cancelled. No other sequence changes, and the command completes (a group's master forwards
it). -/
def Obligations.SequenceCommands : Prop :=
  (∀ (q : Nat) (s : State) (r : RunList) (w : Nat), Reached s q 0x02 r w → seqOf s (qPart q) (fld w 223 192) = none →
    liveCount s (qPart q) < 65536 → ∃ u, exec (.seqopen q) s = .next (turnOver (finish s q (.inr (u, []))) q r.pos) ∧
      seqOf u (qPart q) (fld w 223 192) = some { handle := freeHandle s (qPart q), len := 0, key := 0, csrc := 1, tables := [] } ∧
      (∀ p x, seqKey p x ≠ seqKey (qPart q) (fld w 223 192) → seqOf u p x = seqOf s p x) ∧ u.kvSets = s.kvSets ∧ u.parts = s.parts) ∧
  (∀ (q : Nat) (s : State) (r : RunList) (w : Nat), Reached s q 0x03 r w → (seqOf s (qPart q) (fld w 223 192)).isSome = true →
    stepActive s (qPart q) = false → ∃ u, exec (.seqclose q) s = .next (turnOver (finish s q (.inr (u, []))) q r.pos) ∧
      seqOf u (qPart q) (fld w 223 192) = none ∧
      (∀ p x, seqKey p x ≠ seqKey (qPart q) (fld w 223 192) → seqOf u p x = seqOf s p x) ∧ u.parts = s.parts) ∧
  (∀ (q : Nat) (s : State) (r : RunList) (w : Nat) (x : Seq), Reached s q 0x30 r w → seqOf s (qPart q) (fld w 223 192) = some x →
    x.cancelled = false → ∃ u, exec (.sparam q) s = .next (turnOver (finish s q (.inr (u, []))) q r.pos) ∧
      seqOf u (qPart q) (fld w 223 192) = some { x with temp := fld w 191 160, topk := fld w 159 153, topp := fld w 152 121 } ∧
      ∀ p y, seqKey p y ≠ seqKey (qPart q) (fld w 223 192) → seqOf u p y = seqOf s p y) ∧
  (∀ (q : Nat) (s : State) (r : RunList) (w : Nat) (x : Seq), Reached s q 0x31 r w → seqOf s (qPart q) (fld w 223 192) = some x →
    x.cancelled = false → ∃ u, exec (.skey q) s = .next (turnOver (finish s q (.inr (u, []))) q r.pos) ∧
      seqOf u (qPart q) (fld w 223 192) = some { x with key := fld w 191 128 } ∧
      ∀ p y, seqKey p y ≠ seqKey (qPart q) (fld w 223 192) → seqOf u p y = seqOf s p y) ∧
  (∀ (q : Nat) (s : State) (r : RunList) (w : Nat) (x : Seq), Reached s q 0x32 r w → seqOf s (qPart q) (fld w 223 192) = some x →
    x.cancelled = false → (fld w 191 190 = 2 → (linkOfTarget s (qPart q)).isSome = true) →
    ∃ u, exec (.ssrc q) s = .next (turnOver (finish s q (.inr (u, []))) q r.pos) ∧
      seqOf u (qPart q) (fld w 223 192) = some { x with csrc := fld w 191 190 } ∧
      ∀ p y, seqKey p y ≠ seqKey (qPart q) (fld w 223 192) → seqOf u p y = seqOf s p y)

/-- Outside a group a command that has had its effect completes, and one that was refused ends its list. Where the partition is no master of a
group, finishing a command with a state and result words completes the command there, and finishing it with a reason ends its list. -/
def Obligations.FinishedCommandOutsideAGroup : Prop :=
  ∀ (s u : State) (q e : Nat) (res : List W256), isMaster u (qPart q) = false →
    finish s q (.inr (u, res)) = completeCmd u q res ∧ finish s q (.inl e) = refuseCmd s q e

/-- PALLOC, PFREE, PTEDIT and PSHARE change one sequence's page tables. Where no step runs and no checkpoint of the sequences that they name is
being copied, PALLOC appends the first free sets of the group and makes each HELD with one reference; PFREE keeps the entries below its
position; PTEDIT appends or replaces one entry by the set of its page; PSHARE gives an empty sequence the first entries of another and its
length. No other sequence's table changes, and the command completes. -/
def Obligations.PageEngineCommands : Prop :=
  (∀ (q : Nat) (s : State) (r : RunList) (w : Nat) (x : Seq), Reached s q 0x20 r w → stepActive s (qPart q) = false → pageWaits s (qPart q) w = false →
    pageRefusal s (qPart q) w = none → seqOf s (qPart q) (fld w 223 192) = some x →
    fld w 183 168 ≤ (freeSets s (qPart q) (fld w 191 184)).length →
    (table x (fld w 191 184)).length + fld w 183 168 ≤ (part s (qPart q)).place.kv.maxent →
    ∃ u, exec (.palloc q) s = .next (turnOver (finish s q (.inr (u, []))) q r.pos) ∧
      seqOf u (qPart q) (fld w 223 192) = some (setTable x (fld w 191 184)
        (table x (fld w 191 184) ++ (freeSets s (qPart q) (fld w 191 184)).take (fld w 183 168))) ∧
      (∀ k, k ∈ (freeSets s (qPart q) (fld w 191 184)).take (fld w 183 168) →
        setState u (qPart q) (fld w 191 184) k = 1 ∧ setRef u (qPart q) (fld w 191 184) k = 1) ∧
      (∀ p g k, (∀ j, j ∈ (freeSets s (qPart q) (fld w 191 184)).take (fld w 183 168) → setKey p g k ≠ setKey (qPart q) (fld w 191 184) j) →
        setState u p g k = setState s p g k ∧ setRef u p g k = setRef s p g k) ∧
      ∀ p y, seqKey p y ≠ seqKey (qPart q) (fld w 223 192) → seqOf u p y = seqOf s p y) ∧
  (∀ (q : Nat) (s : State) (r : RunList) (w : Nat) (x : Seq), Reached s q 0x21 r w → stepActive s (qPart q) = false → pageWaits s (qPart q) w = false →
    pageRefusal s (qPart q) w = none → seqOf s (qPart q) (fld w 223 192) = some x → x.len ≤ fld w 183 152 →
    ∃ u, exec (.pfree q) s = .next (turnOver (finish s q (.inr (u, []))) q r.pos) ∧
      seqOf u (qPart q) (fld w 223 192) = some (setTable x (fld w 191 184) ((table x (fld w 191 184)).take ((fld w 183 152 + 63) / 64))) ∧
      ∀ p y, seqKey p y ≠ seqKey (qPart q) (fld w 223 192) → seqOf u p y = seqOf s p y) ∧
  (∀ (q : Nat) (s : State) (r : RunList) (w n : Nat) (x : Seq), Reached s q 0x22 r w → stepActive s (qPart q) = false → pageWaits s (qPart q) w = false →
    pageRefusal s (qPart q) w = none → seqOf s (qPart q) (fld w 223 192) = some x →
    pageInPool (part s (qPart q)).place (fld w 151 120) = true →
    setOfPage (kvGroup (part s (qPart q)).place (fld w 191 184)) (fld w 151 120) = some n →
    fld w 183 152 ≤ (table x (fld w 191 184)).length →
    (fld w 183 152 = (table x (fld w 191 184)).length → (table x (fld w 191 184)).length < (part s (qPart q)).place.kv.maxent) →
    ∃ u, exec (.ptedit q) s = .next (turnOver (finish s q (.inr (u, []))) q r.pos) ∧
      seqOf u (qPart q) (fld w 223 192) = some (setTable x (fld w 191 184)
        (if fld w 183 152 = (table x (fld w 191 184)).length then table x (fld w 191 184) ++ [n]
          else (table x (fld w 191 184)).set (fld w 183 152) n)) ∧
      ∀ p y, seqKey p y ≠ seqKey (qPart q) (fld w 223 192) → seqOf u p y = seqOf s p y) ∧
  (∀ (q : Nat) (s : State) (r : RunList) (w : Nat) (x y : Seq), Reached s q 0x23 r w → stepActive s (qPart q) = false → pageWaits s (qPart q) w = false →
    pageRefusal s (qPart q) w = none → seqOf s (qPart q) (fld w 223 192) = some x → seqOf s (qPart q) (fld w 191 160) = some y →
    x.len = 0 → (∀ g, g < kvNgroup (part s (qPart q)).place → table x g = []) → fld w 159 128 ≤ y.len →
    ∃ u, exec (.pshare q) s = .next (turnOver (finish s q (.inr (u, []))) q r.pos) ∧
      seqOf u (qPart q) (fld w 223 192) = some { x with
        len := fld w 159 128
        tables := (List.range (kvNgroup (part s (qPart q)).place)).map fun g => (g, (table y g).take ((fld w 159 128 + 63) / 64)) } ∧
      ∀ p z, seqKey p z ≠ seqKey (qPart q) (fld w 223 192) → seqOf u p z = seqOf s p z)

/-- XFER, STAGE and CHKPT move bytes between the partition's memories and make a sequence of a checkpoint. XFER, where it is not held to a
boundary, stores the bytes of its source at its destination and nothing else; STAGE stores the golden block with its record word in the
staging slot and lists the slot where its BCRC matches; CHKPT with DIR 0 stores the header with its CRC and the pages of the sequence; CHKPT
with DIR 1, where no step runs, makes the sequence live with what the header holds. XFER and STAGE complete; a CHKPT has begun, and its copy
completes at the next tick of the reference (log 27). -/
def Obligations.RetrieverCommands : Prop :=
  (∀ (q : Nat) (s : State) (r : RunList) (w : Nat), Reached s q 0x10 r w →
    xferHolds s (qPart q) (fld w 175 128) (fld w 127 96) = false → xferRefusal s (qPart q) (fld w 175 128) (fld w 127 96) = none →
    pvaBad s (qPart q) (fld w 223 176) (fld w 127 96) = false → dstBad s (qPart q) (fld w 175 128) (fld w 127 96) = false →
    ∃ u, exec (.xfer q) s = .next (turnOver (finish s q (.inr (u, []))) q r.pos) ∧
      Landed s u (qPart q) (fld w 175 128) (pvaRead s (qPart q) (fld w 223 176) (fld w 127 96)) ∧
      u.acc = s.acc ∧ u.seqs = s.seqs ∧ u.kvSets = s.kvSets ∧ u.sync = s.sync) ∧
  (∀ (q : Nat) (s : State) (r : RunList) (w : Nat) (g : Golden), Reached s q 0x11 r w →
    stageSlotOk (part s (qPart q)).place (fld w 159 112) = true →
    storeGolden s (part s (qPart q)).place.image (fld w 223 160) = some g → goldenCrcOk g = true →
    ∃ u, exec (.stage q) s = .next (turnOver (completeCmd u q []) q r.pos) ∧
      Landed s u (qPart q) (fld w 159 112) (leBytes 32 g.word ++ g.data ++ leBytes (stageBytes - 32 - g.data.length) 0) ∧
      (qPart q, fld w 159 112, fld w 223 160) ∈ u.staged ∧ u.seqs = s.seqs ∧ u.kvSets = s.kvSets) ∧
  (∀ (q : Nat) (s : State) (r : RunList) (w : Nat) (x : Seq), Reached s q 0x12 r w → bitAt w 223 = false →
    seqOf s (qPart q) (fld w 222 191) = some x → x.cancelled = false → seqBusy s (qPart q) (fld w 222 191) = false →
    chkptFits (part s (qPart q)).place (fld w 190 143) (chkptBytes (part s (qPart q)).place x.len) = true →
    ((chkptPages (part s (qPart q)).place (fun g i => (table x g).getD i 0) x.len).any fun e =>
      pvaBad s (qPart q) (4 * 2 ^ 44 + e.1 * pageStride (part s (qPart q)).place) e.2) = false →
    ∃ u body, exec (.chkptSave q) s = .next (turnOver (beginCmd u q copyMark) q r.pos) ∧
      body = chkptHeader (part s (qPart q)).place (fld w 222 191) x ++
        ((chkptPages (part s (qPart q)).place (fun g i => (table x g).getD i 0) x.len).flatMap fun e =>
          pvaRead s (qPart q) (4 * 2 ^ 44 + e.1 * pageStride (part s (qPart q)).place) e.2) ∧
      Landed s u (qPart q) (fld w 190 143) (leBytes 4 (crc32 body) ++ body.drop 4) ∧ u.seqs = s.seqs ∧ u.kvSets = s.kvSets) ∧
  (∀ (q : Nat) (s : State) (r : RunList) (w : Nat), Reached s q 0x12 r w → bitAt w 223 = true → stepActive s (qPart q) = false →
    chkptRefusal s (qPart q) (fld w 222 191) (fld w 190 143) = none →
    ∃ u, exec (.chkptRestore q) s = .next (turnOver (beginCmd u q copyMark) q r.pos) ∧
      seqOf u (qPart q) (fld w 222 191) = some {
        handle := freeHandle s (qPart q)
        len := fld (leNat (pvaRead s (qPart q) (fld w 190 143) 32)) 207 176
        key := fld (leNat (pvaRead s (qPart q) (fld w 190 143) 32)) 175 112
        temp := fld (leNat (pvaRead s (qPart q) (fld w 190 143) 32)) 111 80
        topk := fld (leNat (pvaRead s (qPart q) (fld w 190 143) 32)) 79 73
        topp := fld (leNat (pvaRead s (qPart q) (fld w 190 143) 32)) 72 41
        csrc := fld (leNat (pvaRead s (qPart q) (fld w 190 143) 32)) 40 39
        tables := (List.range (kvNgroup (part s (qPart q)).place)).map fun g => (g, (freeSets s (qPart q) g).take
          ((fld (leNat (pvaRead s (qPart q) (fld w 190 143) 32)) 207 176 + 63) / 64)) } ∧
      (∀ p y, seqKey p y ≠ seqKey (qPart q) (fld w 222 191) → seqOf u p y = seqOf s p y) ∧ u.sp = s.sp)

/-- While a step runs, commands that change pages and sequences wait for its boundary. Where a step runs, SEQCLOSE of a sequence that it does
not carry, the page commands that are not refused at once and wait for no checkpoint's copy, CHKPT with DIR 1 of a new sequence, and an XFER
into the page area or a STREAM region begin, are noted last among the commands that the step holds, and change no sequence, set or memory
before the boundary. -/
def Obligations.CommandsHeldToTheBoundary : Prop :=
  ∀ (q op : Nat) (s : State) (r : RunList) (w : Nat) (c : Instr), Reached s q op r w → stepActive s (qPart q) = true →
    ((c = .seqclose q ∧ op = 0x03 ∧ (seqOf s (qPart q) (fld w 223 192)).isSome = true ∧ seqBusy s (qPart q) (fld w 223 192) = false) ∨
     (c = .palloc q ∧ op = 0x20 ∧ pageWaits s (qPart q) w = false ∧ pageRefusal s (qPart q) w = none) ∨ (c = .pfree q ∧ op = 0x21 ∧ pageWaits s (qPart q) w = false ∧ pageRefusal s (qPart q) w = none) ∨
     (c = .ptedit q ∧ op = 0x22 ∧ pageWaits s (qPart q) w = false ∧ pageRefusal s (qPart q) w = none) ∨ (c = .pshare q ∧ op = 0x23 ∧ pageWaits s (qPart q) w = false ∧ pageRefusal s (qPart q) w = none) ∨
     (c = .chkptRestore q ∧ op = 0x12 ∧ bitAt w 223 = true ∧ seqOf s (qPart q) (fld w 222 191) = none ∧ liveCount s (qPart q) < 65536) ∨
     (c = .xfer q ∧ op = 0x10 ∧ xferHolds s (qPart q) (fld w 175 128) (fld w 127 96) = true ∧
       xferRefusal s (qPart q) (fld w 175 128) (fld w 127 96) = none)) →
    ∃ t k, exec c s = .next t ∧ (part s (qPart q)).step = some k ∧ (part t (qPart q)).step = some { k with held := k.held ++ [q] } ∧
      (queue t q).running = some { r with begun := true, aux := [] } ∧ t.seqs = s.seqs ∧ t.kvSets = s.kvSets ∧ t.sp = s.sp ∧ t.hbm = s.hbm

/-- STEP binds its slots and the partition becomes STEPPING. STEP: where the partition is IDLE and ready, belongs to no group as master, no
check of R190 refuses it, nothing stalls it and some slot is not masked, the partition is STEPPING, its step has the program, the number of
committed steps, the slots as bound and the thresholds latched at the dispatch; the STEP has begun. Where a check refuses it, its list ends
with that reason and its result word. -/
def Obligations.StepIsDispatched : Prop :=
  (∀ (q : Nat) (s : State) (r : RunList) (w : Nat) (bs : List SlotB) (pay : List Nat), Reached s q 0x01 r w → stepReady s (qPart q) = true →
    isMaster s (qPart q) = false → pay = payload (r.lst.words.map (·.toNat)) r.pos (cmdNpay w) →
    stepRefusal s (qPart q) (fld w 223 220) pay = none → stallReason s (qPart q) = false →
    bs = (List.range (pay.length / 4)).map (bindOf s (qPart q) pay) → bs.all (·.masked) = false →
    ∃ t, exec (.step q) s = .next t ∧ (part t (qPart q)).st = .stepping ∧
      (part t (qPart q)).step = some (newStep s (qPart q) (fld w 223 220) bs) ∧
      (queue t q).running = some { r with begun := true, aux := [] } ∧ (∀ p, p ≠ qPart q → part t p = part s p) ∧
      t.seqs = s.seqs ∧ t.sp = s.sp ∧ t.hbm = s.hbm ∧ t.tiles = s.tiles) ∧
  (∀ (q : Nat) (s : State) (r : RunList) (w e : Nat) (res : List W256), Reached s q 0x01 r w → stepReady s (qPart q) = true →
    isMaster s (qPart q) = false →
    stepRefusal s (qPart q) (fld w 223 220) (payload (r.lst.words.map (·.toNat)) r.pos (cmdNpay w)) = some (e, res) →
    exec (.step q) s = .next (turnOver (refuseCmd s q e res) q r.pos))

/-- STEP_LAUNCH, STEP_BOUNDARY, TSWAP_END, BAND_TABLE_LOAD_DONE and TEMP_LATCH_TICK. STEP_LAUNCH starts an owned tile that has not been launched
at word 1 of its list with no flag set, and notes it as launched. STEP_BOUNDARY of a committed step whose copies are done carries out the
commit actions and ends the step with its record; the actions count the step where no command is held. TSWAP_END releases the dispatch hold
of a swap, BAND_TABLE_LOAD_DONE that of a band change, after it has loaded the tables of every tile, outside a group. TEMP_LATCH_TICK
latches the temperature of a tile that no partition owns and changes no other tile's latch. -/
def Obligations.StepEvents : Prop :=
  (∀ (t p pti base : Nat) (s : State) (r : StepRun), tileOk t = true → ownerOf s t = some (p, pti) → stepOf s p = some r →
    listBase (part s p).place pti r.prog = some base → r.launched.contains t = false → r.committed = false → tileDark s t = false →
    ∃ u x, exec (.stepLaunch t) s = .next u ∧ FMap.find u.tiles t = some x ∧ x.part = p ∧ x.prog = r.prog ∧ x.base = base ∧ x.pos = 1 ∧
      x.flags = [] ∧ x.tstep = 0 ∧ x.ncmd = fld (leNat (spRead s t base 16)) 115 100 ∧
      stepOf u p = some { r with launched := t :: r.launched } ∧ u.sp = s.sp ∧ u.acc = s.acc ∧
      ∀ k, k ≠ t → FMap.find u.tiles k = FMap.find s.tiles k) ∧
  (∀ (p : Nat) (s : State) (r : StepRun), p < 16 → stepOf s p = some r → r.committed = true → r.copies = [] → r.group = none →
    exec (.stepBoundary p) s = .next (endStep (commitActions s p r) p r)) ∧
  (∀ (p : Nat) (s : State) (r : StepRun), r.held = [] → (part (commitActions s p r) p).stepCounter = ((part s p).stepCounter + 1) % 2 ^ 64 ∧
    (part (commitActions s p r) p).step = none) ∧
  (∀ (p : Nat) (s : State), p < 16 → (group s p).waiting = [] → ∃ u, exec (.tswapEnd p) s = .next u ∧
    part u p = { part s p with holdSwap := false } ∧ u.banks = s.banks) ∧
  (∀ (p : Nat) (s : State), p < 16 → (part s p).holdTables = true → (part s p).boundDue = false → (group s p).waiting = [] →
    ∃ u, exec (.bandTableLoadDone p) s = .next u ∧ (part u p).holdTables = false ∧
      u.banks = (((tilesOf s p).flatMap (storedBanks s)).foldl loadTable s).banks ∧ u.sp = s.sp) ∧
  (∀ (t : Nat) (s : State), tileOk t = true → ownerOf s t = none → exec (.tempLatchTick t) s = .next (latchTile s t) ∧
    ∀ k, k ≠ t → latchOf (latchTile s t) k = latchOf s k)

/-- DBGREL releases tiles held at BRK and DBGRD posts the bytes it reads. Where the debug mode or the FAULTED state lets the command be carried
out: DBGREL releases the named tile of the partition that is held at a BRK, or every one, and no other tile's run changes; DBGRD posts a
record of type 7 with the address, the bytes that lie there and a mark for each unit with a bad word, and reads without a fault. Each
completes. Otherwise the list ends with RC 0x0209. -/
def Obligations.DebugCommands : Prop :=
  (∀ (q : Nat) (s : State) (r : RunList) (w : Nat), Reached s q 0x70 r w → debugOn s (qPart q) = true →
    ∃ u, exec (.dbgrel q) s = .next (turnOver (completeCmd u q []) q r.pos) ∧ u.sp = s.sp ∧ u.queues = s.queues ∧
      ∀ t, FMap.find u.tiles t = (FMap.find s.tiles t).map fun x => if x.part = qPart q ∧ x.brk = 1 ∧ (fld w 223 212 = 0xFFF ∨
        ((ptile (part s (qPart q)).place (fld w 223 212)).map (·.tile)) = some t) then { x with brk := 2 } else x) ∧
  (∀ (q : Nat) (s : State) (r : RunList) (w : Nat), Reached s q 0x71 r w → debugOn s (qPart q) = true →
    exec (.dbgrd q) s = .next (turnOver (completeCmd (postDebug s (qPart q)
      { typ := 7, body := dbgrdRecord s (qPart q) (fld w 223 176) (fld w 175 160) }) q []) q r.pos)) ∧
  (∀ (q : Nat) (s : State) (r : RunList) (w : Nat), debugOn s (qPart q) = false →
    (Reached s q 0x70 r w → exec (.dbgrel q) s = .next (turnOver (refuseCmd s q 0x0209) q r.pos)) ∧
    (Reached s q 0x71 r w → exec (.dbgrd q) s = .next (turnOver (refuseCmd s q 0x0209) q r.pos)))

/-- A reply leaves the block with its reason, values and the session's status, and changes nothing but sessions. The reply to a request or
submission is among what has left the block, with the status that its session sees, and no register of the dictionary, partition, queue,
bank or memory changes with it. -/
def Obligations.RepliesLeaveTheBlock : Prop :=
  ∀ (s : State) (r : Reply), OutMsg.reply { r with status := statusFor s r.session } ∈ (reply s r).out ∧ (reply s r).dict = s.dict ∧
    (reply s r).parts = s.parts ∧ (reply s r).queues = s.queues ∧ (reply s r).banks = s.banks ∧ (reply s r).sp = s.sp ∧
    (reply s r).hbm = s.hbm ∧ (reply s r).attn = s.attn

/-- READ, DESCRIBE, LIST and ACKATTN are answered. A READ whose items all pass returns their values in order, and one with an item that fails
returns the reason, the number and the parameter of the first such item and no value; DESCRIBE likewise returns descriptors and names; LIST
returns the present indexes of its range that the session may read; ACKATTN moves the credential's acknowledgement point up, never down. -/
def Obligations.ReadRequests : Prop :=
  (∀ (ses n : Nat) (items : List Nat) (s : State) (l : List (Nat × Nat × Nat)), Serves s ses 1 → readItems s ses items 0 = .inr l →
    exec (.read ses n items) s = .next (acceptReq s ses 1 n l)) ∧
  (∀ (ses n r i w : Nat) (items : List Nat) (s : State), Serves s ses 1 → readItems s ses items 0 = .inl (r, i, w) →
    exec (.read ses n items) s = .next (refuseReq s ses 1 n r (riIdx w * 256 + riEl w) i)) ∧
  (∀ (ses n : Nat) (items : List Nat) (s : State) (l : List (Nat × Nat × Nat)), Serves s ses 3 → describeItems s ses items 0 = .inr l →
    exec (.describe ses n items) s = .next (acceptReq s ses 3 n l)) ∧
  (∀ (ses n a b : Nat) (s : State), Serves s ses 4 → exec (.list ses n a b) s = .next (acceptReq s ses 4 n
    ((allIndexes.filter fun i => decide (a ≤ i) && decide (i ≤ b) && readRight s ses i).map fun i => (1, 2, i)))) ∧
  (∀ (ses n c : Nat) (s : State), Serves s ses 5 → ∃ u, exec (.ackattn ses n c) s = .next (acceptReq u ses 5 n) ∧
    FMap.get 0 u.attn.acks (session s ses).cred = Nat.max (FMap.get 0 s.attn.acks (session s ses).cred) c ∧
    (∀ k, k ≠ (session s ses).cred → FMap.get 0 u.attn.acks k = FMap.get 0 s.attn.acks k) ∧ u.attn.log = s.attn.log ∧ u.dict = s.dict)

/-- READ, DESCRIBE and LIST never change the dictionary. Whatever the session, the items and the state, a READ, DESCRIBE or LIST leaves every
parameter in force, every pending value, every partition, bank, memory and the attention log as they were. -/
def Obligations.ReadsNeverChangeTheDictionary : Prop :=
  ∀ (c : Instr) (s t : State) (ses n a b : Nat) (items : List Nat),
    c = .read ses n items ∨ c = .describe ses n items ∨ c = .list ses n a b → exec c s = .next t →
    t.dict = s.dict ∧ t.pend = s.pend ∧ t.parts = s.parts ∧ t.banks = s.banks ∧ t.attn = s.attn ∧ t.sp = s.sp ∧ t.hbm = s.hbm ∧
    t.events = s.events ∧ t.kennel = s.kennel ∧ t.life = s.life

/-- A WRITE with an item that fails changes nothing but the session that hears of it. Where some item of a WRITE fails its checks the WRITE is
refused whole: the reply names the first item that fails, and no parameter, pending value, partition, queue, bank, image or power state
changes. -/
def Obligations.RefusedRequestsHaveNoEffect : Prop :=
  ∀ (ses n r i : Nat) (o : Option Nat) (x : WriteItem) (items : List WriteItem) (s : State), Serves s ses 2 →
    itemsFail s ses (items.length == 1) items 0 = some (r, o, i, x) →
    ∃ t, exec (.write ses n items) s = .next t ∧ t = refuseReq s ses 2 n r (o.getD (wiIdx x * 256 + wiEl x)) i ∧ t.dict = s.dict ∧
      t.pend = s.pend ∧ t.parts = s.parts ∧ t.queues = s.queues ∧ t.banks = s.banks ∧ t.images = s.images ∧ t.power = s.power ∧
      t.life = s.life ∧ t.ports = s.ports

/-- WRITE applies its items in order, a selector is the session's own, and an event source is configured. WRITE: with every item passing and at
most 3,968 bytes of persistent values, the items are applied in order and the reply is given, or awaited where an enable check begins.
SELECTOR_WRITE changes only the writing session's selector. EV_CONFIG_WRITE configures its source, and EV_OVERRUN_CLEAR clears its OVERRUN,
and no other source changes. -/
def Obligations.WriteRequests : Prop :=
  (∀ (ses n : Nat) (items : List WriteItem) (s t : State) (now : Bool), Serves s ses 2 →
    itemsFail s ses (items.length == 1) items 0 = none → persistBytes items ≤ 3968 → applyItems s ses n items = .inr (t, now) →
    exec (.write ses n items) s = .next (if now then acceptReq t ses 2 n else t)) ∧
  (∀ (ses n idx el v : Nat) (s : State) (d : ObjDesc), objDesc idx el = some d → d.selector = true → d.enable = false → idx < 65536 → el < 256 →
    Writes s ses idx el v →
    ∃ u, exec (.selectorWrite ses n idx el v) s = .next (acceptReq u ses 2 n) ∧
      FMap.find (session u ses).sel (idx * 256 + el) = some (v % 2 ^ (8 * typLen d.typ)) ∧
      (∀ k, k ≠ idx * 256 + el → FMap.find (session u ses).sel k = FMap.find (session s ses).sel k) ∧
      (∀ j, j ≠ ses → session u j = session s j) ∧ u.dict = s.dict) ∧
  (∀ (ses n k v : Nat) (s : State), k < 512 → v < 65536 → Writes s ses (0x9100 + k / 256) (k % 256) v →
    ∃ u, exec (.evConfigWrite ses n k v) s = .next (acceptReq u ses 2 n) ∧ u = evConfigure s k v ∧ evCfg u k = v ∧
      ∀ j, j ≠ k → evSrc u j = evSrc s j) ∧
  (∀ (ses n k : Nat) (s : State), k < 512 → Writes s ses (0x9200 + k / 256) (k % 256) 16 →
    ∃ u, exec (.evOverrunClear ses n k) s = .next (acceptReq u ses 2 n) ∧ evSrc u k = { evSrc s k with overrun := false } ∧
      ∀ j, j ≠ k → evSrc u j = evSrc s j)

/-- Enable bits of partitions, ports and policies. PART_ENABLE_SET of a LOADED partition begins its check, whose verdict is judged at once and
given when ENABLE_CHECK_DONE ends it: a verdict with a reason answers it and leaves the bit 0; else, outside a group as member, the bit is
1, the judged values are in force and the WRITE is answered. PART_ENABLE_CLEAR of an enabled partition clears the bit. PORT_ENABLE_SET and
POLICY_ENABLE_SET of a bit that is 0 set it where the check of the port or policy finds nothing. -/
def Obligations.EnableRequests : Prop :=
  (∀ (ses n p : Nat) (s : State), p < 16 → Writes s ses (pidx 0x51 p) 2 1 → (part s p).enable = false →
    ∃ u c, exec (.partEnableSet ses n p) s = .next u ∧ part u p = { part s p with check := some c } ∧ c.session = ses ∧ c.reqid = n ∧
      (c.reason, c.object) = enableVerdict s p ∧ (∀ j, j ≠ p → part u j = part s j) ∧ u.dict = s.dict ∧ u.pend = s.pend) ∧
  (∀ (p : Nat) (s : State) (c : CheckRun), p < 16 → (part s p).check = some c → c.reason ≠ 0 →
    ∃ u, exec (.enableCheckDone p) s = .next (refuseReq u c.session 2 c.reqid c.reason c.object) ∧ part u p = { part s p with check := none } ∧
      u.dict = s.dict ∧ u.pend = s.pend) ∧
  (∀ (p : Nat) (s : State) (c : CheckRun), p < 16 → (part s p).check = some c → c.reason = 0 →
    govD 0 s p (pidx 0x63 p) 1 = 0 ∨ govD 0 s p (pidx 0x63 p) 2 ≠ 2 → exec (.enableCheckDone p) s = .next (enableFinish s p)) ∧
  (∀ (p : Nat) (s : State) (c : CheckRun), (part s p).check = some c → (part (enableFinish s p) p).enable = true ∧
    (part (enableFinish s p) p).check = none ∧ (part (enableFinish s p) p).st = if modeHolds s then .armed else .idle) ∧
  (∀ (ses n p : Nat) (s : State), p < 16 → Writes s ses (pidx 0x51 p) 2 0 → (part s p).enable = true → (part s p).check = none →
    exec (.partEnableClear ses n p) s = .next (acceptReq (enableClear s p) ses 2 n) ∧ (part (enableClear s p) p).enable = false) ∧
  (∀ (ses n u : Nat) (m : Bool) (s : State), Writes s ses (if m then 0x2010 else 0x6010) 1 1 →
    u = selValue s ses (if m then 0x2010 else 0x6010) 0 → objD 1 s (if m then 0x2010 else 0x6010) 1 u = 0 →
    portCheck s (if m then 0x2010 else 0x6010) u = none →
    ∃ t, exec (.portEnableSet ses n m) s = .next (acceptReq t ses 2 n) ∧ objD 1 t (if m then 0x2010 else 0x6010) 1 u = 1 ∧
      t.parts = s.parts ∧ t.pend = s.pend) ∧
  (∀ (ses n : Nat) (th : Bool) (s : State), Writes s ses (if th then 0x4031 else 0x4030) 1 1 →
    enableBit s (if th then 0x4031 else 0x4030) 1 0 = 0 → policyCheck s (if th then 0x4031 else 0x4030) = none →
    ∃ t, exec (.policyEnableSet ses n th) s = .next (acceptReq t ses 2 n) ∧
      t = bring (setObj s (if th then 0x4031 else 0x4030) 1 1) fun k => keyIdx k == if th then 0x4031 else 0x4030)

/-- Requests that act on one brick, block, region, unit, tile or card. Each WRITE that passes the checks is answered with success, and: a brick
in SERVICE begins to shed its load, or leaves PREPARED and starts; a LOST block without owned tiles restarts; a region that may return is
switched on; a hold whose coolant has recovered ends in READY; a PERMANENT unit is HEALTHY with no events counted; a field test begins on
the tile's die; a card that may hand over is PREPARED. -/
def Obligations.UnitRequests : Prop :=
  (∀ (ses n b : Nat) (s : State), Writes s ses 0x4002 6 1 → b = selValue s ses 0x4002 0 → (brick s b).st = 2 →
    ∃ u, exec (.brickPrepare ses n) s = .next (acceptReq u ses 2 n) ∧ brick u b = { brick s b with shedding := true } ∧
      ∀ j, j ≠ b → brick u j = brick s j) ∧
  (∀ (ses n b : Nat) (s : State), Writes s ses 0x4002 6 0 → b = selValue s ses 0x4002 0 → (brick s b).st = 3 →
    ∃ u, exec (.brickUnprepare ses n) s = .next (acceptReq u ses 2 n) ∧ (brick u b).st = 1 ∧ ∀ j, j ≠ b → (brick u j).st = (brick s j).st) ∧
  (∀ (ses n c : Nat) (s : State), Writes s ses 0x4100 11 1 → c = selValue s ses 0x4100 0 →
    ∃ u, exec (.blockRestart ses n) s = .next (acceptReq u ses 2 n) ∧ blockState s c = 2 ∧ blockState u c = 3 ∧
      ∀ j, j ≠ c → blockState u j = blockState s j) ∧
  (∀ (ses n h : Nat) (s : State), h < 65536 → Writes s ses 0x4011 9 h →
    exec (.regionReturnRequest ses n h) s = .next (acceptReq (switchOn s h) ses 2 n) ∧ (spot (switchOn s h) h).off = 0) ∧
  (∀ (ses n : Nat) (s : State), Writes s ses 0x4020 9 1 →
    ∃ u, exec (.resume ses n) s = .next (acceptReq u ses 2 n) ∧ s.power = .hold ∧ s.coolant.st = 3 ∧ u.power = .ready ∧ u.coolant.st = 0) ∧
  (∀ (ses n k : Nat) (s : State), Writes s ses 0x7010 6 1 → k = unitKey (selValue s ses 0x7010 0) →
    ∃ u, exec (.unitReinstate ses n) s = .next (acceptReq u ses 2 n) ∧ (kUnit s k).st = 2 ∧ (kUnit u k).st = 0 ∧ (kUnit u k).events = [] ∧
      ∀ j, j ≠ k → (kUnit u j).st = (kUnit s j).st) ∧
  (∀ (ses n t : Nat) (s : State), t < 65536 → Writes s ses 0x7030 5 t →
    exec (.ftestRequestLight ses n t) s = .next (acceptReq (startTest s t false true) ses 2 n) ∧
      FMap.find (startTest s t false true).ftests (dieOf t) = some { tile := t, full := false, asked := true }) ∧
  (∀ (ses n t : Nat) (s : State), t < 65536 → Writes s ses 0x7030 5 (65536 + t) →
    exec (.ftestRequestFull ses n t) s = .next (acceptReq (startTest s t true true) ses 2 n) ∧
      FMap.find (startTest s t true true).ftests (dieOf t) = some { tile := t, full := true, asked := true }) ∧
  (∀ (ses n c : Nat) (s : State), Writes s ses 0x7040 2 1 → c = selValue s ses 0x7040 0 → c < 2 → (card s c).st < 3 →
    ∃ u, exec (.cardPrepare ses n) s = .next (acceptReq u ses 2 n) ∧ (card u c).st = 3 ∧ (card s (1 - c)).st ≤ 1 ∧
      ((card s c).st = 0 → (card u (1 - c)).st = 0))

/-- The host orders STANDBY, ATTENDED or READY where a transition allows it. In READY a target of STANDBY or ATTENDED begins an orderly stop
that ends there; in ATTENDED a target of STANDBY is entered and one of READY begins the power-on where the gate is open, and is refused with
RC_WAKE_BLOCKED and the failing condition's parameter where it is shut; any other write is refused with RC_POWER_STATE. -/
def Obligations.PowerTargets : Prop :=
  (∀ (ses n : Nat) (s : State), Serves s ses 2 → hasMconfig s ses = true → s.power = .ready →
    (∃ u, exec (.powerTargetStandby ses n) s = .next (acceptReq u ses 2 n) ∧ u.power = .stopping ∧ u.life.stop = 1 ∧ u.life.stopTo = 1) ∧
    (∃ u, exec (.powerTargetAttended ses n) s = .next (acceptReq u ses 2 n) ∧ u.power = .stopping ∧ u.life.stop = 1 ∧ u.life.stopTo = 2) ∧
    exec (.powerTargetReady ses n) s = .next (refuseReq s ses 2 n 0x021E 0x404001 0)) ∧
  (∀ (ses n : Nat) (s : State), Serves s ses 2 → hasMconfig s ses = true → s.power = .attended →
    (∃ u, exec (.powerTargetStandby ses n) s = .next (acceptReq u ses 2 n) ∧ u.power = .standby) ∧
    exec (.powerTargetAttended ses n) s = .next (refuseReq s ses 2 n 0x021E 0x404001 0) ∧
    (gateFails s = none → ∃ u, exec (.powerTargetReady ses n) s = .next (acceptReq u ses 2 n) ∧ u.power = .starting) ∧
    (∀ o, gateFails s = some o → exec (.powerTargetReady ses n) s = .next (refuseReq s ses 2 n 0x0614 o 0))) ∧
  (∀ (ses n : Nat) (s : State), Serves s ses 2 → hasMconfig s ses = true → s.power ≠ .ready → s.power ≠ .attended →
    exec (.powerTargetStandby ses n) s = .next (refuseReq s ses 2 n 0x021E 0x404001 0) ∧
    exec (.powerTargetAttended ses n) s = .next (refuseReq s ses 2 n 0x021E 0x404001 0) ∧
    exec (.powerTargetReady ses n) s = .next (refuseReq s ses 2 n 0x021E 0x404001 0)) ∧
  (∀ (ses n : Nat) (s : State), Serves s ses 2 → hasMconfig s ses = false →
    exec (.powerTargetStandby ses n) s = .next (refuseReq s ses 2 n 0x0204 0x404001 0) ∧
    exec (.powerTargetAttended ses n) s = .next (refuseReq s ses 2 n 0x0204 0x404001 0) ∧
    exec (.powerTargetReady ses n) s = .next (refuseReq s ses 2 n 0x0204 0x404001 0))

/-- Event sources are sensed, taken and completed. EV_SENSE makes a sensed IDLE source PENDING for its target, an ACTIVE one ACTIVE_PENDING, and
sets OVERRUN of an ACTIVE_PENDING one. EV_TAKE makes the server's next source ACTIVE while the server has room, and raises a cause for the
host's. EV_PROCESSOR_COMPLETE and EVCOMPLETE complete a source that is active toward their server. ATTN_FRAME_SEND sends a KEEPALIVE on
every open management and host session with a port that has sent no frame since a cause visible to its credential was raised. -/
def Obligations.EventController : Prop :=
  (∀ (k : Nat) (s : State), k < 512 → s.power ≠ .off → (s.power = .standby → watched k = true) → evSensed s k = true →
    ∃ u, exec (.evSense k) s = .next u ∧ (evSrc u k).edge = false ∧ (evSrc u k).count = ((evSrc s k).count + 1) % 2 ^ 32 ∧
      ((evSrc s k).st = 0 → (evSrc u k).st = 1 ∧ (evSrc u k).target = evTarget s k) ∧ ((evSrc s k).st = 2 → (evSrc u k).st = 3) ∧
      ((evSrc s k).st = 3 → (evSrc u k).st = 3 ∧ (evSrc u k).overrun = true) ∧ ∀ j, j ≠ k → evSrc u j = evSrc s j) ∧
  (∀ (srv k : Nat) (s : State), srv < 2 → cardsUp s = true →
    (s.events.filter fun e => decide (2 ≤ e.2.st) && e.2.target == srv).length < (if srv = 0 then 8 else 32) → evNext s srv = some k →
    ∃ u, exec (.evTake srv) s = .next u ∧ evSrc u k = { evSrc s k with st := 2, first := false } ∧ (∀ j, j ≠ k → evSrc u j = evSrc s j) ∧
      (srv = 0 → u.attn = s.attn)) ∧
  (∀ (k : Nat) (s : State), k < 512 → cardsUp s = true → (evSrc s k).target = 0 → exec (.evProcessorComplete k) s = .next (evComplete s k)) ∧
  (∀ (ses n k : Nat) (s : State), Serves s ses 6 → hasMconfig s ses = true → 2 ≤ (evSrc s k).st → (evSrc s k).target = 1 →
    exec (.evcomplete ses n k) s = .next (acceptReq (evComplete s k) ses 6 n)) ∧
  (∀ (k : Nat) (s : State), ((evSrc s k).st = 2 → (evSrc (evComplete s k) k).st =
      if evSense s k = 0 ∧ (evSrc s k).raw = true ∧ evEn s k = true then 1 else 0) ∧
    ((evSrc s k).st = 3 → (evSrc (evComplete s k) k).st = if evEn s k = true then 1 else 0) ∧ ∀ j, j ≠ k → evSrc (evComplete s k) j = evSrc s j) ∧
  (∀ (s : State), ∃ u, exec .attnFrameSend s = .next u ∧ u.attn = s.attn ∧
    ∀ e p c, e ∈ s.sessions → e.2.st = 2 → e.2.kind ≠ 2 → e.1 ≠ console → c ∈ s.attn.log → causeVisible s e.1 c = true → e.2.lastTx ≤ c.time →
      sendPort s e.1 = some p → SentFrame u p 7 e.1 e.2.peer 0 [])

/-- A bank that an operation is refused on ends the maintenance command's list with the bank's array number. For each of PROGRAM, CALIBRATE,
DISARM, REFRESH and RETIRE, where some selected bank does not admit the operation, the list ends with the reason of the first such bank and
a result word that names its array, and no bank changes. -/
def Obligations.BankCommandsRefused : Prop :=
  ∀ (c : Instr) (q op : Nat) (s : State) (r : RunList) (w e k : Nat),
    (c, op) ∈ [(.program q, 0x40), (.calibrate q, 0x41), (.disarm q, 0x43), (.refresh q, 0x44), (.retire q, 0x45)] →
    Reached s q op r w → selRefusal s (qPart q) op (picked s q w) = some (e, k) →
    exec c s = .next (turnOver (refuseCmd s q e [bankWord (lanOf (part s (qPart q)).place k) 0]) q r.pos) ∧
      ∀ t, exec c s = .next t → t.banks = s.banks ∧ t.vpgmWait = s.vpgmWait

/-- PROGRAM, CALIBRATE, REFRESH, DISARM and RETIRE move every selected bank to its next state. Where every selected bank admits the operation:
PROGRAM with a good source makes each PROGRAMMING with the source's block, format and sums and asks for VPGM; CALIBRATE makes each
CALIBRATING in the tile's band, or begins a calibration of the bank in service; REFRESH with good sources makes each REPAIRING and asks for
VPGM; these three wait for their banks. DISARM makes armed banks STANDBY and takes them out of the swap record; RETIRE makes each RETIRED,
for Kennel too; these two complete at once. No bank that is not selected changes, but for the scheduler's plan. -/
def Obligations.BankCommands : Prop :=
  (∀ (q : Nat) (s s1 : State) (r : RunList) (w : Nat) (x : BankImage), Reached s q 0x40 r w →
    selRefusal s (qPart q) 0x40 (picked s q w) = none → programSource s (qPart q) w = (s1, .inr x) →
    ∃ u, exec (.program q) s = .next u ∧ OthersKept s u (picked s q w) ∧ u.vpgmWait = s.vpgmWait ++ [(false, picked s q w)] ∧
      (∀ k, k ∈ picked s q w → (bankOf u k).st = .programming ∧ (bankOf u k).block = some x.block ∧ (bankOf u k).format = x.format ∧
        (bankOf u k).sums = x.sums ∧ (bankOf u k).op = .host) ∧
      (queue u q).running = some { r with begun := true, aux := picked s q w }) ∧
  (∀ (q : Nat) (s : State) (r : RunList) (w : Nat), Reached s q 0x41 r w → selRefusal s (qPart q) 0x41 (picked s q w) = none →
    ∃ u, exec (.calibrate q) s = .next u ∧ OthersKept s u (picked s q w) ∧
      (∀ k, k ∈ picked s q w → (bankOf u k).calBand = (latchOf s (bankTile k)).2 ∧ (bankOf u k).calT = (latchOf s (bankTile k)).1 ∧
        if (bankOf s k).st = .inService then (bankOf u k).st = .inService ∧ (bankOf u k).calInPlace = true
        else (bankOf u k).st = .calibrating) ∧
      (queue u q).running = some { r with begun := true, aux := picked s q w }) ∧
  (∀ (q : Nat) (s u0 : State) (r : RunList) (w : Nat), Reached s q 0x44 r w → selRefusal s (qPart q) 0x44 (picked s q w) = none →
    refreshAll (qPart q) .host s (picked s q w) [] = .inr u0 →
    ∃ u, exec (.refresh q) s = .next u ∧ OthersKept s u (picked s q w) ∧ u.vpgmWait = s.vpgmWait ++ [(false, picked s q w)] ∧
      (∀ k, k ∈ picked s q w → (bankOf u k).st = .repairing ∧ (bankOf u k).block = (bankOf s k).block) ∧
      (queue u q).running = some { r with begun := true, aux := picked s q w }) ∧
  (∀ (q : Nat) (s : State) (r : RunList) (w : Nat), Reached s q 0x43 r w → selRefusal s (qPart q) 0x43 (picked s q w) = none →
    ∃ u, exec (.disarm q) s = .next (turnOver (completeCmd u q []) q r.pos) ∧ OthersKept s u (picked s q w) ∧
      ∀ k, k ∈ picked s q w → (bankOf s k).st = .swapArmed → (bankOf u k).st = .standby ∧ k ∉ (part u (qPart q)).swap) ∧
  (∀ (q : Nat) (s : State) (r : RunList) (w : Nat), Reached s q 0x45 r w → selRefusal s (qPart q) 0x45 (picked s q w) = none →
    ∃ u, exec (.retire q) s = .next (turnOver (completeCmd u q []) q r.pos) ∧ OthersKept s u (picked s q w) ∧
      ∀ k, k ∈ picked s q w → (bankOf u k).st = .retired ∧
        (kUnit u (kKey 1 (bankTile k) (bankSub (bankArray k) (k % 2)))).st = 3)

/-- SWAP arms standby banks, and where no step runs the maps change at once. A SWAP of standby banks in a partition that is not FAULTED arms
each of them while a step runs and waits; where no step runs each is in service at once, its array's map names it, and the bank it replaces
is STANDBY. -/
def Obligations.SwapArmsOrExchanges : Prop :=
  ∀ (q : Nat) (s : State) (r : RunList) (w : Nat), Reached s q 0x42 r w → selRefusal s (qPart q) 0x42 (picked s q w) = none →
    (part s (qPart q)).st ≠ .faulted → (∀ k, k ∈ picked s q w → (bankOf s k).st = .standby) →
    (swapNow s (qPart q) = false → ∃ u, exec (.swap q) s = .next u ∧ OthersKept s u (picked s q w) ∧ u.bankMap = s.bankMap ∧
      (∀ k, k ∈ picked s q w → (bankOf u k).st = .swapArmed ∧ k ∈ (part u (qPart q)).swap) ∧
      (queue u q).running = some { r with begun := true, aux := picked s q w }) ∧
    (swapNow s (qPart q) = true → (part s (qPart q)).swap = [] → (∀ k, k ∈ picked s q w → sibling k ∉ picked s q w) →
      ∃ u, exec (.swap q) s = .next u ∧ (part u (qPart q)).swap = [] ∧
        ∀ k, k ∈ picked s q w → (bankOf u k).st = .inService ∧ mapBank u (bankTile k) (bankArray k) 0 = some (k % 2) ∧
          ((bankOf s (sibling k)).st = .inService → (bankOf u (sibling k)).st = .standby))

/-- QUERY answers wear records, and stores table records and column sums at their strides. QUERY with WHAT 0 completes with a wear record for
each selected bank; with WHAT 1 and 2 it stores each bank's table record, 16 KiB apart, or its column sums, 4 KiB apart, 0x8000 each where
the bank holds no verified programming, and completes. No bank changes. -/
def Obligations.BankQueries : Prop :=
  (∀ (q : Nat) (s : State) (r : RunList) (w : Nat), Reached s q 0x46 r w → fld w 146 145 = 0 →
    exec (.queryWear q) s = .next (turnOver (completeCmd s q ((picked s q w).map fun k => BitVec.ofNat 256 (wearRecord (bankOf s k)))) q r.pos)) ∧
  (∀ (q : Nat) (s : State) (r : RunList) (w : Nat), Reached s q 0x46 r w → fld w 146 145 = 1 → ∃ u l,
    exec (.queryTable q) s = .next (turnOver (completeCmd u q []) q r.pos) ∧ u = writeAt s (qPart q) (fld w 140 93) 16384 l ∧ u.banks = s.banks ∧
      l.length = (picked s q w).length ∧ ∀ (i k : Nat), (picked s q w)[i]? = some k →
        (∀ c, FMap.find (bankOf s k).tables (fld w 144 141) = some c →
          l.getD i [] = tableRecord k c (tableValid (bankOf s k) c && (bankOf s k).st != .programming)) ∧
        (FMap.find (bankOf s k).tables (fld w 144 141) = none → l.getD i [] = tableRecord k noTable false)) ∧
  (∀ (q : Nat) (s : State) (r : RunList) (w : Nat), Reached s q 0x46 r w → fld w 146 145 = 2 → ∃ u l,
    exec (.queryColsums q) s = .next (turnOver (completeCmd u q []) q r.pos) ∧ u = writeAt s (qPart q) (fld w 140 93) 4096 l ∧ u.banks = s.banks ∧
      l.length = (picked s q w).length ∧ ∀ (i k j : Nat), (picked s q w)[i]? = some k → j < 1040 →
        ((l.getD i []).drop (2 * j)).take 2 =
          leBytes 2 (if holdsSums (bankOf s k) then ofSigned 16 ((bankOf s k).sums.getD j 0) else 0x8000))

/-- What ends a bank's programming, calibration or repair, and what a drift probe records. VPGM_GRANT opens the program entries of the request
it serves. BANK_VERIFY_DONE ends a program cycle: PROGRAMMED with no cell left out, INVALID otherwise; a repair with no cell left out begins
its fit, and ends INVALID otherwise. CAL_FIT_DONE with a table makes a calibrating bank STANDBY with that table of its band, and of a bank
in service it commits the table and marks it for the boundary; without one, and at CAL_TIMEOUT, the bank returns to the state it came from.
REPAIR_DONE with a table returns the bank to service; a first failed fit is started again and a second ends INVALID; one that comes before
its BANK_VERIFY_DONE does that command's work first. DRIFT_PROBE records D, or that it found no slot. No other bank changes its state. That
a fit whose record holds an entry without correction has failed is the model's choice (log 107). -/
def Obligations.BankEvents : Prop :=
  (∀ (s : State) (e : Bool × List Nat), vpgmNext s = some e → vpgmCovers s e.2 = true → ∃ u, exec .vpgmGrant s = .next u ∧
    u.vpgmWait = s.vpgmWait.erase e ∧ (∀ k, k ∉ e.2 → bankOf u k = bankOf s k) ∧
    ∀ k, k ∈ e.2 → bankOf u k = if (bankOf s k).st = .programming ∨ (bankOf s k).st = .repairing then
      { bankOf s k with
        openEntry := true, openRefresh := (bankOf s k).st == .repairing || (bankOf s k).op == .scheduler } else bankOf s k) ∧
  (∀ (s : State) (t a b cells slow pulses : Nat), badBank t a b = false → (bankOf s (bankKey t a b)).st = .programming →
    (bankOf s (bankKey t a b)).openEntry = true →
    (cells = 0 → ∃ u, exec (.bankVerifyDone t a b cells slow pulses) s =
        .next (placerPump (afterVerify u (bankKey t a b) (bankOf s (bankKey t a b)).op)) ∧
      (bankOf u (bankKey t a b)).st = .programmed ∧ (bankOf u (bankKey t a b)).openEntry = false ∧
      (bankOf u (bankKey t a b)).progCycles = (bankOf s (bankKey t a b)).progCycles + 1 ∧
      ∀ k, k ≠ bankKey t a b → bankOf u k = bankOf s k) ∧
    (cells ≠ 0 → ∃ u, exec (.bankVerifyDone t a b cells slow pulses) s = .next u ∧ (bankOf u (bankKey t a b)).st = .invalid ∧
      (bankOf u (bankKey t a b)).progCycles = (bankOf s (bankKey t a b)).progCycles + 1 ∧
      ∀ k, k ≠ bankKey t a b → bankOf u k = bankOf s k)) ∧
  (∀ (s : State) (t a b cells slow pulses : Nat), badBank t a b = false → (bankOf s (bankKey t a b)).st = .repairing →
    (bankOf s (bankKey t a b)).openEntry = true →
    (cells = 0 → ∃ u, exec (.bankVerifyDone t a b cells slow pulses) s = .next (startFit u (bankKey t a b)) ∧
      (bankOf (startFit u (bankKey t a b)) (bankKey t a b)).fitting = true ∧ (bankOf u (bankKey t a b)).st = .repairing ∧
      ∀ k, k ≠ bankKey t a b → bankOf u k = bankOf s k) ∧
    (cells ≠ 0 → ∃ u, exec (.bankVerifyDone t a b cells slow pulses) s = .next u ∧ (bankOf u (bankKey t a b)).st = .invalid ∧
      ∀ k, k ≠ bankKey t a b → bankOf u k = bankOf s k)) ∧
  (∀ (s : State) (t a b : Nat) (f : FitTable), badBank t a b = false → f.cols.contains noCorrection = false →
    ((bankOf s (bankKey t a b)).st = .calibrating → (bankOf s (bankKey t a b)).calInPlace = false →
      ∃ u, exec (.calFitDone t a b (some f)) s = .next u ∧
      (bankOf u (bankKey t a b)).st = .standby ∧
      FMap.find (bankOf u (bankKey t a b)).tables (bankOf s (bankKey t a b)).calBand = some (fitTable s (bankKey t a b) f) ∧
      ∀ k, k ≠ bankKey t a b → (bankOf u k).st = (bankOf s k).st ∧ (bankOf u k).tables = (bankOf s k).tables) ∧
    ((bankOf s (bankKey t a b)).calInPlace = true → ∃ u, exec (.calFitDone t a b (some f)) s = .next u ∧
      (bankOf u (bankKey t a b)).st = (bankOf s (bankKey t a b)).st ∧ (bankOf u (bankKey t a b)).calInPlace = false ∧
      (bankOf u (bankKey t a b)).newTable = true ∧ (bankOf u (bankKey t a b)).cur = (bankOf s (bankKey t a b)).cur ∧
      FMap.find (bankOf u (bankKey t a b)).tables (bankOf s (bankKey t a b)).calBand = some (fitTable s (bankKey t a b) f) ∧
      ∀ k, k ≠ bankKey t a b → (bankOf u k).st = (bankOf s k).st ∧ (bankOf u k).tables = (bankOf s k).tables)) ∧
  (∀ (s : State) (t a b : Nat) (c : Instr), badBank t a b = false → c = .calFitDone t a b none ∨ c = .calTimeout t a b →
    ((bankOf s (bankKey t a b)).st = .calibrating → ∃ u, exec c s = .next (placerPump u) ∧
      (bankOf u (bankKey t a b)).st = (bankOf s (bankKey t a b)).prior ∧
      (bankOf u (bankKey t a b)).tables = (bankOf s (bankKey t a b)).tables ∧ ∀ k, k ≠ bankKey t a b → bankOf u k = bankOf s k) ∧
    ((bankOf s (bankKey t a b)).st = .inService → (bankOf s (bankKey t a b)).calInPlace = true → ∃ u, exec c s = .next (placerPump u) ∧
      (bankOf u (bankKey t a b)).st = .inService ∧ (bankOf u (bankKey t a b)).calInPlace = false ∧
      (bankOf u (bankKey t a b)).tables = (bankOf s (bankKey t a b)).tables ∧ ∀ k, k ≠ bankKey t a b → bankOf u k = bankOf s k)) ∧
  (∀ (s : State) (t a b cells slow pulses : Nat), badBank t a b = false → (bankOf s (bankKey t a b)).st = .repairing →
    (bankOf s (bankKey t a b)).fitting = true →
    (∀ f : FitTable, f.cols.contains noCorrection = false → ∃ u, exec (.repairDone t a b cells slow pulses (some f)) s = .next u ∧
      (bankOf u (bankKey t a b)).st = .inService ∧ (bankOf u (bankKey t a b)).fitting = false ∧
      FMap.find (bankOf u (bankKey t a b)).tables (bankOf s (bankKey t a b)).calBand = some (fitTable s (bankKey t a b) f) ∧
      ∀ k, k ≠ bankKey t a b → (bankOf u k).st = (bankOf s k).st ∧ (bankOf u k).tables = (bankOf s k).tables) ∧
    ((bankOf s (bankKey t a b)).fitFails = 0 → ∃ u, exec (.repairDone t a b cells slow pulses none) s = .next u ∧
      (bankOf u (bankKey t a b)).st = .repairing ∧ (bankOf u (bankKey t a b)).fitting = true ∧ (bankOf u (bankKey t a b)).fitFails = 1 ∧
      ∀ k, k ≠ bankKey t a b → bankOf u k = bankOf s k) ∧
    ((bankOf s (bankKey t a b)).fitFails ≠ 0 → ∃ u, exec (.repairDone t a b cells slow pulses none) s = .next u ∧ (bankOf u (bankKey t a b)).st = .invalid ∧
      ∀ k, k ≠ bankKey t a b → bankOf u k = bankOf s k)) ∧
  (∀ (s : State) (t a b : Nat) (codes : List (List (BitVec 12))) (c : CalTable), badBank t a b = false →
    (bankOf s (bankKey t a b)).st = .inService → curTable (bankOf s (bankKey t a b)) = some c →
    ∃ u, exec (.driftProbe t a b codes) s = .next u ∧ (∀ k, k ≠ bankKey t a b → bankOf u k = bankOf s k) ∧
      (codes = [] → bankOf u (bankKey t a b) = { bankOf s (bankKey t a b) with
        probesSkipped := (bankOf s (bankKey t a b)).probesSkipped + 1 }) ∧
      (codes ≠ [] → (bankOf u (bankKey t a b)).drift = Nat.min (driftOf (passResults (some c) (latchOf s t).1 probeVector codes) c) 65535 ∧
        (bankOf u (bankKey t a b)).driftTime = tilePowered s t ∧ (bankOf u (bankKey t a b)).st = .inService)) ∧
  (∀ (s : State) (t a b cells slow pulses : Nat) (fit : Option FitTable), badBank t a b = false → (bankOf s (bankKey t a b)).st = .repairing →
    (bankOf s (bankKey t a b)).fitting = false → (bankOf s (bankKey t a b)).openEntry = true →
    ∃ v, exec (.bankVerifyDone t a b cells slow pulses) s = .next v ∧ exec (.repairDone t a b cells slow pulses fit) s =
      if cells = 0 then exec (.repairDone t a b cells slow pulses fit) v else .next v)

/-- The scheduler's judgement, captures and their verdicts, and the scrubber. With maintenance off SCHEDULER_EVAL only judges whether
calibration and refresh are due, and whether a bank stays overdue. CAPTURE_DRAIN moves a latched capture into the store while it has room;
ARBITRATION_START begins the oldest that waits; ARBITRATION_VERDICT records the verdict of a running one, removes it from the store and acts
on its bank, unless the bank has been programmed since. SCRUB_LINE clears single-bit errors of its line, marks double ones uncorrectable,
and counts a pass at the last line. -/
def Obligations.SchedulerAndArbitration : Prop :=
  (∀ (s : State), objD 1 s 0x2300 1 = 0 → ∃ u, exec .schedulerEval s = .next u ∧
    ∀ k, { bankOf u k with calDue := false, refreshDue := false, overdue := false } =
        { bankOf s k with calDue := false, refreshDue := false, overdue := false } ∧
      ((bankOf s k).st = .inService → ∀ p i, ownerOf s (bankTile k) = some (p, i) → (part s p).st ≠ .loading →
        (bankOf u k).calDue = ((bankOf s k).calDue || calDueNow s k) ∧ (bankOf u k).refreshDue = ((bankOf s k).refreshDue || agedOut s k))) ∧
  (∀ (s : State) (t : Nat) (c : Capture), tileOk t = true → FMap.find s.capLatch t = some c → s.captures.length < 64 →
    ∃ u, exec (.captureDrain t) s = .next u ∧ u.captures = s.captures ++ [c] ∧ FMap.find u.capLatch t = none ∧
      ∀ j, j ≠ t → FMap.find u.capLatch j = FMap.find s.capLatch j) ∧
  (∀ (s : State) (c : Capture), (s.captures.filter (·.running)).length < 4 → (s.captures.find? fun c => !c.running) = some c →
    exec .arbitrationStart s = .next { s with captures := s.captures.map fun x => if x.id = c.id then { x with running := true } else x }) ∧
  (∀ (s : State) (c : Capture), (s.captures.find? fun x => x.id == c.id && x.running) = some c → ∃ u, exec (.arbitrationVerdict c.id) s = .next u ∧
    (∀ x, x ∈ u.captures ↔ x ∈ s.captures ∧ x.id ≠ c.id) ∧
    (reprogrammed s c = false → (arbitrate s c).2.code = 1 → (bankOf u (bankKey c.tile c.array c.bank)).calDue = true) ∧
    (reprogrammed s c = false → (arbitrate s c).2.code = 2 ∨ (arbitrate s c).2.code = 3 → (bankOf u (bankKey c.tile c.array c.bank)).refreshDue = true ∧
      (bankOf u (bankKey c.tile c.array c.bank)).noCopy = true) ∧
    (∀ k, k ≠ bankKey c.tile c.array c.bank → bankOf u k = bankOf s k)) ∧
  (∀ (s : State) (t line : Nat) (conds : List Nat), tileOk t = true → line < 196608 →
    (∀ i, conds.getD i 0 ≤ 2) → ∃ u, exec (.scrubLine t line conds) s = .next u ∧
    u.sp = s.sp ∧ (∀ key, (∀ i, i < 4 → key ≠ t * 2 ^ 20 + (4 * line + i)) → FMap.get 0 u.spErr key = FMap.get 0 s.spErr key) ∧
    ∀ i, i < 4 → FMap.get 0 u.spErr (t * 2 ^ 20 + (4 * line + i)) =
      if Nat.max (conds.getD i 0) (FMap.get 0 s.spErr (t * 2 ^ 20 + (4 * line + i))) ≤ 1 then
        (if Nat.max (conds.getD i 0) (FMap.get 0 s.spErr (t * 2 ^ 20 + (4 * line + i))) = 0 then
          FMap.get 0 s.spErr (t * 2 ^ 20 + (4 * line + i)) else 0)
      else 3)

/-- WOPEN opens a closed window at the next epoch, WCLOSE closes it, RWRITE sends a remote write. WOPEN of a CLOSED window whose range covers no
RESIDENT region opens it over the range with its epoch raised by 1, from 65,535 to 1, and answers the epoch; WCLOSE of an OPEN window makes
it CLOSING, and a CLOSING window into which no accepted write has still to land is CLOSED; RWRITE on an open link session of the partition
notes the write with the bytes of its source under the next tag, sends it, and waits. -/
def Obligations.WindowCommands : Prop :=
  (∀ (q : Nat) (s : State) (r : RunList) (w e : Nat), Reached s q 0x50 r w → (window s (qPart q) (fld w 223 208)).st = 0 →
    coversResident s (qPart q) (fld w 207 160) (fld w 159 128) = false →
    e = (if (window s (qPart q) (fld w 223 208)).epoch = 0xFFFF then 1 else (window s (qPart q) (fld w 223 208)).epoch + 1) →
    ∃ u, exec (.wopen q) s = .next (turnOver (completeCmd u q [BitVec.ofNat 256 (put e 16 240)]) q r.pos) ∧
      window u (qPart q) (fld w 223 208) = { st := 1, epoch := e, va := fld w 207 160, len := fld w 159 128 } ∧
      (∀ k, k ≠ qPart q * 256 + fld w 223 208 → FMap.find u.windows k = FMap.find s.windows k) ∧ u.queues = s.queues) ∧
  (∀ (q : Nat) (s : State) (r : RunList) (w : Nat), Reached s q 0x51 r w → (window s (qPart q) (fld w 223 208)).st = 1 →
    ∃ u, exec (.wclose q) s = .next (turnOver (windowSettle u (qPart q) (fld w 223 208)) q r.pos) ∧
      window u (qPart q) (fld w 223 208) = { window s (qPart q) (fld w 223 208) with st := 2 } ∧
      (queue u q).running = some { r with begun := true, aux := [] } ∧ u.inWrites = s.inWrites) ∧
  (∀ (s : State) (p w : Nat), (window s p w).st = 2 →
    ((s.inWrites.any fun x => x.part == p && x.win == w && !x.refused) = false → (window (windowSettle s p w) p w).st = 0) ∧
    ((s.inWrites.any fun x => x.part == p && x.win == w && !x.refused) = true → windowSettle s p w = s)) ∧
  (∀ (q : Nat) (s : State) (r : RunList) (w : Nat), Reached s q 0x52 r w → (session s (fld w 207 192)).st = 2 →
    (session s (fld w 207 192)).kind = 2 → (session s (fld w 207 192)).lpart = qPart q →
    pvaBad s (qPart q) (fld w 175 128) (fld w 95 64) = false →
    ∃ u, exec (.rwrite q) s = .next u ∧ u.nextTag = (s.nextTag + 1) % 2 ^ 32 ∧
      (queue u q).running = some { r with begun := true, aux := [] } ∧
      u.outWrites = s.outWrites ++ [{
        session := fld w 207 192, part := qPart q, tag := s.nextTag, queue := some q, exp := 0, win := fld w 223 208, epoch := fld w 191 176
        off := fld w 127 96, data := pvaRead s (qPart q) (fld w 175 128) (fld w 95 64) }] ∧
      OutMsg.write (fld w 207 192) (fld w 223 208) (fld w 191 176) (fld w 127 96) s.nextTag
        (pvaRead s (qPart q) (fld w 175 128) (fld w 95 64)) ∈ u.out ∧ u.sp = s.sp ∧ u.hbm = s.hbm)

/-- WRITE_LANDED stores the last segment's bytes of a remote write at its address and answers WACK. The bytes of the last segment land at the
write's address and nowhere else; the write is no longer pending; WACK with its tag, and the epoch and state of its window, goes to its
session. -/
def Obligations.RemoteWritesLand : Prop :=
  ∀ (i : Nat) (s : State) (x : InWrite) (data : List Byte), s.inWrites[i]? = some x → x.last = some data →
    ∃ u, exec (.writeLanded i) s = .next (windowSettle u x.part x.win) ∧ Landed s u x.part x.va data ∧
      u.inWrites = s.inWrites.take i ++ s.inWrites.drop (i + 1) ∧ u.windows = s.windows ∧ u.acc = s.acc ∧
      OutMsg.wack x.session 0 (wackBody s x.part x.win x.tag) ∈ u.out

/-- EXPORT_TRIGGER sends a WRITE export whose object has passed its count. An export of an enabled partition whose object has passed its count
is sent: a WRITE export whose epoch is known and whose session is open raises its count by 1 and notes and sends a remote write of its
tile's bytes under the next tag; one without an announced epoch is not sent yet and nothing changes. -/
def Obligations.ExportsSend : Prop :=
  (∀ (p e : Nat) (s : State), p < 16 → e < 64 → fld (objD 0 s (pidx 0x64 p) (e + 1)) 255 248 ≠ 0 → (part s p).enable = true →
    FMap.get 0 s.exports (p * 64 + e) < syncGet s p (fld (objD 0 s (pidx 0x64 p) (e + 1)) 188 179) →
    exec (.exportTrigger p e) s = .next (sendExport s p e (objD 0 s (pidx 0x64 p) (e + 1)))) ∧
  (∀ (p e w ses ep : Nat) (s : State) (t : PTile), bitAt w 247 = false → bitAt w 94 = false → bitAt w 83 = false →
    rankSession s p (exportRank s p w) = some ses → ptile (part s p).place (fld w 239 228) = some t → exportEpoch s p w = some ep →
    spBad s t.tile (fld w 227 205) (4 * fld w 204 189) = false →
    FMap.get 0 (sendExport s p e w).exports (p * 64 + e) = FMap.get 0 s.exports (p * 64 + e) + 1 ∧
    (sendExport s p e w).outWrites = s.outWrites ++ [{
      session := ses, part := p, tag := s.nextTag, queue := none, exp := e, win := fld w 178 171, epoch := ep, off := fld w 142 111
      data := spRead s t.tile (fld w 227 205) (4 * fld w 204 189) }] ∧
    OutMsg.write ses (fld w 178 171) ep (fld w 142 111) s.nextTag (spRead s t.tile (fld w 227 205) (4 * fld w 204 189)) ∈
      (sendExport s p e w).out ∧ (sendExport s p e w).sync = s.sync ∧ (sendExport s p e w).sp = s.sp) ∧
  (∀ (p e w : Nat) (s : State), bitAt w 247 = false → exportEpoch s p w = none → sendExport s p e w = s)

/-- Images are reserved, written, committed and deleted whole. With MCONFIG: IMGBEGIN of an image that no partition uses reserves its bytes
where the store has them and fewer than four uploads are open, in place of an open upload of the same image; IMGDATA within the upload
stores its bytes at their offset; IMGEND of an upload whose every byte was written and whose header is good commits the image; IMGDELETE
abandons the upload, or removes the committed image that no partition uses. Without MCONFIG each is refused with RC_RIGHTS (0x0204). -/
def Obligations.ImageRequests : Prop :=
  (∀ (ses n im len : Nat) (s : State), Serves s ses 0x30 → hasMconfig s ses = true → imageUsed s im = false →
    (s.uploads.filter fun u => u.image != im).length < 4 → len ≤ storeFree { s with uploads := s.uploads.filter fun u => u.image != im } →
    exec (.imgbegin ses n im len) s = .next (acceptReq
      { s with uploads := (s.uploads.filter fun u => u.image != im) ++ [{ image := im, len := len }] } ses 0x30 n)) ∧
  (∀ (ses n im off : Nat) (data : List Byte) (s : State) (v : Upload), Serves s ses 0x31 → hasMconfig s ses = true →
    (s.uploads.find? fun u => u.image == im) = some v → off + data.length ≤ v.len → data.length ≤ 2097136 →
    ∃ t x, exec (.imgdata ses n im off data) s = .next (acceptReq t ses 0x31 n) ∧ (t.uploads.find? fun u => u.image == im) = some x ∧
      x.len = v.len ∧ x.ranges = (off, data.length) :: v.ranges ∧
      (∀ a, Memory.read x.bytes a = if off ≤ a ∧ a < off + data.length then data.getD (a - off) 0 else Memory.read v.bytes a) ∧
      (∀ j, j ≠ im → (t.uploads.find? fun u => u.image == j) = s.uploads.find? fun u => u.image == j) ∧ t.images = s.images) ∧
  (∀ (ses n im : Nat) (s : State) (v : Upload), Serves s ses 0x32 → hasMconfig s ses = true →
    (s.uploads.find? fun u => u.image == im) = some v → coversFrom v.ranges v.len 0 v.ranges.length = true →
    imgMagic v.bytes = 0x4F4C4931 → imgLength v.bytes * 4096 = v.len → imgHdrCrcOk v.bytes = true →
    ∃ t, exec (.imgend ses n im) s = .next (acceptReq t ses 0x32 n) ∧ FMap.find t.images im = some { bytes := v.bytes, len := v.len } ∧
      (t.uploads.find? fun u => u.image == im) = none ∧ ∀ j, j ≠ im → FMap.find t.images j = FMap.find s.images j) ∧
  (∀ (ses n im : Nat) (s : State), Serves s ses 0x33 → hasMconfig s ses = true → imageUsed s im = false →
    ((s.uploads.any fun u => u.image == im) = true → ∃ t, exec (.imgdelete ses n im) s = .next (acceptReq t ses 0x33 n) ∧
      (t.uploads.find? fun u => u.image == im) = none ∧ t.images = s.images) ∧
    ((s.uploads.any fun u => u.image == im) = false → (FMap.find s.images im).isSome = true →
      ∃ t, exec (.imgdelete ses n im) s = .next (acceptReq t ses 0x33 n) ∧ FMap.find t.images im = none ∧
        ∀ j, j ≠ im → FMap.find t.images j = FMap.find s.images j)) ∧
  (∀ (ses n im len off : Nat) (data : List Byte) (s : State), hasMconfig s ses = false →
    (Serves s ses 0x30 → exec (.imgbegin ses n im len) s = .next (refuseReq s ses 0x30 n 0x0204)) ∧
    (Serves s ses 0x31 → exec (.imgdata ses n im off data) s = .next (refuseReq s ses 0x31 n 0x0204)) ∧
    (Serves s ses 0x32 → exec (.imgend ses n im) s = .next (refuseReq s ses 0x32 n 0x0204)) ∧
    (Serves s ses 0x33 → exec (.imgdelete ses n im) s = .next (refuseReq s ses 0x33 n 0x0204)))

/-- Each row of a Broler frame type takes the oldest frame received of that type, and leaves another's. Where the oldest frame has the row's
type and its session takes it, the frame leaves the buffer; where the oldest frame has another type, or there is none, nothing changes. -/
def Obligations.BrolerRowsTakeTheOldestFrame : Prop :=
  ∀ (c : Instr) (typ k : Nat) (s : State), (c, typ) ∈ [(.brolerOpen k, 1), (.brolerChallenge, 2), (.brolerProve, 3), (.brolerAccept k, 4),
      (.brolerRefuse, 5), (.brolerClose, 6), (.brolerKeepalive, 7), (.brolerAckf, 8), (.brolerMsg, 0x10), (.brolerWrite, 0x20),
      (.brolerWack, 0x21), (.brolerWnak, 0x22), (.brolerContrib, 0x30)] →
    (∀ x t, Oldest s typ x t → ∃ u, exec c s = .next u ∧ u.rx = t) ∧
    (s.rx = [] → exec c s = .next s) ∧ (∀ x t, s.rx = x :: t → bTyp x.hdr ≠ typ → exec c s = .next s)

/-- A session opens by OPEN, CHALLENGE, PROVE and ACCEPT, and an attempt ends with REFUSE. An OPEN that nothing refuses makes a session
CHALLENGED under the lowest free identifier and is answered by CHALLENGE with its nonce; one refused is answered by REFUSE with the reason,
and no session changes. CHALLENGE is answered by PROVE with the proof. A PROVE with the exact proof under a usable credential opens the
session with ACCEPT; another ends it with REFUSE and RC_AUTH (0x0213). ACCEPT opens the initiator's session. REFUSE ends an attempt; so does
a PROVE that is 100 ms late. -/
def Obligations.SessionsOpen : Prop :=
  (∀ (k : Nat) (s : State) (x : RxFrame) (t : List RxFrame), Oldest s 1 x t →
    (∀ r, openRefusal s x.payload (bSsid x.hdr) (bDsid x.hdr) (decide (48 ≤ x.port)) k = some r → ∃ u, exec (.brolerOpen k) s = .next u ∧
      SentFrame u x.port 5 0 (bSsid x.hdr) r [] ∧ u.sessions = s.sessions) ∧
    (openRefusal s x.payload (bSsid x.hdr) (bDsid x.hdr) (decide (48 ≤ x.port)) k = none → ∃ u, exec (.brolerOpen k) s = .next u ∧
      (session u (freeId s)).st = 1 ∧ (session u (freeId s)).kind = openKind x.payload ∧ (session u (freeId s)).cred = openCred x.payload ∧
      (session u (freeId s)).peer = bSsid x.hdr ∧ (session u (freeId s)).nonce = Config.nonce s.refTicks (freeId s) ∧
      SentFrame u x.port 2 (freeId s) (bSsid x.hdr) 0
        (leBytes 1 (16 + Nat.min (openField x.payload 0 1 % 16) 1) ++ Config.nonce s.refTicks (freeId s)) ∧
      ∀ j, j ≠ freeId s → FMap.find u.sessions j = FMap.find s.sessions j)) ∧
  (∀ (s : State) (x : RxFrame) (t : List RxFrame), Oldest s 2 x t → x.payload.length = 17 →
    openField x.payload 0 1 = 16 ∨ openField x.payload 0 1 = 17 →
    ∃ u y, exec .brolerChallenge s = .next u ∧ session u (bDsid x.hdr) = y ∧ y.st = 1 ∧ y.peer = bSsid x.hdr ∧ y.nonce = x.payload.drop 1 ∧
      y.vmin = openField x.payload 0 1 % 16 ∧ y.open_ = (session s (bDsid x.hdr)).open_ ∧
      SentFrame u x.port 3 (bDsid x.hdr) (bSsid x.hdr) 0
        (hmac256 ((credKey s y.cred).getD []) (proofMessage y (bDsid x.hdr) (bSsid x.hdr)))) ∧
  (∀ (s : State) (x : RxFrame) (t : List RxFrame) (y : Session), Oldest s 3 x t → y = session s (bDsid x.hdr) →
    (credOk s y.cred y.kind = true → x.payload = hmac256 ((credKey s y.cred).getD []) (proofMessage y y.peer (bDsid x.hdr)) →
      ∃ u, exec .brolerProve s = .next (if y.kind = 2 then linkOpened u (bDsid x.hdr) else sendDebugs u (bDsid x.hdr)) ∧
        (session u (bDsid x.hdr)).st = 2 ∧ (y.kind ≠ 2 → (session u (bDsid x.hdr)).rights = credRights s y.cred ∧
          SentFrame u x.port 4 (bDsid x.hdr) y.peer 0 (leBytes 2 (bDsid x.hdr) ++ leBytes 6 (fld (credRights s y.cred) 111 64))) ∧
        ∀ j, j ≠ bDsid x.hdr → session u j = session s j) ∧
    (credOk s y.cred y.kind = false ∨ x.payload ≠ hmac256 ((credKey s y.cred).getD []) (proofMessage y y.peer (bDsid x.hdr)) →
      ∃ u, exec .brolerProve s = .next u ∧ FMap.find u.sessions (bDsid x.hdr) = none ∧
        SentFrame u x.port 5 (bDsid x.hdr) y.peer 0x0213 [])) ∧
  (∀ (k : Nat) (s : State) (x : RxFrame) (t : List RxFrame), Oldest s 4 x t → (session s (bDsid x.hdr)).group = 0 →
    ∃ u, exec (.brolerAccept k) s = .next u ∧ (session u (bDsid x.hdr)).st = 2 ∧ ∀ j, j ≠ bDsid x.hdr → session u j = session s j) ∧
  (∀ (s : State) (x : RxFrame) (t : List RxFrame), Oldest s 5 x t → (session s (bDsid x.hdr)).st < 2 →
    ∃ u, exec .brolerRefuse s = .next u ∧ FMap.find u.sessions (bDsid x.hdr) = none) ∧
  (∀ (ses : Nat) (s : State), (session s ses).st = 1 → (session s ses).opener = false → (session s ses).openedAt + 100000000 ≤ nowNs s →
    exec (.proveTimeout ses) s = .next (closeSession s ses) ∧ FMap.find (closeSession s ses).sessions ses = none ∧
      FMap.find (closeSession s ses).closed ses = some (nowNs s))

/-- Sessions close, are lost, keep alive, acknowledge and send again. CLOSE makes an open session CLOSING; CLOSING_DONE ends it once nothing it
sent is unacknowledged or 100 ms have passed; SESSION_LOSS ends one that has heard nothing for the loss time. KEEPALIVE refreshes the loss
timer; KEEPALIVE_SEND sends one at the period; ACK_DELAY acknowledges what is due; ACKF releases the segments that it acknowledges;
RETRANSMIT_TIMEOUT counts an expiry and sends again what is unacknowledged. -/
def Obligations.SessionsCloseAndLive : Prop :=
  (∀ (s : State) (x : RxFrame) (t : List RxFrame), Oldest s 6 x t → (session s (bDsid x.hdr)).st = 2 →
    ∃ u, exec .brolerClose s = .next u ∧ (session u (bDsid x.hdr)).st = 3 ∧ (session u (bDsid x.hdr)).closeAt = nowNs s ∧
      ∀ j, j ≠ bDsid x.hdr → session u j = session s j) ∧
  (∀ (ses : Nat) (s : State), (session s ses).st = 3 →
    ((session s ses).chans.all fun c => c.2.segs.isEmpty) = true ∨ (session s ses).closeAt + 100000000 ≤ nowNs s →
    exec (.closingDone ses) s = .next (endSession s ses)) ∧
  (∀ (ses : Nat) (s : State) (x : Session), FMap.find s.sessions ses = some x → x.st = 2 → x.lastRx + lossTime s x ≤ nowNs s →
    exec (.sessionLoss ses) s = .next (endSession s ses)) ∧
  (∀ (ses : Nat) (s : State), (session s ses).kind ≠ 2 → endSession s ses = closeSession s ses) ∧
  (∀ (s : State) (x : RxFrame) (t : List RxFrame), Oldest s 7 x t → exec .brolerKeepalive s = .next (took s x t) ∧
    (session (took s x t) (bDsid x.hdr)).lastRx = nowNs s ∧ (session (took s x t) (bDsid x.hdr)).st = (session s (bDsid x.hdr)).st) ∧
  (∀ (ses p : Nat) (s : State), sendPort s ses = some p → (session s ses).st = 2 →
    (session s ses).lastTx + keepalivePeriod s (session s ses) ≤ nowNs s → ∃ u, exec (.keepaliveSend ses) s = .next u ∧
      SentFrame u p 7 ses (session s ses).peer 0 [] ∧ session u ses = { session s ses with lastTx := nowNs s } ∧
      ∀ j, j ≠ ses → session u j = session s j) ∧
  (∀ (ses c p : Nat) (s : State), sendPort s ses = some p → 2 ≤ (session s ses).st → 0 < (chan s ses c).due →
    (chan s ses c).dueAt + 2000 ≤ nowNs s → ∃ u x rs, exec (.ackDelay ses c) s = .next u ∧ (chan u ses c).due = 0 ∧
      OutMsg.ackf ses c x rs ∈ u.out ∧ x.port = p ∧ ((session s ses).vmin = 0 → rs = [])) ∧
  (∀ (s : State) (x : RxFrame) (t : List RxFrame), Oldest s 8 x t → (session s (bDsid x.hdr)).vmin = 0 →
    exec .brolerAckf s = .next (ackRx (took s x t) (bDsid x.hdr) (bChan x.hdr) (bAck x.hdr) (bCredit x.hdr) [])) ∧
  (∀ (s : State) (ses c a cr : Nat) (g : Seg), (∀ p, FMap.get [] s.debugQ p = []) → (g ∈ (chan (ackRx s ses c a cr []) ses c).segs ↔ g ∈ (chan s ses c).segs ∧ serLt g.seq a = false)) ∧
  (∀ (ses c n : Nat) (s : State), (chan s ses c).timerAt = some n → 2 ≤ (session s ses).st →
    n + retransmitAfter s (chan s ses c).expiries ≤ nowNs s → (chan s ses c).expiries < 11 → ∃ u, exec (.retransmitTimeout ses c) s = .next u ∧
      (chan u ses c).expiries = (chan s ses c).expiries + 1 ∧ (chan u ses c).timerAt = some (nowNs s) ∧ (chan u ses c).segs = (chan s ses c).segs)

/-- Channel messages, remote writes, their answers and contributions are taken segment by segment in sequence. MSG, WRITE, WACK, WNAK and
CONTRIB frames pass through the channel: a segment received before is acknowledged again and not taken; the one in sequence is taken, and
the sequence moves on by 1. A segment that is a whole message, a write's first segment, an answer and a contribution's segment are handed to
what they carry; WACK of an RWRITE completes it, and WNAK ends its list with the reason. -/
def Obligations.SegmentsAreTakenInSequence : Prop :=
  (∀ (c : Instr) (typ : Nat) (s : State) (x : RxFrame) (t : List RxFrame), (c, typ) ∈ [(.brolerMsg, 0x10), (.brolerWrite, 0x20),
    (.brolerWack, 0x21), (.brolerWnak, 0x22), (.brolerContrib, 0x30)] → Oldest s typ x t → exec c s = .next (segmentRx x (took s x t))) ∧
  (∀ (s u : State) (x : RxFrame), u = ackRx s (bDsid x.hdr) (bChan x.hdr) (bAck x.hdr) (bCredit x.hdr) [] →
    serLt (bSeq x.hdr) (chan s (bDsid x.hdr) (bChan x.hdr)).rxNext = true → segmentRx x s = sendAck u (bDsid x.hdr) (bChan x.hdr)) ∧
  (∀ (s : State) (ses c : Nat) (g : RxSeg), (session s ses).st = 2 → ∃ u, takeSeg s ses c g = segRx u ses c g ∧
    (chan u ses c).rxNext = ((chan s ses c).rxNext + 1) % 2 ^ 32 ∧ u.out = s.out ∧ ∀ j, j ≠ ses → session u j = session s j) ∧
  (∀ (s : State) (ses c : Nat) (g : RxSeg), (g.typ = 0x10 → g.first = true → g.last = true →
      ∃ u, segRx s ses c g = messageRx u ses g.payload ∧ (chan u ses c).asm_ = none ∧ u.dict = s.dict ∧ u.queues = s.queues) ∧
    (g.typ = 0x20 → g.first = true → segRx s ses c g = writeFirst s ses g.last g.payload) ∧
    (g.typ = 0x21 → fld (leNat g.payload) 13 0 = 0 → ∀ o q, findOut s ses (fld (leNat g.payload) 63 32) = some o → o.queue = some q →
      segRx s ses c g = completeCmd (dropOut s ses o.tag) q []) ∧
    (g.typ = 0x22 → fld (leNat g.payload) 13 0 = 0 → ∀ o q, findOut s ses (fld (leNat g.payload) 63 32) = some o → o.queue = some q →
      segRx s ses c g = refuseCmd (dropOut s ses o.tag) q g.reason) ∧
    (g.typ = 0x30 → g.first = true → g.last = true →
      ∃ u, segRx s ses c g = contribDone u (session s ses).lpart g.payload ∧ (chan u ses 5).asm_ = none ∧ u.parts = s.parts))

/-- Ports answer for their addresses, follow their links and cages, and pause. A running port answers a solicitation and an Echo Request for its
address and learns its gateway's link-layer address. A link event sets the port's link; a module above 16 W stays in low-power mode; a
removed module leaves the cage ABSENT; an electrical fault puts the port into FAULT until its module is removed. A PFC frame pauses the
priorities under flow control that it names, until their time runs out. -/
def Obligations.PortCommands : Prop :=
  (∀ (p a b : Nat) (s : State), p < 50 → portRuns s p = true → ownAddress s p a = true →
    (∃ u, exec (.neighborSolicitation p a) s = .next u ∧ u = { s with out := OutMsg.icmp p 1 a :: s.out }) ∧
    (∃ u, exec (.echoRequest p a b) s = .next u ∧ u = { s with out := OutMsg.icmp p 2 b :: s.out })) ∧
  (∀ (p a l : Nat) (s : State), p < 50 → portRuns s p = true → a ≠ 0 → a = gatewayOf s p →
    ∃ u, exec (.neighborAdvertisement p a l) s = .next u ∧ port u p = { port s p with gateway := some l } ∧ ∀ j, j ≠ p → port u j = port s j) ∧
  (∀ (p : Nat) (s : State), p < 48 → portState s p = 2 → (port s p).low = false → s.ldDown.contains (p / 12) = false →
    ∃ u, exec (.portLinkChange p true) s = .next u ∧ portState u p = 3 ∧ ∀ j, j ≠ p → port u j = port s j) ∧
  (∀ (p : Nat) (s : State), p < 48 → ∃ u, exec (.portLinkChange p false) s = .next u ∧ (port u p).link = false ∧
    (portState s p = 3 → portState u p = 2) ∧ ∀ j, j ≠ p → port u j = port s j) ∧
  (∀ (m : Nat) (up : Bool) (s : State), m < 2 → ∃ u, exec (.mgmtPortLinkChange m up) s = .next u ∧ (port u (48 + m)).link = up ∧
    ∀ j, j ≠ 48 + m → port u j = port s j) ∧
  (∀ (p c w : Nat) (s : State), p < 48 → (port s p).present = false → ∃ u, exec (.osfpInsert p c w) s = .next u ∧
    port u p = { port s p with present := true, cls := c % 256, low := decide (16 < w), link := false } ∧ ∀ j, j ≠ p → port u j = port s j) ∧
  (∀ (p : Nat) (s : State), p < 48 → (port s p).present = true → ∃ u, exec (.osfpRemove p) s = .next u ∧ (port u p).present = false ∧
    (port u p).fault = false ∧ (port u p).link = false ∧ ∀ j, j ≠ p → port u j = port s j) ∧
  (∀ (p : Nat) (s : State), p < 48 → (port s p).present = true → (port s p).fault = false → objD 1 s 0x6010 1 p ≠ 0 →
    ∃ u, exec (.portElecFault p) s = .next u ∧ portState u p = 4 ∧ (port u p).link = false ∧ ∀ j, j ≠ p → port u j = port s j) ∧
  (∀ (p k v : Nat) (s : State), p < 48 → portRuns s p = true → k < 8 → bitAt (objD 0 s 0x6010 7 p) k = true →
    ∃ u, exec (.pfcFrame p [(k, v)]) s = .next u ∧ (v = 0 → FMap.find (port u p).paused k = none) ∧
      (v ≠ 0 → FMap.find (port u p).paused k = some (nowNs s + ceilDiv (v % 65536 * 64) 100)) ∧ ∀ j, j ≠ p → port u j = port s j) ∧
  (∀ (p k t : Nat) (s : State), p < 48 → FMap.find (port s p).paused k = some t → t ≤ nowNs s →
    ∃ u, exec (.pfcPauseExpire p k) s = .next u ∧ FMap.find (port u p).paused k = none ∧ ∀ j, j ≠ p → port u j = port s j)

/-- A good frame joins the port's buffer, another is counted and discarded. On a running port, a frame whose addresses, form, check, session and
encapsulation are good and that the buffer has room for joins the frames received; any other is counted in the port's discards and changes
no session and no buffer. -/
def Obligations.FramesReceived : Prop :=
  ∀ (p : Nat) (e : Envelope) (bs : List Byte) (s u : State), p < 50 → portRuns s p = true → u = countPort s p 10 →
    (envelopeOk u p e = true → brolerOk bs = true → sessionOk u (leNat (bs.take 32)) (decide (48 ≤ p)) = true → encapOk u (leNat (bs.take 32)) e = true →
      buffered s p e.pri + e.len ≤ 524288 →
      epochOff u (leNat (bs.take 32)) = none →
      ∃ t f, exec (.frameReceive p e bs) s = .next t ∧ t.rx = s.rx ++ [f] ∧ f.port = p ∧ f.hdr = leNat (bs.take 32) ∧
        f.payload = (bs.drop 32).take (bs.length - 36) ∧ t.sessions = s.sessions ∧ t.parts = s.parts ∧ t.queues = s.queues) ∧
    (envelopeOk u p e = false ∨ brolerOk bs = false ∨ sessionOk u (leNat (bs.take 32)) (decide (48 ≤ p)) = false ∨
        encapOk u (leNat (bs.take 32)) e = false ∨ 524288 < buffered s p e.pri + e.len →
      exec (.frameReceive p e bs) s = .next (countPort u p 11) ∧ (countPort u p 11).sessions = s.sessions ∧ (countPort u p 11).rx = s.rx ∧
        (p < 48 → objD 0 (countPort u p 11) 0x6010 11 p = (objD 0 s 0x6010 11 p + 1) % 2 ^ 64))

/-- JOIN is answered by the master, and a member whose JOIN is not answered within 1 s is refused. At a master that is forming or formed, JOIN
on a group session notes the rank and is answered with the epoch, in a replica group with nothing else, and with every open window.
JOIN_TIMEOUT one second after the JOIN refuses the partition's enable check with RC_GROUP_CONFIG (0x0506). WINDOW_ANNOUNCE keeps the latest
epoch and state of a rank's window, and MASTERLOST at the backup notes the rank that sent it. -/
def Obligations.GroupsForm : Prop :=
  (∀ (ses p : Nat) (s : State), linkPart s ses = some p → isMaster s p = true → (group s p).st ≠ 0 → (group s p).st ≠ 4 →
    ∃ u, exec (.join ses) s = .next (masterSettle u p) ∧ (session s ses).rank ∈ (group u p).joined ∧
      (∀ r, r ∈ (group s p).joined → r ∈ (group u p).joined) ∧ (group u p).epoch = (group s p).epoch ∧
      (replica s p = true → OutMsg.cascade ses 2 [(group s p).epoch] ∈ u.out) ∧
      ∀ w, w < 256 → (window s p w).st = 1 → OutMsg.cascade ses 12 [w, (window s p w).epoch, 1] ∈ u.out) ∧
  (∀ (p t : Nat) (s : State) (c : CheckRun), p < 16 → (group s p).joinAt = some t → t + 1000000000 ≤ nowNs s → (part s p).check = some c →
    ∃ u, exec (.joinTimeout p) s = .next (refuseReq u c.session 2 c.reqid 0x0506 (pidx 0x63 p * 256 + 5)) ∧ (part u p).check = none ∧
      (group u p).joinAt = none ∧ u.dict = s.dict ∧ u.pend = s.pend) ∧
  (∀ (ses p w e st : Nat) (s : State), linkPart s ses = some p → w < 256 → ∃ u, exec (.windowAnnounce ses w e st) s = .next u ∧
    FMap.find u.announced ((p * 16 + (session s ses).rank) * 256 + w) = some (e * 4 + st % 4) ∧
    ∀ k, k ≠ (p * 16 + (session s ses).rank) * 256 + w → FMap.find u.announced k = FMap.find s.announced k) ∧
  (∀ (ses p : Nat) (s : State), linkPart s ses = some p → isMember s p = true → (group s p).backup = ownRank s p →
    ∃ u, exec (.masterlost ses) s = .next u ∧ (session s ses).rank ∈ (group u p).lost ∧ ∀ r, r ∈ (group s p).lost → r ∈ (group u p).lost)

/-- The messages of a group step: STEPGO, MASKS, COMMIT, COMMITTED, BOUNDARY, its acknowledgement, and CONFIRM. At a member, STEPGO waits behind
those before it, COMMIT gives the running step's slots the master's decisions and opens its commit point, BOUNDARY joins its copy of the
table and is acknowledged, CONFIRM confirms the step and drops its undo record, and a masking marks the sequence cancelled and a final one
ends its forwarding. At the master, MASKS and COMMITTED note the rank, the acknowledgement of BOUNDARY posts the step, and a forwarded
cancel cancels the sequence. -/
def Obligations.GroupStepMessages : Prop :=
  (∀ (ses n g p : Nat) (binds : List Nat) (s : State), linkPart s ses = some p → isMember s p = true → (part s p).enable = true →
    (group s p).master = (session s ses).rank → ∃ u, exec (.stepgo ses n g binds) s = .next (goWaiting u p) ∧
      (group u p).waiting = (group s p).waiting ++ [{ session := ses, step := n, prog := g, binds := binds }] ∧
      (∀ j, j ≠ p → group u j = group s j) ∧ u.parts = s.parts) ∧
  (∀ (ses n p : Nat) (slots : List Nat) (s : State), masterOf s ses n = some p → ∃ u, (session s ses).rank ∈ (group u p).masks ∧ u.parts = s.parts ∧
    ((stepOf s p).any (fun r => r.group == some n && !r.committed) = false → exec (.masks ses n slots) s = .next u) ∧
    ((stepOf s p).any (fun r => r.group == some n && !r.committed) = true →
      exec (.masks ses n slots) s = .next (tryCommit (endIfMasked (slots.foldl (fun s i => maskSlot s p i false 0) u) p) p))) ∧
  (∀ (ses n p : Nat) (words : List Nat) (s : State) (r : StepRun), linkPart s ses = some p → isMember s p = true → stepOf s p = some r →
    r.group = some n → ∃ u, exec (.groupCommit ses n words) s = .next (tryCommit (endIfMasked u p) p) ∧ (group u p).commit = true ∧
      stepOf u p = some { r with slots := r.slots.map fun b =>
        match (tens words (words.length / 10)).find? fun d => fld (d.getD 0 0) 63 56 == b.slot with
        | none => b
        | some d => commitSlotOf b d }) ∧
  (∀ (ses n p : Nat) (s : State), masterOf s ses n = some p → ∃ u, exec (.committed ses n) s = .next (groupBoundary u p) ∧
    (session s ses).rank ∈ (group u p).done ∧ u.parts = s.parts) ∧
  (∀ (ses n p : Nat) (ws : List Nat) (s : State), linkPart s ses = some p → isMember s p = true → ∃ u, exec (.boundary ses n ws) s = .next u ∧
    (group u p).table = tableApply (group s p).table ws ∧ (group u p).tableAt = n ∧ OutMsg.cascade ses 8 [n] ∈ u.out) ∧
  (∀ (ses n p : Nat) (s : State) (r : StepRun), linkPart s ses = some p → (group s p).posting = some r → r.group = some n →
    (group s p).sent = true → (group s p).backup = (session s ses).rank → exec (.boundaryAck ses n) s = .next (postGroup s p r)) ∧
  (∀ (ses n p : Nat) (s : State), linkPart s ses = some p → isMember s p = true → (group s p).master = (session s ses).rank →
    ∃ u, exec (.confirm ses n) s = .next (goWaiting u p) ∧ (group u p).confirmed = n ∧
      (group u p).undo = (group s p).undo.filter (fun x => decide (n < x.step))) ∧
  (∀ (ses q p : Nat) (s : State) (x : Seq), linkPart s ses = some p → isMaster s p = true → seqOf s p q = some x →
    ∃ u, exec (.cancelForward ses q) s = .next u ∧ seqOf u p q = some { x with cancelled := true } ∧ u.parts = s.parts) ∧
  (∀ (ses q slot fin last p : Nat) (s : State) (x : Seq), linkPart s ses = some p → isMember s p = true → seqOf s p q = some x → fin ≠ 0 →
    ∃ u, exec (.groupMasking ses q slot fin last) s = .next (finalCancels u p (· == q)) ∧ (group u p).forwarded = (group s p).forwarded.filter (fun f => f % 2 ^ 32 != q) ∧
      seqOf u p q = some { x with cancelled := true, lastStep := if last ≠ 0 then some (last - 1) else x.lastStep })

/-- A member that becomes master takes the next group epoch, and the ranks follow it. BACKUP_PROMOTE where the standing policy, the lost session
and more than half the group agree, and PROMOTE by a session with CONFIGURE where the latter two do, make the member the master: its role
and rank, at the group's next epoch. NEWMASTER of an epoch that is not lower makes a member follow its sender at that epoch and step, and is
answered. -/
def Obligations.Failover : Prop :=
  (∀ (p : Nat) (s : State), p < 16 → masterGone s p = true → (group s p).backup = ownRank s p → objD 0 s (pidx 0x63 p) 7 = 1 →
    promoteQuorum s p = true → exec (.backupPromote p) s = .next (promote s p)) ∧
  (∀ (ses n p g : Nat) (s : State), p < 16 → Serves s ses 0x14 → hasConfigure s ses p = true → g = objD 0 s (pidx 0x63 p) 1 →
    masterGone s p = true → promoteQuorum s p = true → exec (.promote ses n p g) s = .next (acceptReq (promote s p) ses 0x14 n)) ∧
  (∀ (ses n p g : Nat) (s : State), p < 16 → Serves s ses 0x14 → hasConfigure s ses p = true → g = objD 0 s (pidx 0x63 p) 1 →
    masterGone s p = true → promoteQuorum s p = false → exec (.promote ses n p g) s = .next (refuseReq s ses 0x14 n 0x0507)) ∧
  (∀ (p : Nat) (s : State), (part s p).step = none → (group (promote s p) p).role = 1 ∧ (group (promote s p) p).master = ownRank s p ∧
    (group (promote s p) p).st = 1 ∧ (group (promote s p) p).epoch = ((group s p).epoch + 1) % 65536) ∧
  (∀ (ses e n p : Nat) (s : State), linkPart s ses = some p → isMaster s p = false → (group s p).epoch ≤ e →
    ∃ u, exec (.newmaster ses e n) s = .next u ∧ (group u p).epoch = e ∧ (group u p).master = (session s ses).rank ∧ (group u p).confirmed = n ∧
      OutMsg.cascade ses 15 [e] ∈ u.out)

/-- LOAD, UNLOAD, RESTART, REPLACE and the standing policy are taken up. LOAD of a FREE partition with an image that passes the checks moves it
to LOADING, and a load of that image joins the placement queue. UNLOAD of a LOADED partition frees it: its banks, but for the RETIRED ones,
go to EMPTY and leave the logical bank maps. RESTART of a FAULTED partition makes it IDLE. REPLACE of one owned tile or of every unhealthy
one, and the standing policy on its trigger, put a re-placement in the queue. A job joins behind the one that runs, a re-placement ahead of
every load that has not begun. -/
def Obligations.PlacementRequests : Prop :=
  (∀ (ses n body p : Nat) (s : State) (im : StoreImg), p = fld body 247 244 → MayPlace s ses p 0x10 → fld body 255 248 = 1 → fld body 242 240 = 0 →
    body % 2 ^ 152 = 0 → body < 2 ^ 256 → (part s p).st = .free → FMap.find s.images (fld body 239 176) = some im → imageFail s im.bytes = none →
    ∃ v j, exec (.load ses n body) s = .next (queueJob v j) ∧ (part v p).st = .loading ∧ (∀ k, k ≠ p → part v k = part s k) ∧ v.jobs = s.jobs ∧
      v.banks = s.banks ∧ v.hbm = s.hbm ∧ j.part = p ∧ j.isLoad = true ∧ j.begun = false ∧ j.session = ses ∧ j.reqid = n ∧
      j.image = fld body 239 176 ∧ j.dies = fld body 175 152 ∧ j.stage = bitAt body 243) ∧
  (∀ (ses n p : Nat) (s : State), MayPlace s ses p 0x11 → (part s p).st = .loaded → (s.jobs.any fun j => j.part == p) = false →
    ∃ u, exec (.unload ses n p) s = .next (acceptReq u ses 0x11 n) ∧ part u p = {} ∧ u.jobs = s.jobs ∧
      ∀ k, k ∈ (part s p).place.tiles.flatMap ownedBanks → FMap.find u.bankMap k = none ∧
        (bankOf u k).st = if (bankOf s k).st = .retired then .retired else .empty) ∧
  (∀ (ses n p : Nat) (s : State), MayPlace s ses p 0x12 → (part s p).st = .faulted → (s.jobs.any fun j => j.part == p && !j.isLoad) = false →
    stackLost s p = false → modeHolds s = false →
    ∃ u, exec (.restart ses n p) s = .next (acceptReq u ses 0x12 n) ∧ (part u p).st = .idle ∧ (∀ k, k ≠ p → part u k = part s k) ∧
      u.jobs = s.jobs ∧ u.banks = s.banks ∧ u.seqs = s.seqs) ∧
  (∀ (ses n body p : Nat) (s : State), p = fld body 247 244 → MayPlace s ses p 0x13 → fld body 255 248 = 1 → body % 2 ^ 200 = 0 → body < 2 ^ 256 →
    mayReplace s p = true → (s.jobs.any fun j => j.part == p && !j.isLoad) = false →
    (fld body 243 242 = 0 → ((part s p).place.tiles.any fun t => t.tile == fld body 239 224) = true →
      ∃ j, exec (.replaceTile ses n body) s = .next (queueJob s j) ∧ j.part = p ∧ j.isLoad = false ∧ j.begun = false ∧ j.mode = 0 ∧
        j.tile = fld body 239 224 ∧ j.restart = bitAt body 241 ∧ j.retire = bitAt body 240 ∧ j.dies = fld body 223 200) ∧
    (fld body 243 242 = 1 → fld body 239 224 = 0 → ((part s p).place.tiles.all fun t => tileHealthy s t.tile) = false →
      ∃ j, exec (.replaceUnhealthy ses n body) s = .next (queueJob s j) ∧ j.part = p ∧ j.isLoad = false ∧ j.begun = false ∧ j.mode = 1 ∧
        j.restart = bitAt body 241 ∧ j.retire = bitAt body 240 ∧ j.dies = fld body 223 200)) ∧
  (∀ (p : Nat) (s : State), p < 16 → s.power = .ready → objD 0 s (pidx 0x55 p) 1 ≠ 0 → triggered s p = true →
    (s.jobs.any fun j => j.part == p) = false →
    ∃ v j, exec (.replaceTrigger p) s = .next (queueJob v j) ∧ part v p = { part s p with permFault := false } ∧
      (∀ k, k ≠ p → part v k = part s k) ∧ v.jobs = s.jobs ∧ j.part = p ∧ j.isLoad = false ∧ j.begun = false ∧ j.mode = 1 ∧
      j.restart = (objD 0 s (pidx 0x55 p) 1 == 2) ∧ j.dies = objD 0 s (pidx 0x55 p) 4) ∧
  (∀ (s : State) (a j : PlaceJob) (l : List PlaceJob), s.jobs = a :: l → a.begun = true → (∀ x ∈ l, x.begun = false) →
    (j.isLoad = true → queueJob s j = { s with jobs := s.jobs ++ [j] }) ∧
    (j.isLoad = false → queueJob s j = { s with jobs := a :: (l.filter (!·.isLoad) ++ j :: l.filter (·.isLoad)) }))

/-- A placement commits once every bank is verified and calibrated. LOAD_COMPLETE of a load whose banks are all verified and calibrated, and
whose written lists pass the check at bind, commits it: the partition is LOADED, bank A of every placed array is in service, the job has
left the queue and its reply says so. REPLACE_COMPLETE likewise puts the new placement record in force. -/
def Obligations.PlacementCompletes : Prop :=
  (∀ (p : Nat) (s : State) (j : PlaceJob), JobReady s p j true →
    boundOk ((List.range j.plan.tiles.length).foldl (writeTile (((FMap.find s.images j.image).map (·.bytes)).getD []) j.plan) s) j.plan
      (List.range j.plan.tiles.length) = true →
    ∃ u, exec (.loadComplete p) s = .next (serveJobs u (u.jobs.length + 1)) ∧ (part u p).st = .loaded ∧ u.jobs = s.jobs.drop 1 ∧
      (∀ t a, t ∈ j.plan.tiles → a ∈ t.arrays → (bankOf u (bankKey t.tile a 0)).st = .inService) ∧
      (j.asked = true → ∃ r, OutMsg.reply r ∈ u.out ∧ r.session = j.session ∧ r.op = 0x10 ∧ r.reqid = j.reqid ∧ r.reason = 0)) ∧
  (∀ (p : Nat) (s : State) (j : PlaceJob), JobReady s p j false →
    boundOk ((j.vacated.map (·.1)).foldl (writeTile (((FMap.find s.images j.image).map (·.bytes)).getD []) j.plan) s) j.plan
      (j.vacated.map (·.1)) = true →
    ∃ u, exec (.replaceComplete p) s = .next (serveJobs u (u.jobs.length + 1)) ∧ (part u p).place = j.plan ∧ u.jobs = s.jobs.drop 1 ∧
      (j.asked = true → ∃ r, OutMsg.reply r ∈ u.out ∧ r.session = j.session ∧ r.op = 0x13 ∧ r.reqid = j.reqid ∧ r.reason = 0))

/-- MCARM puts a change in ARMING and holds its partitions; it arms, or is rolled back. MCARM of an IDLE partition's numeric mode or band, or of
the power mode, by a session with the right, with no other change under way, enters ARMING: nothing is in force, the partition, or every
enabled IDLE one, is ARMED. MC_ARMED ends ARMING with success to the request. The arm timeout, a reachable unit that fails to arm, and the
hold timeout roll the change back with their reason. -/
def Obligations.ModeChangesArm : Prop :=
  (∀ (ses n p v : Nat) (s : State), p < 16 → Serves s ses 0x20 → hasConfigure s ses p = true → MayArm s → (part s p).st = .idle →
    (v ≤ 2 → ∃ u, exec (.mcarmNumeric ses n p v) s = .next u ∧ Arming s u ses n 1 p v ∧ (part u p).st = .armed ∧
      ∀ k, k ≠ p → part u k = part s k) ∧
    (v = 0xFF ∨ (v ≤ 7 ∧ bandTables s p v = true) → ∃ u, exec (.mcarmBand ses n p v) s = .next u ∧ Arming s u ses n 2 p v ∧
      (part u p).st = .armed ∧ ∀ k, k ≠ p → part u k = part s k)) ∧
  (∀ (ses n v : Nat) (s : State), Serves s ses 0x20 → hasMconfig s ses = true → MayArm s → replacing s = false → v ≤ 3 →
    ∃ u, exec (.mcarmPower ses n v) s = .next u ∧ Arming s u ses n 3 0 v ∧
      ∀ p, p < 16 → part u p = if (part s p).enable = true ∧ (part s p).st = .idle then { part s p with st := .armed } else part s p) ∧
  (∀ s : State, s.modeRec.st = 1 → modeWaits s = false → ∃ u, exec .mcArmed s = .next u ∧ u.modeRec.st = 2 ∧
    u.modeRec.units = s.modeRec.units.map (fun x => if x.st = 1 then { x with st := 2 } else x) ∧ u.dict = s.dict ∧ u.parts = s.parts ∧
    ∀ ses n, s.modeRec.waiter = some (ses, n) → ∃ r, OutMsg.reply r ∈ u.out ∧ r.session = ses ∧ r.op = 0x20 ∧ r.reqid = n ∧ r.reason = 0) ∧
  (∀ s : State, s.modeRec.st = 1 → s.modeRec.since + objD 100 s 0x2400 12 * 1000000 ≤ nowNs s →
    ∃ u, exec .mcArmTimeout s = .next u ∧ RolledBack s u 0x20 0x0312) ∧
  (∀ (i : Nat) (s : State) (x : ModeUnit), s.modeRec.st = 1 → s.modeRec.units[i]? = some x → x.st = 1 → unitDark s x.ident = false →
    ∃ u, exec (.mcArmUnitFail i) s = .next u ∧ RolledBack s u 0x20 0x070B ∧ u.modeRec.failed = x.ident) ∧
  (∀ s : State, s.modeRec.st = 2 → s.modeRec.since + objD 1000 s 0x2400 11 * 1000000 ≤ nowNs s →
    ∃ u, exec .mcHoldTimeout s = .next u ∧ u = modeRollback s 0x0312 ∧ u.modeRec.st = 5 ∧ u.modeRec.reason = 0x0312 ∧ u.dict = s.dict ∧
      ∀ p, p < 16 → (part u p).st ≠ .armed)

/-- A change is applied at its epoch and committed where every unit confirms, else rolled back. MCAPPLY of an ARMED change sets its epoch, at
once plus the lead where it names none. At the epoch every armed unit that is not dark and answers confirms. At the end of the window a
change whose units have all confirmed is DONE, its value is in force and its partitions go on; one with a unit that has not is rolled back
with that unit's reason. MCABORT rolls an ARMED change back. -/
def Obligations.ModeChangesApply : Prop :=
  (∀ (ses n epoch : Nat) (s : State), Serves s ses 0x21 → modeRight s ses = true → s.modeRec.st = 2 →
    epoch = 0 ∨ nowNs s + objD 100 s 0x2400 13 * 1000 ≤ epoch →
    exec (.mcapply ses n epoch) s = .next { s with modeRec := { s.modeRec with
      st := 3, epoch := if epoch = 0 then nowNs s + objD 100 s 0x2400 13 * 1000 else epoch, waiter := some (ses, n) } }) ∧
  (∀ (bad : List Nat) (s : State), s.modeRec.st = 3 → s.modeRec.epoch ≤ nowNs s →
    ∃ us, exec (.mcApplyEpoch bad) s = .next { s with modeRec := { s.modeRec with units := us } } ∧ us.length = s.modeRec.units.length ∧
      ∀ i x, s.modeRec.units[i]? = some x →
        us[i]? = some (if x.st = 2 ∧ i ∉ bad ∧ unitDark s x.ident = false then { x with st := 3 } else x)) ∧
  (∀ s : State, s.modeRec.st = 3 → s.modeRec.epoch ≤ nowNs s → (∀ x ∈ s.modeRec.units, x.st ≠ 2) →
    ∃ u, exec .mcConfirmEnd s = .next u ∧ u.modeRec.st = 4 ∧ u.modeRec.reason = 0 ∧ (∀ p, p < 16 → (part u p).st ≠ .armed) ∧
      (s.modeRec.kind = 1 → objD 0 u (pidx 0x51 s.modeRec.part) 34 = s.modeRec.value) ∧
      (s.modeRec.kind = 2 → objD 0xFF u (pidx 0x51 s.modeRec.part) 35 = s.modeRec.value) ∧
      (s.modeRec.kind = 3 → objD 0 u 0x4000 1 = s.modeRec.value ∧ u.gov.loadLines = s.gov.armedLines) ∧
      ∀ ses n, s.modeRec.waiter = some (ses, n) → ∃ r, OutMsg.reply r ∈ u.out ∧ r.session = ses ∧ r.op = 0x21 ∧ r.reqid = n ∧ r.reason = 0) ∧
  (∀ (s : State) (x : ModeUnit), s.modeRec.st = 3 → s.modeRec.epoch + objD 10 s 0x2400 14 * 1000 ≤ nowNs s →
    s.modeRec.units.find? (fun y => y.st == 2) = some x →
    ∃ u, exec .mcConfirmEnd s = .next u ∧ RolledBack s u 0x21 (if unitDark s x.ident then 0x0611 else 0x070B) ∧ u.modeRec.failed = x.ident) ∧
  (∀ (ses n : Nat) (s : State), Serves s ses 0x22 → modeRight s ses = true → s.modeRec.st = 2 →
    ∃ u, exec (.mcabort ses n) s = .next (acceptReq u ses 0x22 n) ∧ RolledBack s u 0x22 0)

/-- A firmware package is received, verified, activated, confirmed, rolled back or dropped. FWBEGIN reserves a package, FWDATA stores bytes of
it, FWEND of one that passes the checks leaves it VERIFIED in the slots' other copies, and one that fails is dropped. FWACTIVATE puts the
named slots in their order of switching, and in RECOVERY moves every pointer at once. FWCONFIRM ends a PENDING update and raises the floor
of the security version, FWROLLBACK and the confirm limit return its slots in reverse order, FWABORT drops it before. RECOVER sends the
module to RECOVERY, through an orderly stop where the wafer computes. -/
def Obligations.FirmwareRequests : Prop :=
  (∀ (ses n len : Nat) (s : State), Serves s ses 0x40 → hasFirmware s ses = true → s.fw.st = 0 → len ≤ Config.fwBytes →
    exec (.fwbegin ses n len) s = .next (acceptReq { s with fw := { s.fw with st := 1, len := len, bytes := [], ranges := [] } } ses 0x40 n)) ∧
  (∀ (ses n off : Nat) (data : List Byte) (s : State), Serves s ses 0x41 → hasFirmware s ses = true → s.fw.st = 1 →
    off + data.length ≤ s.fw.len → data.length ≤ 2097136 →
    ∃ u, exec (.fwdata ses n off data) s = .next (acceptReq u ses 0x41 n) ∧ u.fw.st = 1 ∧ u.fw.ranges = (off, data.length) :: s.fw.ranges ∧
      ∀ a, Memory.read u.fw.bytes a = if off ≤ a ∧ a < off + data.length then data.getD (a - off) 0 else Memory.read s.fw.bytes a) ∧
  (∀ (ses n : Nat) (s : State), Serves s ses 0x42 → hasFirmware s ses = true → s.fw.st = 1 →
    (fwEndFail s.fw = none → ∃ u, exec (.fwend ses n) s = .next (acceptReq u ses 0x42 n) ∧ u.fw.st = 2 ∧
      u.fw.slots = (fwEntries s.fw.bytes).map (fun e => fld e 511 508) ∧ u.fw.release = fld (fwHead s.fw.bytes) 463 440 ∧
      u.fw.secver = fld (fwHead s.fw.bytes) 439 432 ∧ u.fw.run = s.fw.run ∧
      ∀ x, x ∈ u.fw.slots → FMap.find u.fw.other x = some u.fw.release) ∧
    (∀ e, fwEndFail s.fw = some e → exec (.fwend ses n) s = .next (refuseReq { s with fw := fwDiscard s.fw } ses 0x42 n e))) ∧
  (∀ (ses n mask : Nat) (s : State), Serves s ses 0x43 → hasFirmware s ses = true → s.fw.st = 2 → s.power ≠ .recovery → replacing s = false →
    bricksSpare s = true →
    ∃ u, exec (.fwactivate ses n mask) s = .next (acceptReq u ses 0x43 n) ∧ u.fw.st = (if u.fw.todo = [] then 4 else 3) ∧
      u.fw.todo = fwOrder.filter (s.fw.slots.filter fun x => mask == 0 || bitAt mask x).contains ∧ u.fw.switched = [] ∧ u.fw.run = s.fw.run) ∧
  (∀ (ses n mask : Nat) (s : State), Serves s ses 0x43 → hasFirmware s ses = true → s.fw.st = 2 → s.power = .recovery →
    ∃ u, exec (.fwactivate ses n mask) s = .next u ∧ u.power = .standby ∧ u.fw.st = 4 ∧
      ∀ x, x ∈ s.fw.slots → (mask == 0 || bitAt mask x) = true → FMap.find u.fw.run x = some s.fw.release) ∧
  (∀ (ses n : Nat) (s : State), Serves s ses 0x44 → hasFirmware s ses = true → s.fw.st = 4 →
    ∃ u, exec (.fwconfirm ses n) s = .next (acceptReq u ses 0x44 n) ∧ u.fw.st = 0 ∧ u.fw.floor = Nat.max s.fw.floor s.fw.secver ∧
      u.fw.frozen = none ∧ u.fw.run = s.fw.run) ∧
  (∀ (ses n : Nat) (s : State), Serves s ses 0x45 → hasFirmware s ses = true → s.fw.st = 4 →
    exec (.fwrollback ses n) s = .next (acceptReq (fwRollback s) ses 0x45 n)) ∧
  (∀ s : State, s.fw.st = 4 → (s.fw.switched = [] → (fwRollback s).fw.st = 0) ∧
    (s.fw.switched ≠ [] → (fwRollback s).fw.st = 5 ∧ (fwRollback s).fw.todo = s.fw.switched)) ∧
  (∀ (ses n : Nat) (s : State), Serves s ses 0x46 → hasFirmware s ses = true → s.fw.st = 1 ∨ s.fw.st = 2 →
    exec (.fwabort ses n) s = .next (acceptReq { s with fw := fwDiscard s.fw } ses 0x46 n)) ∧
  (∀ s : State, s.fw.st = 4 → objD 0 s 0x8000 5 ≠ 0 → s.fw.pendingAt + objD 0 s 0x8000 5 * 1000000000 ≤ ageNs s →
    exec .fwConfirmTimeout s = .next (fwRollback s)) ∧
  (∀ (ses n : Nat) (s : State), Serves s ses 0x47 → hasFirmware s ses = true →
    ((s.power = .ready ∨ s.power = .hold) → ∃ u, exec (.recover ses n) s = .next u ∧ u.power = .stopping ∧ u.life.stopTo = 7 ∧ u.life.stop = 1) ∧
    (s.power = .stopping → ∃ u, exec (.recover ses n) s = .next u ∧ u.power = .stopping ∧ u.life.stopTo = 7) ∧
    ((s.power = .starting ∨ s.power = .attended) → ∃ u, exec (.recover ses n) s = .next u ∧ u.power = .recovery))

/-- A slot switches to its new copy or returns to its old one. Of the slots that switch whole, the first in the order runs the new release and
keeps the old one as its other copy; the last leaves the update PENDING. A slot that fails to start sends the slots that have switched back
in reverse order. In a rollback the first slot runs its old copy again, and after the last the update is gone. The link dies of slot 4
switch one at a time, once no step of a partition hubbed on the next one runs. -/
def Obligations.FirmwareSlotsSwitch : Prop :=
  (∀ (x : Nat) (t : List Nat) (s : State), s.fw.st = 3 → s.fw.todo = x :: t → x ≠ 4 → x ≠ 7 →
    ∃ u, exec (.fwSlotSwitched true) s = .next u ∧ u.fw.todo = t ∧ u.fw.switched = x :: s.fw.switched ∧
      FMap.find u.fw.run x = some s.fw.release ∧ FMap.find u.fw.other x = some (FMap.get 0 s.fw.run x) ∧
      u.fw.st = if t = [] then 4 else 3) ∧
  (∀ (x : Nat) (t : List Nat) (s : State), s.fw.st = 3 → s.fw.todo = x :: t → x ≠ 4 → x ≠ 7 → s.fw.switched ≠ [] →
    ∃ u, exec (.fwSlotSwitched false) s = .next u ∧ u.fw.st = 5 ∧ u.fw.todo = s.fw.switched) ∧
  (∀ (x : Nat) (t : List Nat) (s : State), s.fw.st = 5 → s.fw.todo = x :: t → x ≠ 4 → x ≠ 7 →
    ∃ u, exec (.fwSlotSwitched true) s = .next u ∧ u.fw.todo = t ∧ FMap.find u.fw.run x = some (FMap.get 0 s.fw.other x) ∧
      u.fw.st = if t = [] then 0 else 5) ∧
  (∀ (l l2 : Nat) (t r : List Nat) (s : State), s.fw.st = 3 → s.fw.todo = 4 :: t → s.fw.lds = l :: l2 :: r → hubsWait (hubsMove s) = false →
    ∃ u, exec (.fwSlotSwitched true) s = .next u ∧ u.fw.st = 3 ∧ u.fw.todo = s.fw.todo ∧ u.fw.lds = l2 :: r)

/-- NOP, END, TSTEP, WAITF, FENCE, SYNC and BRK move a tile's sequencer on. Each of the sequencer's commands at the word that a tile has
reached: NOP goes on; END, with every command of the tile complete, ends its run and counts it at the commit point; TSTEP whose START the
clock has reached begins its tile-step, and a late tile that reaches one sends its resume to every tile of the partition; WAITF and FENCE go
on once their flag or units allow it and else hold; SYNC adds to its object, or goes on once the object has its value; BRK is a NOP, or with
breakpoints on holds the tile until it is released. -/
def Obligations.SequencerCommands : Prop :=
  (∀ (t : Nat) (s : State) (r : TileRun) (w : Nat), AtTile s t 0x00 r w →
    ∃ u, exec (.nop t) s = .next u ∧ runOf u t = some { r with pos := r.pos + 1 } ∧ (∀ k, k ≠ t → runOf u k = runOf s k) ∧ u.sp = s.sp ∧ u.acc = s.acc) ∧
  (∀ (t : Nat) (s : State) (r : TileRun) (w : Nat), AtTile s t 0x01 r w → tileDrained s t r = true → r.stopping = false →
    ∃ v, exec (.endCmd t) s = .next (tryCommit v r.part) ∧ runOf v t = none ∧ v.sp = s.sp ∧ v.acc = s.acc ∧
      ∀ q, stepOf s r.part = some q → ∃ q', stepOf v r.part = some q' ∧ q'.ended = t :: q.ended) ∧
  (∀ (t : Nat) (s : State) (r : TileRun) (w : Nat), AtTile s t 0x02 r w → r.stopping = false → r.late = false → fld w 119 94 ≤ r.clk →
    frozen s r.part = false → ∃ u r', exec (.tstep t) s = .next u ∧ runOf u t = some r' ∧ r'.pos = r.pos + 1 ∧ r'.tstep = r.pos ∧
      r'.layer = fld w 93 86 ∧ r'.grd = bitAt w 85 ∧ r'.level = 0 ∧ r'.clk = r.clk ∧ r'.masked = r.masked ++ r.maskNext ∧ u.sp = s.sp ∧ u.acc = s.acc) ∧
  (∀ (t : Nat) (s : State) (r : TileRun) (w : Nat) (q : StepRun), AtTile s t 0x02 r w → r.stopping = false → r.late = true →
    stepOf s r.part = some q → ∃ u r' q', exec (.tstep t) s = .next u ∧ runOf u t = some r' ∧ r'.late = false ∧ stepOf u r.part = some q' ∧
      ∀ d, d ∈ tilesOf s r.part → d ≠ t → ∃ x, (d, t, x, 1) ∈ q'.notices) ∧
  (∀ (t : Nat) (s : State) (r : TileRun) (w : Nat), AtTile s t 0x03 r w →
    (fld w 113 82 ≤ tileFlag r (fld w 119 114) → ∃ u, exec (.waitf t) s = .next u ∧ Moved u t r ∧ u.sp = s.sp ∧ u.acc = s.acc) ∧
    (tileFlag r (fld w 119 114) < fld w 113 82 → exec (.waitf t) s = .next s)) ∧
  (∀ (t : Nat) (s : State) (r : TileRun) (w : Nat), AtTile s t 0x04 r w →
    (fenceHolds s t (fld w 119 112) r = false → ∃ u, exec (.fence t) s = .next u ∧ Moved u t r ∧ u.sp = s.sp ∧ u.acc = s.acc) ∧
    (fenceHolds s t (fld w 119 112) r = true → exec (.fence t) s = .next s)) ∧
  (∀ (t : Nat) (s : State) (r : TileRun) (w v : Nat), AtTile s t 0x05 r w → bitAt w 119 = false → ownsSync s r.part (fld w 118 109) = true →
    v = syncGet s r.part (fld w 118 109) + fld w 108 45 → v < 2 ^ 64 → ∃ u, exec (.syncSignal t) s = .next u ∧ Moved u t r ∧ u.sp = s.sp ∧
      ((∀ e, e < 6 → (queue s (r.part * 8 + e)).running = none) → syncGet u r.part (fld w 118 109) = v ∧
        ∀ i j, i * 1024 + j ≠ r.part * 1024 + fld w 118 109 → syncGet u i j = syncGet s i j)) ∧
  (∀ (t : Nat) (s : State) (r : TileRun) (w : Nat), AtTile s t 0x05 r w → bitAt w 119 = true → ownsSync s r.part (fld w 118 109) = true →
    fld w 108 45 ≤ syncGet s r.part (fld w 118 109) → ∃ u, exec (.syncWait t) s = .next u ∧ Moved u t r ∧ u.sync = s.sync ∧ u.sp = s.sp) ∧
  (∀ (t : Nat) (s : State) (r : TileRun) (w : Nat), AtTile s t 0x07 r w →
    (debugBit s r.part 0 = false ∨ r.brk = 2 → ∃ u, exec (.brk t) s = .next u ∧ Moved u t r ∧ u.sp = s.sp ∧ u.debugQ = s.debugQ) ∧
    (debugBit s r.part 0 = true → r.brk ≠ 2 → ∃ v, exec (.brk t) s = .next (postDebug v r.part { typ := 5, body := brkRecord t (fld w 119 104) r.pos }) ∧
      runOf v t = some { r with brk := 1 } ∧ ∀ k, k ≠ t → runOf v k = runOf s k))

/-- A late tile stalls its partition by notices and resumes it; cancels reach tiles and the step. TILE_LATE: a tile whose clock has reached the
START of a TSTEP that it has not reached is late, its clock stands there, and a notice goes to every other tile of the partition, which is
STALLED. A stall notice sets its tile's clock to the smallest START outstanding; a resume with no other stall outstanding sets it to START
plus the latency of the notice route. A stall past the limit posts its record and raises one cause. A cancel notice masks its slot from the
next TSTEP on; CANCEL of a sequence that no uncommitted step carries cancels it at once; a recorded cancel masks the slot of its sequence
before the commit point; a step that ends with a slot undecided faults. -/
def Obligations.LateTilesAndCancels : Prop :=
  (∀ (t i w : Nat) (s : State) (r : TileRun) (q : StepRun), tileOk t = true → runOf s t = some r →
    nextTstep s t r r.pos (r.ncmd + 1) = some (i, w) → r.late = false → r.stopping = false → i ≠ r.pos → fld w 119 94 ≤ r.clk →
    stepOf s r.part = some q → ∃ u r' q', exec (.tileLate t) s = .next u ∧ runOf u t = some r' ∧ r'.late = true ∧ r'.clk = fld w 119 94 ∧
      (t, fld w 119 94) ∈ r'.stalls ∧ stepOf u r.part = some q' ∧ (∀ d, d ∈ tilesOf s r.part → d ≠ t → (d, t, fld w 119 94, 0) ∈ q'.notices) ∧
      ((part s r.part).st = .stepping → (part u r.part).st = .stalled)) ∧
  (∀ (t src start : Nat) (s : State) (r : TileRun), tileOk t = true → tileOk src = true → runOf s t = some r → Noticed s r.part t src 0 start →
    ∃ u r', exec (.stallNotice t src) s = .next u ∧ runOf u t = some r' ∧ r'.stalls = (src, start) :: r.stalls ∧
      r'.clk ∈ r'.stalls.map (·.2) ∧ (∀ x ∈ r'.stalls, r'.clk ≤ x.2) ∧ ∀ k, k ≠ t → runOf u k = runOf s k) ∧
  (∀ (t src start : Nat) (s : State) (r : TileRun), tileOk t = true → tileOk src = true → runOf s t = some r → Noticed s r.part t src 1 start →
    (∀ x ∈ r.stalls, x.1 = src) →
    ∃ u r', exec (.resumeNotice t src (noticeTicks s src t)) s = .next u ∧ runOf u t = some r' ∧ r'.stalls = [] ∧ r'.clk = start + noticeTicks s src t ∧
      ∀ k, k ≠ t → runOf u k = runOf s k) ∧
  (∀ (p : Nat) (s : State) (q : StepRun), p < 16 → (part s p).st = .stalled → stepOf s p = some q → q.stallPosted = false →
    objD 10000 s (pidx 0x51 p) 23 * 1000 < nowNs s - q.stallFrom →
    ∃ v, exec (.stallLimitExpire p) s = .next (raise v { sev := 3, cls := stallClass q.stallCause, part := some p, unitKind := 1, unit := q.stallTile, detail := q.stallCause }) ∧
      stepOf v p = some { q with stallPosted := true } ∧ v.attn = s.attn) ∧
  (∀ (t slot : Nat) (s : State) (r : TileRun) (b : SlotB) (x : Seq), tileOk t = true → runOf s t = some r → slotOf s r.part slot = some b →
    seqOf s r.part b.seq = some x → x.cancelled = true → slot ∉ r.masked ++ r.maskNext →
    ∃ u, exec (.cancelNoticeTile t slot) s = .next u ∧ runOf u t = some { r with maskNext := slot :: r.maskNext } ∧
      ∀ k, k ≠ t → runOf u k = runOf s k) ∧
  (∀ (q : Nat) (s : State) (r : RunList) (x : Seq), q < 128 → (part s (qPart q)).st ≠ .free → (queue s (128 + 8 * qPart q)).running = some r →
    isMember s (qPart q) = false → seqOf s (qPart q) (fld (r.lst.word r.pos) 223 192) = some x →
    (∀ k, stepOf s (qPart q) = some k → k.committed = true ∨ ∀ b ∈ k.slots, b.seq ≠ fld (r.lst.word r.pos) 223 192) →
    r.pos + 1 ≤ hdrNwords r.lst.hdr →
    ∃ u, exec (.cancel q) s = .next u ∧ seqOf u (qPart q) (fld (r.lst.word r.pos) 223 192) = some { x with cancelled := true } ∧
      ∃ r', (queue u (128 + 8 * qPart q)).running = some r' ∧ r'.pos = r.pos + 1 ∧ r'.aux = r.aux ∧ r'.results.length = r.results.length + 1) ∧
  (∀ (p seq lat : Nat) (s : State) (k : StepRun) (b : SlotB), p < 16 → cancelPending s p seq = true → isMember s p = false →
    stepOf s p = some k → boundSlot s p seq = some b → k.committed = false → b.cancelled = false →
    ∃ v, exec (.cancelRecorded p seq lat) s = .next (tryCommit (endIfMasked v p) p) ∧
      ∀ k', stepOf v p = some k' → ∀ c ∈ k'.slots, c.slot = b.slot → c.masked = true ∧ c.cancelled = true) ∧
  (∀ (p : Nat) (s : State), p < 16 → acceptMissing s p = true → exec (.acceptMissing p) s = .next (engineFault s p 0x0122))

/-- Every vector and copy command writes its result at its destination and nothing else. Where its operands let it run, each form of VEW writes,
at its destination, the operation of its function code on every element; the rotary form each rotated pair; each form of VRED one value for
every segment; VSMX its probabilities and the new state; TOPK the first K of its elements, or the first K of two lists; FILL its pattern and
COPY the bytes of its source, read whole before. Every other byte of the tiles' memories is as before. -/
def Obligations.VectorCommands : Prop :=
  (∀ (t fn : Nat) (c : Instr) (s : State) (r : TileRun) (w : Nat), (c, fn) ∈ vewForms t → AtTile s t 0x30 r w → fld w 119 112 = fn → 0 < fld w 111 96 →
    Operable s t r (vewSrcs fn (fld w 111 96) (fld w 71 48) (fld w 47 24) (fld w 23 0))
      [(fld w 95 72, (if fn = 0x16 then 2 else 4) * fld w 111 96, if fn = 0x16 then 2 else 4)] false →
    ∃ u, exec c s = .next u ∧ Wrote s u t r (fld w 95 72)
      ((if fn = 0x16 then bf16Bytes else w32Bytes) ((List.range (fld w 111 96)).map (vewElem s t w)))) ∧
  (∀ (t : Nat) (s : State) (r : TileRun) (w k : Nat), AtTile s t 0x30 r w → fld w 119 112 = 0x15 → fld w 111 96 = 2 * k → 0 < k →
    Operable s t r (vewSrcs 0x15 (2 * k) (fld w 71 48) (fld w 47 24) (fld w 23 0)) [(fld w 95 72, 8 * k, 4)] false →
    ∃ u, exec (.vewRotary t) s = .next u ∧ Wrote s u t r (fld w 95 72) (w32Bytes ((List.range k).flatMap fun i =>
      (rotaryPair ((opW32 s t (fld w 71 48) (2 * k)).getD (2 * i) 0) ((opW32 s t (fld w 71 48) (2 * k)).getD (2 * i + 1) 0)
        ((opW32 s t (fld w 47 24) (2 * k)).getD (2 * i) 0) ((opW32 s t (fld w 47 24) (2 * k)).getD (2 * i + 1) 0)).map (·.v)))) ∧
  (∀ (t fn l k : Nat) (c : Instr) (s : State) (r : TileRun) (w : Nat),
    (c, fn) ∈ [(Instr.vredSum t, 0), (Instr.vredSumSquares t, 1), (Instr.vredMax t, 2), (Instr.vredMin t, 3)] → AtTile s t 0x31 r w →
    fld w 119 112 = fn → fld w 47 32 = l → 0 < l → 0 < k → fld w 111 96 = k * l →
    Operable s t r [(fld w 71 48, 4 * (k * l), 4)] [(fld w 95 72, 4 * k, 4)] false →
    ∃ u, exec c s = .next u ∧ Wrote s u t r (fld w 95 72) (w32Bytes ((List.range k).map fun i =>
      (vredSeg fn (((opW32 s t (fld w 71 48) (k * l)).drop (i * l)).take l)).v))) ∧
  (∀ (t n : Nat) (s : State) (r : TileRun) (w : Nat), AtTile s t 0x32 r w → fld w 119 112 = 0 → fld w 23 0 = 0 → fld w 111 96 = n → 0 < n →
    opOverlap (fld w 95 72) (4 * n) (fld w 47 24) 12 = false →
    Operable s t r [(fld w 71 48, 4 * n, 4), (fld w 47 24, 12, 4)] [(fld w 95 72, 4 * n, 4), (fld w 47 24, 12, 4)] false →
    ∃ u e, exec (.vsmx t) s = .next u ∧ Moved u t r ∧ e = vsmxStep (opW32 s t (fld w 71 48) n) ((opW32 s t (fld w 47 24) 3).getD 0 0)
        ((opW32 s t (fld w 47 24) 3).getD 1 0) ∧ opBytes u t (fld w 95 72) (4 * n) = w32Bytes e.1.vs ∧
      opBytes u t (fld w 47 24) 12 = w32Bytes e.2.vs ∧ u.hbm = s.hbm ∧ u.banks = s.banks ∧ u.sync = s.sync ∧ u.seqs = s.seqs) ∧
  (∀ (t k n : Nat) (s : State) (r : TileRun) (w : Nat), AtTile s t 0x34 r w → bitAt w 119 = false → fld w 118 112 = k → 0 < k → k ≤ 64 →
    fld w 111 96 = n → 0 < n → Operable s t r [(fld w 95 72, 4 * n, 4), (fld w 71 49, 8, 8)] [(fld w 71 49, 8 + 8 * k, 8)] false →
    ∃ u, exec (.topkSelect t) s = .next u ∧ Wrote s u t r (fld w 71 49) ((topkWords k (topkTag (leNat (opBytes s t (fld w 71 49) 8)))
      (topK k ((opW32 s t (fld w 95 72) n).zip ((List.range n).map fun i => (fld w 48 17 + i) % 2 ^ 32)))).flatMap (leBytes 8))) ∧
  (∀ (t k : Nat) (s : State) (r : TileRun) (w : Nat) (ws : List Nat), AtTile s t 0x34 r w → bitAt w 119 = true → fld w 118 112 = k → 0 < k → k ≤ 64 →
    fld w 111 96 = 0 → fld w 48 17 = 0 →
    Operable s t r [(fld w 95 72, 8 + 8 * k, 8), (fld w 71 49, 8 + 8 * k, 8)] [(fld w 71 49, 8 + 8 * k, 8)] false →
    topkBad (leNat (opBytes s t (fld w 95 72) 8)) = false → topkBad (leNat (opBytes s t (fld w 71 49) 8)) = false →
    topkK (leNat (opBytes s t (fld w 95 72) 8)) = k → topkK (leNat (opBytes s t (fld w 71 49) 8)) = k →
    topkTag (leNat (opBytes s t (fld w 95 72) 8)) = topkTag (leNat (opBytes s t (fld w 71 49) 8)) →
    topkMerge (listWords s t (fld w 71 49) k) (listWords s t (fld w 95 72) k) = .inr ws → ws.length = k + 1 →
    ∃ u, exec (.topkMerge t) s = .next u ∧ Wrote s u t r (fld w 71 49) (ws.flatMap (leBytes 8))) ∧
  (∀ (t n : Nat) (s : State) (r : TileRun) (w : Nat), AtTile s t 0x40 r w → fld w 95 72 = 4 * n → 0 < n →
    Operable s t r [] [(fld w 119 96, 4 * n, 4)] false →
    ∃ u, exec (.fill t) s = .next u ∧ Wrote s u t r (fld w 119 96) ((List.replicate n (leBytes 4 (fld w 71 40))).flatten)) ∧
  (∀ (t n : Nat) (s : State) (r : TileRun) (w : Nat), AtTile s t 0x41 r w → fld w 95 72 = 4 * n → 0 < n →
    Operable s t r [(fld w 71 48, 4 * n, 1)] [(fld w 119 96, 4 * n, 1)] true →
    ∃ u, exec (.copy t) s = .next u ∧ Wrote s u t r (fld w 119 96) (opBytes s t (fld w 71 48) (4 * n)))

/-- EVAL, SCL, TMM and QNT start or write their results, and a flagged tile-step repeats. EVAL of a bank that its map gives puts the evaluation
of its stored or quantised input in flight, its row pending; its end writes the row that the converters' codes give, with the tag. SCL
scales a row. TMM puts its dot products in flight; their write stores each, added to what stood there where ACC is 1. QNT writes the codes
and scales of its units; where the guard flags one, the tile-step is flagged, and its repeat begins one level up at its first command, with
what it had overwritten restored. -/
def Obligations.ArrayTensorAndGuardCommands : Prop :=
  (∀ (t a b : Nat) (wide : Bool) (s : State) (r : TileRun) (w : Nat), AtTile s t 0x10 r w → bitAt w 112 = wide → fld w 111 110 = 0 →
    a = fld w 119 114 → (fld w 113 113 = 1 → (part s r.part).place.dual = true) → mapBank s t a (fld w 113 113) = some b →
    (bankOf s (bankKey t a b)).st ≠ .invalid → (bankOf s (bankKey t a b)).st ≠ .repairing → rowTaken s t (fld w 109 103) = false → r.redirects = [] →
    debugBit s r.part 1 = false → opOk (fld w 80 57) (if wide then 1024 else 512) 1 = true →
    opPending s t (fld w 80 57) (if wide then 1024 else 512) = false → opReadFault s t (fld w 80 57) (if wide then 1024 else 512) = none →
    fld w 56 34 < spTop → opPending s t (fld w 56 34) 1 = false → opReadFault s t (fld w 56 34) 1 = none →
    ∃ u r' e, exec (if wide then .evalA8 t else .evalA4 t) s = .next u ∧ runOf u t = some r' ∧ r'.pos = r.pos + 1 ∧ r'.evals = r.evals ++ [e] ∧
      e.array = a ∧ e.bank = b ∧ e.row = fld w 109 103 ∧ e.scale = leNat (spRead s t (fld w 56 34) 1) ∧
      e.codes = codesOf wide (fld w 90 81) (opBytes s t (fld w 80 57) (if wide then 1024 else 512)) ∧
      rowTaken u t (fld w 109 103) = true ∧ u.sp = s.sp ∧ u.acc = s.acc) ∧
  (∀ (t a : Nat) (codes : List (List (BitVec 12))) (s : State) (r : TileRun) (e : EvalRun), tileOk t = true → runOf s t = some r →
    r.evals.find? (fun e => e.array == a) = some e → e.suppressed = false → e.row < 128 →
    ∃ u r' ws, exec (.evalResultWrite t a codes) s = .next u ∧ runOf u t = some r' ∧ r'.evals = r.evals.erase e ∧
      ws = logicalRow (bankOf s (bankKey t a e.bank)).format (physResults (bankOf s (bankKey t a e.bank)) (latchOf s t).1 e.wide e.codes codes)
        (e.codes.foldl (· + ·) 0) ∧ (∀ j v, j < 1024 → ws[j]? = some v → accRead u t e.row j = BitVec.ofNat 32 v) ∧
      accTag u t e.row = evalTag e ∧ u.sp = s.sp ∧ u.hbm = s.hbm) ∧
  (∀ (t row cs : Nat) (s : State) (r : TileRun) (w : Nat), AtTile s t 0x11 r w → row = fld w 119 113 → cs = fld w 112 90 → opOk cs 4096 4 = true →
    rowPending s t row = false → opPending s t cs 4096 = false → accScaled s t row = false → opReadFault s t (2 ^ 23 + row * 4096) 4096 true = none →
    opReadFault s t cs 4096 = none → debugBit s r.part 1 = false →
    ∃ u, exec (.scl t) s = .next u ∧ Wrote s u t r (2 ^ 23 + row * 4096) (w32Bytes ((List.range 1024).map fun i =>
      (if bitAt (accTag s t row) 12 then quietNan else scaleWord (accRead s t row i).toNat (fld (accTag s t row) 7 0) ((opW32 s t cs 1024).getD i 0)).v)) ∧
      accTag u t row = accTag s t row + 2 ^ 13) ∧
  (∀ (t fa fb m n kb : Nat) (acc : Bool) (s : State) (r : TileRun) (w : Nat), AtTile s t 0x20 r w → fa = tmmFmt (fld w 119 115) (fld w 114 110) →
    fb = tmmFmt (fld w 114 110) (fld w 119 115) → 1 ≤ fa → fa ≤ 7 → 1 ≤ fb → fb ≤ 7 → (fa = 1 ↔ fb = 1) → m = fld w 109 104 + 1 → n = fld w 103 98 + 1 →
    kb = fld w 97 82 → 0 < kb → acc = bitAt w 11 → (opAcc (fld w 35 12) = true → fld w 35 12 % 4096 = 0) → r.redirects = [] → r.tmms.length < 3 →
    Operable s t r [(fld w 81 59, matBytes fa m kb, if fa = 1 then 2 else 1), (fld w 58 36, matBytes fb n kb, if fb = 1 then 2 else 1)]
      [(fld w 35 12, if opAcc (fld w 35 12) then (m + 15) / 16 * 4096 else 4 * (64 * (m - 1) + n), 4)] true →
    (acc = true → opPending s t (fld w 35 12) (if opAcc (fld w 35 12) then (m + 15) / 16 * 4096 else 4 * (64 * (m - 1) + n)) = false ∧
      opReadFault s t (fld w 35 12) (if opAcc (fld w 35 12) then (m + 15) / 16 * 4096 else 4 * (64 * (m - 1) + n)) = none) →
    ∃ u r' x, exec (.tmm t) s = .next u ∧ runOf u t = some r' ∧ r'.pos = r.pos + 1 ∧ r'.tmms = r.tmms ++ [x] ∧ x.dst = fld w 35 12 ∧ x.acc = acc ∧
      x.suppressed = false ∧ u.sp = s.sp ∧ u.acc = s.acc ∧
      x.words = (tmmWords m n).map fun e => (e.1, (dotProduct
        ((List.range kb).map fun i => matBlock s { p := r.part, t := t, run := r, w := w } fa (fld w 81 59) m kb e.2.1 i)
        ((List.range kb).map fun i => matBlock s { p := r.part, t := t, run := r, w := w } fb (fld w 58 36) n kb e.2.2 i)).v)) ∧
  (∀ (t : Nat) (s : State) (r : TileRun) (x : TmmRun) (rest : List TmmRun), tileOk t = true → runOf s t = some r → r.tmms = x :: rest →
    x.suppressed = false → tmmFault s t x = none → (x.words.map (·.1)).Nodup →
    ∃ u r', exec (.tmmResultWrite t) s = .next u ∧ runOf u t = some r' ∧ r'.tmms = rest ∧ u.hbm = s.hbm ∧
      (opAcc x.dst = true → u.sp = s.sp ∧ ∀ k v, (k, v) ∈ x.words → accRead u t 0 (opOff x.dst / 4 + k) =
        BitVec.ofNat 32 (if x.acc then (fadd (accRead s t 0 (opOff x.dst / 4 + k)).toNat v).v else v)) ∧
      (opAcc x.dst = false → u.acc = s.acc ∧ ∀ k v, (k, v) ∈ x.words → leNat (spRead u t (opOff x.dst + 4 * k) 4) =
        (if x.acc then (fadd (leNat (spRead s t (opOff x.dst + 4 * k) 4)) v).v else v) % 2 ^ 32)) ∧
  (∀ (t d nb src sb dst dsts : Nat) (bf : Bool) (s : State) (r : TileRun) (w : Nat) (c : TCtx) (qs : List Quant), AtTile s t 0x33 r w →
    d = fld w 119 115 → bf = bitAt w 114 → nb = fld w 113 98 → src = fld w 97 74 → dst = fld w 73 51 → dsts = fld w 50 28 →
    sb = nb * unitLen d * (if bf then 2 else 4) → 2 ≤ d → d ≤ 9 → 0 < nb → (guardedFmt d = true → r.grd = true) →
    Operable s t r [(src, sb, if bf then 2 else 4)] [(dst, nb * unitBytes d, 1), (dsts, nb, 1)] false →
    opOverlap dst (nb * unitBytes d) dsts nb = false → c = { p := r.part, t := t, run := r, w := w } → runFmt s c d = d →
    qs = (List.range nb).map (fun i => quantise d (((quantSource s t src (nb * unitLen d) bf).drop (i * unitLen d)).take (unitLen d))) →
    ((guardedFmt d = true → slotMasked s r (fld w 27 20) = false → ∀ b ∈ guardBlocks d qs, blockFlagged s r.part b = false) →
      ∃ u, exec (.qnt t) s = .next u ∧ Moved u t r ∧ opBytes u t dst (nb * unitBytes d) = qs.flatMap (fun q => packElems (fmtWidth d) q.codes) ∧
        spRead u t dsts nb = qs.map (fun q => BitVec.ofNat 8 q.scale) ∧ u.acc = s.acc ∧ u.hbm = s.hbm) ∧
    ((guardedFmt d = true ∧ slotMasked s r (fld w 27 20) = false ∧ ∃ b ∈ guardBlocks d qs, blockFlagged s r.part b = true) →
      ∃ u r', exec (.qnt t) s = .next u ∧ runOf u t = some r' ∧ r'.flagged = true ∧ r'.pos = r.pos ∧ u.sp = s.sp ∧ u.acc = s.acc)) ∧
  (∀ (t : Nat) (s : State) (r : TileRun), tileOk t = true → runOf s t = some r → r.flagged = true →
    ∃ u r', exec (.guardRepeatStart t) s = .next u ∧ runOf u t = some r' ∧ r'.flagged = false ∧ r'.pos = r.tstep + 1 ∧ r'.level = r.level + 1 ∧
      u.sp = r.undoSp.foldl (fun m e => Memory.write m e.1 e.2) s.sp ∧ u.acc = r.undoAcc.foldl (fun m e => FMap.put 0 m e.1 e.2) s.acc ∧ u.hbm = s.hbm)

/-- Transfers, reductions, KV reads and appends, and calls are issued and complete. SEND and RDC put their bytes in flight. A SEND that arrives
is written at its operand and its flag rises; an operand of a reduction waits at the unit of its addition, or is added to the one that
waits, the left one first; the result is written and its flag rises. KVRD puts its delivery in flight, which its completion writes; KVAP
writes the entry of its node into the ring, or, masked or past the nodes, nothing. A page fill lands in its ring, a copied set in HBM. The
first call to the page engine of a step is the allocation; a chain is taken with its transfer descriptors and moves its runs in order when
it completes. TREE writes a record for every slot of its range, ACCEPT decides every unmasked one by the walk of its tree, and PUBLISH
registers its range. -/
def Obligations.FabricAttentionAndSamplerCommands : Prop :=
  (∀ (t src n dst : Nat) (s : State) (r : TileRun) (w : Nat) (d : PTile), AtTile s t 0x50 r w → src = fld w 119 96 → n = fld w 95 72 → dst = fld w 59 36 →
    0 < n → n % 4 = 0 → opOk src n 1 = true → opOk dst n 1 = true → ptile (part s r.part).place (fld w 71 60) = some d →
    opProtected s r.part d.tile dst n = false → opPending s t src n = false → inFlight s t < 16 → opReadFault s t src n = none →
    debugBit s r.part 1 = false →
    ∃ u f, exec (.send t) s = .next u ∧ Moved u t r ∧ u.flights = s.flights ++ [f] ∧ f.part = r.part ∧ f.src = t ∧ f.dst = d.tile ∧ f.addr = dst ∧
      f.flag = fld w 35 30 ∧ f.data = opBytes s t src n ∧ u.sp = s.sp ∧ u.acc = s.acc) ∧
  (∀ (src : Nat) (s : State) (pre post : List Flight) (f : Flight) (r : TileRun), tileOk src = true → s.flights = pre ++ f :: post → f.src = src →
    flightHeld s f = false → (∀ g ∈ pre, f.lane = none ∨ g.lane ≠ f.lane ∨ g.dst ≠ f.dst) → (ownerOf s f.dst).map (·.1) = some f.part →
    opWriteFault s f.dst f.addr f.data.length = none → opOk f.addr f.data.length 1 = true → debugBit s f.part 1 = false →
    stepNoOf s f.part = f.step → runOf s f.dst = some r → tileFlag r f.flag ≠ 0xFFFFFFFF →
    ∃ u, exec (.sendArrive src (pre.filter fun g => g.src == src).length) s = .next u ∧ u.flights = pre ++ post ∧
      Delivered s u f.dst f.addr f.data f.flag r) ∧
  (∀ (t src nw idx pti : Nat) (topk : Bool) (s : State) (r : TileRun) (w : Nat) (d : Reduce) (x : PTile), AtTile s t 0x51 r w → src = fld w 119 96 →
    nw = fld w 95 80 → idx = fld w 67 52 → topk = bitAt w 51 → reduceOf s r.part (fld w 79 68) = some d → d.contribs[idx]? = some pti →
    ptile (part s r.part).place pti = some x → x.tile = t → (d.kind = 1 ↔ topk = true) → debugBit s r.part 1 = false → inFlight s t < 16 →
    (topk = false → 0 < nw → nw = d.nw → opOk src (Nat.max (4 * nw) 8) 4 = true → opPending s t src (4 * nw) = false →
      opReadFault s t src (4 * nw) = none →
      ∃ u f, exec (.rdcSum t) s = .next u ∧ Moved u t r ∧ u.rflights = s.rflights ++ [f] ∧ f.rid = d.rid ∧ f.part = r.part ∧ f.src = t + 1 ∧
        f.step = stepNoOf s r.part ∧ f.data = opW32 s t src nw ∧ u.sp = s.sp ∧ u.acc = s.acc) ∧
    (∀ k, topk = true → nw = 0 → k = topkK (leNat (opBytes s t src 8)) → topkBad (leNat (opBytes s t src 8)) = false →
      opOk src (8 + 8 * k) 8 = true → opPending s t src (8 + 8 * k) = false → opReadFault s t src (8 + 8 * k) = none →
      ∃ u f, exec (.rdcTopk t) s = .next u ∧ Moved u t r ∧ u.rflights = s.rflights ++ [f] ∧ f.rid = d.rid ∧ f.part = r.part ∧ f.src = t + 1 ∧
        f.step = stepNoOf s r.part ∧ f.data = chunks 8 (k + 1) (opBytes s t src (8 + 8 * k)) ∧ u.sp = s.sp ∧ u.acc = s.acc)) ∧
  (∀ (i : Nat) (s : State) (f : RFlight) (d : Reduce), s.rflights[i]? = some f → reduceOf s f.part f.rid = some d → 1 < f.n → legHeld s d f = false →
    (slotFor s f = none → ∃ u g, exec (.reductionOperandArrive i) s = .next u ∧ u.rslots = s.rslots ++ [g] ∧ g.data = f.data ∧ g.idx = f.idx ∧
      u.rflights = dropNth s.rflights i) ∧
    (∀ g l m, slotFor s f = some g → g.step = f.step → l = (if f.idx % 2 = 0 then f.data else g.data) →
      m = (if f.idx % 2 = 0 then g.data else f.data) →
      (d.kind ≠ 1 → ∃ u x, exec (.reductionOperandArrive i) s = .next u ∧ u.rslots = s.rslots.erase g ∧
        u.rflights = dropNth s.rflights i ++ [x] ∧ x.data = (l.zip m).map (fun e => (fadd e.1 e.2).v)) ∧
      (∀ ws, d.kind = 1 → topkMerge l m = .inr ws → ∃ u x, exec (.reductionOperandArrive i) s = .next u ∧ u.rslots = s.rslots.erase g ∧
        u.rflights = dropNth s.rflights i ++ [x] ∧ x.data = ws))) ∧
  (∀ (i : Nat) (s : State) (f : RFlight) (d : Reduce) (x : PTile) (r : TileRun) (bs : List Byte), s.rflights[i]? = some f →
    reduceOf s f.part f.rid = some d → f.n ≤ 1 → legHeld s d f = false → ptile (part s f.part).place d.dpti = some x → bs = resultBytes d f →
    opProtected s f.part x.tile (reduceDst x d) bs.length = false → opWriteFault s x.tile (reduceDst x d) bs.length = none →
    opOk (reduceDst x d) bs.length 1 = true → debugBit s f.part 1 = false → stepNoOf s f.part = f.step → runOf s x.tile = some r →
    tileFlag r d.dflag ≠ 0xFFFFFFFF →
    ∃ u, exec (.reductionResultArrive i) s = .next u ∧ u.rflights = dropNth s.rflights i ∧ Delivered s u x.tile (reduceDst x d) bs d.dflag r) ∧
  (∀ (t slot p0 n dst : Nat) (s : State) (r : TileRun) (w : Nat) (c : TCtx) (x : KvCtx), AtTile s t 0x60 r w → c = { p := r.part, t := t, run := r, w := w } →
    slot = fld w 119 112 → p0 = fld w 103 72 → n = fld w 71 56 → dst = fld w 55 33 → kvCtx s c slot (fld w 111 104) = some x → 0 < n → n % 32 = 0 →
    p0 % 32 = 0 → dst + kvrdBytes x n ≤ spTop → opProtected s r.part t dst (kvrdBytes x n) = false → preparing s t = false → r.kvrds.length < 8 →
    debugBit s r.part 1 = false →
    (slotMasked s r slot = true → ∃ u r' k, exec (.kvrd t) s = .next u ∧ runOf u t = some r' ∧ r'.pos = r.pos + 1 ∧ r'.kvrds = r.kvrds ++ [k] ∧
      k.dst = dst ∧ k.flag = fld w 32 27 ∧ k.data = kvDelivery x (kvScale s c x) (fun _ => false) (fun _ _ _ _ => 0) p0 n ∧ u.sp = s.sp) ∧
    (∀ b s1 pages, slotMasked s r slot = false → slotOf s r.part slot = some b →
      pages = (if p0 < Nat.min (p0 + n) (b.len + b.nnode) then
        (List.range ((Nat.min (p0 + n) (b.len + b.nnode) - 1) / 64 + 1 - p0 / 64)).map (· + p0 / 64) else []) →
      pages.foldl (walkPage c x b) (.inr s) = .inr s1 → (∀ i ∈ pages, ringBad s1 c x b i = false) →
      ∃ u r' k, exec (.kvrd t) s = .next u ∧ runOf u t = some r' ∧ r'.pos = r.pos + 1 ∧ r'.kvrds = r.kvrds ++ [k] ∧ k.dst = dst ∧
        k.flag = fld w 32 27 ∧ k.data = kvDelivery x (kvScale s1 c x) (fun p => decide (p < b.len + b.nnode))
          (fun v j p d => if p < b.len + b.nnode then kvElem s1 c x b v j p d else 0) p0 n ∧ u.sp = s1.sp)) ∧
  (∀ (t : Nat) (s : State) (r : TileRun) (k : KvrdRun) (rest : List KvrdRun), tileOk t = true → runOf s t = some r → r.kvrds = k :: rest →
    tileDark s t = false → (k.far = true → bridgeCut s r.part t = false) → opWriteFault s t k.dst k.data.length = none → k.dst < spTop →
    tileFlag r k.flag ≠ 0xFFFFFFFF →
    ∃ u r', exec (.kvrdComplete t) s = .next u ∧ runOf u t = some r' ∧ r'.kvrds = rest ∧ tileFlag r' k.flag = tileFlag r k.flag + 1 ∧
      spRead u t k.dst k.data.length = k.data ∧ u.acc = s.acc ∧
      ∀ a, a < spKey t k.dst ∨ spKey t k.dst + k.data.length ≤ a → Memory.read u.sp a = Memory.read s.sp a) ∧
  (∀ (t slot node src m h : Nat) (s : State) (r : TileRun) (w : Nat) (c : TCtx) (x : KvCtx) (bs : List Byte), AtTile s t 0x61 r w →
    c = { p := r.part, t := t, run := r, w := w } → slot = fld w 119 112 → node = fld w 111 108 → kvCtx s c slot (fld w 90 83) = some x →
    m = x.k.nh * x.g.dh → h = m * kvEsize x.g → src = 2 ^ 23 + fld w 107 101 * 4096 + 4 * fld w 100 91 → fld w 100 91 + 2 * m ≤ 1024 →
    opPending s t src (8 * m) = false → preparing s t = false → debugBit s r.part 1 = false →
    bs = ((opW32 s t src (2 * m)).zip (List.range (2 * m))).flatMap (fun e =>
      leBytes (kvEsize x.g) (kvConvert x.g.fmt (kvScale s c x (e.2 / m) (e.2 % m / x.g.dh)) e.1).1) →
    (slotMasked s r slot = true → ∃ u, exec (.kvap t) s = .next u ∧ Moved u t r ∧ u.sp = s.sp ∧ u.acc = s.acc ∧ u.hbm = s.hbm) ∧
    (∀ b, slotMasked s r slot = false → slotOf s r.part slot = some b →
      (b.nnode ≤ node → ∃ u, exec (.kvap t) s = .next u ∧ Moved u t r ∧ u.sp = s.sp ∧ u.acc = s.acc ∧ u.hbm = s.hbm) ∧
      (∀ o1 o2, node < b.nnode → opReadFault s t src (8 * m) = none →
        (entryRuns (part s r.part).place x.k x.g slot (b.len + node)).map (·.1) = [o1, o2] → o1 + h ≤ o2 ∨ o2 + h ≤ o1 →
        ∃ u, exec (.kvap t) s = .next u ∧ Moved u t r ∧ spRead u t o1 h = bs.take h ∧ spRead u t o2 h = bs.drop h ∧ u.acc = s.acc ∧ u.hbm = s.hbm))) ∧
  (∀ (n p t layer slot i src pti gi page : Nat) (s : State) (b : SlotB) (k : KvTile), s.fills[n]? = some (p, t, layer, slot, i, src) → bridgeCut s p t = false →
    (part s p).place.tiles.findIdx? (fun x => x.tile == t) = some pti → kvGroupOf (part s p).place layer = some gi → slotOf s p slot = some b →
    kvTile (part s p).place pti layer = some k → pageOf s p b.seq gi layer i = some page →
    ((partCoords k (kvGroup (part s p).place gi)).any fun o => poolBad s p src (pageByte k (kvGroup (part s p).place gi) o)) = false →
    exec (.ringFillDone n) s = .next (fillRing { s with fills := dropNth s.fills n } p k gi slot i src page)) ∧
  (∀ (p n g src dst lo hi : Nat) (s : State) (q : StepRun), p < 16 → stepOf s p = some q → q.copies[n]? = some (g, src, dst, lo, hi) →
    ∃ v, exec (.allocCopyDone p n) s = .next (copySet v p g src dst lo hi) ∧ stepOf v p = some { q with copies := dropNth q.copies n } ∧
      v.hbm = s.hbm ∧ v.seqs = s.seqs ∧ v.kvSets = s.kvSets) ∧
  (∀ (t d : Nat) (s : State) (r : TileRun) (w : Nat) (q : StepRun), AtCall s t 2 r w d → stepOf s r.part = some q →
    (q.alloced = true → ∃ u, exec (.pcallPageAlloc t) s = .next u ∧ Flagged u t r (pcallFlag w) ∧ u.seqs = s.seqs ∧ u.kvSets = s.kvSets ∧ u.sp = s.sp) ∧
    (q.alloced = false → ∃ v, stepOf v r.part = some { q with alloced := true } ∧ v.seqs = s.seqs ∧ v.kvSets = s.kvSets ∧ v.sp = s.sp ∧
      exec (.pcallPageAlloc t) s = .next (tileNext (incFlag (endIfMasked (reviewStall (prepareRings (allocCall v r.part) r.part) r.part) r.part) t
        (pcallFlag w) r.pos 7) t))) ∧
  (∀ (t d n a : Nat) (s : State) (r : TileRun) (w : Nat) (ds : List Nat), AtCall s t 1 r w d → n = fld d 115 104 → a = fld d 103 81 → fld d 127 120 = 1 →
    fld d 119 116 = 1 → 0 < n → a % 32 = 0 → d % 2 ^ 81 = 0 → a + 32 * n ≤ spTop → opPending s t a (32 * n) = false → spBad s t a (32 * n) = false →
    ds = (List.range n).map (fun i => leNat (spRead s t (a + 32 * i) 32)) → (∀ e ∈ ds, chainRefusal s r.part e = none) →
    ∃ u r' k, exec (.pcallChain t) s = .next u ∧ runOf u t = some r' ∧ r'.pos = r.pos + 1 ∧ r'.calls = r.calls ++ [k] ∧ k.eng = 1 ∧
      k.flag = pcallFlag w ∧ k.descs = ds ∧ u.sp = s.sp ∧ u.hbm = s.hbm) ∧
  (∀ (t : Nat) (s v : State) (r : TileRun) (k : CallRun) (rest : List CallRun), tileOk t = true → runOf s t = some r → r.calls = k :: rest →
    (k.eng = 1 → bridgeCut s r.part t = false) →
    (k.descs.flatMap chainRuns).foldl (chainMove r.part) (updRun s t (fun r => { r with calls := rest }), none) = (v, none) →
    exec (.retrieverCallDone t) s = .next (incFlag v t k.flag k.off 7)) ∧
  (∀ (t d off n : Nat) (s : State) (r : TileRun) (w : Nat) (c : TCtx), AtCall s t 3 r w d → c = { p := r.part, t := t, run := r, w := w } →
    samplerBad s c d = false → off = sOff d → n = sNslot d →
    (sOp d = 1 → off + 2048 * n ≤ spTop → spTouches s c 0 off (2048 * n) = false → spTouches s c 3 off (2048 * n) = false → drawBad s c d = false →
      opWriteFault s t off (2048 * n) = none →
      ∃ v r', exec (.samplerTree t) s = .next (tileNext (endIfMasked v r.part) t) ∧ runOf v t = some r' ∧
        tileFlag r' (pcallFlag w) = tileFlag r (pcallFlag w) + 1 ∧ ∀ i b, i < n → slotOf s r.part (sSlot0 d + i) = some b →
          (slotMasked s r (sSlot0 d + i) = true → spRead v t (off + 2048 * i) 2048 = treeRecord b.seq b.len none) ∧
          (slotMasked s r (sSlot0 d + i) = false → b.csrc ≠ 2 → spRead v t (off + 2048 * i) 2048 = treeRecord b.seq b.len (some b)) ∧
          (slotMasked s r (sSlot0 d + i) = false → b.csrc = 2 → i = 0 → ∀ b', drawEntry s r.part b = .inr b' →
            spRead v t off 2048 = treeRecord b.seq b.len (some b'))) ∧
    (sOp d = 2 → off + 8320 * n ≤ spTop → opPending s t off (n * 16 * 520) = false →
      (∀ i b, i < n → slotOf s r.part (sSlot0 d + i) = some b → b.decided = false ∧ (b.masked = false →
        ∃ x, walkTree b (fun k => acceptList s t (off + (i * 16 + k) * 520)) 0 {} 17 = .inr x)) →
      ∃ v r', exec (.samplerAccept t) s = .next (tileNext (tryCommit v r.part) t) ∧ runOf v t = some r' ∧
        tileFlag r' (pcallFlag w) = tileFlag r (pcallFlag w) + 1 ∧ ∀ i b x, i < n → slotOf s r.part (sSlot0 d + i) = some b → b.masked = false →
          walkTree b (fun k => acceptList s t (off + (i * 16 + k) * 520)) 0 {} 17 = .inr x →
          slotOf v r.part (sSlot0 d + i) = some { b with decided := true, kept := x.path, tokens := x.tokens, qs := x.qs, nonfinite := x.nonfin }) ∧
    (∀ q, sOp d = 3 → (linkOfDraft s r.part).isSome = true → stepOf s r.part = some q →
      ∃ u q', exec (.samplerPublish t) s = .next u ∧ Flagged u t r (pcallFlag w) ∧ stepOf u r.part = some q' ∧
        q'.published = q.published ++ [(sSlot0 d, n)] ∧ u.sp = s.sp))

/-- Feeds, bricks, blocks, the governor, sensors, failures and field tests act on the state. Each event of power, cooling and failure, where its
conditions hold: a feed's voltage decides its state and no brick draws from one that is not usable; bricks start, fault, shed and move; a
phase or block that fails goes out and a restarted block returns; the governor, the thermal model and the window boundary set each region's
figures; sensors, coolant and leaks are noted and stop the module where they must; a failed router, link, reference, link die, stack or
bridge is out; Kennel commits its block and lets a suspect recover; field tests start and end. -/
def Obligations.PowerThermalAndFailureEvents : Prop :=
  (∀ (f : Nat) (volts : Int) (ma : Nat) (s : State), f < 2 →
    ∃ u, exec (.feedStateChange f volts ma) s = .next u ∧ (feed u f).volts = volts ∧ (feed u f).ma = ma ∧
      (feed u f).usable = ((feed s f).usable && decide (2 ≤ feedCode volts) && decide (feedCode volts ≤ 4)) ∧ feed u (1 - f) = feed s (1 - f) ∧
      ∀ b k, b < 5 → k < 2 → (feed u k).usable = false → (brick u b).feed ≠ k) ∧
  (∀ (f t : Nat) (s : State), f < 2 → (feed s f).bandAt = some t → (feed s f).usable = false → t + 100000000 ≤ ageNs s →
    ∃ v, exec (.feedUsable f) s = .next (restartWake v) ∧ v.power = s.power ∧ (feed v f).usable = true ∧ (feed v f).usableAt = some (ageNs s)) ∧
  (∀ (b t : Nat) (s : State), b < 5 → (feed s (preferred s b)).usableAt = some t → brickDraws (brick s b) = true →
    (feed s (preferred s b)).usable = true → t + 1000000000 ≤ ageNs s →
    ∃ u, exec (.feedReturnPreferred b) s = .next u ∧ brick u b = { brick s b with feed := preferred s b } ∧ u.feeds = s.feeds ∧
      ∀ i, i ≠ b → brick u i = brick s i) ∧
  (∀ (b st : Nat) (c : Instr) (ok : Prop) (s : State), b < 5 →
    (c, st, ok) ∈ [(Instr.brickFault b, 4, (brick s b).st ≠ 0 ∧ (brick s b).st ≠ 4), (Instr.brickRemove b, 0, (brick s b).st ≠ 0),
      (Instr.brickInsert b, 1, (brick s b).st = 0), (Instr.brickStartDone b, 2, (brick s b).st = 1 ∧ bricksPowered s = true),
      (Instr.brickShedDone b, 3, (brick s b).st = 2 ∧ (brick s b).shedding = true)] → ok →
    ∃ u, exec c s = .next u ∧ (brick u b).st = st ∧ (brick u b).present = decide (st ≠ 0) ∧ u.feeds = s.feeds ∧
      ∀ i, i ≠ b → i < 5 → (brick u i).st = (brick s i).st) ∧
  (∀ (c : Nat) (ph : List Nat) (drv vout vsense varr : Nat) (ok fault : Bool) (s v : State), c < 288 → blockState s c < 2 → ph.foldl (· + ·) 0 < 40000 →
    v = setBlock s c { block s c with low := List.replicate 8 0, vpgmBad := (if ok then 0 else (block s c).vpgmBad + 1), vlog := vsense / 1000, ma := ph.foldl (· + ·) 0, varr := varr } →
    (drv = 0 → ok = true → exec (.dropshareSample c ph drv vout vsense varr ok fault) s = .next (if fault then loseBlock v c else v)) ∧
    (∀ i, drv = 2 ^ i → i < 8 → i ∉ (block s c).off → ok = true → fault = false →
      exec (.dropshareSample c ph drv vout vsense varr ok fault) s = .next (losePhase v c i)) ∧
    (drv = 0 → ok = false → fault = false → 9 ≤ (block s c).vpgmBad →
      exec (.dropshareSample c ph drv vout vsense varr ok fault) s = .next (loseVpgm v c))) ∧
  (∀ (c phases : Nat) (ok : Bool) (s : State), c < 288 → blockState s c = 3 →
    (ok = true → 6 ≤ phases → phases ≤ 8 → ∃ u, exec (.blockRestartDone c phases ok) s = .next u ∧
      blockState u c = (if phases = 8 then 0 else 1) ∧ (block u c).phases = phases ∧ ∀ i, i ≠ c → blockState u i = blockState s i) ∧
    (ok = false ∨ phases < 6 → ∃ u, exec (.blockRestartDone c phases ok) s = .next u ∧ blockState u c = 2)) ∧
  (∀ (h d pst : Nat) (s : State), h < 576 → (spot s h).off = 0 → computes s = true →
    ∃ u, exec (.governorRegionTick h d pst) s = .next u ∧ (∀ i, i ≠ h → spot u i = spot s i) ∧ spot u h = { spot s h with
      k := (regionControls (grantsOn s fun t => hotSpot t == h) ((spot s h).ptherm - (pst : Int)) d).1
      ft := (regionControls (grantsOn s fun t => hotSpot t == h) ((spot s h).ptherm - (pst : Int)) d).2 }) ∧
  (∀ (pin dyn bus : Nat) (s : State), s.power ≠ .off → s.power ≠ .standby →
    ∃ u, exec (.governorModuleTick pin dyn bus []) s = .next u ∧ u.gov.fm = (if computes s then nextFm s pin dyn else s.gov.fm) ∧
      u.gov.energy = s.gov.energy + pin ∧ u.gov.bus = bus ∧ u.spots = s.spots ∧ u.bricks = s.bricks) ∧
  (∀ (s : State), ∃ u, exec .windowBoundary s = .next u ∧ ∀ h, h < 576 → spot u h =
    if computes s then { spot s h with f := Nat.min (electricFactor s (h / 2)) (Nat.min (spot s h).ft (moduleFactor s)) }
    else { spot s h with f := 0, k := 0 }) ∧
  (∀ (h p : Nat) (s : State), h < 576 → computes s = true →
    ∃ u, exec (.thermalModelTick [(h, p)]) s = .next u ∧ u = modelSpot s h p ∧ (spot u h).power = p ∧ (spot u h).prev = protection s h ∧
      ∀ i, i ≠ h → spot u i = spot s i) ∧
  (∀ (h : Nat) (a b : Int) (s : State), h < 576 → (spot s h).failA = false → (spot s h).failB = false → -640 ≤ a → a ≤ 2400 → -640 ≤ b → b ≤ 2400 →
    ∃ u, exec (.hotspotSample h (some a) (some b)) s = .next u ∧ FMap.get (0, 0) u.hot h = (a, b) ∧
      (1520 ≤ a → s.power = .ready → (spot u h).off ≠ 0)) ∧
  (∀ (h : Nat) (s : State), h < 576 → objD 1 s 0x4031 1 = 1 → returnOk s h = true →
    ((spot s h).coolAt).getD (ageNs s) + objD 1 s 0x4031 3 * 1000000000 ≤ ageNs s →
    ∃ u, exec (.regionReturn h) s = .next u ∧ (spot u h).off = 0 ∧ (spot u h).k = 0 ∧ h ∉ u.heatOff) ∧
  (∀ (k : Nat) (v : Int) (s : State), k < 40 → ∃ u, exec (.stackTempSample k (some v)) s = .next u ∧
    stack u k = { stack s k with temp := v, cap := stackCap (stack s k).cap v } ∧ exec (.stackTempSample k none) s = .next s) ∧
  (∀ (l : List (Option Int)) (s : State),
    (waferOn s = false → exec (.coolantSample l) s = .next s) ∧
    (waferOn s = true → (coolantSampled s l).coolant.lost = false → exec (.coolantSample l) s = .next (gateWatch (coolantSampled s l))) ∧
    (s.power = .ready → (coolantSampled s l).coolant.lost = true → ∃ u, exec (.coolantSample l) s = .next u ∧ u.power = .hold ∧ u.coolant.st = 2)) ∧
  (∀ (t : Nat) (s : State), s.coolant.goodAt = some t → s.power = .hold → s.coolant.st = 2 → t + 10000000000 ≤ ageNs s →
    ∃ u, exec .coolantRecovered s = .next u ∧ u.coolant = { s.coolant with st := 3 } ∧ u.power = .hold) ∧
  (∀ (s : State), s.power = .hold → s.coolant.stopAt + objD 120 s 0x4020 8 * 1000000000 ≤ ageNs s →
    ∃ u, exec .holdExpire s = .next u ∧ u.power = .stopping ∧ u.life.stopTo = 1 ∧ u.life.stop = 1) ∧
  (∀ (i : Nat) (s : State), i < 4 → s.power ≠ .off →
    (bitAt s.leaks.wet i = false → bitAt s.leaks.failed i = false →
      ∃ u, exec (.leakWet i) s = .next u ∧ u.leaks = { s.leaks with wet := s.leaks.wet + 2 ^ i }) ∧
    (bitAt s.leaks.wet i = true → ∃ u, exec (.leakDry i) s = .next u ∧ u.leaks = { s.leaks with wet := s.leaks.wet - 2 ^ i } ∧ u.power = s.power) ∧
    (bitAt s.leaks.failed i = false →
      ∃ u, exec (.leakLoopBreak i) s = .next u ∧ u.leaks = { s.leaks with failed := s.leaks.failed + 2 ^ i } ∧ u.power = s.power)) ∧
  (∀ (s : State), s.power ≠ .off →
    (s.leaks.alarm = false → ∃ u, exec .alarmInput s = .next u ∧ u.leaks = { s.leaks with alarm := true }) ∧
    (s.leaks.alarm = true → ∃ u, exec .alarmInputOpen s = .next u ∧ u.leaks = { s.leaks with alarm := false } ∧ u.power = s.power)) ∧
  (∀ (s : State) (n : Nat), n = s.kennel.gathering.length - 60 → ∃ u, exec .kennelBlockCommit s = .next u ∧
    u.kennel.gathering = s.kennel.gathering.take n ∧ u.kennel.ring = (s.kennel.gathering.drop n ++ s.kennel.ring).take 1073741824 ∧
    u.kennel.units = s.kennel.units) ∧
  (∀ (a b c : Nat) (s : State), (kUnit s (kKey a b c)).st = 1 →
    ((kUnit s (kKey a b c)).events.map (·.2)).foldl Nat.max 0 + longestInterval s (kUnit s (kKey a b c)) * 1000000000 ≤ ageNs s →
    ∃ u, exec (.kennelSuspectExpire a b c) s = .next u ∧ (kUnit u (kKey a b c)).st = 0 ∧ ∀ k, k ≠ kKey a b c → kUnit u k = kUnit s k) ∧
  (∀ (d t : Nat) (s : State), d < 24 → s.power = .ready → objD 1 s 0x7030 1 ≠ 0 → testable s t = true →
    (nextTest s d (testDue s s.ftLight (objD 24 s 0x7030 2 * 3600000000000)) = some t → ∃ u, exec (.ftestLightDue d) s = .next u ∧
      FMap.find u.ftests (dieOf t) = some { tile := t, full := false, asked := false } ∧ u.banks = s.banks) ∧
    (nextTest s d (testDue s s.ftFull (objD 180 s 0x7030 3 * 86400000000000)) = some t → fullCovered s t = true → ∃ u, exec (.ftestFullDue d) s = .next u ∧
      FMap.find u.ftests (dieOf t) = some { tile := t, full := true, asked := false } ∧ u.banks = s.banks)) ∧
  (∀ (d n : Nat) (s : State) (f : FieldTest), d < 24 → FMap.find s.ftests d = some f →
    (n ≠ 0 → f.again = false → ∃ u, exec (.ftestDone d n) s = .next u ∧ FMap.find u.ftests d = some { f with again := true, part := n }) ∧
    (n = 0 → ∃ u, exec (.ftestDone d n) s = .next u ∧ FMap.find u.ftests d = none ∧ objD 0 u 0x7030 6 = (objD 0 s 0x7030 6 + 1) % 2 ^ 64) ∧
    (n ≠ 0 → f.again = true → ∃ u, exec (.ftestDone d n) s = .next u ∧ FMap.find u.ftests d = none ∧
      objD 0 u 0x7030 7 = (objD 0 s 0x7030 7 + 1) % 2 ^ 64)) ∧
  (∀ (t port n : Nat) (again : Bool) (s : State), tileOk t = true → hasLink t port = true →
    n = (if again then FMap.get 0 s.retries (t * 8 + port) + 1 else 0) →
    ∃ u, exec (.flitCrcError t port again) s = .next u ∧ FMap.get 0 u.retries (t * 8 + port) = n ∧ (8 ≤ n → bitAt (failedPorts u t) port = true) ∧
      (n < 8 → failedPorts u t = failedPorts s t ∧ objD 0 u 0x3102 2 t = (objD 0 s 0x3102 2 t + 1) % 2 ^ 64)) ∧
  (∀ (t : Nat) (s : State), tileOk t = true → ∃ u, exec (.routerFail t) s = .next u ∧ routerState u t = 3) ∧
  (∀ (r : Nat) (s : State), r < 2 → bitAt s.refDown r = false → ∃ u, exec (.referenceFail r) s = .next u ∧ u.refDown = s.refDown + 2 ^ r ∧
    objD 0 u 0x3110 1 = if objD 0 s 0x3110 1 ≠ r then objD 0 s 0x3110 1 else if s.refDown + 2 ^ r = 3 then 2 else 1 - r) ∧
  (∀ (l : Nat) (s : State), l < 4 → l ∉ s.ldDown → ∃ u, exec (.hubLinkDieFail l) s = .next u ∧ u.ldDown = l :: s.ldDown) ∧
  (∀ (k e n i f : Nat) (s : State), k < 40 → e < 17166 → f = k * stackBytes + e * extentBytes + 32 * (i % 65536) →
    exec (.hbmPatrol k e n []) s = .next (addObj s 0x3120 2 n k) ∧
    (hbmPoisoned s f = false → ∃ v, exec (.hbmPatrol k e n [i]) s = .next (if 2 ≤ kState v 3 k then stackFail v k else v) ∧
      hbmPoisoned v f = true ∧ v.hbm = s.hbm ∧ v.stackSt = s.stackSt)) ∧
  (∀ (m i : Nat) (s : State), m < 10 → i < 4 → ∃ u, exec (.memoryBridgeFail m) s = .next u ∧ (stack u (4 * m + i)).failed = true)

/-- Wakes, the power-on order, stops, power loss and the controller cards move the module's states. The module wakes from STANDBY on a source,
at a time, on an OPEN and for retention, to STARTING where the gate is open and else to ATTENDED; a wake that waits starts when the gate
opens and is dropped in time. Each step of the power-on order leads to the next and the last to READY, overrun or not. An orderly stop
drains, saves, and ends where it was sent; a power loss leaves STANDBY with everything volatile gone, and its stamp and the bus end it.
Cards fault, fail to boot, are inserted, mirrored and removed, and their test ports follow the TAP controller. A supply that appears starts
Sheepdog, whose samples keep the last five. -/
def Obligations.ModuleStatesAndCards : Prop :=
  (∀ (r : Bool) (s : State), (wake s false r).power = .attended ∧
    (gateFails s = none → (wake s true r).power = .starting ∧ (wake s true r).life.step = 2 ∧ (wake s true r).powerOns = s.powerOns + 1) ∧
    ((gateFails s).isSome = true → (wake s true r).power = .attended ∧ ∃ t, (wake s true r).life.wake = some (t, r))) ∧
  (∀ (s : State), s.power = .off → ((feed s 0).usable || (feed s 1).usable) = true →
    exec .standbySupplyAppear s = .next (restartWake { s with power := .standby })) ∧
  (∀ (n : Nat) (s : State), n < 512 → s.power = .standby → watched n = true → evWake s n = true → (evSrc s n).st = 1 →
    exec (.wakeEvent n) s = .next (wake s (targetReady s) false)) ∧
  (∀ (s : State), s.power = .standby → objD 0 s 0x4050 3 ≠ 0 → s.rtcValid = true → objD 0 s 0x4050 3 ≤ rtcNow s →
    exec .scheduledWake s = .next (wake (setObj s 0x4050 3 0) (targetReady s) false)) ∧
  (∀ (m : Nat) (s : State), m < 2 → s.power = .standby → portUp s (48 + m) = true → objD 1 s 0x4050 4 = 1 →
    exec (.mgmtOpenWake m) s = .next (wake s false false)) ∧
  (∀ (s : State), s.power = .standby → objD 1 s 0x2300 1 = 1 → s.life.wake = none → s.life.offAt + retentionDue s * 1000000000 ≤ ageNs s →
    ∃ u, exec .retentionWake s = .next u ∧ u.life.refresh = true ∧ u.power = (wake s true true).power) ∧
  (∀ (s : State) (w : Nat × Bool), s.life.wake = some w →
    (gateFails s = none → wakeInTime s w.1 = true → s.power = .attended ∨ s.power = .standby →
      ∃ u, exec .wakeGateOpen s = .next u ∧ u.power = .starting ∧ u.life.step = (if s.power = .attended then 3 else 2) ∧ u.life.wake = none ∧
        u.powerOns = s.powerOns + 1) ∧
    (wakeInTime s w.1 = false → ∃ u, exec .wakeGateTimeout s = .next u ∧ u.life.wake = none ∧ u.power = s.power)) ∧
  (∀ (s : State), s.power = .attended → (∀ e ∈ s.sessions, e.2.st ≠ 2) → s.life.idleAt + 600000000000 ≤ ageNs s →
    ∃ u, exec .attendedIdleTimeout s = .next u ∧ u.power = .standby ∧ u.life.retention = true) ∧
  (∀ (bad : List Nat) (evals : List BankEval) (s : State), s.power = .starting →
    (2 ≤ s.life.step → s.life.step < 8 → (s.life.step = 3 → bricksIn s ≠ 0) →
      ∃ u, exec (.powerOnStepDone bad evals) s = .next u ∧ u.power = .starting ∧ u.life.step = s.life.step + 1) ∧
    (s.life.step = 8 → ∃ u, exec (.powerOnStepDone bad evals) s = .next u ∧ u.power = .ready ∧ u.life.step = 0)) ∧
  (∀ (bad : List Nat) (evals : List BankEval) (s : State), s.power = .starting → s.life.startAt + powerOnBound s ≤ ageNs s →
    ∃ v, exec (.powerOnStepOverrun bad evals) s = .next (stepDone v bad evals) ∧ v.power = .starting ∧ v.life.overran = true ∧
      v.life.step = s.life.step ∧ v.parts = s.parts) ∧
  (∀ (s : State), s.power = .stopping → pastLimit s = true →
    ∃ u, exec .stopLimitExpire s = .next u ∧ u = stopLimit s ∧ u.power = .stopping) ∧
  (∀ (s : State), s.power = .stopping → s.life.stop = 1 → stepsDrained s = true →
    ∃ u, exec .stopStepsDrained s = .next u ∧ u.power = .stopping ∧ u.life.saving = toSave (returnWaits s) ∧
      u.life.stop = if (toSave (returnWaits s)).isEmpty then 3 else 2) ∧
  (∀ (p : Nat) (t : List Nat) (s : State), p < 16 → s.power = .stopping → s.life.stop = 2 → s.life.saving = p :: t →
    ∃ u, exec (.preservationDone p) s = .next u ∧ u.life.saving = t ∧ u.life.stop = (if t.isEmpty then 3 else 2) ∧
      (savedBytes (saveOf s p) / 8 ≤ objD 60 s 0x5030 2 * 1000000000 → areaUsed s + savedBytes (saveOf s p) ≤ 4000000000000 →
        (part u p).saved = some (saveOf s p)) ∧ ∀ k, k ≠ p → part u k = part s k) ∧
  (∀ (s : State), s.power = .stopping → s.life.stop = 3 → recordsAcked s = true ∨ s.life.recAt + 1000000000 ≤ ageNs s → programsRun s = false →
    ∃ u, exec .stopRecordsDone s = .next u ∧ u.hbm = [] ∧ u.sp = [] ∧
      u.power = if s.life.stopTo = 1 then .standby else if s.life.stopTo = 2 then .attended else .recovery) ∧
  (∀ (s : State), waferOn s = true → (feed s 0).usable = false → (feed s 1).usable = false →
    ∃ u, exec .powerLoss s = .next u ∧ u.power = .standby ∧ u.sessions = [] ∧ u.hbm = [] ∧ u.sp = [] ∧ u.acc = [] ∧ u.seqs = [] ∧ u.sync = [] ∧
      u.kennel.gathering = [] ∧ u.life.loss = true ∧ u.life.stampDue = true) ∧
  (∀ (commits mv : Nat) (s : State), s.life.stampDue = true → s.power = .standby →
    (mv < 44000 → exec (.shutdownStamp commits mv) s = .next { s with life := { s.life with commits := commits } }) ∧
    (44000 ≤ mv → ∃ u r, exec (.shutdownStamp commits mv) s = .next u ∧ u.kennel.gathering = [] ∧ u.life.stampDue = false ∧
      u.kennel.ring = r :: (s.kennel.gathering ++ s.kennel.ring) ∧ r.typ = 11 ∧ r.detail = commits)) ∧
  (∀ (s : State), waferOn s = false → (feed s 0).usable = false → (feed s 1).usable = false →
    ∃ u, exec .busDepleted s = .next u ∧ u.power = .off ∧ u.sessions = [] ∧ u.life.retention = false ∧ u.banks = s.banks ∧ u.dict = s.dict) ∧
  (∀ (c : Nat) (s : State), c < 2 →
    ((card s c).st < 4 → ∃ u, exec (.cardFault c) s = .next u ∧ (card u c).st = 5 ∧
      ((card s c).st = 0 → (card s (1 - c)).st = 1 → (card u (1 - c)).st = 0) ∧ ((card s c).st ≠ 0 → card u (1 - c) = card s (1 - c))) ∧
    ((card s c).st < 4 → (card s c).dead = false → s.power = .attended ∨ s.power = .starting →
      ((card s c).fails < 2 → ∃ u, exec (.cardBootFail c) s = .next u ∧ card u c = { card s c with fails := (card s c).fails + 1 }) ∧
      (2 ≤ (card s c).fails → (card s c).other = false →
        ∃ u, exec (.cardBootFail c) s = .next u ∧ card u c = { card s c with fails := 0, other := true }) ∧
      (2 ≤ (card s c).fails → (card s c).other = true → ∃ u, exec (.cardBootFail c) s = .next u ∧ (card u c).dead = true ∧ (card u c).st = 5)) ∧
    ((card s c).st = 4 → ∃ u, exec (.cardInsert c) s = .next u ∧ card u c = { st := 2, mirror := 0 } ∧ card u (1 - c) = card s (1 - c)) ∧
    ((card s c).st = 2 → ∃ u, exec (.cardSyncDone c) s = .next u ∧ (card u c).st = (if (card s (1 - c)).st = 0 then 1 else 0) ∧
      (card u c).mirror = 100 ∧ card u (1 - c) = card s (1 - c)) ∧
    ((card s c).st ≠ 4 → ∃ u, exec (.cardRemove c) s = .next u ∧ (card u c).st = 4)) ∧
  (∀ (s : State), s.power = .recovery → noneBoots s = false → ∃ u, exec .recoveryRelease s = .next u ∧ u.power = .standby) ∧
  (∀ (c : Nat) (tms tdi trst : Bool) (s : State), c < 2 →
    (tapLive s c = true → trst = false → ∃ u, exec (.testAccessPortClock c tms tdi trst) s = .next u ∧ (card u c).tap = tapNext (card s c).tap tms ∧
      card u (1 - c) = card s (1 - c)) ∧
    (tapLive s c = false ∨ trst = true → ∃ u, exec (.testAccessPortClock c tms tdi trst) s = .next u ∧
      card u c = { card s c with tap := 0, ir := tapIdcode })) ∧
  (∀ (s : State), s.power = .off → exec .rtcStoreExhausted s = .next { s with rtcValid := false }) ∧
  (∀ (carrier : List Int) (l : List (Option Int)) (s : State), s.power ≠ .off →
    ∃ v, exec (.sheepdogSample carrier l) s = .next (gateWatch v) ∧ v.power = s.power ∧
      ∀ d, d < 24 → v.life.carrier.getD d [] = keepFive (s.life.carrier.getD d []) (carrier.getD d 0))
end

