-- ==== Sys2Proof/Laws/Memory.lean ====
section
/-! SUPPORT. Sparse tables and memories: a read after a write, and the canonical form that every operation keeps. -/
namespace Sys2Proof.Machine

/-! ### Reads after writes -/

section
variable {α : Type} {d : α} {m : FMap α} {k j lo : Nat} {v : α}

@[simp] theorem FMap.get_nil : FMap.get d ([] : FMap α) k = d := rfl

theorem FMap.get_cons {e : Nat × α} : FMap.get d (e :: m) k = if k = e.1 then e.2 else FMap.get d m k := rfl

/-- A table reads its default below its keys. -/
theorem FMap.get_below (h : FMap.risingFrom lo m = true) (hk : k < lo) : FMap.get d m k = d := by
  induction m generalizing lo with
  | nil => rfl
  | cons e t ih =>
    simp only [FMap.risingFrom, Bool.and_eq_true, decide_eq_true_eq] at h
    rw [FMap.get_cons, if_neg (by omega)]
    exact ih h.2 (by omega)

@[simp] theorem FMap.get_set_same : FMap.get d (FMap.set m k v) k = v := by
  induction m with
  | nil => simp [FMap.set, FMap.get]
  | cons e t ih =>
    simp only [FMap.set]
    split
    · simp [FMap.get]
    · split
      · simp [FMap.get]
      · rw [FMap.get_cons, if_neg (by omega)]
        exact ih

theorem FMap.get_set_other (h : j ≠ k) : FMap.get d (FMap.set m k v) j = FMap.get d m j := by
  induction m with
  | nil => simp [FMap.set, FMap.get, h]
  | cons e t ih =>
    simp only [FMap.set]
    split
    · simp [FMap.get, h]
    · split
      · rename_i e1
        rw [FMap.get_cons, FMap.get_cons, if_neg h, if_neg (e1 ▸ h)]
      · rw [FMap.get_cons, FMap.get_cons, ih]

theorem FMap.get_set : FMap.get d (FMap.set m k v) j = if j = k then v else FMap.get d m j := by
  split
  · next h => rw [h, FMap.get_set_same]
  · next h => exact FMap.get_set_other h

@[simp] theorem FMap.get_del_same : FMap.get d (FMap.del m k) k = d := by
  induction m with
  | nil => rfl
  | cons e t ih =>
    simp only [FMap.del]
    split
    · exact ih
    · next h => rw [FMap.get_cons, if_neg h, ih]

theorem FMap.get_del_other (h : j ≠ k) : FMap.get d (FMap.del m k) j = FMap.get d m j := by
  induction m with
  | nil => rfl
  | cons e t ih =>
    simp only [FMap.del]
    split
    · next g => rw [FMap.get_cons, if_neg (g ▸ h), ih]
    · rw [FMap.get_cons, FMap.get_cons, ih]

theorem FMap.get_put [DecidableEq α] : FMap.get d (FMap.put d m k v) j = if j = k then v else FMap.get d m j := by
  unfold FMap.put
  split
  · next h =>
    split
    · next g => rw [g, FMap.get_del_same, h]
    · next g => exact FMap.get_del_other g
  · exact FMap.get_set

/-! ### The canonical form -/

theorem FMap.rising_weaken (h : FMap.risingFrom lo m = true) (w : j ≤ lo) : FMap.risingFrom j m = true := by
  cases m with
  | nil => rfl
  | cons e t =>
    simp only [FMap.risingFrom, Bool.and_eq_true, decide_eq_true_eq] at h ⊢
    exact ⟨by omega, h.2⟩

theorem FMap.rising_set (h : FMap.risingFrom lo m = true) (w : lo ≤ k) : FMap.risingFrom lo (FMap.set m k v) = true := by
  induction m generalizing lo with
  | nil => simp [FMap.set, FMap.risingFrom, w]
  | cons e t ih =>
    simp only [FMap.risingFrom, Bool.and_eq_true, decide_eq_true_eq] at h
    simp only [FMap.set]
    split
    · simp only [FMap.risingFrom, Bool.and_eq_true, decide_eq_true_eq]
      exact ⟨w, by omega, h.2⟩
    · split
      · next g => subst g; simp only [FMap.risingFrom, Bool.and_eq_true, decide_eq_true_eq]; exact ⟨w, h.2⟩
      · simp only [FMap.risingFrom, Bool.and_eq_true, decide_eq_true_eq]
        exact ⟨h.1, ih h.2 (by omega)⟩

theorem FMap.rising_filter {p : Nat × α → Bool} (h : FMap.risingFrom lo m = true) : FMap.risingFrom lo (m.filter p) = true := by
  induction m generalizing lo with
  | nil => rfl
  | cons e t ih =>
    simp only [FMap.risingFrom, Bool.and_eq_true, decide_eq_true_eq] at h
    rw [List.filter_cons]
    split
    · simp only [FMap.risingFrom, Bool.and_eq_true, decide_eq_true_eq]
      exact ⟨h.1, ih h.2⟩
    · exact FMap.rising_weaken (ih h.2) (by omega)

theorem FMap.del_eq_filter : FMap.del m k = m.filter fun e => !decide (k = e.1) := by
  induction m with
  | nil => rfl
  | cons e t ih =>
    simp only [FMap.del, List.filter_cons, ih]
    split <;> simp_all

theorem FMap.mem_set {e : Nat × α} (h : e ∈ FMap.set m k v) : e = (k, v) ∨ e ∈ m := by
  induction m with
  | nil => simpa [FMap.set] using h
  | cons x t ih =>
    simp only [FMap.set] at h
    split at h
    · simpa using h
    · split at h
      · rcases List.mem_cons.mp h with h | h
        · exact Or.inl h
        · exact Or.inr (List.mem_cons_of_mem _ h)
      · rcases List.mem_cons.mp h with h | h
        · exact Or.inr (h ▸ List.mem_cons_self ..)
        · exact (ih h).imp id (List.mem_cons_of_mem _)

theorem FMap.length_set : (FMap.set m k v).length ≤ m.length + 1 := by
  induction m with
  | nil => simp [FMap.set]
  | cons x t ih =>
    simp only [FMap.set]
    split
    · simp
    · split
      · simp
      · simpa using ih

variable [DecidableEq α]

theorem FMap.wf_iff : FMap.wf d m = true ↔ FMap.risingFrom 0 m = true ∧ ∀ e ∈ m, e.2 ≠ d := by
  simp [FMap.wf, List.all_eq_true]

theorem FMap.wf_nil : FMap.wf d ([] : FMap α) = true := rfl

theorem FMap.wf_filter {p : Nat × α → Bool} (h : FMap.wf d m = true) : FMap.wf d (m.filter p) = true := by
  rw [FMap.wf_iff] at h ⊢
  exact ⟨FMap.rising_filter h.1, fun e he => h.2 e (List.mem_filter.mp he).1⟩

/-- Writing through `put` keeps the canonical form. -/
theorem FMap.wf_put (h : FMap.wf d m = true) : FMap.wf d (FMap.put d m k v) = true := by
  unfold FMap.put
  split
  · rw [FMap.del_eq_filter]
    exact FMap.wf_filter h
  · next hv =>
    rw [FMap.wf_iff] at h ⊢
    refine ⟨FMap.rising_set h.1 (Nat.zero_le k), fun e he => ?_⟩
    rcases FMap.mem_set he with g | g
    · rw [g]
      exact hv
    · exact h.2 e g

omit [DecidableEq α] in
/-- Two tables in canonical form that read alike are one table. -/
theorem FMap.ext_rising {n : FMap α} (h : FMap.risingFrom lo m = true) (g : FMap.risingFrom lo n = true) (hm : ∀ e ∈ m, e.2 ≠ d)
    (hn : ∀ e ∈ n, e.2 ≠ d) (r : ∀ k, FMap.get d m k = FMap.get d n k) : m = n := by
  induction m generalizing lo n with
  | nil =>
    cases n with
    | nil => rfl
    | cons y u =>
      have := r y.1
      simp only [FMap.get_nil, FMap.get_cons, if_pos] at this
      exact absurd this.symm (hn y (List.mem_cons_self ..))
  | cons x t ih =>
    cases n with
    | nil =>
      have := r x.1
      simp only [FMap.get_nil, FMap.get_cons, if_pos] at this
      exact absurd this (hm x (List.mem_cons_self ..))
    | cons y u =>
      simp only [FMap.risingFrom, Bool.and_eq_true, decide_eq_true_eq] at h g
      have key : x.1 = y.1 := by
        rcases Nat.lt_trichotomy x.1 y.1 with w | w | w
        · have := r x.1
          rw [FMap.get_cons, if_pos rfl, FMap.get_cons, if_neg (by omega), FMap.get_below g.2 (by omega)] at this
          exact absurd this (hm x (List.mem_cons_self ..))
        · exact w
        · have := r y.1
          rw [FMap.get_cons, if_neg (by omega), FMap.get_below h.2 (by omega), FMap.get_cons, if_pos rfl] at this
          exact absurd this.symm (hn y (List.mem_cons_self ..))
      have val : x.2 = y.2 := by
        have := r x.1
        rwa [FMap.get_cons, if_pos rfl, FMap.get_cons, if_pos key] at this
      have rest : t = u := by
        refine ih h.2 (key ▸ g.2) (fun e he => hm e (List.mem_cons_of_mem _ he)) (fun e he => hn e (List.mem_cons_of_mem _ he)) fun k => ?_
        by_cases w : k = x.1
        · rw [w, FMap.get_below h.2 (by omega), FMap.get_below g.2 (by omega)]
        · have := r k
          rwa [FMap.get_cons, if_neg w, FMap.get_cons, if_neg (key ▸ w)] at this
      rw [rest, Prod.ext key val]

theorem FMap.ext_wf {n : FMap α} (h : FMap.wf d m = true) (g : FMap.wf d n = true) (r : ∀ k, FMap.get d m k = FMap.get d n k) : m = n := by
  rw [FMap.wf_iff] at h g
  exact FMap.ext_rising h.1 g.1 h.2 g.2 r

end

/-! ### Memories -/

variable {m : Memory} {a b : Nat} {x : Byte} {l : List Byte} {n : Nat}

/-- A byte reads as it was last written, and a write leaves every other byte alone. -/
theorem Memory.read_write : Memory.read (Memory.write m a x) b = if b = a then x else Memory.read m b := FMap.get_put

theorem Memory.wf_write (h : Memory.wf m = true) : Memory.wf (Memory.write m a x) = true := FMap.wf_put h

theorem Memory.wf_writeN (h : Memory.wf m = true) : Memory.wf (Memory.writeN m a l) = true := by
  induction l generalizing m a with
  | nil => exact h
  | cons y t ih => exact ih (Memory.wf_write h)

theorem Memory.wf_filter {p : Host.Cell → Bool} (h : Memory.wf m = true) : Memory.wf (m.filter p) = true := FMap.wf_filter h

theorem Memory.read_writeN : Memory.read (Memory.writeN m a l) b = if a ≤ b ∧ b < a + l.length then l.getD (b - a) 0 else Memory.read m b := by
  induction l generalizing m a with
  | nil =>
    rw [if_neg (by simp only [List.length_nil]; omega)]
    rfl
  | cons y t ih =>
    show Memory.read (Memory.writeN (Memory.write m a y) (a + 1) t) b = _
    rw [ih, Memory.read_write]
    by_cases h : b = a
    · subst h
      rw [if_neg (by omega), if_pos rfl, if_pos (by simp only [List.length_cons]; omega)]
      simp
    · by_cases g : a + 1 ≤ b ∧ b < a + 1 + t.length
      · rw [if_pos g, if_pos (by simp only [List.length_cons]; omega)]
        have : b - a = (b - (a + 1)) + 1 := by omega
        rw [this, List.getD_cons_succ]
      · rw [if_neg g, if_neg h, if_neg (by simp only [List.length_cons]; omega)]

theorem Memory.length_readN : (Memory.readN m a n).length = n := by
  induction n generalizing a with
  | zero => rfl
  | succ n ih => simp [Memory.readN, ih]

theorem Memory.getElem_readN {i : Nat} (h : i < n) : (Memory.readN m a n).getD i 0 = Memory.read m (a + i) := by
  induction n generalizing a i with
  | zero => omega
  | succ n ih =>
    cases i with
    | zero => simp [Memory.readN]
    | succ i =>
      rw [Memory.readN, List.getD_cons_succ, ih (by omega)]
      congr 1
      omega

/-- Bytes that were written read back. -/
theorem Memory.readN_writeN : Memory.readN (Memory.writeN m a l) a l.length = l := by
  refine List.ext_getElem? fun i => ?_
  have e : ∀ (u v : List Byte), u.length = v.length → u.getD i 0 = v.getD i 0 → u[i]? = v[i]? := by
    intro u v h g
    by_cases w : i < u.length
    · rw [List.getD_eq_getElem?_getD, List.getD_eq_getElem?_getD, List.getElem?_eq_getElem w, List.getElem?_eq_getElem (h ▸ w)] at g
      rw [List.getElem?_eq_getElem w, List.getElem?_eq_getElem (h ▸ w)]
      simpa using g
    · rw [List.getElem?_eq_none (by omega), List.getElem?_eq_none (by omega)]
  refine e _ _ Memory.length_readN ?_
  by_cases w : i < l.length
  · rw [Memory.getElem_readN w, Memory.read_writeN, if_pos (by omega)]
    congr 1
    omega
  · rw [List.getD_eq_getElem?_getD, List.getD_eq_getElem?_getD, List.getElem?_eq_none (by simp [Memory.length_readN]; omega),
      List.getElem?_eq_none (by omega)]

/-- Bytes that a write does not reach read as before. -/
theorem Memory.readN_writeN_apart (h : b + n ≤ a ∨ a + l.length ≤ b) : Memory.readN (Memory.writeN m a l) b n = Memory.readN m b n := by
  induction n generalizing b with
  | zero => rfl
  | succ n ih =>
    rw [Memory.readN, Memory.readN, Memory.read_writeN, if_neg (by omega)]
    by_cases w : n = 0
    · subst w
      rfl
    · rw [ih (by omega)]

end Sys2Proof.Machine
end

