-- ==== Sys2Proof/Laws/Only.lean ====
section
/-! SUPPORT. What an operation on State can change, as one relation. Bit `i` of a mask stands for field `i` of State, in the order of its
declaration; `Only m s t` says that `t` differs from `s` at most in the fields that the mask `m` names. -/
namespace Sys2Proof.Machine

/-- `t` agrees with `s` in every field of State whose bit of the mask is 0. -/
structure Only (m : Nat) (s t : State) : Prop where
  pending : m.testBit 0 = false → t.pending = s.pending
  refTicks : m.testBit 1 = false → t.refTicks = s.refTicks
  onTick : m.testBit 2 = false → t.onTick = s.onTick
  powerOns : m.testBit 3 = false → t.powerOns = s.powerOns
  power : m.testBit 4 = false → t.power = s.power
  dict : m.testBit 5 = false → t.dict = s.dict
  pend : m.testBit 6 = false → t.pend = s.pend
  attn : m.testBit 7 = false → t.attn = s.attn
  events : m.testBit 8 = false → t.events = s.events
  modeRec : m.testBit 9 = false → t.modeRec = s.modeRec
  parts : m.testBit 10 = false → t.parts = s.parts
  queues : m.testBit 11 = false → t.queues = s.queues
  cancelWait : m.testBit 12 = false → t.cancelWait = s.cancelWait
  arb : m.testBit 13 = false → t.arb = s.arb
  replyQ : m.testBit 14 = false → t.replyQ = s.replyQ
  debugQ : m.testBit 15 = false → t.debugQ = s.debugQ
  sync : m.testBit 16 = false → t.sync = s.sync
  seqs : m.testBit 17 = false → t.seqs = s.seqs
  kvSets : m.testBit 18 = false → t.kvSets = s.kvSets
  ringTags : m.testBit 19 = false → t.ringTags = s.ringTags
  fills : m.testBit 20 = false → t.fills = s.fills
  banks : m.testBit 21 = false → t.banks = s.banks
  bankMap : m.testBit 22 = false → t.bankMap = s.bankMap
  latch : m.testBit 23 = false → t.latch = s.latch
  sp : m.testBit 24 = false → t.sp = s.sp
  spErr : m.testBit 25 = false → t.spErr = s.spErr
  nonfinVec : m.testBit 26 = false → t.nonfinVec = s.nonfinVec
  acc : m.testBit 27 = false → t.acc = s.acc
  accTag : m.testBit 28 = false → t.accTag = s.accTag
  accPend : m.testBit 29 = false → t.accPend = s.accPend
  accErr : m.testBit 30 = false → t.accErr = s.accErr
  hbm : m.testBit 31 = false → t.hbm = s.hbm
  hbmErr : m.testBit 32 = false → t.hbmErr = s.hbmErr
  tiles : m.testBit 33 = false → t.tiles = s.tiles
  vpgmWait : m.testBit 34 = false → t.vpgmWait = s.vpgmWait
  vpgmLost : m.testBit 35 = false → t.vpgmLost = s.vpgmLost
  pwrBase : m.testBit 36 = false → t.pwrBase = s.pwrBase
  pwrSince : m.testBit 37 = false → t.pwrSince = s.pwrSince
  checkCount : m.testBit 38 = false → t.checkCount = s.checkCount
  capLatch : m.testBit 39 = false → t.capLatch = s.capLatch
  scrubAt : m.testBit 40 = false → t.scrubAt = s.scrubAt
  captures : m.testBit 41 = false → t.captures = s.captures
  capNo : m.testBit 42 = false → t.capNo = s.capNo
  verdicts : m.testBit 43 = false → t.verdicts = s.verdicts
  flights : m.testBit 44 = false → t.flights = s.flights
  rflights : m.testBit 45 = false → t.rflights = s.rflights
  rslots : m.testBit 46 = false → t.rslots = s.rslots
  hot : m.testBit 47 = false → t.hot = s.hot
  heatOff : m.testBit 48 = false → t.heatOff = s.heatOff
  blockSt : m.testBit 49 = false → t.blockSt = s.blockSt
  feeds : m.testBit 50 = false → t.feeds = s.feeds
  bricks : m.testBit 51 = false → t.bricks = s.bricks
  blocks : m.testBit 52 = false → t.blocks = s.blocks
  lostAt : m.testBit 53 = false → t.lostAt = s.lostAt
  tieLost : m.testBit 54 = false → t.tieLost = s.tieLost
  spots : m.testBit 55 = false → t.spots = s.spots
  stackSt : m.testBit 56 = false → t.stackSt = s.stackSt
  coolant : m.testBit 57 = false → t.coolant = s.coolant
  leaks : m.testBit 58 = false → t.leaks = s.leaks
  gov : m.testBit 59 = false → t.gov = s.gov
  refDown : m.testBit 60 = false → t.refDown = s.refDown
  coldRaised : m.testBit 61 = false → t.coldRaised = s.coldRaised
  ldDown : m.testBit 62 = false → t.ldDown = s.ldDown
  retries : m.testBit 63 = false → t.retries = s.retries
  ftests : m.testBit 64 = false → t.ftests = s.ftests
  ftLight : m.testBit 65 = false → t.ftLight = s.ftLight
  ftFull : m.testBit 66 = false → t.ftFull = s.ftFull
  ftLast : m.testBit 67 = false → t.ftLast = s.ftLast
  life : m.testBit 68 = false → t.life = s.life
  cards : m.testBit 69 = false → t.cards = s.cards
  fw : m.testBit 70 = false → t.fw = s.fw
  kennel : m.testBit 71 = false → t.kennel = s.kennel
  rtcValid : m.testBit 72 = false → t.rtcValid = s.rtcValid
  rtcSet : m.testBit 73 = false → t.rtcSet = s.rtcSet
  rtcTick : m.testBit 74 = false → t.rtcTick = s.rtcTick
  images : m.testBit 75 = false → t.images = s.images
  uploads : m.testBit 76 = false → t.uploads = s.uploads
  staged : m.testBit 77 = false → t.staged = s.staged
  jobs : m.testBit 78 = false → t.jobs = s.jobs
  sessions : m.testBit 79 = false → t.sessions = s.sessions
  closed : m.testBit 80 = false → t.closed = s.closed
  rx : m.testBit 81 = false → t.rx = s.rx
  ports : m.testBit 82 = false → t.ports = s.ports
  windows : m.testBit 83 = false → t.windows = s.windows
  inWrites : m.testBit 84 = false → t.inWrites = s.inWrites
  outWrites : m.testBit 85 = false → t.outWrites = s.outWrites
  nextTag : m.testBit 86 = false → t.nextTag = s.nextTag
  exports : m.testBit 87 = false → t.exports = s.exports
  announced : m.testBit 88 = false → t.announced = s.announced
  groups : m.testBit 89 = false → t.groups = s.groups
  replyNo : m.testBit 90 = false → t.replyNo = s.replyNo
  out : m.testBit 91 = false → t.out = s.out

theorem Only.refl (m : Nat) (s : State) : Only m s s := by constructor <;> exact fun _ => rfl

theorem testBit_of_within {a m i : Nat} (h : a &&& m = a) (e : m.testBit i = false) : a.testBit i = false := by
  have := congrArg (fun x => Nat.testBit x i) h
  simpa [Nat.testBit_and, e] using this.symm

/-- Two changes one after the other; the second stays within the mask of both. -/
theorem Only.step {a m : Nat} {s t u : State} (h : Only a t u) (w : a &&& m = a) (g : Only m s t) : Only m s u where
  pending e := (h.pending (testBit_of_within w e)).trans (g.pending e)
  refTicks e := (h.refTicks (testBit_of_within w e)).trans (g.refTicks e)
  onTick e := (h.onTick (testBit_of_within w e)).trans (g.onTick e)
  powerOns e := (h.powerOns (testBit_of_within w e)).trans (g.powerOns e)
  power e := (h.power (testBit_of_within w e)).trans (g.power e)
  dict e := (h.dict (testBit_of_within w e)).trans (g.dict e)
  pend e := (h.pend (testBit_of_within w e)).trans (g.pend e)
  attn e := (h.attn (testBit_of_within w e)).trans (g.attn e)
  events e := (h.events (testBit_of_within w e)).trans (g.events e)
  modeRec e := (h.modeRec (testBit_of_within w e)).trans (g.modeRec e)
  parts e := (h.parts (testBit_of_within w e)).trans (g.parts e)
  queues e := (h.queues (testBit_of_within w e)).trans (g.queues e)
  cancelWait e := (h.cancelWait (testBit_of_within w e)).trans (g.cancelWait e)
  arb e := (h.arb (testBit_of_within w e)).trans (g.arb e)
  replyQ e := (h.replyQ (testBit_of_within w e)).trans (g.replyQ e)
  debugQ e := (h.debugQ (testBit_of_within w e)).trans (g.debugQ e)
  sync e := (h.sync (testBit_of_within w e)).trans (g.sync e)
  seqs e := (h.seqs (testBit_of_within w e)).trans (g.seqs e)
  kvSets e := (h.kvSets (testBit_of_within w e)).trans (g.kvSets e)
  ringTags e := (h.ringTags (testBit_of_within w e)).trans (g.ringTags e)
  fills e := (h.fills (testBit_of_within w e)).trans (g.fills e)
  banks e := (h.banks (testBit_of_within w e)).trans (g.banks e)
  bankMap e := (h.bankMap (testBit_of_within w e)).trans (g.bankMap e)
  latch e := (h.latch (testBit_of_within w e)).trans (g.latch e)
  sp e := (h.sp (testBit_of_within w e)).trans (g.sp e)
  spErr e := (h.spErr (testBit_of_within w e)).trans (g.spErr e)
  nonfinVec e := (h.nonfinVec (testBit_of_within w e)).trans (g.nonfinVec e)
  acc e := (h.acc (testBit_of_within w e)).trans (g.acc e)
  accTag e := (h.accTag (testBit_of_within w e)).trans (g.accTag e)
  accPend e := (h.accPend (testBit_of_within w e)).trans (g.accPend e)
  accErr e := (h.accErr (testBit_of_within w e)).trans (g.accErr e)
  hbm e := (h.hbm (testBit_of_within w e)).trans (g.hbm e)
  hbmErr e := (h.hbmErr (testBit_of_within w e)).trans (g.hbmErr e)
  tiles e := (h.tiles (testBit_of_within w e)).trans (g.tiles e)
  vpgmWait e := (h.vpgmWait (testBit_of_within w e)).trans (g.vpgmWait e)
  vpgmLost e := (h.vpgmLost (testBit_of_within w e)).trans (g.vpgmLost e)
  pwrBase e := (h.pwrBase (testBit_of_within w e)).trans (g.pwrBase e)
  pwrSince e := (h.pwrSince (testBit_of_within w e)).trans (g.pwrSince e)
  checkCount e := (h.checkCount (testBit_of_within w e)).trans (g.checkCount e)
  capLatch e := (h.capLatch (testBit_of_within w e)).trans (g.capLatch e)
  scrubAt e := (h.scrubAt (testBit_of_within w e)).trans (g.scrubAt e)
  captures e := (h.captures (testBit_of_within w e)).trans (g.captures e)
  capNo e := (h.capNo (testBit_of_within w e)).trans (g.capNo e)
  verdicts e := (h.verdicts (testBit_of_within w e)).trans (g.verdicts e)
  flights e := (h.flights (testBit_of_within w e)).trans (g.flights e)
  rflights e := (h.rflights (testBit_of_within w e)).trans (g.rflights e)
  rslots e := (h.rslots (testBit_of_within w e)).trans (g.rslots e)
  hot e := (h.hot (testBit_of_within w e)).trans (g.hot e)
  heatOff e := (h.heatOff (testBit_of_within w e)).trans (g.heatOff e)
  blockSt e := (h.blockSt (testBit_of_within w e)).trans (g.blockSt e)
  feeds e := (h.feeds (testBit_of_within w e)).trans (g.feeds e)
  bricks e := (h.bricks (testBit_of_within w e)).trans (g.bricks e)
  blocks e := (h.blocks (testBit_of_within w e)).trans (g.blocks e)
  lostAt e := (h.lostAt (testBit_of_within w e)).trans (g.lostAt e)
  tieLost e := (h.tieLost (testBit_of_within w e)).trans (g.tieLost e)
  spots e := (h.spots (testBit_of_within w e)).trans (g.spots e)
  stackSt e := (h.stackSt (testBit_of_within w e)).trans (g.stackSt e)
  coolant e := (h.coolant (testBit_of_within w e)).trans (g.coolant e)
  leaks e := (h.leaks (testBit_of_within w e)).trans (g.leaks e)
  gov e := (h.gov (testBit_of_within w e)).trans (g.gov e)
  refDown e := (h.refDown (testBit_of_within w e)).trans (g.refDown e)
  coldRaised e := (h.coldRaised (testBit_of_within w e)).trans (g.coldRaised e)
  ldDown e := (h.ldDown (testBit_of_within w e)).trans (g.ldDown e)
  retries e := (h.retries (testBit_of_within w e)).trans (g.retries e)
  ftests e := (h.ftests (testBit_of_within w e)).trans (g.ftests e)
  ftLight e := (h.ftLight (testBit_of_within w e)).trans (g.ftLight e)
  ftFull e := (h.ftFull (testBit_of_within w e)).trans (g.ftFull e)
  ftLast e := (h.ftLast (testBit_of_within w e)).trans (g.ftLast e)
  life e := (h.life (testBit_of_within w e)).trans (g.life e)
  cards e := (h.cards (testBit_of_within w e)).trans (g.cards e)
  fw e := (h.fw (testBit_of_within w e)).trans (g.fw e)
  kennel e := (h.kennel (testBit_of_within w e)).trans (g.kennel e)
  rtcValid e := (h.rtcValid (testBit_of_within w e)).trans (g.rtcValid e)
  rtcSet e := (h.rtcSet (testBit_of_within w e)).trans (g.rtcSet e)
  rtcTick e := (h.rtcTick (testBit_of_within w e)).trans (g.rtcTick e)
  images e := (h.images (testBit_of_within w e)).trans (g.images e)
  uploads e := (h.uploads (testBit_of_within w e)).trans (g.uploads e)
  staged e := (h.staged (testBit_of_within w e)).trans (g.staged e)
  jobs e := (h.jobs (testBit_of_within w e)).trans (g.jobs e)
  sessions e := (h.sessions (testBit_of_within w e)).trans (g.sessions e)
  closed e := (h.closed (testBit_of_within w e)).trans (g.closed e)
  rx e := (h.rx (testBit_of_within w e)).trans (g.rx e)
  ports e := (h.ports (testBit_of_within w e)).trans (g.ports e)
  windows e := (h.windows (testBit_of_within w e)).trans (g.windows e)
  inWrites e := (h.inWrites (testBit_of_within w e)).trans (g.inWrites e)
  outWrites e := (h.outWrites (testBit_of_within w e)).trans (g.outWrites e)
  nextTag e := (h.nextTag (testBit_of_within w e)).trans (g.nextTag e)
  exports e := (h.exports (testBit_of_within w e)).trans (g.exports e)
  announced e := (h.announced (testBit_of_within w e)).trans (g.announced e)
  groups e := (h.groups (testBit_of_within w e)).trans (g.groups e)
  replyNo e := (h.replyNo (testBit_of_within w e)).trans (g.replyNo e)
  out e := (h.out (testBit_of_within w e)).trans (g.out e)

/-- A larger mask says less. -/
theorem Only.mono {a m : Nat} {s t : State} (h : Only a s t) (w : a &&& m = a) : Only m s t := h.step w (Only.refl m s)

theorem Only.foldl {α : Type} {m : Nat} {s i : State} {f : State → α → State} {l : List α} (hf : ∀ t x, Only m s t → Only m s (f t x))
    (hi : Only m s i) : Only m s (l.foldl f i) := by
  induction l generalizing i with
  | nil => exact hi
  | cons x r ih => exact ih (hf i x hi)

theorem Only.foldl_by {α β : Type} {m : Nat} {s : State} {g : β → State} {f : β → α → β} {l : List α} {i : β}
    (hf : ∀ a x, Only m s (g a) → Only m s (g (f a x))) (hi : Only m s (g i)) : Only m s (g (l.foldl f i)) := by
  induction l generalizing i with
  | nil => exact hi
  | cons x r ih => exact ih (hf i x hi)

theorem Only.getD {m : Nat} {s0 s : State} {x : Option State} (hf : ∀ t, x = some t → Only m s0 t) (h : Only m s0 s) : Only m s0 (x.getD s) := by
  cases x with
  | none => exact h
  | some t => exact hf t rfl

theorem Only.ite {m : Nat} {s t u : State} {c : Prop} [Decidable c] (ht : Only m s t) (hu : Only m s u) : Only m s (if c then t else u) := by
  split <;> assumption

/-- An outcome that is a next state differs from `s` at most in the mask's fields. -/
def OnlyO (m : Nat) (s : State) (o : Host.Outcome State Fault Refusal) : Prop := ∀ t, o = .next t → Only m s t

theorem OnlyO.next {m : Nat} {s t : State} (h : Only m s t) : OnlyO m s (.next t) := by
  intro u e
  cases e
  exact h

theorem OnlyO.fault (m : Nat) (s : State) (r : Fault) : OnlyO m s (.fault r) := by
  intro u e
  cases e

theorem OnlyO.step {a m : Nat} {s t : State} {o : Host.Outcome State Fault Refusal} (h : OnlyO a t o) (w : a &&& m = a) (g : Only m s t) :
    OnlyO m s o := fun u e => (h u e).step w g

theorem OnlyO.ite {m : Nat} {s : State} {c : Prop} [Decidable c] {o p : Host.Outcome State Fault Refusal} (ho : OnlyO m s o) (hp : OnlyO m s p) :
    OnlyO m s (if c then o else p) := by
  split <;> assumption

theorem Only.set_pending {m : Nat} {s t : State} (w0 : m.testBit 0 = true) (h : Only m s t) x0 :
    Only m s { t with pending := x0 } :=
  { h with pending := fun e => (nomatch w0.symm.trans e) }

theorem Only.set_refTicks_tiles {m : Nat} {s t : State} (w0 : m.testBit 1 = true) (w1 : m.testBit 33 = true) (h : Only m s t) x0 x1 :
    Only m s { t with refTicks := x0, tiles := x1 } :=
  { h with refTicks := fun e => (nomatch w0.symm.trans e), tiles := fun e => (nomatch w1.symm.trans e) }

theorem Only.set_onTick_power_dict_pend_attn_capNo_verdicts_gov_life_uploads_sessions_closed_rx_nextTag_replyNo {m : Nat} {s t : State} (w0 : m.testBit 2 = true) (w1 : m.testBit 4 = true) (w2 : m.testBit 5 = true) (w3 : m.testBit 6 = true) (w4 : m.testBit 7 = true) (w5 : m.testBit 42 = true) (w6 : m.testBit 43 = true) (w7 : m.testBit 59 = true) (w8 : m.testBit 68 = true) (w9 : m.testBit 76 = true) (w10 : m.testBit 79 = true) (w11 : m.testBit 80 = true) (w12 : m.testBit 81 = true) (w13 : m.testBit 86 = true) (w14 : m.testBit 90 = true) (h : Only m s t) x0 x1 x2 x3 x4 x5 x6 x7 x8 x9 x10 x11 x12 x13 x14 :
    Only m s { t with onTick := x0, power := x1, dict := x2, pend := x3, attn := x4, capNo := x5, verdicts := x6, gov := x7, life := x8, uploads := x9, sessions := x10, closed := x11, rx := x12, nextTag := x13, replyNo := x14 } :=
  { h with onTick := fun e => (nomatch w0.symm.trans e), power := fun e => (nomatch w1.symm.trans e), dict := fun e => (nomatch w2.symm.trans e), pend := fun e => (nomatch w3.symm.trans e), attn := fun e => (nomatch w4.symm.trans e), capNo := fun e => (nomatch w5.symm.trans e), verdicts := fun e => (nomatch w6.symm.trans e), gov := fun e => (nomatch w7.symm.trans e), life := fun e => (nomatch w8.symm.trans e), uploads := fun e => (nomatch w9.symm.trans e), sessions := fun e => (nomatch w10.symm.trans e), closed := fun e => (nomatch w11.symm.trans e), rx := fun e => (nomatch w12.symm.trans e), nextTag := fun e => (nomatch w13.symm.trans e), replyNo := fun e => (nomatch w14.symm.trans e) }

theorem Only.set_powerOns_power_life {m : Nat} {s t : State} (w0 : m.testBit 3 = true) (w1 : m.testBit 4 = true) (w2 : m.testBit 68 = true) (h : Only m s t) x0 x1 x2 :
    Only m s { t with powerOns := x0, power := x1, life := x2 } :=
  { h with powerOns := fun e => (nomatch w0.symm.trans e), power := fun e => (nomatch w1.symm.trans e), life := fun e => (nomatch w2.symm.trans e) }

theorem Only.set_power {m : Nat} {s t : State} (w0 : m.testBit 4 = true) (h : Only m s t) x0 :
    Only m s { t with power := x0 } :=
  { h with power := fun e => (nomatch w0.symm.trans e) }

theorem Only.set_power_coolant {m : Nat} {s t : State} (w0 : m.testBit 4 = true) (w1 : m.testBit 57 = true) (h : Only m s t) x0 x1 :
    Only m s { t with power := x0, coolant := x1 } :=
  { h with power := fun e => (nomatch w0.symm.trans e), coolant := fun e => (nomatch w1.symm.trans e) }

theorem Only.set_power_life {m : Nat} {s t : State} (w0 : m.testBit 4 = true) (w1 : m.testBit 68 = true) (h : Only m s t) x0 x1 :
    Only m s { t with power := x0, life := x1 } :=
  { h with power := fun e => (nomatch w0.symm.trans e), life := fun e => (nomatch w1.symm.trans e) }

theorem Only.set_power_life_kennel_sessions {m : Nat} {s t : State} (w0 : m.testBit 4 = true) (w1 : m.testBit 68 = true) (w2 : m.testBit 71 = true) (w3 : m.testBit 79 = true) (h : Only m s t) x0 x1 x2 x3 :
    Only m s { t with power := x0, life := x1, kennel := x2, sessions := x3 } :=
  { h with power := fun e => (nomatch w0.symm.trans e), life := fun e => (nomatch w1.symm.trans e), kennel := fun e => (nomatch w2.symm.trans e), sessions := fun e => (nomatch w3.symm.trans e) }

theorem Only.set_power_life_sessions {m : Nat} {s t : State} (w0 : m.testBit 4 = true) (w1 : m.testBit 68 = true) (w2 : m.testBit 79 = true) (h : Only m s t) x0 x1 x2 :
    Only m s { t with power := x0, life := x1, sessions := x2 } :=
  { h with power := fun e => (nomatch w0.symm.trans e), life := fun e => (nomatch w1.symm.trans e), sessions := fun e => (nomatch w2.symm.trans e) }

theorem Only.set_dict {m : Nat} {s t : State} (w0 : m.testBit 5 = true) (h : Only m s t) x0 :
    Only m s { t with dict := x0 } :=
  { h with dict := fun e => (nomatch w0.symm.trans e) }

theorem Only.set_dict_pend {m : Nat} {s t : State} (w0 : m.testBit 5 = true) (w1 : m.testBit 6 = true) (h : Only m s t) x0 x1 :
    Only m s { t with dict := x0, pend := x1 } :=
  { h with dict := fun e => (nomatch w0.symm.trans e), pend := fun e => (nomatch w1.symm.trans e) }

theorem Only.set_dict_blockSt_blocks_tieLost {m : Nat} {s t : State} (w0 : m.testBit 5 = true) (w1 : m.testBit 49 = true) (w2 : m.testBit 52 = true) (w3 : m.testBit 54 = true) (h : Only m s t) x0 x1 x2 x3 :
    Only m s { t with dict := x0, blockSt := x1, blocks := x2, tieLost := x3 } :=
  { h with dict := fun e => (nomatch w0.symm.trans e), blockSt := fun e => (nomatch w1.symm.trans e), blocks := fun e => (nomatch w2.symm.trans e), tieLost := fun e => (nomatch w3.symm.trans e) }

theorem Only.set_pend {m : Nat} {s t : State} (w0 : m.testBit 6 = true) (h : Only m s t) x0 :
    Only m s { t with pend := x0 } :=
  { h with pend := fun e => (nomatch w0.symm.trans e) }

theorem Only.set_attn {m : Nat} {s t : State} (w0 : m.testBit 7 = true) (h : Only m s t) x0 :
    Only m s { t with attn := x0 } :=
  { h with attn := fun e => (nomatch w0.symm.trans e) }

theorem Only.set_events {m : Nat} {s t : State} (w0 : m.testBit 8 = true) (h : Only m s t) x0 :
    Only m s { t with events := x0 } :=
  { h with events := fun e => (nomatch w0.symm.trans e) }

theorem Only.set_events_life {m : Nat} {s t : State} (w0 : m.testBit 8 = true) (w1 : m.testBit 68 = true) (h : Only m s t) x0 x1 :
    Only m s { t with events := x0, life := x1 } :=
  { h with events := fun e => (nomatch w0.symm.trans e), life := fun e => (nomatch w1.symm.trans e) }

theorem Only.set_modeRec {m : Nat} {s t : State} (w0 : m.testBit 9 = true) (h : Only m s t) x0 :
    Only m s { t with modeRec := x0 } :=
  { h with modeRec := fun e => (nomatch w0.symm.trans e) }

theorem Only.set_modeRec_gov {m : Nat} {s t : State} (w0 : m.testBit 9 = true) (w1 : m.testBit 59 = true) (h : Only m s t) x0 x1 :
    Only m s { t with modeRec := x0, gov := x1 } :=
  { h with modeRec := fun e => (nomatch w0.symm.trans e), gov := fun e => (nomatch w1.symm.trans e) }

theorem Only.set_modeRec_jobs {m : Nat} {s t : State} (w0 : m.testBit 9 = true) (w1 : m.testBit 78 = true) (h : Only m s t) x0 x1 :
    Only m s { t with modeRec := x0, jobs := x1 } :=
  { h with modeRec := fun e => (nomatch w0.symm.trans e), jobs := fun e => (nomatch w1.symm.trans e) }

theorem Only.set_parts {m : Nat} {s t : State} (w0 : m.testBit 10 = true) (h : Only m s t) x0 :
    Only m s { t with parts := x0 } :=
  { h with parts := fun e => (nomatch w0.symm.trans e) }

theorem Only.set_parts_bankMap_vpgmWait {m : Nat} {s t : State} (w0 : m.testBit 10 = true) (w1 : m.testBit 22 = true) (w2 : m.testBit 34 = true) (h : Only m s t) x0 x1 x2 :
    Only m s { t with parts := x0, bankMap := x1, vpgmWait := x2 } :=
  { h with parts := fun e => (nomatch w0.symm.trans e), bankMap := fun e => (nomatch w1.symm.trans e), vpgmWait := fun e => (nomatch w2.symm.trans e) }

theorem Only.set_queues {m : Nat} {s t : State} (w0 : m.testBit 11 = true) (h : Only m s t) x0 :
    Only m s { t with queues := x0 } :=
  { h with queues := fun e => (nomatch w0.symm.trans e) }

theorem Only.set_queues_cancelWait_replyQ_debugQ_sync_seqs_kvSets_ringTags_fills_sp_spErr_acc_accTag_accPend_accErr_hbm_hbmErr_tiles_checkCount_capLatch_captures_flights_rflights_rslots_lostAt_stackSt_coolant_gov_retries_life_staged_rx_inWrites_outWrites_exports_announced_groups {m : Nat} {s t : State} (w0 : m.testBit 11 = true) (w1 : m.testBit 12 = true) (w2 : m.testBit 14 = true) (w3 : m.testBit 15 = true) (w4 : m.testBit 16 = true) (w5 : m.testBit 17 = true) (w6 : m.testBit 18 = true) (w7 : m.testBit 19 = true) (w8 : m.testBit 20 = true) (w9 : m.testBit 24 = true) (w10 : m.testBit 25 = true) (w11 : m.testBit 27 = true) (w12 : m.testBit 28 = true) (w13 : m.testBit 29 = true) (w14 : m.testBit 30 = true) (w15 : m.testBit 31 = true) (w16 : m.testBit 32 = true) (w17 : m.testBit 33 = true) (w18 : m.testBit 38 = true) (w19 : m.testBit 39 = true) (w20 : m.testBit 41 = true) (w21 : m.testBit 44 = true) (w22 : m.testBit 45 = true) (w23 : m.testBit 46 = true) (w24 : m.testBit 53 = true) (w25 : m.testBit 56 = true) (w26 : m.testBit 57 = true) (w27 : m.testBit 59 = true) (w28 : m.testBit 63 = true) (w29 : m.testBit 68 = true) (w30 : m.testBit 77 = true) (w31 : m.testBit 81 = true) (w32 : m.testBit 84 = true) (w33 : m.testBit 85 = true) (w34 : m.testBit 87 = true) (w35 : m.testBit 88 = true) (w36 : m.testBit 89 = true) (h : Only m s t) x0 x1 x2 x3 x4 x5 x6 x7 x8 x9 x10 x11 x12 x13 x14 x15 x16 x17 x18 x19 x20 x21 x22 x23 x24 x25 x26 x27 x28 x29 x30 x31 x32 x33 x34 x35 x36 :
    Only m s { t with queues := x0, cancelWait := x1, replyQ := x2, debugQ := x3, sync := x4, seqs := x5, kvSets := x6, ringTags := x7, fills := x8, sp := x9, spErr := x10, acc := x11, accTag := x12, accPend := x13, accErr := x14, hbm := x15, hbmErr := x16, tiles := x17, checkCount := x18, capLatch := x19, captures := x20, flights := x21, rflights := x22, rslots := x23, lostAt := x24, stackSt := x25, coolant := x26, gov := x27, retries := x28, life := x29, staged := x30, rx := x31, inWrites := x32, outWrites := x33, exports := x34, announced := x35, groups := x36 } :=
  { h with queues := fun e => (nomatch w0.symm.trans e), cancelWait := fun e => (nomatch w1.symm.trans e), replyQ := fun e => (nomatch w2.symm.trans e), debugQ := fun e => (nomatch w3.symm.trans e), sync := fun e => (nomatch w4.symm.trans e), seqs := fun e => (nomatch w5.symm.trans e), kvSets := fun e => (nomatch w6.symm.trans e), ringTags := fun e => (nomatch w7.symm.trans e), fills := fun e => (nomatch w8.symm.trans e), sp := fun e => (nomatch w9.symm.trans e), spErr := fun e => (nomatch w10.symm.trans e), acc := fun e => (nomatch w11.symm.trans e), accTag := fun e => (nomatch w12.symm.trans e), accPend := fun e => (nomatch w13.symm.trans e), accErr := fun e => (nomatch w14.symm.trans e), hbm := fun e => (nomatch w15.symm.trans e), hbmErr := fun e => (nomatch w16.symm.trans e), tiles := fun e => (nomatch w17.symm.trans e), checkCount := fun e => (nomatch w18.symm.trans e), capLatch := fun e => (nomatch w19.symm.trans e), captures := fun e => (nomatch w20.symm.trans e), flights := fun e => (nomatch w21.symm.trans e), rflights := fun e => (nomatch w22.symm.trans e), rslots := fun e => (nomatch w23.symm.trans e), lostAt := fun e => (nomatch w24.symm.trans e), stackSt := fun e => (nomatch w25.symm.trans e), coolant := fun e => (nomatch w26.symm.trans e), gov := fun e => (nomatch w27.symm.trans e), retries := fun e => (nomatch w28.symm.trans e), life := fun e => (nomatch w29.symm.trans e), staged := fun e => (nomatch w30.symm.trans e), rx := fun e => (nomatch w31.symm.trans e), inWrites := fun e => (nomatch w32.symm.trans e), outWrites := fun e => (nomatch w33.symm.trans e), exports := fun e => (nomatch w34.symm.trans e), announced := fun e => (nomatch w35.symm.trans e), groups := fun e => (nomatch w36.symm.trans e) }

theorem Only.set_cancelWait {m : Nat} {s t : State} (w0 : m.testBit 12 = true) (h : Only m s t) x0 :
    Only m s { t with cancelWait := x0 } :=
  { h with cancelWait := fun e => (nomatch w0.symm.trans e) }

theorem Only.set_arb {m : Nat} {s t : State} (w0 : m.testBit 13 = true) (h : Only m s t) x0 :
    Only m s { t with arb := x0 } :=
  { h with arb := fun e => (nomatch w0.symm.trans e) }

theorem Only.set_replyQ {m : Nat} {s t : State} (w0 : m.testBit 14 = true) (h : Only m s t) x0 :
    Only m s { t with replyQ := x0 } :=
  { h with replyQ := fun e => (nomatch w0.symm.trans e) }

theorem Only.set_replyQ_replyNo {m : Nat} {s t : State} (w0 : m.testBit 14 = true) (w1 : m.testBit 90 = true) (h : Only m s t) x0 x1 :
    Only m s { t with replyQ := x0, replyNo := x1 } :=
  { h with replyQ := fun e => (nomatch w0.symm.trans e), replyNo := fun e => (nomatch w1.symm.trans e) }

theorem Only.set_debugQ {m : Nat} {s t : State} (w0 : m.testBit 15 = true) (h : Only m s t) x0 :
    Only m s { t with debugQ := x0 } :=
  { h with debugQ := fun e => (nomatch w0.symm.trans e) }

theorem Only.set_debugQ_sessions_closed {m : Nat} {s t : State} (w0 : m.testBit 15 = true) (w1 : m.testBit 79 = true) (w2 : m.testBit 80 = true) (h : Only m s t) x0 x1 x2 :
    Only m s { t with debugQ := x0, sessions := x1, closed := x2 } :=
  { h with debugQ := fun e => (nomatch w0.symm.trans e), sessions := fun e => (nomatch w1.symm.trans e), closed := fun e => (nomatch w2.symm.trans e) }

theorem Only.set_sync_seqs_kvSets_ringTags_staged_windows_inWrites {m : Nat} {s t : State} (w0 : m.testBit 16 = true) (w1 : m.testBit 17 = true) (w2 : m.testBit 18 = true) (w3 : m.testBit 19 = true) (w4 : m.testBit 77 = true) (w5 : m.testBit 83 = true) (w6 : m.testBit 84 = true) (h : Only m s t) x0 x1 x2 x3 x4 x5 x6 :
    Only m s { t with sync := x0, seqs := x1, kvSets := x2, ringTags := x3, staged := x4, windows := x5, inWrites := x6 } :=
  { h with sync := fun e => (nomatch w0.symm.trans e), seqs := fun e => (nomatch w1.symm.trans e), kvSets := fun e => (nomatch w2.symm.trans e), ringTags := fun e => (nomatch w3.symm.trans e), staged := fun e => (nomatch w4.symm.trans e), windows := fun e => (nomatch w5.symm.trans e), inWrites := fun e => (nomatch w6.symm.trans e) }

theorem Only.set_sync_kvSets {m : Nat} {s t : State} (w0 : m.testBit 16 = true) (w1 : m.testBit 18 = true) (h : Only m s t) x0 x1 :
    Only m s { t with sync := x0, kvSets := x1 } :=
  { h with sync := fun e => (nomatch w0.symm.trans e), kvSets := fun e => (nomatch w1.symm.trans e) }

theorem Only.set_sync_tiles {m : Nat} {s t : State} (w0 : m.testBit 16 = true) (w1 : m.testBit 33 = true) (h : Only m s t) x0 x1 :
    Only m s { t with sync := x0, tiles := x1 } :=
  { h with sync := fun e => (nomatch w0.symm.trans e), tiles := fun e => (nomatch w1.symm.trans e) }

theorem Only.set_seqs {m : Nat} {s t : State} (w0 : m.testBit 17 = true) (h : Only m s t) x0 :
    Only m s { t with seqs := x0 } :=
  { h with seqs := fun e => (nomatch w0.symm.trans e) }

theorem Only.set_kvSets {m : Nat} {s t : State} (w0 : m.testBit 18 = true) (h : Only m s t) x0 :
    Only m s { t with kvSets := x0 } :=
  { h with kvSets := fun e => (nomatch w0.symm.trans e) }

theorem Only.set_ringTags {m : Nat} {s t : State} (w0 : m.testBit 19 = true) (h : Only m s t) x0 :
    Only m s { t with ringTags := x0 } :=
  { h with ringTags := fun e => (nomatch w0.symm.trans e) }

theorem Only.set_ringTags_fills {m : Nat} {s t : State} (w0 : m.testBit 19 = true) (w1 : m.testBit 20 = true) (h : Only m s t) x0 x1 :
    Only m s { t with ringTags := x0, fills := x1 } :=
  { h with ringTags := fun e => (nomatch w0.symm.trans e), fills := fun e => (nomatch w1.symm.trans e) }

theorem Only.set_ringTags_sp_spErr_acc_accTag_accPend_accErr_capLatch {m : Nat} {s t : State} (w0 : m.testBit 19 = true) (w1 : m.testBit 24 = true) (w2 : m.testBit 25 = true) (w3 : m.testBit 27 = true) (w4 : m.testBit 28 = true) (w5 : m.testBit 29 = true) (w6 : m.testBit 30 = true) (w7 : m.testBit 39 = true) (h : Only m s t) x0 x1 x2 x3 x4 x5 x6 x7 :
    Only m s { t with ringTags := x0, sp := x1, spErr := x2, acc := x3, accTag := x4, accPend := x5, accErr := x6, capLatch := x7 } :=
  { h with ringTags := fun e => (nomatch w0.symm.trans e), sp := fun e => (nomatch w1.symm.trans e), spErr := fun e => (nomatch w2.symm.trans e), acc := fun e => (nomatch w3.symm.trans e), accTag := fun e => (nomatch w4.symm.trans e), accPend := fun e => (nomatch w5.symm.trans e), accErr := fun e => (nomatch w6.symm.trans e), capLatch := fun e => (nomatch w7.symm.trans e) }

theorem Only.set_fills {m : Nat} {s t : State} (w0 : m.testBit 20 = true) (h : Only m s t) x0 :
    Only m s { t with fills := x0 } :=
  { h with fills := fun e => (nomatch w0.symm.trans e) }

theorem Only.set_fills_accPend_tiles_flights_rflights_rslots {m : Nat} {s t : State} (w0 : m.testBit 20 = true) (w1 : m.testBit 29 = true) (w2 : m.testBit 33 = true) (w3 : m.testBit 44 = true) (w4 : m.testBit 45 = true) (w5 : m.testBit 46 = true) (h : Only m s t) x0 x1 x2 x3 x4 x5 :
    Only m s { t with fills := x0, accPend := x1, tiles := x2, flights := x3, rflights := x4, rslots := x5 } :=
  { h with fills := fun e => (nomatch w0.symm.trans e), accPend := fun e => (nomatch w1.symm.trans e), tiles := fun e => (nomatch w2.symm.trans e), flights := fun e => (nomatch w3.symm.trans e), rflights := fun e => (nomatch w4.symm.trans e), rslots := fun e => (nomatch w5.symm.trans e) }

theorem Only.set_fills_tiles_rflights_rslots {m : Nat} {s t : State} (w0 : m.testBit 20 = true) (w1 : m.testBit 33 = true) (w2 : m.testBit 45 = true) (w3 : m.testBit 46 = true) (h : Only m s t) x0 x1 x2 x3 :
    Only m s { t with fills := x0, tiles := x1, rflights := x2, rslots := x3 } :=
  { h with fills := fun e => (nomatch w0.symm.trans e), tiles := fun e => (nomatch w1.symm.trans e), rflights := fun e => (nomatch w2.symm.trans e), rslots := fun e => (nomatch w3.symm.trans e) }

theorem Only.set_banks {m : Nat} {s t : State} (w0 : m.testBit 21 = true) (h : Only m s t) x0 :
    Only m s { t with banks := x0 } :=
  { h with banks := fun e => (nomatch w0.symm.trans e) }

theorem Only.set_bankMap {m : Nat} {s t : State} (w0 : m.testBit 22 = true) (h : Only m s t) x0 :
    Only m s { t with bankMap := x0 } :=
  { h with bankMap := fun e => (nomatch w0.symm.trans e) }

theorem Only.set_latch {m : Nat} {s t : State} (w0 : m.testBit 23 = true) (h : Only m s t) x0 :
    Only m s { t with latch := x0 } :=
  { h with latch := fun e => (nomatch w0.symm.trans e) }

theorem Only.set_sp_spErr {m : Nat} {s t : State} (w0 : m.testBit 24 = true) (w1 : m.testBit 25 = true) (h : Only m s t) x0 x1 :
    Only m s { t with sp := x0, spErr := x1 } :=
  { h with sp := fun e => (nomatch w0.symm.trans e), spErr := fun e => (nomatch w1.symm.trans e) }

theorem Only.set_sp_spErr_nonfinVec {m : Nat} {s t : State} (w0 : m.testBit 24 = true) (w1 : m.testBit 25 = true) (w2 : m.testBit 26 = true) (h : Only m s t) x0 x1 x2 :
    Only m s { t with sp := x0, spErr := x1, nonfinVec := x2 } :=
  { h with sp := fun e => (nomatch w0.symm.trans e), spErr := fun e => (nomatch w1.symm.trans e), nonfinVec := fun e => (nomatch w2.symm.trans e) }

theorem Only.set_sp_acc_accTag {m : Nat} {s t : State} (w0 : m.testBit 24 = true) (w1 : m.testBit 27 = true) (w2 : m.testBit 28 = true) (h : Only m s t) x0 x1 x2 :
    Only m s { t with sp := x0, acc := x1, accTag := x2 } :=
  { h with sp := fun e => (nomatch w0.symm.trans e), acc := fun e => (nomatch w1.symm.trans e), accTag := fun e => (nomatch w2.symm.trans e) }

theorem Only.set_spErr {m : Nat} {s t : State} (w0 : m.testBit 25 = true) (h : Only m s t) x0 :
    Only m s { t with spErr := x0 } :=
  { h with spErr := fun e => (nomatch w0.symm.trans e) }

theorem Only.set_nonfinVec {m : Nat} {s t : State} (w0 : m.testBit 26 = true) (h : Only m s t) x0 :
    Only m s { t with nonfinVec := x0 } :=
  { h with nonfinVec := fun e => (nomatch w0.symm.trans e) }

theorem Only.set_acc_accErr {m : Nat} {s t : State} (w0 : m.testBit 27 = true) (w1 : m.testBit 30 = true) (h : Only m s t) x0 x1 :
    Only m s { t with acc := x0, accErr := x1 } :=
  { h with acc := fun e => (nomatch w0.symm.trans e), accErr := fun e => (nomatch w1.symm.trans e) }

theorem Only.set_accTag {m : Nat} {s t : State} (w0 : m.testBit 28 = true) (h : Only m s t) x0 :
    Only m s { t with accTag := x0 } :=
  { h with accTag := fun e => (nomatch w0.symm.trans e) }

theorem Only.set_accPend {m : Nat} {s t : State} (w0 : m.testBit 29 = true) (h : Only m s t) x0 :
    Only m s { t with accPend := x0 } :=
  { h with accPend := fun e => (nomatch w0.symm.trans e) }

theorem Only.set_accPend_tiles {m : Nat} {s t : State} (w0 : m.testBit 29 = true) (w1 : m.testBit 33 = true) (h : Only m s t) x0 x1 :
    Only m s { t with accPend := x0, tiles := x1 } :=
  { h with accPend := fun e => (nomatch w0.symm.trans e), tiles := fun e => (nomatch w1.symm.trans e) }

theorem Only.set_accPend_tiles_flights {m : Nat} {s t : State} (w0 : m.testBit 29 = true) (w1 : m.testBit 33 = true) (w2 : m.testBit 44 = true) (h : Only m s t) x0 x1 x2 :
    Only m s { t with accPend := x0, tiles := x1, flights := x2 } :=
  { h with accPend := fun e => (nomatch w0.symm.trans e), tiles := fun e => (nomatch w1.symm.trans e), flights := fun e => (nomatch w2.symm.trans e) }

theorem Only.set_accErr {m : Nat} {s t : State} (w0 : m.testBit 30 = true) (h : Only m s t) x0 :
    Only m s { t with accErr := x0 } :=
  { h with accErr := fun e => (nomatch w0.symm.trans e) }

theorem Only.set_hbm_hbmErr {m : Nat} {s t : State} (w0 : m.testBit 31 = true) (w1 : m.testBit 32 = true) (h : Only m s t) x0 x1 :
    Only m s { t with hbm := x0, hbmErr := x1 } :=
  { h with hbm := fun e => (nomatch w0.symm.trans e), hbmErr := fun e => (nomatch w1.symm.trans e) }

theorem Only.set_hbmErr {m : Nat} {s t : State} (w0 : m.testBit 32 = true) (h : Only m s t) x0 :
    Only m s { t with hbmErr := x0 } :=
  { h with hbmErr := fun e => (nomatch w0.symm.trans e) }

theorem Only.set_tiles {m : Nat} {s t : State} (w0 : m.testBit 33 = true) (h : Only m s t) x0 :
    Only m s { t with tiles := x0 } :=
  { h with tiles := fun e => (nomatch w0.symm.trans e) }

theorem Only.set_vpgmWait {m : Nat} {s t : State} (w0 : m.testBit 34 = true) (h : Only m s t) x0 :
    Only m s { t with vpgmWait := x0 } :=
  { h with vpgmWait := fun e => (nomatch w0.symm.trans e) }

theorem Only.set_vpgmWait_jobs {m : Nat} {s t : State} (w0 : m.testBit 34 = true) (w1 : m.testBit 78 = true) (h : Only m s t) x0 x1 :
    Only m s { t with vpgmWait := x0, jobs := x1 } :=
  { h with vpgmWait := fun e => (nomatch w0.symm.trans e), jobs := fun e => (nomatch w1.symm.trans e) }

theorem Only.set_vpgmLost {m : Nat} {s t : State} (w0 : m.testBit 35 = true) (h : Only m s t) x0 :
    Only m s { t with vpgmLost := x0 } :=
  { h with vpgmLost := fun e => (nomatch w0.symm.trans e) }

theorem Only.set_pwrBase_pwrSince {m : Nat} {s t : State} (w0 : m.testBit 36 = true) (w1 : m.testBit 37 = true) (h : Only m s t) x0 x1 :
    Only m s { t with pwrBase := x0, pwrSince := x1 } :=
  { h with pwrBase := fun e => (nomatch w0.symm.trans e), pwrSince := fun e => (nomatch w1.symm.trans e) }

theorem Only.set_pwrSince {m : Nat} {s t : State} (w0 : m.testBit 37 = true) (h : Only m s t) x0 :
    Only m s { t with pwrSince := x0 } :=
  { h with pwrSince := fun e => (nomatch w0.symm.trans e) }

theorem Only.set_checkCount {m : Nat} {s t : State} (w0 : m.testBit 38 = true) (h : Only m s t) x0 :
    Only m s { t with checkCount := x0 } :=
  { h with checkCount := fun e => (nomatch w0.symm.trans e) }

theorem Only.set_capLatch_captures {m : Nat} {s t : State} (w0 : m.testBit 39 = true) (w1 : m.testBit 41 = true) (h : Only m s t) x0 x1 :
    Only m s { t with capLatch := x0, captures := x1 } :=
  { h with capLatch := fun e => (nomatch w0.symm.trans e), captures := fun e => (nomatch w1.symm.trans e) }

theorem Only.set_capLatch_capNo {m : Nat} {s t : State} (w0 : m.testBit 39 = true) (w1 : m.testBit 42 = true) (h : Only m s t) x0 x1 :
    Only m s { t with capLatch := x0, capNo := x1 } :=
  { h with capLatch := fun e => (nomatch w0.symm.trans e), capNo := fun e => (nomatch w1.symm.trans e) }

theorem Only.set_scrubAt {m : Nat} {s t : State} (w0 : m.testBit 40 = true) (h : Only m s t) x0 :
    Only m s { t with scrubAt := x0 } :=
  { h with scrubAt := fun e => (nomatch w0.symm.trans e) }

theorem Only.set_captures {m : Nat} {s t : State} (w0 : m.testBit 41 = true) (h : Only m s t) x0 :
    Only m s { t with captures := x0 } :=
  { h with captures := fun e => (nomatch w0.symm.trans e) }

theorem Only.set_captures_verdicts {m : Nat} {s t : State} (w0 : m.testBit 41 = true) (w1 : m.testBit 43 = true) (h : Only m s t) x0 x1 :
    Only m s { t with captures := x0, verdicts := x1 } :=
  { h with captures := fun e => (nomatch w0.symm.trans e), verdicts := fun e => (nomatch w1.symm.trans e) }

theorem Only.set_flights {m : Nat} {s t : State} (w0 : m.testBit 44 = true) (h : Only m s t) x0 :
    Only m s { t with flights := x0 } :=
  { h with flights := fun e => (nomatch w0.symm.trans e) }

theorem Only.set_flights_rflights {m : Nat} {s t : State} (w0 : m.testBit 44 = true) (w1 : m.testBit 45 = true) (h : Only m s t) x0 x1 :
    Only m s { t with flights := x0, rflights := x1 } :=
  { h with flights := fun e => (nomatch w0.symm.trans e), rflights := fun e => (nomatch w1.symm.trans e) }

theorem Only.set_rflights {m : Nat} {s t : State} (w0 : m.testBit 45 = true) (h : Only m s t) x0 :
    Only m s { t with rflights := x0 } :=
  { h with rflights := fun e => (nomatch w0.symm.trans e) }

theorem Only.set_rslots {m : Nat} {s t : State} (w0 : m.testBit 46 = true) (h : Only m s t) x0 :
    Only m s { t with rslots := x0 } :=
  { h with rslots := fun e => (nomatch w0.symm.trans e) }

theorem Only.set_hot {m : Nat} {s t : State} (w0 : m.testBit 47 = true) (h : Only m s t) x0 :
    Only m s { t with hot := x0 } :=
  { h with hot := fun e => (nomatch w0.symm.trans e) }

theorem Only.set_heatOff {m : Nat} {s t : State} (w0 : m.testBit 48 = true) (h : Only m s t) x0 :
    Only m s { t with heatOff := x0 } :=
  { h with heatOff := fun e => (nomatch w0.symm.trans e) }

theorem Only.set_heatOff_spots {m : Nat} {s t : State} (w0 : m.testBit 48 = true) (w1 : m.testBit 55 = true) (h : Only m s t) x0 x1 :
    Only m s { t with heatOff := x0, spots := x1 } :=
  { h with heatOff := fun e => (nomatch w0.symm.trans e), spots := fun e => (nomatch w1.symm.trans e) }

theorem Only.set_blockSt {m : Nat} {s t : State} (w0 : m.testBit 49 = true) (h : Only m s t) x0 :
    Only m s { t with blockSt := x0 } :=
  { h with blockSt := fun e => (nomatch w0.symm.trans e) }

theorem Only.set_blockSt_lostAt {m : Nat} {s t : State} (w0 : m.testBit 49 = true) (w1 : m.testBit 53 = true) (h : Only m s t) x0 x1 :
    Only m s { t with blockSt := x0, lostAt := x1 } :=
  { h with blockSt := fun e => (nomatch w0.symm.trans e), lostAt := fun e => (nomatch w1.symm.trans e) }

theorem Only.set_blockSt_lostAt_tieLost {m : Nat} {s t : State} (w0 : m.testBit 49 = true) (w1 : m.testBit 53 = true) (w2 : m.testBit 54 = true) (h : Only m s t) x0 x1 x2 :
    Only m s { t with blockSt := x0, lostAt := x1, tieLost := x2 } :=
  { h with blockSt := fun e => (nomatch w0.symm.trans e), lostAt := fun e => (nomatch w1.symm.trans e), tieLost := fun e => (nomatch w2.symm.trans e) }

theorem Only.set_feeds {m : Nat} {s t : State} (w0 : m.testBit 50 = true) (h : Only m s t) x0 :
    Only m s { t with feeds := x0 } :=
  { h with feeds := fun e => (nomatch w0.symm.trans e) }

theorem Only.set_bricks {m : Nat} {s t : State} (w0 : m.testBit 51 = true) (h : Only m s t) x0 :
    Only m s { t with bricks := x0 } :=
  { h with bricks := fun e => (nomatch w0.symm.trans e) }

theorem Only.set_blocks {m : Nat} {s t : State} (w0 : m.testBit 52 = true) (h : Only m s t) x0 :
    Only m s { t with blocks := x0 } :=
  { h with blocks := fun e => (nomatch w0.symm.trans e) }

theorem Only.set_lostAt {m : Nat} {s t : State} (w0 : m.testBit 53 = true) (h : Only m s t) x0 :
    Only m s { t with lostAt := x0 } :=
  { h with lostAt := fun e => (nomatch w0.symm.trans e) }

theorem Only.set_tieLost {m : Nat} {s t : State} (w0 : m.testBit 54 = true) (h : Only m s t) x0 :
    Only m s { t with tieLost := x0 } :=
  { h with tieLost := fun e => (nomatch w0.symm.trans e) }

theorem Only.set_spots {m : Nat} {s t : State} (w0 : m.testBit 55 = true) (h : Only m s t) x0 :
    Only m s { t with spots := x0 } :=
  { h with spots := fun e => (nomatch w0.symm.trans e) }

theorem Only.set_stackSt {m : Nat} {s t : State} (w0 : m.testBit 56 = true) (h : Only m s t) x0 :
    Only m s { t with stackSt := x0 } :=
  { h with stackSt := fun e => (nomatch w0.symm.trans e) }

theorem Only.set_coolant {m : Nat} {s t : State} (w0 : m.testBit 57 = true) (h : Only m s t) x0 :
    Only m s { t with coolant := x0 } :=
  { h with coolant := fun e => (nomatch w0.symm.trans e) }

theorem Only.set_leaks {m : Nat} {s t : State} (w0 : m.testBit 58 = true) (h : Only m s t) x0 :
    Only m s { t with leaks := x0 } :=
  { h with leaks := fun e => (nomatch w0.symm.trans e) }

theorem Only.set_gov {m : Nat} {s t : State} (w0 : m.testBit 59 = true) (h : Only m s t) x0 :
    Only m s { t with gov := x0 } :=
  { h with gov := fun e => (nomatch w0.symm.trans e) }

theorem Only.set_refDown {m : Nat} {s t : State} (w0 : m.testBit 60 = true) (h : Only m s t) x0 :
    Only m s { t with refDown := x0 } :=
  { h with refDown := fun e => (nomatch w0.symm.trans e) }

theorem Only.set_coldRaised {m : Nat} {s t : State} (w0 : m.testBit 61 = true) (h : Only m s t) x0 :
    Only m s { t with coldRaised := x0 } :=
  { h with coldRaised := fun e => (nomatch w0.symm.trans e) }

theorem Only.set_ldDown {m : Nat} {s t : State} (w0 : m.testBit 62 = true) (h : Only m s t) x0 :
    Only m s { t with ldDown := x0 } :=
  { h with ldDown := fun e => (nomatch w0.symm.trans e) }

theorem Only.set_retries {m : Nat} {s t : State} (w0 : m.testBit 63 = true) (h : Only m s t) x0 :
    Only m s { t with retries := x0 } :=
  { h with retries := fun e => (nomatch w0.symm.trans e) }

theorem Only.set_ftests {m : Nat} {s t : State} (w0 : m.testBit 64 = true) (h : Only m s t) x0 :
    Only m s { t with ftests := x0 } :=
  { h with ftests := fun e => (nomatch w0.symm.trans e) }

theorem Only.set_ftests_ftLight_ftFull_ftLast {m : Nat} {s t : State} (w0 : m.testBit 64 = true) (w1 : m.testBit 65 = true) (w2 : m.testBit 66 = true) (w3 : m.testBit 67 = true) (h : Only m s t) x0 x1 x2 x3 :
    Only m s { t with ftests := x0, ftLight := x1, ftFull := x2, ftLast := x3 } :=
  { h with ftests := fun e => (nomatch w0.symm.trans e), ftLight := fun e => (nomatch w1.symm.trans e), ftFull := fun e => (nomatch w2.symm.trans e), ftLast := fun e => (nomatch w3.symm.trans e) }

theorem Only.set_life {m : Nat} {s t : State} (w0 : m.testBit 68 = true) (h : Only m s t) x0 :
    Only m s { t with life := x0 } :=
  { h with life := fun e => (nomatch w0.symm.trans e) }

theorem Only.set_life_kennel {m : Nat} {s t : State} (w0 : m.testBit 68 = true) (w1 : m.testBit 71 = true) (h : Only m s t) x0 x1 :
    Only m s { t with life := x0, kennel := x1 } :=
  { h with life := fun e => (nomatch w0.symm.trans e), kennel := fun e => (nomatch w1.symm.trans e) }

theorem Only.set_life_inWrites {m : Nat} {s t : State} (w0 : m.testBit 68 = true) (w1 : m.testBit 84 = true) (h : Only m s t) x0 x1 :
    Only m s { t with life := x0, inWrites := x1 } :=
  { h with life := fun e => (nomatch w0.symm.trans e), inWrites := fun e => (nomatch w1.symm.trans e) }

theorem Only.set_cards {m : Nat} {s t : State} (w0 : m.testBit 69 = true) (h : Only m s t) x0 :
    Only m s { t with cards := x0 } :=
  { h with cards := fun e => (nomatch w0.symm.trans e) }

theorem Only.set_fw {m : Nat} {s t : State} (w0 : m.testBit 70 = true) (h : Only m s t) x0 :
    Only m s { t with fw := x0 } :=
  { h with fw := fun e => (nomatch w0.symm.trans e) }

theorem Only.set_kennel {m : Nat} {s t : State} (w0 : m.testBit 71 = true) (h : Only m s t) x0 :
    Only m s { t with kennel := x0 } :=
  { h with kennel := fun e => (nomatch w0.symm.trans e) }

theorem Only.set_rtcValid {m : Nat} {s t : State} (w0 : m.testBit 72 = true) (h : Only m s t) x0 :
    Only m s { t with rtcValid := x0 } :=
  { h with rtcValid := fun e => (nomatch w0.symm.trans e) }

theorem Only.set_rtcValid_rtcSet_rtcTick {m : Nat} {s t : State} (w0 : m.testBit 72 = true) (w1 : m.testBit 73 = true) (w2 : m.testBit 74 = true) (h : Only m s t) x0 x1 x2 :
    Only m s { t with rtcValid := x0, rtcSet := x1, rtcTick := x2 } :=
  { h with rtcValid := fun e => (nomatch w0.symm.trans e), rtcSet := fun e => (nomatch w1.symm.trans e), rtcTick := fun e => (nomatch w2.symm.trans e) }

theorem Only.set_images {m : Nat} {s t : State} (w0 : m.testBit 75 = true) (h : Only m s t) x0 :
    Only m s { t with images := x0 } :=
  { h with images := fun e => (nomatch w0.symm.trans e) }

theorem Only.set_images_uploads {m : Nat} {s t : State} (w0 : m.testBit 75 = true) (w1 : m.testBit 76 = true) (h : Only m s t) x0 x1 :
    Only m s { t with images := x0, uploads := x1 } :=
  { h with images := fun e => (nomatch w0.symm.trans e), uploads := fun e => (nomatch w1.symm.trans e) }

theorem Only.set_uploads {m : Nat} {s t : State} (w0 : m.testBit 76 = true) (h : Only m s t) x0 :
    Only m s { t with uploads := x0 } :=
  { h with uploads := fun e => (nomatch w0.symm.trans e) }

theorem Only.set_staged {m : Nat} {s t : State} (w0 : m.testBit 77 = true) (h : Only m s t) x0 :
    Only m s { t with staged := x0 } :=
  { h with staged := fun e => (nomatch w0.symm.trans e) }

theorem Only.set_jobs {m : Nat} {s t : State} (w0 : m.testBit 78 = true) (h : Only m s t) x0 :
    Only m s { t with jobs := x0 } :=
  { h with jobs := fun e => (nomatch w0.symm.trans e) }

theorem Only.set_sessions {m : Nat} {s t : State} (w0 : m.testBit 79 = true) (h : Only m s t) x0 :
    Only m s { t with sessions := x0 } :=
  { h with sessions := fun e => (nomatch w0.symm.trans e) }

theorem Only.set_rx {m : Nat} {s t : State} (w0 : m.testBit 81 = true) (h : Only m s t) x0 :
    Only m s { t with rx := x0 } :=
  { h with rx := fun e => (nomatch w0.symm.trans e) }

theorem Only.set_ports {m : Nat} {s t : State} (w0 : m.testBit 82 = true) (h : Only m s t) x0 :
    Only m s { t with ports := x0 } :=
  { h with ports := fun e => (nomatch w0.symm.trans e) }

theorem Only.set_windows {m : Nat} {s t : State} (w0 : m.testBit 83 = true) (h : Only m s t) x0 :
    Only m s { t with windows := x0 } :=
  { h with windows := fun e => (nomatch w0.symm.trans e) }

theorem Only.set_inWrites {m : Nat} {s t : State} (w0 : m.testBit 84 = true) (h : Only m s t) x0 :
    Only m s { t with inWrites := x0 } :=
  { h with inWrites := fun e => (nomatch w0.symm.trans e) }

theorem Only.set_outWrites {m : Nat} {s t : State} (w0 : m.testBit 85 = true) (h : Only m s t) x0 :
    Only m s { t with outWrites := x0 } :=
  { h with outWrites := fun e => (nomatch w0.symm.trans e) }

theorem Only.set_outWrites_nextTag {m : Nat} {s t : State} (w0 : m.testBit 85 = true) (w1 : m.testBit 86 = true) (h : Only m s t) x0 x1 :
    Only m s { t with outWrites := x0, nextTag := x1 } :=
  { h with outWrites := fun e => (nomatch w0.symm.trans e), nextTag := fun e => (nomatch w1.symm.trans e) }

theorem Only.set_exports {m : Nat} {s t : State} (w0 : m.testBit 87 = true) (h : Only m s t) x0 :
    Only m s { t with exports := x0 } :=
  { h with exports := fun e => (nomatch w0.symm.trans e) }

theorem Only.set_announced {m : Nat} {s t : State} (w0 : m.testBit 88 = true) (h : Only m s t) x0 :
    Only m s { t with announced := x0 } :=
  { h with announced := fun e => (nomatch w0.symm.trans e) }

theorem Only.set_groups {m : Nat} {s t : State} (w0 : m.testBit 89 = true) (h : Only m s t) x0 :
    Only m s { t with groups := x0 } :=
  { h with groups := fun e => (nomatch w0.symm.trans e) }

theorem Only.set_replyNo {m : Nat} {s t : State} (w0 : m.testBit 90 = true) (h : Only m s t) x0 :
    Only m s { t with replyNo := x0 } :=
  { h with replyNo := fun e => (nomatch w0.symm.trans e) }

theorem Only.set_out {m : Nat} {s t : State} (w0 : m.testBit 91 = true) (h : Only m s t) x0 :
    Only m s { t with out := x0 } :=
  { h with out := fun e => (nomatch w0.symm.trans e) }

end Sys2Proof.Machine
end

