-- ==== Sys2Proof/Laws/Keeps.lean ====
section
/-! SUPPORT. How goodness passes along changes of State: a change of other fields keeps it, and changes compose. -/
namespace Sys2Proof.Machine

theorem Keeps.refl (s : State) : Keeps s s := ⟨id⟩

theorem Keeps.step {s t u : State} (h : Keeps t u) (g : Keeps s t) : Keeps s u := ⟨fun k => h.good (g.good k)⟩

/-- The mask of the fields that goodness speaks of. -/
def goodMask : Nat := 0x100000000a0089010080

/-- A change that leaves the fields of goodness alone keeps it. -/
theorem Keeps.of_only {m : Nat} {s t u : State} (h : Only m t u) (w : m &&& goodMask = 0) (g : Keeps s t) : Keeps s u := by
  have b : ∀ i, goodMask.testBit i = true → m.testBit i = false := by
    intro i e
    have := congrArg (fun x => Nat.testBit x i) w
    simpa [Nat.testBit_and, e] using this
  refine ⟨fun k => ?_⟩
  have k := g.good k
  have e_sp := h.sp (b 24 rfl)
  have e_hbm := h.hbm (b 31 rfl)
  have e_acc := h.acc (b 27 rfl)
  have e_sync := h.sync (b 16 rfl)
  have e_attn := h.attn (b 7 rfl)
  have e_uploads := h.uploads (b 76 rfl)
  have e_captures := h.captures (b 41 rfl)
  have e_verdicts := h.verdicts (b 43 rfl)
  exact ⟨e_sp.symm ▸ k.sp, e_hbm.symm ▸ k.hbm, e_acc.symm ▸ k.acc, e_sync.symm ▸ k.sync, e_attn.symm ▸ k.log, e_uploads.symm ▸ k.uploads, e_captures.symm ▸ k.captures, e_verdicts.symm ▸ k.verdicts⟩

theorem Keeps.foldl {α : Type} {s i : State} {f : State → α → State} {l : List α} (hf : ∀ t x, Keeps s t → Keeps s (f t x))
    (hi : Keeps s i) : Keeps s (l.foldl f i) := by
  induction l generalizing i with
  | nil => exact hi
  | cons x r ih => exact ih (hf i x hi)

theorem Keeps.foldl_by {α β : Type} {s : State} {g : β → State} {f : β → α → β} {l : List α} {i : β}
    (hf : ∀ a x, Keeps s (g a) → Keeps s (g (f a x))) (hi : Keeps s (g i)) : Keeps s (g (l.foldl f i)) := by
  induction l generalizing i with
  | nil => exact hi
  | cons x r ih => exact ih (hf i x hi)

theorem Keeps.ite {s t u : State} {c : Prop} [Decidable c] (ht : Keeps s t) (hu : Keeps s u) : Keeps s (if c then t else u) := by
  split <;> assumption

theorem Keeps.getD {s0 s : State} {x : Option State} (hf : ∀ t, x = some t → Keeps s0 t) (h : Keeps s0 s) : Keeps s0 (x.getD s) := by
  cases x with
  | none => exact h
  | some t => exact hf t rfl

theorem KeepsO.next {s t : State} (h : Keeps s t) : KeepsO s (.next t) := by
  refine ⟨fun u e => ?_⟩
  cases e
  exact h

theorem KeepsO.fault (s : State) (r : Fault) : KeepsO s (.fault r) := by
  refine ⟨fun u e => ?_⟩
  cases e

theorem KeepsO.step {s t : State} {o : Host.Outcome State Fault Refusal} (h : KeepsO t o) (g : Keeps s t) : KeepsO s o :=
  ⟨fun u e => (h.next_good u e).step g⟩

theorem KeepsO.of_only {m : Nat} {s t : State} {o : Host.Outcome State Fault Refusal} (h : OnlyO m t o) (w : m &&& goodMask = 0)
    (g : Keeps s t) : KeepsO s o := ⟨fun u e => Keeps.of_only (h u e) w g⟩

theorem KeepsO.ite {s : State} {c : Prop} [Decidable c] {o p : Host.Outcome State Fault Refusal} (ho : KeepsO s o) (hp : KeepsO s p) :
    KeepsO s (if c then o else p) := by
  split <;> assumption

end Sys2Proof.Machine
end

