-- ==== Sys2Proof/Laws/OnlyOps.lean ====
section
/-! SUPPORT. What each operation of Machine/Ops.lean can change, at most. -/
namespace Sys2Proof.Machine

theorem setObj_only (s : State) (idx : Nat) (el : Nat) (v : Nat) (u : Nat) : Only 0x20 s (setObj s idx el v u) := by
  unfold setObj
  refine Only.set_dict rfl ?_ _
  exact Only.refl _ _

theorem addObj_only (s : State) (idx : Nat) (el : Nat) (n : Nat) (u : Nat) (w : Nat) : Only 0x20 s (addObj s idx el n u w) := by
  unfold addObj
  refine Only.step (setObj_only ..) rfl ?_
  exact Only.refl _ _

theorem raiseNow_only (s : State) (c : Cause) : Only 0x80 s (raiseNow s c) := by
  unfold raiseNow
  dsimp only
  refine Only.set_attn rfl ?_ _
  exact Only.refl _ _

theorem raise_only (s : State) (c : Cause) : Only 0x100000000000000080 s (raise s c) := by
  unfold raise
  refine Only.ite ?_ ?_
  · refine Only.set_life rfl ?_ _
    exact Only.refl _ _
  · refine Only.step (raiseNow_only ..) rfl ?_
    exact Only.refl _ _

theorem raiseRc_only (s : State) (sev : Nat) (reason : Nat) (part : Option Nat) (ukind : Nat) (unit : Nat) (detail : Nat) : Only 0x100000000000000080 s (raiseRc s sev reason part ukind unit detail) := by
  unfold raiseRc
  refine Only.step (raise_only ..) rfl ?_
  exact Only.refl _ _

theorem setPort_only (s : State) (p : Nat) (x : Port) : Only 0x400000000000000000000 s (setPort s p x) := by
  unfold setPort
  refine Only.set_ports rfl ?_ _
  exact Only.refl _ _

theorem setSession_only (s : State) (ses : Nat) (x : Session) : Only 0x80000000000000000000 s (setSession s ses x) := by
  unfold setSession
  refine Only.set_sessions rfl ?_ _
  exact Only.refl _ _

theorem updSession_only (s : State) (ses : Nat) (f : Session → Session) : Only 0x80000000000000000000 s (updSession s ses f) := by
  unfold updSession
  refine Only.step (setSession_only ..) rfl ?_
  exact Only.refl _ _

theorem setChan_only (s : State) (ses : Nat) (c : Nat) (x : Chan) : Only 0x80000000000000000000 s (setChan s ses c x) := by
  unfold setChan
  refine Only.step (updSession_only ..) rfl ?_
  exact Only.refl _ _

theorem sendSegs_only (s : State) (ses : Nat) (c : Nat) (l : List Seg) : Only 0x80000000000000000000000 s (sendSegs s ses c l) := by
  unfold sendSegs
  refine Only.set_out rfl ?_ _
  exact Only.refl _ _

theorem sendFrame_only (s : State) (p : Nat) (typ : Nat) (ses : Nat) (dsid : Nat) (reason : Nat) (payload : List Sys2Proof.Byte) : Only 0x80000000000000000000000 s (sendFrame s p typ ses dsid reason payload) := by
  unfold sendFrame
  dsimp only
  refine Only.set_out rfl ?_ _
  exact Only.refl _ _

theorem pump_only (s : State) (ses : Nat) (c : Nat) : Only 0x80080000000000000000000 s (pump s ses c) := by
  unfold pump
  dsimp only
  refine Only.ite ?_ ?_
  · exact Only.refl _ _
  · refine Only.step (sendSegs_only ..) rfl ?_
    refine Only.step (updSession_only ..) rfl ?_
    refine Only.step (setChan_only ..) rfl ?_
    exact Only.refl _ _

theorem enqueue_only (s : State) (m : OutMsg) (e : Nat × Nat × Nat) : Only 0x80080000000000000000000 s (enqueue s m e) := by
  unfold enqueue
  dsimp only
  refine Only.ite ?_ ?_
  · exact Only.refl _ _
  · refine Only.step (pump_only ..) rfl ?_
    refine Only.step (setChan_only ..) rfl ?_
    exact Only.refl _ _

theorem emit_only (s : State) (m : OutMsg) : Only 0x80080000000000000000000 s (emit s m) := by
  unfold emit
  refine Only.foldl (fun _ _ _ => ?_) ?_
  · refine Only.step (enqueue_only ..) rfl ?_
    assumption
  · refine Only.set_out rfl ?_ _
    exact Only.refl _ _

theorem reply_only (s : State) (r : Reply) : Only 0x80080000000000000000000 s (reply s r) := by
  unfold reply
  refine Only.step (emit_only ..) rfl ?_
  exact Only.refl _ _

theorem setCond_only (s : State) (n : Nat) (b : Bool) : Only 0x100 s (setCond s n b) := by
  unfold setCond
  dsimp only
  refine Only.set_events rfl ?_ _
  exact Only.refl _ _

theorem setPart_only (s : State) (p : Nat) (x : Part) : Only 0x400 s (setPart s p x) := by
  unfold setPart
  refine Only.set_parts rfl ?_ _
  exact Only.refl _ _

theorem updPart_only (s : State) (p : Nat) (f : Part → Part) : Only 0x400 s (updPart s p f) := by
  unfold updPart
  refine Only.step (setPart_only ..) rfl ?_
  exact Only.refl _ _

theorem setPState_only (s : State) (p : Nat) (st : PState) : Only 0x500 s (setPState s p st) := by
  unfold setPState
  refine Only.step (setCond_only ..) rfl ?_
  refine Only.step (updPart_only ..) rfl ?_
  exact Only.refl _ _

theorem setSeq_only (s : State) (p : Nat) (q : Nat) (x : Seq) : Only 0x20000 s (setSeq s p q x) := by
  unfold setSeq
  refine Only.set_seqs rfl ?_ _
  exact Only.refl _ _

theorem delSeq_only (s : State) (p : Nat) (q : Nat) : Only 0x20000 s (delSeq s p q) := by
  unfold delSeq
  refine Only.set_seqs rfl ?_ _
  exact Only.refl _ _

theorem syncPut_only (s : State) (p : Nat) (n : Nat) (v : Nat) : Only 0x200010000 s (syncPut s p n v) := by
  unfold syncPut
  refine Only.set_sync_tiles rfl rfl ?_ _ _
  exact Only.refl _ _

theorem flushOne_only (s : State) (p : Nat) : Only 0x80080000000000000008000 s (flushOne s p) := by
  unfold flushOne
  split
  · exact Only.refl _ _
  · dsimp only
    refine Only.ite ?_ ?_
    · exact Only.refl _ _
    · refine Only.step (emit_only ..) rfl ?_
      refine Only.set_debugQ rfl ?_ _
      exact Only.refl _ _

theorem flushDebug_only (s : State) (p n : Nat) : Only 0x80080000000000000008000 s (flushDebug s p n) := by
  induction n generalizing s with
  | zero => exact Only.refl _ _
  | succ n ih =>
    unfold flushDebug
    dsimp only
    split
    · exact Only.step (ih _) rfl (flushOne_only ..)
    · exact flushOne_only ..


theorem queueDebug_only (s : State) (p : Nat) (r : DebugRec) : Only 0x8020 s (queueDebug s p r) := by
  unfold queueDebug
  dsimp only
  refine Only.ite ?_ ?_
  · refine Only.ite ?_ ?_
    · refine Only.set_debugQ rfl ?_ _
      exact Only.refl _ _
    · split
      · refine Only.step (addObj_only ..) rfl ?_
        refine Only.set_debugQ rfl ?_ _
        exact Only.refl _ _
      · refine Only.ite ?_ ?_
        · refine Only.set_debugQ rfl ?_ _
          exact Only.refl _ _
        · refine Only.step (addObj_only ..) rfl ?_
          refine Only.set_debugQ rfl ?_ _
          exact Only.refl _ _
  · refine Only.ite ?_ ?_
    · refine Only.set_debugQ rfl ?_ _
      exact Only.refl _ _
    · refine Only.step (addObj_only ..) rfl ?_
      exact Only.refl _ _

theorem postDebug_only (s : State) (p : Nat) (r : DebugRec) : Only 0x80080000000000000008020 s (postDebug s p r) := by
  unfold postDebug
  refine Only.step (flushDebug_only ..) rfl ?_
  refine Only.step (queueDebug_only ..) rfl ?_
  exact Only.refl _ _

theorem flushAll_only (s : State) : Only 0x80080000000000000008000 s (flushAll s) := by
  unfold flushAll
  refine Only.foldl (fun _ _ _ => ?_) ?_
  · refine Only.step (flushDebug_only ..) rfl ?_
    assumption
  · exact Only.refl _ _

theorem setQueue_only (s : State) (q : Nat) (x : QueueSt) : Only 0x800 s (setQueue s q x) := by
  unfold setQueue
  refine Only.set_queues rfl ?_ _
  exact Only.refl _ _

theorem postReply_only (s : State) (p : Nat) (ws : List Sys2Proof.W256) : Only 0xc0080000000000000004000 s (postReply s p ws) := by
  unfold postReply
  dsimp only
  split
  · refine Only.set_replyQ_replyNo rfl rfl ?_ _ _
    exact Only.refl _ _
  · refine Only.step (emit_only ..) rfl ?_
    refine Only.set_replyQ_replyNo rfl rfl ?_ _ _
    exact Only.refl _ _

theorem doneSignal_only (s : State) (p : Nat) (h : Nat) : Only 0x100000000200010080 s (doneSignal s p h) := by
  unfold doneSignal
  refine Only.ite ?_ ?_
  · exact Only.refl _ _
  · split
    · refine Only.step (syncPut_only ..) rfl ?_
      exact Only.refl _ _
    · refine Only.step (raiseRc_only ..) rfl ?_
      exact Only.refl _ _

theorem endRun_only (s : State) (q : Nat) (r : RunList) (reason : Nat) (off : Nat) (step : Option Nat) : Only 0xc0080100000000200014080 s (endRun s q r reason off step) := by
  unfold endRun
  dsimp only
  refine Only.ite ?_ ?_
  · refine Only.step (doneSignal_only ..) rfl ?_
    refine Only.step (postReply_only ..) rfl ?_
    exact Only.refl _ _
  · refine Only.step (postReply_only ..) rfl ?_
    exact Only.refl _ _

theorem endList_only (s : State) (q : Nat) (reason : Nat) (off : Nat) (step : Option Nat) : Only 0xc0080100000000200014880 s (endList s q reason off step) := by
  unfold endList
  split
  · exact Only.refl _ _
  · refine Only.step (endRun_only ..) rfl ?_
    refine Only.step (setQueue_only ..) rfl ?_
    exact Only.refl _ _

theorem advance_only (s : State) (q : Nat) (res : List Sys2Proof.W256) (step : Option Nat) : Only 0xc0080100000000200014880 s (advance s q res step) := by
  unfold advance
  split
  · exact Only.refl _ _
  · dsimp only
    refine Only.ite ?_ ?_
    · refine Only.step (endList_only ..) rfl ?_
      refine Only.step (setQueue_only ..) rfl ?_
      exact Only.refl _ _
    · refine Only.step (setQueue_only ..) rfl ?_
      exact Only.refl _ _

theorem releaseOne_only (s : State) (p : Nat) (e : Nat) : Only 0xc0080100000000200014880 s (releaseOne s p e) := by
  unfold releaseOne
  split
  · exact Only.refl _ _
  · dsimp only
    refine Only.ite ?_ ?_
    · refine Only.step (advance_only ..) rfl ?_
      exact Only.refl _ _
    · exact Only.refl _ _

theorem releaseWaits_only (s : State) (p n : Nat) : Only 0xc0080100000000200014880 s (releaseWaits s p n) := by
  induction n generalizing s with
  | zero => exact Only.refl _ _
  | succ n ih =>
    unfold releaseWaits
    refine Only.step (ih _) rfl ?_
    refine Only.foldl (fun _ _ _ => ?_) (Only.refl _ _)
    refine Only.step (releaseOne_only ..) rfl ?_
    assumption

theorem completeCmd_only (s : State) (q : Nat) (res : List Sys2Proof.W256) (step : Option Nat) : Only 0xc0080100000000200014880 s (completeCmd s q res step) := by
  unfold completeCmd
  refine Only.step (releaseWaits_only ..) rfl ?_
  refine Only.step (advance_only ..) rfl ?_
  exact Only.refl _ _

theorem refuseCmd_only (s : State) (q : Nat) (reason : Nat) (res : List Sys2Proof.W256) (step : Option Nat) : Only 0xc0080100000000200014880 s (refuseCmd s q reason res step) := by
  unfold refuseCmd
  split
  · exact Only.refl _ _
  · dsimp only
    refine Only.step (releaseWaits_only ..) rfl ?_
    refine Only.step (endList_only ..) rfl ?_
    refine Only.step (setQueue_only ..) rfl ?_
    exact Only.refl _ _

theorem returnList_only (s : State) (q : Nat) (reason : Nat) (off : Nat) (l : HostList) (res : List Sys2Proof.W256) : Only 0xc0080000000000000004000 s (returnList s q reason off l res) := by
  unfold returnList
  refine Only.step (postReply_only ..) rfl ?_
  exact Only.refl _ _

theorem returnRunning_only (s : State) (q : Nat) (reason : Nat) : Only 0xc0080000000000000004800 s (returnRunning s q reason) := by
  unfold returnRunning
  split
  · exact Only.refl _ _
  · refine Only.step (returnList_only ..) rfl ?_
    refine Only.step (setQueue_only ..) rfl ?_
    exact Only.refl _ _

theorem returnWaiting_only (s : State) (q : Nat) (reason : Nat) : Only 0xc0080000000000000004800 s (returnWaiting s q reason) := by
  unfold returnWaiting
  dsimp only
  refine Only.foldl (fun _ _ _ => ?_) ?_
  · refine Only.step (returnList_only ..) rfl ?_
    assumption
  · refine Only.step (setQueue_only ..) rfl ?_
    exact Only.refl _ _

theorem returnQueued_only (s : State) (p : Nat) (reason : Nat) : Only 0xc0080000000000000004800 s (returnQueued s p reason) := by
  unfold returnQueued
  refine Only.foldl (fun _ _ _ => ?_) ?_
  · refine Only.step (returnWaiting_only ..) rfl ?_
    assumption
  · exact Only.refl _ _

theorem beginCmd_only (s : State) (q : Nat) (aux : List Nat) : Only 0x800 s (beginCmd s q aux) := by
  unfold beginCmd
  split
  · exact Only.refl _ _
  · refine Only.step (setQueue_only ..) rfl ?_
    exact Only.refl _ _

theorem syncWrite_only (s : State) (p : Nat) (n : Nat) (v : Nat) : Only 0xc0080100000000200014880 s (syncWrite s p n v) := by
  unfold syncWrite
  refine Only.step (releaseWaits_only ..) rfl ?_
  refine Only.step (syncPut_only ..) rfl ?_
  exact Only.refl _ _

end Sys2Proof.Machine
end

