-- ==== Sys2Proof/Laws/KeepsOps.lean ====
section
/-! SUPPORT. Each operation of Machine/Ops.lean keeps: the form of the memories and the bounds of the stores. -/
namespace Sys2Proof.Machine

theorem raiseNow_keeps (s : State) (c : Cause) : Keeps s (raiseNow s c) := .mk fun k => by
  unfold raiseNow
  refine { k with log := ?_ }
  show (List.take 256 _).length ≤ 256
  simp only [List.length_take]
  omega

theorem raise_keeps (s : State) (c : Cause) : Keeps s (raise s c) := by
  unfold raise
  refine Keeps.ite ?_ ?_
  · refine Keeps.of_only (Only.set_life (m := 295147905179352825856) rfl (Only.refl _ _) _) rfl ?_
    exact Keeps.refl _
  · refine Keeps.step (raiseNow_keeps ..) ?_
    exact Keeps.refl _

theorem raiseRc_keeps (s : State) (sev : Nat) (reason : Nat) (part : Option Nat) (ukind : Nat) (unit : Nat) (detail : Nat) : Keeps s (raiseRc s sev reason part ukind unit detail) := by
  unfold raiseRc
  refine Keeps.step (raise_keeps ..) ?_
  exact Keeps.refl _

theorem syncPut_keeps (s : State) (p n v : Nat) : Keeps s (syncPut s p n v) := .mk fun k => { k with sync := FMap.wf_put k.sync }

theorem doneSignal_keeps (s : State) (p : Nat) (h : Nat) : Keeps s (doneSignal s p h) := by
  unfold doneSignal
  refine Keeps.ite ?_ ?_
  · exact Keeps.refl _
  · split
    · refine Keeps.step (syncPut_keeps ..) ?_
      exact Keeps.refl _
    · refine Keeps.step (raiseRc_keeps ..) ?_
      exact Keeps.refl _

theorem endRun_keeps (s : State) (q : Nat) (r : RunList) (reason : Nat) (off : Nat) (step : Option Nat) : Keeps s (endRun s q r reason off step) := by
  unfold endRun
  dsimp only
  refine Keeps.ite ?_ ?_
  · refine Keeps.step (doneSignal_keeps ..) ?_
    refine Keeps.of_only (postReply_only _ _ _) rfl ?_
    exact Keeps.refl _
  · refine Keeps.of_only (postReply_only _ _ _) rfl ?_
    exact Keeps.refl _

theorem endList_keeps (s : State) (q : Nat) (reason : Nat) (off : Nat) (step : Option Nat) : Keeps s (endList s q reason off step) := by
  unfold endList
  split
  · exact Keeps.refl _
  · refine Keeps.step (endRun_keeps ..) ?_
    refine Keeps.of_only (setQueue_only _ _ _) rfl ?_
    exact Keeps.refl _

theorem advance_keeps (s : State) (q : Nat) (res : List Sys2Proof.W256) (step : Option Nat) : Keeps s (advance s q res step) := by
  unfold advance
  split
  · exact Keeps.refl _
  · dsimp only
    refine Keeps.ite ?_ ?_
    · refine Keeps.step (endList_keeps ..) ?_
      refine Keeps.of_only (setQueue_only _ _ _) rfl ?_
      exact Keeps.refl _
    · refine Keeps.of_only (setQueue_only _ _ _) rfl ?_
      exact Keeps.refl _

theorem releaseOne_keeps (s : State) (p : Nat) (e : Nat) : Keeps s (releaseOne s p e) := by
  unfold releaseOne
  split
  · exact Keeps.refl _
  · dsimp only
    refine Keeps.ite ?_ ?_
    · refine Keeps.step (advance_keeps ..) ?_
      exact Keeps.refl _
    · exact Keeps.refl _

theorem releaseWaits_keeps (s : State) (p n : Nat) : Keeps s (releaseWaits s p n) := by
  induction n generalizing s with
  | zero => exact Keeps.refl _
  | succ n ih =>
    unfold releaseWaits
    refine Keeps.step (ih _) ?_
    refine Keeps.foldl (fun _ _ _ => ?_) (Keeps.refl _)
    refine Keeps.step (releaseOne_keeps ..) ?_
    assumption

theorem completeCmd_keeps (s : State) (q : Nat) (res : List Sys2Proof.W256) (step : Option Nat) : Keeps s (completeCmd s q res step) := by
  unfold completeCmd
  refine Keeps.step (releaseWaits_keeps ..) ?_
  refine Keeps.step (advance_keeps ..) ?_
  exact Keeps.refl _

theorem refuseCmd_keeps (s : State) (q : Nat) (reason : Nat) (res : List Sys2Proof.W256) (step : Option Nat) : Keeps s (refuseCmd s q reason res step) := by
  unfold refuseCmd
  split
  · exact Keeps.refl _
  · dsimp only
    refine Keeps.step (releaseWaits_keeps ..) ?_
    refine Keeps.step (endList_keeps ..) ?_
    refine Keeps.of_only (setQueue_only _ _ _) rfl ?_
    exact Keeps.refl _

theorem syncWrite_keeps (s : State) (p : Nat) (n : Nat) (v : Nat) : Keeps s (syncWrite s p n v) := by
  unfold syncWrite
  refine Keeps.step (releaseWaits_keeps ..) ?_
  refine Keeps.step (syncPut_keeps ..) ?_
  exact Keeps.refl _

end Sys2Proof.Machine
end

