-- ==== Sys2Proof/Laws/OnlyKennel.lean ====
section
/-! SUPPORT. What each operation of Machine/Kennel.lean can change, at most. -/
namespace Sys2Proof.Machine

theorem setKUnit_only (s : State) (key : Nat) (u : KUnit) : Only 0x800000000000000000 s (setKUnit s key u) := by
  unfold setKUnit
  refine Only.set_kennel rfl ?_ _
  exact Only.refl _ _

theorem kennelAdd_only (s : State) (r : KRec) : Only 0x800000000000000000 s (kennelAdd s r) := by
  unfold kennelAdd
  dsimp only
  refine Only.step (setKUnit_only ..) rfl ?_
  refine Only.set_kennel rfl ?_ _
  exact Only.refl _ _

theorem kennelEvent_only (s : State) (kind : Nat) (ukind : Nat) (unit : Nat) (sub : Nat) (reason : Nat) (detail : Nat) : Only 0x900000000000000180 s (kennelEvent s kind ukind unit sub reason detail) := by
  unfold kennelEvent
  dsimp only
  refine Only.ite ?_ ?_
  · refine Only.step (kennelAdd_only ..) rfl ?_
    exact Only.refl _ _
  · refine Only.ite ?_ ?_
    · refine Only.step (raiseRc_only ..) rfl ?_
      refine Only.step (setCond_only ..) rfl ?_
      refine Only.step (kennelAdd_only ..) rfl ?_
      refine Only.step (kennelAdd_only ..) rfl ?_
      refine Only.step (setKUnit_only ..) rfl ?_
      exact Only.refl _ _
    · refine Only.step (kennelAdd_only ..) rfl ?_
      refine Only.step (setKUnit_only ..) rfl ?_
      exact Only.refl _ _

theorem protective_only (s : State) (ukind : Nat) (unit : Nat) (reason : Nat) : Only 0x800000000000000000 s (protective s ukind unit reason) := by
  unfold protective
  refine Only.step (kennelAdd_only ..) rfl ?_
  exact Only.refl _ _

theorem partMoved_only (s : State) (ukind : Nat) (unit : Nat) : Only 0x800000000000000000 s (partMoved s ukind unit) := by
  unfold partMoved
  refine Only.step (kennelAdd_only ..) rfl ?_
  exact Only.refl _ _

theorem kennelCorrected_only (s : State) (ukind : Nat) (unit : Nat) : Only 0x800000000000000000 s (kennelCorrected s ukind unit) := by
  unfold kennelCorrected
  dsimp only
  refine Only.ite ?_ ?_
  · refine Only.step (setKUnit_only ..) rfl ?_
    exact Only.refl _ _
  · refine Only.step (kennelAdd_only ..) rfl ?_
    refine Only.step (setKUnit_only ..) rfl ?_
    exact Only.refl _ _

theorem kennelRetire_only (s : State) (ukind : Nat) (unit : Nat) (sub : Nat) : Only 0x800000000000000000 s (kennelRetire s ukind unit sub) := by
  unfold kennelRetire
  dsimp only
  refine Only.ite ?_ ?_
  · exact Only.refl _ _
  · refine Only.step (kennelAdd_only ..) rfl ?_
    refine Only.step (setKUnit_only ..) rfl ?_
    exact Only.refl _ _

theorem execKennelSuspectExpire_only (ukind : Nat) (unit : Nat) (sub : Nat) (s : State) : OnlyO 0x800000000000000000 s (execKennelSuspectExpire ukind unit sub s) := by
  unfold execKennelSuspectExpire
  dsimp only
  refine OnlyO.ite ?_ ?_
  · refine OnlyO.next ?_
    refine Only.step (kennelAdd_only ..) rfl ?_
    refine Only.step (setKUnit_only ..) rfl ?_
    exact Only.refl _ _
  · refine OnlyO.next ?_
    exact Only.refl _ _

theorem execKennelBlockCommit_only (s : State) : OnlyO 0x800000000000000000 s (execKennelBlockCommit s) := by
  unfold execKennelBlockCommit
  dsimp only
  refine OnlyO.next ?_
  refine Only.set_kennel rfl ?_ _
  exact Only.refl _ _

theorem reinstate_only {s : State} {key : Nat} {s' : State} (hq : reinstate s key = some s') : Only 0x800000000000000100 s s' := by
  unfold reinstate at hq
  dsimp only at hq
  split at hq
  · cases hq
    refine Only.step (kennelAdd_only ..) rfl ?_
    refine Only.step (setKUnit_only ..) rfl ?_
    refine Only.step (setCond_only ..) rfl ?_
    refine Only.step (setKUnit_only ..) rfl ?_
    exact Only.refl _ _
  · cases hq

end Sys2Proof.Machine
end

