-- ==== Sys2Proof/Laws/KeepsKennel.lean ====
section
/-! SUPPORT. Each operation of Machine/Kennel.lean keeps: the form of the memories and the bounds of the stores. -/
namespace Sys2Proof.Machine

theorem kennelEvent_keeps (s : State) (kind : Nat) (ukind : Nat) (unit : Nat) (sub : Nat) (reason : Nat) (detail : Nat) : Keeps s (kennelEvent s kind ukind unit sub reason detail) := by
  unfold kennelEvent
  dsimp only
  refine Keeps.ite ?_ ?_
  · refine Keeps.of_only (kennelAdd_only _ _) rfl ?_
    exact Keeps.refl _
  · refine Keeps.ite ?_ ?_
    · refine Keeps.step (raiseRc_keeps ..) ?_
      refine Keeps.of_only (setCond_only _ _ _) rfl ?_
      refine Keeps.of_only (kennelAdd_only _ _) rfl ?_
      refine Keeps.of_only (kennelAdd_only _ _) rfl ?_
      refine Keeps.of_only (setKUnit_only _ _ _) rfl ?_
      exact Keeps.refl _
    · refine Keeps.of_only (kennelAdd_only _ _) rfl ?_
      refine Keeps.of_only (setKUnit_only _ _ _) rfl ?_
      exact Keeps.refl _

end Sys2Proof.Machine
end

