-- ==== Sys2Proof/Laws/OnlyGroupOps.lean ====
section
/-! SUPPORT. What each operation of Machine/GroupOps.lean can change, at most. -/
namespace Sys2Proof.Machine

theorem setGroup_only (s : State) (p : Nat) (x : Group) : Only 0x20000000000000000000000 s (setGroup s p x) := by
  unfold setGroup
  refine Only.set_groups rfl ?_ _
  exact Only.refl _ _

theorem updGroup_only (s : State) (p : Nat) (f : Group → Group) : Only 0x20000000000000000000000 s (updGroup s p f) := by
  unfold updGroup
  refine Only.step (setGroup_only ..) rfl ?_
  exact Only.refl _ _

theorem toRank_only (s : State) (p : Nat) (r : Nat) (kind : Nat) (body : List Nat) : Only 0x80080000000000000000000 s (toRank s p r kind body) := by
  unfold toRank
  split
  · exact Only.refl _ _
  · refine Only.step (emit_only ..) rfl ?_
    exact Only.refl _ _

theorem toRanks_only (s : State) (p : Nat) (rs : List Nat) (kind : Nat) (body : List Nat) : Only 0x80080000000000000000000 s (toRanks s p rs kind body) := by
  unfold toRanks
  refine Only.foldl (fun _ _ _ => ?_) ?_
  · refine Only.step (toRank_only ..) rfl ?_
    assumption
  · exact Only.refl _ _

theorem sendMasks_only (s : State) (p : Nat) : Only 0xa0080000000000000000000 s (sendMasks s p) := by
  unfold sendMasks
  split
  · exact Only.refl _ _
  · split
    · exact Only.refl _ _
    · refine Only.ite ?_ ?_
      · refine Only.step (updGroup_only ..) rfl ?_
        refine Only.step (toRank_only ..) rfl ?_
        exact Only.refl _ _
      · exact Only.refl _ _

theorem sendCommit_only (s : State) (p : Nat) (r : StepRun) : Only 0x80080000000000000000000 s (sendCommit s p r) := by
  unfold sendCommit
  split
  · exact Only.refl _ _
  · refine Only.ite ?_ ?_
    · refine Only.step (toRanks_only ..) rfl ?_
      exact Only.refl _ _
    · exact Only.refl _ _

theorem orderRevert_only (s : State) (p : Nat) : Only 0x80080000000000000000000 s (orderRevert s p) := by
  unfold orderRevert
  refine Only.ite ?_ ?_
  · refine Only.step (toRanks_only ..) rfl ?_
    exact Only.refl _ _
  · exact Only.refl _ _

theorem finalForwards_only (s : State) (p : Nat) (sel : Nat → Bool) : Only 0xa0080000000000000000000 s (finalForwards s p sel) := by
  unfold finalForwards
  refine Only.ite ?_ ?_
  · exact Only.refl _ _
  · dsimp only
    refine Only.foldl (fun _ _ _ => ?_) ?_
    · refine Only.step (toRank_only ..) rfl ?_
      assumption
    · refine Only.step (updGroup_only ..) rfl ?_
      exact Only.refl _ _

theorem forwardCmd_only (s : State) (p : Nat) (w : Nat) : Only 0xa0080000000000000000000 s (forwardCmd s p w) := by
  unfold forwardCmd
  dsimp only
  refine Only.ite ?_ ?_
  · exact Only.refl _ _
  · refine Only.step (toRanks_only ..) rfl ?_
    refine Only.ite ?_ ?_
    · refine Only.step (updGroup_only ..) rfl ?_
      refine Only.ite ?_ ?_
      · refine Only.step (updGroup_only ..) rfl ?_
        exact Only.refl _ _
      · exact Only.refl _ _
    · refine Only.ite ?_ ?_
      · refine Only.step (updGroup_only ..) rfl ?_
        exact Only.refl _ _
      · exact Only.refl _ _

end Sys2Proof.Machine
end

