-- ==== Sys2Proof/Laws/OnlyMem.lean ====
section
/-! SUPPORT. What each operation of Machine/Mem.lean can change, at most. -/
namespace Sys2Proof.Machine

theorem spWrite_only (s : State) (t : Nat) (off : Nat) (bs : List Sys2Proof.Byte) : Only 0x7000000 s (spWrite s t off bs) := by
  unfold spWrite
  refine Only.set_sp_spErr_nonfinVec rfl rfl rfl ?_ _ _ _
  exact Only.refl _ _

theorem setAccTag_only (s : State) (t : Nat) (row : Nat) (v : Nat) : Only 0x10000000 s (setAccTag s t row v) := by
  unfold setAccTag
  refine Only.set_accTag rfl ?_ _
  exact Only.refl _ _

theorem accWriteWords_only (s : State) (t i : Nat) (l : List W32) : Only 0x48000000 s (accWriteWords s t i l) := by
  induction l generalizing s i with
  | nil => exact Only.refl _ _
  | cons v r ih =>
    unfold accWriteWords
    refine Only.step (ih _ _) rfl ?_
    refine Only.set_acc_accErr rfl rfl ?_ _ _
    exact Only.refl _ _

theorem hbmWrite_only (s : State) (f : Nat) (b : Sys2Proof.Byte) : Only 0x180000000 s (hbmWrite s f b) := by
  unfold hbmWrite
  refine Only.set_hbm_hbmErr rfl rfl ?_ _ _
  exact Only.refl _ _

end Sys2Proof.Machine
end

