-- ==== Sys2Proof/Laws/KeepsMem.lean ====
section
/-! SUPPORT. Each operation of Machine/Mem.lean keeps: the form of the memories and the bounds of the stores. -/
namespace Sys2Proof.Machine

theorem spWrite_keeps (s : State) (t off : Nat) (bs : List Byte) : Keeps s (spWrite s t off bs) := .mk fun k => { k with sp := Memory.wf_writeN k.sp }

theorem accWriteWords_keeps (s : State) (t i : Nat) (l : List W32) : Keeps s (accWriteWords s t i l) := by
  induction l generalizing s i with
  | nil => exact Keeps.refl _
  | cons v r ih =>
    unfold accWriteWords
    refine Keeps.step (ih _ _) (.mk fun k => ?_)
    exact { k with acc := FMap.wf_put k.acc }

theorem hbmWrite_keeps (s : State) (f : Nat) (b : Byte) : Keeps s (hbmWrite s f b) := .mk fun k => { k with hbm := Memory.wf_write k.hbm }

end Sys2Proof.Machine
end

