-- ==== Sys2Proof/Laws/OnlyBankOps.lean ====
section
/-! SUPPORT. What each operation of Machine/BankOps.lean can change, at most. -/
namespace Sys2Proof.Machine

theorem setBank_only (s : State) (k : Nat) (b : Bank) : Only 0x200000 s (setBank s k b) := by
  unfold setBank
  refine Only.set_banks rfl ?_ _
  exact Only.refl _ _

theorem updBank_only (s : State) (k : Nat) (f : Bank → Bank) : Only 0x200000 s (updBank s k f) := by
  unfold updBank
  refine Only.step (setBank_only ..) rfl ?_
  exact Only.refl _ _

theorem vlogOn_only (s : State) (c : Nat) : Only 0x2000000000 s (vlogOn s c) := by
  unfold vlogOn
  refine Only.ite ?_ ?_
  · exact Only.refl _ _
  · refine Only.set_pwrSince rfl ?_ _
    exact Only.refl _ _

theorem vlogOff_only (s : State) (c : Nat) : Only 0x3000000000 s (vlogOff s c) := by
  unfold vlogOff
  split
  · exact Only.refl _ _
  · refine Only.set_pwrBase_pwrSince rfl rfl ?_ _ _
    exact Only.refl _ _

theorem finishBanks_only (s : State) (q : Nat) : Only 0xc0080100000000200014880 s (finishBanks s q) := by
  unfold finishBanks
  split
  · exact Only.refl _ _
  · refine Only.ite ?_ ?_
    · split
      · refine Only.step (completeCmd_only ..) rfl ?_
        exact Only.refl _ _
      · refine Only.step (refuseCmd_only ..) rfl ?_
        exact Only.refl _ _
    · exact Only.refl _ _

theorem bankDone_only (s : State) (k : Nat) (reason : Nat) (cells : Nat) : Only 0xc0080100000000200214880 s (bankDone s k reason cells) := by
  unfold bankDone
  dsimp only
  refine Only.foldl (fun _ _ _ => ?_) ?_
  · split
    · assumption
    · refine Only.ite ?_ ?_
      · refine Only.step (finishBanks_only ..) rfl ?_
        refine Only.step (setQueue_only ..) rfl ?_
        assumption
      · assumption
  · refine Only.step (updBank_only ..) rfl ?_
    exact Only.refl _ _

theorem calAbort_only (s : State) (k : Nat) (reason : Nat) : Only 0xc0080100000000200214880 s (calAbort s k reason) := by
  unfold calAbort
  dsimp only
  refine Only.ite ?_ ?_
  · refine Only.step (bankDone_only ..) rfl ?_
    refine Only.step (updBank_only ..) rfl ?_
    exact Only.refl _ _
  · refine Only.ite ?_ ?_
    · refine Only.step (bankDone_only ..) rfl ?_
      refine Only.step (updBank_only ..) rfl ?_
      exact Only.refl _ _
    · exact Only.refl _ _

theorem loadTable_only (s : State) (k : Nat) : Only 0x200000 s (loadTable s k) := by
  unfold loadTable
  dsimp only
  refine Only.step (updBank_only ..) rfl ?_
  exact Only.refl _ _

theorem startFit_only (s : State) (k : Nat) : Only 0x200000 s (startFit s k) := by
  unfold startFit
  dsimp only
  refine Only.step (updBank_only ..) rfl ?_
  exact Only.refl _ _

theorem fitMoved_only (s : State) (k : Nat) : Only 0xc0080100000000200214880 s (fitMoved s k) := by
  unfold fitMoved
  refine Only.ite ?_ ?_
  · refine Only.step (startFit_only ..) rfl ?_
    exact Only.refl _ _
  · refine Only.step (calAbort_only ..) rfl ?_
    exact Only.refl _ _

theorem latchTile_only (s : State) (t : Nat) : Only 0xc0080100000000200a14880 s (latchTile s t) := by
  unfold latchTile
  dsimp only
  refine Only.foldl (fun _ _ _ => ?_) ?_
  · refine Only.step (fitMoved_only ..) rfl ?_
    assumption
  · refine Only.foldl (fun _ _ _ => ?_) ?_
    · refine Only.step (updBank_only ..) rfl ?_
      assumption
    · refine Only.set_latch rfl ?_ _
      exact Only.refl _ _

theorem applySwap_only (s : State) (p : Nat) : Only 0xc0080100000000200614c80 s (applySwap s p) := by
  unfold applySwap
  dsimp only
  refine Only.ite ?_ ?_
  · exact Only.refl _ _
  · refine Only.step (updPart_only ..) rfl ?_
    refine Only.foldl (fun _ _ _ => ?_) ?_
    · refine Only.step (bankDone_only ..) rfl ?_
      refine Only.step (updBank_only ..) rfl ?_
      refine Only.step (loadTable_only ..) rfl ?_
      refine Only.set_bankMap rfl ?_ _
      refine Only.step (updBank_only ..) rfl ?_
      refine Only.step (updBank_only ..) rfl ?_
      assumption
    · exact Only.refl _ _

end Sys2Proof.Machine
end

