-- ==== Sys2Proof/Laws/KeepsBankOps.lean ====
section
/-! SUPPORT. Each operation of Machine/BankOps.lean keeps: the form of the memories and the bounds of the stores. -/
namespace Sys2Proof.Machine

theorem finishBanks_keeps (s : State) (q : Nat) : Keeps s (finishBanks s q) := by
  unfold finishBanks
  split
  · exact Keeps.refl _
  · refine Keeps.ite ?_ ?_
    · split
      · refine Keeps.step (completeCmd_keeps ..) ?_
        exact Keeps.refl _
      · refine Keeps.step (refuseCmd_keeps ..) ?_
        exact Keeps.refl _
    · exact Keeps.refl _

theorem bankDone_keeps (s : State) (k : Nat) (reason : Nat) (cells : Nat) : Keeps s (bankDone s k reason cells) := by
  unfold bankDone
  dsimp only
  refine Keeps.foldl (fun _ _ _ => ?_) ?_
  · split
    · assumption
    · refine Keeps.ite ?_ ?_
      · refine Keeps.step (finishBanks_keeps ..) ?_
        refine Keeps.of_only (setQueue_only _ _ _) rfl ?_
        assumption
      · assumption
  · refine Keeps.of_only (updBank_only _ _ _) rfl ?_
    exact Keeps.refl _

theorem calAbort_keeps (s : State) (k : Nat) (reason : Nat) : Keeps s (calAbort s k reason) := by
  unfold calAbort
  dsimp only
  refine Keeps.ite ?_ ?_
  · refine Keeps.step (bankDone_keeps ..) ?_
    refine Keeps.of_only (updBank_only _ _ _) rfl ?_
    exact Keeps.refl _
  · refine Keeps.ite ?_ ?_
    · refine Keeps.step (bankDone_keeps ..) ?_
      refine Keeps.of_only (updBank_only _ _ _) rfl ?_
      exact Keeps.refl _
    · exact Keeps.refl _

theorem fitMoved_keeps (s : State) (k : Nat) : Keeps s (fitMoved s k) := by
  unfold fitMoved
  refine Keeps.ite ?_ ?_
  · refine Keeps.of_only (startFit_only _ _) rfl ?_
    exact Keeps.refl _
  · refine Keeps.step (calAbort_keeps ..) ?_
    exact Keeps.refl _

theorem latchTile_keeps (s : State) (t : Nat) : Keeps s (latchTile s t) := by
  unfold latchTile
  dsimp only
  refine Keeps.foldl (fun _ _ _ => ?_) ?_
  · refine Keeps.step (fitMoved_keeps ..) ?_
    assumption
  · refine Keeps.foldl (fun _ _ _ => ?_) ?_
    · refine Keeps.of_only (updBank_only _ _ _) rfl ?_
      assumption
    · refine Keeps.of_only (Only.set_latch (m := 8388608) rfl (Only.refl _ _) _) rfl ?_
      exact Keeps.refl _

theorem applySwap_keeps (s : State) (p : Nat) : Keeps s (applySwap s p) := by
  unfold applySwap
  dsimp only
  refine Keeps.ite ?_ ?_
  · exact Keeps.refl _
  · refine Keeps.of_only (updPart_only _ _ _) rfl ?_
    refine Keeps.foldl (fun _ _ _ => ?_) ?_
    · refine Keeps.step (bankDone_keeps ..) ?_
      refine Keeps.of_only (updBank_only _ _ _) rfl ?_
      refine Keeps.of_only (loadTable_only _ _) rfl ?_
      refine Keeps.of_only (Only.set_bankMap (m := 4194304) rfl (Only.refl _ _) _) rfl ?_
      refine Keeps.of_only (updBank_only _ _ _) rfl ?_
      refine Keeps.of_only (updBank_only _ _ _) rfl ?_
      assumption
    · exact Keeps.refl _

end Sys2Proof.Machine
end

