-- ==== Sys2Proof/Laws/OnlyKvOps.lean ====
section
/-! SUPPORT. What each operation of Machine/KvOps.lean can change, at most. -/
namespace Sys2Proof.Machine

theorem putSet_only (s : State) (p : Nat) (g : Nat) (n : Nat) (st : Nat) (rc : Nat) : Only 0x40000 s (putSet s p g n st rc) := by
  unfold putSet
  refine Only.set_kvSets rfl ?_ _
  exact Only.refl _ _

theorem dropRef_only (s : State) (p : Nat) (g : Nat) (n : Nat) : Only 0x40000 s (dropRef s p g n) := by
  unfold dropRef
  dsimp only
  refine Only.ite ?_ ?_
  · refine Only.step (putSet_only ..) rfl ?_
    exact Only.refl _ _
  · refine Only.step (putSet_only ..) rfl ?_
    exact Only.refl _ _

theorem addRef_only (s : State) (p : Nat) (g : Nat) (n : Nat) : Only 0x40000 s (addRef s p g n) := by
  unfold addRef
  refine Only.step (putSet_only ..) rfl ?_
  exact Only.refl _ _

theorem closeSeq_only (s : State) (p : Nat) (q : Nat) : Only 0x60000 s (closeSeq s p q) := by
  unfold closeSeq
  split
  · exact Only.refl _ _
  · dsimp only
    refine Only.step (delSeq_only ..) rfl ?_
    refine Only.foldl (fun _ _ _ => ?_) ?_
    · refine Only.foldl (fun _ _ _ => ?_) ?_
      · refine Only.step (dropRef_only ..) rfl ?_
        assumption
      · assumption
    · exact Only.refl _ _

theorem kvPalloc_only {s : State} {p : Nat} {q : Nat} {g : Nat} {n : Nat} {s' : State} (hq : kvPalloc s p q g n = .inr s') : Only 0x60000 s s' := by
  unfold kvPalloc at hq
  dsimp only at hq
  split at hq
  · cases hq
  · split at hq
    · cases hq
    · split at hq
      · cases hq
      · obtain rfl := Sum.inr.inj hq
        refine Only.step (setSeq_only ..) rfl ?_
        refine Only.foldl (fun _ _ _ => ?_) ?_
        · refine Only.step (putSet_only ..) rfl ?_
          assumption
        · exact Only.refl _ _

theorem kvPfree_only {s : State} {p : Nat} {q : Nat} {g : Nat} {fromPos : Nat} {s' : State} (hq : kvPfree s p q g fromPos = .inr s') : Only 0x60000 s s' := by
  unfold kvPfree at hq
  split at hq
  · cases hq
  · split at hq
    · cases hq
    · dsimp only at hq
      obtain rfl := Sum.inr.inj hq
      refine Only.step (setSeq_only ..) rfl ?_
      refine Only.foldl (fun _ _ _ => ?_) ?_
      · refine Only.step (dropRef_only ..) rfl ?_
        assumption
      · exact Only.refl _ _

theorem kvPtedit_only {s : State} {p : Nat} {q : Nat} {g : Nat} {index : Nat} {page : Nat} {s' : State} (hq : kvPtedit s p q g index page = .inr s') : Only 0x60000 s s' := by
  unfold kvPtedit at hq
  dsimp only at hq
  split at hq
  · cases hq
  · split at hq
    · cases hq
    · split at hq
      · cases hq
      · split at hq
        · cases hq
        · split at hq
          · split at hq
            · cases hq
            · obtain rfl := Sum.inr.inj hq
              refine Only.step (setSeq_only ..) rfl ?_
              refine Only.step (addRef_only ..) rfl ?_
              exact Only.refl _ _
          · obtain rfl := Sum.inr.inj hq
            refine Only.step (setSeq_only ..) rfl ?_
            refine Only.step (dropRef_only ..) rfl ?_
            refine Only.step (addRef_only ..) rfl ?_
            exact Only.refl _ _

theorem kvPshare_only {s : State} {p : Nat} {q : Nat} {src : Nat} {npos : Nat} {s' : State} (hq : kvPshare s p q src npos = .inr s') : Only 0x60000 s s' := by
  unfold kvPshare at hq
  dsimp only at hq
  split at hq
  · split at hq
    · cases hq
    · obtain rfl := Sum.inr.inj hq
      refine Only.step (setSeq_only ..) rfl ?_
      refine Only.foldl (fun _ _ _ => ?_) ?_
      · refine Only.foldl (fun _ _ _ => ?_) ?_
        · refine Only.step (addRef_only ..) rfl ?_
          assumption
        · assumption
      · exact Only.refl _ _
  · cases hq

theorem untagRange_only (s : State) (p : Nat) (page : Nat) (n : Nat) (keep : Option Nat) : Only 0x80000 s (untagRange s p page n keep) := by
  unfold untagRange
  dsimp only
  refine Only.set_ringTags rfl ?_ _
  exact Only.refl _ _

theorem untagSet_only (s : State) (p : Nat) (g : Nat) (n : Nat) : Only 0x80000 s (untagSet s p g n) := by
  unfold untagSet
  dsimp only
  refine Only.step (untagRange_only ..) rfl ?_
  exact Only.refl _ _

theorem allocIndex_only (p g len : Nat) (i : Nat × Nat) (a : State × Seq × SlotB × List (Nat × Nat × Nat × Nat × Nat)) :
    Only 0xc0020 a.1 (allocIndex p g len a i).1 := by
  obtain ⟨s, x, b, cs⟩ := a
  unfold allocIndex
  dsimp only
  split
  · refine Only.step (untagSet_only ..) rfl ?_
    exact Only.step (putSet_only ..) rfl (Only.refl _ _)
  · refine Only.step (addObj_only ..) rfl ?_
    refine Only.step (untagSet_only ..) rfl ?_
    refine Only.step (putSet_only ..) rfl ?_
    exact Only.step (dropRef_only ..) rfl (Only.refl _ _)
  · exact Only.refl _ _

theorem allocIndices_only (p len : Nat) (plan : List (Nat × List (Nat × Nat))) (a : State × Seq × SlotB × List (Nat × Nat × Nat × Nat × Nat)) :
    Only 0xc0020 a.1 (plan.foldl (fun a g => g.2.foldl (allocIndex p g.1 len) a) a).1 := by
  refine Only.foldl_by (g := fun x : State × Seq × SlotB × List (Nat × Nat × Nat × Nat × Nat) => x.1) (fun b g h => ?_) (Only.refl _ _)
  refine Only.foldl_by (g := fun x : State × Seq × SlotB × List (Nat × Nat × Nat × Nat × Nat) => x.1) (fun c i k => ?_) h
  exact Only.step (allocIndex_only ..) rfl k

theorem allocSlot_only (p : Nat) (s : State) (r : StepRun) (b : SlotB) : Only 0x1000000000000e00a0 s (allocSlot p s r b).1 := by
  unfold allocSlot
  dsimp only
  rw [apply_ite Prod.fst]
  refine Only.ite (Only.refl _ _) ?_
  split
  · exact Only.refl _ _
  · rw [apply_ite Prod.fst]
    refine Only.ite ?_ ?_
    · refine Only.ite ?_ ?_
      · exact Only.step (addObj_only ..) rfl (Only.refl _ _)
      · refine Only.step (raise_only ..) rfl ?_
        exact Only.step (addObj_only ..) rfl (Only.refl _ _)
    · refine Only.step (setSeq_only ..) rfl ?_
      refine Only.step (t := s) (allocIndices_only p b.len _ (s, _, b, [])) rfl ?_
      exact Only.refl _ _

theorem allocCall_only (s : State) (p : Nat) : Only 0xa00801000000000000e04a0 s (allocCall s p) := by
  unfold allocCall
  split
  · exact Only.refl _ _
  · dsimp only
    refine Only.step (sendMasks_only ..) rfl ?_
    refine Only.step (updPart_only ..) rfl ?_
    refine Only.foldl_by (g := fun x : State × StepRun × List SlotB => x.1) (fun a b h => ?_) (Only.refl _ _)
    exact Only.step (allocSlot_only ..) rfl h

theorem undoSlot_only (p : Nat) (s : State) (b : SlotB) : Only 0x60000 s (undoSlot p s b) := by
  unfold undoSlot
  refine Only.foldl (fun _ _ _ => ?_) ?_
  · split
    split
    · assumption
    · dsimp only
      refine Only.ite ?_ ?_
      · refine Only.step (setSeq_only ..) rfl ?_
        refine Only.step (putSet_only ..) rfl ?_
        assumption
      · refine Only.step (setSeq_only ..) rfl ?_
        refine Only.step (addRef_only ..) rfl ?_
        refine Only.step (putSet_only ..) rfl ?_
        assumption
  · exact Only.refl _ _

theorem poolWrite_only (s : State) (p : Nat) (page : Nat) (off : Nat) (b : Sys2Proof.Byte) : Only 0x180000000 s (poolWrite s p page off b) := by
  unfold poolWrite
  split
  · exact Only.refl _ _
  · refine Only.step (hbmWrite_only ..) rfl ?_
    exact Only.refl _ _

theorem fillRing_only (s : State) (p : Nat) (k : KvTile) (gi : Nat) (slot : Nat) (i : Nat) (src : Nat) (page : Nat) : Only 0x7080020 s (fillRing s p k gi slot i src page) := by
  unfold fillRing
  dsimp only
  split
  · exact Only.refl _ _
  · refine Only.set_ringTags rfl ?_ _
    refine Only.step (addObj_only ..) rfl ?_
    refine Only.step (addObj_only ..) rfl ?_
    refine Only.step (addObj_only ..) rfl ?_
    refine Only.step (spWrite_only ..) rfl ?_
    exact Only.refl _ _

theorem prepareIndex_only (p : Nat) (b : SlotB) (k : KvTile) (gi : Nat) (s : State) (i : Nat) : Only 0x180000 s (prepareIndex p b k gi s i) := by
  unfold prepareIndex
  dsimp only
  split
  · split
    · refine Only.ite ?_ ?_
      · refine Only.set_ringTags rfl ?_ _
        exact Only.refl _ _
      · refine Only.set_fills rfl ?_ _
        exact Only.refl _ _
    · refine Only.ite ?_ ?_
      · exact Only.refl _ _
      · refine Only.set_fills rfl ?_ _
        exact Only.refl _ _
  · exact Only.refl _ _

theorem prepareRings_only (s : State) (p : Nat) : Only 0x180000 s (prepareRings s p) := by
  unfold prepareRings
  split
  · exact Only.refl _ _
  · refine Only.foldl (fun _ _ _ => ?_) ?_
    · refine Only.ite ?_ ?_
      · assumption
      · refine Only.foldl (fun _ _ _ => ?_) ?_
        · split
          · assumption
          · refine Only.foldl (fun _ _ _ => ?_) ?_
            · refine Only.step (prepareIndex_only ..) rfl ?_
              assumption
            · assumption
        · assumption
    · exact Only.refl _ _

theorem invalidateStepTags_only (s : State) (p : Nat) (r : StepRun) : Only 0x180000 s (invalidateStepTags s p r) := by
  unfold invalidateStepTags
  dsimp only
  refine Only.set_ringTags_fills rfl rfl ?_ _ _
  exact Only.refl _ _

theorem moveEntry_only (pl : Placement) (k : KvTile) (g : KvGroup) (slot : Nat) (src : Nat) (dst : Nat) (s : State) : Only 0x7000000 s (moveEntry pl k g slot src dst s) := by
  unfold moveEntry
  split
  · exact Only.refl _ _
  · refine Only.foldl (fun _ _ _ => ?_) ?_
    · refine Only.step (spWrite_only ..) rfl ?_
      assumption
    · exact Only.refl _ _

theorem writeThrough_only (p : Nat) (b : SlotB) (k : KvTile) (gi : Nat) (pos : Nat) (s : State) : Only 0x180080020 s (writeThrough p b k gi pos s) := by
  unfold writeThrough
  dsimp only
  split
  · refine Only.foldl (fun _ _ _ => ?_) ?_
    · refine Only.foldl (fun _ _ _ => ?_) ?_
      · refine Only.step (poolWrite_only ..) rfl ?_
        assumption
      · assumption
    · refine Only.step (addObj_only ..) rfl ?_
      refine Only.step (untagRange_only ..) rfl ?_
      exact Only.refl _ _
  · exact Only.refl _ _

theorem commitSlot_only (p : Nat) (s : State) (b : SlotB) : Only 0x1870a0020 s (commitSlot p s b) := by
  unfold commitSlot
  refine Only.ite ?_ ?_
  · exact Only.refl _ _
  · dsimp only
    split
    · refine Only.foldl (fun _ _ _ => ?_) ?_
      · split
        · assumption
        · refine Only.foldl (fun _ _ _ => ?_) ?_
          · refine Only.step (writeThrough_only ..) rfl ?_
            assumption
          · refine Only.foldl (fun _ _ _ => ?_) ?_
            · refine Only.ite ?_ ?_
              · assumption
              · refine Only.step (moveEntry_only ..) rfl ?_
                assumption
            · assumption
      · exact Only.refl _ _
    · refine Only.step (setSeq_only ..) rfl ?_
      refine Only.foldl (fun _ _ _ => ?_) ?_
      · split
        · assumption
        · refine Only.foldl (fun _ _ _ => ?_) ?_
          · refine Only.step (writeThrough_only ..) rfl ?_
            assumption
          · refine Only.foldl (fun _ _ _ => ?_) ?_
            · refine Only.ite ?_ ?_
              · assumption
              · refine Only.step (moveEntry_only ..) rfl ?_
                assumption
            · assumption
      · exact Only.refl _ _

theorem returnSets_only (p : Nat) (s : State) (b : SlotB) : Only 0x60000 s (returnSets p s b) := by
  unfold returnSets
  refine Only.foldl (fun _ _ _ => ?_) ?_
  · split
    split
    · assumption
    · refine Only.ite ?_ ?_
      · refine Only.step (setSeq_only ..) rfl ?_
        refine Only.step (putSet_only ..) rfl ?_
        assumption
      · refine Only.step (putSet_only ..) rfl ?_
        assumption
  · exact Only.refl _ _

theorem copySet_only (s : State) (p : Nat) (g : Nat) (src : Nat) (dst : Nat) (lo : Nat) (hi : Nat) : Only 0x180000020 s (copySet s p g src dst lo hi) := by
  unfold copySet
  dsimp only
  refine Only.foldl (fun _ _ _ => ?_) ?_
  · refine Only.foldl (fun _ _ _ => ?_) ?_
    · refine Only.foldl (fun _ _ _ => ?_) ?_
      · refine Only.foldl (fun _ _ _ => ?_) ?_
        · refine Only.step (poolWrite_only ..) rfl ?_
          assumption
        · assumption
      · assumption
    · assumption
  · refine Only.step (addObj_only ..) rfl ?_
    refine Only.step (addObj_only ..) rfl ?_
    exact Only.refl _ _

theorem pvaWrite_only (s : State) (p : Nat) (va : Nat) (bs : List Sys2Proof.Byte) : Only 0x187000000 s (pvaWrite s p va bs) := by
  unfold pvaWrite
  dsimp only
  split
  · split
    · exact Only.refl _ _
    · refine Only.step (spWrite_only ..) rfl ?_
      exact Only.refl _ _
  · refine Only.foldl (fun _ _ _ => ?_) ?_
    · split
      · assumption
      · refine Only.step (hbmWrite_only ..) rfl ?_
        assumption
    · exact Only.refl _ _
  · refine Only.foldl (fun _ _ _ => ?_) ?_
    · split
      · assumption
      · refine Only.step (hbmWrite_only ..) rfl ?_
        assumption
    · exact Only.refl _ _
  · exact Only.refl _ _

end Sys2Proof.Machine
end

