-- ==== Sys2Proof/Laws/KeepsKvOps.lean ====
section
/-! SUPPORT. Each operation of Machine/KvOps.lean keeps: the form of the memories and the bounds of the stores. -/
namespace Sys2Proof.Machine

theorem allocSlot_keeps (p : Nat) (s : State) (r : StepRun) (b : SlotB) : Keeps s (allocSlot p s r b).1 := by
  unfold allocSlot
  dsimp only
  rw [apply_ite Prod.fst]
  refine Keeps.ite (Keeps.refl _) ?_
  split
  · exact Keeps.refl _
  · rw [apply_ite Prod.fst]
    refine Keeps.ite ?_ ?_
    · refine Keeps.ite ?_ ?_
      · exact Keeps.of_only (addObj_only ..) rfl (Keeps.refl _)
      · refine Keeps.step (raise_keeps ..) ?_
        exact Keeps.of_only (addObj_only ..) rfl (Keeps.refl _)
    · refine Keeps.of_only (setSeq_only ..) rfl ?_
      refine Keeps.of_only (allocIndices_only p b.len _ (s, _, b, [])) rfl ?_
      exact Keeps.refl _

theorem allocCall_keeps (s : State) (p : Nat) : Keeps s (allocCall s p) := by
  unfold allocCall
  split
  · exact Keeps.refl _
  · dsimp only
    refine Keeps.of_only (sendMasks_only ..) rfl ?_
    refine Keeps.of_only (updPart_only ..) rfl ?_
    refine Keeps.foldl_by (g := fun x : State × StepRun × List SlotB => x.1) (fun a b h => ?_) (Keeps.refl _)
    exact Keeps.step (allocSlot_keeps ..) h

theorem poolWrite_keeps (s : State) (p : Nat) (page : Nat) (off : Nat) (b : Sys2Proof.Byte) : Keeps s (poolWrite s p page off b) := by
  unfold poolWrite
  split
  · exact Keeps.refl _
  · refine Keeps.step (hbmWrite_keeps ..) ?_
    exact Keeps.refl _

theorem fillRing_keeps (s : State) (p : Nat) (k : KvTile) (gi : Nat) (slot : Nat) (i : Nat) (src : Nat) (page : Nat) : Keeps s (fillRing s p k gi slot i src page) := by
  unfold fillRing
  dsimp only
  split
  · exact Keeps.refl _
  · refine Keeps.of_only (Only.set_ringTags (m := 524288) rfl (Only.refl _ _) _) rfl ?_
    refine Keeps.of_only (addObj_only _ _ _ _ _ _) rfl ?_
    refine Keeps.of_only (addObj_only _ _ _ _ _ _) rfl ?_
    refine Keeps.of_only (addObj_only _ _ _ _ _ _) rfl ?_
    refine Keeps.step (spWrite_keeps ..) ?_
    exact Keeps.refl _

theorem moveEntry_keeps (pl : Placement) (k : KvTile) (g : KvGroup) (slot : Nat) (src : Nat) (dst : Nat) (s : State) : Keeps s (moveEntry pl k g slot src dst s) := by
  unfold moveEntry
  split
  · exact Keeps.refl _
  · refine Keeps.foldl (fun _ _ _ => ?_) ?_
    · refine Keeps.step (spWrite_keeps ..) ?_
      assumption
    · exact Keeps.refl _

theorem writeThrough_keeps (p : Nat) (b : SlotB) (k : KvTile) (gi : Nat) (pos : Nat) (s : State) : Keeps s (writeThrough p b k gi pos s) := by
  unfold writeThrough
  dsimp only
  split
  · refine Keeps.foldl (fun _ _ _ => ?_) ?_
    · refine Keeps.foldl (fun _ _ _ => ?_) ?_
      · refine Keeps.step (poolWrite_keeps ..) ?_
        assumption
      · assumption
    · refine Keeps.of_only (addObj_only _ _ _ _ _ _) rfl ?_
      refine Keeps.of_only (untagRange_only _ _ _ _ _) rfl ?_
      exact Keeps.refl _
  · exact Keeps.refl _

theorem commitSlot_keeps (p : Nat) (s : State) (b : SlotB) : Keeps s (commitSlot p s b) := by
  unfold commitSlot
  refine Keeps.ite ?_ ?_
  · exact Keeps.refl _
  · dsimp only
    split
    · refine Keeps.foldl (fun _ _ _ => ?_) ?_
      · split
        · assumption
        · refine Keeps.foldl (fun _ _ _ => ?_) ?_
          · refine Keeps.step (writeThrough_keeps ..) ?_
            assumption
          · refine Keeps.foldl (fun _ _ _ => ?_) ?_
            · refine Keeps.ite ?_ ?_
              · assumption
              · refine Keeps.step (moveEntry_keeps ..) ?_
                assumption
            · assumption
      · exact Keeps.refl _
    · refine Keeps.of_only (setSeq_only _ _ _ _) rfl ?_
      refine Keeps.foldl (fun _ _ _ => ?_) ?_
      · split
        · assumption
        · refine Keeps.foldl (fun _ _ _ => ?_) ?_
          · refine Keeps.step (writeThrough_keeps ..) ?_
            assumption
          · refine Keeps.foldl (fun _ _ _ => ?_) ?_
            · refine Keeps.ite ?_ ?_
              · assumption
              · refine Keeps.step (moveEntry_keeps ..) ?_
                assumption
            · assumption
      · exact Keeps.refl _

theorem copySet_keeps (s : State) (p : Nat) (g : Nat) (src : Nat) (dst : Nat) (lo : Nat) (hi : Nat) : Keeps s (copySet s p g src dst lo hi) := by
  unfold copySet
  dsimp only
  refine Keeps.foldl (fun _ _ _ => ?_) ?_
  · refine Keeps.foldl (fun _ _ _ => ?_) ?_
    · refine Keeps.foldl (fun _ _ _ => ?_) ?_
      · refine Keeps.foldl (fun _ _ _ => ?_) ?_
        · refine Keeps.step (poolWrite_keeps ..) ?_
          assumption
        · assumption
      · assumption
    · assumption
  · refine Keeps.of_only (addObj_only _ _ _ _ _ _) rfl ?_
    refine Keeps.of_only (addObj_only _ _ _ _ _ _) rfl ?_
    exact Keeps.refl _

theorem pvaWrite_keeps (s : State) (p : Nat) (va : Nat) (bs : List Sys2Proof.Byte) : Keeps s (pvaWrite s p va bs) := by
  unfold pvaWrite
  dsimp only
  split
  · split
    · exact Keeps.refl _
    · refine Keeps.step (spWrite_keeps ..) ?_
      exact Keeps.refl _
  · refine Keeps.foldl (fun _ _ _ => ?_) ?_
    · split
      · assumption
      · refine Keeps.step (hbmWrite_keeps ..) ?_
        assumption
    · exact Keeps.refl _
  · refine Keeps.foldl (fun _ _ _ => ?_) ?_
    · split
      · assumption
      · refine Keeps.step (hbmWrite_keeps ..) ?_
        assumption
    · exact Keeps.refl _
  · exact Keeps.refl _

end Sys2Proof.Machine
end

