-- ==== Sys2Proof/Laws/OnlyLists.lean ====
section
/-! SUPPORT. What each operation of Machine/Lists.lean can change, at most. -/
namespace Sys2Proof.Machine

theorem execCommandListSubmit_only (ses : Nat) (q : Nat) (ws : List Sys2Proof.W256) (s : State) : OnlyO 0x80080000000000000000800 s (execCommandListSubmit ses q ws s) := by
  unfold execCommandListSubmit
  refine OnlyO.ite ?_ ?_
  · exact OnlyO.fault _ _ _
  · dsimp only
    split
    · refine OnlyO.next ?_
      refine Only.step (reply_only ..) rfl ?_
      exact Only.refl _ _
    · refine OnlyO.ite ?_ ?_
      · refine OnlyO.next ?_
        refine Only.step (setQueue_only ..) rfl ?_
        refine Only.step (reply_only ..) rfl ?_
        exact Only.refl _ _
      · refine OnlyO.next ?_
        refine Only.step (setQueue_only ..) rfl ?_
        refine Only.step (reply_only ..) rfl ?_
        exact Only.refl _ _

theorem execListDispatch_only (q : Nat) (s : State) : OnlyO 0x800 s (execListDispatch q s) := by
  unfold execListDispatch
  refine OnlyO.ite ?_ ?_
  · exact OnlyO.fault _ _ _
  · split
    · refine OnlyO.ite ?_ ?_
      · refine OnlyO.next ?_
        refine Only.step (setQueue_only ..) rfl ?_
        exact Only.refl _ _
      · refine OnlyO.next ?_
        exact Only.refl _ _
    · refine OnlyO.next ?_
      exact Only.refl _ _

theorem turnOver_only (s : State) (q : Nat) (pos : Nat) : Only 0x2000 s (turnOver s q pos) := by
  unfold turnOver
  refine Only.ite ?_ ?_
  · refine Only.set_arb rfl ?_ _
    exact Only.refl _ _
  · exact Only.refl _ _

theorem withCommand_only {m : Nat} {s0 s : State} {q op : Nat} {f : RunList → Nat → State} (hf : ∀ r w, Only m s0 (f r w))
    (w : 0xc0080100000000200016880 &&& m = 0xc0080100000000200016880) (h : Only m s0 s) : OnlyO m s0 (withCommand s q op f) := by
  have turn : ∀ (u : State) (k : Nat), Only m s0 u → Only m s0 (turnOver u q k) := fun u k g =>
    Only.step ((turnOver_only ..).mono (m := 0xc0080100000000200016880) rfl) w g
  have refuse : ∀ e, Only m s0 (refuseCmd s q e) := fun e => Only.step ((refuseCmd_only ..).mono (m := 0xc0080100000000200016880) rfl) w h
  unfold withCommand
  refine OnlyO.ite (OnlyO.fault _ _ _) ?_
  split
  · exact OnlyO.next h
  · exact OnlyO.ite (OnlyO.next h) (OnlyO.ite (OnlyO.next (turn _ _ (refuse _))) (OnlyO.ite (OnlyO.next (turn _ _ (refuse _)))
      (OnlyO.next (turn _ _ (hf _ _)))))


theorem execWait_only (q : Nat) (s : State) : OnlyO 0xc0080100000000200016880 s (execWait q s) := by
  unfold execWait
  refine withCommand_only (fun _ _ => ?_) rfl ?_
  · refine Only.ite ?_ ?_
    · refine Only.step (completeCmd_only ..) rfl ?_
      exact Only.refl _ _
    · refine Only.step (beginCmd_only ..) rfl ?_
      exact Only.refl _ _
  · exact Only.refl _ _

theorem execSignalAdd_only (q : Nat) (s : State) : OnlyO 0xc0080100000000200016880 s (execSignalAdd q s) := by
  unfold execSignalAdd
  refine withCommand_only (fun _ _ => ?_) rfl ?_
  · refine Only.ite ?_ ?_
    · exact Only.refl _ _
    · split
      · refine Only.step (refuseCmd_only ..) rfl ?_
        exact Only.refl _ _
      · refine Only.step (completeCmd_only ..) rfl ?_
        refine Only.step (syncWrite_only ..) rfl ?_
        exact Only.refl _ _
  · exact Only.refl _ _

theorem execSignalSet_only (q : Nat) (s : State) : OnlyO 0xc0080100000000200016880 s (execSignalSet q s) := by
  unfold execSignalSet
  refine withCommand_only (fun _ _ => ?_) rfl ?_
  · refine Only.ite ?_ ?_
    · refine Only.step (completeCmd_only ..) rfl ?_
      refine Only.step (syncWrite_only ..) rfl ?_
      exact Only.refl _ _
    · exact Only.refl _ _
  · exact Only.refl _ _

end Sys2Proof.Machine
end

