-- ==== Sys2Proof/Laws/KeepsLists.lean ====
section
/-! SUPPORT. Each operation of Machine/Lists.lean keeps: the form of the memories and the bounds of the stores. -/
namespace Sys2Proof.Machine

theorem withCommand_keeps {s0 s : State} {q op : Nat} {f : RunList → Nat → State} (hf : ∀ r w, Keeps s0 (f r w))
    (h : Keeps s0 s) : KeepsO s0 (withCommand s q op f) := by
  have turn : ∀ (u : State) (k : Nat), Keeps s0 u → Keeps s0 (turnOver u q k) := fun u k g => Keeps.of_only (turnOver_only ..) rfl g
  have refuse : ∀ e, Keeps s0 (refuseCmd s q e) := fun e => Keeps.step (refuseCmd_keeps ..) h
  unfold withCommand
  refine KeepsO.ite (KeepsO.fault _ _) ?_
  split
  · exact KeepsO.next h
  · exact KeepsO.ite (KeepsO.next h) (KeepsO.ite (KeepsO.next (turn _ _ (refuse _))) (KeepsO.ite (KeepsO.next (turn _ _ (refuse _)))
      (KeepsO.next (turn _ _ (hf _ _)))))


theorem execWait_keeps (q : Nat) (s : State) : KeepsO s (execWait q s) := by
  unfold execWait
  refine withCommand_keeps (fun _ _ => ?_) ?_
  · refine Keeps.ite ?_ ?_
    · refine Keeps.step (completeCmd_keeps ..) ?_
      exact Keeps.refl _
    · refine Keeps.of_only (beginCmd_only _ _ _) rfl ?_
      exact Keeps.refl _
  · exact Keeps.refl _

theorem execSignalAdd_keeps (q : Nat) (s : State) : KeepsO s (execSignalAdd q s) := by
  unfold execSignalAdd
  refine withCommand_keeps (fun _ _ => ?_) ?_
  · refine Keeps.ite ?_ ?_
    · exact Keeps.refl _
    · split
      · refine Keeps.step (refuseCmd_keeps ..) ?_
        exact Keeps.refl _
      · refine Keeps.step (completeCmd_keeps ..) ?_
        refine Keeps.step (syncWrite_keeps ..) ?_
        exact Keeps.refl _
  · exact Keeps.refl _

theorem execSignalSet_keeps (q : Nat) (s : State) : KeepsO s (execSignalSet q s) := by
  unfold execSignalSet
  refine withCommand_keeps (fun _ _ => ?_) ?_
  · refine Keeps.ite ?_ ?_
    · refine Keeps.step (completeCmd_keeps ..) ?_
      refine Keeps.step (syncWrite_keeps ..) ?_
      exact Keeps.refl _
    · exact Keeps.refl _
  · exact Keeps.refl _

end Sys2Proof.Machine
end

