-- ==== Sys2Proof/Laws/OnlyFabric.lean ====
section
/-! SUPPORT. What each operation of Machine/Fabric.lean can change, at most. -/
namespace Sys2Proof.Machine

theorem forward_only (s : State) (routers : List Nat) (bytes : Nat) : Only 0x20 s (forward s routers bytes) := by
  unfold forward
  refine Only.foldl (fun _ _ _ => ?_) ?_
  · refine Only.step (addObj_only ..) rfl ?_
    assumption
  · exact Only.refl _ _

end Sys2Proof.Machine
end

