-- ==== Sys2Proof/Laws/OnlyHeld.lean ====
section
/-! SUPPORT. What each operation of Machine/Held.lean can change, at most. -/
namespace Sys2Proof.Machine

theorem ok_only {s : State} {s' : State} {y : List W256} (hq : ok s = .inr (s', y)) : Only 0x0 s s' := by
  unfold ok at hq
  cases hq
  exact Only.refl _ _

theorem effOf_inr {x : Sum Nat State} {t : State} {y : List W256} (h : effOf x = .inr (t, y)) : x = .inr t := by
  unfold effOf at h
  split at h
  · cases h
  · unfold ok at h
    cases h
    rfl

theorem finish_only {m : Nat} {s0 s : State} {q : Nat} {e : Eff} (hf : ∀ t r, e = .inr (t, r) → Only m s0 t) (w : 0xe0080100000000200014880 &&& m = 0xe0080100000000200014880)
    (h : Only m s0 s) : Only m s0 (finish s q e) := by
  have v : ∀ a, a &&& 0xe0080100000000200014880 = a → a &&& m = a := fun a e => by rw [← e, Nat.and_assoc, w]
  unfold finish
  split
  · exact Only.step (refuseCmd_only ..) (v _ rfl) h
  · refine Only.step (completeCmd_only ..) (v _ rfl) ?_
    split
    · exact hf _ _ rfl
    · exact Only.step (forwardCmd_only ..) (v _ rfl) (hf _ _ rfl)

theorem holdCmd_only (s : State) (q : Nat) : Only 0xc00 s (holdCmd s q) := by
  unfold holdCmd
  dsimp only
  refine Only.step (updPart_only ..) rfl ?_
  refine Only.step (beginCmd_only ..) rfl ?_
  exact Only.refl _ _

theorem seqopenEff_only {s : State} {p : Nat} {q : Nat} {s' : State} {y : List W256} (hq : seqopenEff s p q = .inr (s', y)) : Only 0x20000 s s' := by
  unfold seqopenEff at hq
  split at hq
  · cases hq
  · split at hq
    · cases hq
    · refine Only.step (ok_only (by assumption)) rfl ?_
      refine Only.step (setSeq_only ..) rfl ?_
      exact Only.refl _ _

theorem seqcloseEff_only {s : State} {p : Nat} {q : Nat} {s' : State} {y : List W256} (hq : seqcloseEff s p q = .inr (s', y)) : Only 0x60000 s s' := by
  unfold seqcloseEff at hq
  split at hq
  · cases hq
  · refine Only.step (ok_only (by assumption)) rfl ?_
    refine Only.step (closeSeq_only ..) rfl ?_
    exact Only.refl _ _

theorem seqParamEff_only {s : State} {p : Nat} {q : Nat} {f : Seq → Seq} {s' : State} {y : List W256} (hq : seqParamEff s p q f = .inr (s', y)) : Only 0x20000 s s' := by
  unfold seqParamEff at hq
  split at hq
  · cases hq
  · split at hq
    · cases hq
    · refine Only.step (ok_only (by assumption)) rfl ?_
      refine Only.step (setSeq_only ..) rfl ?_
      exact Only.refl _ _

theorem pageEff_only {s : State} {p : Nat} {w : Nat} {s' : State} {y : List W256} (hq : pageEff s p w = .inr (s', y)) : Only 0x60000 s s' := by
  unfold pageEff at hq
  split at hq
  · cases hq
  · dsimp only at hq
    split at hq
    · replace hq := effOf_inr hq
      refine Only.step (kvPalloc_only (by assumption)) rfl ?_
      exact Only.refl _ _
    · replace hq := effOf_inr hq
      refine Only.step (kvPfree_only (by assumption)) rfl ?_
      exact Only.refl _ _
    · replace hq := effOf_inr hq
      refine Only.step (kvPtedit_only (by assumption)) rfl ?_
      exact Only.refl _ _
    · replace hq := effOf_inr hq
      refine Only.step (kvPshare_only (by assumption)) rfl ?_
      exact Only.refl _ _

theorem unstageWrite_only (s : State) (p : Nat) (dst : Nat) (n : Nat) : Only 0x20000000000000000000 s (unstageWrite s p dst n) := by
  unfold unstageWrite
  refine Only.ite ?_ ?_
  · refine Only.set_staged rfl ?_ _
    exact Only.refl _ _
  · exact Only.refl _ _

theorem untagPages_only (s : State) (p : Nat) (dst : Nat) (n : Nat) : Only 0x80000 s (untagPages s p dst n) := by
  unfold untagPages
  dsimp only
  refine Only.ite ?_ ?_
  · refine Only.set_ringTags rfl ?_ _
    exact Only.refl _ _
  · exact Only.refl _ _

theorem countHbm_only (s : State) (p : Nat) (src : Nat) (dst : Nat) (n : Nat) : Only 0x20 s (countHbm s p src dst n) := by
  unfold countHbm
  dsimp only
  refine Only.ite ?_ ?_
  · refine Only.step (addObj_only ..) rfl ?_
    refine Only.ite ?_ ?_
    · refine Only.step (addObj_only ..) rfl ?_
      exact Only.refl _ _
    · exact Only.refl _ _
  · refine Only.ite ?_ ?_
    · refine Only.step (addObj_only ..) rfl ?_
      exact Only.refl _ _
    · exact Only.refl _ _

theorem xferEff_only {s : State} {p : Nat} {src : Nat} {dst : Nat} {n : Nat} {s' : State} {y : List W256} (hq : xferEff s p src dst n = .inr (s', y)) : Only 0x20000000000187080020 s s' := by
  unfold xferEff at hq
  split at hq
  · cases hq
  · dsimp only at hq
    split at hq
    · cases hq
    · split at hq
      · cases hq
      · refine Only.step (ok_only (by assumption)) rfl ?_
        refine Only.step (countHbm_only ..) rfl ?_
        refine Only.step (untagPages_only ..) rfl ?_
        refine Only.step (pvaWrite_only ..) rfl ?_
        refine Only.step (unstageWrite_only ..) rfl ?_
        exact Only.refl _ _

theorem chkptSaveEff_only {s : State} {p : Nat} {q : Nat} {va : Nat} {s' : State} {y : List W256} (hq : chkptSaveEff s p q va = .inr (s', y)) : Only 0x20000000000187000020 s s' := by
  unfold chkptSaveEff at hq
  dsimp only at hq
  split at hq
  · cases hq
  · cases hq
  · split at hq
    · cases hq
    · split at hq
      · cases hq
      · split at hq
        · cases hq
        · refine Only.step (ok_only (by assumption)) rfl ?_
          refine Only.step (countHbm_only ..) rfl ?_
          refine Only.step (pvaWrite_only ..) rfl ?_
          refine Only.step (unstageWrite_only ..) rfl ?_
          exact Only.refl _ _

theorem chkptRestoreEff_only {s : State} {p : Nat} {q : Nat} {va : Nat} {s' : State} {y : List W256} (hq : chkptRestoreEff s p q va = .inr (s', y)) : Only 0x1870e0020 s s' := by
  unfold chkptRestoreEff at hq
  split at hq
  · cases hq
  · dsimp only at hq
    refine Only.step (ok_only (by assumption)) rfl ?_
    refine Only.step (countHbm_only ..) rfl ?_
    refine Only.step (setSeq_only ..) rfl ?_
    refine Only.foldl_by (g := Prod.fst) (fun _ _ _ => ?_) ?_
    · dsimp only
      refine Only.step (untagPages_only ..) rfl ?_
      refine Only.step (pvaWrite_only ..) rfl ?_
      assumption
    · dsimp only
      refine Only.foldl (fun _ _ _ => ?_) ?_
      · refine Only.foldl (fun _ _ _ => ?_) ?_
        · refine Only.step (putSet_only ..) rfl ?_
          assumption
        · assumption
      · exact Only.refl _ _

theorem heldEff_only {s : State} {q : Nat} {w : Nat} {s' : State} {y : List W256} (hq : heldEff s q w = .inr (s', y)) : Only 0x200000000001870e0020 s s' := by
  unfold heldEff at hq
  dsimp only at hq
  split at hq
  · refine Only.step (seqcloseEff_only (by assumption)) rfl ?_
    exact Only.refl _ _
  · refine Only.step (xferEff_only (by assumption)) rfl ?_
    exact Only.refl _ _
  · refine Only.step (chkptRestoreEff_only (by assumption)) rfl ?_
    exact Only.refl _ _
  · refine Only.step (pageEff_only (by assumption)) rfl ?_
    exact Only.refl _ _

theorem startCopy_only {m : Nat} {s0 s : State} {q : Nat} {e : Eff} (hf : ∀ t r, e = .inr (t, r) → Only m s0 t) (w : 0xc0080100000000200014880 &&& m = 0xc0080100000000200014880)
    (h : Only m s0 s) : Only m s0 (startCopy s q e) := by
  have v : ∀ a, a &&& 0xc0080100000000200014880 = a → a &&& m = a := fun a e => by rw [← e, Nat.and_assoc, w]
  unfold startCopy
  split
  · exact Only.step (refuseCmd_only ..) (v _ rfl) h
  · exact Only.step (beginCmd_only ..) (v _ rfl) (hf _ _ rfl)


theorem judgeHeld_only (s : State) (held : List Nat) : Only 0xe00a01000000003870f48a0 s (judgeHeld s held) := by
  unfold judgeHeld
  refine Only.foldl (fun _ _ _ => ?_) ?_
  · split
    · assumption
    · refine Only.ite ?_ ?_
      · refine startCopy_only (fun _ _ h => ?_) rfl ?_
        · refine Only.step (heldEff_only (by assumption)) rfl ?_
          assumption
        · assumption
      · refine finish_only (fun _ _ h => ?_) rfl ?_
        · refine Only.step (heldEff_only (by assumption)) rfl ?_
          assumption
        · assumption
  · exact Only.refl _ _

theorem pageResume_only (s : State) (q : Nat) : Only 0xe0080100000000200074c80 s (pageResume s q) := by
  unfold pageResume
  split
  · exact Only.refl _ _
  · refine Only.ite ?_ ?_
    · refine Only.ite ?_ ?_
      · refine Only.step (holdCmd_only ..) rfl ?_
        exact Only.refl _ _
      · refine finish_only (fun _ _ h => ?_) rfl ?_
        · refine Only.step (pageEff_only (by assumption)) rfl ?_
          exact Only.refl _ _
        · exact Only.refl _ _
    · exact Only.refl _ _

theorem copiesEnd_only (s : State) (p : Nat) : Only 0xe0080100000000200074c80 s (copiesEnd s p) := by
  unfold copiesEnd
  split
  · exact Only.refl _ _
  · refine Only.ite ?_ ?_
    · refine Only.step (pageResume_only ..) rfl ?_
      refine Only.step (completeCmd_only ..) rfl ?_
      exact Only.refl _ _
    · exact Only.refl _ _

theorem finalCancels_only (s : State) (p : Nat) (seq : Nat → Bool) : Only 0xc0080100000000200015880 s (finalCancels s p seq) := by
  unfold finalCancels
  dsimp only
  refine Only.step (releaseWaits_only ..) rfl ?_
  refine Only.foldl (fun _ _ _ => ?_) ?_
  · refine Only.step (endRun_only ..) rfl ?_
    assumption
  · refine Only.set_cancelWait rfl ?_ _
    refine Only.foldl (fun _ _ _ => ?_) ?_
    · split
      · assumption
      · refine Only.step (setQueue_only ..) rfl ?_
        assumption
    · exact Only.refl _ _

end Sys2Proof.Machine
end

