-- ==== Sys2Proof/Laws/KeepsHeld.lean ====
section
/-! SUPPORT. Each operation of Machine/Held.lean keeps: the form of the memories and the bounds of the stores. -/
namespace Sys2Proof.Machine

theorem finish_keeps {s0 s : State} {q : Nat} {e : Eff} (hf : ∀ t r, e = .inr (t, r) → Keeps s0 t) 
    (h : Keeps s0 s) : Keeps s0 (finish s q e) := by
  unfold finish
  split
  · exact Keeps.step (refuseCmd_keeps ..) h
  · refine Keeps.step (completeCmd_keeps ..) ?_
    split
    · exact hf _ _ rfl
    · exact Keeps.of_only (forwardCmd_only ..) rfl (hf _ _ rfl)

theorem xferEff_keeps {s : State} {p : Nat} {src : Nat} {dst : Nat} {n : Nat} {s' : State} {y : List W256} (hq : xferEff s p src dst n = .inr (s', y)) : Keeps s s' := by
  unfold xferEff at hq
  split at hq
  · cases hq
  · dsimp only at hq
    split at hq
    · cases hq
    · split at hq
      · cases hq
      · refine Keeps.of_only (ok_only (by assumption)) rfl ?_
        refine Keeps.of_only (countHbm_only _ _ _ _ _) rfl ?_
        refine Keeps.of_only (untagPages_only _ _ _ _) rfl ?_
        refine Keeps.step (pvaWrite_keeps ..) ?_
        refine Keeps.of_only (unstageWrite_only _ _ _ _) rfl ?_
        exact Keeps.refl _

theorem chkptSaveEff_keeps {s : State} {p : Nat} {q : Nat} {va : Nat} {s' : State} {y : List W256} (hq : chkptSaveEff s p q va = .inr (s', y)) : Keeps s s' := by
  unfold chkptSaveEff at hq
  dsimp only at hq
  split at hq
  · cases hq
  · cases hq
  · split at hq
    · cases hq
    · split at hq
      · cases hq
      · split at hq
        · cases hq
        · refine Keeps.of_only (ok_only (by assumption)) rfl ?_
          refine Keeps.of_only (countHbm_only _ _ _ _ _) rfl ?_
          refine Keeps.step (pvaWrite_keeps ..) ?_
          refine Keeps.of_only (unstageWrite_only _ _ _ _) rfl ?_
          exact Keeps.refl _

theorem chkptRestoreEff_keeps {s : State} {p : Nat} {q : Nat} {va : Nat} {s' : State} {y : List W256} (hq : chkptRestoreEff s p q va = .inr (s', y)) : Keeps s s' := by
  unfold chkptRestoreEff at hq
  split at hq
  · cases hq
  · dsimp only at hq
    refine Keeps.of_only (ok_only (by assumption)) rfl ?_
    refine Keeps.of_only (countHbm_only _ _ _ _ _) rfl ?_
    refine Keeps.of_only (setSeq_only _ _ _ _) rfl ?_
    refine Keeps.foldl_by (g := Prod.fst) (fun _ _ _ => ?_) ?_
    · dsimp only
      refine Keeps.of_only (untagPages_only _ _ _ _) rfl ?_
      refine Keeps.step (pvaWrite_keeps ..) ?_
      assumption
    · dsimp only
      refine Keeps.foldl (fun _ _ _ => ?_) ?_
      · refine Keeps.foldl (fun _ _ _ => ?_) ?_
        · refine Keeps.of_only (putSet_only _ _ _ _ _ _) rfl ?_
          assumption
        · assumption
      · exact Keeps.refl _

theorem heldEff_keeps {s : State} {q : Nat} {w : Nat} {s' : State} {y : List W256} (hq : heldEff s q w = .inr (s', y)) : Keeps s s' := by
  unfold heldEff at hq
  dsimp only at hq
  split at hq
  · refine Keeps.of_only (seqcloseEff_only (by assumption)) rfl ?_
    exact Keeps.refl _
  · refine Keeps.step (xferEff_keeps (by assumption)) ?_
    exact Keeps.refl _
  · refine Keeps.step (chkptRestoreEff_keeps (by assumption)) ?_
    exact Keeps.refl _
  · refine Keeps.of_only (pageEff_only (by assumption)) rfl ?_
    exact Keeps.refl _

theorem startCopy_keeps {s0 s : State} {q : Nat} {e : Eff} (hf : ∀ t r, e = .inr (t, r) → Keeps s0 t) (h : Keeps s0 s) :
    Keeps s0 (startCopy s q e) := by
  unfold startCopy
  split
  · exact Keeps.step (refuseCmd_keeps ..) h
  · exact Keeps.of_only (beginCmd_only ..) rfl (hf _ _ rfl)


theorem judgeHeld_keeps (s : State) (held : List Nat) : Keeps s (judgeHeld s held) := by
  unfold judgeHeld
  refine Keeps.foldl (fun _ _ _ => ?_) ?_
  · split
    · assumption
    · refine Keeps.ite ?_ ?_
      · refine startCopy_keeps (fun _ _ h => ?_) ?_
        · refine Keeps.step (heldEff_keeps (by assumption)) ?_
          assumption
        · assumption
      · refine finish_keeps (fun _ _ h => ?_) ?_
        · refine Keeps.step (heldEff_keeps (by assumption)) ?_
          assumption
        · assumption
  · exact Keeps.refl _

theorem pageResume_keeps (s : State) (q : Nat) : Keeps s (pageResume s q) := by
  unfold pageResume
  split
  · exact Keeps.refl _
  · refine Keeps.ite ?_ ?_
    · refine Keeps.ite ?_ ?_
      · refine Keeps.of_only (holdCmd_only _ _) rfl ?_
        exact Keeps.refl _
      · refine finish_keeps (fun _ _ h => ?_) ?_
        · refine Keeps.of_only (pageEff_only (by assumption)) rfl ?_
          exact Keeps.refl _
        · exact Keeps.refl _
    · exact Keeps.refl _

theorem copiesEnd_keeps (s : State) (p : Nat) : Keeps s (copiesEnd s p) := by
  unfold copiesEnd
  split
  · exact Keeps.refl _
  · refine Keeps.ite ?_ ?_
    · refine Keeps.step (pageResume_keeps ..) ?_
      refine Keeps.step (completeCmd_keeps ..) ?_
      exact Keeps.refl _
    · exact Keeps.refl _

theorem finalCancels_keeps (s : State) (p : Nat) (seq : Nat → Bool) : Keeps s (finalCancels s p seq) := by
  unfold finalCancels
  dsimp only
  refine Keeps.step (releaseWaits_keeps ..) ?_
  refine Keeps.foldl (fun _ _ _ => ?_) ?_
  · refine Keeps.step (endRun_keeps ..) ?_
    assumption
  · refine Keeps.of_only (Only.set_cancelWait (m := 4096) rfl (Only.refl _ _) _) rfl ?_
    refine Keeps.foldl (fun _ _ _ => ?_) ?_
    · split
      · assumption
      · refine Keeps.of_only (setQueue_only _ _ _) rfl ?_
        assumption
    · exact Keeps.refl _

end Sys2Proof.Machine
end

