-- ==== Sys2Proof/Laws/OnlySteps.lean ====
section
/-! SUPPORT. What each operation of Machine/Steps.lean can change, at most. -/
namespace Sys2Proof.Machine

theorem toIdle_only (s : State) (p : Nat) : Only 0x500 s (toIdle s p) := by
  unfold toIdle
  refine Only.step (setPState_only ..) rfl ?_
  exact Only.refl _ _

theorem updStep_only (s : State) (p : Nat) (f : StepRun → StepRun) : Only 0x400 s (updStep s p f) := by
  unfold updStep
  refine Only.step (updPart_only ..) rfl ?_
  exact Only.refl _ _

theorem updSlot_only (s : State) (p : Nat) (slot : Nat) (f : SlotB → SlotB) : Only 0x400 s (updSlot s p slot f) := by
  unfold updSlot
  refine Only.step (updStep_only ..) rfl ?_
  exact Only.refl _ _

theorem hubMove_only (s : State) (p : Nat) : Only 0x400 s (hubMove s p) := by
  unfold hubMove
  dsimp only
  split
  · exact Only.refl _ _
  · refine Only.ite ?_ ?_
    · refine Only.step (updPart_only ..) rfl ?_
      exact Only.refl _ _
    · exact Only.refl _ _

theorem enterStall_only (s : State) (p : Nat) (cause : Nat) (tile : Nat) (off : Nat) (start : Nat) : Only 0x520 s (enterStall s p cause tile off start) := by
  unfold enterStall
  refine Only.ite ?_ ?_
  · dsimp only
    refine Only.step (updStep_only ..) rfl ?_
    refine Only.step (addObj_only ..) rfl ?_
    refine Only.step (setPState_only ..) rfl ?_
    exact Only.refl _ _
  · exact Only.refl _ _

theorem leaveStall_only (s : State) (p : Nat) : Only 0x520 s (leaveStall s p) := by
  unfold leaveStall
  split
  · dsimp only
    refine Only.step (updStep_only ..) rfl ?_
    refine Only.step (addObj_only ..) rfl ?_
    refine Only.step (setPState_only ..) rfl ?_
    exact Only.refl _ _
  · exact Only.refl _ _

theorem addGuardTime_only (s : State) (p : Nat) : Only 0x20 s (addGuardTime s p) := by
  unfold addGuardTime
  split
  · exact Only.refl _ _
  · refine Only.step (addObj_only ..) rfl ?_
    exact Only.refl _ _

theorem reviewStall_only (s : State) (p : Nat) : Only 0x520 s (reviewStall s p) := by
  unfold reviewStall
  refine Only.ite ?_ ?_
  · split
    · refine Only.step (enterStall_only ..) rfl ?_
      exact Only.refl _ _
    · refine Only.step (enterStall_only ..) rfl ?_
      exact Only.refl _ _
    · exact Only.refl _ _
  · refine Only.step (leaveStall_only ..) rfl ?_
    exact Only.refl _ _

theorem stormCheck_only (s : State) (p : Nat) : Only 0x1000000000000004a0 s (stormCheck s p) := by
  unfold stormCheck
  split
  · exact Only.refl _ _
  · dsimp only
    refine Only.ite ?_ ?_
    · refine Only.step (updPart_only ..) rfl ?_
      refine Only.ite ?_ ?_
      · refine Only.step (updStep_only ..) rfl ?_
        refine Only.step (setObj_only ..) rfl ?_
        refine Only.step (addObj_only ..) rfl ?_
        exact Only.refl _ _
      · refine Only.step (raise_only ..) rfl ?_
        refine Only.step (updStep_only ..) rfl ?_
        refine Only.step (setObj_only ..) rfl ?_
        refine Only.step (addObj_only ..) rfl ?_
        exact Only.refl _ _
    · refine Only.ite ?_ ?_
      · refine Only.ite ?_ ?_
        · refine Only.step (updPart_only ..) rfl ?_
          refine Only.step (raise_only ..) rfl ?_
          exact Only.refl _ _
        · refine Only.step (updPart_only ..) rfl ?_
          exact Only.refl _ _
      · exact Only.refl _ _

theorem commitPoint_only (s : State) (p : Nat) : Only 0xe0080100000000200035ca0 s (commitPoint s p) := by
  unfold commitPoint
  split
  · exact Only.refl _ _
  · refine Only.ite ?_ ?_
    · exact Only.refl _ _
    · dsimp only
      refine Only.step (finalForwards_only ..) rfl ?_
      refine Only.step (finalCancels_only ..) rfl ?_
      refine Only.foldl (fun _ _ _ => ?_) ?_
      · refine Only.ite ?_ ?_
        · assumption
        · split
          · assumption
          · refine Only.step (setSeq_only ..) rfl ?_
            assumption
      · refine Only.step (sendCommit_only ..) rfl ?_
        refine Only.step (updStep_only ..) rfl ?_
        refine Only.step (stormCheck_only ..) rfl ?_
        exact Only.refl _ _

theorem commitIfDecided_only (s : State) (p : Nat) : Only 0xe0080100000000200035ca0 s (commitIfDecided s p) := by
  unfold commitIfDecided
  split
  · exact Only.refl _ _
  · refine Only.ite ?_ ?_
    · refine Only.step (commitPoint_only ..) rfl ?_
      exact Only.refl _ _
    · exact Only.refl _ _

theorem dropRuns_only (s : State) (p : Nat) : Only 0x700220100000 s (dropRuns s p) := by
  unfold dropRuns
  refine Only.set_fills_accPend_tiles_flights_rflights_rslots rfl rfl rfl rfl rfl rfl ?_ _ _ _ _ _ _
  exact Only.refl _ _

theorem endIfMasked_only (s : State) (p : Nat) : Only 0xe0080100000700220135da0 s (endIfMasked s p) := by
  unfold endIfMasked
  split
  · exact Only.refl _ _
  · refine Only.ite ?_ ?_
    · exact Only.refl _ _
    · dsimp only
      refine Only.step (commitPoint_only ..) rfl ?_
      refine Only.step (sendMasks_only ..) rfl ?_
      refine Only.step (updStep_only ..) rfl ?_
      refine Only.step (leaveStall_only ..) rfl ?_
      refine Only.step (addObj_only ..) rfl ?_
      refine Only.step (dropRuns_only ..) rfl ?_
      refine Only.ite ?_ ?_
      · refine Only.step (addGuardTime_only ..) rfl ?_
        exact Only.refl _ _
      · exact Only.refl _ _

theorem maskSlot_only (s : State) (p : Nat) (slot : Nat) (cancel : Bool) (cause : Nat) : Only 0x400 s (maskSlot s p slot cancel cause) := by
  unfold maskSlot
  refine Only.step (updSlot_only ..) rfl ?_
  exact Only.refl _ _

theorem stopRuns_only (s : State) (p : Nat) : Only 0x600200100000 s (stopRuns s p) := by
  unfold stopRuns
  refine Only.set_fills_tiles_rflights_rslots rfl rfl rfl rfl ?_ _ _ _ _
  exact Only.refl _ _

theorem uncommitSlot_only (p : Nat) (s : State) (b : SlotB) : Only 0x20000 s (uncommitSlot p s b) := by
  unfold uncommitSlot
  refine Only.ite ?_ ?_
  · exact Only.refl _ _
  · split
    · exact Only.refl _ _
    · refine Only.step (setSeq_only ..) rfl ?_
      exact Only.refl _ _

theorem discardStep_only (s : State) (p : Nat) (reason : Nat) (soft : Bool) : Only 0xe00a01000007003a71f5da0 s (discardStep s p reason soft) := by
  unfold discardStep
  split
  · exact Only.refl _ _
  · dsimp only
    refine Only.step (releaseWaits_only ..) rfl ?_
    refine Only.step (endList_only ..) rfl ?_
    refine Only.ite ?_ ?_
    · refine Only.step (orderRevert_only ..) rfl ?_
      refine Only.step (finalForwards_only ..) rfl ?_
      refine Only.step (finalCancels_only ..) rfl ?_
      refine Only.step (judgeHeld_only ..) rfl ?_
      refine Only.step (updPart_only ..) rfl ?_
      refine Only.ite ?_ ?_
      · refine Only.step (stopRuns_only ..) rfl ?_
        refine Only.step (invalidateStepTags_only ..) rfl ?_
        refine Only.foldl (fun _ _ _ => ?_) ?_
        · refine Only.step (undoSlot_only ..) rfl ?_
          assumption
        · refine Only.ite ?_ ?_
          · refine Only.foldl (fun _ _ _ => ?_) ?_
            · refine Only.step (uncommitSlot_only ..) rfl ?_
              assumption
            · refine Only.step (leaveStall_only ..) rfl ?_
              refine Only.ite ?_ ?_
              · refine Only.step (addGuardTime_only ..) rfl ?_
                exact Only.refl _ _
              · exact Only.refl _ _
          · refine Only.step (leaveStall_only ..) rfl ?_
            refine Only.ite ?_ ?_
            · refine Only.step (addGuardTime_only ..) rfl ?_
              exact Only.refl _ _
            · exact Only.refl _ _
      · refine Only.step (dropRuns_only ..) rfl ?_
        refine Only.step (invalidateStepTags_only ..) rfl ?_
        refine Only.foldl (fun _ _ _ => ?_) ?_
        · refine Only.step (undoSlot_only ..) rfl ?_
          assumption
        · refine Only.ite ?_ ?_
          · refine Only.foldl (fun _ _ _ => ?_) ?_
            · refine Only.step (uncommitSlot_only ..) rfl ?_
              assumption
            · refine Only.step (leaveStall_only ..) rfl ?_
              refine Only.ite ?_ ?_
              · refine Only.step (addGuardTime_only ..) rfl ?_
                exact Only.refl _ _
              · exact Only.refl _ _
          · refine Only.step (leaveStall_only ..) rfl ?_
            refine Only.ite ?_ ?_
            · refine Only.step (addGuardTime_only ..) rfl ?_
              exact Only.refl _ _
            · exact Only.refl _ _
    · refine Only.step (finalForwards_only ..) rfl ?_
      refine Only.step (finalCancels_only ..) rfl ?_
      refine Only.step (judgeHeld_only ..) rfl ?_
      refine Only.step (updPart_only ..) rfl ?_
      refine Only.ite ?_ ?_
      · refine Only.step (stopRuns_only ..) rfl ?_
        refine Only.step (invalidateStepTags_only ..) rfl ?_
        refine Only.foldl (fun _ _ _ => ?_) ?_
        · refine Only.step (undoSlot_only ..) rfl ?_
          assumption
        · refine Only.ite ?_ ?_
          · refine Only.foldl (fun _ _ _ => ?_) ?_
            · refine Only.step (uncommitSlot_only ..) rfl ?_
              assumption
            · refine Only.step (leaveStall_only ..) rfl ?_
              refine Only.ite ?_ ?_
              · refine Only.step (addGuardTime_only ..) rfl ?_
                exact Only.refl _ _
              · exact Only.refl _ _
          · refine Only.step (leaveStall_only ..) rfl ?_
            refine Only.ite ?_ ?_
            · refine Only.step (addGuardTime_only ..) rfl ?_
              exact Only.refl _ _
            · exact Only.refl _ _
      · refine Only.step (dropRuns_only ..) rfl ?_
        refine Only.step (invalidateStepTags_only ..) rfl ?_
        refine Only.foldl (fun _ _ _ => ?_) ?_
        · refine Only.step (undoSlot_only ..) rfl ?_
          assumption
        · refine Only.ite ?_ ?_
          · refine Only.foldl (fun _ _ _ => ?_) ?_
            · refine Only.step (uncommitSlot_only ..) rfl ?_
              assumption
            · refine Only.step (leaveStall_only ..) rfl ?_
              refine Only.ite ?_ ?_
              · refine Only.step (addGuardTime_only ..) rfl ?_
                exact Only.refl _ _
              · exact Only.refl _ _
          · refine Only.step (leaveStall_only ..) rfl ?_
            refine Only.ite ?_ ?_
            · refine Only.step (addGuardTime_only ..) rfl ?_
              exact Only.refl _ _
            · exact Only.refl _ _

theorem leaveDisabling_only (s : State) (p : Nat) : Only 0xc0080100000000200614d80 s (leaveDisabling s p) := by
  unfold leaveDisabling
  dsimp only
  refine Only.step (returnQueued_only ..) rfl ?_
  refine Only.step (returnRunning_only ..) rfl ?_
  refine Only.step (applySwap_only ..) rfl ?_
  refine Only.step (setPState_only ..) rfl ?_
  exact Only.refl _ _

theorem draftCheck_only (s : State) (tp : Nat) : Only 0x100000000000000480 s (draftCheck s tp) := by
  unfold draftCheck
  split
  · exact Only.refl _ _
  · refine Only.ite ?_ ?_
    · refine Only.step (updPart_only ..) rfl ?_
      refine Only.step (raise_only ..) rfl ?_
      exact Only.refl _ _
    · exact Only.refl _ _

theorem draftGone_only (s : State) (p : Nat) : Only 0x100000000000000480 s (draftGone s p) := by
  unfold draftGone
  split
  · exact Only.refl _ _
  · refine Only.step (draftCheck_only ..) rfl ?_
    exact Only.refl _ _

theorem revertUndo_only (s : State) (p : Nat) (u : Undo) : Only 0x60400 s (revertUndo s p u) := by
  unfold revertUndo
  dsimp only
  refine Only.step (updPart_only ..) rfl ?_
  refine Only.foldl (fun _ _ _ => ?_) ?_
  · split
    · assumption
    · refine Only.step (setSeq_only ..) rfl ?_
      assumption
  · refine Only.foldl (fun _ _ _ => ?_) ?_
    · refine Only.set_kvSets rfl ?_ _
      assumption
    · exact Only.refl _ _

theorem abandonPosting_only (s : State) (p : Nat) (reason : Nat) : Only 0xe0080100000000200074c80 s (abandonPosting s p reason) := by
  unfold abandonPosting
  dsimp only
  split
  · exact Only.refl _ _
  · refine Only.step (releaseWaits_only ..) rfl ?_
    refine Only.step (endList_only ..) rfl ?_
    refine Only.step (orderRevert_only ..) rfl ?_
    refine Only.step (updGroup_only ..) rfl ?_
    split
    · exact Only.refl _ _
    · refine Only.step (revertUndo_only ..) rfl ?_
      exact Only.refl _ _

theorem partFault_only (s : State) (p : Nat) (src : Nat) (tile : Nat) (off : Nat) (prog : Nat) (unit : Nat) (reason : Nat) (addr : Nat) : Only 0xe00a09000007003a77fdda0 s (partFault s p src tile off prog unit reason addr) := by
  unfold partFault
  dsimp only
  split
  · refine Only.step (addObj_only ..) rfl ?_
    refine Only.step (abandonPosting_only ..) rfl ?_
    exact Only.refl _ _
  · refine Only.step (abandonPosting_only ..) rfl ?_
    exact Only.refl _ _
  · refine Only.step (abandonPosting_only ..) rfl ?_
    exact Only.refl _ _
  · refine Only.step (draftGone_only ..) rfl ?_
    refine Only.step (updPart_only ..) rfl ?_
    refine Only.ite ?_ ?_
    · refine Only.step (kennelEvent_only ..) rfl ?_
      refine Only.step (raiseRc_only ..) rfl ?_
      refine Only.step (postDebug_only ..) rfl ?_
      refine Only.ite ?_ ?_
      · refine Only.step (leaveDisabling_only ..) rfl ?_
        refine Only.step (discardStep_only ..) rfl ?_
        refine Only.step (abandonPosting_only ..) rfl ?_
        exact Only.refl _ _
      · refine Only.step (setPState_only ..) rfl ?_
        refine Only.step (discardStep_only ..) rfl ?_
        refine Only.step (abandonPosting_only ..) rfl ?_
        exact Only.refl _ _
    · refine Only.step (kennelEvent_only ..) rfl ?_
      refine Only.step (raiseRc_only ..) rfl ?_
      refine Only.step (postDebug_only ..) rfl ?_
      refine Only.ite ?_ ?_
      · refine Only.step (leaveDisabling_only ..) rfl ?_
        refine Only.step (discardStep_only ..) rfl ?_
        refine Only.step (abandonPosting_only ..) rfl ?_
        exact Only.refl _ _
      · refine Only.step (setPState_only ..) rfl ?_
        refine Only.step (discardStep_only ..) rfl ?_
        refine Only.step (abandonPosting_only ..) rfl ?_
        exact Only.refl _ _

theorem engineFault_only (s : State) (p : Nat) (reason : Nat) : Only 0xe00a09000007003a77fdda0 s (engineFault s p reason) := by
  unfold engineFault
  refine Only.step (partFault_only ..) rfl ?_
  exact Only.refl _ _

theorem countMem_only (s : State) (t : Nat) (reason : Nat) : Only 0x20 s (countMem s t reason) := by
  unfold countMem
  refine Only.ite ?_ ?_
  · refine Only.step (addObj_only ..) rfl ?_
    exact Only.refl _ _
  · refine Only.ite ?_ ?_
    · refine Only.step (addObj_only ..) rfl ?_
      exact Only.refl _ _
    · exact Only.refl _ _

theorem tileFault_only (s : State) (p : Nat) (src : Nat) (t : Nat) (off : Nat) (prog : Nat) (unit : Nat) (reason : Nat) (addr : Nat) : Only 0xe00a09000007003a77fdda0 s (tileFault s p src t off prog unit reason addr) := by
  unfold tileFault
  dsimp only
  refine Only.ite ?_ ?_
  · refine Only.step (addObj_only ..) rfl ?_
    refine Only.set_accPend_tiles_flights rfl rfl rfl ?_ _ _ _
    refine Only.step (countMem_only ..) rfl ?_
    exact Only.refl _ _
  · refine Only.step (partFault_only ..) rfl ?_
    refine Only.set_accPend_tiles_flights rfl rfl rfl ?_ _ _ _
    refine Only.step (countMem_only ..) rfl ?_
    exact Only.refl _ _

end Sys2Proof.Machine
end

