-- ==== Sys2Proof/Laws/KeepsSteps.lean ====
section
/-! SUPPORT. Each operation of Machine/Steps.lean keeps: the form of the memories and the bounds of the stores. -/
namespace Sys2Proof.Machine

theorem stormCheck_keeps (s : State) (p : Nat) : Keeps s (stormCheck s p) := by
  unfold stormCheck
  split
  · exact Keeps.refl _
  · dsimp only
    refine Keeps.ite ?_ ?_
    · refine Keeps.of_only (updPart_only _ _ _) rfl ?_
      refine Keeps.ite ?_ ?_
      · refine Keeps.of_only (updStep_only _ _ _) rfl ?_
        refine Keeps.of_only (setObj_only _ _ _ _ _) rfl ?_
        refine Keeps.of_only (addObj_only _ _ _ _ _ _) rfl ?_
        exact Keeps.refl _
      · refine Keeps.step (raise_keeps ..) ?_
        refine Keeps.of_only (updStep_only _ _ _) rfl ?_
        refine Keeps.of_only (setObj_only _ _ _ _ _) rfl ?_
        refine Keeps.of_only (addObj_only _ _ _ _ _ _) rfl ?_
        exact Keeps.refl _
    · refine Keeps.ite ?_ ?_
      · refine Keeps.ite ?_ ?_
        · refine Keeps.of_only (updPart_only _ _ _) rfl ?_
          refine Keeps.step (raise_keeps ..) ?_
          exact Keeps.refl _
        · refine Keeps.of_only (updPart_only _ _ _) rfl ?_
          exact Keeps.refl _
      · exact Keeps.refl _

theorem commitPoint_keeps (s : State) (p : Nat) : Keeps s (commitPoint s p) := by
  unfold commitPoint
  split
  · exact Keeps.refl _
  · refine Keeps.ite ?_ ?_
    · exact Keeps.refl _
    · dsimp only
      refine Keeps.of_only (finalForwards_only _ _ _) rfl ?_
      refine Keeps.step (finalCancels_keeps ..) ?_
      refine Keeps.foldl (fun _ _ _ => ?_) ?_
      · refine Keeps.ite ?_ ?_
        · assumption
        · split
          · assumption
          · refine Keeps.of_only (setSeq_only _ _ _ _) rfl ?_
            assumption
      · refine Keeps.of_only (sendCommit_only _ _ _) rfl ?_
        refine Keeps.of_only (updStep_only _ _ _) rfl ?_
        refine Keeps.step (stormCheck_keeps ..) ?_
        exact Keeps.refl _

theorem commitIfDecided_keeps (s : State) (p : Nat) : Keeps s (commitIfDecided s p) := by
  unfold commitIfDecided
  split
  · exact Keeps.refl _
  · refine Keeps.ite ?_ ?_
    · refine Keeps.step (commitPoint_keeps ..) ?_
      exact Keeps.refl _
    · exact Keeps.refl _

theorem endIfMasked_keeps (s : State) (p : Nat) : Keeps s (endIfMasked s p) := by
  unfold endIfMasked
  split
  · exact Keeps.refl _
  · refine Keeps.ite ?_ ?_
    · exact Keeps.refl _
    · dsimp only
      refine Keeps.step (commitPoint_keeps ..) ?_
      refine Keeps.of_only (sendMasks_only _ _) rfl ?_
      refine Keeps.of_only (updStep_only _ _ _) rfl ?_
      refine Keeps.of_only (leaveStall_only _ _) rfl ?_
      refine Keeps.of_only (addObj_only _ _ _ _ _ _) rfl ?_
      refine Keeps.of_only (dropRuns_only _ _) rfl ?_
      refine Keeps.ite ?_ ?_
      · refine Keeps.of_only (addGuardTime_only _ _) rfl ?_
        exact Keeps.refl _
      · exact Keeps.refl _

theorem discardStep_keeps (s : State) (p : Nat) (reason : Nat) (soft : Bool) : Keeps s (discardStep s p reason soft) := by
  unfold discardStep
  split
  · exact Keeps.refl _
  · dsimp only
    refine Keeps.step (releaseWaits_keeps ..) ?_
    refine Keeps.step (endList_keeps ..) ?_
    refine Keeps.ite ?_ ?_
    · refine Keeps.of_only (orderRevert_only _ _) rfl ?_
      refine Keeps.of_only (finalForwards_only _ _ _) rfl ?_
      refine Keeps.step (finalCancels_keeps ..) ?_
      refine Keeps.step (judgeHeld_keeps ..) ?_
      refine Keeps.of_only (updPart_only _ _ _) rfl ?_
      refine Keeps.ite ?_ ?_
      · refine Keeps.of_only (stopRuns_only _ _) rfl ?_
        refine Keeps.of_only (invalidateStepTags_only _ _ _) rfl ?_
        refine Keeps.foldl (fun _ _ _ => ?_) ?_
        · refine Keeps.of_only (undoSlot_only _ _ _) rfl ?_
          assumption
        · refine Keeps.ite ?_ ?_
          · refine Keeps.foldl (fun _ _ _ => ?_) ?_
            · refine Keeps.of_only (uncommitSlot_only _ _ _) rfl ?_
              assumption
            · refine Keeps.of_only (leaveStall_only _ _) rfl ?_
              refine Keeps.ite ?_ ?_
              · refine Keeps.of_only (addGuardTime_only _ _) rfl ?_
                exact Keeps.refl _
              · exact Keeps.refl _
          · refine Keeps.of_only (leaveStall_only _ _) rfl ?_
            refine Keeps.ite ?_ ?_
            · refine Keeps.of_only (addGuardTime_only _ _) rfl ?_
              exact Keeps.refl _
            · exact Keeps.refl _
      · refine Keeps.of_only (dropRuns_only _ _) rfl ?_
        refine Keeps.of_only (invalidateStepTags_only _ _ _) rfl ?_
        refine Keeps.foldl (fun _ _ _ => ?_) ?_
        · refine Keeps.of_only (undoSlot_only _ _ _) rfl ?_
          assumption
        · refine Keeps.ite ?_ ?_
          · refine Keeps.foldl (fun _ _ _ => ?_) ?_
            · refine Keeps.of_only (uncommitSlot_only _ _ _) rfl ?_
              assumption
            · refine Keeps.of_only (leaveStall_only _ _) rfl ?_
              refine Keeps.ite ?_ ?_
              · refine Keeps.of_only (addGuardTime_only _ _) rfl ?_
                exact Keeps.refl _
              · exact Keeps.refl _
          · refine Keeps.of_only (leaveStall_only _ _) rfl ?_
            refine Keeps.ite ?_ ?_
            · refine Keeps.of_only (addGuardTime_only _ _) rfl ?_
              exact Keeps.refl _
            · exact Keeps.refl _
    · refine Keeps.of_only (finalForwards_only _ _ _) rfl ?_
      refine Keeps.step (finalCancels_keeps ..) ?_
      refine Keeps.step (judgeHeld_keeps ..) ?_
      refine Keeps.of_only (updPart_only _ _ _) rfl ?_
      refine Keeps.ite ?_ ?_
      · refine Keeps.of_only (stopRuns_only _ _) rfl ?_
        refine Keeps.of_only (invalidateStepTags_only _ _ _) rfl ?_
        refine Keeps.foldl (fun _ _ _ => ?_) ?_
        · refine Keeps.of_only (undoSlot_only _ _ _) rfl ?_
          assumption
        · refine Keeps.ite ?_ ?_
          · refine Keeps.foldl (fun _ _ _ => ?_) ?_
            · refine Keeps.of_only (uncommitSlot_only _ _ _) rfl ?_
              assumption
            · refine Keeps.of_only (leaveStall_only _ _) rfl ?_
              refine Keeps.ite ?_ ?_
              · refine Keeps.of_only (addGuardTime_only _ _) rfl ?_
                exact Keeps.refl _
              · exact Keeps.refl _
          · refine Keeps.of_only (leaveStall_only _ _) rfl ?_
            refine Keeps.ite ?_ ?_
            · refine Keeps.of_only (addGuardTime_only _ _) rfl ?_
              exact Keeps.refl _
            · exact Keeps.refl _
      · refine Keeps.of_only (dropRuns_only _ _) rfl ?_
        refine Keeps.of_only (invalidateStepTags_only _ _ _) rfl ?_
        refine Keeps.foldl (fun _ _ _ => ?_) ?_
        · refine Keeps.of_only (undoSlot_only _ _ _) rfl ?_
          assumption
        · refine Keeps.ite ?_ ?_
          · refine Keeps.foldl (fun _ _ _ => ?_) ?_
            · refine Keeps.of_only (uncommitSlot_only _ _ _) rfl ?_
              assumption
            · refine Keeps.of_only (leaveStall_only _ _) rfl ?_
              refine Keeps.ite ?_ ?_
              · refine Keeps.of_only (addGuardTime_only _ _) rfl ?_
                exact Keeps.refl _
              · exact Keeps.refl _
          · refine Keeps.of_only (leaveStall_only _ _) rfl ?_
            refine Keeps.ite ?_ ?_
            · refine Keeps.of_only (addGuardTime_only _ _) rfl ?_
              exact Keeps.refl _
            · exact Keeps.refl _

theorem leaveDisabling_keeps (s : State) (p : Nat) : Keeps s (leaveDisabling s p) := by
  unfold leaveDisabling
  dsimp only
  refine Keeps.of_only (returnQueued_only _ _ _) rfl ?_
  refine Keeps.of_only (returnRunning_only _ _ _) rfl ?_
  refine Keeps.step (applySwap_keeps ..) ?_
  refine Keeps.of_only (setPState_only _ _ _) rfl ?_
  exact Keeps.refl _

theorem draftCheck_keeps (s : State) (tp : Nat) : Keeps s (draftCheck s tp) := by
  unfold draftCheck
  split
  · exact Keeps.refl _
  · refine Keeps.ite ?_ ?_
    · refine Keeps.of_only (updPart_only _ _ _) rfl ?_
      refine Keeps.step (raise_keeps ..) ?_
      exact Keeps.refl _
    · exact Keeps.refl _

theorem draftGone_keeps (s : State) (p : Nat) : Keeps s (draftGone s p) := by
  unfold draftGone
  split
  · exact Keeps.refl _
  · refine Keeps.step (draftCheck_keeps ..) ?_
    exact Keeps.refl _

theorem abandonPosting_keeps (s : State) (p : Nat) (reason : Nat) : Keeps s (abandonPosting s p reason) := by
  unfold abandonPosting
  dsimp only
  split
  · exact Keeps.refl _
  · refine Keeps.step (releaseWaits_keeps ..) ?_
    refine Keeps.step (endList_keeps ..) ?_
    refine Keeps.of_only (orderRevert_only _ _) rfl ?_
    refine Keeps.of_only (updGroup_only _ _ _) rfl ?_
    split
    · exact Keeps.refl _
    · refine Keeps.of_only (revertUndo_only _ _ _) rfl ?_
      exact Keeps.refl _

theorem partFault_keeps (s : State) (p : Nat) (src : Nat) (tile : Nat) (off : Nat) (prog : Nat) (unit : Nat) (reason : Nat) (addr : Nat) : Keeps s (partFault s p src tile off prog unit reason addr) := by
  unfold partFault
  dsimp only
  split
  · refine Keeps.of_only (addObj_only _ _ _ _ _ _) rfl ?_
    refine Keeps.step (abandonPosting_keeps ..) ?_
    exact Keeps.refl _
  · refine Keeps.step (abandonPosting_keeps ..) ?_
    exact Keeps.refl _
  · refine Keeps.step (abandonPosting_keeps ..) ?_
    exact Keeps.refl _
  · refine Keeps.step (draftGone_keeps ..) ?_
    refine Keeps.of_only (updPart_only _ _ _) rfl ?_
    refine Keeps.ite ?_ ?_
    · refine Keeps.step (kennelEvent_keeps ..) ?_
      refine Keeps.step (raiseRc_keeps ..) ?_
      refine Keeps.of_only (postDebug_only _ _ _) rfl ?_
      refine Keeps.ite ?_ ?_
      · refine Keeps.step (leaveDisabling_keeps ..) ?_
        refine Keeps.step (discardStep_keeps ..) ?_
        refine Keeps.step (abandonPosting_keeps ..) ?_
        exact Keeps.refl _
      · refine Keeps.of_only (setPState_only _ _ _) rfl ?_
        refine Keeps.step (discardStep_keeps ..) ?_
        refine Keeps.step (abandonPosting_keeps ..) ?_
        exact Keeps.refl _
    · refine Keeps.step (kennelEvent_keeps ..) ?_
      refine Keeps.step (raiseRc_keeps ..) ?_
      refine Keeps.of_only (postDebug_only _ _ _) rfl ?_
      refine Keeps.ite ?_ ?_
      · refine Keeps.step (leaveDisabling_keeps ..) ?_
        refine Keeps.step (discardStep_keeps ..) ?_
        refine Keeps.step (abandonPosting_keeps ..) ?_
        exact Keeps.refl _
      · refine Keeps.of_only (setPState_only _ _ _) rfl ?_
        refine Keeps.step (discardStep_keeps ..) ?_
        refine Keeps.step (abandonPosting_keeps ..) ?_
        exact Keeps.refl _

theorem engineFault_keeps (s : State) (p : Nat) (reason : Nat) : Keeps s (engineFault s p reason) := by
  unfold engineFault
  refine Keeps.step (partFault_keeps ..) ?_
  exact Keeps.refl _

theorem tileFault_keeps (s : State) (p : Nat) (src : Nat) (t : Nat) (off : Nat) (prog : Nat) (unit : Nat) (reason : Nat) (addr : Nat) : Keeps s (tileFault s p src t off prog unit reason addr) := by
  unfold tileFault
  dsimp only
  refine Keeps.ite ?_ ?_
  · refine Keeps.of_only (addObj_only _ _ _ _ _ _) rfl ?_
    refine Keeps.of_only (Only.set_accPend_tiles_flights (m := 17601312849920) rfl rfl rfl (Only.refl _ _) _ _ _) rfl ?_
    refine Keeps.of_only (countMem_only _ _ _) rfl ?_
    exact Keeps.refl _
  · refine Keeps.step (partFault_keeps ..) ?_
    refine Keeps.of_only (Only.set_accPend_tiles_flights (m := 17601312849920) rfl rfl rfl (Only.refl _ _) _ _ _) rfl ?_
    refine Keeps.of_only (countMem_only _ _ _) rfl ?_
    exact Keeps.refl _

end Sys2Proof.Machine
end

