-- ==== Sys2Proof/Laws/OnlyOperands.lean ====
section
/-! SUPPORT. What each operation of Machine/Operands.lean can change, at most. -/
namespace Sys2Proof.Machine

theorem updRun_only (s : State) (t : Nat) (f : TileRun → TileRun) : Only 0x200000000 s (updRun s t f) := by
  unfold updRun
  split
  · exact Only.refl _ _
  · refine Only.set_tiles rfl ?_ _
    exact Only.refl _ _

theorem noteSp_only (s : State) (t : Nat) (off : Nat) (n : Nat) : Only 0x200000000 s (noteSp s t off n) := by
  unfold noteSp
  refine Only.step (updRun_only ..) rfl ?_
  exact Only.refl _ _

theorem noteSpan_only (s : State) (t : Nat) (off : Nat) (n : Nat) : Only 0x200000000 s (noteSpan s t off n) := by
  unfold noteSpan
  refine Only.step (updRun_only ..) rfl ?_
  exact Only.refl _ _

theorem noteAcc_only (s : State) (t : Nat) (i : Nat) (n : Nat) : Only 0x200000000 s (noteAcc s t i n) := by
  unfold noteAcc
  refine Only.step (updRun_only ..) rfl ?_
  exact Only.refl _ _

theorem tileOperand_only (s : State) (t : Nat) (off : Nat) (bs : List Sys2Proof.Byte) : Only 0x207000000 s (tileOperand s t off bs) := by
  unfold tileOperand
  refine Only.step (spWrite_only ..) rfl ?_
  refine Only.step (noteSp_only ..) rfl ?_
  exact Only.refl _ _

theorem tileSp_only (s : State) (t : Nat) (off : Nat) (bs : List Sys2Proof.Byte) : Only 0x207000000 s (tileSp s t off bs) := by
  unfold tileSp
  refine Only.step (noteSpan_only ..) rfl ?_
  refine Only.step (tileOperand_only ..) rfl ?_
  exact Only.refl _ _

theorem tileAcc_only (s : State) (t : Nat) (i : Nat) (ws : List Sys2Proof.W32) (tag : Nat) : Only 0x258000000 s (tileAcc s t i ws tag) := by
  unfold tileAcc
  dsimp only
  refine Only.ite ?_ ?_
  · refine Only.step (accWriteWords_only ..) rfl ?_
    refine Only.step (noteAcc_only ..) rfl ?_
    exact Only.refl _ _
  · refine Only.foldl (fun _ _ _ => ?_) ?_
    · refine Only.step (setAccTag_only ..) rfl ?_
      assumption
    · refine Only.step (accWriteWords_only ..) rfl ?_
      refine Only.step (noteAcc_only ..) rfl ?_
      exact Only.refl _ _

theorem opWrite_only (s : State) (t : Nat) (a : Nat) (bs : List Sys2Proof.Byte) : Only 0x25f000000 s (opWrite s t a bs) := by
  unfold opWrite
  refine Only.ite ?_ ?_
  · refine Only.step (tileAcc_only ..) rfl ?_
    exact Only.refl _ _
  · refine Only.step (tileSp_only ..) rfl ?_
    exact Only.refl _ _

theorem forgetUndo_only (s : State) (t : Nat) (a : Nat) (n : Nat) : Only 0x200000000 s (forgetUndo s t a n) := by
  unfold forgetUndo
  refine Only.step (updRun_only ..) rfl ?_
  exact Only.refl _ _

theorem opDeliver_only (s : State) (t : Nat) (a : Nat) (bs : List Sys2Proof.Byte) : Only 0x25f000000 s (opDeliver s t a bs) := by
  unfold opDeliver
  dsimp only
  refine Only.ite ?_ ?_
  · refine Only.ite ?_ ?_
    · refine Only.step (accWriteWords_only ..) rfl ?_
      refine Only.step (forgetUndo_only ..) rfl ?_
      exact Only.refl _ _
    · refine Only.foldl (fun _ _ _ => ?_) ?_
      · refine Only.step (setAccTag_only ..) rfl ?_
        assumption
      · refine Only.step (accWriteWords_only ..) rfl ?_
        refine Only.step (forgetUndo_only ..) rfl ?_
        exact Only.refl _ _
  · refine Only.step (spWrite_only ..) rfl ?_
    refine Only.step (forgetUndo_only ..) rfl ?_
    exact Only.refl _ _

end Sys2Proof.Machine
end

