-- ==== Sys2Proof/Laws/KeepsOperands.lean ====
section
/-! SUPPORT. Each operation of Machine/Operands.lean keeps: the form of the memories and the bounds of the stores. -/
namespace Sys2Proof.Machine

theorem tileOperand_keeps (s : State) (t : Nat) (off : Nat) (bs : List Sys2Proof.Byte) : Keeps s (tileOperand s t off bs) := by
  unfold tileOperand
  refine Keeps.step (spWrite_keeps ..) ?_
  refine Keeps.of_only (noteSp_only _ _ _ _) rfl ?_
  exact Keeps.refl _

theorem tileSp_keeps (s : State) (t : Nat) (off : Nat) (bs : List Sys2Proof.Byte) : Keeps s (tileSp s t off bs) := by
  unfold tileSp
  refine Keeps.of_only (noteSpan_only _ _ _ _) rfl ?_
  refine Keeps.step (tileOperand_keeps ..) ?_
  exact Keeps.refl _

theorem tileAcc_keeps (s : State) (t : Nat) (i : Nat) (ws : List Sys2Proof.W32) (tag : Nat) : Keeps s (tileAcc s t i ws tag) := by
  unfold tileAcc
  dsimp only
  refine Keeps.ite ?_ ?_
  · refine Keeps.step (accWriteWords_keeps ..) ?_
    refine Keeps.of_only (noteAcc_only _ _ _ _) rfl ?_
    exact Keeps.refl _
  · refine Keeps.foldl (fun _ _ _ => ?_) ?_
    · refine Keeps.of_only (setAccTag_only _ _ _ _) rfl ?_
      assumption
    · refine Keeps.step (accWriteWords_keeps ..) ?_
      refine Keeps.of_only (noteAcc_only _ _ _ _) rfl ?_
      exact Keeps.refl _

theorem opWrite_keeps (s : State) (t : Nat) (a : Nat) (bs : List Sys2Proof.Byte) : Keeps s (opWrite s t a bs) := by
  unfold opWrite
  refine Keeps.ite ?_ ?_
  · refine Keeps.step (tileAcc_keeps ..) ?_
    exact Keeps.refl _
  · refine Keeps.step (tileSp_keeps ..) ?_
    exact Keeps.refl _

theorem opDeliver_keeps (s : State) (t : Nat) (a : Nat) (bs : List Sys2Proof.Byte) : Keeps s (opDeliver s t a bs) := by
  unfold opDeliver
  dsimp only
  refine Keeps.ite ?_ ?_
  · refine Keeps.ite ?_ ?_
    · refine Keeps.step (accWriteWords_keeps ..) ?_
      refine Keeps.of_only (forgetUndo_only _ _ _ _) rfl ?_
      exact Keeps.refl _
    · refine Keeps.foldl (fun _ _ _ => ?_) ?_
      · refine Keeps.of_only (setAccTag_only _ _ _ _) rfl ?_
        assumption
      · refine Keeps.step (accWriteWords_keeps ..) ?_
        refine Keeps.of_only (forgetUndo_only _ _ _ _) rfl ?_
        exact Keeps.refl _
  · refine Keeps.step (spWrite_keeps ..) ?_
    refine Keeps.of_only (forgetUndo_only _ _ _ _) rfl ?_
    exact Keeps.refl _

end Sys2Proof.Machine
end

