-- ==== Sys2Proof/Laws/OnlyFlags.lean ====
section
/-! SUPPORT. What each operation of Machine/Flags.lean can change, at most. -/
namespace Sys2Proof.Machine

theorem incFlag_only (s : State) (t : Nat) (f : Nat) (off : Nat) (unit : Nat) : Only 0xe00a09000007003a77fdda0 s (incFlag s t f off unit) := by
  unfold incFlag
  split
  · exact Only.refl _ _
  · refine Only.ite ?_ ?_
    · refine Only.step (tileFault_only ..) rfl ?_
      exact Only.refl _ _
    · refine Only.step (updRun_only ..) rfl ?_
      exact Only.refl _ _

theorem countNum_only (s : State) (p : Nat) (ovf : Nat) (inv : Nat) : Only 0x20 s (countNum s p ovf inv) := by
  unfold countNum
  dsimp only
  refine Only.ite ?_ ?_
  · refine Only.ite ?_ ?_
    · exact Only.refl _ _
    · refine Only.step (addObj_only ..) rfl ?_
      exact Only.refl _ _
  · refine Only.step (addObj_only ..) rfl ?_
    refine Only.ite ?_ ?_
    · exact Only.refl _ _
    · refine Only.step (addObj_only ..) rfl ?_
      exact Only.refl _ _

theorem countSat_only (s : State) (p : Nat) (n : Nat) : Only 0x20 s (countSat s p n) := by
  unfold countSat
  refine Only.ite ?_ ?_
  · exact Only.refl _ _
  · refine Only.step (addObj_only ..) rfl ?_
    exact Only.refl _ _

end Sys2Proof.Machine
end

