-- ==== Sys2Proof/Laws/KeepsFlags.lean ====
section
/-! SUPPORT. Each operation of Machine/Flags.lean keeps: the form of the memories and the bounds of the stores. -/
namespace Sys2Proof.Machine

theorem incFlag_keeps (s : State) (t : Nat) (f : Nat) (off : Nat) (unit : Nat) : Keeps s (incFlag s t f off unit) := by
  unfold incFlag
  split
  · exact Keeps.refl _
  · refine Keeps.ite ?_ ?_
    · refine Keeps.step (tileFault_keeps ..) ?_
      exact Keeps.refl _
    · refine Keeps.of_only (updRun_only _ _ _) rfl ?_
      exact Keeps.refl _

end Sys2Proof.Machine
end

