-- ==== Sys2Proof/Laws/OnlyTileSeq.lean ====
section
/-! SUPPORT. What each operation of Machine/TileSeq.lean can change, at most. -/
namespace Sys2Proof.Machine

theorem TCtx.fault_only (c : TCtx) (s : State) (unit : Nat) (reason : Nat) (addr : Nat) : Only 0xe00a09000007003a77fdda0 s (TCtx.fault c s unit reason addr) := by
  unfold TCtx.fault
  refine Only.step (tileFault_only ..) rfl ?_
  exact Only.refl _ _

theorem correctRead_only (s : State) (t : Nat) (a : Nat) (n : Nat) : Only 0x800000000042000020 s (correctRead s t a n) := by
  unfold correctRead
  refine Only.ite ?_ ?_
  · refine Only.foldl (fun _ _ _ => ?_) ?_
    · refine Only.ite ?_ ?_
      · refine Only.step (kennelCorrected_only ..) rfl ?_
        refine Only.step (addObj_only ..) rfl ?_
        refine Only.set_accErr rfl ?_ _
        assumption
      · assumption
    · exact Only.refl _ _
  · refine Only.foldl (fun _ _ _ => ?_) ?_
    · refine Only.ite ?_ ?_
      · refine Only.step (kennelCorrected_only ..) rfl ?_
        refine Only.step (addObj_only ..) rfl ?_
        refine Only.set_spErr rfl ?_ _
        assumption
      · assumption
    · exact Only.refl _ _

theorem tileCmd_only {m : Nat} {s0 s : State} {t : Nat} {sel : Nat → Bool} {f : TCtx → State → State}
    (hf : ∀ c u, Only m s0 u → Only m s0 (f c u)) (w : 0xe00a09000007003a77fdda0 &&& m = 0xe00a09000007003a77fdda0) (h : Only m s0 s) : OnlyO m s0 (tileCmd t sel f s) := by
  unfold tileCmd
  refine OnlyO.ite (OnlyO.fault _ _ _) ?_
  split
  · exact OnlyO.next h
  · refine OnlyO.ite (OnlyO.next ?_) (OnlyO.ite (OnlyO.next ?_) (OnlyO.ite (OnlyO.next h) (OnlyO.ite (OnlyO.next ?_)
      (OnlyO.ite (OnlyO.next h) (OnlyO.next (hf _ _ h)))))) <;> exact Only.step (TCtx.fault_only ..) w h

theorem tileNext_only (s : State) (t : Nat) : Only 0x200000000 s (tileNext s t) := by
  unfold tileNext
  refine Only.step (updRun_only ..) rfl ?_
  exact Only.refl _ _

theorem hzReport_only (c : TCtx) (s : State) (a : HzRec) (b : HzRec) (kind : Nat) (op : Nat) (len : Nat) : Only 0xe00a09000007003a77fdda0 s (hzReport c s a b kind op len) := by
  unfold hzReport
  split
  · exact Only.refl _ _
  · refine Only.ite ?_ ?_
    · exact Only.refl _ _
    · dsimp only
      refine Only.ite ?_ ?_
      · refine Only.step (TCtx.fault_only ..) rfl ?_
        refine Only.step (postDebug_only ..) rfl ?_
        refine Only.step (addObj_only ..) rfl ?_
        refine Only.step (updStep_only ..) rfl ?_
        exact Only.refl _ _
      · refine Only.step (postDebug_only ..) rfl ?_
        refine Only.step (addObj_only ..) rfl ?_
        refine Only.step (updStep_only ..) rfl ?_
        exact Only.refl _ _

theorem hzGuarded_only (c : TCtx) (s : State) (b : HzRec) (own : List (Nat × Nat)) : Only 0xe00a09000007003a77fdda0 s (hzGuarded c s b own) := by
  unfold hzGuarded
  dsimp only
  refine Only.foldl (fun _ _ _ => ?_) ?_
  · split
    · refine Only.step (hzReport_only ..) rfl ?_
      assumption
    · assumption
  · exact Only.refl _ _

theorem hzIssue_only (c : TCtx) (s : State) (b : HzRec) (own : List (Nat × Nat)) : Only 0xe00a09000007003a77fdda0 s (hzIssue c s b own) := by
  unfold hzIssue
  refine Only.ite ?_ ?_
  · dsimp only
    refine Only.step (updRun_only ..) rfl ?_
    refine Only.step (hzGuarded_only ..) rfl ?_
    refine Only.foldl (fun _ _ _ => ?_) ?_
    · refine Only.step (hzReport_only ..) rfl ?_
      assumption
    · exact Only.refl _ _
  · exact Only.refl _ _

theorem issue_only {m : Nat} {s0 s : State} {c : TCtx} {unit flag : Nat} {rd wr own : List (Nat × Nat)} {f : State → State}
    (hf : ∀ t, Only m s0 t → Only m s0 (f t)) (w : 0xe00a09000007003e77fdda0 &&& m = 0xe00a09000007003e77fdda0) (h : Only m s0 s) : Only m s0 (issue c unit rd wr f s flag own) := by
  have v : ∀ a, a &&& 0xe00a09000007003e77fdda0 = a → a &&& m = a := fun a e => by rw [← e, Nat.and_assoc, w]
  unfold issue
  have g : Only m s0 ((rd ++ wr).foldl (fun s x => correctRead s c.t x.1 x.2)
      (hzIssue c s { off := 0, unit := unit, rd := rd, wr := wr, flag := flag } own)) := by
    refine Only.foldl (fun _ _ g => Only.step (correctRead_only ..) (v _ rfl) g) ?_
    exact Only.step (hzIssue_only ..) (v _ rfl) h
  exact Only.ite (Only.step (tileNext_only ..) (v _ rfl) (hf _ g)) g

theorem seqNext_only (c : TCtx) (kind : Nat) (arg : Nat) (s : State) : Only 0x200000000 s (seqNext c kind arg s) := by
  unfold seqNext
  refine Only.step (tileNext_only ..) rfl ?_
  refine Only.ite ?_ ?_
  · refine Only.step (updRun_only ..) rfl ?_
    exact Only.refl _ _
  · exact Only.refl _ _

theorem execNop_only (t : Nat) (s : State) : OnlyO 0xe00a09000007003a77fdda0 s (execNop t s) := by
  unfold execNop
  refine tileCmd_only (fun _ _ _ => ?_) rfl ?_
  · refine Only.step (tileNext_only ..) rfl ?_
    assumption
  · exact Only.refl _ _

theorem tryCommit_only (s : State) (p : Nat) : Only 0xe0080100000000200035ca0 s (tryCommit s p) := by
  unfold tryCommit
  split
  · exact Only.refl _ _
  · refine Only.ite ?_ ?_
    · refine Only.step (commitIfDecided_only ..) rfl ?_
      exact Only.refl _ _
    · exact Only.refl _ _

theorem execEndCmd_only (t : Nat) (s : State) : OnlyO 0xe00a09000007003a77fdda0 s (execEndCmd t s) := by
  unfold execEndCmd
  refine tileCmd_only (fun _ _ _ => ?_) rfl ?_
  · refine Only.ite ?_ ?_
    · dsimp only
      refine Only.ite ?_ ?_
      · refine Only.set_tiles rfl ?_ _
        assumption
      · refine Only.step (tryCommit_only ..) rfl ?_
        refine Only.ite ?_ ?_
        · refine Only.step (sendMasks_only ..) rfl ?_
          refine Only.step (reviewStall_only ..) rfl ?_
          refine Only.step (updStep_only ..) rfl ?_
          refine Only.set_tiles rfl ?_ _
          assumption
        · refine Only.step (reviewStall_only ..) rfl ?_
          refine Only.step (updStep_only ..) rfl ?_
          refine Only.set_tiles rfl ?_ _
          assumption
    · assumption
  · exact Only.refl _ _

theorem sendResume_only (c : TCtx) (s : State) : Only 0x200000520 s (sendResume c s) := by
  unfold sendResume
  refine Only.ite ?_ ?_
  · dsimp only
    refine Only.step (reviewStall_only ..) rfl ?_
    refine Only.step (updStep_only ..) rfl ?_
    refine Only.ite ?_ ?_
    · refine Only.step (addGuardTime_only ..) rfl ?_
      refine Only.step (updRun_only ..) rfl ?_
      exact Only.refl _ _
    · refine Only.step (updRun_only ..) rfl ?_
      exact Only.refl _ _
  · exact Only.refl _ _

theorem execTstep_only (t : Nat) (s : State) : OnlyO 0xe00a09000007003a77fdda0 s (execTstep t s) := by
  unfold execTstep
  refine tileCmd_only (fun _ _ _ => ?_) rfl ?_
  · refine Only.ite ?_ ?_
    · refine Only.set_accPend_tiles rfl rfl ?_ _ _
      assumption
    · dsimp only
      refine Only.ite ?_ ?_
      · refine Only.step (sendResume_only ..) rfl ?_
        assumption
      · refine Only.step (tileNext_only ..) rfl ?_
        refine Only.step (updRun_only ..) rfl ?_
        refine Only.step (sendResume_only ..) rfl ?_
        assumption
  · exact Only.refl _ _

theorem execWaitf_only (t : Nat) (s : State) : OnlyO 0xe00a09000007003a77fdda0 s (execWaitf t s) := by
  unfold execWaitf
  refine tileCmd_only (fun _ _ _ => ?_) rfl ?_
  · refine Only.ite ?_ ?_
    · refine Only.step (seqNext_only ..) rfl ?_
      assumption
    · assumption
  · exact Only.refl _ _

theorem execFence_only (t : Nat) (s : State) : OnlyO 0xe00a09000007003a77fdda0 s (execFence t s) := by
  unfold execFence
  refine tileCmd_only (fun _ _ _ => ?_) rfl ?_
  · refine Only.ite ?_ ?_
    · assumption
    · refine Only.step (seqNext_only ..) rfl ?_
      assumption
  · exact Only.refl _ _

theorem execSyncSignal_only (t : Nat) (s : State) : OnlyO 0xe00a09000007003a77fdda0 s (execSyncSignal t s) := by
  unfold execSyncSignal
  refine tileCmd_only (fun _ _ _ => ?_) rfl ?_
  · dsimp only
    refine Only.ite ?_ ?_
    · refine Only.step (TCtx.fault_only ..) rfl ?_
      assumption
    · split
      · refine Only.step (TCtx.fault_only ..) rfl ?_
        assumption
      · refine Only.step (seqNext_only ..) rfl ?_
        refine Only.step (syncWrite_only ..) rfl ?_
        assumption
  · exact Only.refl _ _

theorem execSyncWait_only (t : Nat) (s : State) : OnlyO 0xe00a09000007003a77fdda0 s (execSyncWait t s) := by
  unfold execSyncWait
  refine tileCmd_only (fun _ _ _ => ?_) rfl ?_
  · dsimp only
    refine Only.ite ?_ ?_
    · refine Only.step (TCtx.fault_only ..) rfl ?_
      assumption
    · refine Only.ite ?_ ?_
      · refine Only.step (seqNext_only ..) rfl ?_
        refine Only.step (updRun_only ..) rfl ?_
        assumption
      · refine Only.step (draftCheck_only ..) rfl ?_
        refine Only.step (updRun_only ..) rfl ?_
        assumption
  · exact Only.refl _ _

theorem execBrk_only (t : Nat) (s : State) : OnlyO 0xe00a09000007003a77fdda0 s (execBrk t s) := by
  unfold execBrk
  refine tileCmd_only (fun _ _ _ => ?_) rfl ?_
  · refine Only.ite ?_ ?_
    · refine Only.step (tileNext_only ..) rfl ?_
      assumption
    · refine Only.ite ?_ ?_
      · refine Only.step (tileNext_only ..) rfl ?_
        refine Only.step (updRun_only ..) rfl ?_
        assumption
      · refine Only.step (postDebug_only ..) rfl ?_
        refine Only.step (updRun_only ..) rfl ?_
        assumption
  · exact Only.refl _ _

theorem repairCause_only (s : State) (p : Nat) (t : Nat) (cause : Nat) : Only 0x100000000000000080 s (repairCause s p t cause) := by
  unfold repairCause
  refine Only.ite ?_ ?_
  · refine Only.step (raise_only ..) rfl ?_
    exact Only.refl _ _
  · exact Only.refl _ _

theorem execTileLate_only (t : Nat) (s : State) : OnlyO 0x1000000002000005a0 s (execTileLate t s) := by
  unfold execTileLate
  refine OnlyO.ite ?_ ?_
  · exact OnlyO.fault _ _ _
  · split
    · refine OnlyO.next ?_
      exact Only.refl _ _
    · split
      · refine OnlyO.next ?_
        exact Only.refl _ _
      · dsimp only
        refine OnlyO.ite ?_ ?_
        · refine OnlyO.next ?_
          exact Only.refl _ _
        · refine OnlyO.next ?_
          refine Only.step (draftCheck_only ..) rfl ?_
          refine Only.step (repairCause_only ..) rfl ?_
          refine Only.step (enterStall_only ..) rfl ?_
          refine Only.step (updStep_only ..) rfl ?_
          refine Only.step (updRun_only ..) rfl ?_
          refine Only.ite ?_ ?_
          · refine Only.step (updStep_only ..) rfl ?_
            refine Only.ite ?_ ?_
            · refine Only.step (raise_only ..) rfl ?_
              exact Only.refl _ _
            · exact Only.refl _ _
          · refine Only.ite ?_ ?_
            · refine Only.step (raise_only ..) rfl ?_
              exact Only.refl _ _
            · exact Only.refl _ _

theorem takeNotice_only {s t : State} {p tile src kind n : Nat} (h : takeNotice s p tile src kind = some (n, t)) : Only 0x400 s t := by
  unfold takeNotice at h
  split at h
  · cases h
  · split at h
    · cases h
    · cases h
      exact Only.step (updStep_only ..) rfl (Only.refl _ _)

theorem execStallNotice_only (t : Nat) (src : Nat) (s : State) : OnlyO 0x200000400 s (execStallNotice t src s) := by
  unfold execStallNotice
  refine OnlyO.ite ?_ ?_
  · exact OnlyO.fault _ _ _
  · split
    · refine OnlyO.next ?_
      exact Only.refl _ _
    · split
      · refine OnlyO.next ?_
        exact Only.refl _ _
      · refine OnlyO.next ?_
        refine Only.step (updRun_only ..) rfl ?_
        refine Only.step (takeNotice_only (by assumption)) rfl ?_
        exact Only.refl _ _

theorem execResumeNotice_only (t : Nat) (src : Nat) (lat : Nat) (s : State) : OnlyO 0x200000400 s (execResumeNotice t src lat s) := by
  unfold execResumeNotice
  refine OnlyO.ite ?_ ?_
  · exact OnlyO.fault _ _ _
  · split
    · refine OnlyO.next ?_
      exact Only.refl _ _
    · refine OnlyO.ite ?_ ?_
      · refine OnlyO.next ?_
        exact Only.refl _ _
      · split
        · refine OnlyO.next ?_
          exact Only.refl _ _
        · refine OnlyO.next ?_
          refine Only.step (updRun_only ..) rfl ?_
          refine Only.step (takeNotice_only (by assumption)) rfl ?_
          exact Only.refl _ _

theorem execStallLimitExpire_only (p : Nat) (s : State) : OnlyO 0x800801000000000000084a0 s (execStallLimitExpire p s) := by
  unfold execStallLimitExpire
  refine OnlyO.ite ?_ ?_
  · exact OnlyO.fault _ _ _
  · split
    · dsimp only
      refine OnlyO.ite ?_ ?_
      · refine OnlyO.next ?_
        exact Only.refl _ _
      · refine OnlyO.next ?_
        refine Only.step (raise_only ..) rfl ?_
        refine Only.step (postDebug_only ..) rfl ?_
        refine Only.step (updStep_only ..) rfl ?_
        exact Only.refl _ _
    · refine OnlyO.next ?_
      exact Only.refl _ _

end Sys2Proof.Machine
end

