-- ==== Sys2Proof/Laws/KeepsTileSeq.lean ====
section
/-! SUPPORT. Each operation of Machine/TileSeq.lean keeps: the form of the memories and the bounds of the stores. -/
namespace Sys2Proof.Machine

theorem TCtx.fault_keeps (c : TCtx) (s : State) (unit : Nat) (reason : Nat) (addr : Nat) : Keeps s (TCtx.fault c s unit reason addr) := by
  unfold TCtx.fault
  refine Keeps.step (tileFault_keeps ..) ?_
  exact Keeps.refl _

theorem tileCmd_keeps {s0 s : State} {t : Nat} {sel : Nat → Bool} {f : TCtx → State → State}
    (hf : ∀ c u, Keeps s0 u → Keeps s0 (f c u)) (h : Keeps s0 s) : KeepsO s0 (tileCmd t sel f s) := by
  unfold tileCmd
  refine KeepsO.ite (KeepsO.fault _ _) ?_
  split
  · exact KeepsO.next h
  · refine KeepsO.ite (KeepsO.next ?_) (KeepsO.ite (KeepsO.next ?_) (KeepsO.ite (KeepsO.next h) (KeepsO.ite (KeepsO.next ?_)
      (KeepsO.ite (KeepsO.next h) (KeepsO.next (hf _ _ h)))))) <;> exact Keeps.step (TCtx.fault_keeps ..) h

theorem hzReport_keeps (c : TCtx) (s : State) (a : HzRec) (b : HzRec) (kind : Nat) (op : Nat) (len : Nat) : Keeps s (hzReport c s a b kind op len) := by
  unfold hzReport
  split
  · exact Keeps.refl _
  · refine Keeps.ite ?_ ?_
    · exact Keeps.refl _
    · dsimp only
      refine Keeps.ite ?_ ?_
      · refine Keeps.step (TCtx.fault_keeps ..) ?_
        refine Keeps.of_only (postDebug_only _ _ _) rfl ?_
        refine Keeps.of_only (addObj_only _ _ _ _ _ _) rfl ?_
        refine Keeps.of_only (updStep_only _ _ _) rfl ?_
        exact Keeps.refl _
      · refine Keeps.of_only (postDebug_only _ _ _) rfl ?_
        refine Keeps.of_only (addObj_only _ _ _ _ _ _) rfl ?_
        refine Keeps.of_only (updStep_only _ _ _) rfl ?_
        exact Keeps.refl _

theorem hzGuarded_keeps (c : TCtx) (s : State) (b : HzRec) (own : List (Nat × Nat)) : Keeps s (hzGuarded c s b own) := by
  unfold hzGuarded
  dsimp only
  refine Keeps.foldl (fun _ _ _ => ?_) ?_
  · split
    · refine Keeps.step (hzReport_keeps ..) ?_
      assumption
    · assumption
  · exact Keeps.refl _

theorem hzIssue_keeps (c : TCtx) (s : State) (b : HzRec) (own : List (Nat × Nat)) : Keeps s (hzIssue c s b own) := by
  unfold hzIssue
  refine Keeps.ite ?_ ?_
  · dsimp only
    refine Keeps.of_only (updRun_only _ _ _) rfl ?_
    refine Keeps.step (hzGuarded_keeps ..) ?_
    refine Keeps.foldl (fun _ _ _ => ?_) ?_
    · refine Keeps.step (hzReport_keeps ..) ?_
      assumption
    · exact Keeps.refl _
  · exact Keeps.refl _

theorem issue_keeps {s0 s : State} {c : TCtx} {unit flag : Nat} {rd wr own : List (Nat × Nat)} {f : State → State}
    (hf : ∀ t, Keeps s0 t → Keeps s0 (f t)) (h : Keeps s0 s) : Keeps s0 (issue c unit rd wr f s flag own) := by
  unfold issue
  have g : Keeps s0 ((rd ++ wr).foldl (fun s x => correctRead s c.t x.1 x.2)
      (hzIssue c s { off := 0, unit := unit, rd := rd, wr := wr, flag := flag } own)) := by
    refine Keeps.foldl (fun _ _ g => Keeps.of_only (correctRead_only ..) rfl g) ?_
    exact Keeps.step (hzIssue_keeps ..) h
  exact Keeps.ite (Keeps.of_only (tileNext_only ..) rfl (hf _ g)) g

theorem execNop_keeps (t : Nat) (s : State) : KeepsO s (execNop t s) := by
  unfold execNop
  refine tileCmd_keeps (fun _ _ _ => ?_) ?_
  · refine Keeps.of_only (tileNext_only _ _) rfl ?_
    assumption
  · exact Keeps.refl _

theorem tryCommit_keeps (s : State) (p : Nat) : Keeps s (tryCommit s p) := by
  unfold tryCommit
  split
  · exact Keeps.refl _
  · refine Keeps.ite ?_ ?_
    · refine Keeps.step (commitIfDecided_keeps ..) ?_
      exact Keeps.refl _
    · exact Keeps.refl _

theorem execEndCmd_keeps (t : Nat) (s : State) : KeepsO s (execEndCmd t s) := by
  unfold execEndCmd
  refine tileCmd_keeps (fun _ _ _ => ?_) ?_
  · refine Keeps.ite ?_ ?_
    · dsimp only
      refine Keeps.ite ?_ ?_
      · refine Keeps.of_only (Only.set_tiles (m := 8589934592) rfl (Only.refl _ _) _) rfl ?_
        assumption
      · refine Keeps.step (tryCommit_keeps ..) ?_
        refine Keeps.ite ?_ ?_
        · refine Keeps.of_only (sendMasks_only _ _) rfl ?_
          refine Keeps.of_only (reviewStall_only _ _) rfl ?_
          refine Keeps.of_only (updStep_only _ _ _) rfl ?_
          refine Keeps.of_only (Only.set_tiles (m := 8589934592) rfl (Only.refl _ _) _) rfl ?_
          assumption
        · refine Keeps.of_only (reviewStall_only _ _) rfl ?_
          refine Keeps.of_only (updStep_only _ _ _) rfl ?_
          refine Keeps.of_only (Only.set_tiles (m := 8589934592) rfl (Only.refl _ _) _) rfl ?_
          assumption
    · assumption
  · exact Keeps.refl _

theorem execTstep_keeps (t : Nat) (s : State) : KeepsO s (execTstep t s) := by
  unfold execTstep
  refine tileCmd_keeps (fun _ _ _ => ?_) ?_
  · refine Keeps.ite ?_ ?_
    · refine Keeps.of_only (Only.set_accPend_tiles (m := 9126805504) rfl rfl (Only.refl _ _) _ _) rfl ?_
      assumption
    · dsimp only
      refine Keeps.ite ?_ ?_
      · refine Keeps.of_only (sendResume_only _ _) rfl ?_
        assumption
      · refine Keeps.of_only (tileNext_only _ _) rfl ?_
        refine Keeps.of_only (updRun_only _ _ _) rfl ?_
        refine Keeps.of_only (sendResume_only _ _) rfl ?_
        assumption
  · exact Keeps.refl _

theorem execWaitf_keeps (t : Nat) (s : State) : KeepsO s (execWaitf t s) := by
  unfold execWaitf
  refine tileCmd_keeps (fun _ _ _ => ?_) ?_
  · refine Keeps.ite ?_ ?_
    · refine Keeps.of_only (seqNext_only _ _ _ _) rfl ?_
      assumption
    · assumption
  · exact Keeps.refl _

theorem execFence_keeps (t : Nat) (s : State) : KeepsO s (execFence t s) := by
  unfold execFence
  refine tileCmd_keeps (fun _ _ _ => ?_) ?_
  · refine Keeps.ite ?_ ?_
    · assumption
    · refine Keeps.of_only (seqNext_only _ _ _ _) rfl ?_
      assumption
  · exact Keeps.refl _

theorem execSyncSignal_keeps (t : Nat) (s : State) : KeepsO s (execSyncSignal t s) := by
  unfold execSyncSignal
  refine tileCmd_keeps (fun _ _ _ => ?_) ?_
  · dsimp only
    refine Keeps.ite ?_ ?_
    · refine Keeps.step (TCtx.fault_keeps ..) ?_
      assumption
    · split
      · refine Keeps.step (TCtx.fault_keeps ..) ?_
        assumption
      · refine Keeps.of_only (seqNext_only _ _ _ _) rfl ?_
        refine Keeps.step (syncWrite_keeps ..) ?_
        assumption
  · exact Keeps.refl _

theorem execSyncWait_keeps (t : Nat) (s : State) : KeepsO s (execSyncWait t s) := by
  unfold execSyncWait
  refine tileCmd_keeps (fun _ _ _ => ?_) ?_
  · dsimp only
    refine Keeps.ite ?_ ?_
    · refine Keeps.step (TCtx.fault_keeps ..) ?_
      assumption
    · refine Keeps.ite ?_ ?_
      · refine Keeps.of_only (seqNext_only _ _ _ _) rfl ?_
        refine Keeps.of_only (updRun_only _ _ _) rfl ?_
        assumption
      · refine Keeps.step (draftCheck_keeps ..) ?_
        refine Keeps.of_only (updRun_only _ _ _) rfl ?_
        assumption
  · exact Keeps.refl _

theorem execBrk_keeps (t : Nat) (s : State) : KeepsO s (execBrk t s) := by
  unfold execBrk
  refine tileCmd_keeps (fun _ _ _ => ?_) ?_
  · refine Keeps.ite ?_ ?_
    · refine Keeps.of_only (tileNext_only _ _) rfl ?_
      assumption
    · refine Keeps.ite ?_ ?_
      · refine Keeps.of_only (tileNext_only _ _) rfl ?_
        refine Keeps.of_only (updRun_only _ _ _) rfl ?_
        assumption
      · refine Keeps.of_only (postDebug_only _ _ _) rfl ?_
        refine Keeps.of_only (updRun_only _ _ _) rfl ?_
        assumption
  · exact Keeps.refl _

theorem repairCause_keeps (s : State) (p : Nat) (t : Nat) (cause : Nat) : Keeps s (repairCause s p t cause) := by
  unfold repairCause
  refine Keeps.ite ?_ ?_
  · refine Keeps.step (raise_keeps ..) ?_
    exact Keeps.refl _
  · exact Keeps.refl _

theorem execTileLate_keeps (t : Nat) (s : State) : KeepsO s (execTileLate t s) := by
  unfold execTileLate
  refine KeepsO.ite ?_ ?_
  · exact KeepsO.fault _ _
  · split
    · refine KeepsO.next ?_
      exact Keeps.refl _
    · split
      · refine KeepsO.next ?_
        exact Keeps.refl _
      · dsimp only
        refine KeepsO.ite ?_ ?_
        · refine KeepsO.next ?_
          exact Keeps.refl _
        · refine KeepsO.next ?_
          refine Keeps.step (draftCheck_keeps ..) ?_
          refine Keeps.step (repairCause_keeps ..) ?_
          refine Keeps.of_only (enterStall_only _ _ _ _ _ _) rfl ?_
          refine Keeps.of_only (updStep_only _ _ _) rfl ?_
          refine Keeps.of_only (updRun_only _ _ _) rfl ?_
          refine Keeps.ite ?_ ?_
          · refine Keeps.of_only (updStep_only _ _ _) rfl ?_
            refine Keeps.ite ?_ ?_
            · refine Keeps.step (raise_keeps ..) ?_
              exact Keeps.refl _
            · exact Keeps.refl _
          · refine Keeps.ite ?_ ?_
            · refine Keeps.step (raise_keeps ..) ?_
              exact Keeps.refl _
            · exact Keeps.refl _

theorem execStallLimitExpire_keeps (p : Nat) (s : State) : KeepsO s (execStallLimitExpire p s) := by
  unfold execStallLimitExpire
  refine KeepsO.ite ?_ ?_
  · exact KeepsO.fault _ _
  · split
    · dsimp only
      refine KeepsO.ite ?_ ?_
      · refine KeepsO.next ?_
        exact Keeps.refl _
      · refine KeepsO.next ?_
        refine Keeps.step (raise_keeps ..) ?_
        refine Keeps.of_only (postDebug_only _ _ _) rfl ?_
        refine Keeps.of_only (updStep_only _ _ _) rfl ?_
        exact Keeps.refl _
    · refine KeepsO.next ?_
      exact Keeps.refl _

end Sys2Proof.Machine
end

