-- ==== Sys2Proof/Laws/OnlyTileArr.lean ====
section
/-! SUPPORT. What each operation of Machine/TileArr.lean can change, at most. -/
namespace Sys2Proof.Machine

theorem closeScope_only (s : State) (c : TCtx) : Only 0x200000000 s (closeScope s c) := by
  unfold closeScope
  split
  · exact Only.refl _ _
  · refine Only.ite ?_ ?_
    · refine Only.step (updRun_only ..) rfl ?_
      exact Only.refl _ _
    · exact Only.refl _ _

theorem flagRun_only (s : State) (c : TCtx) (slot : Nat) (node : Nat) (f : Nat) (side : Nat) (b : GBlock) : Only 0x80080000000000200008420 s (flagRun s c slot node f side b) := by
  unfold flagRun
  dsimp only
  refine Only.step (updRun_only ..) rfl ?_
  refine Only.step (updStep_only ..) rfl ?_
  refine Only.ite ?_ ?_
  · refine Only.step (postDebug_only ..) rfl ?_
    refine Only.step (addObj_only ..) rfl ?_
    exact Only.refl _ _
  · refine Only.step (addObj_only ..) rfl ?_
    exact Only.refl _ _

theorem guardCount_only {s : State} {c : TCtx} {slot : Nat} {f : Nat} {qs : List Quant} {s' : State} {y : Option GBlock} (hq : guardCount s c slot f qs = (s', y)) : Only 0x200000420 s s' := by
  unfold guardCount at hq
  split at hq
  · dsimp only at hq
    split at hq
    · cases hq
      refine Only.step (updRun_only ..) rfl ?_
      refine Only.step (updStep_only ..) rfl ?_
      exact Only.refl _ _
    · cases hq
      refine Only.step (addObj_only ..) rfl ?_
      refine Only.step (addObj_only ..) rfl ?_
      refine Only.step (updRun_only ..) rfl ?_
      refine Only.step (updStep_only ..) rfl ?_
      exact Only.refl _ _
  · cases hq
    exact Only.refl _ _

theorem quantCount_only (s : State) (p : Nat) (f : Nat) (qs : List Quant) : Only 0x20 s (quantCount s p f qs) := by
  unfold quantCount
  dsimp only
  refine Only.ite ?_ ?_
  · refine Only.step (countNum_only ..) rfl ?_
    exact Only.refl _ _
  · refine Only.step (countSat_only ..) rfl ?_
    refine Only.step (countNum_only ..) rfl ?_
    exact Only.refl _ _

theorem markVectors_only (s : State) (t : Nat) (off : Nat) (len : Nat) (qs : List Quant) : Only 0x4000000 s (markVectors s t off len qs) := by
  unfold markVectors
  refine Only.set_nonfinVec rfl ?_ _
  exact Only.refl _ _

theorem quantWrite_only {s : State} {c : TCtx} {compiled : Nat} {f : Nat} {dst : Nat} {dsts : Nat} {qs : List Quant} {s' : State} (hq : quantWrite s c compiled f dst dsts qs = .inr s') : Only 0x207000000 s s' := by
  unfold quantWrite at hq
  dsimp only at hq
  split at hq
  · obtain rfl := Sum.inr.inj hq
    refine Only.ite ?_ ?_
    · refine Only.step (markVectors_only ..) rfl ?_
      refine Only.step (tileOperand_only ..) rfl ?_
      refine Only.step (tileOperand_only ..) rfl ?_
      refine Only.step (updRun_only ..) rfl ?_
      exact Only.refl _ _
    · refine Only.step (tileOperand_only ..) rfl ?_
      refine Only.step (tileOperand_only ..) rfl ?_
      refine Only.step (updRun_only ..) rfl ?_
      exact Only.refl _ _
  · split at hq
    · split at hq
      · cases hq
      · obtain rfl := Sum.inr.inj hq
        refine Only.step (updRun_only ..) rfl ?_
        refine Only.step (markVectors_only ..) rfl ?_
        refine Only.step (tileOperand_only ..) rfl ?_
        refine Only.step (spWrite_only ..) rfl ?_
        exact Only.refl _ _
    · split at hq
      · cases hq
      · obtain rfl := Sum.inr.inj hq
        refine Only.step (updRun_only ..) rfl ?_
        refine Only.step (spWrite_only ..) rfl ?_
        refine Only.step (spWrite_only ..) rfl ?_
        exact Only.refl _ _

theorem execQnt_only (t : Nat) (s : State) : OnlyO 0xe00a09000007003e77fdda0 s (execQnt t s) := by
  unfold execQnt
  refine tileCmd_only (fun _ _ _ => ?_) rfl ?_
  · dsimp only
    refine Only.ite ?_ ?_
    · refine Only.step (TCtx.fault_only ..) rfl ?_
      assumption
    · refine Only.ite ?_ ?_
      · refine Only.step (TCtx.fault_only ..) rfl ?_
        assumption
      · refine Only.ite ?_ ?_
        · refine Only.step (TCtx.fault_only ..) rfl ?_
          assumption
        · refine Only.ite ?_ ?_
          · refine Only.step (TCtx.fault_only ..) rfl ?_
            assumption
          · refine Only.ite ?_ ?_
            · refine Only.step (TCtx.fault_only ..) rfl ?_
              assumption
            · refine Only.ite ?_ ?_
              · refine Only.step (TCtx.fault_only ..) rfl ?_
                assumption
              · refine Only.ite ?_ ?_
                · assumption
                · split
                  · refine Only.step (TCtx.fault_only ..) rfl ?_
                    assumption
                  · split
                    · split
                      · refine Only.step (flagRun_only ..) rfl ?_
                        refine Only.ite ?_ ?_
                        · refine Only.step (updRun_only ..) rfl ?_
                          refine Only.step (guardCount_only (y := _) rfl) rfl ?_
                          refine Only.step (quantCount_only ..) rfl ?_
                          assumption
                        · refine Only.step (guardCount_only (y := _) rfl) rfl ?_
                          refine Only.step (quantCount_only ..) rfl ?_
                          assumption
                      · split
                        · refine Only.step (TCtx.fault_only ..) rfl ?_
                          refine Only.ite ?_ ?_
                          · refine Only.step (updRun_only ..) rfl ?_
                            refine Only.step (guardCount_only (y := _) rfl) rfl ?_
                            refine Only.step (quantCount_only ..) rfl ?_
                            assumption
                          · refine Only.step (guardCount_only (y := _) rfl) rfl ?_
                            refine Only.step (quantCount_only ..) rfl ?_
                            assumption
                        · refine issue_only (fun _ _ => ?_) rfl ?_
                          · split
                            · assumption
                            · refine Only.step (closeScope_only ..) rfl ?_
                              refine Only.step (quantWrite_only (by assumption)) rfl ?_
                              assumption
                          · refine Only.ite ?_ ?_
                            · refine Only.step (updRun_only ..) rfl ?_
                              refine Only.step (guardCount_only (y := _) rfl) rfl ?_
                              refine Only.step (quantCount_only ..) rfl ?_
                              assumption
                            · refine Only.step (guardCount_only (y := _) rfl) rfl ?_
                              refine Only.step (quantCount_only ..) rfl ?_
                              assumption
                    · refine Only.step (TCtx.fault_only ..) rfl ?_
                      assumption
                    · refine Only.step (TCtx.fault_only ..) rfl ?_
                      assumption
  · exact Only.refl _ _

theorem execGuardRepeatStart_only (t : Nat) (s : State) : OnlyO 0x219000000 s (execGuardRepeatStart t s) := by
  unfold execGuardRepeatStart
  refine OnlyO.ite ?_ ?_
  · exact OnlyO.fault _ _ _
  · split
    · refine OnlyO.next ?_
      exact Only.refl _ _
    · refine OnlyO.ite ?_ ?_
      · dsimp only
        refine OnlyO.next ?_
        refine Only.step (updRun_only ..) rfl ?_
        refine Only.set_sp_acc_accTag rfl rfl rfl ?_ _ _ _
        exact Only.refl _ _
      · refine OnlyO.next ?_
        exact Only.refl _ _

theorem startEval_only (s : State) (c : TCtx) (a : Nat) (bank : Nat) (row : Nat) (x : EvalIn) : Only 0x220000000 s (startEval s c a bank row x) := by
  unfold startEval
  dsimp only
  refine Only.step (updRun_only ..) rfl ?_
  refine Only.set_accPend rfl ?_ _
  exact Only.refl _ _

theorem evalCmd_only (c : TCtx) (s : State) : Only 0xe00a09000007003e77fdda0 s (evalCmd c s) := by
  unfold evalCmd
  dsimp only
  refine Only.ite ?_ ?_
  · refine Only.step (TCtx.fault_only ..) rfl ?_
    exact Only.refl _ _
  · refine Only.ite ?_ ?_
    · refine Only.step (TCtx.fault_only ..) rfl ?_
      exact Only.refl _ _
    · split
      · refine Only.step (TCtx.fault_only ..) rfl ?_
        exact Only.refl _ _
      · refine Only.ite ?_ ?_
        · refine Only.step (TCtx.fault_only ..) rfl ?_
          exact Only.refl _ _
        · refine Only.ite ?_ ?_
          · exact Only.refl _ _
          · split
            · refine Only.step (TCtx.fault_only ..) rfl ?_
              exact Only.refl _ _
            · refine Only.step (TCtx.fault_only ..) rfl ?_
              exact Only.refl _ _
            · refine Only.ite ?_ ?_
              · refine Only.step (TCtx.fault_only ..) rfl ?_
                exact Only.refl _ _
              · refine Only.ite ?_ ?_
                · refine issue_only (fun _ _ => ?_) rfl ?_
                  · refine Only.step (startEval_only ..) rfl ?_
                    assumption
                  · exact Only.refl _ _
                · split
                  · refine Only.step (flagRun_only ..) rfl ?_
                    refine Only.ite ?_ ?_
                    · refine Only.step (guardCount_only (y := _) rfl) rfl ?_
                      refine Only.step (quantCount_only ..) rfl ?_
                      exact Only.refl _ _
                    · refine Only.step (updRun_only ..) rfl ?_
                      refine Only.step (guardCount_only (y := _) rfl) rfl ?_
                      refine Only.step (quantCount_only ..) rfl ?_
                      exact Only.refl _ _
                  · refine issue_only (fun _ _ => ?_) rfl ?_
                    · refine Only.step (closeScope_only ..) rfl ?_
                      refine Only.step (startEval_only ..) rfl ?_
                      assumption
                    · refine Only.ite ?_ ?_
                      · refine Only.step (guardCount_only (y := _) rfl) rfl ?_
                        refine Only.step (quantCount_only ..) rfl ?_
                        exact Only.refl _ _
                      · refine Only.step (updRun_only ..) rfl ?_
                        refine Only.step (guardCount_only (y := _) rfl) rfl ?_
                        refine Only.step (quantCount_only ..) rfl ?_
                        exact Only.refl _ _

theorem execEvalA4_only (t : Nat) (s : State) : OnlyO 0xe00a09000007003e77fdda0 s (execEvalA4 t s) := by
  unfold execEvalA4
  refine tileCmd_only (fun _ _ _ => ?_) rfl ?_
  · refine Only.step (evalCmd_only ..) rfl ?_
    assumption
  · exact Only.refl _ _

theorem execEvalA8_only (t : Nat) (s : State) : OnlyO 0xe00a09000007003e77fdda0 s (execEvalA8 t s) := by
  unfold execEvalA8
  refine tileCmd_only (fun _ _ _ => ?_) rfl ?_
  · refine Only.step (evalCmd_only ..) rfl ?_
    assumption
  · exact Only.refl _ _

theorem takeCapture_only {s : State} {p : Nat} {t : Nat} {e : EvalRun} {g : Nat} {r : List Int} {tol : Nat} {s' : State} {y : Nat} (hq : takeCapture s p t e g r tol = (s', y)) : Only 0x48000000020 s s' := by
  unfold takeCapture at hq
  split at hq
  · cases hq
    refine Only.step (addObj_only ..) rfl ?_
    exact Only.refl _ _
  · dsimp only at hq
    cases hq
    refine Only.set_capLatch_capNo rfl rfl ?_ _ _
    exact Only.refl _ _

theorem checkEval_only (s : State) (p : Nat) (t : Nat) (r : TileRun) (e : EvalRun) (res : List Int) : Only 0x8008010000004c2002080a0 s (checkEval s p t r e res) := by
  unfold checkEval
  dsimp only
  split
  · refine Only.step (updRun_only ..) rfl ?_
    refine Only.set_checkCount rfl ?_ _
    exact Only.refl _ _
  · refine Only.ite ?_ ?_
    · refine Only.step (updRun_only ..) rfl ?_
      refine Only.set_checkCount rfl ?_ _
      exact Only.refl _ _
    · split
      · refine Only.step (updBank_only ..) rfl ?_
        refine Only.step (updRun_only ..) rfl ?_
        refine Only.set_checkCount rfl ?_ _
        exact Only.refl _ _
      · refine Only.step (raiseRc_only ..) rfl ?_
        refine Only.step (postDebug_only ..) rfl ?_
        refine Only.step (takeCapture_only (y := _) rfl) rfl ?_
        refine Only.step (addObj_only ..) rfl ?_
        refine Only.step (updBank_only ..) rfl ?_
        refine Only.step (updRun_only ..) rfl ?_
        refine Only.set_checkCount rfl ?_ _
        exact Only.refl _ _

theorem execEvalResultWrite_only (t : Nat) (a : Nat) (codes : List (List (BitVec 12))) (s : State) : OnlyO 0x8008010000004c2782080a0 s (execEvalResultWrite t a codes s) := by
  unfold execEvalResultWrite
  refine OnlyO.ite ?_ ?_
  · exact OnlyO.fault _ _ _
  · split
    · refine OnlyO.next ?_
      exact Only.refl _ _
    · split
      · refine OnlyO.next ?_
        exact Only.refl _ _
      · dsimp only
        refine OnlyO.ite ?_ ?_
        · refine OnlyO.next ?_
          refine Only.step (updRun_only ..) rfl ?_
          refine Only.set_accPend rfl ?_ _
          exact Only.refl _ _
        · refine OnlyO.next ?_
          refine Only.step (checkEval_only ..) rfl ?_
          refine Only.ite ?_ ?_
          · refine Only.step (tileAcc_only ..) rfl ?_
            refine Only.step (updRun_only ..) rfl ?_
            refine Only.set_accPend rfl ?_ _
            exact Only.refl _ _
          · refine Only.step (setAccTag_only ..) rfl ?_
            refine Only.step (accWriteWords_only ..) rfl ?_
            refine Only.step (updRun_only ..) rfl ?_
            refine Only.set_accPend rfl ?_ _
            exact Only.refl _ _

theorem execScl_only (t : Nat) (s : State) : OnlyO 0xe00a09000007003ff7fdda0 s (execScl t s) := by
  unfold execScl
  refine tileCmd_only (fun _ _ _ => ?_) rfl ?_
  · dsimp only
    refine Only.ite ?_ ?_
    · refine Only.step (TCtx.fault_only ..) rfl ?_
      assumption
    · refine Only.ite ?_ ?_
      · assumption
      · refine Only.ite ?_ ?_
        · refine Only.step (TCtx.fault_only ..) rfl ?_
          assumption
        · split
          · refine Only.step (TCtx.fault_only ..) rfl ?_
            assumption
          · refine Only.step (TCtx.fault_only ..) rfl ?_
            assumption
          · refine issue_only (fun _ _ => ?_) rfl ?_
            · refine Only.step (countNum_only ..) rfl ?_
              refine Only.step (tileAcc_only ..) rfl ?_
              assumption
            · assumption
  · exact Only.refl _ _

end Sys2Proof.Machine
end

