-- ==== Sys2Proof/Laws/KeepsTileArr.lean ====
section
/-! SUPPORT. Each operation of Machine/TileArr.lean keeps: the form of the memories and the bounds of the stores. -/
namespace Sys2Proof.Machine

theorem quantWrite_keeps {s : State} {c : TCtx} {compiled : Nat} {f : Nat} {dst : Nat} {dsts : Nat} {qs : List Quant} {s' : State} (hq : quantWrite s c compiled f dst dsts qs = .inr s') : Keeps s s' := by
  unfold quantWrite at hq
  dsimp only at hq
  split at hq
  · obtain rfl := Sum.inr.inj hq
    refine Keeps.ite ?_ ?_
    · refine Keeps.of_only (markVectors_only _ _ _ _ _) rfl ?_
      refine Keeps.step (tileOperand_keeps ..) ?_
      refine Keeps.step (tileOperand_keeps ..) ?_
      refine Keeps.of_only (updRun_only _ _ _) rfl ?_
      exact Keeps.refl _
    · refine Keeps.step (tileOperand_keeps ..) ?_
      refine Keeps.step (tileOperand_keeps ..) ?_
      refine Keeps.of_only (updRun_only _ _ _) rfl ?_
      exact Keeps.refl _
  · split at hq
    · split at hq
      · cases hq
      · obtain rfl := Sum.inr.inj hq
        refine Keeps.of_only (updRun_only _ _ _) rfl ?_
        refine Keeps.of_only (markVectors_only _ _ _ _ _) rfl ?_
        refine Keeps.step (tileOperand_keeps ..) ?_
        refine Keeps.step (spWrite_keeps ..) ?_
        exact Keeps.refl _
    · split at hq
      · cases hq
      · obtain rfl := Sum.inr.inj hq
        refine Keeps.of_only (updRun_only _ _ _) rfl ?_
        refine Keeps.step (spWrite_keeps ..) ?_
        refine Keeps.step (spWrite_keeps ..) ?_
        exact Keeps.refl _

theorem execQnt_keeps (t : Nat) (s : State) : KeepsO s (execQnt t s) := by
  unfold execQnt
  refine tileCmd_keeps (fun _ _ _ => ?_) ?_
  · dsimp only
    refine Keeps.ite ?_ ?_
    · refine Keeps.step (TCtx.fault_keeps ..) ?_
      assumption
    · refine Keeps.ite ?_ ?_
      · refine Keeps.step (TCtx.fault_keeps ..) ?_
        assumption
      · refine Keeps.ite ?_ ?_
        · refine Keeps.step (TCtx.fault_keeps ..) ?_
          assumption
        · refine Keeps.ite ?_ ?_
          · refine Keeps.step (TCtx.fault_keeps ..) ?_
            assumption
          · refine Keeps.ite ?_ ?_
            · refine Keeps.step (TCtx.fault_keeps ..) ?_
              assumption
            · refine Keeps.ite ?_ ?_
              · refine Keeps.step (TCtx.fault_keeps ..) ?_
                assumption
              · refine Keeps.ite ?_ ?_
                · assumption
                · split
                  · refine Keeps.step (TCtx.fault_keeps ..) ?_
                    assumption
                  · split
                    · split
                      · refine Keeps.of_only (flagRun_only _ _ _ _ _ _ _) rfl ?_
                        refine Keeps.ite ?_ ?_
                        · refine Keeps.of_only (updRun_only _ _ _) rfl ?_
                          refine Keeps.of_only (guardCount_only (y := _) rfl) rfl ?_
                          refine Keeps.of_only (quantCount_only _ _ _ _) rfl ?_
                          assumption
                        · refine Keeps.of_only (guardCount_only (y := _) rfl) rfl ?_
                          refine Keeps.of_only (quantCount_only _ _ _ _) rfl ?_
                          assumption
                      · split
                        · refine Keeps.step (TCtx.fault_keeps ..) ?_
                          refine Keeps.ite ?_ ?_
                          · refine Keeps.of_only (updRun_only _ _ _) rfl ?_
                            refine Keeps.of_only (guardCount_only (y := _) rfl) rfl ?_
                            refine Keeps.of_only (quantCount_only _ _ _ _) rfl ?_
                            assumption
                          · refine Keeps.of_only (guardCount_only (y := _) rfl) rfl ?_
                            refine Keeps.of_only (quantCount_only _ _ _ _) rfl ?_
                            assumption
                        · refine issue_keeps (fun _ _ => ?_) ?_
                          · split
                            · assumption
                            · refine Keeps.of_only (closeScope_only _ _) rfl ?_
                              refine Keeps.step (quantWrite_keeps (by assumption)) ?_
                              assumption
                          · refine Keeps.ite ?_ ?_
                            · refine Keeps.of_only (updRun_only _ _ _) rfl ?_
                              refine Keeps.of_only (guardCount_only (y := _) rfl) rfl ?_
                              refine Keeps.of_only (quantCount_only _ _ _ _) rfl ?_
                              assumption
                            · refine Keeps.of_only (guardCount_only (y := _) rfl) rfl ?_
                              refine Keeps.of_only (quantCount_only _ _ _ _) rfl ?_
                              assumption
                    · refine Keeps.step (TCtx.fault_keeps ..) ?_
                      assumption
                    · refine Keeps.step (TCtx.fault_keeps ..) ?_
                      assumption
  · exact Keeps.refl _

theorem foldl_write_wf {l : List Host.Cell} {m : Memory} (h : Memory.wf m = true) :
    Memory.wf (l.foldl (fun m e => Memory.write m e.1 e.2) m) = true := by
  induction l generalizing m with
  | nil => exact h
  | cons e t ih => exact ih (Memory.wf_write h)

theorem foldl_put_wf {l : List (Nat × W32)} {m : FMap W32} (h : FMap.wf (0 : W32) m = true) :
    FMap.wf (0 : W32) (l.foldl (fun m e => FMap.put (0 : W32) m e.1 e.2) m) = true := by
  induction l generalizing m with
  | nil => exact h
  | cons e t ih => exact ih (FMap.wf_put h)

theorem execGuardRepeatStart_keeps (t : Nat) (s : State) : KeepsO s (execGuardRepeatStart t s) := by
  unfold execGuardRepeatStart
  refine KeepsO.ite (KeepsO.fault _ _) ?_
  split
  · exact KeepsO.next (Keeps.refl _)
  · refine KeepsO.ite (KeepsO.next ?_) (KeepsO.next (Keeps.refl _))
    refine Keeps.of_only (updRun_only ..) rfl ?_
    exact .mk fun k => { k with sp := foldl_write_wf k.sp, acc := foldl_put_wf k.acc }

theorem evalCmd_keeps (c : TCtx) (s : State) : Keeps s (evalCmd c s) := by
  unfold evalCmd
  dsimp only
  refine Keeps.ite ?_ ?_
  · refine Keeps.step (TCtx.fault_keeps ..) ?_
    exact Keeps.refl _
  · refine Keeps.ite ?_ ?_
    · refine Keeps.step (TCtx.fault_keeps ..) ?_
      exact Keeps.refl _
    · split
      · refine Keeps.step (TCtx.fault_keeps ..) ?_
        exact Keeps.refl _
      · refine Keeps.ite ?_ ?_
        · refine Keeps.step (TCtx.fault_keeps ..) ?_
          exact Keeps.refl _
        · refine Keeps.ite ?_ ?_
          · exact Keeps.refl _
          · split
            · refine Keeps.step (TCtx.fault_keeps ..) ?_
              exact Keeps.refl _
            · refine Keeps.step (TCtx.fault_keeps ..) ?_
              exact Keeps.refl _
            · refine Keeps.ite ?_ ?_
              · refine Keeps.step (TCtx.fault_keeps ..) ?_
                exact Keeps.refl _
              · refine Keeps.ite ?_ ?_
                · refine issue_keeps (fun _ _ => ?_) ?_
                  · refine Keeps.of_only (startEval_only _ _ _ _ _ _) rfl ?_
                    assumption
                  · exact Keeps.refl _
                · split
                  · refine Keeps.of_only (flagRun_only _ _ _ _ _ _ _) rfl ?_
                    refine Keeps.ite ?_ ?_
                    · refine Keeps.of_only (guardCount_only (y := _) rfl) rfl ?_
                      refine Keeps.of_only (quantCount_only _ _ _ _) rfl ?_
                      exact Keeps.refl _
                    · refine Keeps.of_only (updRun_only _ _ _) rfl ?_
                      refine Keeps.of_only (guardCount_only (y := _) rfl) rfl ?_
                      refine Keeps.of_only (quantCount_only _ _ _ _) rfl ?_
                      exact Keeps.refl _
                  · refine issue_keeps (fun _ _ => ?_) ?_
                    · refine Keeps.of_only (closeScope_only _ _) rfl ?_
                      refine Keeps.of_only (startEval_only _ _ _ _ _ _) rfl ?_
                      assumption
                    · refine Keeps.ite ?_ ?_
                      · refine Keeps.of_only (guardCount_only (y := _) rfl) rfl ?_
                        refine Keeps.of_only (quantCount_only _ _ _ _) rfl ?_
                        exact Keeps.refl _
                      · refine Keeps.of_only (updRun_only _ _ _) rfl ?_
                        refine Keeps.of_only (guardCount_only (y := _) rfl) rfl ?_
                        refine Keeps.of_only (quantCount_only _ _ _ _) rfl ?_
                        exact Keeps.refl _

theorem execEvalA4_keeps (t : Nat) (s : State) : KeepsO s (execEvalA4 t s) := by
  unfold execEvalA4
  refine tileCmd_keeps (fun _ _ _ => ?_) ?_
  · refine Keeps.step (evalCmd_keeps ..) ?_
    assumption
  · exact Keeps.refl _

theorem execEvalA8_keeps (t : Nat) (s : State) : KeepsO s (execEvalA8 t s) := by
  unfold execEvalA8
  refine tileCmd_keeps (fun _ _ _ => ?_) ?_
  · refine Keeps.step (evalCmd_keeps ..) ?_
    assumption
  · exact Keeps.refl _

theorem checkEval_keeps (s : State) (p : Nat) (t : Nat) (r : TileRun) (e : EvalRun) (res : List Int) : Keeps s (checkEval s p t r e res) := by
  unfold checkEval
  dsimp only
  split
  · refine Keeps.of_only (updRun_only _ _ _) rfl ?_
    refine Keeps.of_only (Only.set_checkCount (m := 274877906944) rfl (Only.refl _ _) _) rfl ?_
    exact Keeps.refl _
  · refine Keeps.ite ?_ ?_
    · refine Keeps.of_only (updRun_only _ _ _) rfl ?_
      refine Keeps.of_only (Only.set_checkCount (m := 274877906944) rfl (Only.refl _ _) _) rfl ?_
      exact Keeps.refl _
    · split
      · refine Keeps.of_only (updBank_only _ _ _) rfl ?_
        refine Keeps.of_only (updRun_only _ _ _) rfl ?_
        refine Keeps.of_only (Only.set_checkCount (m := 274877906944) rfl (Only.refl _ _) _) rfl ?_
        exact Keeps.refl _
      · refine Keeps.step (raiseRc_keeps ..) ?_
        refine Keeps.of_only (postDebug_only _ _ _) rfl ?_
        refine Keeps.of_only (takeCapture_only (y := _) rfl) rfl ?_
        refine Keeps.of_only (addObj_only _ _ _ _ _ _) rfl ?_
        refine Keeps.of_only (updBank_only _ _ _) rfl ?_
        refine Keeps.of_only (updRun_only _ _ _) rfl ?_
        refine Keeps.of_only (Only.set_checkCount (m := 274877906944) rfl (Only.refl _ _) _) rfl ?_
        exact Keeps.refl _

theorem execEvalResultWrite_keeps (t : Nat) (a : Nat) (codes : List (List (BitVec 12))) (s : State) : KeepsO s (execEvalResultWrite t a codes s) := by
  unfold execEvalResultWrite
  refine KeepsO.ite ?_ ?_
  · exact KeepsO.fault _ _
  · split
    · refine KeepsO.next ?_
      exact Keeps.refl _
    · split
      · refine KeepsO.next ?_
        exact Keeps.refl _
      · dsimp only
        refine KeepsO.ite ?_ ?_
        · refine KeepsO.next ?_
          refine Keeps.of_only (updRun_only _ _ _) rfl ?_
          refine Keeps.of_only (Only.set_accPend (m := 536870912) rfl (Only.refl _ _) _) rfl ?_
          exact Keeps.refl _
        · refine KeepsO.next ?_
          refine Keeps.step (checkEval_keeps ..) ?_
          refine Keeps.ite ?_ ?_
          · refine Keeps.step (tileAcc_keeps ..) ?_
            refine Keeps.of_only (updRun_only _ _ _) rfl ?_
            refine Keeps.of_only (Only.set_accPend (m := 536870912) rfl (Only.refl _ _) _) rfl ?_
            exact Keeps.refl _
          · refine Keeps.of_only (setAccTag_only _ _ _ _) rfl ?_
            refine Keeps.step (accWriteWords_keeps ..) ?_
            refine Keeps.of_only (updRun_only _ _ _) rfl ?_
            refine Keeps.of_only (Only.set_accPend (m := 536870912) rfl (Only.refl _ _) _) rfl ?_
            exact Keeps.refl _

theorem execScl_keeps (t : Nat) (s : State) : KeepsO s (execScl t s) := by
  unfold execScl
  refine tileCmd_keeps (fun _ _ _ => ?_) ?_
  · dsimp only
    refine Keeps.ite ?_ ?_
    · refine Keeps.step (TCtx.fault_keeps ..) ?_
      assumption
    · refine Keeps.ite ?_ ?_
      · assumption
      · refine Keeps.ite ?_ ?_
        · refine Keeps.step (TCtx.fault_keeps ..) ?_
          assumption
        · split
          · refine Keeps.step (TCtx.fault_keeps ..) ?_
            assumption
          · refine Keeps.step (TCtx.fault_keeps ..) ?_
            assumption
          · refine issue_keeps (fun _ _ => ?_) ?_
            · refine Keeps.of_only (countNum_only _ _ _ _) rfl ?_
              refine Keeps.step (tileAcc_keeps ..) ?_
              assumption
            · assumption
  · exact Keeps.refl _

end Sys2Proof.Machine
end

