-- ==== Sys2Proof/Laws/OnlyTileMath.lean ====
section
/-! SUPPORT. What each operation of Machine/TileMath.lean can change, at most. -/
namespace Sys2Proof.Machine

theorem execTmm_only (t : Nat) (s : State) : OnlyO 0xe00a09000007003e77fdda0 s (execTmm t s) := by
  unfold execTmm
  refine tileCmd_only (fun _ _ _ => ?_) rfl ?_
  · dsimp only
    refine Only.ite ?_ ?_
    · refine Only.step (TCtx.fault_only ..) rfl ?_
      assumption
    · refine Only.ite ?_ ?_
      · refine Only.step (TCtx.fault_only ..) rfl ?_
        assumption
      · refine Only.ite ?_ ?_
        · refine Only.step (TCtx.fault_only ..) rfl ?_
          assumption
        · refine Only.ite ?_ ?_
          · refine Only.step (TCtx.fault_only ..) rfl ?_
            assumption
          · refine Only.ite ?_ ?_
            · assumption
            · refine Only.ite ?_ ?_
              · refine Only.step (TCtx.fault_only ..) rfl ?_
                assumption
              · split
                · refine Only.step (TCtx.fault_only ..) rfl ?_
                  assumption
                · refine Only.step (TCtx.fault_only ..) rfl ?_
                  assumption
                · refine Only.step (TCtx.fault_only ..) rfl ?_
                  assumption
                · refine issue_only (fun _ _ => ?_) rfl ?_
                  · refine Only.step (countNum_only ..) rfl ?_
                    refine Only.step (updRun_only ..) rfl ?_
                    refine Only.foldl (fun _ _ _ => ?_) ?_
                    · refine Only.set_accPend rfl ?_ _
                      assumption
                    · assumption
                  · assumption
  · exact Only.refl _ _

theorem tmmWrite_only {s : State} {t : Nat} {x : TmmRun} {logged : Bool} {s' : State} {y : Nat × Nat} (hq : tmmWrite s t x logged = (s', y)) : Only 0x25f000000 s s' := by
  unfold tmmWrite at hq
  replace hq := congrArg Prod.fst hq
  subst hq
  refine Only.foldl_by (g := Prod.fst) (fun _ _ _ => ?_) ?_
  · dsimp only
    refine Only.ite ?_ ?_
    · refine Only.ite ?_ ?_
      · refine Only.step (tileAcc_only ..) rfl ?_
        assumption
      · refine Only.step (setAccTag_only ..) rfl ?_
        refine Only.step (accWriteWords_only ..) rfl ?_
        assumption
    · refine Only.ite ?_ ?_
      · refine Only.step (tileSp_only ..) rfl ?_
        assumption
      · refine Only.step (spWrite_only ..) rfl ?_
        assumption
  · dsimp only
    exact Only.refl _ _

theorem execTmmResultWrite_only (t : Nat) (s : State) : OnlyO 0xe00a09000007003ff7fdda0 s (execTmmResultWrite t s) := by
  unfold execTmmResultWrite
  refine OnlyO.ite ?_ ?_
  · exact OnlyO.fault _ _ _
  · split
    · refine OnlyO.next ?_
      exact Only.refl _ _
    · split
      · refine OnlyO.next ?_
        exact Only.refl _ _
      · dsimp only
        refine OnlyO.ite ?_ ?_
        · refine OnlyO.next ?_
          refine Only.step (updRun_only ..) rfl ?_
          refine Only.foldl (fun _ _ _ => ?_) ?_
          · refine Only.set_accPend rfl ?_ _
            assumption
          · exact Only.refl _ _
        · split
          · refine OnlyO.next ?_
            refine Only.step (tileFault_only ..) rfl ?_
            refine Only.step (updRun_only ..) rfl ?_
            refine Only.foldl (fun _ _ _ => ?_) ?_
            · refine Only.set_accPend rfl ?_ _
              assumption
            · exact Only.refl _ _
          · refine OnlyO.next ?_
            refine Only.step (countNum_only ..) rfl ?_
            refine Only.step (tmmWrite_only (y := _) rfl) rfl ?_
            refine Only.step (updRun_only ..) rfl ?_
            refine Only.foldl (fun _ _ _ => ?_) ?_
            · refine Only.set_accPend rfl ?_ _
              assumption
            · exact Only.refl _ _

theorem vecCmd_only {m : Nat} {s0 s : State} {c : TCtx} {unit : Nat} {free : Bool} {srcs dsts : List (Nat × Nat × Nat)} {f : State → State}
    (hf : ∀ t, Only m s0 t → Only m s0 (f t)) (w : 0xe00a09000007003e77fdda0 &&& m = 0xe00a09000007003e77fdda0) (h : Only m s0 s) : Only m s0 (vecCmd c unit srcs dsts f s free) := by
  have v : ∀ a, a &&& 0xe00a09000007003e77fdda0 = a → a &&& m = a := fun a e => by rw [← e, Nat.and_assoc, w]
  unfold vecCmd
  have g : ∀ r a, Only m s0 (c.fault s unit r a) := fun r a => Only.step (TCtx.fault_only ..) (v _ rfl) h
  refine Only.ite (g _ _) (Only.ite (g _ _) ?_)
  split
  · exact g _ _
  · refine Only.ite h ?_
    split
    · exact g _ _
    · exact g _ _
    · exact issue_only hf (v _ rfl) h

theorem putF32_only (s : State) (c : TCtx) (dst : Nat) (r : FRs) : Only 0x25f000020 s (putF32 s c dst r) := by
  unfold putF32
  refine Only.step (countNum_only ..) rfl ?_
  refine Only.step (opWrite_only ..) rfl ?_
  exact Only.refl _ _

theorem vewCmd_only (c : TCtx) (s : State) : Only 0xe00a09000007003ff7fdda0 s (vewCmd c s) := by
  unfold vewCmd
  dsimp only
  refine Only.ite ?_ ?_
  · refine Only.step (TCtx.fault_only ..) rfl ?_
    exact Only.refl _ _
  · refine vecCmd_only (fun _ _ => ?_) rfl ?_
    · refine Only.ite ?_ ?_
      · refine Only.step (countNum_only ..) rfl ?_
        refine Only.step (opWrite_only ..) rfl ?_
        assumption
      · refine Only.step (putF32_only ..) rfl ?_
        assumption
    · exact Only.refl _ _

theorem execVewAdd_only (t : Nat) (s : State) : OnlyO 0xe00a09000007003ff7fdda0 s (execVewAdd t s) := by
  unfold execVewAdd
  refine tileCmd_only (fun _ _ _ => ?_) rfl ?_
  · refine Only.step (vewCmd_only ..) rfl ?_
    assumption
  · exact Only.refl _ _

theorem execVewSub_only (t : Nat) (s : State) : OnlyO 0xe00a09000007003ff7fdda0 s (execVewSub t s) := by
  unfold execVewSub
  refine tileCmd_only (fun _ _ _ => ?_) rfl ?_
  · refine Only.step (vewCmd_only ..) rfl ?_
    assumption
  · exact Only.refl _ _

theorem execVewMul_only (t : Nat) (s : State) : OnlyO 0xe00a09000007003ff7fdda0 s (execVewMul t s) := by
  unfold execVewMul
  refine tileCmd_only (fun _ _ _ => ?_) rfl ?_
  · refine Only.step (vewCmd_only ..) rfl ?_
    assumption
  · exact Only.refl _ _

theorem execVewFma_only (t : Nat) (s : State) : OnlyO 0xe00a09000007003ff7fdda0 s (execVewFma t s) := by
  unfold execVewFma
  refine tileCmd_only (fun _ _ _ => ?_) rfl ?_
  · refine Only.step (vewCmd_only ..) rfl ?_
    assumption
  · exact Only.refl _ _

theorem execVewDiv_only (t : Nat) (s : State) : OnlyO 0xe00a09000007003ff7fdda0 s (execVewDiv t s) := by
  unfold execVewDiv
  refine tileCmd_only (fun _ _ _ => ?_) rfl ?_
  · refine Only.step (vewCmd_only ..) rfl ?_
    assumption
  · exact Only.refl _ _

theorem execVewMax_only (t : Nat) (s : State) : OnlyO 0xe00a09000007003ff7fdda0 s (execVewMax t s) := by
  unfold execVewMax
  refine tileCmd_only (fun _ _ _ => ?_) rfl ?_
  · refine Only.step (vewCmd_only ..) rfl ?_
    assumption
  · exact Only.refl _ _

theorem execVewMin_only (t : Nat) (s : State) : OnlyO 0xe00a09000007003ff7fdda0 s (execVewMin t s) := by
  unfold execVewMin
  refine tileCmd_only (fun _ _ _ => ?_) rfl ?_
  · refine Only.step (vewCmd_only ..) rfl ?_
    assumption
  · exact Only.refl _ _

theorem execVewSqrt_only (t : Nat) (s : State) : OnlyO 0xe00a09000007003ff7fdda0 s (execVewSqrt t s) := by
  unfold execVewSqrt
  refine tileCmd_only (fun _ _ _ => ?_) rfl ?_
  · refine Only.step (vewCmd_only ..) rfl ?_
    assumption
  · exact Only.refl _ _

theorem execVewRsqrt_only (t : Nat) (s : State) : OnlyO 0xe00a09000007003ff7fdda0 s (execVewRsqrt t s) := by
  unfold execVewRsqrt
  refine tileCmd_only (fun _ _ _ => ?_) rfl ?_
  · refine Only.step (vewCmd_only ..) rfl ?_
    assumption
  · exact Only.refl _ _

theorem execVewRecip_only (t : Nat) (s : State) : OnlyO 0xe00a09000007003ff7fdda0 s (execVewRecip t s) := by
  unfold execVewRecip
  refine tileCmd_only (fun _ _ _ => ?_) rfl ?_
  · refine Only.step (vewCmd_only ..) rfl ?_
    assumption
  · exact Only.refl _ _

theorem execVewExp2_only (t : Nat) (s : State) : OnlyO 0xe00a09000007003ff7fdda0 s (execVewExp2 t s) := by
  unfold execVewExp2
  refine tileCmd_only (fun _ _ _ => ?_) rfl ?_
  · refine Only.step (vewCmd_only ..) rfl ?_
    assumption
  · exact Only.refl _ _

theorem execVewLog2_only (t : Nat) (s : State) : OnlyO 0xe00a09000007003ff7fdda0 s (execVewLog2 t s) := by
  unfold execVewLog2
  refine tileCmd_only (fun _ _ _ => ?_) rfl ?_
  · refine Only.step (vewCmd_only ..) rfl ?_
    assumption
  · exact Only.refl _ _

theorem execVewExp_only (t : Nat) (s : State) : OnlyO 0xe00a09000007003ff7fdda0 s (execVewExp t s) := by
  unfold execVewExp
  refine tileCmd_only (fun _ _ _ => ?_) rfl ?_
  · refine Only.step (vewCmd_only ..) rfl ?_
    assumption
  · exact Only.refl _ _

theorem execVewLog_only (t : Nat) (s : State) : OnlyO 0xe00a09000007003ff7fdda0 s (execVewLog t s) := by
  unfold execVewLog
  refine tileCmd_only (fun _ _ _ => ?_) rfl ?_
  · refine Only.step (vewCmd_only ..) rfl ?_
    assumption
  · exact Only.refl _ _

theorem execVewSin_only (t : Nat) (s : State) : OnlyO 0xe00a09000007003ff7fdda0 s (execVewSin t s) := by
  unfold execVewSin
  refine tileCmd_only (fun _ _ _ => ?_) rfl ?_
  · refine Only.step (vewCmd_only ..) rfl ?_
    assumption
  · exact Only.refl _ _

theorem execVewCos_only (t : Nat) (s : State) : OnlyO 0xe00a09000007003ff7fdda0 s (execVewCos t s) := by
  unfold execVewCos
  refine tileCmd_only (fun _ _ _ => ?_) rfl ?_
  · refine Only.step (vewCmd_only ..) rfl ?_
    assumption
  · exact Only.refl _ _

theorem execVewTanh_only (t : Nat) (s : State) : OnlyO 0xe00a09000007003ff7fdda0 s (execVewTanh t s) := by
  unfold execVewTanh
  refine tileCmd_only (fun _ _ _ => ?_) rfl ?_
  · refine Only.step (vewCmd_only ..) rfl ?_
    assumption
  · exact Only.refl _ _

theorem execVewSigmoid_only (t : Nat) (s : State) : OnlyO 0xe00a09000007003ff7fdda0 s (execVewSigmoid t s) := by
  unfold execVewSigmoid
  refine tileCmd_only (fun _ _ _ => ?_) rfl ?_
  · refine Only.step (vewCmd_only ..) rfl ?_
    assumption
  · exact Only.refl _ _

theorem execVewSilu_only (t : Nat) (s : State) : OnlyO 0xe00a09000007003ff7fdda0 s (execVewSilu t s) := by
  unfold execVewSilu
  refine tileCmd_only (fun _ _ _ => ?_) rfl ?_
  · refine Only.step (vewCmd_only ..) rfl ?_
    assumption
  · exact Only.refl _ _

theorem execVewGelu_only (t : Nat) (s : State) : OnlyO 0xe00a09000007003ff7fdda0 s (execVewGelu t s) := by
  unfold execVewGelu
  refine tileCmd_only (fun _ _ _ => ?_) rfl ?_
  · refine Only.step (vewCmd_only ..) rfl ?_
    assumption
  · exact Only.refl _ _

theorem execVewRotary_only (t : Nat) (s : State) : OnlyO 0xe00a09000007003ff7fdda0 s (execVewRotary t s) := by
  unfold execVewRotary
  refine tileCmd_only (fun _ _ _ => ?_) rfl ?_
  · refine Only.step (vewCmd_only ..) rfl ?_
    assumption
  · exact Only.refl _ _

theorem execVewToBf16_only (t : Nat) (s : State) : OnlyO 0xe00a09000007003ff7fdda0 s (execVewToBf16 t s) := by
  unfold execVewToBf16
  refine tileCmd_only (fun _ _ _ => ?_) rfl ?_
  · refine Only.step (vewCmd_only ..) rfl ?_
    assumption
  · exact Only.refl _ _

theorem execVewToFp32_only (t : Nat) (s : State) : OnlyO 0xe00a09000007003ff7fdda0 s (execVewToFp32 t s) := by
  unfold execVewToFp32
  refine tileCmd_only (fun _ _ _ => ?_) rfl ?_
  · refine Only.step (vewCmd_only ..) rfl ?_
    assumption
  · exact Only.refl _ _

theorem execVewMulScalar_only (t : Nat) (s : State) : OnlyO 0xe00a09000007003ff7fdda0 s (execVewMulScalar t s) := by
  unfold execVewMulScalar
  refine tileCmd_only (fun _ _ _ => ?_) rfl ?_
  · refine Only.step (vewCmd_only ..) rfl ?_
    assumption
  · exact Only.refl _ _

theorem execVewAddScalar_only (t : Nat) (s : State) : OnlyO 0xe00a09000007003ff7fdda0 s (execVewAddScalar t s) := by
  unfold execVewAddScalar
  refine tileCmd_only (fun _ _ _ => ?_) rfl ?_
  · refine Only.step (vewCmd_only ..) rfl ?_
    assumption
  · exact Only.refl _ _

theorem vredCmd_only (c : TCtx) (s : State) : Only 0xe00a09000007003ff7fdda0 s (vredCmd c s) := by
  unfold vredCmd
  dsimp only
  refine Only.ite ?_ ?_
  · refine Only.step (TCtx.fault_only ..) rfl ?_
    exact Only.refl _ _
  · refine vecCmd_only (fun _ _ => ?_) rfl ?_
    · refine Only.step (putF32_only ..) rfl ?_
      assumption
    · exact Only.refl _ _

theorem execVredSum_only (t : Nat) (s : State) : OnlyO 0xe00a09000007003ff7fdda0 s (execVredSum t s) := by
  unfold execVredSum
  refine tileCmd_only (fun _ _ _ => ?_) rfl ?_
  · refine Only.step (vredCmd_only ..) rfl ?_
    assumption
  · exact Only.refl _ _

theorem execVredSumSquares_only (t : Nat) (s : State) : OnlyO 0xe00a09000007003ff7fdda0 s (execVredSumSquares t s) := by
  unfold execVredSumSquares
  refine tileCmd_only (fun _ _ _ => ?_) rfl ?_
  · refine Only.step (vredCmd_only ..) rfl ?_
    assumption
  · exact Only.refl _ _

theorem execVredMax_only (t : Nat) (s : State) : OnlyO 0xe00a09000007003ff7fdda0 s (execVredMax t s) := by
  unfold execVredMax
  refine tileCmd_only (fun _ _ _ => ?_) rfl ?_
  · refine Only.step (vredCmd_only ..) rfl ?_
    assumption
  · exact Only.refl _ _

theorem execVredMin_only (t : Nat) (s : State) : OnlyO 0xe00a09000007003ff7fdda0 s (execVredMin t s) := by
  unfold execVredMin
  refine tileCmd_only (fun _ _ _ => ?_) rfl ?_
  · refine Only.step (vredCmd_only ..) rfl ?_
    assumption
  · exact Only.refl _ _

theorem execVsmx_only (t : Nat) (s : State) : OnlyO 0xe00a09000007003ff7fdda0 s (execVsmx t s) := by
  unfold execVsmx
  refine tileCmd_only (fun _ _ _ => ?_) rfl ?_
  · dsimp only
    refine Only.ite ?_ ?_
    · refine Only.step (TCtx.fault_only ..) rfl ?_
      assumption
    · refine vecCmd_only (fun _ _ => ?_) rfl ?_
      · refine Only.step (putF32_only ..) rfl ?_
        refine Only.step (putF32_only ..) rfl ?_
        assumption
      · assumption
  · exact Only.refl _ _

theorem execTopkSelect_only (t : Nat) (s : State) : OnlyO 0xe00a09000007003ff7fdda0 s (execTopkSelect t s) := by
  unfold execTopkSelect
  refine tileCmd_only (fun _ _ _ => ?_) rfl ?_
  · dsimp only
    refine Only.ite ?_ ?_
    · refine Only.step (TCtx.fault_only ..) rfl ?_
      assumption
    · refine Only.ite ?_ ?_
      · refine Only.step (TCtx.fault_only ..) rfl ?_
        assumption
      · refine vecCmd_only (fun _ _ => ?_) rfl ?_
        · refine Only.step (opWrite_only ..) rfl ?_
          assumption
        · assumption
  · exact Only.refl _ _

theorem execTopkMerge_only (t : Nat) (s : State) : OnlyO 0xe00a09000007003ff7fdda0 s (execTopkMerge t s) := by
  unfold execTopkMerge
  refine tileCmd_only (fun _ _ _ => ?_) rfl ?_
  · dsimp only
    refine Only.ite ?_ ?_
    · refine Only.step (TCtx.fault_only ..) rfl ?_
      assumption
    · refine Only.ite ?_ ?_
      · refine Only.step (TCtx.fault_only ..) rfl ?_
        assumption
      · refine Only.ite ?_ ?_
        · assumption
        · split
          · refine Only.step (TCtx.fault_only ..) rfl ?_
            assumption
          · refine Only.step (TCtx.fault_only ..) rfl ?_
            assumption
          · refine Only.ite ?_ ?_
            · refine Only.step (TCtx.fault_only ..) rfl ?_
              assumption
            · refine Only.ite ?_ ?_
              · refine Only.step (TCtx.fault_only ..) rfl ?_
                assumption
              · refine vecCmd_only (fun _ _ => ?_) rfl ?_
                · split
                  · assumption
                  · refine Only.step (opWrite_only ..) rfl ?_
                    assumption
                · assumption
  · exact Only.refl _ _

theorem execFill_only (t : Nat) (s : State) : OnlyO 0xe00a09000007003ff7fdda0 s (execFill t s) := by
  unfold execFill
  refine tileCmd_only (fun _ _ _ => ?_) rfl ?_
  · dsimp only
    refine Only.ite ?_ ?_
    · refine Only.step (TCtx.fault_only ..) rfl ?_
      assumption
    · refine vecCmd_only (fun _ _ => ?_) rfl ?_
      · refine Only.step (opWrite_only ..) rfl ?_
        assumption
      · assumption
  · exact Only.refl _ _

theorem execCopy_only (t : Nat) (s : State) : OnlyO 0xe00a09000007003ff7fdda0 s (execCopy t s) := by
  unfold execCopy
  refine tileCmd_only (fun _ _ _ => ?_) rfl ?_
  · dsimp only
    refine Only.ite ?_ ?_
    · refine Only.step (TCtx.fault_only ..) rfl ?_
      assumption
    · refine vecCmd_only (fun _ _ => ?_) rfl ?_
      · refine Only.step (opWrite_only ..) rfl ?_
        assumption
      · assumption
  · exact Only.refl _ _

end Sys2Proof.Machine
end

