-- ==== Sys2Proof/Laws/KeepsTileMath.lean ====
section
/-! SUPPORT. Each operation of Machine/TileMath.lean keeps: the form of the memories and the bounds of the stores. -/
namespace Sys2Proof.Machine

theorem execTmm_keeps (t : Nat) (s : State) : KeepsO s (execTmm t s) := by
  unfold execTmm
  refine tileCmd_keeps (fun _ _ _ => ?_) ?_
  · dsimp only
    refine Keeps.ite ?_ ?_
    · refine Keeps.step (TCtx.fault_keeps ..) ?_
      assumption
    · refine Keeps.ite ?_ ?_
      · refine Keeps.step (TCtx.fault_keeps ..) ?_
        assumption
      · refine Keeps.ite ?_ ?_
        · refine Keeps.step (TCtx.fault_keeps ..) ?_
          assumption
        · refine Keeps.ite ?_ ?_
          · refine Keeps.step (TCtx.fault_keeps ..) ?_
            assumption
          · refine Keeps.ite ?_ ?_
            · assumption
            · refine Keeps.ite ?_ ?_
              · refine Keeps.step (TCtx.fault_keeps ..) ?_
                assumption
              · split
                · refine Keeps.step (TCtx.fault_keeps ..) ?_
                  assumption
                · refine Keeps.step (TCtx.fault_keeps ..) ?_
                  assumption
                · refine Keeps.step (TCtx.fault_keeps ..) ?_
                  assumption
                · refine issue_keeps (fun _ _ => ?_) ?_
                  · refine Keeps.of_only (countNum_only _ _ _ _) rfl ?_
                    refine Keeps.of_only (updRun_only _ _ _) rfl ?_
                    refine Keeps.foldl (fun _ _ _ => ?_) ?_
                    · refine Keeps.of_only (Only.set_accPend (m := 536870912) rfl (Only.refl _ _) _) rfl ?_
                      assumption
                    · assumption
                  · assumption
  · exact Keeps.refl _

theorem tmmWrite_keeps {s : State} {t : Nat} {x : TmmRun} {logged : Bool} {s' : State} {y : Nat × Nat} (hq : tmmWrite s t x logged = (s', y)) : Keeps s s' := by
  unfold tmmWrite at hq
  replace hq := congrArg Prod.fst hq
  subst hq
  refine Keeps.foldl_by (g := Prod.fst) (fun _ _ _ => ?_) ?_
  · dsimp only
    refine Keeps.ite ?_ ?_
    · refine Keeps.ite ?_ ?_
      · refine Keeps.step (tileAcc_keeps ..) ?_
        assumption
      · refine Keeps.of_only (setAccTag_only _ _ _ _) rfl ?_
        refine Keeps.step (accWriteWords_keeps ..) ?_
        assumption
    · refine Keeps.ite ?_ ?_
      · refine Keeps.step (tileSp_keeps ..) ?_
        assumption
      · refine Keeps.step (spWrite_keeps ..) ?_
        assumption
  · dsimp only
    exact Keeps.refl _

theorem execTmmResultWrite_keeps (t : Nat) (s : State) : KeepsO s (execTmmResultWrite t s) := by
  unfold execTmmResultWrite
  refine KeepsO.ite ?_ ?_
  · exact KeepsO.fault _ _
  · split
    · refine KeepsO.next ?_
      exact Keeps.refl _
    · split
      · refine KeepsO.next ?_
        exact Keeps.refl _
      · dsimp only
        refine KeepsO.ite ?_ ?_
        · refine KeepsO.next ?_
          refine Keeps.of_only (updRun_only _ _ _) rfl ?_
          refine Keeps.foldl (fun _ _ _ => ?_) ?_
          · refine Keeps.of_only (Only.set_accPend (m := 536870912) rfl (Only.refl _ _) _) rfl ?_
            assumption
          · exact Keeps.refl _
        · split
          · refine KeepsO.next ?_
            refine Keeps.step (tileFault_keeps ..) ?_
            refine Keeps.of_only (updRun_only _ _ _) rfl ?_
            refine Keeps.foldl (fun _ _ _ => ?_) ?_
            · refine Keeps.of_only (Only.set_accPend (m := 536870912) rfl (Only.refl _ _) _) rfl ?_
              assumption
            · exact Keeps.refl _
          · refine KeepsO.next ?_
            refine Keeps.of_only (countNum_only _ _ _ _) rfl ?_
            refine Keeps.step (tmmWrite_keeps (y := _) rfl) ?_
            refine Keeps.of_only (updRun_only _ _ _) rfl ?_
            refine Keeps.foldl (fun _ _ _ => ?_) ?_
            · refine Keeps.of_only (Only.set_accPend (m := 536870912) rfl (Only.refl _ _) _) rfl ?_
              assumption
            · exact Keeps.refl _

theorem vecCmd_keeps {s0 s : State} {c : TCtx} {unit : Nat} {free : Bool} {srcs dsts : List (Nat × Nat × Nat)} {f : State → State}
    (hf : ∀ t, Keeps s0 t → Keeps s0 (f t)) (h : Keeps s0 s) : Keeps s0 (vecCmd c unit srcs dsts f s free) := by
  unfold vecCmd
  have g : ∀ r a, Keeps s0 (c.fault s unit r a) := fun r a => Keeps.step (TCtx.fault_keeps ..) h
  refine Keeps.ite (g _ _) (Keeps.ite (g _ _) ?_)
  split
  · exact g _ _
  · refine Keeps.ite h ?_
    split
    · exact g _ _
    · exact g _ _
    · exact issue_keeps hf h

theorem putF32_keeps (s : State) (c : TCtx) (dst : Nat) (r : FRs) : Keeps s (putF32 s c dst r) := by
  unfold putF32
  refine Keeps.of_only (countNum_only _ _ _ _) rfl ?_
  refine Keeps.step (opWrite_keeps ..) ?_
  exact Keeps.refl _

theorem vewCmd_keeps (c : TCtx) (s : State) : Keeps s (vewCmd c s) := by
  unfold vewCmd
  dsimp only
  refine Keeps.ite ?_ ?_
  · refine Keeps.step (TCtx.fault_keeps ..) ?_
    exact Keeps.refl _
  · refine vecCmd_keeps (fun _ _ => ?_) ?_
    · refine Keeps.ite ?_ ?_
      · refine Keeps.of_only (countNum_only _ _ _ _) rfl ?_
        refine Keeps.step (opWrite_keeps ..) ?_
        assumption
      · refine Keeps.step (putF32_keeps ..) ?_
        assumption
    · exact Keeps.refl _

theorem execVewAdd_keeps (t : Nat) (s : State) : KeepsO s (execVewAdd t s) := by
  unfold execVewAdd
  refine tileCmd_keeps (fun _ _ _ => ?_) ?_
  · refine Keeps.step (vewCmd_keeps ..) ?_
    assumption
  · exact Keeps.refl _

theorem execVewSub_keeps (t : Nat) (s : State) : KeepsO s (execVewSub t s) := by
  unfold execVewSub
  refine tileCmd_keeps (fun _ _ _ => ?_) ?_
  · refine Keeps.step (vewCmd_keeps ..) ?_
    assumption
  · exact Keeps.refl _

theorem execVewMul_keeps (t : Nat) (s : State) : KeepsO s (execVewMul t s) := by
  unfold execVewMul
  refine tileCmd_keeps (fun _ _ _ => ?_) ?_
  · refine Keeps.step (vewCmd_keeps ..) ?_
    assumption
  · exact Keeps.refl _

theorem execVewFma_keeps (t : Nat) (s : State) : KeepsO s (execVewFma t s) := by
  unfold execVewFma
  refine tileCmd_keeps (fun _ _ _ => ?_) ?_
  · refine Keeps.step (vewCmd_keeps ..) ?_
    assumption
  · exact Keeps.refl _

theorem execVewDiv_keeps (t : Nat) (s : State) : KeepsO s (execVewDiv t s) := by
  unfold execVewDiv
  refine tileCmd_keeps (fun _ _ _ => ?_) ?_
  · refine Keeps.step (vewCmd_keeps ..) ?_
    assumption
  · exact Keeps.refl _

theorem execVewMax_keeps (t : Nat) (s : State) : KeepsO s (execVewMax t s) := by
  unfold execVewMax
  refine tileCmd_keeps (fun _ _ _ => ?_) ?_
  · refine Keeps.step (vewCmd_keeps ..) ?_
    assumption
  · exact Keeps.refl _

theorem execVewMin_keeps (t : Nat) (s : State) : KeepsO s (execVewMin t s) := by
  unfold execVewMin
  refine tileCmd_keeps (fun _ _ _ => ?_) ?_
  · refine Keeps.step (vewCmd_keeps ..) ?_
    assumption
  · exact Keeps.refl _

theorem execVewSqrt_keeps (t : Nat) (s : State) : KeepsO s (execVewSqrt t s) := by
  unfold execVewSqrt
  refine tileCmd_keeps (fun _ _ _ => ?_) ?_
  · refine Keeps.step (vewCmd_keeps ..) ?_
    assumption
  · exact Keeps.refl _

theorem execVewRsqrt_keeps (t : Nat) (s : State) : KeepsO s (execVewRsqrt t s) := by
  unfold execVewRsqrt
  refine tileCmd_keeps (fun _ _ _ => ?_) ?_
  · refine Keeps.step (vewCmd_keeps ..) ?_
    assumption
  · exact Keeps.refl _

theorem execVewRecip_keeps (t : Nat) (s : State) : KeepsO s (execVewRecip t s) := by
  unfold execVewRecip
  refine tileCmd_keeps (fun _ _ _ => ?_) ?_
  · refine Keeps.step (vewCmd_keeps ..) ?_
    assumption
  · exact Keeps.refl _

theorem execVewExp2_keeps (t : Nat) (s : State) : KeepsO s (execVewExp2 t s) := by
  unfold execVewExp2
  refine tileCmd_keeps (fun _ _ _ => ?_) ?_
  · refine Keeps.step (vewCmd_keeps ..) ?_
    assumption
  · exact Keeps.refl _

theorem execVewLog2_keeps (t : Nat) (s : State) : KeepsO s (execVewLog2 t s) := by
  unfold execVewLog2
  refine tileCmd_keeps (fun _ _ _ => ?_) ?_
  · refine Keeps.step (vewCmd_keeps ..) ?_
    assumption
  · exact Keeps.refl _

theorem execVewExp_keeps (t : Nat) (s : State) : KeepsO s (execVewExp t s) := by
  unfold execVewExp
  refine tileCmd_keeps (fun _ _ _ => ?_) ?_
  · refine Keeps.step (vewCmd_keeps ..) ?_
    assumption
  · exact Keeps.refl _

theorem execVewLog_keeps (t : Nat) (s : State) : KeepsO s (execVewLog t s) := by
  unfold execVewLog
  refine tileCmd_keeps (fun _ _ _ => ?_) ?_
  · refine Keeps.step (vewCmd_keeps ..) ?_
    assumption
  · exact Keeps.refl _

theorem execVewSin_keeps (t : Nat) (s : State) : KeepsO s (execVewSin t s) := by
  unfold execVewSin
  refine tileCmd_keeps (fun _ _ _ => ?_) ?_
  · refine Keeps.step (vewCmd_keeps ..) ?_
    assumption
  · exact Keeps.refl _

theorem execVewCos_keeps (t : Nat) (s : State) : KeepsO s (execVewCos t s) := by
  unfold execVewCos
  refine tileCmd_keeps (fun _ _ _ => ?_) ?_
  · refine Keeps.step (vewCmd_keeps ..) ?_
    assumption
  · exact Keeps.refl _

theorem execVewTanh_keeps (t : Nat) (s : State) : KeepsO s (execVewTanh t s) := by
  unfold execVewTanh
  refine tileCmd_keeps (fun _ _ _ => ?_) ?_
  · refine Keeps.step (vewCmd_keeps ..) ?_
    assumption
  · exact Keeps.refl _

theorem execVewSigmoid_keeps (t : Nat) (s : State) : KeepsO s (execVewSigmoid t s) := by
  unfold execVewSigmoid
  refine tileCmd_keeps (fun _ _ _ => ?_) ?_
  · refine Keeps.step (vewCmd_keeps ..) ?_
    assumption
  · exact Keeps.refl _

theorem execVewSilu_keeps (t : Nat) (s : State) : KeepsO s (execVewSilu t s) := by
  unfold execVewSilu
  refine tileCmd_keeps (fun _ _ _ => ?_) ?_
  · refine Keeps.step (vewCmd_keeps ..) ?_
    assumption
  · exact Keeps.refl _

theorem execVewGelu_keeps (t : Nat) (s : State) : KeepsO s (execVewGelu t s) := by
  unfold execVewGelu
  refine tileCmd_keeps (fun _ _ _ => ?_) ?_
  · refine Keeps.step (vewCmd_keeps ..) ?_
    assumption
  · exact Keeps.refl _

theorem execVewRotary_keeps (t : Nat) (s : State) : KeepsO s (execVewRotary t s) := by
  unfold execVewRotary
  refine tileCmd_keeps (fun _ _ _ => ?_) ?_
  · refine Keeps.step (vewCmd_keeps ..) ?_
    assumption
  · exact Keeps.refl _

theorem execVewToBf16_keeps (t : Nat) (s : State) : KeepsO s (execVewToBf16 t s) := by
  unfold execVewToBf16
  refine tileCmd_keeps (fun _ _ _ => ?_) ?_
  · refine Keeps.step (vewCmd_keeps ..) ?_
    assumption
  · exact Keeps.refl _

theorem execVewToFp32_keeps (t : Nat) (s : State) : KeepsO s (execVewToFp32 t s) := by
  unfold execVewToFp32
  refine tileCmd_keeps (fun _ _ _ => ?_) ?_
  · refine Keeps.step (vewCmd_keeps ..) ?_
    assumption
  · exact Keeps.refl _

theorem execVewMulScalar_keeps (t : Nat) (s : State) : KeepsO s (execVewMulScalar t s) := by
  unfold execVewMulScalar
  refine tileCmd_keeps (fun _ _ _ => ?_) ?_
  · refine Keeps.step (vewCmd_keeps ..) ?_
    assumption
  · exact Keeps.refl _

theorem execVewAddScalar_keeps (t : Nat) (s : State) : KeepsO s (execVewAddScalar t s) := by
  unfold execVewAddScalar
  refine tileCmd_keeps (fun _ _ _ => ?_) ?_
  · refine Keeps.step (vewCmd_keeps ..) ?_
    assumption
  · exact Keeps.refl _

theorem vredCmd_keeps (c : TCtx) (s : State) : Keeps s (vredCmd c s) := by
  unfold vredCmd
  dsimp only
  refine Keeps.ite ?_ ?_
  · refine Keeps.step (TCtx.fault_keeps ..) ?_
    exact Keeps.refl _
  · refine vecCmd_keeps (fun _ _ => ?_) ?_
    · refine Keeps.step (putF32_keeps ..) ?_
      assumption
    · exact Keeps.refl _

theorem execVredSum_keeps (t : Nat) (s : State) : KeepsO s (execVredSum t s) := by
  unfold execVredSum
  refine tileCmd_keeps (fun _ _ _ => ?_) ?_
  · refine Keeps.step (vredCmd_keeps ..) ?_
    assumption
  · exact Keeps.refl _

theorem execVredSumSquares_keeps (t : Nat) (s : State) : KeepsO s (execVredSumSquares t s) := by
  unfold execVredSumSquares
  refine tileCmd_keeps (fun _ _ _ => ?_) ?_
  · refine Keeps.step (vredCmd_keeps ..) ?_
    assumption
  · exact Keeps.refl _

theorem execVredMax_keeps (t : Nat) (s : State) : KeepsO s (execVredMax t s) := by
  unfold execVredMax
  refine tileCmd_keeps (fun _ _ _ => ?_) ?_
  · refine Keeps.step (vredCmd_keeps ..) ?_
    assumption
  · exact Keeps.refl _

theorem execVredMin_keeps (t : Nat) (s : State) : KeepsO s (execVredMin t s) := by
  unfold execVredMin
  refine tileCmd_keeps (fun _ _ _ => ?_) ?_
  · refine Keeps.step (vredCmd_keeps ..) ?_
    assumption
  · exact Keeps.refl _

theorem execVsmx_keeps (t : Nat) (s : State) : KeepsO s (execVsmx t s) := by
  unfold execVsmx
  refine tileCmd_keeps (fun _ _ _ => ?_) ?_
  · dsimp only
    refine Keeps.ite ?_ ?_
    · refine Keeps.step (TCtx.fault_keeps ..) ?_
      assumption
    · refine vecCmd_keeps (fun _ _ => ?_) ?_
      · refine Keeps.step (putF32_keeps ..) ?_
        refine Keeps.step (putF32_keeps ..) ?_
        assumption
      · assumption
  · exact Keeps.refl _

theorem execTopkSelect_keeps (t : Nat) (s : State) : KeepsO s (execTopkSelect t s) := by
  unfold execTopkSelect
  refine tileCmd_keeps (fun _ _ _ => ?_) ?_
  · dsimp only
    refine Keeps.ite ?_ ?_
    · refine Keeps.step (TCtx.fault_keeps ..) ?_
      assumption
    · refine Keeps.ite ?_ ?_
      · refine Keeps.step (TCtx.fault_keeps ..) ?_
        assumption
      · refine vecCmd_keeps (fun _ _ => ?_) ?_
        · refine Keeps.step (opWrite_keeps ..) ?_
          assumption
        · assumption
  · exact Keeps.refl _

theorem execTopkMerge_keeps (t : Nat) (s : State) : KeepsO s (execTopkMerge t s) := by
  unfold execTopkMerge
  refine tileCmd_keeps (fun _ _ _ => ?_) ?_
  · dsimp only
    refine Keeps.ite ?_ ?_
    · refine Keeps.step (TCtx.fault_keeps ..) ?_
      assumption
    · refine Keeps.ite ?_ ?_
      · refine Keeps.step (TCtx.fault_keeps ..) ?_
        assumption
      · refine Keeps.ite ?_ ?_
        · assumption
        · split
          · refine Keeps.step (TCtx.fault_keeps ..) ?_
            assumption
          · refine Keeps.step (TCtx.fault_keeps ..) ?_
            assumption
          · refine Keeps.ite ?_ ?_
            · refine Keeps.step (TCtx.fault_keeps ..) ?_
              assumption
            · refine Keeps.ite ?_ ?_
              · refine Keeps.step (TCtx.fault_keeps ..) ?_
                assumption
              · refine vecCmd_keeps (fun _ _ => ?_) ?_
                · split
                  · assumption
                  · refine Keeps.step (opWrite_keeps ..) ?_
                    assumption
                · assumption
  · exact Keeps.refl _

theorem execFill_keeps (t : Nat) (s : State) : KeepsO s (execFill t s) := by
  unfold execFill
  refine tileCmd_keeps (fun _ _ _ => ?_) ?_
  · dsimp only
    refine Keeps.ite ?_ ?_
    · refine Keeps.step (TCtx.fault_keeps ..) ?_
      assumption
    · refine vecCmd_keeps (fun _ _ => ?_) ?_
      · refine Keeps.step (opWrite_keeps ..) ?_
        assumption
      · assumption
  · exact Keeps.refl _

theorem execCopy_keeps (t : Nat) (s : State) : KeepsO s (execCopy t s) := by
  unfold execCopy
  refine tileCmd_keeps (fun _ _ _ => ?_) ?_
  · dsimp only
    refine Keeps.ite ?_ ?_
    · refine Keeps.step (TCtx.fault_keeps ..) ?_
      assumption
    · refine vecCmd_keeps (fun _ _ => ?_) ?_
      · refine Keeps.step (opWrite_keeps ..) ?_
        assumption
      · assumption
  · exact Keeps.refl _

end Sys2Proof.Machine
end

