-- ==== Sys2Proof/Laws/OnlyTileNet.lean ====
section
/-! SUPPORT. What each operation of Machine/TileNet.lean can change, at most. -/
namespace Sys2Proof.Machine

theorem launchFlight_only (s : State) (f : Flight) (spti : Nat) (dpti : Nat) (xl : Bool) : Only 0x100000000520 s (launchFlight s f spti dpti xl) := by
  unfold launchFlight
  dsimp only
  refine Only.step (reviewStall_only ..) rfl ?_
  refine Only.set_flights rfl ?_ _
  exact Only.refl _ _

theorem execSend_only (t : Nat) (s : State) : OnlyO 0xe00a09000007003e77fdda0 s (execSend t s) := by
  unfold execSend
  refine tileCmd_only (fun _ _ _ => ?_) rfl ?_
  · dsimp only
    refine Only.ite ?_ ?_
    · refine Only.step (TCtx.fault_only ..) rfl ?_
      assumption
    · split
      · refine Only.step (TCtx.fault_only ..) rfl ?_
        assumption
      · refine Only.ite ?_ ?_
        · refine Only.step (TCtx.fault_only ..) rfl ?_
          assumption
        · refine Only.ite ?_ ?_
          · assumption
          · split
            · refine Only.step (TCtx.fault_only ..) rfl ?_
              assumption
            · refine issue_only (fun _ _ => ?_) rfl ?_
              · refine Only.step (launchFlight_only ..) rfl ?_
                assumption
              · assumption
  · exact Only.refl _ _

theorem hzRemote_only (s : State) (p : Nat) (t : Nat) (addr : Nat) (n : Nat) (flag : Nat) (key : Nat) : Only 0xe00a09000007003a77fdda0 s (hzRemote s p t addr n flag key) := by
  unfold hzRemote
  split
  · exact Only.refl _ _
  · refine Only.ite ?_ ?_
    · dsimp only
      refine Only.step (updRun_only ..) rfl ?_
      refine Only.step (hzGuarded_only ..) rfl ?_
      refine Only.foldl (fun _ _ _ => ?_) ?_
      · split
        · refine Only.step (hzReport_only ..) rfl ?_
          assumption
        · assumption
      · exact Only.refl _ _
    · exact Only.refl _ _

theorem deliver_only (s : State) (p : Nat) (t : Nat) (addr : Nat) (bs : List Sys2Proof.Byte) (flag : Nat) (step : Nat) (off : Nat) (key : Nat) : Only 0xe00a09000007003ff7fdda0 s (deliver s p t addr bs flag step off key) := by
  unfold deliver
  dsimp only
  refine Only.ite ?_ ?_
  · refine Only.step (incFlag_only ..) rfl ?_
    refine Only.step (hzRemote_only ..) rfl ?_
    refine Only.step (opDeliver_only ..) rfl ?_
    exact Only.refl _ _
  · refine Only.step (hzRemote_only ..) rfl ?_
    refine Only.step (opDeliver_only ..) rfl ?_
    exact Only.refl _ _

theorem dropFlits_only (s : State) (f : Flight) : Only 0xe00a09000007003a77fdda0 s (dropFlits s f) := by
  unfold dropFlits
  refine Only.step (tileFault_only ..) rfl ?_
  refine Only.step (addObj_only ..) rfl ?_
  exact Only.refl _ _

theorem execSendArrive_only (src : Nat) (n : Nat) (s : State) : OnlyO 0xe00a09000007003ff7fdda0 s (execSendArrive src n s) := by
  unfold execSendArrive
  refine OnlyO.ite ?_ ?_
  · exact OnlyO.fault _ _ _
  · split
    · refine OnlyO.next ?_
      exact Only.refl _ _
    · split
      · refine OnlyO.next ?_
        exact Only.refl _ _
      · refine OnlyO.ite ?_ ?_
        · refine OnlyO.next ?_
          exact Only.refl _ _
        · dsimp only
          refine OnlyO.ite ?_ ?_
          · refine OnlyO.next ?_
            refine Only.step (dropFlits_only ..) rfl ?_
            refine Only.step (forward_only ..) rfl ?_
            refine Only.set_flights rfl ?_ _
            exact Only.refl _ _
          · split
            · refine OnlyO.next ?_
              refine Only.step (tileFault_only ..) rfl ?_
              refine Only.step (forward_only ..) rfl ?_
              refine Only.set_flights rfl ?_ _
              exact Only.refl _ _
            · refine OnlyO.next ?_
              refine Only.step (deliver_only ..) rfl ?_
              refine Only.step (forward_only ..) rfl ?_
              refine Only.set_flights rfl ?_ _
              exact Only.refl _ _

theorem rlaunch_only (s : State) (f : RFlight) : Only 0x200000000520 s (rlaunch s f) := by
  unfold rlaunch
  refine Only.step (reviewStall_only ..) rfl ?_
  refine Only.set_rflights rfl ?_ _
  exact Only.refl _ _

theorem rdcCmd_only (c : TCtx) (s : State) : Only 0xe00a09000007003e77fdda0 s (rdcCmd c s) := by
  unfold rdcCmd
  dsimp only
  split
  · refine Only.step (TCtx.fault_only ..) rfl ?_
    exact Only.refl _ _
  · refine Only.ite ?_ ?_
    · refine Only.step (TCtx.fault_only ..) rfl ?_
      exact Only.refl _ _
    · refine Only.ite ?_ ?_
      · refine Only.step (TCtx.fault_only ..) rfl ?_
        exact Only.refl _ _
      · refine Only.ite ?_ ?_
        · exact Only.refl _ _
        · split
          · refine Only.step (TCtx.fault_only ..) rfl ?_
            exact Only.refl _ _
          · refine Only.ite ?_ ?_
            · refine Only.step (TCtx.fault_only ..) rfl ?_
              exact Only.refl _ _
            · refine issue_only (fun _ _ => ?_) rfl ?_
              · refine Only.step (rlaunch_only ..) rfl ?_
                assumption
              · exact Only.refl _ _

theorem execRdcSum_only (t : Nat) (s : State) : OnlyO 0xe00a09000007003e77fdda0 s (execRdcSum t s) := by
  unfold execRdcSum
  refine tileCmd_only (fun _ _ _ => ?_) rfl ?_
  · refine Only.step (rdcCmd_only ..) rfl ?_
    assumption
  · exact Only.refl _ _

theorem execRdcTopk_only (t : Nat) (s : State) : OnlyO 0xe00a09000007003e77fdda0 s (execRdcTopk t s) := by
  unfold execRdcTopk
  refine tileCmd_only (fun _ _ _ => ?_) rfl ?_
  · refine Only.step (rdcCmd_only ..) rfl ?_
    assumption
  · exact Only.refl _ _

theorem unitFault_only (s : State) (p : Nat) (t : Nat) (reason : Nat) : Only 0xe00a09000007003a77fdda0 s (unitFault s p t reason) := by
  unfold unitFault
  refine Only.step (partFault_only ..) rfl ?_
  refine Only.step (countMem_only ..) rfl ?_
  exact Only.refl _ _

theorem execReductionOperandArrive_only (i : Nat) (s : State) : OnlyO 0xe00a09000007003a77fdda0 s (execReductionOperandArrive i s) := by
  unfold execReductionOperandArrive
  split
  · refine OnlyO.next ?_
    exact Only.refl _ _
  · split
    · refine OnlyO.next ?_
      refine Only.set_rflights rfl ?_ _
      exact Only.refl _ _
    · dsimp only
      refine OnlyO.ite ?_ ?_
      · refine OnlyO.next ?_
        exact Only.refl _ _
      · split
        · refine OnlyO.next ?_
          refine Only.set_rslots rfl ?_ _
          refine Only.step (forward_only ..) rfl ?_
          refine Only.set_rflights rfl ?_ _
          exact Only.refl _ _
        · refine OnlyO.ite ?_ ?_
          · refine OnlyO.next ?_
            refine Only.step (unitFault_only ..) rfl ?_
            refine Only.set_rslots rfl ?_ _
            refine Only.step (forward_only ..) rfl ?_
            refine Only.set_rflights rfl ?_ _
            exact Only.refl _ _
          · split
            · refine OnlyO.next ?_
              refine Only.step (unitFault_only ..) rfl ?_
              refine Only.set_rslots rfl ?_ _
              refine Only.step (forward_only ..) rfl ?_
              refine Only.set_rflights rfl ?_ _
              exact Only.refl _ _
            · refine OnlyO.next ?_
              refine Only.step (rlaunch_only ..) rfl ?_
              refine Only.step (countNum_only ..) rfl ?_
              refine Only.ite ?_ ?_
              · refine Only.step (addObj_only ..) rfl ?_
                refine Only.set_rslots rfl ?_ _
                refine Only.step (forward_only ..) rfl ?_
                refine Only.set_rflights rfl ?_ _
                exact Only.refl _ _
              · refine Only.set_rslots rfl ?_ _
                refine Only.step (forward_only ..) rfl ?_
                refine Only.set_rflights rfl ?_ _
                exact Only.refl _ _

theorem execReductionResultArrive_only (i : Nat) (s : State) : OnlyO 0xe00a09000007003ff7fdda0 s (execReductionResultArrive i s) := by
  unfold execReductionResultArrive
  split
  · refine OnlyO.next ?_
    exact Only.refl _ _
  · split
    · refine OnlyO.next ?_
      refine Only.set_rflights rfl ?_ _
      exact Only.refl _ _
    · split
      · refine OnlyO.next ?_
        refine Only.set_rflights rfl ?_ _
        exact Only.refl _ _
      · refine OnlyO.ite ?_ ?_
        · refine OnlyO.next ?_
          exact Only.refl _ _
        · dsimp only
          refine OnlyO.ite ?_ ?_
          · refine OnlyO.next ?_
            refine Only.step (unitFault_only ..) rfl ?_
            refine Only.step (forward_only ..) rfl ?_
            refine Only.set_rflights rfl ?_ _
            exact Only.refl _ _
          · split
            · refine OnlyO.next ?_
              refine Only.step (unitFault_only ..) rfl ?_
              refine Only.step (forward_only ..) rfl ?_
              refine Only.set_rflights rfl ?_ _
              exact Only.refl _ _
            · refine OnlyO.next ?_
              refine Only.step (deliver_only ..) rfl ?_
              refine Only.step (forward_only ..) rfl ?_
              refine Only.set_rflights rfl ?_ _
              exact Only.refl _ _

theorem cutFlight_only {s : State} {f : Flight} {s' : State} {y : Flight} (hq : cutFlight s f = (s', y)) : Only 0x25f000000 s s' := by
  unfold cutFlight at hq
  dsimp only at hq
  split at hq
  · cases hq
    exact Only.refl _ _
  · split at hq
    · cases hq
      exact Only.refl _ _
    · cases hq
      refine Only.step (opDeliver_only ..) rfl ?_
      exact Only.refl _ _

theorem cutOperand_only {s : State} {f : RFlight} {s' : State} {y : RFlight} (hq : cutOperand s f = (s', y)) : Only 0x25f000000 s s' := by
  unfold cutOperand at hq
  split at hq
  · cases hq
    exact Only.refl _ _
  · dsimp only at hq
    split at hq
    · cases hq
      exact Only.refl _ _
    · split at hq
      · cases hq
        exact Only.refl _ _
      · split at hq
        · cases hq
          exact Only.refl _ _
        · cases hq
          refine Only.step (opDeliver_only ..) rfl ?_
          exact Only.refl _ _

theorem cutRoutes_only (s0 s : State) : Only 0x30025f000000 s (cutRoutes s0 s) := by
  unfold cutRoutes
  dsimp only
  refine Only.set_flights_rflights rfl rfl ?_ _ _
  refine Only.foldl_by (g := Prod.fst) (fun a x h => ?_) ?_
  · dsimp only
    split
    · exact h
    · exact Only.step (cutOperand_only (y := _) rfl) rfl h
  · refine Only.foldl_by (g := Prod.fst) (fun a x h => ?_) (Only.refl _ _)
    dsimp only
    split
    · exact h
    · exact Only.step (cutFlight_only (y := _) rfl) rfl h


end Sys2Proof.Machine
end

