-- ==== Sys2Proof/Laws/KeepsTileNet.lean ====
section
/-! SUPPORT. Each operation of Machine/TileNet.lean keeps: the form of the memories and the bounds of the stores. -/
namespace Sys2Proof.Machine

theorem execSend_keeps (t : Nat) (s : State) : KeepsO s (execSend t s) := by
  unfold execSend
  refine tileCmd_keeps (fun _ _ _ => ?_) ?_
  · dsimp only
    refine Keeps.ite ?_ ?_
    · refine Keeps.step (TCtx.fault_keeps ..) ?_
      assumption
    · split
      · refine Keeps.step (TCtx.fault_keeps ..) ?_
        assumption
      · refine Keeps.ite ?_ ?_
        · refine Keeps.step (TCtx.fault_keeps ..) ?_
          assumption
        · refine Keeps.ite ?_ ?_
          · assumption
          · split
            · refine Keeps.step (TCtx.fault_keeps ..) ?_
              assumption
            · refine issue_keeps (fun _ _ => ?_) ?_
              · refine Keeps.of_only (launchFlight_only _ _ _ _ _) rfl ?_
                assumption
              · assumption
  · exact Keeps.refl _

theorem hzRemote_keeps (s : State) (p : Nat) (t : Nat) (addr : Nat) (n : Nat) (flag : Nat) (key : Nat) : Keeps s (hzRemote s p t addr n flag key) := by
  unfold hzRemote
  split
  · exact Keeps.refl _
  · refine Keeps.ite ?_ ?_
    · dsimp only
      refine Keeps.of_only (updRun_only _ _ _) rfl ?_
      refine Keeps.step (hzGuarded_keeps ..) ?_
      refine Keeps.foldl (fun _ _ _ => ?_) ?_
      · split
        · refine Keeps.step (hzReport_keeps ..) ?_
          assumption
        · assumption
      · exact Keeps.refl _
    · exact Keeps.refl _

theorem deliver_keeps (s : State) (p : Nat) (t : Nat) (addr : Nat) (bs : List Sys2Proof.Byte) (flag : Nat) (step : Nat) (off : Nat) (key : Nat) : Keeps s (deliver s p t addr bs flag step off key) := by
  unfold deliver
  dsimp only
  refine Keeps.ite ?_ ?_
  · refine Keeps.step (incFlag_keeps ..) ?_
    refine Keeps.step (hzRemote_keeps ..) ?_
    refine Keeps.step (opDeliver_keeps ..) ?_
    exact Keeps.refl _
  · refine Keeps.step (hzRemote_keeps ..) ?_
    refine Keeps.step (opDeliver_keeps ..) ?_
    exact Keeps.refl _

theorem dropFlits_keeps (s : State) (f : Flight) : Keeps s (dropFlits s f) := by
  unfold dropFlits
  refine Keeps.step (tileFault_keeps ..) ?_
  refine Keeps.of_only (addObj_only _ _ _ _ _ _) rfl ?_
  exact Keeps.refl _

theorem execSendArrive_keeps (src : Nat) (n : Nat) (s : State) : KeepsO s (execSendArrive src n s) := by
  unfold execSendArrive
  refine KeepsO.ite ?_ ?_
  · exact KeepsO.fault _ _
  · split
    · refine KeepsO.next ?_
      exact Keeps.refl _
    · split
      · refine KeepsO.next ?_
        exact Keeps.refl _
      · refine KeepsO.ite ?_ ?_
        · refine KeepsO.next ?_
          exact Keeps.refl _
        · dsimp only
          refine KeepsO.ite ?_ ?_
          · refine KeepsO.next ?_
            refine Keeps.step (dropFlits_keeps ..) ?_
            refine Keeps.of_only (forward_only _ _ _) rfl ?_
            refine Keeps.of_only (Only.set_flights (m := 17592186044416) rfl (Only.refl _ _) _) rfl ?_
            exact Keeps.refl _
          · split
            · refine KeepsO.next ?_
              refine Keeps.step (tileFault_keeps ..) ?_
              refine Keeps.of_only (forward_only _ _ _) rfl ?_
              refine Keeps.of_only (Only.set_flights (m := 17592186044416) rfl (Only.refl _ _) _) rfl ?_
              exact Keeps.refl _
            · refine KeepsO.next ?_
              refine Keeps.step (deliver_keeps ..) ?_
              refine Keeps.of_only (forward_only _ _ _) rfl ?_
              refine Keeps.of_only (Only.set_flights (m := 17592186044416) rfl (Only.refl _ _) _) rfl ?_
              exact Keeps.refl _

theorem rdcCmd_keeps (c : TCtx) (s : State) : Keeps s (rdcCmd c s) := by
  unfold rdcCmd
  dsimp only
  split
  · refine Keeps.step (TCtx.fault_keeps ..) ?_
    exact Keeps.refl _
  · refine Keeps.ite ?_ ?_
    · refine Keeps.step (TCtx.fault_keeps ..) ?_
      exact Keeps.refl _
    · refine Keeps.ite ?_ ?_
      · refine Keeps.step (TCtx.fault_keeps ..) ?_
        exact Keeps.refl _
      · refine Keeps.ite ?_ ?_
        · exact Keeps.refl _
        · split
          · refine Keeps.step (TCtx.fault_keeps ..) ?_
            exact Keeps.refl _
          · refine Keeps.ite ?_ ?_
            · refine Keeps.step (TCtx.fault_keeps ..) ?_
              exact Keeps.refl _
            · refine issue_keeps (fun _ _ => ?_) ?_
              · refine Keeps.of_only (rlaunch_only _ _) rfl ?_
                assumption
              · exact Keeps.refl _

theorem execRdcSum_keeps (t : Nat) (s : State) : KeepsO s (execRdcSum t s) := by
  unfold execRdcSum
  refine tileCmd_keeps (fun _ _ _ => ?_) ?_
  · refine Keeps.step (rdcCmd_keeps ..) ?_
    assumption
  · exact Keeps.refl _

theorem execRdcTopk_keeps (t : Nat) (s : State) : KeepsO s (execRdcTopk t s) := by
  unfold execRdcTopk
  refine tileCmd_keeps (fun _ _ _ => ?_) ?_
  · refine Keeps.step (rdcCmd_keeps ..) ?_
    assumption
  · exact Keeps.refl _

theorem unitFault_keeps (s : State) (p : Nat) (t : Nat) (reason : Nat) : Keeps s (unitFault s p t reason) := by
  unfold unitFault
  refine Keeps.step (partFault_keeps ..) ?_
  refine Keeps.of_only (countMem_only _ _ _) rfl ?_
  exact Keeps.refl _

theorem execReductionOperandArrive_keeps (i : Nat) (s : State) : KeepsO s (execReductionOperandArrive i s) := by
  unfold execReductionOperandArrive
  split
  · refine KeepsO.next ?_
    exact Keeps.refl _
  · split
    · refine KeepsO.next ?_
      refine Keeps.of_only (Only.set_rflights (m := 35184372088832) rfl (Only.refl _ _) _) rfl ?_
      exact Keeps.refl _
    · dsimp only
      refine KeepsO.ite ?_ ?_
      · refine KeepsO.next ?_
        exact Keeps.refl _
      · split
        · refine KeepsO.next ?_
          refine Keeps.of_only (Only.set_rslots (m := 70368744177664) rfl (Only.refl _ _) _) rfl ?_
          refine Keeps.of_only (forward_only _ _ _) rfl ?_
          refine Keeps.of_only (Only.set_rflights (m := 35184372088832) rfl (Only.refl _ _) _) rfl ?_
          exact Keeps.refl _
        · refine KeepsO.ite ?_ ?_
          · refine KeepsO.next ?_
            refine Keeps.step (unitFault_keeps ..) ?_
            refine Keeps.of_only (Only.set_rslots (m := 70368744177664) rfl (Only.refl _ _) _) rfl ?_
            refine Keeps.of_only (forward_only _ _ _) rfl ?_
            refine Keeps.of_only (Only.set_rflights (m := 35184372088832) rfl (Only.refl _ _) _) rfl ?_
            exact Keeps.refl _
          · split
            · refine KeepsO.next ?_
              refine Keeps.step (unitFault_keeps ..) ?_
              refine Keeps.of_only (Only.set_rslots (m := 70368744177664) rfl (Only.refl _ _) _) rfl ?_
              refine Keeps.of_only (forward_only _ _ _) rfl ?_
              refine Keeps.of_only (Only.set_rflights (m := 35184372088832) rfl (Only.refl _ _) _) rfl ?_
              exact Keeps.refl _
            · refine KeepsO.next ?_
              refine Keeps.of_only (rlaunch_only _ _) rfl ?_
              refine Keeps.of_only (countNum_only _ _ _ _) rfl ?_
              refine Keeps.ite ?_ ?_
              · refine Keeps.of_only (addObj_only _ _ _ _ _ _) rfl ?_
                refine Keeps.of_only (Only.set_rslots (m := 70368744177664) rfl (Only.refl _ _) _) rfl ?_
                refine Keeps.of_only (forward_only _ _ _) rfl ?_
                refine Keeps.of_only (Only.set_rflights (m := 35184372088832) rfl (Only.refl _ _) _) rfl ?_
                exact Keeps.refl _
              · refine Keeps.of_only (Only.set_rslots (m := 70368744177664) rfl (Only.refl _ _) _) rfl ?_
                refine Keeps.of_only (forward_only _ _ _) rfl ?_
                refine Keeps.of_only (Only.set_rflights (m := 35184372088832) rfl (Only.refl _ _) _) rfl ?_
                exact Keeps.refl _

theorem execReductionResultArrive_keeps (i : Nat) (s : State) : KeepsO s (execReductionResultArrive i s) := by
  unfold execReductionResultArrive
  split
  · refine KeepsO.next ?_
    exact Keeps.refl _
  · split
    · refine KeepsO.next ?_
      refine Keeps.of_only (Only.set_rflights (m := 35184372088832) rfl (Only.refl _ _) _) rfl ?_
      exact Keeps.refl _
    · split
      · refine KeepsO.next ?_
        refine Keeps.of_only (Only.set_rflights (m := 35184372088832) rfl (Only.refl _ _) _) rfl ?_
        exact Keeps.refl _
      · refine KeepsO.ite ?_ ?_
        · refine KeepsO.next ?_
          exact Keeps.refl _
        · dsimp only
          refine KeepsO.ite ?_ ?_
          · refine KeepsO.next ?_
            refine Keeps.step (unitFault_keeps ..) ?_
            refine Keeps.of_only (forward_only _ _ _) rfl ?_
            refine Keeps.of_only (Only.set_rflights (m := 35184372088832) rfl (Only.refl _ _) _) rfl ?_
            exact Keeps.refl _
          · split
            · refine KeepsO.next ?_
              refine Keeps.step (unitFault_keeps ..) ?_
              refine Keeps.of_only (forward_only _ _ _) rfl ?_
              refine Keeps.of_only (Only.set_rflights (m := 35184372088832) rfl (Only.refl _ _) _) rfl ?_
              exact Keeps.refl _
            · refine KeepsO.next ?_
              refine Keeps.step (deliver_keeps ..) ?_
              refine Keeps.of_only (forward_only _ _ _) rfl ?_
              refine Keeps.of_only (Only.set_rflights (m := 35184372088832) rfl (Only.refl _ _) _) rfl ?_
              exact Keeps.refl _

theorem cutFlight_keeps {s : State} {f : Flight} {s' : State} {y : Flight} (hq : cutFlight s f = (s', y)) : Keeps s s' := by
  unfold cutFlight at hq
  dsimp only at hq
  split at hq
  · cases hq
    exact Keeps.refl _
  · split at hq
    · cases hq
      exact Keeps.refl _
    · cases hq
      refine Keeps.step (opDeliver_keeps ..) ?_
      exact Keeps.refl _

theorem cutOperand_keeps {s : State} {f : RFlight} {s' : State} {y : RFlight} (hq : cutOperand s f = (s', y)) : Keeps s s' := by
  unfold cutOperand at hq
  split at hq
  · cases hq
    exact Keeps.refl _
  · dsimp only at hq
    split at hq
    · cases hq
      exact Keeps.refl _
    · split at hq
      · cases hq
        exact Keeps.refl _
      · split at hq
        · cases hq
          exact Keeps.refl _
        · cases hq
          refine Keeps.step (opDeliver_keeps ..) ?_
          exact Keeps.refl _

theorem cutRoutes_keeps (s0 s : State) : Keeps s (cutRoutes s0 s) := by
  unfold cutRoutes
  dsimp only
  refine Keeps.of_only (Only.set_flights_rflights (m := 52776558133248) rfl rfl (Only.refl _ _) _ _) rfl ?_
  refine Keeps.foldl_by (g := Prod.fst) (fun a x h => ?_) ?_
  · dsimp only
    split
    · exact h
    · exact Keeps.step (cutOperand_keeps (y := _) rfl) h
  · refine Keeps.foldl_by (g := Prod.fst) (fun a x h => ?_) (Keeps.refl _)
    dsimp only
    split
    · exact h
    · exact Keeps.step (cutFlight_keeps (y := _) rfl) h


end Sys2Proof.Machine
end

