-- ==== Sys2Proof/Laws/OnlyTileKv.lean ====
section
/-! SUPPORT. What each operation of Machine/TileKv.lean can change, at most. -/
namespace Sys2Proof.Machine

theorem walkPage_only {c : TCtx} {x : KvCtx} {b : SlotB} {s t : State} {i : Nat} (h : walkPage c x b (.inr s) i = .inr t) : Only 0x7080020 s t := by
  unfold walkPage at h
  dsimp only at h
  split at h
  · cases h
  · split at h
    · cases h
    · split at h
      · cases h
      · split at h
        · cases h
          exact Only.step (addObj_only ..) rfl (Only.refl _ _)
        · split at h
          · cases h
          · split at h
            · cases h
              exact Only.step (fillRing_only ..) rfl (Only.refl _ _)
            · cases h
              refine Only.step (addObj_only ..) rfl ?_
              exact Only.step (addObj_only ..) rfl (Only.refl _ _)

theorem walkPages_only {c : TCtx} {x : KvCtx} {b : SlotB} {s t : State} {l : List Nat} (h : l.foldl (walkPage c x b) (.inr s) = .inr t) :
    Only 0x7080020 s t := by
  induction l generalizing s with
  | nil =>
    cases h
    exact Only.refl _ _
  | cons r l ih =>
    rw [List.foldl_cons] at h
    match e : walkPage c x b (.inr s) r with
    | .inr u =>
      rw [e] at h
      exact Only.step (ih h) rfl (walkPage_only e)
    | .inl d =>
      rw [e] at h
      have : ∀ l : List Nat, l.foldl (walkPage c x b) (.inl d) = .inl d := by
        intro l
        induction l with
        | nil => rfl
        | cons _ _ k => exact k
      rw [this] at h
      cases h

theorem execKvrd_only (t : Nat) (s : State) : OnlyO 0xe00a09000007003e77fdda0 s (execKvrd t s) := by
  unfold execKvrd
  refine tileCmd_only (fun _ _ _ => ?_) rfl ?_
  · dsimp only
    split
    · refine Only.step (TCtx.fault_only ..) rfl ?_
      assumption
    · refine Only.ite ?_ ?_
      · refine Only.step (TCtx.fault_only ..) rfl ?_
        assumption
      · refine Only.ite ?_ ?_
        · refine Only.step (TCtx.fault_only ..) rfl ?_
          assumption
        · refine Only.ite ?_ ?_
          · assumption
          · split
            · split
              · refine Only.step (TCtx.fault_only ..) rfl ?_
                assumption
              · refine Only.ite ?_ ?_
                · refine Only.step (TCtx.fault_only ..) rfl ?_
                  refine Only.step (walkPages_only (by assumption)) rfl ?_
                  assumption
                · refine issue_only (fun _ _ => ?_) rfl ?_
                  · refine Only.step (reviewStall_only ..) rfl ?_
                    refine Only.step (updRun_only ..) rfl ?_
                    assumption
                  · refine Only.step (walkPages_only (by assumption)) rfl ?_
                    assumption
            · refine issue_only (fun _ _ => ?_) rfl ?_
              · refine Only.step (reviewStall_only ..) rfl ?_
                refine Only.step (updRun_only ..) rfl ?_
                assumption
              · assumption
  · exact Only.refl _ _

theorem execKvrdComplete_only (t : Nat) (s : State) : OnlyO 0xe00a09000007003a77fdda0 s (execKvrdComplete t s) := by
  unfold execKvrdComplete
  refine OnlyO.ite ?_ ?_
  · exact OnlyO.fault _ _ _
  · split
    · refine OnlyO.next ?_
      exact Only.refl _ _
    · split
      · refine OnlyO.next ?_
        exact Only.refl _ _
      · refine OnlyO.ite ?_ ?_
        · refine OnlyO.next ?_
          exact Only.refl _ _
        · dsimp only
          split
          · refine OnlyO.next ?_
            refine Only.step (tileFault_only ..) rfl ?_
            refine Only.step (updRun_only ..) rfl ?_
            exact Only.refl _ _
          · refine OnlyO.next ?_
            refine Only.step (incFlag_only ..) rfl ?_
            refine Only.step (tileSp_only ..) rfl ?_
            refine Only.step (updRun_only ..) rfl ?_
            exact Only.refl _ _

theorem execKvap_only (t : Nat) (s : State) : OnlyO 0xe00a09000007003e77fdda0 s (execKvap t s) := by
  unfold execKvap
  refine tileCmd_only (fun _ _ _ => ?_) rfl ?_
  · dsimp only
    split
    · refine Only.step (TCtx.fault_only ..) rfl ?_
      assumption
    · refine Only.ite ?_ ?_
      · refine Only.step (TCtx.fault_only ..) rfl ?_
        assumption
      · refine Only.ite ?_ ?_
        · assumption
        · split
          · refine Only.ite ?_ ?_
            · refine issue_only (fun _ _ => ?_) rfl ?_
              · dsimp only [id]
                assumption
              · assumption
            · split
              · refine Only.step (TCtx.fault_only ..) rfl ?_
                assumption
              · refine issue_only (fun _ _ => ?_) rfl ?_
                · refine Only.step (spWrite_only ..) rfl ?_
                  refine Only.step (spWrite_only ..) rfl ?_
                  refine Only.step (countNum_only ..) rfl ?_
                  refine Only.step (countSat_only ..) rfl ?_
                  assumption
                · assumption
          · refine issue_only (fun _ _ => ?_) rfl ?_
            · dsimp only [id]
              assumption
            · assumption
  · exact Only.refl _ _

theorem execRingFillDone_only (n : Nat) (s : State) : OnlyO 0xe00a09000007003a77fdda0 s (execRingFillDone n s) := by
  unfold execRingFillDone
  split
  · refine OnlyO.next ?_
    exact Only.refl _ _
  · dsimp only
    refine OnlyO.ite ?_ ?_
    · refine OnlyO.next ?_
      exact Only.refl _ _
    · split
      · split
        · refine OnlyO.ite ?_ ?_
          · refine OnlyO.next ?_
            refine Only.step (engineFault_only ..) rfl ?_
            refine Only.set_fills rfl ?_ _
            exact Only.refl _ _
          · refine OnlyO.next ?_
            refine Only.step (fillRing_only ..) rfl ?_
            refine Only.set_fills rfl ?_ _
            exact Only.refl _ _
        · refine OnlyO.next ?_
          refine Only.set_fills rfl ?_ _
          exact Only.refl _ _
      · refine OnlyO.next ?_
        refine Only.set_fills rfl ?_ _
        exact Only.refl _ _

theorem execAllocCopyDone_only (p : Nat) (n : Nat) (s : State) : OnlyO 0x180000420 s (execAllocCopyDone p n s) := by
  unfold execAllocCopyDone
  refine OnlyO.ite ?_ ?_
  · exact OnlyO.fault _ _ _
  · split
    · refine OnlyO.next ?_
      exact Only.refl _ _
    · split
      · refine OnlyO.next ?_
        exact Only.refl _ _
      · refine OnlyO.next ?_
        refine Only.step (copySet_only ..) rfl ?_
        refine Only.step (updStep_only ..) rfl ?_
        exact Only.refl _ _

theorem callFault_only (c : TCtx) (s : State) (reason : Nat) (addr : Nat) : Only 0xe00a09000007003a77fdda0 s (callFault c s reason addr) := by
  unfold callFault
  refine Only.step (tileFault_only ..) rfl ?_
  exact Only.refl _ _

theorem pcallCmd_only {m : Nat} {s0 s : State} {c : TCtx} {f : Nat → State → State} (hf : ∀ d u, Only m s0 u → Only m s0 (f d u))
    (w : 0xe00a09000007003a77fdda0 &&& m = 0xe00a09000007003a77fdda0) (h : Only m s0 s) : Only m s0 (pcallCmd c f s) := by
  unfold pcallCmd
  have g : ∀ r a, Only m s0 (c.fault s 7 r a) := fun r a => Only.step (TCtx.fault_only ..) w h
  exact Only.ite (g _ _) (Only.ite h (Only.ite (g _ _) (hf _ _ h)))

theorem execPcallPageAlloc_only (t : Nat) (s : State) : OnlyO 0xe00a09000007003e77fdda0 s (execPcallPageAlloc t s) := by
  unfold execPcallPageAlloc
  refine tileCmd_only (fun _ _ _ => ?_) rfl ?_
  · refine pcallCmd_only (fun _ _ _ => ?_) rfl ?_
    · dsimp only
      refine issue_only (fun _ _ => ?_) rfl ?_
      · refine Only.step (incFlag_only ..) rfl ?_
        refine Only.ite ?_ ?_
        · refine Only.step (endIfMasked_only ..) rfl ?_
          refine Only.step (reviewStall_only ..) rfl ?_
          refine Only.step (prepareRings_only ..) rfl ?_
          refine Only.step (allocCall_only ..) rfl ?_
          refine Only.step (updStep_only ..) rfl ?_
          assumption
        · assumption
      · assumption
    · assumption
  · exact Only.refl _ _

theorem execPcallChain_only (t : Nat) (s : State) : OnlyO 0xe00a09000007003e77fdda0 s (execPcallChain t s) := by
  unfold execPcallChain
  refine tileCmd_only (fun _ _ _ => ?_) rfl ?_
  · refine Only.ite ?_ ?_
    · refine Only.step (TCtx.fault_only ..) rfl ?_
      assumption
    · refine pcallCmd_only (fun _ _ _ => ?_) rfl ?_
      · dsimp only
        refine Only.ite ?_ ?_
        · refine Only.step (callFault_only ..) rfl ?_
          assumption
        · refine Only.ite ?_ ?_
          · assumption
          · refine Only.ite ?_ ?_
            · refine Only.step (callFault_only ..) rfl ?_
              assumption
            · split
              · refine Only.step (callFault_only ..) rfl ?_
                assumption
              · refine issue_only (fun _ _ => ?_) rfl ?_
                · refine Only.step (reviewStall_only ..) rfl ?_
                  refine Only.step (updRun_only ..) rfl ?_
                  assumption
                · assumption
      · assumption
  · exact Only.refl _ _

theorem chainMove_only {p : Nat} {a : State × Option (Nat × Nat)} {r : Nat × Nat × Nat} {s' : State} {y : Option (Nat × Nat)}
    (hq : chainMove p a r = (s', y)) : Only 0x20000000000187000020 a.1 s' := by
  obtain ⟨s, e⟩ := a
  cases e with
  | some e =>
    cases hq
    exact Only.refl _ _
  | none =>
    unfold chainMove at hq
    dsimp only at hq
    split at hq
    · cases hq
      exact Only.refl _ _
    · split at hq
      · cases hq
        exact Only.refl _ _
      · cases hq
        refine Only.step (countHbm_only ..) rfl ?_
        refine Only.step (pvaWrite_only ..) rfl ?_
        exact Only.step (unstageWrite_only ..) rfl (Only.refl _ _)

theorem chainMoves_only {p : Nat} {s t : State} {l : List (Nat × Nat × Nat)} {y : Option (Nat × Nat)}
    (h : l.foldl (chainMove p) (s, none) = (t, y)) : Only 0x20000000000187000020 s t := by
  obtain rfl := congrArg Prod.fst h
  exact Only.foldl_by (g := Prod.fst) (fun a x g => Only.step (chainMove_only (y := _) rfl) rfl g) (Only.refl _ _)


theorem chainCount_only (s : State) (p : Nat) (t : Nat) (reason : Nat) (va : Nat) : Only 0x20 s (chainCount s p t reason va) := by
  unfold chainCount
  refine Only.ite ?_ ?_
  · exact Only.refl _ _
  · split
    · exact Only.refl _ _
    · refine Only.ite ?_ ?_
      · exact Only.refl _ _
      · refine Only.step (addObj_only ..) rfl ?_
        refine Only.step (countMem_only ..) rfl ?_
        exact Only.refl _ _

theorem execRetrieverCallDone_only (t : Nat) (s : State) : OnlyO 0xe00a09000007003a77fdda0 s (execRetrieverCallDone t s) := by
  unfold execRetrieverCallDone
  refine OnlyO.ite ?_ ?_
  · exact OnlyO.fault _ _ _
  · split
    · refine OnlyO.next ?_
      exact Only.refl _ _
    · split
      · refine OnlyO.next ?_
        exact Only.refl _ _
      · refine OnlyO.ite ?_ ?_
        · refine OnlyO.next ?_
          exact Only.refl _ _
        · dsimp only
          split
          · refine OnlyO.next ?_
            refine Only.step (tileFault_only ..) rfl ?_
            refine Only.step (chainCount_only ..) rfl ?_
            refine Only.step (chainMoves_only (by assumption)) rfl ?_
            refine Only.step (updRun_only ..) rfl ?_
            exact Only.refl _ _
          · refine OnlyO.next ?_
            refine Only.step (incFlag_only ..) rfl ?_
            refine Only.step (chainMoves_only (by assumption)) rfl ?_
            refine Only.step (updRun_only ..) rfl ?_
            exact Only.refl _ _

end Sys2Proof.Machine
end

