-- ==== Sys2Proof/Laws/KeepsTileKv.lean ====
section
/-! SUPPORT. Each operation of Machine/TileKv.lean keeps: the form of the memories and the bounds of the stores. -/
namespace Sys2Proof.Machine

theorem walkPage_keeps {c : TCtx} {x : KvCtx} {b : SlotB} {s t : State} {i : Nat} (h : walkPage c x b (.inr s) i = .inr t) : Keeps s t := by
  unfold walkPage at h
  dsimp only at h
  split at h
  · cases h
  · split at h
    · cases h
    · split at h
      · cases h
      · split at h
        · cases h
          exact Keeps.of_only (addObj_only ..) rfl (Keeps.refl _)
        · split at h
          · cases h
          · split at h
            · cases h
              exact Keeps.step (fillRing_keeps ..) (Keeps.refl _)
            · cases h
              refine Keeps.of_only (addObj_only ..) rfl ?_
              exact Keeps.of_only (addObj_only ..) rfl (Keeps.refl _)

theorem walkPages_keeps {c : TCtx} {x : KvCtx} {b : SlotB} {s t : State} {l : List Nat} (h : l.foldl (walkPage c x b) (.inr s) = .inr t) :
    Keeps s t := by
  induction l generalizing s with
  | nil =>
    cases h
    exact Keeps.refl _
  | cons r l ih =>
    rw [List.foldl_cons] at h
    match e : walkPage c x b (.inr s) r with
    | .inr u =>
      rw [e] at h
      exact Keeps.step (ih h) (walkPage_keeps e)
    | .inl d =>
      rw [e] at h
      have : ∀ l : List Nat, l.foldl (walkPage c x b) (.inl d) = .inl d := by
        intro l
        induction l with
        | nil => rfl
        | cons _ _ k => exact k
      rw [this] at h
      cases h

theorem execKvrd_keeps (t : Nat) (s : State) : KeepsO s (execKvrd t s) := by
  unfold execKvrd
  refine tileCmd_keeps (fun _ _ _ => ?_) ?_
  · dsimp only
    split
    · refine Keeps.step (TCtx.fault_keeps ..) ?_
      assumption
    · refine Keeps.ite ?_ ?_
      · refine Keeps.step (TCtx.fault_keeps ..) ?_
        assumption
      · refine Keeps.ite ?_ ?_
        · refine Keeps.step (TCtx.fault_keeps ..) ?_
          assumption
        · refine Keeps.ite ?_ ?_
          · assumption
          · split
            · split
              · refine Keeps.step (TCtx.fault_keeps ..) ?_
                assumption
              · refine Keeps.ite ?_ ?_
                · refine Keeps.step (TCtx.fault_keeps ..) ?_
                  refine Keeps.step (walkPages_keeps (by assumption)) ?_
                  assumption
                · refine issue_keeps (fun _ _ => ?_) ?_
                  · refine Keeps.of_only (reviewStall_only _ _) rfl ?_
                    refine Keeps.of_only (updRun_only _ _ _) rfl ?_
                    assumption
                  · refine Keeps.step (walkPages_keeps (by assumption)) ?_
                    assumption
            · refine issue_keeps (fun _ _ => ?_) ?_
              · refine Keeps.of_only (reviewStall_only _ _) rfl ?_
                refine Keeps.of_only (updRun_only _ _ _) rfl ?_
                assumption
              · assumption
  · exact Keeps.refl _

theorem execKvrdComplete_keeps (t : Nat) (s : State) : KeepsO s (execKvrdComplete t s) := by
  unfold execKvrdComplete
  refine KeepsO.ite ?_ ?_
  · exact KeepsO.fault _ _
  · split
    · refine KeepsO.next ?_
      exact Keeps.refl _
    · split
      · refine KeepsO.next ?_
        exact Keeps.refl _
      · refine KeepsO.ite ?_ ?_
        · refine KeepsO.next ?_
          exact Keeps.refl _
        · dsimp only
          split
          · refine KeepsO.next ?_
            refine Keeps.step (tileFault_keeps ..) ?_
            refine Keeps.of_only (updRun_only _ _ _) rfl ?_
            exact Keeps.refl _
          · refine KeepsO.next ?_
            refine Keeps.step (incFlag_keeps ..) ?_
            refine Keeps.step (tileSp_keeps ..) ?_
            refine Keeps.of_only (updRun_only _ _ _) rfl ?_
            exact Keeps.refl _

theorem execKvap_keeps (t : Nat) (s : State) : KeepsO s (execKvap t s) := by
  unfold execKvap
  refine tileCmd_keeps (fun _ _ _ => ?_) ?_
  · dsimp only
    split
    · refine Keeps.step (TCtx.fault_keeps ..) ?_
      assumption
    · refine Keeps.ite ?_ ?_
      · refine Keeps.step (TCtx.fault_keeps ..) ?_
        assumption
      · refine Keeps.ite ?_ ?_
        · assumption
        · split
          · refine Keeps.ite ?_ ?_
            · refine issue_keeps (fun _ _ => ?_) ?_
              · dsimp only [id]
                assumption
              · assumption
            · split
              · refine Keeps.step (TCtx.fault_keeps ..) ?_
                assumption
              · refine issue_keeps (fun _ _ => ?_) ?_
                · refine Keeps.step (spWrite_keeps ..) ?_
                  refine Keeps.step (spWrite_keeps ..) ?_
                  refine Keeps.of_only (countNum_only _ _ _ _) rfl ?_
                  refine Keeps.of_only (countSat_only _ _ _) rfl ?_
                  assumption
                · assumption
          · refine issue_keeps (fun _ _ => ?_) ?_
            · dsimp only [id]
              assumption
            · assumption
  · exact Keeps.refl _

theorem execRingFillDone_keeps (n : Nat) (s : State) : KeepsO s (execRingFillDone n s) := by
  unfold execRingFillDone
  split
  · refine KeepsO.next ?_
    exact Keeps.refl _
  · dsimp only
    refine KeepsO.ite ?_ ?_
    · refine KeepsO.next ?_
      exact Keeps.refl _
    · split
      · split
        · refine KeepsO.ite ?_ ?_
          · refine KeepsO.next ?_
            refine Keeps.step (engineFault_keeps ..) ?_
            refine Keeps.of_only (Only.set_fills (m := 1048576) rfl (Only.refl _ _) _) rfl ?_
            exact Keeps.refl _
          · refine KeepsO.next ?_
            refine Keeps.step (fillRing_keeps ..) ?_
            refine Keeps.of_only (Only.set_fills (m := 1048576) rfl (Only.refl _ _) _) rfl ?_
            exact Keeps.refl _
        · refine KeepsO.next ?_
          refine Keeps.of_only (Only.set_fills (m := 1048576) rfl (Only.refl _ _) _) rfl ?_
          exact Keeps.refl _
      · refine KeepsO.next ?_
        refine Keeps.of_only (Only.set_fills (m := 1048576) rfl (Only.refl _ _) _) rfl ?_
        exact Keeps.refl _

theorem execAllocCopyDone_keeps (p : Nat) (n : Nat) (s : State) : KeepsO s (execAllocCopyDone p n s) := by
  unfold execAllocCopyDone
  refine KeepsO.ite ?_ ?_
  · exact KeepsO.fault _ _
  · split
    · refine KeepsO.next ?_
      exact Keeps.refl _
    · split
      · refine KeepsO.next ?_
        exact Keeps.refl _
      · refine KeepsO.next ?_
        refine Keeps.step (copySet_keeps ..) ?_
        refine Keeps.of_only (updStep_only _ _ _) rfl ?_
        exact Keeps.refl _

theorem callFault_keeps (c : TCtx) (s : State) (reason : Nat) (addr : Nat) : Keeps s (callFault c s reason addr) := by
  unfold callFault
  refine Keeps.step (tileFault_keeps ..) ?_
  exact Keeps.refl _

theorem pcallCmd_keeps {s0 s : State} {c : TCtx} {f : Nat → State → State} (hf : ∀ d u, Keeps s0 u → Keeps s0 (f d u))
    (h : Keeps s0 s) : Keeps s0 (pcallCmd c f s) := by
  unfold pcallCmd
  have g : ∀ r a, Keeps s0 (c.fault s 7 r a) := fun r a => Keeps.step (TCtx.fault_keeps ..) h
  exact Keeps.ite (g _ _) (Keeps.ite h (Keeps.ite (g _ _) (hf _ _ h)))

theorem execPcallPageAlloc_keeps (t : Nat) (s : State) : KeepsO s (execPcallPageAlloc t s) := by
  unfold execPcallPageAlloc
  refine tileCmd_keeps (fun _ _ _ => ?_) ?_
  · refine pcallCmd_keeps (fun _ _ _ => ?_) ?_
    · dsimp only
      refine issue_keeps (fun _ _ => ?_) ?_
      · refine Keeps.step (incFlag_keeps ..) ?_
        refine Keeps.ite ?_ ?_
        · refine Keeps.step (endIfMasked_keeps ..) ?_
          refine Keeps.of_only (reviewStall_only _ _) rfl ?_
          refine Keeps.of_only (prepareRings_only _ _) rfl ?_
          refine Keeps.step (allocCall_keeps ..) ?_
          refine Keeps.of_only (updStep_only _ _ _) rfl ?_
          assumption
        · assumption
      · assumption
    · assumption
  · exact Keeps.refl _

theorem execPcallChain_keeps (t : Nat) (s : State) : KeepsO s (execPcallChain t s) := by
  unfold execPcallChain
  refine tileCmd_keeps (fun _ _ _ => ?_) ?_
  · refine Keeps.ite ?_ ?_
    · refine Keeps.step (TCtx.fault_keeps ..) ?_
      assumption
    · refine pcallCmd_keeps (fun _ _ _ => ?_) ?_
      · dsimp only
        refine Keeps.ite ?_ ?_
        · refine Keeps.step (callFault_keeps ..) ?_
          assumption
        · refine Keeps.ite ?_ ?_
          · assumption
          · refine Keeps.ite ?_ ?_
            · refine Keeps.step (callFault_keeps ..) ?_
              assumption
            · split
              · refine Keeps.step (callFault_keeps ..) ?_
                assumption
              · refine issue_keeps (fun _ _ => ?_) ?_
                · refine Keeps.of_only (reviewStall_only _ _) rfl ?_
                  refine Keeps.of_only (updRun_only _ _ _) rfl ?_
                  assumption
                · assumption
      · assumption
  · exact Keeps.refl _

theorem chainMove_keeps {p : Nat} {a : State × Option (Nat × Nat)} {r : Nat × Nat × Nat} {s' : State} {y : Option (Nat × Nat)}
    (hq : chainMove p a r = (s', y)) : Keeps a.1 s' := by
  obtain ⟨s, e⟩ := a
  cases e with
  | some e =>
    cases hq
    exact Keeps.refl _
  | none =>
    unfold chainMove at hq
    dsimp only at hq
    split at hq
    · cases hq
      exact Keeps.refl _
    · split at hq
      · cases hq
        exact Keeps.refl _
      · cases hq
        refine Keeps.of_only (countHbm_only ..) rfl ?_
        refine Keeps.step (pvaWrite_keeps ..) ?_
        exact Keeps.of_only (unstageWrite_only ..) rfl (Keeps.refl _)

theorem chainMoves_keeps {p : Nat} {s t : State} {l : List (Nat × Nat × Nat)} {y : Option (Nat × Nat)}
    (h : l.foldl (chainMove p) (s, none) = (t, y)) : Keeps s t := by
  obtain rfl := congrArg Prod.fst h
  exact Keeps.foldl_by (g := Prod.fst) (fun a x g => Keeps.step (chainMove_keeps (y := _) rfl) g) (Keeps.refl _)


theorem execRetrieverCallDone_keeps (t : Nat) (s : State) : KeepsO s (execRetrieverCallDone t s) := by
  unfold execRetrieverCallDone
  refine KeepsO.ite ?_ ?_
  · exact KeepsO.fault _ _
  · split
    · refine KeepsO.next ?_
      exact Keeps.refl _
    · split
      · refine KeepsO.next ?_
        exact Keeps.refl _
      · refine KeepsO.ite ?_ ?_
        · refine KeepsO.next ?_
          exact Keeps.refl _
        · dsimp only
          split
          · refine KeepsO.next ?_
            refine Keeps.step (tileFault_keeps ..) ?_
            refine Keeps.of_only (chainCount_only _ _ _ _ _) rfl ?_
            refine Keeps.step (chainMoves_keeps (by assumption)) ?_
            refine Keeps.of_only (updRun_only _ _ _) rfl ?_
            exact Keeps.refl _
          · refine KeepsO.next ?_
            refine Keeps.step (incFlag_keeps ..) ?_
            refine Keeps.step (chainMoves_keeps (by assumption)) ?_
            refine Keeps.of_only (updRun_only _ _ _) rfl ?_
            exact Keeps.refl _

end Sys2Proof.Machine
end

