-- ==== Sys2Proof/Laws/OnlySampler.lean ====
section
/-! SUPPORT. What each operation of Machine/Sampler.lean can change, at most. -/
namespace Sys2Proof.Machine

theorem samplerCmd_only {m : Nat} {s0 s : State} {op : Nat} {c : TCtx} {f : Nat → State → State} (hf : ∀ d u, Only m s0 u → Only m s0 (f d u))
    (w : 0xe00a09000007003a77fdda0 &&& m = 0xe00a09000007003a77fdda0) (h : Only m s0 s) : Only m s0 (samplerCmd op c f s) := by
  have v : ∀ a, a &&& 0xe00a09000007003a77fdda0 = a → a &&& m = a := fun a e => by rw [← e, Nat.and_assoc, w]
  unfold samplerCmd
  refine pcallCmd_only (fun d u g => ?_) (v _ rfl) h
  exact Only.ite (Only.step (callFault_only ..) (v _ rfl) g) (Only.ite g (hf _ _ g))

theorem treeSlot_only (c : TCtx) (d : Nat) (s : State) (slot : Nat) : Only 0x207000420 s (treeSlot c d s slot) := by
  unfold treeSlot
  dsimp only
  split
  · refine Only.step (tileSp_only ..) rfl ?_
    exact Only.refl _ _
  · refine Only.ite ?_ ?_
    · refine Only.step (tileSp_only ..) rfl ?_
      exact Only.refl _ _
    · refine Only.ite ?_ ?_
      · split
        · refine Only.step (tileSp_only ..) rfl ?_
          refine Only.step (addObj_only ..) rfl ?_
          refine Only.step (maskSlot_only ..) rfl ?_
          exact Only.refl _ _
        · refine Only.step (tileSp_only ..) rfl ?_
          refine Only.step (updSlot_only ..) rfl ?_
          exact Only.refl _ _
      · refine Only.step (tileSp_only ..) rfl ?_
        refine Only.step (updSlot_only ..) rfl ?_
        exact Only.refl _ _

theorem execSamplerTree_only (t : Nat) (s : State) : OnlyO 0xe00a09000007003e77fdda0 s (execSamplerTree t s) := by
  unfold execSamplerTree
  refine tileCmd_only (fun _ _ _ => ?_) rfl ?_
  · refine samplerCmd_only (fun _ _ _ => ?_) rfl ?_
    · dsimp only
      refine Only.ite ?_ ?_
      · refine Only.step (callFault_only ..) rfl ?_
        assumption
      · refine Only.ite ?_ ?_
        · refine Only.step (callFault_only ..) rfl ?_
          assumption
        · refine Only.ite ?_ ?_
          · refine Only.step (callFault_only ..) rfl ?_
            assumption
          · refine issue_only (fun _ _ => ?_) rfl ?_
            · refine Only.step (endIfMasked_only ..) rfl ?_
              refine Only.step (incFlag_only ..) rfl ?_
              refine Only.foldl (fun _ _ _ => ?_) ?_
              · refine Only.step (treeSlot_only ..) rfl ?_
                assumption
              · assumption
            · assumption
    · assumption
  · exact Only.refl _ _

theorem acceptSlot_only {c : TCtx} {d slot : Nat} {s t : State} (h : acceptSlot c d (.inr s) slot = .inr t) : Only 0x420 s t := by
  unfold acceptSlot at h
  dsimp only at h
  split at h
  · cases h
    exact Only.refl _ _
  · split at h
    · cases h
      exact Only.refl _ _
    · split at h
      · cases h
      · cases h
        refine Only.step (addObj_only ..) rfl ?_
        refine Only.step (addObj_only ..) rfl ?_
        refine Only.step (addObj_only ..) rfl ?_
        refine Only.step (addObj_only ..) rfl ?_
        exact Only.step (updSlot_only ..) rfl (Only.refl _ _)

theorem acceptSlots_only {c : TCtx} {d : Nat} {s t : State} {l : List Nat} (h : l.foldl (acceptSlot c d) (.inr s) = .inr t) : Only 0x420 s t := by
  induction l generalizing s with
  | nil =>
    cases h
    exact Only.refl _ _
  | cons r l ih =>
    rw [List.foldl_cons] at h
    match e : acceptSlot c d (.inr s) r with
    | .inr u =>
      rw [e] at h
      exact Only.step (ih h) rfl (acceptSlot_only e)
    | .inl r =>
      rw [e] at h
      have : ∀ l : List Nat, l.foldl (acceptSlot c d) (.inl r) = .inl r := by
        intro l
        induction l with
        | nil => rfl
        | cons _ _ k => exact k
      rw [this] at h
      cases h

theorem execSamplerAccept_only (t : Nat) (s : State) : OnlyO 0xe00a09000007003e77fdda0 s (execSamplerAccept t s) := by
  unfold execSamplerAccept
  refine tileCmd_only (fun _ _ _ => ?_) rfl ?_
  · refine samplerCmd_only (fun _ _ _ => ?_) rfl ?_
    · dsimp only
      refine Only.ite ?_ ?_
      · refine Only.step (callFault_only ..) rfl ?_
        assumption
      · refine Only.ite ?_ ?_
        · assumption
        · split
          · refine Only.step (callFault_only ..) rfl ?_
            assumption
          · refine issue_only (fun _ _ => ?_) rfl ?_
            · split
              · assumption
              · refine Only.step (tryCommit_only ..) rfl ?_
                refine Only.step (incFlag_only ..) rfl ?_
                refine Only.step (acceptSlots_only (by assumption)) rfl ?_
                assumption
            · assumption
    · assumption
  · exact Only.refl _ _

theorem execSamplerPublish_only (t : Nat) (s : State) : OnlyO 0xe00a09000007003e77fdda0 s (execSamplerPublish t s) := by
  unfold execSamplerPublish
  refine tileCmd_only (fun _ _ _ => ?_) rfl ?_
  · refine samplerCmd_only (fun _ _ _ => ?_) rfl ?_
    · refine Only.ite ?_ ?_
      · refine Only.step (callFault_only ..) rfl ?_
        assumption
      · refine issue_only (fun _ _ => ?_) rfl ?_
        · refine Only.step (incFlag_only ..) rfl ?_
          refine Only.step (updStep_only ..) rfl ?_
          assumption
        · assumption
    · assumption
  · exact Only.refl _ _

theorem execAcceptMissing_only (p : Nat) (s : State) : OnlyO 0xe00a09000007003a77fdda0 s (execAcceptMissing p s) := by
  unfold execAcceptMissing
  refine OnlyO.ite ?_ ?_
  · exact OnlyO.fault _ _ _
  · refine OnlyO.ite ?_ ?_
    · refine OnlyO.next ?_
      refine Only.step (engineFault_only ..) rfl ?_
      exact Only.refl _ _
    · refine OnlyO.next ?_
      exact Only.refl _ _

theorem forwardCancel_only (s : State) (p : Nat) (seq : Nat) : Only 0xa0080000000000000000000 s (forwardCancel s p seq) := by
  unfold forwardCancel
  refine Only.step (updGroup_only ..) rfl ?_
  refine Only.step (toRank_only ..) rfl ?_
  exact Only.refl _ _

theorem cancelEff_only (s : State) (p : Nat) (r : RunList) : Only 0xe00801000000002000358a0 s (cancelEff s p r) := by
  unfold cancelEff
  dsimp only
  split
  · refine Only.step (releaseWaits_only ..) rfl ?_
    refine Only.ite ?_ ?_
    · refine Only.step (endRun_only ..) rfl ?_
      refine Only.step (setQueue_only ..) rfl ?_
      exact Only.refl _ _
    · refine Only.set_cancelWait rfl ?_ _
      refine Only.step (setQueue_only ..) rfl ?_
      exact Only.refl _ _
  · refine Only.ite ?_ ?_
    · refine Only.step (releaseWaits_only ..) rfl ?_
      refine Only.ite ?_ ?_
      · refine Only.step (endRun_only ..) rfl ?_
        refine Only.step (setQueue_only ..) rfl ?_
        refine Only.ite ?_ ?_
        · refine Only.ite ?_ ?_
          · refine Only.step (forwardCancel_only ..) rfl ?_
            exact Only.refl _ _
          · refine Only.step (setSeq_only ..) rfl ?_
            exact Only.refl _ _
        · refine Only.step (addObj_only ..) rfl ?_
          refine Only.ite ?_ ?_
          · refine Only.step (forwardCancel_only ..) rfl ?_
            exact Only.refl _ _
          · refine Only.step (setSeq_only ..) rfl ?_
            exact Only.refl _ _
      · refine Only.set_cancelWait rfl ?_ _
        refine Only.step (setQueue_only ..) rfl ?_
        refine Only.ite ?_ ?_
        · refine Only.ite ?_ ?_
          · refine Only.step (forwardCancel_only ..) rfl ?_
            exact Only.refl _ _
          · refine Only.step (setSeq_only ..) rfl ?_
            exact Only.refl _ _
        · refine Only.step (addObj_only ..) rfl ?_
          refine Only.ite ?_ ?_
          · refine Only.step (forwardCancel_only ..) rfl ?_
            exact Only.refl _ _
          · refine Only.step (setSeq_only ..) rfl ?_
            exact Only.refl _ _
    · refine Only.step (setQueue_only ..) rfl ?_
      refine Only.ite ?_ ?_
      · refine Only.ite ?_ ?_
        · refine Only.step (forwardCancel_only ..) rfl ?_
          exact Only.refl _ _
        · refine Only.step (setSeq_only ..) rfl ?_
          exact Only.refl _ _
      · refine Only.step (addObj_only ..) rfl ?_
        refine Only.ite ?_ ?_
        · refine Only.step (forwardCancel_only ..) rfl ?_
          exact Only.refl _ _
        · refine Only.step (setSeq_only ..) rfl ?_
          exact Only.refl _ _

theorem execCancel_only (q : Nat) (s : State) : OnlyO 0xe00801000000002000358a0 s (execCancel q s) := by
  unfold execCancel
  refine OnlyO.ite ?_ ?_
  · exact OnlyO.fault _ _ _
  · dsimp only
    refine OnlyO.ite ?_ ?_
    · refine OnlyO.next ?_
      exact Only.refl _ _
    · split
      · refine OnlyO.next ?_
        refine Only.step (cancelEff_only ..) rfl ?_
        exact Only.refl _ _
      · refine OnlyO.next ?_
        refine Only.step (cancelEff_only ..) rfl ?_
        refine Only.step (setQueue_only ..) rfl ?_
        exact Only.refl _ _
      · refine OnlyO.next ?_
        exact Only.refl _ _

theorem execCancelNoticeTile_only (t : Nat) (slot : Nat) (s : State) : OnlyO 0x200000000 s (execCancelNoticeTile t slot s) := by
  unfold execCancelNoticeTile
  refine OnlyO.ite ?_ ?_
  · exact OnlyO.fault _ _ _
  · split
    · refine OnlyO.next ?_
      exact Only.refl _ _
    · split
      · refine OnlyO.next ?_
        exact Only.refl _ _
      · refine OnlyO.ite ?_ ?_
        · refine OnlyO.next ?_
          refine Only.step (updRun_only ..) rfl ?_
          exact Only.refl _ _
        · refine OnlyO.next ?_
          exact Only.refl _ _

theorem execCancelRecorded_only (p : Nat) (seq : Nat) (lat : Nat) (s : State) : OnlyO 0xe0080100000700220135da0 s (execCancelRecorded p seq lat s) := by
  unfold execCancelRecorded
  refine OnlyO.ite ?_ ?_
  · exact OnlyO.fault _ _ _
  · refine OnlyO.ite ?_ ?_
    · refine OnlyO.next ?_
      exact Only.refl _ _
    · dsimp only
      split
      · refine OnlyO.ite ?_ ?_
        · refine OnlyO.next ?_
          refine Only.step (finalForwards_only ..) rfl ?_
          refine Only.step (finalCancels_only ..) rfl ?_
          refine Only.step (addObj_only ..) rfl ?_
          refine Only.step (setObj_only ..) rfl ?_
          exact Only.refl _ _
        · refine OnlyO.ite ?_ ?_
          · refine OnlyO.next ?_
            refine Only.step (setObj_only ..) rfl ?_
            exact Only.refl _ _
          · refine OnlyO.next ?_
            refine Only.step (tryCommit_only ..) rfl ?_
            refine Only.step (endIfMasked_only ..) rfl ?_
            refine Only.step (addObj_only ..) rfl ?_
            refine Only.step (maskSlot_only ..) rfl ?_
            refine Only.set_tiles rfl ?_ _
            refine Only.ite ?_ ?_
            · refine Only.step (toRanks_only ..) rfl ?_
              refine Only.step (setObj_only ..) rfl ?_
              exact Only.refl _ _
            · refine Only.step (setObj_only ..) rfl ?_
              exact Only.refl _ _
      · refine OnlyO.next ?_
        refine Only.step (finalForwards_only ..) rfl ?_
        refine Only.step (finalCancels_only ..) rfl ?_
        refine Only.step (addObj_only ..) rfl ?_
        refine Only.step (setObj_only ..) rfl ?_
        exact Only.refl _ _

end Sys2Proof.Machine
end

