-- ==== Sys2Proof/Laws/KeepsSampler.lean ====
section
/-! SUPPORT. Each operation of Machine/Sampler.lean keeps: the form of the memories and the bounds of the stores. -/
namespace Sys2Proof.Machine

theorem samplerCmd_keeps {s0 s : State} {op : Nat} {c : TCtx} {f : Nat → State → State} (hf : ∀ d u, Keeps s0 u → Keeps s0 (f d u))
    (h : Keeps s0 s) : Keeps s0 (samplerCmd op c f s) := by
  unfold samplerCmd
  refine pcallCmd_keeps (fun d u g => ?_) h
  exact Keeps.ite (Keeps.step (callFault_keeps ..) g) (Keeps.ite g (hf _ _ g))

theorem treeSlot_keeps (c : TCtx) (d : Nat) (s : State) (slot : Nat) : Keeps s (treeSlot c d s slot) := by
  unfold treeSlot
  dsimp only
  split
  · refine Keeps.step (tileSp_keeps ..) ?_
    exact Keeps.refl _
  · refine Keeps.ite ?_ ?_
    · refine Keeps.step (tileSp_keeps ..) ?_
      exact Keeps.refl _
    · refine Keeps.ite ?_ ?_
      · split
        · refine Keeps.step (tileSp_keeps ..) ?_
          refine Keeps.of_only (addObj_only _ _ _ _ _ _) rfl ?_
          refine Keeps.of_only (maskSlot_only _ _ _ _ _) rfl ?_
          exact Keeps.refl _
        · refine Keeps.step (tileSp_keeps ..) ?_
          refine Keeps.of_only (updSlot_only _ _ _ _) rfl ?_
          exact Keeps.refl _
      · refine Keeps.step (tileSp_keeps ..) ?_
        refine Keeps.of_only (updSlot_only _ _ _ _) rfl ?_
        exact Keeps.refl _

theorem execSamplerTree_keeps (t : Nat) (s : State) : KeepsO s (execSamplerTree t s) := by
  unfold execSamplerTree
  refine tileCmd_keeps (fun _ _ _ => ?_) ?_
  · refine samplerCmd_keeps (fun _ _ _ => ?_) ?_
    · dsimp only
      refine Keeps.ite ?_ ?_
      · refine Keeps.step (callFault_keeps ..) ?_
        assumption
      · refine Keeps.ite ?_ ?_
        · refine Keeps.step (callFault_keeps ..) ?_
          assumption
        · refine Keeps.ite ?_ ?_
          · refine Keeps.step (callFault_keeps ..) ?_
            assumption
          · refine issue_keeps (fun _ _ => ?_) ?_
            · refine Keeps.step (endIfMasked_keeps ..) ?_
              refine Keeps.step (incFlag_keeps ..) ?_
              refine Keeps.foldl (fun _ _ _ => ?_) ?_
              · refine Keeps.step (treeSlot_keeps ..) ?_
                assumption
              · assumption
            · assumption
    · assumption
  · exact Keeps.refl _

theorem execSamplerAccept_keeps (t : Nat) (s : State) : KeepsO s (execSamplerAccept t s) := by
  unfold execSamplerAccept
  refine tileCmd_keeps (fun _ _ _ => ?_) ?_
  · refine samplerCmd_keeps (fun _ _ _ => ?_) ?_
    · dsimp only
      refine Keeps.ite ?_ ?_
      · refine Keeps.step (callFault_keeps ..) ?_
        assumption
      · refine Keeps.ite ?_ ?_
        · assumption
        · split
          · refine Keeps.step (callFault_keeps ..) ?_
            assumption
          · refine issue_keeps (fun _ _ => ?_) ?_
            · split
              · assumption
              · refine Keeps.step (tryCommit_keeps ..) ?_
                refine Keeps.step (incFlag_keeps ..) ?_
                refine Keeps.of_only (acceptSlots_only (by assumption)) rfl ?_
                assumption
            · assumption
    · assumption
  · exact Keeps.refl _

theorem execSamplerPublish_keeps (t : Nat) (s : State) : KeepsO s (execSamplerPublish t s) := by
  unfold execSamplerPublish
  refine tileCmd_keeps (fun _ _ _ => ?_) ?_
  · refine samplerCmd_keeps (fun _ _ _ => ?_) ?_
    · refine Keeps.ite ?_ ?_
      · refine Keeps.step (callFault_keeps ..) ?_
        assumption
      · refine issue_keeps (fun _ _ => ?_) ?_
        · refine Keeps.step (incFlag_keeps ..) ?_
          refine Keeps.of_only (updStep_only _ _ _) rfl ?_
          assumption
        · assumption
    · assumption
  · exact Keeps.refl _

theorem execAcceptMissing_keeps (p : Nat) (s : State) : KeepsO s (execAcceptMissing p s) := by
  unfold execAcceptMissing
  refine KeepsO.ite ?_ ?_
  · exact KeepsO.fault _ _
  · refine KeepsO.ite ?_ ?_
    · refine KeepsO.next ?_
      refine Keeps.step (engineFault_keeps ..) ?_
      exact Keeps.refl _
    · refine KeepsO.next ?_
      exact Keeps.refl _

theorem cancelEff_keeps (s : State) (p : Nat) (r : RunList) : Keeps s (cancelEff s p r) := by
  unfold cancelEff
  dsimp only
  split
  · refine Keeps.step (releaseWaits_keeps ..) ?_
    refine Keeps.ite ?_ ?_
    · refine Keeps.step (endRun_keeps ..) ?_
      refine Keeps.of_only (setQueue_only _ _ _) rfl ?_
      exact Keeps.refl _
    · refine Keeps.of_only (Only.set_cancelWait (m := 4096) rfl (Only.refl _ _) _) rfl ?_
      refine Keeps.of_only (setQueue_only _ _ _) rfl ?_
      exact Keeps.refl _
  · refine Keeps.ite ?_ ?_
    · refine Keeps.step (releaseWaits_keeps ..) ?_
      refine Keeps.ite ?_ ?_
      · refine Keeps.step (endRun_keeps ..) ?_
        refine Keeps.of_only (setQueue_only _ _ _) rfl ?_
        refine Keeps.ite ?_ ?_
        · refine Keeps.ite ?_ ?_
          · refine Keeps.of_only (forwardCancel_only _ _ _) rfl ?_
            exact Keeps.refl _
          · refine Keeps.of_only (setSeq_only _ _ _ _) rfl ?_
            exact Keeps.refl _
        · refine Keeps.of_only (addObj_only _ _ _ _ _ _) rfl ?_
          refine Keeps.ite ?_ ?_
          · refine Keeps.of_only (forwardCancel_only _ _ _) rfl ?_
            exact Keeps.refl _
          · refine Keeps.of_only (setSeq_only _ _ _ _) rfl ?_
            exact Keeps.refl _
      · refine Keeps.of_only (Only.set_cancelWait (m := 4096) rfl (Only.refl _ _) _) rfl ?_
        refine Keeps.of_only (setQueue_only _ _ _) rfl ?_
        refine Keeps.ite ?_ ?_
        · refine Keeps.ite ?_ ?_
          · refine Keeps.of_only (forwardCancel_only _ _ _) rfl ?_
            exact Keeps.refl _
          · refine Keeps.of_only (setSeq_only _ _ _ _) rfl ?_
            exact Keeps.refl _
        · refine Keeps.of_only (addObj_only _ _ _ _ _ _) rfl ?_
          refine Keeps.ite ?_ ?_
          · refine Keeps.of_only (forwardCancel_only _ _ _) rfl ?_
            exact Keeps.refl _
          · refine Keeps.of_only (setSeq_only _ _ _ _) rfl ?_
            exact Keeps.refl _
    · refine Keeps.of_only (setQueue_only _ _ _) rfl ?_
      refine Keeps.ite ?_ ?_
      · refine Keeps.ite ?_ ?_
        · refine Keeps.of_only (forwardCancel_only _ _ _) rfl ?_
          exact Keeps.refl _
        · refine Keeps.of_only (setSeq_only _ _ _ _) rfl ?_
          exact Keeps.refl _
      · refine Keeps.of_only (addObj_only _ _ _ _ _ _) rfl ?_
        refine Keeps.ite ?_ ?_
        · refine Keeps.of_only (forwardCancel_only _ _ _) rfl ?_
          exact Keeps.refl _
        · refine Keeps.of_only (setSeq_only _ _ _ _) rfl ?_
          exact Keeps.refl _

theorem execCancel_keeps (q : Nat) (s : State) : KeepsO s (execCancel q s) := by
  unfold execCancel
  refine KeepsO.ite ?_ ?_
  · exact KeepsO.fault _ _
  · dsimp only
    refine KeepsO.ite ?_ ?_
    · refine KeepsO.next ?_
      exact Keeps.refl _
    · split
      · refine KeepsO.next ?_
        refine Keeps.step (cancelEff_keeps ..) ?_
        exact Keeps.refl _
      · refine KeepsO.next ?_
        refine Keeps.step (cancelEff_keeps ..) ?_
        refine Keeps.of_only (setQueue_only _ _ _) rfl ?_
        exact Keeps.refl _
      · refine KeepsO.next ?_
        exact Keeps.refl _

theorem execCancelRecorded_keeps (p : Nat) (seq : Nat) (lat : Nat) (s : State) : KeepsO s (execCancelRecorded p seq lat s) := by
  unfold execCancelRecorded
  refine KeepsO.ite ?_ ?_
  · exact KeepsO.fault _ _
  · refine KeepsO.ite ?_ ?_
    · refine KeepsO.next ?_
      exact Keeps.refl _
    · dsimp only
      split
      · refine KeepsO.ite ?_ ?_
        · refine KeepsO.next ?_
          refine Keeps.of_only (finalForwards_only _ _ _) rfl ?_
          refine Keeps.step (finalCancels_keeps ..) ?_
          refine Keeps.of_only (addObj_only _ _ _ _ _ _) rfl ?_
          refine Keeps.of_only (setObj_only _ _ _ _ _) rfl ?_
          exact Keeps.refl _
        · refine KeepsO.ite ?_ ?_
          · refine KeepsO.next ?_
            refine Keeps.of_only (setObj_only _ _ _ _ _) rfl ?_
            exact Keeps.refl _
          · refine KeepsO.next ?_
            refine Keeps.step (tryCommit_keeps ..) ?_
            refine Keeps.step (endIfMasked_keeps ..) ?_
            refine Keeps.of_only (addObj_only _ _ _ _ _ _) rfl ?_
            refine Keeps.of_only (maskSlot_only _ _ _ _ _) rfl ?_
            refine Keeps.of_only (Only.set_tiles (m := 8589934592) rfl (Only.refl _ _) _) rfl ?_
            refine Keeps.ite ?_ ?_
            · refine Keeps.of_only (toRanks_only _ _ _ _ _) rfl ?_
              refine Keeps.of_only (setObj_only _ _ _ _ _) rfl ?_
              exact Keeps.refl _
            · refine Keeps.of_only (setObj_only _ _ _ _ _) rfl ?_
              exact Keeps.refl _
      · refine KeepsO.next ?_
        refine Keeps.of_only (finalForwards_only _ _ _) rfl ?_
        refine Keeps.step (finalCancels_keeps ..) ?_
        refine Keeps.of_only (addObj_only _ _ _ _ _ _) rfl ?_
        refine Keeps.of_only (setObj_only _ _ _ _ _) rfl ?_
        exact Keeps.refl _

end Sys2Proof.Machine
end

