-- ==== Sys2Proof/Laws/OnlyStepCmds.lean ====
section
/-! SUPPORT. What each operation of Machine/StepCmds.lean can change, at most. -/
namespace Sys2Proof.Machine

theorem startStep_only (s : State) (p : Nat) (r : StepRun) : Only 0xe0080100000700220135da0 s (startStep s p r) := by
  unfold startStep
  refine Only.step (endIfMasked_only ..) rfl ?_
  refine Only.step (reviewStall_only ..) rfl ?_
  refine Only.step (setPState_only ..) rfl ?_
  refine Only.step (updPart_only ..) rfl ?_
  exact Only.refl _ _

theorem groupStep_only (s : State) (p : Nat) (prog : Nat) (pay : List Nat) (bs : List SlotB) : Only 0xe0080100000700220135da0 s (groupStep s p prog pay bs) := by
  unfold groupStep
  dsimp only
  refine Only.step (startStep_only ..) rfl ?_
  refine Only.foldl (fun _ _ _ => ?_) ?_
  · refine Only.step (toRank_only ..) rfl ?_
    assumption
  · refine Only.step (updGroup_only ..) rfl ?_
    exact Only.refl _ _

theorem launchGo_only (s : State) (p : Nat) (x : StepGo) : Only 0xe0080100000700220135da0 s (launchGo s p x) := by
  unfold launchGo
  dsimp only
  refine Only.step (startStep_only ..) rfl ?_
  refine Only.step (updGroup_only ..) rfl ?_
  exact Only.refl _ _

theorem goWaiting_only (s : State) (p : Nat) : Only 0xe0080100000700220135da0 s (goWaiting s p) := by
  unfold goWaiting
  split
  · exact Only.refl _ _
  · refine Only.ite ?_ ?_
    · refine Only.step (launchGo_only ..) rfl ?_
      refine Only.step (updGroup_only ..) rfl ?_
      exact Only.refl _ _
    · exact Only.refl _ _

theorem execStep_only (q : Nat) (s : State) : OnlyO 0xe0080100000700220137da0 s (execStep q s) := by
  unfold execStep
  refine withCommand_only (fun _ _ => ?_) rfl ?_
  · dsimp only
    refine Only.ite ?_ ?_
    · exact Only.refl _ _
    · split
      · refine Only.step (refuseCmd_only ..) rfl ?_
        exact Only.refl _ _
      · refine Only.ite ?_ ?_
        · refine Only.step (groupStep_only ..) rfl ?_
          refine Only.step (beginCmd_only ..) rfl ?_
          exact Only.refl _ _
        · refine Only.step (startStep_only ..) rfl ?_
          refine Only.step (beginCmd_only ..) rfl ?_
          exact Only.refl _ _
  · exact Only.refl _ _

theorem execStepLaunch_only (t : Nat) (s : State) : OnlyO 0x220000400 s (execStepLaunch t s) := by
  unfold execStepLaunch
  refine OnlyO.ite ?_ ?_
  · exact OnlyO.fault _ _ _
  · split
    · refine OnlyO.next ?_
      exact Only.refl _ _
    · split
      · refine OnlyO.next ?_
        exact Only.refl _ _
      · split
        · refine OnlyO.next ?_
          exact Only.refl _ _
        · refine OnlyO.ite ?_ ?_
          · refine OnlyO.next ?_
            exact Only.refl _ _
          · dsimp only
            refine OnlyO.next ?_
            refine Only.step (updStep_only ..) rfl ?_
            refine Only.set_accPend_tiles rfl rfl ?_ _ _
            exact Only.refl _ _

theorem publish_only (s : State) (p : Nat) (r : StepRun) : Only 0xc0080100000000207014c80 s (publish s p r) := by
  unfold publish
  split
  · exact Only.refl _ _
  · refine Only.ite ?_ ?_
    · exact Only.refl _ _
    · dsimp only
      refine Only.ite ?_ ?_
      · refine Only.step (updPart_only ..) rfl ?_
        refine Only.foldl (fun _ _ _ => ?_) ?_
        · refine Only.ite ?_ ?_
          · assumption
          · split
            · assumption
            · refine Only.step (spWrite_only ..) rfl ?_
              assumption
        · exact Only.refl _ _
      · split
        · refine Only.step (raiseRc_only ..) rfl ?_
          refine Only.step (updPart_only ..) rfl ?_
          refine Only.foldl (fun _ _ _ => ?_) ?_
          · refine Only.ite ?_ ?_
            · assumption
            · split
              · assumption
              · refine Only.step (spWrite_only ..) rfl ?_
                assumption
          · exact Only.refl _ _
        · refine Only.step (syncWrite_only ..) rfl ?_
          refine Only.step (updPart_only ..) rfl ?_
          refine Only.foldl (fun _ _ _ => ?_) ?_
          · refine Only.ite ?_ ?_
            · assumption
            · split
              · assumption
              · refine Only.step (spWrite_only ..) rfl ?_
                assumption
          · exact Only.refl _ _

theorem dropFills_only (s : State) (p : Nat) : Only 0x100000 s (dropFills s p) := by
  unfold dropFills
  refine Only.set_fills rfl ?_ _
  exact Only.refl _ _

theorem boundaryLatch_only (s : State) (p : Nat) : Only 0xc0080100000000200e14ca0 s (boundaryLatch s p) := by
  unfold boundaryLatch
  dsimp only
  refine Only.ite ?_ ?_
  · refine Only.step (addObj_only ..) rfl ?_
    refine Only.step (updPart_only ..) rfl ?_
    refine Only.foldl (fun _ _ _ => ?_) ?_
    · refine Only.ite ?_ ?_
      · refine Only.step (loadTable_only ..) rfl ?_
        assumption
      · assumption
    · refine Only.step (applySwap_only ..) rfl ?_
      refine Only.foldl (fun _ _ _ => ?_) ?_
      · refine Only.step (latchTile_only ..) rfl ?_
        assumption
      · exact Only.refl _ _
  · refine Only.foldl (fun _ _ _ => ?_) ?_
    · refine Only.ite ?_ ?_
      · refine Only.step (loadTable_only ..) rfl ?_
        assumption
      · assumption
    · refine Only.step (applySwap_only ..) rfl ?_
      refine Only.foldl (fun _ _ _ => ?_) ?_
      · refine Only.step (latchTile_only ..) rfl ?_
        assumption
      · exact Only.refl _ _

theorem boundaryBounds_only (s : State) (p : Nat) : Only 0x1000000000002004a0 s (boundaryBounds s p) := by
  unfold boundaryBounds
  dsimp only
  refine Only.ite ?_ ?_
  · refine Only.step (updPart_only ..) rfl ?_
    refine Only.step (raise_only ..) rfl ?_
    refine Only.ite ?_ ?_
    · refine Only.step (addObj_only ..) rfl ?_
      refine Only.foldl (fun _ _ _ => ?_) ?_
      · refine Only.step (updBank_only ..) rfl ?_
        assumption
      · refine Only.step (updPart_only ..) rfl ?_
        exact Only.refl _ _
    · refine Only.foldl (fun _ _ _ => ?_) ?_
      · refine Only.step (updBank_only ..) rfl ?_
        assumption
      · refine Only.step (updPart_only ..) rfl ?_
        exact Only.refl _ _
  · refine Only.ite ?_ ?_
    · refine Only.step (updPart_only ..) rfl ?_
      refine Only.step (raise_only ..) rfl ?_
      refine Only.ite ?_ ?_
      · refine Only.step (addObj_only ..) rfl ?_
        refine Only.foldl (fun _ _ _ => ?_) ?_
        · refine Only.step (updBank_only ..) rfl ?_
          assumption
        · refine Only.step (updPart_only ..) rfl ?_
          exact Only.refl _ _
      · refine Only.foldl (fun _ _ _ => ?_) ?_
        · refine Only.step (updBank_only ..) rfl ?_
          assumption
        · refine Only.step (updPart_only ..) rfl ?_
          exact Only.refl _ _
    · refine Only.ite ?_ ?_
      · refine Only.step (addObj_only ..) rfl ?_
        refine Only.foldl (fun _ _ _ => ?_) ?_
        · refine Only.step (updBank_only ..) rfl ?_
          assumption
        · refine Only.step (updPart_only ..) rfl ?_
          exact Only.refl _ _
      · refine Only.foldl (fun _ _ _ => ?_) ?_
        · refine Only.step (updBank_only ..) rfl ?_
          assumption
        · refine Only.step (updPart_only ..) rfl ?_
          exact Only.refl _ _

theorem coldCheck_only (s : State) : Only 0x102000000000000080 s (coldCheck s) := by
  unfold coldCheck
  dsimp only
  refine Only.ite ?_ ?_
  · refine Only.step (raise_only ..) rfl ?_
    refine Only.set_coldRaised rfl ?_ _
    exact Only.refl _ _
  · refine Only.ite ?_ ?_
    · refine Only.step (raise_only ..) rfl ?_
      refine Only.set_coldRaised rfl ?_ _
      exact Only.refl _ _
    · exact Only.refl _ _

theorem lowFreeCheck_only (s : State) (p : Nat) : Only 0x100000000000000480 s (lowFreeCheck s p) := by
  unfold lowFreeCheck
  dsimp only
  refine Only.step (updPart_only ..) rfl ?_
  refine Only.ite ?_ ?_
  · refine Only.step (raise_only ..) rfl ?_
    exact Only.refl _ _
  · exact Only.refl _ _

theorem commitActions_only (s : State) (p : Nat) (r : StepRun) : Only 0xe00a01000000003870f4ca0 s (commitActions s p r) := by
  unfold commitActions
  dsimp only
  refine Only.step (judgeHeld_only ..) rfl ?_
  refine Only.step (updPart_only ..) rfl ?_
  refine Only.foldl (fun _ _ _ => ?_) ?_
  · refine Only.step (returnSets_only ..) rfl ?_
    assumption
  · refine Only.foldl (fun _ _ _ => ?_) ?_
    · refine Only.step (commitSlot_only ..) rfl ?_
      assumption
    · exact Only.refl _ _

theorem latchCheck_only (s : State) (p : Nat) : Only 0x400 s (latchCheck s p) := by
  unfold latchCheck
  refine Only.step (updPart_only ..) rfl ?_
  exact Only.refl _ _

theorem leaveStep_only (s : State) (p : Nat) (r : StepRun) : Only 0xc0080102000000207f14da0 s (leaveStep s p r) := by
  unfold leaveStep
  dsimp only
  refine Only.ite ?_ ?_
  · refine Only.step (leaveDisabling_only ..) rfl ?_
    refine Only.step (hubMove_only ..) rfl ?_
    refine Only.step (lowFreeCheck_only ..) rfl ?_
    refine Only.step (coldCheck_only ..) rfl ?_
    refine Only.ite ?_ ?_
    · refine Only.step (latchCheck_only ..) rfl ?_
      refine Only.step (boundaryLatch_only ..) rfl ?_
      refine Only.step (publish_only ..) rfl ?_
      refine Only.step (dropFills_only ..) rfl ?_
      exact Only.refl _ _
    · refine Only.step (boundaryBounds_only ..) rfl ?_
      refine Only.step (latchCheck_only ..) rfl ?_
      refine Only.step (boundaryLatch_only ..) rfl ?_
      refine Only.step (publish_only ..) rfl ?_
      refine Only.step (dropFills_only ..) rfl ?_
      exact Only.refl _ _
  · refine Only.step (toIdle_only ..) rfl ?_
    refine Only.step (hubMove_only ..) rfl ?_
    refine Only.step (lowFreeCheck_only ..) rfl ?_
    refine Only.step (coldCheck_only ..) rfl ?_
    refine Only.ite ?_ ?_
    · refine Only.step (latchCheck_only ..) rfl ?_
      refine Only.step (boundaryLatch_only ..) rfl ?_
      refine Only.step (publish_only ..) rfl ?_
      refine Only.step (dropFills_only ..) rfl ?_
      exact Only.refl _ _
    · refine Only.step (boundaryBounds_only ..) rfl ?_
      refine Only.step (latchCheck_only ..) rfl ?_
      refine Only.step (boundaryLatch_only ..) rfl ?_
      refine Only.step (publish_only ..) rfl ?_
      refine Only.step (dropFills_only ..) rfl ?_
      exact Only.refl _ _

theorem endStep_only (s : State) (p : Nat) (r : StepRun) : Only 0xc0080102000000207f14da0 s (endStep s p r) := by
  unfold endStep
  dsimp only
  refine Only.step (leaveStep_only ..) rfl ?_
  refine Only.step (completeCmd_only ..) rfl ?_
  exact Only.refl _ _

theorem groupActions_only (s : State) (p : Nat) (r : StepRun) (n : Nat) : Only 0xe00a01000000003870f4ca0 s (groupActions s p r n) := by
  unfold groupActions
  dsimp only
  refine Only.step (updGroup_only ..) rfl ?_
  refine Only.step (commitActions_only ..) rfl ?_
  exact Only.refl _ _

theorem postGroup_only (s : State) (p : Nat) (r : StepRun) : Only 0xe0080102000000207f14da0 s (postGroup s p r) := by
  unfold postGroup
  dsimp only
  refine Only.step (toRanks_only ..) rfl ?_
  refine Only.step (endStep_only ..) rfl ?_
  refine Only.step (updGroup_only ..) rfl ?_
  exact Only.refl _ _

theorem groupBoundary_only (s : State) (p : Nat) : Only 0xe0080102000000207f14da0 s (groupBoundary s p) := by
  unfold groupBoundary
  dsimp only
  split
  · exact Only.refl _ _
  · refine Only.ite ?_ ?_
    · exact Only.refl _ _
    · refine Only.ite ?_ ?_
      · refine Only.step (updGroup_only ..) rfl ?_
        refine Only.step (toRank_only ..) rfl ?_
        exact Only.refl _ _
      · refine Only.step (postGroup_only ..) rfl ?_
        exact Only.refl _ _

theorem orderEff_only (s : State) (p w : Nat) : Only 0x60000 s (orderEff s p w) := by
  unfold orderEff
  dsimp only
  split
  · exact Only.refl _ _
  · rename_i hq
    split at hq
    · exact Only.step (seqopenEff_only hq) rfl (Only.refl _ _)
    · exact Only.step (seqcloseEff_only hq) rfl (Only.refl _ _)
    · exact Only.step (seqParamEff_only hq) rfl (Only.refl _ _)
    · exact Only.step (seqParamEff_only hq) rfl (Only.refl _ _)
    · exact Only.step (seqParamEff_only hq) rfl (Only.refl _ _)
    · exact Only.step (pageEff_only hq) rfl (Only.refl _ _)

theorem memberBoundary_only (s : State) (p : Nat) (r : StepRun) (n : Nat) : Only 0xe00a0102000000387ff4da0 s (memberBoundary s p r n) := by
  unfold memberBoundary
  dsimp only
  refine Only.step (toRank_only ..) rfl ?_
  refine Only.foldl (fun _ _ _ => ?_) ?_
  · refine Only.step (orderEff_only ..) rfl ?_
    assumption
  · refine Only.step (updGroup_only ..) rfl ?_
    refine Only.step (leaveStep_only ..) rfl ?_
    refine Only.step (groupActions_only ..) rfl ?_
    exact Only.refl _ _

theorem execStepBoundary_only (p : Nat) (s : State) : OnlyO 0xe00a0102000000387ff4da0 s (execStepBoundary p s) := by
  unfold execStepBoundary
  refine OnlyO.ite ?_ ?_
  · exact OnlyO.fault _ _ _
  · split
    · refine OnlyO.next ?_
      exact Only.refl _ _
    · refine OnlyO.ite ?_ ?_
      · split
        · refine OnlyO.next ?_
          refine Only.step (endStep_only ..) rfl ?_
          refine Only.step (commitActions_only ..) rfl ?_
          exact Only.refl _ _
        · refine OnlyO.ite ?_ ?_
          · refine OnlyO.next ?_
            refine Only.step (memberBoundary_only ..) rfl ?_
            exact Only.refl _ _
          · refine OnlyO.next ?_
            refine Only.step (groupBoundary_only ..) rfl ?_
            refine Only.step (updGroup_only ..) rfl ?_
            refine Only.step (groupActions_only ..) rfl ?_
            exact Only.refl _ _
      · refine OnlyO.next ?_
        exact Only.refl _ _

theorem execTswapEnd_only (p : Nat) (s : State) : OnlyO 0xe0080100000700220135da0 s (execTswapEnd p s) := by
  unfold execTswapEnd
  refine OnlyO.ite ?_ ?_
  · exact OnlyO.fault _ _ _
  · refine OnlyO.next ?_
    refine Only.step (goWaiting_only ..) rfl ?_
    refine Only.step (updPart_only ..) rfl ?_
    exact Only.refl _ _

theorem execBandTableLoadDone_only (p : Nat) (s : State) : OnlyO 0xe0080100000700220335da0 s (execBandTableLoadDone p s) := by
  unfold execBandTableLoadDone
  refine OnlyO.ite ?_ ?_
  · exact OnlyO.fault _ _ _
  · refine OnlyO.ite ?_ ?_
    · dsimp only
      refine OnlyO.next ?_
      refine Only.step (goWaiting_only ..) rfl ?_
      refine Only.step (updPart_only ..) rfl ?_
      refine Only.ite ?_ ?_
      · refine Only.step (boundaryBounds_only ..) rfl ?_
        refine Only.foldl (fun _ _ _ => ?_) ?_
        · refine Only.step (loadTable_only ..) rfl ?_
          assumption
        · exact Only.refl _ _
      · refine Only.foldl (fun _ _ _ => ?_) ?_
        · refine Only.step (loadTable_only ..) rfl ?_
          assumption
        · exact Only.refl _ _
    · refine OnlyO.next ?_
      exact Only.refl _ _

theorem execTempLatchTick_only (t : Nat) (s : State) : OnlyO 0xc0080102000000200a14c80 s (execTempLatchTick t s) := by
  unfold execTempLatchTick
  refine OnlyO.ite ?_ ?_
  · exact OnlyO.fault _ _ _
  · dsimp only
    split
    · refine OnlyO.next ?_
      refine Only.step (latchTile_only ..) rfl ?_
      exact Only.refl _ _
    · refine OnlyO.ite ?_ ?_
      · refine OnlyO.next ?_
        exact Only.refl _ _
      · refine OnlyO.next ?_
        refine Only.step (coldCheck_only ..) rfl ?_
        refine Only.ite ?_ ?_
        · refine Only.step (updPart_only ..) rfl ?_
          refine Only.step (latchTile_only ..) rfl ?_
          exact Only.refl _ _
        · refine Only.step (latchTile_only ..) rfl ?_
          exact Only.refl _ _

theorem nowOrHeld_only {m : Nat} {s0 s : State} {q : Nat} {pre : Option Nat} {e : Eff} (hf : ∀ t r, e = .inr (t, r) → Only m s0 t)
    (w : 0xe0080100000000200014c80 &&& m = 0xe0080100000000200014c80) (h : Only m s0 s) : Only m s0 (nowOrHeld s q pre e) := by
  have v : ∀ a, a &&& 0xe0080100000000200014c80 = a → a &&& m = a := fun a e => by rw [← e, Nat.and_assoc, w]
  unfold nowOrHeld
  refine Only.ite ?_ (finish_only hf (v _ rfl) h)
  split
  · exact Only.step (refuseCmd_only ..) (v _ rfl) h
  · exact Only.step (holdCmd_only ..) (v _ rfl) h

theorem execSeqopen_only (q : Nat) (s : State) : OnlyO 0xe0080100000000200036880 s (execSeqopen q s) := by
  unfold execSeqopen
  refine withCommand_only (fun _ _ => ?_) rfl ?_
  · refine finish_only (fun _ _ h => ?_) rfl ?_
    · refine Only.step (seqopenEff_only (by assumption)) rfl ?_
      exact Only.refl _ _
    · exact Only.refl _ _
  · exact Only.refl _ _

theorem execSeqclose_only (q : Nat) (s : State) : OnlyO 0xe0080100000000200076c80 s (execSeqclose q s) := by
  unfold execSeqclose
  refine withCommand_only (fun _ _ => ?_) rfl ?_
  · dsimp only
    refine nowOrHeld_only (fun _ _ h => ?_) rfl ?_
    · refine Only.step (seqcloseEff_only (by assumption)) rfl ?_
      exact Only.refl _ _
    · exact Only.refl _ _
  · exact Only.refl _ _

theorem pageCmd_only (s : State) (q : Nat) (w : Nat) : Only 0xe0080100000000200074c80 s (pageCmd s q w) := by
  unfold pageCmd
  refine Only.ite ?_ ?_
  · refine Only.step (beginCmd_only ..) rfl ?_
    exact Only.refl _ _
  · refine nowOrHeld_only (fun _ _ h => ?_) rfl ?_
    · refine Only.step (pageEff_only (by assumption)) rfl ?_
      exact Only.refl _ _
    · exact Only.refl _ _

theorem execPalloc_only (q : Nat) (s : State) : OnlyO 0xe0080100000000200076c80 s (execPalloc q s) := by
  unfold execPalloc
  refine withCommand_only (fun _ _ => ?_) rfl ?_
  · refine Only.step (pageCmd_only ..) rfl ?_
    exact Only.refl _ _
  · exact Only.refl _ _

theorem execPfree_only (q : Nat) (s : State) : OnlyO 0xe0080100000000200076c80 s (execPfree q s) := by
  unfold execPfree
  refine withCommand_only (fun _ _ => ?_) rfl ?_
  · refine Only.step (pageCmd_only ..) rfl ?_
    exact Only.refl _ _
  · exact Only.refl _ _

theorem execPtedit_only (q : Nat) (s : State) : OnlyO 0xe0080100000000200076c80 s (execPtedit q s) := by
  unfold execPtedit
  refine withCommand_only (fun _ _ => ?_) rfl ?_
  · refine Only.step (pageCmd_only ..) rfl ?_
    exact Only.refl _ _
  · exact Only.refl _ _

theorem execPshare_only (q : Nat) (s : State) : OnlyO 0xe0080100000000200076c80 s (execPshare q s) := by
  unfold execPshare
  refine withCommand_only (fun _ _ => ?_) rfl ?_
  · refine Only.step (pageCmd_only ..) rfl ?_
    exact Only.refl _ _
  · exact Only.refl _ _

theorem execSparam_only (q : Nat) (s : State) : OnlyO 0xe0080100000000200036880 s (execSparam q s) := by
  unfold execSparam
  refine withCommand_only (fun _ _ => ?_) rfl ?_
  · refine finish_only (fun _ _ h => ?_) rfl ?_
    · refine Only.step (seqParamEff_only (by assumption)) rfl ?_
      exact Only.refl _ _
    · exact Only.refl _ _
  · exact Only.refl _ _

theorem execSkey_only (q : Nat) (s : State) : OnlyO 0xe0080100000000200036880 s (execSkey q s) := by
  unfold execSkey
  refine withCommand_only (fun _ _ => ?_) rfl ?_
  · refine finish_only (fun _ _ h => ?_) rfl ?_
    · refine Only.step (seqParamEff_only (by assumption)) rfl ?_
      exact Only.refl _ _
    · exact Only.refl _ _
  · exact Only.refl _ _

theorem execSsrc_only (q : Nat) (s : State) : OnlyO 0xe0080100000000200036880 s (execSsrc q s) := by
  unfold execSsrc
  refine withCommand_only (fun _ _ => ?_) rfl ?_
  · dsimp only
    refine finish_only (fun _ _ h => ?_) rfl ?_
    · split at h
      · cases h
      · refine Only.step (seqParamEff_only (by assumption)) rfl ?_
        exact Only.refl _ _
    · exact Only.refl _ _
  · exact Only.refl _ _

theorem execXfer_only (q : Nat) (s : State) : OnlyO 0xe00a0100000000387096ca0 s (execXfer q s) := by
  unfold execXfer
  refine withCommand_only (fun _ _ => ?_) rfl ?_
  · dsimp only
    refine Only.ite ?_ ?_
    · split
      · refine Only.step (refuseCmd_only ..) rfl ?_
        exact Only.refl _ _
      · refine Only.step (holdCmd_only ..) rfl ?_
        exact Only.refl _ _
    · refine finish_only (fun _ _ h => ?_) rfl ?_
      · refine Only.step (xferEff_only (by assumption)) rfl ?_
        exact Only.refl _ _
      · exact Only.refl _ _
  · exact Only.refl _ _

theorem stageInto_only {s : State} {p : Nat} {va : Nat} {id : Nat} {g : Golden} {s' : State} {y : List W256} (hq : stageInto s p va id g = .inr (s', y)) : Only 0x20000000000187000020 s s' := by
  unfold stageInto at hq
  dsimp only at hq
  split at hq
  · refine Only.step (ok_only (by assumption)) rfl ?_
    refine Only.set_staged rfl ?_ _
    refine Only.step (addObj_only ..) rfl ?_
    refine Only.step (pvaWrite_only ..) rfl ?_
    refine Only.set_staged rfl ?_ _
    exact Only.refl _ _
  · refine Only.step (ok_only (by assumption)) rfl ?_
    refine Only.step (addObj_only ..) rfl ?_
    refine Only.step (pvaWrite_only ..) rfl ?_
    refine Only.set_staged rfl ?_ _
    exact Only.refl _ _

theorem execStage_only (q : Nat) (s : State) : OnlyO 0xc00a01000000003870168a0 s (execStage q s) := by
  unfold execStage
  refine withCommand_only (fun _ _ => ?_) rfl ?_
  · dsimp only
    refine Only.ite ?_ ?_
    · refine Only.step (refuseCmd_only ..) rfl ?_
      exact Only.refl _ _
    · split
      · refine Only.step (refuseCmd_only ..) rfl ?_
        exact Only.refl _ _
      · split
        · refine Only.step (refuseCmd_only ..) rfl ?_
          exact Only.refl _ _
        · refine Only.ite ?_ ?_
          · refine Only.step (completeCmd_only ..) rfl ?_
            refine Only.step (stageInto_only (by assumption)) rfl ?_
            exact Only.refl _ _
          · refine Only.step (refuseCmd_only ..) rfl ?_
            refine Only.step (stageInto_only (by assumption)) rfl ?_
            exact Only.refl _ _
  · exact Only.refl _ _

theorem execChkptSave_only (q : Nat) (s : State) : OnlyO 0xc00a01000000003870168a0 s (execChkptSave q s) := by
  unfold execChkptSave
  refine withCommand_only (fun _ _ => ?_) rfl ?_
  · refine Only.ite ?_ ?_
    · exact Only.refl _ _
    · refine startCopy_only (fun _ _ h => ?_) rfl ?_
      · refine Only.step (chkptSaveEff_only (by assumption)) rfl ?_
        exact Only.refl _ _
      · exact Only.refl _ _
  · exact Only.refl _ _

theorem execChkptRestore_only (q : Nat) (s : State) : OnlyO 0xc00801000000003870f6ca0 s (execChkptRestore q s) := by
  unfold execChkptRestore
  refine withCommand_only (fun _ _ => ?_) rfl ?_
  · refine Only.ite ?_ ?_
    · dsimp only
      refine Only.ite ?_ ?_
      · split
        · refine Only.step (refuseCmd_only ..) rfl ?_
          exact Only.refl _ _
        · refine Only.step (holdCmd_only ..) rfl ?_
          exact Only.refl _ _
      · refine startCopy_only (fun _ _ h => ?_) rfl ?_
        · refine Only.step (chkptRestoreEff_only (by assumption)) rfl ?_
          exact Only.refl _ _
        · exact Only.refl _ _
    · exact Only.refl _ _
  · exact Only.refl _ _

theorem execDbgrel_only (q : Nat) (s : State) : OnlyO 0xc0080100000000200016880 s (execDbgrel q s) := by
  unfold execDbgrel
  refine withCommand_only (fun _ _ => ?_) rfl ?_
  · dsimp only
    refine Only.ite ?_ ?_
    · refine Only.step (refuseCmd_only ..) rfl ?_
      exact Only.refl _ _
    · refine Only.step (completeCmd_only ..) rfl ?_
      refine Only.set_tiles rfl ?_ _
      exact Only.refl _ _
  · exact Only.refl _ _

theorem execDbgrd_only (q : Nat) (s : State) : OnlyO 0xc008010000000020001e8a0 s (execDbgrd q s) := by
  unfold execDbgrd
  refine withCommand_only (fun _ _ => ?_) rfl ?_
  · dsimp only
    refine Only.ite ?_ ?_
    · refine Only.step (refuseCmd_only ..) rfl ?_
      exact Only.refl _ _
    · refine Only.step (completeCmd_only ..) rfl ?_
      refine Only.step (postDebug_only ..) rfl ?_
      exact Only.refl _ _
  · exact Only.refl _ _

end Sys2Proof.Machine
end

