-- ==== Sys2Proof/Laws/KeepsStepCmds.lean ====
section
/-! SUPPORT. Each operation of Machine/StepCmds.lean keeps: the form of the memories and the bounds of the stores. -/
namespace Sys2Proof.Machine

theorem startStep_keeps (s : State) (p : Nat) (r : StepRun) : Keeps s (startStep s p r) := by
  unfold startStep
  refine Keeps.step (endIfMasked_keeps ..) ?_
  refine Keeps.of_only (reviewStall_only _ _) rfl ?_
  refine Keeps.of_only (setPState_only _ _ _) rfl ?_
  refine Keeps.of_only (updPart_only _ _ _) rfl ?_
  exact Keeps.refl _

theorem groupStep_keeps (s : State) (p : Nat) (prog : Nat) (pay : List Nat) (bs : List SlotB) : Keeps s (groupStep s p prog pay bs) := by
  unfold groupStep
  dsimp only
  refine Keeps.step (startStep_keeps ..) ?_
  refine Keeps.foldl (fun _ _ _ => ?_) ?_
  · refine Keeps.of_only (toRank_only _ _ _ _ _) rfl ?_
    assumption
  · refine Keeps.of_only (updGroup_only _ _ _) rfl ?_
    exact Keeps.refl _

theorem launchGo_keeps (s : State) (p : Nat) (x : StepGo) : Keeps s (launchGo s p x) := by
  unfold launchGo
  dsimp only
  refine Keeps.step (startStep_keeps ..) ?_
  refine Keeps.of_only (updGroup_only _ _ _) rfl ?_
  exact Keeps.refl _

theorem goWaiting_keeps (s : State) (p : Nat) : Keeps s (goWaiting s p) := by
  unfold goWaiting
  split
  · exact Keeps.refl _
  · refine Keeps.ite ?_ ?_
    · refine Keeps.step (launchGo_keeps ..) ?_
      refine Keeps.of_only (updGroup_only _ _ _) rfl ?_
      exact Keeps.refl _
    · exact Keeps.refl _

theorem execStep_keeps (q : Nat) (s : State) : KeepsO s (execStep q s) := by
  unfold execStep
  refine withCommand_keeps (fun _ _ => ?_) ?_
  · dsimp only
    refine Keeps.ite ?_ ?_
    · exact Keeps.refl _
    · split
      · refine Keeps.step (refuseCmd_keeps ..) ?_
        exact Keeps.refl _
      · refine Keeps.ite ?_ ?_
        · refine Keeps.step (groupStep_keeps ..) ?_
          refine Keeps.of_only (beginCmd_only _ _ _) rfl ?_
          exact Keeps.refl _
        · refine Keeps.step (startStep_keeps ..) ?_
          refine Keeps.of_only (beginCmd_only _ _ _) rfl ?_
          exact Keeps.refl _
  · exact Keeps.refl _

theorem publish_keeps (s : State) (p : Nat) (r : StepRun) : Keeps s (publish s p r) := by
  unfold publish
  split
  · exact Keeps.refl _
  · refine Keeps.ite ?_ ?_
    · exact Keeps.refl _
    · dsimp only
      refine Keeps.ite ?_ ?_
      · refine Keeps.of_only (updPart_only _ _ _) rfl ?_
        refine Keeps.foldl (fun _ _ _ => ?_) ?_
        · refine Keeps.ite ?_ ?_
          · assumption
          · split
            · assumption
            · refine Keeps.step (spWrite_keeps ..) ?_
              assumption
        · exact Keeps.refl _
      · split
        · refine Keeps.step (raiseRc_keeps ..) ?_
          refine Keeps.of_only (updPart_only _ _ _) rfl ?_
          refine Keeps.foldl (fun _ _ _ => ?_) ?_
          · refine Keeps.ite ?_ ?_
            · assumption
            · split
              · assumption
              · refine Keeps.step (spWrite_keeps ..) ?_
                assumption
          · exact Keeps.refl _
        · refine Keeps.step (syncWrite_keeps ..) ?_
          refine Keeps.of_only (updPart_only _ _ _) rfl ?_
          refine Keeps.foldl (fun _ _ _ => ?_) ?_
          · refine Keeps.ite ?_ ?_
            · assumption
            · split
              · assumption
              · refine Keeps.step (spWrite_keeps ..) ?_
                assumption
          · exact Keeps.refl _

theorem boundaryLatch_keeps (s : State) (p : Nat) : Keeps s (boundaryLatch s p) := by
  unfold boundaryLatch
  dsimp only
  refine Keeps.ite ?_ ?_
  · refine Keeps.of_only (addObj_only _ _ _ _ _ _) rfl ?_
    refine Keeps.of_only (updPart_only _ _ _) rfl ?_
    refine Keeps.foldl (fun _ _ _ => ?_) ?_
    · refine Keeps.ite ?_ ?_
      · refine Keeps.of_only (loadTable_only _ _) rfl ?_
        assumption
      · assumption
    · refine Keeps.step (applySwap_keeps ..) ?_
      refine Keeps.foldl (fun _ _ _ => ?_) ?_
      · refine Keeps.step (latchTile_keeps ..) ?_
        assumption
      · exact Keeps.refl _
  · refine Keeps.foldl (fun _ _ _ => ?_) ?_
    · refine Keeps.ite ?_ ?_
      · refine Keeps.of_only (loadTable_only _ _) rfl ?_
        assumption
      · assumption
    · refine Keeps.step (applySwap_keeps ..) ?_
      refine Keeps.foldl (fun _ _ _ => ?_) ?_
      · refine Keeps.step (latchTile_keeps ..) ?_
        assumption
      · exact Keeps.refl _

theorem boundaryBounds_keeps (s : State) (p : Nat) : Keeps s (boundaryBounds s p) := by
  unfold boundaryBounds
  dsimp only
  refine Keeps.ite ?_ ?_
  · refine Keeps.of_only (updPart_only _ _ _) rfl ?_
    refine Keeps.step (raise_keeps ..) ?_
    refine Keeps.ite ?_ ?_
    · refine Keeps.of_only (addObj_only _ _ _ _ _ _) rfl ?_
      refine Keeps.foldl (fun _ _ _ => ?_) ?_
      · refine Keeps.of_only (updBank_only _ _ _) rfl ?_
        assumption
      · refine Keeps.of_only (updPart_only _ _ _) rfl ?_
        exact Keeps.refl _
    · refine Keeps.foldl (fun _ _ _ => ?_) ?_
      · refine Keeps.of_only (updBank_only _ _ _) rfl ?_
        assumption
      · refine Keeps.of_only (updPart_only _ _ _) rfl ?_
        exact Keeps.refl _
  · refine Keeps.ite ?_ ?_
    · refine Keeps.of_only (updPart_only _ _ _) rfl ?_
      refine Keeps.step (raise_keeps ..) ?_
      refine Keeps.ite ?_ ?_
      · refine Keeps.of_only (addObj_only _ _ _ _ _ _) rfl ?_
        refine Keeps.foldl (fun _ _ _ => ?_) ?_
        · refine Keeps.of_only (updBank_only _ _ _) rfl ?_
          assumption
        · refine Keeps.of_only (updPart_only _ _ _) rfl ?_
          exact Keeps.refl _
      · refine Keeps.foldl (fun _ _ _ => ?_) ?_
        · refine Keeps.of_only (updBank_only _ _ _) rfl ?_
          assumption
        · refine Keeps.of_only (updPart_only _ _ _) rfl ?_
          exact Keeps.refl _
    · refine Keeps.ite ?_ ?_
      · refine Keeps.of_only (addObj_only _ _ _ _ _ _) rfl ?_
        refine Keeps.foldl (fun _ _ _ => ?_) ?_
        · refine Keeps.of_only (updBank_only _ _ _) rfl ?_
          assumption
        · refine Keeps.of_only (updPart_only _ _ _) rfl ?_
          exact Keeps.refl _
      · refine Keeps.foldl (fun _ _ _ => ?_) ?_
        · refine Keeps.of_only (updBank_only _ _ _) rfl ?_
          assumption
        · refine Keeps.of_only (updPart_only _ _ _) rfl ?_
          exact Keeps.refl _

theorem coldCheck_keeps (s : State) : Keeps s (coldCheck s) := by
  unfold coldCheck
  dsimp only
  refine Keeps.ite ?_ ?_
  · refine Keeps.step (raise_keeps ..) ?_
    refine Keeps.of_only (Only.set_coldRaised (m := 2305843009213693952) rfl (Only.refl _ _) _) rfl ?_
    exact Keeps.refl _
  · refine Keeps.ite ?_ ?_
    · refine Keeps.step (raise_keeps ..) ?_
      refine Keeps.of_only (Only.set_coldRaised (m := 2305843009213693952) rfl (Only.refl _ _) _) rfl ?_
      exact Keeps.refl _
    · exact Keeps.refl _

theorem lowFreeCheck_keeps (s : State) (p : Nat) : Keeps s (lowFreeCheck s p) := by
  unfold lowFreeCheck
  dsimp only
  refine Keeps.of_only (updPart_only _ _ _) rfl ?_
  refine Keeps.ite ?_ ?_
  · refine Keeps.step (raise_keeps ..) ?_
    exact Keeps.refl _
  · exact Keeps.refl _

theorem commitActions_keeps (s : State) (p : Nat) (r : StepRun) : Keeps s (commitActions s p r) := by
  unfold commitActions
  dsimp only
  refine Keeps.step (judgeHeld_keeps ..) ?_
  refine Keeps.of_only (updPart_only _ _ _) rfl ?_
  refine Keeps.foldl (fun _ _ _ => ?_) ?_
  · refine Keeps.of_only (returnSets_only _ _ _) rfl ?_
    assumption
  · refine Keeps.foldl (fun _ _ _ => ?_) ?_
    · refine Keeps.step (commitSlot_keeps ..) ?_
      assumption
    · exact Keeps.refl _

theorem leaveStep_keeps (s : State) (p : Nat) (r : StepRun) : Keeps s (leaveStep s p r) := by
  unfold leaveStep
  dsimp only
  refine Keeps.ite ?_ ?_
  · refine Keeps.step (leaveDisabling_keeps ..) ?_
    refine Keeps.of_only (hubMove_only _ _) rfl ?_
    refine Keeps.step (lowFreeCheck_keeps ..) ?_
    refine Keeps.step (coldCheck_keeps ..) ?_
    refine Keeps.ite ?_ ?_
    · refine Keeps.of_only (latchCheck_only _ _) rfl ?_
      refine Keeps.step (boundaryLatch_keeps ..) ?_
      refine Keeps.step (publish_keeps ..) ?_
      refine Keeps.of_only (dropFills_only _ _) rfl ?_
      exact Keeps.refl _
    · refine Keeps.step (boundaryBounds_keeps ..) ?_
      refine Keeps.of_only (latchCheck_only _ _) rfl ?_
      refine Keeps.step (boundaryLatch_keeps ..) ?_
      refine Keeps.step (publish_keeps ..) ?_
      refine Keeps.of_only (dropFills_only _ _) rfl ?_
      exact Keeps.refl _
  · refine Keeps.of_only (toIdle_only _ _) rfl ?_
    refine Keeps.of_only (hubMove_only _ _) rfl ?_
    refine Keeps.step (lowFreeCheck_keeps ..) ?_
    refine Keeps.step (coldCheck_keeps ..) ?_
    refine Keeps.ite ?_ ?_
    · refine Keeps.of_only (latchCheck_only _ _) rfl ?_
      refine Keeps.step (boundaryLatch_keeps ..) ?_
      refine Keeps.step (publish_keeps ..) ?_
      refine Keeps.of_only (dropFills_only _ _) rfl ?_
      exact Keeps.refl _
    · refine Keeps.step (boundaryBounds_keeps ..) ?_
      refine Keeps.of_only (latchCheck_only _ _) rfl ?_
      refine Keeps.step (boundaryLatch_keeps ..) ?_
      refine Keeps.step (publish_keeps ..) ?_
      refine Keeps.of_only (dropFills_only _ _) rfl ?_
      exact Keeps.refl _

theorem endStep_keeps (s : State) (p : Nat) (r : StepRun) : Keeps s (endStep s p r) := by
  unfold endStep
  dsimp only
  refine Keeps.step (leaveStep_keeps ..) ?_
  refine Keeps.step (completeCmd_keeps ..) ?_
  exact Keeps.refl _

theorem groupActions_keeps (s : State) (p : Nat) (r : StepRun) (n : Nat) : Keeps s (groupActions s p r n) := by
  unfold groupActions
  dsimp only
  refine Keeps.of_only (updGroup_only _ _ _) rfl ?_
  refine Keeps.step (commitActions_keeps ..) ?_
  exact Keeps.refl _

theorem postGroup_keeps (s : State) (p : Nat) (r : StepRun) : Keeps s (postGroup s p r) := by
  unfold postGroup
  dsimp only
  refine Keeps.of_only (toRanks_only _ _ _ _ _) rfl ?_
  refine Keeps.step (endStep_keeps ..) ?_
  refine Keeps.of_only (updGroup_only _ _ _) rfl ?_
  exact Keeps.refl _

theorem groupBoundary_keeps (s : State) (p : Nat) : Keeps s (groupBoundary s p) := by
  unfold groupBoundary
  dsimp only
  split
  · exact Keeps.refl _
  · refine Keeps.ite ?_ ?_
    · exact Keeps.refl _
    · refine Keeps.ite ?_ ?_
      · refine Keeps.of_only (updGroup_only _ _ _) rfl ?_
        refine Keeps.of_only (toRank_only _ _ _ _ _) rfl ?_
        exact Keeps.refl _
      · refine Keeps.step (postGroup_keeps ..) ?_
        exact Keeps.refl _

theorem memberBoundary_keeps (s : State) (p : Nat) (r : StepRun) (n : Nat) : Keeps s (memberBoundary s p r n) := by
  unfold memberBoundary
  dsimp only
  refine Keeps.of_only (toRank_only _ _ _ _ _) rfl ?_
  refine Keeps.foldl (fun _ _ _ => ?_) ?_
  · refine Keeps.of_only (orderEff_only _ _ _) rfl ?_
    assumption
  · refine Keeps.of_only (updGroup_only _ _ _) rfl ?_
    refine Keeps.step (leaveStep_keeps ..) ?_
    refine Keeps.step (groupActions_keeps ..) ?_
    exact Keeps.refl _

theorem execStepBoundary_keeps (p : Nat) (s : State) : KeepsO s (execStepBoundary p s) := by
  unfold execStepBoundary
  refine KeepsO.ite ?_ ?_
  · exact KeepsO.fault _ _
  · split
    · refine KeepsO.next ?_
      exact Keeps.refl _
    · refine KeepsO.ite ?_ ?_
      · split
        · refine KeepsO.next ?_
          refine Keeps.step (endStep_keeps ..) ?_
          refine Keeps.step (commitActions_keeps ..) ?_
          exact Keeps.refl _
        · refine KeepsO.ite ?_ ?_
          · refine KeepsO.next ?_
            refine Keeps.step (memberBoundary_keeps ..) ?_
            exact Keeps.refl _
          · refine KeepsO.next ?_
            refine Keeps.step (groupBoundary_keeps ..) ?_
            refine Keeps.of_only (updGroup_only _ _ _) rfl ?_
            refine Keeps.step (groupActions_keeps ..) ?_
            exact Keeps.refl _
      · refine KeepsO.next ?_
        exact Keeps.refl _

theorem execTswapEnd_keeps (p : Nat) (s : State) : KeepsO s (execTswapEnd p s) := by
  unfold execTswapEnd
  refine KeepsO.ite ?_ ?_
  · exact KeepsO.fault _ _
  · refine KeepsO.next ?_
    refine Keeps.step (goWaiting_keeps ..) ?_
    refine Keeps.of_only (updPart_only _ _ _) rfl ?_
    exact Keeps.refl _

theorem execBandTableLoadDone_keeps (p : Nat) (s : State) : KeepsO s (execBandTableLoadDone p s) := by
  unfold execBandTableLoadDone
  refine KeepsO.ite ?_ ?_
  · exact KeepsO.fault _ _
  · refine KeepsO.ite ?_ ?_
    · dsimp only
      refine KeepsO.next ?_
      refine Keeps.step (goWaiting_keeps ..) ?_
      refine Keeps.of_only (updPart_only _ _ _) rfl ?_
      refine Keeps.ite ?_ ?_
      · refine Keeps.step (boundaryBounds_keeps ..) ?_
        refine Keeps.foldl (fun _ _ _ => ?_) ?_
        · refine Keeps.of_only (loadTable_only _ _) rfl ?_
          assumption
        · exact Keeps.refl _
      · refine Keeps.foldl (fun _ _ _ => ?_) ?_
        · refine Keeps.of_only (loadTable_only _ _) rfl ?_
          assumption
        · exact Keeps.refl _
    · refine KeepsO.next ?_
      exact Keeps.refl _

theorem execTempLatchTick_keeps (t : Nat) (s : State) : KeepsO s (execTempLatchTick t s) := by
  unfold execTempLatchTick
  refine KeepsO.ite ?_ ?_
  · exact KeepsO.fault _ _
  · dsimp only
    split
    · refine KeepsO.next ?_
      refine Keeps.step (latchTile_keeps ..) ?_
      exact Keeps.refl _
    · refine KeepsO.ite ?_ ?_
      · refine KeepsO.next ?_
        exact Keeps.refl _
      · refine KeepsO.next ?_
        refine Keeps.step (coldCheck_keeps ..) ?_
        refine Keeps.ite ?_ ?_
        · refine Keeps.of_only (updPart_only _ _ _) rfl ?_
          refine Keeps.step (latchTile_keeps ..) ?_
          exact Keeps.refl _
        · refine Keeps.step (latchTile_keeps ..) ?_
          exact Keeps.refl _

theorem nowOrHeld_keeps {s0 s : State} {q : Nat} {pre : Option Nat} {e : Eff} (hf : ∀ t r, e = .inr (t, r) → Keeps s0 t)
    (h : Keeps s0 s) : Keeps s0 (nowOrHeld s q pre e) := by
  unfold nowOrHeld
  refine Keeps.ite ?_ (finish_keeps hf h)
  split
  · exact Keeps.step (refuseCmd_keeps ..) h
  · exact Keeps.of_only (holdCmd_only ..) rfl h

theorem execSeqopen_keeps (q : Nat) (s : State) : KeepsO s (execSeqopen q s) := by
  unfold execSeqopen
  refine withCommand_keeps (fun _ _ => ?_) ?_
  · refine finish_keeps (fun _ _ h => ?_) ?_
    · refine Keeps.of_only (seqopenEff_only (by assumption)) rfl ?_
      exact Keeps.refl _
    · exact Keeps.refl _
  · exact Keeps.refl _

theorem execSeqclose_keeps (q : Nat) (s : State) : KeepsO s (execSeqclose q s) := by
  unfold execSeqclose
  refine withCommand_keeps (fun _ _ => ?_) ?_
  · dsimp only
    refine nowOrHeld_keeps (fun _ _ h => ?_) ?_
    · refine Keeps.of_only (seqcloseEff_only (by assumption)) rfl ?_
      exact Keeps.refl _
    · exact Keeps.refl _
  · exact Keeps.refl _

theorem pageCmd_keeps (s : State) (q : Nat) (w : Nat) : Keeps s (pageCmd s q w) := by
  unfold pageCmd
  refine Keeps.ite ?_ ?_
  · refine Keeps.of_only (beginCmd_only _ _ _) rfl ?_
    exact Keeps.refl _
  · refine nowOrHeld_keeps (fun _ _ h => ?_) ?_
    · refine Keeps.of_only (pageEff_only (by assumption)) rfl ?_
      exact Keeps.refl _
    · exact Keeps.refl _

theorem execPalloc_keeps (q : Nat) (s : State) : KeepsO s (execPalloc q s) := by
  unfold execPalloc
  refine withCommand_keeps (fun _ _ => ?_) ?_
  · refine Keeps.step (pageCmd_keeps ..) ?_
    exact Keeps.refl _
  · exact Keeps.refl _

theorem execPfree_keeps (q : Nat) (s : State) : KeepsO s (execPfree q s) := by
  unfold execPfree
  refine withCommand_keeps (fun _ _ => ?_) ?_
  · refine Keeps.step (pageCmd_keeps ..) ?_
    exact Keeps.refl _
  · exact Keeps.refl _

theorem execPtedit_keeps (q : Nat) (s : State) : KeepsO s (execPtedit q s) := by
  unfold execPtedit
  refine withCommand_keeps (fun _ _ => ?_) ?_
  · refine Keeps.step (pageCmd_keeps ..) ?_
    exact Keeps.refl _
  · exact Keeps.refl _

theorem execPshare_keeps (q : Nat) (s : State) : KeepsO s (execPshare q s) := by
  unfold execPshare
  refine withCommand_keeps (fun _ _ => ?_) ?_
  · refine Keeps.step (pageCmd_keeps ..) ?_
    exact Keeps.refl _
  · exact Keeps.refl _

theorem execSparam_keeps (q : Nat) (s : State) : KeepsO s (execSparam q s) := by
  unfold execSparam
  refine withCommand_keeps (fun _ _ => ?_) ?_
  · refine finish_keeps (fun _ _ h => ?_) ?_
    · refine Keeps.of_only (seqParamEff_only (by assumption)) rfl ?_
      exact Keeps.refl _
    · exact Keeps.refl _
  · exact Keeps.refl _

theorem execSkey_keeps (q : Nat) (s : State) : KeepsO s (execSkey q s) := by
  unfold execSkey
  refine withCommand_keeps (fun _ _ => ?_) ?_
  · refine finish_keeps (fun _ _ h => ?_) ?_
    · refine Keeps.of_only (seqParamEff_only (by assumption)) rfl ?_
      exact Keeps.refl _
    · exact Keeps.refl _
  · exact Keeps.refl _

theorem execSsrc_keeps (q : Nat) (s : State) : KeepsO s (execSsrc q s) := by
  unfold execSsrc
  refine withCommand_keeps (fun _ _ => ?_) ?_
  · dsimp only
    refine finish_keeps (fun _ _ h => ?_) ?_
    · split at h
      · cases h
      · refine Keeps.of_only (seqParamEff_only (by assumption)) rfl ?_
        exact Keeps.refl _
    · exact Keeps.refl _
  · exact Keeps.refl _

theorem execXfer_keeps (q : Nat) (s : State) : KeepsO s (execXfer q s) := by
  unfold execXfer
  refine withCommand_keeps (fun _ _ => ?_) ?_
  · dsimp only
    refine Keeps.ite ?_ ?_
    · split
      · refine Keeps.step (refuseCmd_keeps ..) ?_
        exact Keeps.refl _
      · refine Keeps.of_only (holdCmd_only _ _) rfl ?_
        exact Keeps.refl _
    · refine finish_keeps (fun _ _ h => ?_) ?_
      · refine Keeps.step (xferEff_keeps (by assumption)) ?_
        exact Keeps.refl _
      · exact Keeps.refl _
  · exact Keeps.refl _

theorem stageInto_keeps {s : State} {p : Nat} {va : Nat} {id : Nat} {g : Golden} {s' : State} {y : List W256} (hq : stageInto s p va id g = .inr (s', y)) : Keeps s s' := by
  unfold stageInto at hq
  dsimp only at hq
  split at hq
  · refine Keeps.of_only (ok_only (by assumption)) rfl ?_
    refine Keeps.of_only (Only.set_staged (m := 151115727451828646838272) rfl (Only.refl _ _) _) rfl ?_
    refine Keeps.of_only (addObj_only _ _ _ _ _ _) rfl ?_
    refine Keeps.step (pvaWrite_keeps ..) ?_
    refine Keeps.of_only (Only.set_staged (m := 151115727451828646838272) rfl (Only.refl _ _) _) rfl ?_
    exact Keeps.refl _
  · refine Keeps.of_only (ok_only (by assumption)) rfl ?_
    refine Keeps.of_only (addObj_only _ _ _ _ _ _) rfl ?_
    refine Keeps.step (pvaWrite_keeps ..) ?_
    refine Keeps.of_only (Only.set_staged (m := 151115727451828646838272) rfl (Only.refl _ _) _) rfl ?_
    exact Keeps.refl _

theorem execStage_keeps (q : Nat) (s : State) : KeepsO s (execStage q s) := by
  unfold execStage
  refine withCommand_keeps (fun _ _ => ?_) ?_
  · dsimp only
    refine Keeps.ite ?_ ?_
    · refine Keeps.step (refuseCmd_keeps ..) ?_
      exact Keeps.refl _
    · split
      · refine Keeps.step (refuseCmd_keeps ..) ?_
        exact Keeps.refl _
      · split
        · refine Keeps.step (refuseCmd_keeps ..) ?_
          exact Keeps.refl _
        · refine Keeps.ite ?_ ?_
          · refine Keeps.step (completeCmd_keeps ..) ?_
            refine Keeps.step (stageInto_keeps (by assumption)) ?_
            exact Keeps.refl _
          · refine Keeps.step (refuseCmd_keeps ..) ?_
            refine Keeps.step (stageInto_keeps (by assumption)) ?_
            exact Keeps.refl _
  · exact Keeps.refl _

theorem execChkptSave_keeps (q : Nat) (s : State) : KeepsO s (execChkptSave q s) := by
  unfold execChkptSave
  refine withCommand_keeps (fun _ _ => ?_) ?_
  · refine Keeps.ite ?_ ?_
    · exact Keeps.refl _
    · refine startCopy_keeps (fun _ _ h => ?_) ?_
      · refine Keeps.step (chkptSaveEff_keeps (by assumption)) ?_
        exact Keeps.refl _
      · exact Keeps.refl _
  · exact Keeps.refl _

theorem execChkptRestore_keeps (q : Nat) (s : State) : KeepsO s (execChkptRestore q s) := by
  unfold execChkptRestore
  refine withCommand_keeps (fun _ _ => ?_) ?_
  · refine Keeps.ite ?_ ?_
    · dsimp only
      refine Keeps.ite ?_ ?_
      · split
        · refine Keeps.step (refuseCmd_keeps ..) ?_
          exact Keeps.refl _
        · refine Keeps.of_only (holdCmd_only _ _) rfl ?_
          exact Keeps.refl _
      · refine startCopy_keeps (fun _ _ h => ?_) ?_
        · refine Keeps.step (chkptRestoreEff_keeps (by assumption)) ?_
          exact Keeps.refl _
        · exact Keeps.refl _
    · exact Keeps.refl _
  · exact Keeps.refl _

theorem execDbgrel_keeps (q : Nat) (s : State) : KeepsO s (execDbgrel q s) := by
  unfold execDbgrel
  refine withCommand_keeps (fun _ _ => ?_) ?_
  · dsimp only
    refine Keeps.ite ?_ ?_
    · refine Keeps.step (refuseCmd_keeps ..) ?_
      exact Keeps.refl _
    · refine Keeps.step (completeCmd_keeps ..) ?_
      refine Keeps.of_only (Only.set_tiles (m := 8589934592) rfl (Only.refl _ _) _) rfl ?_
      exact Keeps.refl _
  · exact Keeps.refl _

theorem execDbgrd_keeps (q : Nat) (s : State) : KeepsO s (execDbgrd q s) := by
  unfold execDbgrd
  refine withCommand_keeps (fun _ _ => ?_) ?_
  · dsimp only
    refine Keeps.ite ?_ ?_
    · refine Keeps.step (refuseCmd_keeps ..) ?_
      exact Keeps.refl _
    · refine Keeps.step (completeCmd_keeps ..) ?_
      refine Keeps.of_only (postDebug_only _ _ _) rfl ?_
      exact Keeps.refl _
  · exact Keeps.refl _

end Sys2Proof.Machine
end

