-- ==== Sys2Proof/Laws/OnlyBanks.lean ====
section
/-! SUPPORT. What each operation of Machine/Banks.lean can change, at most. -/
namespace Sys2Proof.Machine

theorem startProgram_only (s : State) (k : Nat) (x : BankImage) (op : BankOp) : Only 0x200000 s (startProgram s k x op) := by
  unfold startProgram
  refine Only.step (updBank_only ..) rfl ?_
  exact Only.refl _ _

theorem startCal_only (s : State) (k : Nat) (op : BankOp) : Only 0x200000 s (startCal s k op) := by
  unfold startCal
  dsimp only
  refine Only.step (updBank_only ..) rfl ?_
  exact Only.refl _ _

theorem startRepair_only (s : State) (k : Nat) (x : BankImage) (op : BankOp) : Only 0xc0080100000000200214880 s (startRepair s k x op) := by
  unfold startRepair
  refine Only.step (updBank_only ..) rfl ?_
  refine Only.step (calAbort_only ..) rfl ?_
  exact Only.refl _ _

theorem vpgmRequest_only (s : State) (placer : Bool) (ks : List Nat) : Only 0x400000000 s (vpgmRequest s placer ks) := by
  unfold vpgmRequest
  refine Only.set_vpgmWait rfl ?_ _
  exact Only.refl _ _

theorem armSwap_only (s : State) (p : Nat) (k : Nat) : Only 0x200400 s (armSwap s p k) := by
  unfold armSwap
  refine Only.ite ?_ ?_
  · exact Only.refl _ _
  · refine Only.step (updPart_only ..) rfl ?_
    refine Only.step (updBank_only ..) rfl ?_
    exact Only.refl _ _

theorem disarm_only (s : State) (p : Nat) (k : Nat) : Only 0x200400 s (disarm s p k) := by
  unfold disarm
  refine Only.ite ?_ ?_
  · refine Only.step (updPart_only ..) rfl ?_
    refine Only.step (updBank_only ..) rfl ?_
    exact Only.refl _ _
  · exact Only.refl _ _

theorem retireBank_only (s : State) (k : Nat) : Only 0x800000000000200000 s (retireBank s k) := by
  unfold retireBank
  refine Only.step (kennelRetire_only ..) rfl ?_
  refine Only.step (updBank_only ..) rfl ?_
  exact Only.refl _ _

theorem unstage_only (s : State) (p : Nat) (id : Nat) : Only 0x20000000000000000000 s (unstage s p id) := by
  unfold unstage
  refine Only.set_staged rfl ?_ _
  exact Only.refl _ _

theorem dropBad_only (s : State) (p : Nat) (id : Nat) (x3 : Option Nat) : Only 0x20000000000000000000 s (dropBad s p id x3) := by
  unfold dropBad
  split
  · exact Only.refl _ _
  · refine Only.ite ?_ ?_
    · refine Only.step (unstage_only ..) rfl ?_
      exact Only.refl _ _
    · exact Only.refl _ _

theorem deviceSource_only {s : State} {p : Nat} {id : Nat} {s' : State} {y : (Nat ⊕ BankImage)} (hq : deviceSource s p id = (s', y)) : Only 0x20000000000000000000 s s' := by
  unfold deviceSource at hq
  dsimp only at hq
  split at hq
  · cases hq
    refine Only.step (dropBad_only ..) rfl ?_
    exact Only.refl _ _
  · cases hq
    exact Only.refl _ _
  · cases hq
    exact Only.refl _ _

theorem programSource_only {s : State} {p : Nat} {w : Nat} {s' : State} {y : (Nat ⊕ BankImage)} (hq : programSource s p w = (s', y)) : Only 0x20000000000000000000 s s' := by
  unfold programSource at hq
  dsimp only at hq
  split at hq
  · split at hq
    · cases hq
      exact Only.refl _ _
    · refine Only.step (deviceSource_only (by assumption)) rfl ?_
      exact Only.refl _ _
  · split at hq
    · cases hq
      exact Only.refl _ _
    · cases hq
      exact Only.refl _ _
  · cases hq
    exact Only.refl _ _

theorem noteHost_only (s : State) (k : Nat) : Only 0x200000 s (noteHost s k) := by
  unfold noteHost
  refine Only.step (updBank_only ..) rfl ?_
  refine Only.step (updBank_only ..) rfl ?_
  exact Only.refl _ _

theorem bankCommand_only {m : Nat} {s0 s : State} {q op : Nat} {waits : Bool} {f : State → Nat → List Nat → Sum Nat State}
    (hf : ∀ t w ks u, f t w ks = .inr u → Only m s0 t → Only m s0 u) (w : 0xc0080100000000200216880 &&& m = 0xc0080100000000200216880) (h : Only m s0 s) :
    OnlyO m s0 (bankCommand q op waits f s) := by
  have v : ∀ a, a &&& 0xc0080100000000200216880 = a → a &&& m = a := fun a e => by rw [← e, Nat.and_assoc, w]
  unfold bankCommand
  refine withCommand_only (fun r x => ?_) (v _ rfl) h
  dsimp only
  split
  · exact Only.step (refuseCmd_only ..) (v _ rfl) h
  · split
    · exact Only.step (refuseCmd_only ..) (v _ rfl) h
    · refine Only.ite (Only.step (beginCmd_only ..) (v _ rfl) ?_) (Only.step (completeCmd_only ..) (v _ rfl) ?_) <;>
      · refine Only.foldl (fun _ _ g => Only.step (noteHost_only ..) (v _ rfl) g) ?_
        exact hf _ _ _ _ (by assumption) h

theorem execProgram_only (q : Nat) (s : State) : OnlyO 0xc00a0100000000600216880 s (execProgram q s) := by
  unfold execProgram
  refine bankCommand_only (fun _ _ _ _ h _ => ?_) rfl ?_
  · split at h
    · cases h
    · obtain rfl := Sum.inr.inj h
      refine Only.step (vpgmRequest_only ..) rfl ?_
      refine Only.foldl (fun _ _ _ => ?_) ?_
      · refine Only.step (startProgram_only ..) rfl ?_
        assumption
      · refine Only.step (programSource_only (by assumption)) rfl ?_
        assumption
  · exact Only.refl _ _

theorem execCalibrate_only (q : Nat) (s : State) : OnlyO 0xc0080100000000200216880 s (execCalibrate q s) := by
  unfold execCalibrate
  refine bankCommand_only (fun _ _ _ _ h _ => ?_) rfl ?_
  · obtain rfl := Sum.inr.inj h
    refine Only.foldl (fun _ _ _ => ?_) ?_
    · refine Only.step (startCal_only ..) rfl ?_
      assumption
    · assumption
  · exact Only.refl _ _

theorem execSwap_only (q : Nat) (s : State) : OnlyO 0xc0080100000000200616c80 s (execSwap q s) := by
  have h : OnlyO 0xc0080100000000200616c80 s (bankCommand q 0x42 true (fun s _ ks =>
      if (part s (qPart q)).st = .faulted then .inl 0x0202 else .inr (ks.foldl (armSwap · (qPart q)) s)) s) := by
    refine bankCommand_only (fun _ _ _ _ hq _ => ?_) rfl (Only.refl _ _)
    split at hq
    · cases hq
    · cases hq
      refine Only.foldl (fun _ _ _ => ?_) (by assumption)
      exact Only.step (armSwap_only ..) rfl (by assumption)
  unfold execSwap
  split
  · rename_i t e
    exact OnlyO.next (Only.ite (Only.step (applySwap_only ..) rfl (h t e)) (h t e))
  · exact h

theorem execDisarm_only (q : Nat) (s : State) : OnlyO 0xc0080100000000200216c80 s (execDisarm q s) := by
  unfold execDisarm
  refine bankCommand_only (fun _ _ _ _ h _ => ?_) rfl ?_
  · obtain rfl := Sum.inr.inj h
    refine Only.foldl (fun _ _ _ => ?_) ?_
    · refine Only.step (disarm_only ..) rfl ?_
      assumption
    · assumption
  · exact Only.refl _ _

theorem refreshAll_only {p : Nat} {op : BankOp} {s t : State} {ks : List Nat} {l : List (Nat × BankImage)}
    (h : refreshAll p op s ks l = .inr t) : Only 0xc00a0100000000200214880 s t := by
  induction ks generalizing s l with
  | nil =>
    unfold refreshAll at h
    cases h
    refine Only.foldl (fun _ _ _ => ?_) (Only.refl _ _)
    refine Only.step (startRepair_only ..) rfl ?_
    assumption
  | cons k r ih =>
    unfold refreshAll at h
    split at h
    · cases h
    · split at h
      · cases h
      · refine Only.step (ih h) rfl ?_
        refine Only.step (deviceSource_only (by assumption)) rfl ?_
        exact Only.refl _ _

theorem execRefresh_only (q : Nat) (s : State) : OnlyO 0xc00a0100000000600216880 s (execRefresh q s) := by
  unfold execRefresh
  refine bankCommand_only (fun _ _ _ _ h _ => ?_) rfl ?_
  · split at h
    · cases h
    · obtain rfl := Sum.inr.inj h
      refine Only.step (vpgmRequest_only ..) rfl ?_
      refine Only.step (refreshAll_only (by assumption)) rfl ?_
      assumption
  · exact Only.refl _ _

theorem execRetire_only (q : Nat) (s : State) : OnlyO 0xc0080900000000200216880 s (execRetire q s) := by
  unfold execRetire
  refine bankCommand_only (fun _ _ _ _ h _ => ?_) rfl ?_
  · obtain rfl := Sum.inr.inj h
    refine Only.foldl (fun _ _ _ => ?_) ?_
    · refine Only.step (retireBank_only ..) rfl ?_
      assumption
    · assumption
  · exact Only.refl _ _

theorem execQueryWear_only (q : Nat) (s : State) : OnlyO 0xc0080100000000200016880 s (execQueryWear q s) := by
  unfold execQueryWear
  refine withCommand_only (fun _ _ => ?_) rfl ?_
  · refine Only.ite ?_ ?_
    · exact Only.refl _ _
    · refine Only.step (completeCmd_only ..) rfl ?_
      exact Only.refl _ _
  · exact Only.refl _ _

theorem writeAt_only (s : State) (p : Nat) (va : Nat) (stride : Nat) (l : List (List Sys2Proof.Byte)) : Only 0x187000020 s (writeAt s p va stride l) := by
  unfold writeAt
  refine Only.foldl (fun _ _ _ => ?_) ?_
  · refine Only.step (addObj_only ..) rfl ?_
    refine Only.step (pvaWrite_only ..) rfl ?_
    assumption
  · exact Only.refl _ _

theorem execQueryTable_only (q : Nat) (s : State) : OnlyO 0xc00801000000003870168a0 s (execQueryTable q s) := by
  unfold execQueryTable
  refine withCommand_only (fun _ _ => ?_) rfl ?_
  · refine Only.ite ?_ ?_
    · exact Only.refl _ _
    · dsimp only
      refine Only.step (completeCmd_only ..) rfl ?_
      refine Only.step (writeAt_only ..) rfl ?_
      exact Only.refl _ _
  · exact Only.refl _ _

theorem execQueryColsums_only (q : Nat) (s : State) : OnlyO 0xc00801000000003870168a0 s (execQueryColsums q s) := by
  unfold execQueryColsums
  refine withCommand_only (fun _ _ => ?_) rfl ?_
  · refine Only.ite ?_ ?_
    · exact Only.refl _ _
    · dsimp only
      refine Only.step (completeCmd_only ..) rfl ?_
      refine Only.step (writeAt_only ..) rfl ?_
      exact Only.refl _ _
  · exact Only.refl _ _

theorem openProgram_only (s : State) (k : Nat) : Only 0x800000000000200000 s (openProgram s k) := by
  unfold openProgram
  refine Only.ite ?_ ?_
  · refine Only.step (kennelAdd_only ..) rfl ?_
    refine Only.step (updBank_only ..) rfl ?_
    exact Only.refl _ _
  · exact Only.refl _ _

theorem execVpgmGrant_only (s : State) : OnlyO 0x800000000400200000 s (execVpgmGrant s) := by
  unfold execVpgmGrant
  split
  · refine OnlyO.next ?_
    exact Only.refl _ _
  · refine OnlyO.ite ?_ ?_
    · refine OnlyO.next ?_
      refine Only.foldl (fun _ _ _ => ?_) ?_
      · refine Only.step (openProgram_only ..) rfl ?_
        assumption
      · refine Only.set_vpgmWait rfl ?_ _
        exact Only.refl _ _
    · refine OnlyO.next ?_
      exact Only.refl _ _

theorem countCycle_only (s : State) (k : Nat) (refresh : Bool) : Only 0x100000000000200080 s (countCycle s k refresh) := by
  unfold countCycle
  dsimp only
  refine Only.ite ?_ ?_
  · refine Only.step (raise_only ..) rfl ?_
    refine Only.step (updBank_only ..) rfl ?_
    refine Only.step (updBank_only ..) rfl ?_
    exact Only.refl _ _
  · refine Only.step (updBank_only ..) rfl ?_
    exact Only.refl _ _

theorem closeProgram_only (s : State) (k : Nat) : Only 0x900000000000200080 s (closeProgram s k) := by
  unfold closeProgram
  dsimp only
  refine Only.ite ?_ ?_
  · refine Only.step (kennelAdd_only ..) rfl ?_
    refine Only.step (countCycle_only ..) rfl ?_
    refine Only.step (updBank_only ..) rfl ?_
    exact Only.refl _ _
  · exact Only.refl _ _

theorem closeEntries_only (s : State) : Only 0x900000000000200080 s (closeEntries s) := by
  unfold closeEntries
  refine Only.foldl (fun _ _ _ => ?_) ?_
  · refine Only.step (closeProgram_only ..) rfl ?_
    assumption
  · exact Only.refl _ _

theorem startPlaced_only (w : PlaceTile) (s : State) (k : Nat) : Only 0x60000000000400200000 s (startPlaced w s k) := by
  unfold startPlaced
  split
  · exact Only.refl _ _
  · dsimp only
    refine Only.ite ?_ ?_
    · exact Only.refl _ _
    · refine Only.ite ?_ ?_
      · refine Only.set_jobs rfl ?_ _
        exact Only.refl _ _
      · split
        · refine Only.set_jobs rfl ?_ _
          refine Only.step (deviceSource_only (by assumption)) rfl ?_
          exact Only.refl _ _
        · refine Only.set_jobs rfl ?_ _
          refine Only.step (vpgmRequest_only ..) rfl ?_
          refine Only.step (startProgram_only ..) rfl ?_
          refine Only.step (deviceSource_only (by assumption)) rfl ?_
          exact Only.refl _ _

theorem recalPlaced_only (s : State) (k : Nat) : Only 0x200000 s (recalPlaced s k) := by
  unfold recalPlaced
  refine Only.ite ?_ ?_
  · refine Only.step (startCal_only ..) rfl ?_
    exact Only.refl _ _
  · exact Only.refl _ _

theorem placerPump_only (s : State) : Only 0x60000000000400200000 s (placerPump s) := by
  unfold placerPump
  split
  · exact Only.refl _ _
  · refine Only.ite ?_ ?_
    · exact Only.refl _ _
    · refine Only.foldl (fun _ _ _ => ?_) ?_
      · dsimp only
        refine Only.foldl (fun _ _ _ => ?_) ?_
        · refine Only.step (startPlaced_only ..) rfl ?_
          assumption
        · refine Only.foldl (fun _ _ _ => ?_) ?_
          · refine Only.step (recalPlaced_only ..) rfl ?_
            assumption
          · assumption
      · exact Only.refl _ _

theorem afterVerify_only (s : State) (k : Nat) (op : BankOp) : Only 0x200000 s (afterVerify s k op) := by
  unfold afterVerify
  split
  · refine Only.step (startCal_only ..) rfl ?_
    exact Only.refl _ _
  · exact Only.refl _ _

theorem fitNoted_only (s : State) (k : Nat) : Only 0x200000 s (fitNoted s k) := by
  unfold fitNoted
  dsimp only
  refine Only.step (updBank_only ..) rfl ?_
  refine Only.step (updBank_only ..) rfl ?_
  exact Only.refl _ _

theorem commitTable_only (s : State) (k : Nat) (c : CalTable) : Only 0x200000 s (commitTable s k c) := by
  unfold commitTable
  refine Only.step (updBank_only ..) rfl ?_
  exact Only.refl _ _

theorem residCheck_only (s : State) (k : Nat) (resid : Nat) : Only 0x200000 s (residCheck s k resid) := by
  unfold residCheck
  refine Only.ite ?_ ?_
  · dsimp only
    refine Only.step (updBank_only ..) rfl ?_
    refine Only.step (updBank_only ..) rfl ?_
    exact Only.refl _ _
  · exact Only.refl _ _

theorem execCalFitDone_only (t : Nat) (a : Nat) (b : Nat) (fit : Option Sys2Proof.FitTable) (s : State) : OnlyO 0xc00e0900000000600214980 s (execCalFitDone t a b fit s) := by
  unfold execCalFitDone
  refine OnlyO.ite ?_ ?_
  · exact OnlyO.fault _ _ _
  · dsimp only
    refine OnlyO.ite ?_ ?_
    · refine OnlyO.next ?_
      exact Only.refl _ _
    · split
      · refine OnlyO.next ?_
        refine Only.step (placerPump_only ..) rfl ?_
        refine Only.step (calAbort_only ..) rfl ?_
        refine Only.step (updBank_only ..) rfl ?_
        refine Only.step (kennelEvent_only ..) rfl ?_
        exact Only.refl _ _
      · refine OnlyO.next ?_
        refine Only.step (residCheck_only ..) rfl ?_
        refine Only.step (bankDone_only ..) rfl ?_
        refine Only.ite ?_ ?_
        · refine Only.step (updBank_only ..) rfl ?_
          refine Only.step (fitNoted_only ..) rfl ?_
          refine Only.step (commitTable_only ..) rfl ?_
          exact Only.refl _ _
        · refine Only.step (loadTable_only ..) rfl ?_
          refine Only.step (updBank_only ..) rfl ?_
          refine Only.step (fitNoted_only ..) rfl ?_
          refine Only.step (commitTable_only ..) rfl ?_
          exact Only.refl _ _

theorem execCalTimeout_only (t : Nat) (a : Nat) (b : Nat) (s : State) : OnlyO 0xc00e0100000000600214880 s (execCalTimeout t a b s) := by
  unfold execCalTimeout
  refine OnlyO.ite ?_ ?_
  · exact OnlyO.fault _ _ _
  · refine OnlyO.next ?_
    refine Only.step (placerPump_only ..) rfl ?_
    refine Only.step (calAbort_only ..) rfl ?_
    exact Only.refl _ _

theorem repairEnded_only (s : State) (k : Nat) : Only 0x520 s (repairEnded s k) := by
  unfold repairEnded
  split
  · exact Only.refl _ _
  · refine Only.step (reviewStall_only ..) rfl ?_
    exact Only.refl _ _

theorem repairLost_only (s : State) (k : Nat) (reason : Nat) (cells : Nat) : Only 0xc0080100000000200214da0 s (repairLost s k reason cells) := by
  unfold repairLost
  refine Only.step (repairEnded_only ..) rfl ?_
  refine Only.step (bankDone_only ..) rfl ?_
  refine Only.step (updBank_only ..) rfl ?_
  exact Only.refl _ _

theorem verifyNoted_only (s : State) (k : Nat) (cells : Nat) (slow : Nat) (pulses : Nat) : Only 0x900000000000200180 s (verifyNoted s k cells slow pulses) := by
  unfold verifyNoted
  dsimp only
  refine Only.ite ?_ ?_
  · refine Only.step (updBank_only ..) rfl ?_
    refine Only.step (closeProgram_only ..) rfl ?_
    exact Only.refl _ _
  · refine Only.step (kennelEvent_only ..) rfl ?_
    refine Only.step (updBank_only ..) rfl ?_
    refine Only.step (closeProgram_only ..) rfl ?_
    exact Only.refl _ _

theorem repairVerified_only (s : State) (k : Nat) (cells : Nat) (slow : Nat) (pulses : Nat) : Only 0xc0080900000000200214da0 s (repairVerified s k cells slow pulses) := by
  unfold repairVerified
  dsimp only
  refine Only.ite ?_ ?_
  · refine Only.step (startFit_only ..) rfl ?_
    refine Only.step (verifyNoted_only ..) rfl ?_
    exact Only.refl _ _
  · refine Only.step (repairLost_only ..) rfl ?_
    refine Only.step (verifyNoted_only ..) rfl ?_
    exact Only.refl _ _

theorem execBankVerifyDone_only (t : Nat) (a : Nat) (b : Nat) (cells : Nat) (slow : Nat) (pulses : Nat) (s : State) : OnlyO 0xc00e0900000000600214da0 s (execBankVerifyDone t a b cells slow pulses s) := by
  unfold execBankVerifyDone
  refine OnlyO.ite ?_ ?_
  · exact OnlyO.fault _ _ _
  · dsimp only
    refine OnlyO.ite ?_ ?_
    · refine OnlyO.next ?_
      exact Only.refl _ _
    · refine OnlyO.ite ?_ ?_
      · refine OnlyO.next ?_
        refine Only.step (repairVerified_only ..) rfl ?_
        exact Only.refl _ _
      · refine OnlyO.ite ?_ ?_
        · refine OnlyO.next ?_
          refine Only.step (placerPump_only ..) rfl ?_
          refine Only.step (afterVerify_only ..) rfl ?_
          refine Only.step (bankDone_only ..) rfl ?_
          refine Only.step (updBank_only ..) rfl ?_
          refine Only.step (updBank_only ..) rfl ?_
          refine Only.step (verifyNoted_only ..) rfl ?_
          exact Only.refl _ _
        · refine OnlyO.next ?_
          refine Only.step (bankDone_only ..) rfl ?_
          refine Only.step (updBank_only ..) rfl ?_
          refine Only.step (updBank_only ..) rfl ?_
          refine Only.step (verifyNoted_only ..) rfl ?_
          exact Only.refl _ _

theorem repairFitted_only (s : State) (k : Nat) (fit : Option Sys2Proof.FitTable) : Only 0xc0080900000000200214da0 s (repairFitted s k fit) := by
  unfold repairFitted
  split
  · dsimp only
    refine Only.ite ?_ ?_
    · refine Only.step (startFit_only ..) rfl ?_
      refine Only.step (updBank_only ..) rfl ?_
      refine Only.step (kennelEvent_only ..) rfl ?_
      exact Only.refl _ _
    · refine Only.step (repairLost_only ..) rfl ?_
      refine Only.step (kennelEvent_only ..) rfl ?_
      exact Only.refl _ _
  · dsimp only
    refine Only.step (repairEnded_only ..) rfl ?_
    refine Only.step (residCheck_only ..) rfl ?_
    refine Only.step (bankDone_only ..) rfl ?_
    refine Only.step (loadTable_only ..) rfl ?_
    refine Only.step (updBank_only ..) rfl ?_
    refine Only.step (fitNoted_only ..) rfl ?_
    refine Only.step (commitTable_only ..) rfl ?_
    exact Only.refl _ _

theorem execRepairDone_only (t : Nat) (a : Nat) (b : Nat) (cells : Nat) (slow : Nat) (pulses : Nat) (fit : Option Sys2Proof.FitTable) (s : State) : OnlyO 0xc0080900000000200214da0 s (execRepairDone t a b cells slow pulses fit s) := by
  unfold execRepairDone
  refine OnlyO.ite ?_ ?_
  · exact OnlyO.fault _ _ _
  · dsimp only
    refine OnlyO.ite ?_ ?_
    · refine OnlyO.next ?_
      exact Only.refl _ _
    · refine OnlyO.ite ?_ ?_
      · refine OnlyO.next ?_
        refine Only.step (repairFitted_only ..) rfl ?_
        exact Only.refl _ _
      · refine OnlyO.ite ?_ ?_
        · refine OnlyO.next ?_
          exact Only.refl _ _
        · refine OnlyO.next ?_
          refine Only.ite ?_ ?_
          · refine Only.step (repairFitted_only ..) rfl ?_
            refine Only.step (repairVerified_only ..) rfl ?_
            exact Only.refl _ _
          · refine Only.step (repairVerified_only ..) rfl ?_
            exact Only.refl _ _

theorem interruptBank_only (reason : Nat) (lost : Bool) (s : State) (k : Nat) : Only 0xc0080900000000600214da0 s (interruptBank reason lost s k) := by
  unfold interruptBank
  dsimp only
  split
  · refine Only.step (bankDone_only ..) rfl ?_
    refine Only.step (updBank_only ..) rfl ?_
    refine Only.step (closeProgram_only ..) rfl ?_
    exact Only.refl _ _
  · refine Only.ite ?_ ?_
    · refine Only.step (repairLost_only ..) rfl ?_
      refine Only.step (closeProgram_only ..) rfl ?_
      exact Only.refl _ _
    · refine Only.step (vpgmRequest_only ..) rfl ?_
      refine Only.step (updBank_only ..) rfl ?_
      refine Only.step (closeProgram_only ..) rfl ?_
      exact Only.refl _ _
  · refine Only.ite ?_ ?_
    · exact Only.refl _ _
    · refine Only.step (calAbort_only ..) rfl ?_
      exact Only.refl _ _

theorem interruptBanks_only (s : State) (sel : Nat → Bool) (reason : Nat) (lost : Bool) : Only 0xc0080900000000600214da0 s (interruptBanks s sel reason lost) := by
  unfold interruptBanks
  dsimp only
  refine Only.set_vpgmWait rfl ?_ _
  refine Only.foldl (fun _ _ _ => ?_) ?_
  · refine Only.step (raise_only ..) rfl ?_
    assumption
  · refine Only.foldl (fun _ _ _ => ?_) ?_
    · refine Only.step (interruptBank_only ..) rfl ?_
      assumption
    · exact Only.refl _ _

theorem execDriftProbe_only (t : Nat) (a : Nat) (b : Nat) (codes : List (List (BitVec 12))) (s : State) : OnlyO 0x200000 s (execDriftProbe t a b codes s) := by
  unfold execDriftProbe
  refine OnlyO.ite ?_ ?_
  · exact OnlyO.fault _ _ _
  · dsimp only
    split
    · refine OnlyO.ite ?_ ?_
      · refine OnlyO.next ?_
        refine Only.step (updBank_only ..) rfl ?_
        exact Only.refl _ _
      · refine OnlyO.next ?_
        refine Only.step (updBank_only ..) rfl ?_
        exact Only.refl _ _
    · refine OnlyO.next ?_
      exact Only.refl _ _

theorem reportOverdue_only (s : State) (p : Nat) (k : Nat) : Only 0x100000000000200080 s (reportOverdue s p k) := by
  unfold reportOverdue
  refine Only.ite ?_ ?_
  · exact Only.refl _ _
  · refine Only.step (raise_only ..) rfl ?_
    refine Only.step (updBank_only ..) rfl ?_
    exact Only.refl _ _

theorem planShadow_only (s : State) (p : Nat) (k : Nat) : Only 0xc00a0100000000600614c80 s (planShadow s p k) := by
  unfold planShadow
  dsimp only
  refine Only.ite ?_ ?_
  · exact Only.refl _ _
  · refine Only.ite ?_ ?_
    · refine Only.ite ?_ ?_
      · exact Only.refl _ _
      · refine Only.ite ?_ ?_
        · refine Only.step (applySwap_only ..) rfl ?_
          refine Only.step (armSwap_only ..) rfl ?_
          exact Only.refl _ _
        · refine Only.step (armSwap_only ..) rfl ?_
          exact Only.refl _ _
    · refine Only.ite ?_ ?_
      · refine Only.ite ?_ ?_
        · refine Only.step (updBank_only ..) rfl ?_
          refine Only.step (startCal_only ..) rfl ?_
          exact Only.refl _ _
        · exact Only.refl _ _
      · refine Only.ite ?_ ?_
        · exact Only.refl _ _
        · refine Only.ite ?_ ?_
          · refine Only.step (reportOverdue_only ..) rfl ?_
            exact Only.refl _ _
          · refine Only.ite ?_ ?_
            · exact Only.refl _ _
            · split
              · exact Only.refl _ _
              · split
                · refine Only.step (deviceSource_only (by assumption)) rfl ?_
                  exact Only.refl _ _
                · refine Only.step (vpgmRequest_only ..) rfl ?_
                  refine Only.step (updBank_only ..) rfl ?_
                  refine Only.step (startProgram_only ..) rfl ?_
                  refine Only.step (deviceSource_only (by assumption)) rfl ?_
                  exact Only.refl _ _

theorem planDual_only (s : State) (p : Nat) (k : Nat) : Only 0xc00a0100000000600214880 s (planDual s p k) := by
  unfold planDual
  dsimp only
  refine Only.ite ?_ ?_
  · exact Only.refl _ _
  · refine Only.ite ?_ ?_
    · split
      · exact Only.refl _ _
      · refine Only.step (vpgmRequest_only ..) rfl ?_
        refine Only.step (refreshAll_only (by assumption)) rfl ?_
        exact Only.refl _ _
    · refine Only.ite ?_ ?_
      · refine Only.step (startCal_only ..) rfl ?_
        refine Only.ite ?_ ?_
        · refine Only.step (reportOverdue_only ..) rfl ?_
          exact Only.refl _ _
        · exact Only.refl _ _
      · refine Only.ite ?_ ?_
        · refine Only.step (reportOverdue_only ..) rfl ?_
          exact Only.refl _ _
        · exact Only.refl _ _

theorem planStandby_only (s : State) (p : Nat) (k : Nat) : Only 0x20000000000400200000 s (planStandby s p k) := by
  unfold planStandby
  dsimp only
  refine Only.ite ?_ ?_
  · exact Only.refl _ _
  · refine Only.ite ?_ ?_
    · refine Only.ite ?_ ?_
      · refine Only.step (updBank_only ..) rfl ?_
        refine Only.step (startCal_only ..) rfl ?_
        exact Only.refl _ _
      · exact Only.refl _ _
    · refine Only.ite ?_ ?_
      · split
        · exact Only.refl _ _
        · split
          · refine Only.step (deviceSource_only (by assumption)) rfl ?_
            exact Only.refl _ _
          · refine Only.step (vpgmRequest_only ..) rfl ?_
            refine Only.step (updBank_only ..) rfl ?_
            refine Only.step (startProgram_only ..) rfl ?_
            refine Only.step (deviceSource_only (by assumption)) rfl ?_
            exact Only.refl _ _
      · exact Only.refl _ _

theorem evalBank_only (s : State) (k : Nat) : Only 0xc00a0100000000600614c80 s (evalBank s k) := by
  unfold evalBank
  split
  · exact Only.refl _ _
  · refine Only.ite ?_ ?_
    · refine Only.step (planStandby_only ..) rfl ?_
      exact Only.refl _ _
    · refine Only.ite ?_ ?_
      · exact Only.refl _ _
      · dsimp only
        refine Only.ite ?_ ?_
        · refine Only.step (updBank_only ..) rfl ?_
          refine Only.step (updBank_only ..) rfl ?_
          exact Only.refl _ _
        · refine Only.ite ?_ ?_
          · refine Only.step (planDual_only ..) rfl ?_
            refine Only.step (updBank_only ..) rfl ?_
            refine Only.step (updBank_only ..) rfl ?_
            exact Only.refl _ _
          · refine Only.step (planShadow_only ..) rfl ?_
            refine Only.step (updBank_only ..) rfl ?_
            refine Only.step (updBank_only ..) rfl ?_
            exact Only.refl _ _

theorem execSchedulerEval_only (s : State) : OnlyO 0xc00a0100000000600614c80 s (execSchedulerEval s) := by
  unfold execSchedulerEval
  refine OnlyO.next ?_
  refine Only.foldl (fun _ _ _ => ?_) ?_
  · refine Only.step (evalBank_only ..) rfl ?_
    assumption
  · exact Only.refl _ _

theorem execCaptureDrain_only (t : Nat) (s : State) : OnlyO 0x28000000000 s (execCaptureDrain t s) := by
  unfold execCaptureDrain
  refine OnlyO.ite ?_ ?_
  · exact OnlyO.fault _ _ _
  · split
    · refine OnlyO.next ?_
      exact Only.refl _ _
    · refine OnlyO.ite ?_ ?_
      · refine OnlyO.next ?_
        exact Only.refl _ _
      · refine OnlyO.next ?_
        refine Only.set_capLatch_captures rfl rfl ?_ _ _
        exact Only.refl _ _

theorem execArbitrationStart_only (s : State) : OnlyO 0x20000000000 s (execArbitrationStart s) := by
  unfold execArbitrationStart
  refine OnlyO.ite ?_ ?_
  · refine OnlyO.next ?_
    exact Only.refl _ _
  · split
    · refine OnlyO.next ?_
      exact Only.refl _ _
    · refine OnlyO.next ?_
      refine Only.set_captures rfl ?_ _
      exact Only.refl _ _

theorem arbitrate_only {s : State} {c : Capture} {s' : State} {y : Verdict} (hq : arbitrate s c = (s', y)) : Only 0x20000000000000000000 s s' := by
  unfold arbitrate at hq
  dsimp only at hq
  split at hq
  · cases hq
    exact Only.refl _ _
  · split at hq
    · split at hq
      · cases hq
        exact Only.refl _ _
      · split at hq
        · cases hq
          refine Only.step (unstage_only ..) rfl ?_
          exact Only.refl _ _
        · split at hq
          · cases hq
            refine Only.step (unstage_only ..) rfl ?_
            exact Only.refl _ _
          · cases hq
            refine Only.step (unstage_only ..) rfl ?_
            exact Only.refl _ _
    · split at hq
      · cases hq
        exact Only.refl _ _
      · split at hq
        · cases hq
          exact Only.refl _ _
        · cases hq
          exact Only.refl _ _

theorem verdictBank_only (s : State) (c : Capture) (code : Nat) : Only 0x200000 s (verdictBank s c code) := by
  unfold verdictBank
  dsimp only
  refine Only.ite ?_ ?_
  · exact Only.refl _ _
  · refine Only.step (updBank_only ..) rfl ?_
    exact Only.refl _ _

theorem execArbitrationVerdict_only (id : Nat) (s : State) : OnlyO 0x209000000a0000200180 s (execArbitrationVerdict id s) := by
  unfold execArbitrationVerdict
  split
  · refine OnlyO.next ?_
    exact Only.refl _ _
  · split
    dsimp only
    refine OnlyO.next ?_
    refine Only.step (verdictBank_only ..) rfl ?_
    refine Only.step (raise_only ..) rfl ?_
    refine Only.ite ?_ ?_
    · refine Only.step (kennelEvent_only ..) rfl ?_
      refine Only.step (kennelAdd_only ..) rfl ?_
      refine Only.set_captures_verdicts rfl rfl ?_ _ _
      refine Only.step (arbitrate_only (by assumption)) rfl ?_
      exact Only.refl _ _
    · refine Only.step (kennelAdd_only ..) rfl ?_
      refine Only.set_captures_verdicts rfl rfl ?_ _ _
      refine Only.step (arbitrate_only (by assumption)) rfl ?_
      exact Only.refl _ _

theorem scrubWord_only (t : Nat) (s : State) (e : Nat × Nat) : Only 0x9000000000020001a0 s (scrubWord t s e) := by
  unfold scrubWord
  dsimp only
  refine Only.ite ?_ ?_
  · exact Only.refl _ _
  · refine Only.ite ?_ ?_
    · refine Only.step (kennelCorrected_only ..) rfl ?_
      refine Only.step (addObj_only ..) rfl ?_
      refine Only.set_spErr rfl ?_ _
      exact Only.refl _ _
    · refine Only.step (kennelEvent_only ..) rfl ?_
      refine Only.step (raiseRc_only ..) rfl ?_
      refine Only.step (addObj_only ..) rfl ?_
      refine Only.set_spErr rfl ?_ _
      exact Only.refl _ _

theorem execScrubLine_only (t : Nat) (line : Nat) (conds : List Nat) (s : State) : OnlyO 0x9000000100020001a0 s (execScrubLine t line conds s) := by
  unfold execScrubLine
  refine OnlyO.ite ?_ ?_
  · exact OnlyO.fault _ _ _
  · dsimp only
    refine OnlyO.ite ?_ ?_
    · refine OnlyO.next ?_
      refine Only.step (addObj_only ..) rfl ?_
      split
      · refine Only.ite ?_ ?_
        · refine Only.set_scrubAt rfl ?_ _
          refine Only.foldl (fun _ _ _ => ?_) ?_
          · refine Only.step (scrubWord_only ..) rfl ?_
            assumption
          · exact Only.refl _ _
        · refine Only.foldl (fun _ _ _ => ?_) ?_
          · refine Only.step (scrubWord_only ..) rfl ?_
            assumption
          · exact Only.refl _ _
      · refine Only.step (setObj_only ..) rfl ?_
        refine Only.set_scrubAt rfl ?_ _
        refine Only.ite ?_ ?_
        · refine Only.set_scrubAt rfl ?_ _
          refine Only.foldl (fun _ _ _ => ?_) ?_
          · refine Only.step (scrubWord_only ..) rfl ?_
            assumption
          · exact Only.refl _ _
        · refine Only.foldl (fun _ _ _ => ?_) ?_
          · refine Only.step (scrubWord_only ..) rfl ?_
            assumption
          · exact Only.refl _ _
    · refine OnlyO.next ?_
      refine Only.ite ?_ ?_
      · refine Only.set_scrubAt rfl ?_ _
        refine Only.foldl (fun _ _ _ => ?_) ?_
        · refine Only.step (scrubWord_only ..) rfl ?_
          assumption
        · exact Only.refl _ _
      · refine Only.foldl (fun _ _ _ => ?_) ?_
        · refine Only.step (scrubWord_only ..) rfl ?_
          assumption
        · exact Only.refl _ _

end Sys2Proof.Machine
end

