-- ==== Sys2Proof/Laws/KeepsBanks.lean ====
section
/-! SUPPORT. Each operation of Machine/Banks.lean keeps: the form of the memories and the bounds of the stores. -/
namespace Sys2Proof.Machine

theorem startRepair_keeps (s : State) (k : Nat) (x : BankImage) (op : BankOp) : Keeps s (startRepair s k x op) := by
  unfold startRepair
  refine Keeps.of_only (updBank_only _ _ _) rfl ?_
  refine Keeps.step (calAbort_keeps ..) ?_
  exact Keeps.refl _

theorem bankCommand_keeps {s0 s : State} {q op : Nat} {waits : Bool} {f : State → Nat → List Nat → Sum Nat State}
    (hf : ∀ t w ks u, f t w ks = .inr u → Keeps s0 t → Keeps s0 u) (h : Keeps s0 s) :
    KeepsO s0 (bankCommand q op waits f s) := by
  unfold bankCommand
  refine withCommand_keeps (fun r x => ?_) h
  dsimp only
  split
  · exact Keeps.step (refuseCmd_keeps ..) h
  · split
    · exact Keeps.step (refuseCmd_keeps ..) h
    · refine Keeps.ite (Keeps.of_only (beginCmd_only ..) rfl ?_) (Keeps.step (completeCmd_keeps ..) ?_) <;>
      · refine Keeps.foldl (fun _ _ g => Keeps.of_only (noteHost_only ..) rfl g) ?_
        exact hf _ _ _ _ (by assumption) h

theorem execProgram_keeps (q : Nat) (s : State) : KeepsO s (execProgram q s) := by
  unfold execProgram
  refine bankCommand_keeps (fun _ _ _ _ h _ => ?_) ?_
  · split at h
    · cases h
    · obtain rfl := Sum.inr.inj h
      refine Keeps.of_only (vpgmRequest_only _ _ _) rfl ?_
      refine Keeps.foldl (fun _ _ _ => ?_) ?_
      · refine Keeps.of_only (startProgram_only _ _ _ _) rfl ?_
        assumption
      · refine Keeps.of_only (programSource_only (by assumption)) rfl ?_
        assumption
  · exact Keeps.refl _

theorem execCalibrate_keeps (q : Nat) (s : State) : KeepsO s (execCalibrate q s) := by
  unfold execCalibrate
  refine bankCommand_keeps (fun _ _ _ _ h _ => ?_) ?_
  · obtain rfl := Sum.inr.inj h
    refine Keeps.foldl (fun _ _ _ => ?_) ?_
    · refine Keeps.of_only (startCal_only _ _ _) rfl ?_
      assumption
    · assumption
  · exact Keeps.refl _

theorem execSwap_keeps (q : Nat) (s : State) : KeepsO s (execSwap q s) := by
  have h : KeepsO s (bankCommand q 0x42 true (fun s _ ks =>
      if (part s (qPart q)).st = .faulted then .inl 0x0202 else .inr (ks.foldl (armSwap · (qPart q)) s)) s) := by
    refine bankCommand_keeps (fun _ _ _ _ hq _ => ?_) (Keeps.refl _)
    split at hq
    · cases hq
    · cases hq
      refine Keeps.foldl (fun _ _ _ => ?_) (by assumption)
      exact Keeps.of_only (armSwap_only ..) rfl (by assumption)
  unfold execSwap
  split
  · rename_i t e
    exact KeepsO.next (Keeps.ite (Keeps.step (applySwap_keeps ..) (h.next_good t e)) (h.next_good t e))
  · exact h

theorem execDisarm_keeps (q : Nat) (s : State) : KeepsO s (execDisarm q s) := by
  unfold execDisarm
  refine bankCommand_keeps (fun _ _ _ _ h _ => ?_) ?_
  · obtain rfl := Sum.inr.inj h
    refine Keeps.foldl (fun _ _ _ => ?_) ?_
    · refine Keeps.of_only (disarm_only _ _ _) rfl ?_
      assumption
    · assumption
  · exact Keeps.refl _

theorem refreshAll_keeps {p : Nat} {op : BankOp} {s t : State} {ks : List Nat} {l : List (Nat × BankImage)}
    (h : refreshAll p op s ks l = .inr t) : Keeps s t := by
  induction ks generalizing s l with
  | nil =>
    unfold refreshAll at h
    cases h
    refine Keeps.foldl (fun _ _ _ => ?_) (Keeps.refl _)
    refine Keeps.step (startRepair_keeps ..) ?_
    assumption
  | cons k r ih =>
    unfold refreshAll at h
    split at h
    · cases h
    · split at h
      · cases h
      · refine Keeps.step (ih h) ?_
        refine Keeps.of_only (deviceSource_only (by assumption)) rfl ?_
        exact Keeps.refl _

theorem execRefresh_keeps (q : Nat) (s : State) : KeepsO s (execRefresh q s) := by
  unfold execRefresh
  refine bankCommand_keeps (fun _ _ _ _ h _ => ?_) ?_
  · split at h
    · cases h
    · obtain rfl := Sum.inr.inj h
      refine Keeps.of_only (vpgmRequest_only _ _ _) rfl ?_
      refine Keeps.step (refreshAll_keeps (by assumption)) ?_
      assumption
  · exact Keeps.refl _

theorem execRetire_keeps (q : Nat) (s : State) : KeepsO s (execRetire q s) := by
  unfold execRetire
  refine bankCommand_keeps (fun _ _ _ _ h _ => ?_) ?_
  · obtain rfl := Sum.inr.inj h
    refine Keeps.foldl (fun _ _ _ => ?_) ?_
    · refine Keeps.of_only (retireBank_only _ _) rfl ?_
      assumption
    · assumption
  · exact Keeps.refl _

theorem execQueryWear_keeps (q : Nat) (s : State) : KeepsO s (execQueryWear q s) := by
  unfold execQueryWear
  refine withCommand_keeps (fun _ _ => ?_) ?_
  · refine Keeps.ite ?_ ?_
    · exact Keeps.refl _
    · refine Keeps.step (completeCmd_keeps ..) ?_
      exact Keeps.refl _
  · exact Keeps.refl _

theorem writeAt_keeps (s : State) (p : Nat) (va : Nat) (stride : Nat) (l : List (List Sys2Proof.Byte)) : Keeps s (writeAt s p va stride l) := by
  unfold writeAt
  refine Keeps.foldl (fun _ _ _ => ?_) ?_
  · refine Keeps.of_only (addObj_only _ _ _ _ _ _) rfl ?_
    refine Keeps.step (pvaWrite_keeps ..) ?_
    assumption
  · exact Keeps.refl _

theorem execQueryTable_keeps (q : Nat) (s : State) : KeepsO s (execQueryTable q s) := by
  unfold execQueryTable
  refine withCommand_keeps (fun _ _ => ?_) ?_
  · refine Keeps.ite ?_ ?_
    · exact Keeps.refl _
    · dsimp only
      refine Keeps.step (completeCmd_keeps ..) ?_
      refine Keeps.step (writeAt_keeps ..) ?_
      exact Keeps.refl _
  · exact Keeps.refl _

theorem execQueryColsums_keeps (q : Nat) (s : State) : KeepsO s (execQueryColsums q s) := by
  unfold execQueryColsums
  refine withCommand_keeps (fun _ _ => ?_) ?_
  · refine Keeps.ite ?_ ?_
    · exact Keeps.refl _
    · dsimp only
      refine Keeps.step (completeCmd_keeps ..) ?_
      refine Keeps.step (writeAt_keeps ..) ?_
      exact Keeps.refl _
  · exact Keeps.refl _

theorem countCycle_keeps (s : State) (k : Nat) (refresh : Bool) : Keeps s (countCycle s k refresh) := by
  unfold countCycle
  dsimp only
  refine Keeps.ite ?_ ?_
  · refine Keeps.step (raise_keeps ..) ?_
    refine Keeps.of_only (updBank_only _ _ _) rfl ?_
    refine Keeps.of_only (updBank_only _ _ _) rfl ?_
    exact Keeps.refl _
  · refine Keeps.of_only (updBank_only _ _ _) rfl ?_
    exact Keeps.refl _

theorem closeProgram_keeps (s : State) (k : Nat) : Keeps s (closeProgram s k) := by
  unfold closeProgram
  dsimp only
  refine Keeps.ite ?_ ?_
  · refine Keeps.of_only (kennelAdd_only _ _) rfl ?_
    refine Keeps.step (countCycle_keeps ..) ?_
    refine Keeps.of_only (updBank_only _ _ _) rfl ?_
    exact Keeps.refl _
  · exact Keeps.refl _

theorem closeEntries_keeps (s : State) : Keeps s (closeEntries s) := by
  unfold closeEntries
  refine Keeps.foldl (fun _ _ _ => ?_) ?_
  · refine Keeps.step (closeProgram_keeps ..) ?_
    assumption
  · exact Keeps.refl _

theorem execCalFitDone_keeps (t : Nat) (a : Nat) (b : Nat) (fit : Option Sys2Proof.FitTable) (s : State) : KeepsO s (execCalFitDone t a b fit s) := by
  unfold execCalFitDone
  refine KeepsO.ite ?_ ?_
  · exact KeepsO.fault _ _
  · dsimp only
    refine KeepsO.ite ?_ ?_
    · refine KeepsO.next ?_
      exact Keeps.refl _
    · split
      · refine KeepsO.next ?_
        refine Keeps.of_only (placerPump_only _) rfl ?_
        refine Keeps.step (calAbort_keeps ..) ?_
        refine Keeps.of_only (updBank_only _ _ _) rfl ?_
        refine Keeps.step (kennelEvent_keeps ..) ?_
        exact Keeps.refl _
      · refine KeepsO.next ?_
        refine Keeps.of_only (residCheck_only _ _ _) rfl ?_
        refine Keeps.step (bankDone_keeps ..) ?_
        refine Keeps.ite ?_ ?_
        · refine Keeps.of_only (updBank_only _ _ _) rfl ?_
          refine Keeps.of_only (fitNoted_only _ _) rfl ?_
          refine Keeps.of_only (commitTable_only _ _ _) rfl ?_
          exact Keeps.refl _
        · refine Keeps.of_only (loadTable_only _ _) rfl ?_
          refine Keeps.of_only (updBank_only _ _ _) rfl ?_
          refine Keeps.of_only (fitNoted_only _ _) rfl ?_
          refine Keeps.of_only (commitTable_only _ _ _) rfl ?_
          exact Keeps.refl _

theorem execCalTimeout_keeps (t : Nat) (a : Nat) (b : Nat) (s : State) : KeepsO s (execCalTimeout t a b s) := by
  unfold execCalTimeout
  refine KeepsO.ite ?_ ?_
  · exact KeepsO.fault _ _
  · refine KeepsO.next ?_
    refine Keeps.of_only (placerPump_only _) rfl ?_
    refine Keeps.step (calAbort_keeps ..) ?_
    exact Keeps.refl _

theorem repairLost_keeps (s : State) (k : Nat) (reason : Nat) (cells : Nat) : Keeps s (repairLost s k reason cells) := by
  unfold repairLost
  refine Keeps.of_only (repairEnded_only _ _) rfl ?_
  refine Keeps.step (bankDone_keeps ..) ?_
  refine Keeps.of_only (updBank_only _ _ _) rfl ?_
  exact Keeps.refl _

theorem verifyNoted_keeps (s : State) (k : Nat) (cells : Nat) (slow : Nat) (pulses : Nat) : Keeps s (verifyNoted s k cells slow pulses) := by
  unfold verifyNoted
  dsimp only
  refine Keeps.ite ?_ ?_
  · refine Keeps.of_only (updBank_only _ _ _) rfl ?_
    refine Keeps.step (closeProgram_keeps ..) ?_
    exact Keeps.refl _
  · refine Keeps.step (kennelEvent_keeps ..) ?_
    refine Keeps.of_only (updBank_only _ _ _) rfl ?_
    refine Keeps.step (closeProgram_keeps ..) ?_
    exact Keeps.refl _

theorem repairVerified_keeps (s : State) (k : Nat) (cells : Nat) (slow : Nat) (pulses : Nat) : Keeps s (repairVerified s k cells slow pulses) := by
  unfold repairVerified
  dsimp only
  refine Keeps.ite ?_ ?_
  · refine Keeps.of_only (startFit_only _ _) rfl ?_
    refine Keeps.step (verifyNoted_keeps ..) ?_
    exact Keeps.refl _
  · refine Keeps.step (repairLost_keeps ..) ?_
    refine Keeps.step (verifyNoted_keeps ..) ?_
    exact Keeps.refl _

theorem execBankVerifyDone_keeps (t : Nat) (a : Nat) (b : Nat) (cells : Nat) (slow : Nat) (pulses : Nat) (s : State) : KeepsO s (execBankVerifyDone t a b cells slow pulses s) := by
  unfold execBankVerifyDone
  refine KeepsO.ite ?_ ?_
  · exact KeepsO.fault _ _
  · dsimp only
    refine KeepsO.ite ?_ ?_
    · refine KeepsO.next ?_
      exact Keeps.refl _
    · refine KeepsO.ite ?_ ?_
      · refine KeepsO.next ?_
        refine Keeps.step (repairVerified_keeps ..) ?_
        exact Keeps.refl _
      · refine KeepsO.ite ?_ ?_
        · refine KeepsO.next ?_
          refine Keeps.of_only (placerPump_only _) rfl ?_
          refine Keeps.of_only (afterVerify_only _ _ _) rfl ?_
          refine Keeps.step (bankDone_keeps ..) ?_
          refine Keeps.of_only (updBank_only _ _ _) rfl ?_
          refine Keeps.of_only (updBank_only _ _ _) rfl ?_
          refine Keeps.step (verifyNoted_keeps ..) ?_
          exact Keeps.refl _
        · refine KeepsO.next ?_
          refine Keeps.step (bankDone_keeps ..) ?_
          refine Keeps.of_only (updBank_only _ _ _) rfl ?_
          refine Keeps.of_only (updBank_only _ _ _) rfl ?_
          refine Keeps.step (verifyNoted_keeps ..) ?_
          exact Keeps.refl _

theorem repairFitted_keeps (s : State) (k : Nat) (fit : Option Sys2Proof.FitTable) : Keeps s (repairFitted s k fit) := by
  unfold repairFitted
  split
  · dsimp only
    refine Keeps.ite ?_ ?_
    · refine Keeps.of_only (startFit_only _ _) rfl ?_
      refine Keeps.of_only (updBank_only _ _ _) rfl ?_
      refine Keeps.step (kennelEvent_keeps ..) ?_
      exact Keeps.refl _
    · refine Keeps.step (repairLost_keeps ..) ?_
      refine Keeps.step (kennelEvent_keeps ..) ?_
      exact Keeps.refl _
  · dsimp only
    refine Keeps.of_only (repairEnded_only _ _) rfl ?_
    refine Keeps.of_only (residCheck_only _ _ _) rfl ?_
    refine Keeps.step (bankDone_keeps ..) ?_
    refine Keeps.of_only (loadTable_only _ _) rfl ?_
    refine Keeps.of_only (updBank_only _ _ _) rfl ?_
    refine Keeps.of_only (fitNoted_only _ _) rfl ?_
    refine Keeps.of_only (commitTable_only _ _ _) rfl ?_
    exact Keeps.refl _

theorem execRepairDone_keeps (t : Nat) (a : Nat) (b : Nat) (cells : Nat) (slow : Nat) (pulses : Nat) (fit : Option Sys2Proof.FitTable) (s : State) : KeepsO s (execRepairDone t a b cells slow pulses fit s) := by
  unfold execRepairDone
  refine KeepsO.ite ?_ ?_
  · exact KeepsO.fault _ _
  · dsimp only
    refine KeepsO.ite ?_ ?_
    · refine KeepsO.next ?_
      exact Keeps.refl _
    · refine KeepsO.ite ?_ ?_
      · refine KeepsO.next ?_
        refine Keeps.step (repairFitted_keeps ..) ?_
        exact Keeps.refl _
      · refine KeepsO.ite ?_ ?_
        · refine KeepsO.next ?_
          exact Keeps.refl _
        · refine KeepsO.next ?_
          refine Keeps.ite ?_ ?_
          · refine Keeps.step (repairFitted_keeps ..) ?_
            refine Keeps.step (repairVerified_keeps ..) ?_
            exact Keeps.refl _
          · refine Keeps.step (repairVerified_keeps ..) ?_
            exact Keeps.refl _

theorem interruptBank_keeps (reason : Nat) (lost : Bool) (s : State) (k : Nat) : Keeps s (interruptBank reason lost s k) := by
  unfold interruptBank
  dsimp only
  split
  · refine Keeps.step (bankDone_keeps ..) ?_
    refine Keeps.of_only (updBank_only _ _ _) rfl ?_
    refine Keeps.step (closeProgram_keeps ..) ?_
    exact Keeps.refl _
  · refine Keeps.ite ?_ ?_
    · refine Keeps.step (repairLost_keeps ..) ?_
      refine Keeps.step (closeProgram_keeps ..) ?_
      exact Keeps.refl _
    · refine Keeps.of_only (vpgmRequest_only _ _ _) rfl ?_
      refine Keeps.of_only (updBank_only _ _ _) rfl ?_
      refine Keeps.step (closeProgram_keeps ..) ?_
      exact Keeps.refl _
  · refine Keeps.ite ?_ ?_
    · exact Keeps.refl _
    · refine Keeps.step (calAbort_keeps ..) ?_
      exact Keeps.refl _

theorem interruptBanks_keeps (s : State) (sel : Nat → Bool) (reason : Nat) (lost : Bool) : Keeps s (interruptBanks s sel reason lost) := by
  unfold interruptBanks
  dsimp only
  refine Keeps.of_only (Only.set_vpgmWait (m := 17179869184) rfl (Only.refl _ _) _) rfl ?_
  refine Keeps.foldl (fun _ _ _ => ?_) ?_
  · refine Keeps.step (raise_keeps ..) ?_
    assumption
  · refine Keeps.foldl (fun _ _ _ => ?_) ?_
    · refine Keeps.step (interruptBank_keeps ..) ?_
      assumption
    · exact Keeps.refl _

theorem reportOverdue_keeps (s : State) (p : Nat) (k : Nat) : Keeps s (reportOverdue s p k) := by
  unfold reportOverdue
  refine Keeps.ite ?_ ?_
  · exact Keeps.refl _
  · refine Keeps.step (raise_keeps ..) ?_
    refine Keeps.of_only (updBank_only _ _ _) rfl ?_
    exact Keeps.refl _

theorem planShadow_keeps (s : State) (p : Nat) (k : Nat) : Keeps s (planShadow s p k) := by
  unfold planShadow
  dsimp only
  refine Keeps.ite ?_ ?_
  · exact Keeps.refl _
  · refine Keeps.ite ?_ ?_
    · refine Keeps.ite ?_ ?_
      · exact Keeps.refl _
      · refine Keeps.ite ?_ ?_
        · refine Keeps.step (applySwap_keeps ..) ?_
          refine Keeps.of_only (armSwap_only _ _ _) rfl ?_
          exact Keeps.refl _
        · refine Keeps.of_only (armSwap_only _ _ _) rfl ?_
          exact Keeps.refl _
    · refine Keeps.ite ?_ ?_
      · refine Keeps.ite ?_ ?_
        · refine Keeps.of_only (updBank_only _ _ _) rfl ?_
          refine Keeps.of_only (startCal_only _ _ _) rfl ?_
          exact Keeps.refl _
        · exact Keeps.refl _
      · refine Keeps.ite ?_ ?_
        · exact Keeps.refl _
        · refine Keeps.ite ?_ ?_
          · refine Keeps.step (reportOverdue_keeps ..) ?_
            exact Keeps.refl _
          · refine Keeps.ite ?_ ?_
            · exact Keeps.refl _
            · split
              · exact Keeps.refl _
              · split
                · refine Keeps.of_only (deviceSource_only (by assumption)) rfl ?_
                  exact Keeps.refl _
                · refine Keeps.of_only (vpgmRequest_only _ _ _) rfl ?_
                  refine Keeps.of_only (updBank_only _ _ _) rfl ?_
                  refine Keeps.of_only (startProgram_only _ _ _ _) rfl ?_
                  refine Keeps.of_only (deviceSource_only (by assumption)) rfl ?_
                  exact Keeps.refl _

theorem planDual_keeps (s : State) (p : Nat) (k : Nat) : Keeps s (planDual s p k) := by
  unfold planDual
  dsimp only
  refine Keeps.ite ?_ ?_
  · exact Keeps.refl _
  · refine Keeps.ite ?_ ?_
    · split
      · exact Keeps.refl _
      · refine Keeps.of_only (vpgmRequest_only _ _ _) rfl ?_
        refine Keeps.step (refreshAll_keeps (by assumption)) ?_
        exact Keeps.refl _
    · refine Keeps.ite ?_ ?_
      · refine Keeps.of_only (startCal_only _ _ _) rfl ?_
        refine Keeps.ite ?_ ?_
        · refine Keeps.step (reportOverdue_keeps ..) ?_
          exact Keeps.refl _
        · exact Keeps.refl _
      · refine Keeps.ite ?_ ?_
        · refine Keeps.step (reportOverdue_keeps ..) ?_
          exact Keeps.refl _
        · exact Keeps.refl _

theorem evalBank_keeps (s : State) (k : Nat) : Keeps s (evalBank s k) := by
  unfold evalBank
  split
  · exact Keeps.refl _
  · refine Keeps.ite ?_ ?_
    · refine Keeps.of_only (planStandby_only _ _ _) rfl ?_
      exact Keeps.refl _
    · refine Keeps.ite ?_ ?_
      · exact Keeps.refl _
      · dsimp only
        refine Keeps.ite ?_ ?_
        · refine Keeps.of_only (updBank_only _ _ _) rfl ?_
          refine Keeps.of_only (updBank_only _ _ _) rfl ?_
          exact Keeps.refl _
        · refine Keeps.ite ?_ ?_
          · refine Keeps.step (planDual_keeps ..) ?_
            refine Keeps.of_only (updBank_only _ _ _) rfl ?_
            refine Keeps.of_only (updBank_only _ _ _) rfl ?_
            exact Keeps.refl _
          · refine Keeps.step (planShadow_keeps ..) ?_
            refine Keeps.of_only (updBank_only _ _ _) rfl ?_
            refine Keeps.of_only (updBank_only _ _ _) rfl ?_
            exact Keeps.refl _

theorem execSchedulerEval_keeps (s : State) : KeepsO s (execSchedulerEval s) := by
  unfold execSchedulerEval
  refine KeepsO.next ?_
  refine Keeps.foldl (fun _ _ _ => ?_) ?_
  · refine Keeps.step (evalBank_keeps ..) ?_
    assumption
  · exact Keeps.refl _

theorem execCaptureDrain_keeps (t : Nat) (s : State) : KeepsO s (execCaptureDrain t s) := by
  unfold execCaptureDrain
  refine KeepsO.ite (KeepsO.fault _ _) ?_
  split
  · exact KeepsO.next (Keeps.refl _)
  · split
    · exact KeepsO.next (Keeps.refl _)
    · refine KeepsO.next <| .mk fun k => ?_
      refine { k with captures := ?_ }
      show (s.captures ++ [_]).length ≤ 64
      simp only [List.length_append, List.length_singleton]
      omega

theorem execArbitrationStart_keeps (s : State) : KeepsO s (execArbitrationStart s) := by
  unfold execArbitrationStart
  refine KeepsO.ite (KeepsO.next (Keeps.refl _)) ?_
  split
  · exact KeepsO.next (Keeps.refl _)
  · refine KeepsO.next <| .mk fun k => ?_
    refine { k with captures := ?_ }
    show (s.captures.map _).length ≤ 64
    simpa only [List.length_map] using k.captures

theorem newest_bound (m : FMap Nat) (id x : Nat) (h : m.length ≤ 256) : ((FMap.set m id x).drop (m.length + 1 - 256)).length ≤ 256 := by
  have := FMap.length_set (m := m) (k := id) (v := x)
  rw [List.length_drop]
  omega

theorem execArbitrationVerdict_keeps (id : Nat) (s : State) : KeepsO s (execArbitrationVerdict id s) := by
  unfold execArbitrationVerdict
  split
  · exact KeepsO.next (Keeps.refl _)
  · rename_i c _
    have key : ∀ t x, Keeps s t → Keeps s { t with
        captures := t.captures.filter fun y => y.id != id, verdicts := (FMap.set t.verdicts id x).drop (t.verdicts.length + 1 - 256) } := by
      intro t x h
      refine .mk fun k => ?_
      have k := h.good k
      refine ⟨k.sp, k.hbm, k.acc, k.sync, k.log, k.uploads, ?_, ?_⟩
      · exact Nat.le_trans (List.length_filter_le ..) k.captures
      · dsimp only
        exact newest_bound t.verdicts id x k.verdicts
    dsimp only
    refine KeepsO.next ?_
    refine Keeps.of_only (verdictBank_only ..) rfl ?_
    refine Keeps.step (raise_keeps ..) ?_
    have a : Keeps s (arbitrate s c).1 := by
      refine Keeps.of_only (arbitrate_only (y := _) rfl) rfl ?_
      exact Keeps.refl _
    have g := fun x => key (arbitrate s c).1 x a
    refine Keeps.ite (Keeps.step (kennelEvent_keeps ..) ?_) ?_ <;> exact Keeps.of_only (kennelAdd_only ..) rfl (g _)

theorem scrubWord_keeps (t : Nat) (s : State) (e : Nat × Nat) : Keeps s (scrubWord t s e) := by
  unfold scrubWord
  dsimp only
  refine Keeps.ite ?_ ?_
  · exact Keeps.refl _
  · refine Keeps.ite ?_ ?_
    · refine Keeps.of_only (kennelCorrected_only _ _ _) rfl ?_
      refine Keeps.of_only (addObj_only _ _ _ _ _ _) rfl ?_
      refine Keeps.of_only (Only.set_spErr (m := 33554432) rfl (Only.refl _ _) _) rfl ?_
      exact Keeps.refl _
    · refine Keeps.step (kennelEvent_keeps ..) ?_
      refine Keeps.step (raiseRc_keeps ..) ?_
      refine Keeps.of_only (addObj_only _ _ _ _ _ _) rfl ?_
      refine Keeps.of_only (Only.set_spErr (m := 33554432) rfl (Only.refl _ _) _) rfl ?_
      exact Keeps.refl _

theorem execScrubLine_keeps (t : Nat) (line : Nat) (conds : List Nat) (s : State) : KeepsO s (execScrubLine t line conds s) := by
  unfold execScrubLine
  refine KeepsO.ite ?_ ?_
  · exact KeepsO.fault _ _
  · dsimp only
    refine KeepsO.ite ?_ ?_
    · refine KeepsO.next ?_
      refine Keeps.of_only (addObj_only _ _ _ _ _ _) rfl ?_
      split
      · refine Keeps.ite ?_ ?_
        · refine Keeps.of_only (Only.set_scrubAt (m := 1099511627776) rfl (Only.refl _ _) _) rfl ?_
          refine Keeps.foldl (fun _ _ _ => ?_) ?_
          · refine Keeps.step (scrubWord_keeps ..) ?_
            assumption
          · exact Keeps.refl _
        · refine Keeps.foldl (fun _ _ _ => ?_) ?_
          · refine Keeps.step (scrubWord_keeps ..) ?_
            assumption
          · exact Keeps.refl _
      · refine Keeps.of_only (setObj_only _ _ _ _ _) rfl ?_
        refine Keeps.of_only (Only.set_scrubAt (m := 1099511627776) rfl (Only.refl _ _) _) rfl ?_
        refine Keeps.ite ?_ ?_
        · refine Keeps.of_only (Only.set_scrubAt (m := 1099511627776) rfl (Only.refl _ _) _) rfl ?_
          refine Keeps.foldl (fun _ _ _ => ?_) ?_
          · refine Keeps.step (scrubWord_keeps ..) ?_
            assumption
          · exact Keeps.refl _
        · refine Keeps.foldl (fun _ _ _ => ?_) ?_
          · refine Keeps.step (scrubWord_keeps ..) ?_
            assumption
          · exact Keeps.refl _
    · refine KeepsO.next ?_
      refine Keeps.ite ?_ ?_
      · refine Keeps.of_only (Only.set_scrubAt (m := 1099511627776) rfl (Only.refl _ _) _) rfl ?_
        refine Keeps.foldl (fun _ _ _ => ?_) ?_
        · refine Keeps.step (scrubWord_keeps ..) ?_
          assumption
        · exact Keeps.refl _
      · refine Keeps.foldl (fun _ _ _ => ?_) ?_
        · refine Keeps.step (scrubWord_keeps ..) ?_
          assumption
        · exact Keeps.refl _

end Sys2Proof.Machine
end

