-- ==== Sys2Proof/Laws/OnlyPower.lean ====
section
/-! SUPPORT. What each operation of Machine/Power.lean can change, at most. -/
namespace Sys2Proof.Machine

theorem testedBanks_only (s : State) (t : Nat) (st : BankState) : Only 0x100000000000200080 s (testedBanks s t st) := by
  unfold testedBanks
  refine Only.foldl (fun _ _ _ => ?_) ?_
  · dsimp only
    refine Only.ite ?_ ?_
    · assumption
    · refine Only.step (countCycle_only ..) rfl ?_
      refine Only.step (updBank_only ..) rfl ?_
      assumption
  · exact Only.refl _ _

theorem abortTest_only (st : BankState) (s : State) (d : Nat) : Only 0x1100000000002000a0 s (abortTest st s d) := by
  unfold abortTest
  split
  · exact Only.refl _ _
  · dsimp only
    refine Only.step (addObj_only ..) rfl ?_
    refine Only.ite ?_ ?_
    · refine Only.step (testedBanks_only ..) rfl ?_
      refine Only.set_ftests rfl ?_ _
      exact Only.refl _ _
    · refine Only.set_ftests rfl ?_ _
      exact Only.refl _ _

theorem abortTests_only (s : State) (sel : FieldTest → Bool) : Only 0x1100000000002000a0 s (abortTests s sel) := by
  unfold abortTests
  refine Only.foldl (fun _ _ _ => ?_) ?_
  · refine Only.step (abortTest_only ..) rfl ?_
    assumption
  · exact Only.refl _ _

theorem loseTests_only (s : State) : Only 0x1100000000002000a0 s (loseTests s) := by
  unfold loseTests
  refine Only.foldl (fun _ _ _ => ?_) ?_
  · refine Only.step (abortTest_only ..) rfl ?_
    assumption
  · exact Only.refl _ _

theorem setFeed_only (s : State) (f : Nat) (x : Feed) : Only 0x4000000000000 s (setFeed s f x) := by
  unfold setFeed
  refine Only.set_feeds rfl ?_ _
  exact Only.refl _ _

theorem setBrick_only (s : State) (b : Nat) (x : Brick) : Only 0x8000000000000 s (setBrick s b x) := by
  unfold setBrick
  refine Only.set_bricks rfl ?_ _
  exact Only.refl _ _

theorem moveFeeds_only (s : State) : Only 0x8000000000000 s (moveFeeds s) := by
  unfold moveFeeds
  refine Only.foldl (fun _ _ _ => ?_) ?_
  · dsimp only
    refine Only.ite ?_ ?_
    · refine Only.step (setBrick_only ..) rfl ?_
      assumption
    · refine Only.step (setBrick_only ..) rfl ?_
      assumption
  · exact Only.refl _ _

theorem preferFeeds_only (s : State) : Only 0x8000000000000 s (preferFeeds s) := by
  unfold preferFeeds
  refine Only.foldl (fun _ _ _ => ?_) ?_
  · dsimp only
    refine Only.ite ?_ ?_
    · refine Only.step (setBrick_only ..) rfl ?_
      assumption
    · assumption
  · exact Only.refl _ _

theorem execFeedStateChange_only (f : Nat) (volts : Int) (ma : Nat) (s : State) : OnlyO 0x10000c000000000180 s (execFeedStateChange f volts ma s) := by
  unfold execFeedStateChange
  refine OnlyO.ite ?_ ?_
  · exact OnlyO.fault _ _ _
  · dsimp only
    refine OnlyO.next ?_
    refine Only.ite ?_ ?_
    · refine Only.step (moveFeeds_only ..) rfl ?_
      refine Only.step (setCond_only ..) rfl ?_
      refine Only.step (setFeed_only ..) rfl ?_
      exact Only.refl _ _
    · split
      · refine Only.step (raiseRc_only ..) rfl ?_
        refine Only.step (moveFeeds_only ..) rfl ?_
        refine Only.step (setCond_only ..) rfl ?_
        refine Only.step (setFeed_only ..) rfl ?_
        exact Only.refl _ _
      · refine Only.step (raise_only ..) rfl ?_
        refine Only.step (moveFeeds_only ..) rfl ?_
        refine Only.step (setCond_only ..) rfl ?_
        refine Only.step (setFeed_only ..) rfl ?_
        exact Only.refl _ _
      · refine Only.step (raiseRc_only ..) rfl ?_
        refine Only.step (moveFeeds_only ..) rfl ?_
        refine Only.step (setCond_only ..) rfl ?_
        refine Only.step (setFeed_only ..) rfl ?_
        exact Only.refl _ _
      · refine Only.step (raiseRc_only ..) rfl ?_
        refine Only.step (moveFeeds_only ..) rfl ?_
        refine Only.step (setCond_only ..) rfl ?_
        refine Only.step (setFeed_only ..) rfl ?_
        exact Only.refl _ _

theorem execFeedReturnPreferred_only (b : Nat) (s : State) : OnlyO 0x8000000000000 s (execFeedReturnPreferred b s) := by
  unfold execFeedReturnPreferred
  refine OnlyO.ite ?_ ?_
  · exact OnlyO.fault _ _ _
  · dsimp only
    split
    · refine OnlyO.next ?_
      exact Only.refl _ _
    · refine OnlyO.ite ?_ ?_
      · refine OnlyO.next ?_
        refine Only.step (setBrick_only ..) rfl ?_
        exact Only.refl _ _
      · refine OnlyO.next ?_
        exact Only.refl _ _

theorem brickTo_only (s : State) (b : Nat) (st : Nat) (present : Bool) : Only 0x8000000000100 s (brickTo s b st present) := by
  unfold brickTo
  dsimp only
  refine Only.step (moveFeeds_only ..) rfl ?_
  refine Only.step (setCond_only ..) rfl ?_
  refine Only.step (setBrick_only ..) rfl ?_
  exact Only.refl _ _

theorem brickFallen_only (before : Nat) (s : State) : Only 0x100000000000000080 s (brickFallen before s) := by
  unfold brickFallen
  refine Only.ite ?_ ?_
  · refine Only.step (raise_only ..) rfl ?_
    exact Only.refl _ _
  · exact Only.refl _ _

theorem execBrickFault_only (b : Nat) (s : State) : OnlyO 0x900008000000000180 s (execBrickFault b s) := by
  unfold execBrickFault
  refine OnlyO.ite ?_ ?_
  · exact OnlyO.fault _ _ _
  · refine OnlyO.ite ?_ ?_
    · refine OnlyO.next ?_
      exact Only.refl _ _
    · dsimp only
      refine OnlyO.next ?_
      refine Only.step (brickFallen_only ..) rfl ?_
      refine Only.step (protective_only ..) rfl ?_
      refine Only.step (kennelEvent_only ..) rfl ?_
      refine Only.step (raiseRc_only ..) rfl ?_
      refine Only.step (brickTo_only ..) rfl ?_
      exact Only.refl _ _

theorem execBrickRemove_only (b : Nat) (s : State) : OnlyO 0x900008000000000180 s (execBrickRemove b s) := by
  unfold execBrickRemove
  refine OnlyO.ite ?_ ?_
  · exact OnlyO.fault _ _ _
  · refine OnlyO.ite ?_ ?_
    · refine OnlyO.next ?_
      exact Only.refl _ _
    · refine OnlyO.next ?_
      refine Only.step (partMoved_only ..) rfl ?_
      refine Only.step (brickFallen_only ..) rfl ?_
      refine Only.step (brickTo_only ..) rfl ?_
      exact Only.refl _ _

theorem execBrickInsert_only (b : Nat) (s : State) : OnlyO 0x800008000000000100 s (execBrickInsert b s) := by
  unfold execBrickInsert
  refine OnlyO.ite ?_ ?_
  · exact OnlyO.fault _ _ _
  · refine OnlyO.ite ?_ ?_
    · refine OnlyO.next ?_
      refine Only.step (partMoved_only ..) rfl ?_
      refine Only.step (brickTo_only ..) rfl ?_
      exact Only.refl _ _
    · refine OnlyO.next ?_
      exact Only.refl _ _

theorem execBrickStartDone_only (b : Nat) (s : State) : OnlyO 0x8000000000100 s (execBrickStartDone b s) := by
  unfold execBrickStartDone
  refine OnlyO.ite ?_ ?_
  · exact OnlyO.fault _ _ _
  · refine OnlyO.ite ?_ ?_
    · refine OnlyO.next ?_
      refine Only.step (brickTo_only ..) rfl ?_
      exact Only.refl _ _
    · refine OnlyO.next ?_
      exact Only.refl _ _

theorem brickPrepare_only {s : State} {b : Nat} {s' : State} (hq : brickPrepare s b = .inr s') : Only 0x8000000000000 s s' := by
  unfold brickPrepare at hq
  split at hq
  · cases hq
  · split at hq
    · cases hq
    · split at hq
      · obtain rfl := Sum.inr.inj hq
        refine Only.step (setBrick_only ..) rfl ?_
        exact Only.refl _ _
      · cases hq
        exact Only.refl _ _

theorem execBrickShedDone_only (b : Nat) (s : State) : OnlyO 0x100008000000000180 s (execBrickShedDone b s) := by
  unfold execBrickShedDone
  refine OnlyO.ite ?_ ?_
  · exact OnlyO.fault _ _ _
  · refine OnlyO.ite ?_ ?_
    · refine OnlyO.next ?_
      refine Only.step (brickFallen_only ..) rfl ?_
      refine Only.step (brickTo_only ..) rfl ?_
      exact Only.refl _ _
    · refine OnlyO.next ?_
      exact Only.refl _ _

theorem brickUnprepare_only (s : State) (b : Nat) : Only 0x8000000000100 s (brickUnprepare s b) := by
  unfold brickUnprepare
  refine Only.ite ?_ ?_
  · refine Only.step (brickTo_only ..) rfl ?_
    exact Only.refl _ _
  · exact Only.refl _ _

theorem setBlock_only (s : State) (c : Nat) (x : Block) : Only 0x10000000000000 s (setBlock s c x) := by
  unfold setBlock
  refine Only.set_blocks rfl ?_ _
  exact Only.refl _ _

theorem blockCond_only (s : State) (c : Nat) : Only 0x100 s (blockCond s c) := by
  unfold blockCond
  refine Only.step (setCond_only ..) rfl ?_
  exact Only.refl _ _

theorem setRouter_only (s : State) (t : Nat) (v : Nat) : Only 0x20 s (setRouter s t v) := by
  unfold setRouter
  refine Only.step (setObj_only ..) rfl ?_
  exact Only.refl _ _

theorem reviewAll_only (s : State) : Only 0x520 s (reviewAll s) := by
  unfold reviewAll
  refine Only.foldl (fun _ _ _ => ?_) ?_
  · refine Only.step (reviewStall_only ..) rfl ?_
    assumption
  · exact Only.refl _ _

theorem routerFail_only (s : State) (t : Nat) : Only 0x90002030025f0005a0 s (routerFail s t) := by
  unfold routerFail
  refine Only.ite ?_ ?_
  · exact Only.refl _ _
  · dsimp only
    refine Only.step (reviewAll_only ..) rfl ?_
    refine Only.step (raiseRc_only ..) rfl ?_
    refine Only.step (kennelEvent_only ..) rfl ?_
    refine Only.step (cutRoutes_only ..) rfl ?_
    refine Only.set_lostAt rfl ?_ _
    refine Only.step (setRouter_only ..) rfl ?_
    exact Only.refl _ _

theorem followTies_only (s : State) (c : Nat) : Only 0x90006030025f0005a0 s (followTies s c) := by
  unfold followTies
  refine Only.foldl (fun _ _ _ => ?_) ?_
  · refine Only.ite ?_ ?_
    · assumption
    · split
      · refine Only.ite ?_ ?_
        · assumption
        · refine Only.foldl (fun _ _ _ => ?_) ?_
          · refine Only.ite ?_ ?_
            · assumption
            · refine Only.step (setRouter_only ..) rfl ?_
              assumption
          · assumption
      · refine Only.ite ?_ ?_
        · assumption
        · refine Only.foldl (fun _ _ _ => ?_) ?_
          · refine Only.step (routerFail_only ..) rfl ?_
            assumption
          · refine Only.set_tieLost rfl ?_ _
            assumption
  · exact Only.refl _ _

theorem loseTiles_only (s : State) (ts : List Nat) : Only 0x807b080000 s (loseTiles s ts) := by
  unfold loseTiles
  refine Only.set_ringTags_sp_spErr_acc_accTag_accPend_accErr_capLatch rfl rfl rfl rfl rfl rfl rfl rfl ?_ _ _ _ _ _ _ _ _
  exact Only.refl _ _

theorem loseBlock_only (s : State) (c : Nat) : Only 0xc008090006230b67f294da0 s (loseBlock s c) := by
  unfold loseBlock
  refine Only.ite ?_ ?_
  · exact Only.refl _ _
  · dsimp only
    refine Only.step (reviewAll_only ..) rfl ?_
    refine Only.step (protective_only ..) rfl ?_
    refine Only.step (kennelEvent_only ..) rfl ?_
    refine Only.step (raiseRc_only ..) rfl ?_
    refine Only.step (followTies_only ..) rfl ?_
    refine Only.step (blockCond_only ..) rfl ?_
    refine Only.step (interruptBanks_only ..) rfl ?_
    refine Only.step (loseTiles_only ..) rfl ?_
    refine Only.step (vlogOff_only ..) rfl ?_
    refine Only.set_blockSt_lostAt rfl rfl ?_ _ _
    exact Only.refl _ _

theorem losePhase_only (s : State) (c : Nat) (i : Nat) : Only 0xc008090007230b67f294da0 s (losePhase s c i) := by
  unfold losePhase
  dsimp only
  refine Only.ite ?_ ?_
  · exact Only.refl _ _
  · refine Only.ite ?_ ?_
    · refine Only.step (loseBlock_only ..) rfl ?_
      refine Only.step (raiseRc_only ..) rfl ?_
      refine Only.step (kennelEvent_only ..) rfl ?_
      refine Only.step (blockCond_only ..) rfl ?_
      refine Only.set_blockSt rfl ?_ _
      refine Only.step (setBlock_only ..) rfl ?_
      exact Only.refl _ _
    · refine Only.step (raiseRc_only ..) rfl ?_
      refine Only.step (kennelEvent_only ..) rfl ?_
      refine Only.step (blockCond_only ..) rfl ?_
      refine Only.set_blockSt rfl ?_ _
      refine Only.step (setBlock_only ..) rfl ?_
      exact Only.refl _ _

theorem loseVpgm_only (s : State) (c : Nat) : Only 0xc0080900000000e00214da0 s (loseVpgm s c) := by
  unfold loseVpgm
  refine Only.ite ?_ ?_
  · exact Only.refl _ _
  · dsimp only
    refine Only.step (protective_only ..) rfl ?_
    refine Only.step (raiseRc_only ..) rfl ?_
    refine Only.step (interruptBanks_only ..) rfl ?_
    refine Only.set_vpgmLost rfl ?_ _
    exact Only.refl _ _

theorem jointSample_only (s : State) (c : Nat) (vout : Nat) (vsense : Nat) (ma : Nat) : Only 0x100010000000000080 s (jointSample s c vout vsense ma) := by
  unfold jointSample
  refine Only.ite ?_ ?_
  · exact Only.refl _ _
  · dsimp only
    refine Only.ite ?_ ?_
    · refine Only.step (setBlock_only ..) rfl ?_
      exact Only.refl _ _
    · refine Only.ite ?_ ?_
      · refine Only.step (raiseRc_only ..) rfl ?_
        refine Only.step (setBlock_only ..) rfl ?_
        exact Only.refl _ _
      · refine Only.step (setBlock_only ..) rfl ?_
        exact Only.refl _ _

theorem execDropshareSample_only (c : Nat) (ph : List Nat) (drv : Nat) (vout : Nat) (vsense : Nat) (varr : Nat) (vpgmOk : Bool) (fault : Bool) (s : State) : OnlyO 0xc008090007230be7f294da0 s (execDropshareSample c ph drv vout vsense varr vpgmOk fault s) := by
  unfold execDropshareSample
  refine OnlyO.ite ?_ ?_
  · exact OnlyO.fault _ _ _
  · refine OnlyO.ite ?_ ?_
    · refine OnlyO.next ?_
      exact Only.refl _ _
    · dsimp only
      refine OnlyO.next ?_
      refine Only.ite ?_ ?_
      · refine Only.step (loseBlock_only ..) rfl ?_
        refine Only.ite ?_ ?_
        · refine Only.step (loseVpgm_only ..) rfl ?_
          refine Only.foldl (fun _ _ _ => ?_) ?_
          · refine Only.step (losePhase_only ..) rfl ?_
            assumption
          · refine Only.step (jointSample_only ..) rfl ?_
            refine Only.step (setBlock_only ..) rfl ?_
            exact Only.refl _ _
        · refine Only.foldl (fun _ _ _ => ?_) ?_
          · refine Only.step (losePhase_only ..) rfl ?_
            assumption
          · refine Only.step (jointSample_only ..) rfl ?_
            refine Only.step (setBlock_only ..) rfl ?_
            exact Only.refl _ _
      · refine Only.ite ?_ ?_
        · refine Only.step (loseVpgm_only ..) rfl ?_
          refine Only.foldl (fun _ _ _ => ?_) ?_
          · refine Only.step (losePhase_only ..) rfl ?_
            assumption
          · refine Only.step (jointSample_only ..) rfl ?_
            refine Only.step (setBlock_only ..) rfl ?_
            exact Only.refl _ _
        · refine Only.foldl (fun _ _ _ => ?_) ?_
          · refine Only.step (losePhase_only ..) rfl ?_
            assumption
          · refine Only.step (jointSample_only ..) rfl ?_
            refine Only.step (setBlock_only ..) rfl ?_
            exact Only.refl _ _

theorem blockRestart_only {s : State} {c : Nat} {s' : State} (hq : blockRestart s c = .inr s') : Only 0x2000000000000 s s' := by
  unfold blockRestart at hq
  split at hq
  · cases hq
  · obtain rfl := Sum.inr.inj hq
    refine Only.set_blockSt rfl ?_ _
    exact Only.refl _ _

theorem routerBack_only (s : State) (t : Nat) : Only 0x20 s (routerBack s t) := by
  unfold routerBack
  refine Only.step (setRouter_only ..) rfl ?_
  exact Only.refl _ _

theorem execBlockRestartDone_only (c : Nat) (phases : Nat) (ok : Bool) (s : State) : OnlyO 0x10007200a07b0805a0 s (execBlockRestartDone c phases ok s) := by
  unfold execBlockRestartDone
  refine OnlyO.ite ?_ ?_
  · exact OnlyO.fault _ _ _
  · refine OnlyO.ite ?_ ?_
    · refine OnlyO.next ?_
      exact Only.refl _ _
    · refine OnlyO.ite ?_ ?_
      · dsimp only
        refine OnlyO.next ?_
        refine Only.step (reviewAll_only ..) rfl ?_
        refine Only.foldl (fun _ _ _ => ?_) ?_
        · refine Only.step (routerBack_only ..) rfl ?_
          assumption
        · refine Only.step (loseTiles_only ..) rfl ?_
          refine Only.step (vlogOn_only ..) rfl ?_
          refine Only.step (blockCond_only ..) rfl ?_
          refine Only.set_blockSt_lostAt_tieLost rfl rfl rfl ?_ _ _ _
          refine Only.step (setBlock_only ..) rfl ?_
          exact Only.refl _ _
      · refine OnlyO.next ?_
        refine Only.step (raiseRc_only ..) rfl ?_
        refine Only.set_blockSt rfl ?_ _
        exact Only.refl _ _

theorem setSpot_only (s : State) (h : Nat) (x : HotSpot) : Only 0x80000000000000 s (setSpot s h x) := by
  unfold setSpot
  refine Only.set_spots rfl ?_ _
  exact Only.refl _ _

theorem updSpot_only (s : State) (h : Nat) (f : HotSpot → HotSpot) : Only 0x80000000000000 s (updSpot s h f) := by
  unfold updSpot
  refine Only.step (setSpot_only ..) rfl ?_
  exact Only.refl _ _

theorem execWindowBoundary_only (s : State) : OnlyO 0x80000000000000 s (execWindowBoundary s) := by
  unfold execWindowBoundary
  dsimp only
  refine OnlyO.next ?_
  refine Only.set_spots rfl ?_ _
  exact Only.refl _ _

theorem execGovernorRegionTick_only (h : Nat) (d : Nat) (pst : Nat) (s : State) : OnlyO 0x900880000000000080 s (execGovernorRegionTick h d pst s) := by
  unfold execGovernorRegionTick
  refine OnlyO.ite ?_ ?_
  · exact OnlyO.fault _ _ _
  · refine OnlyO.ite ?_ ?_
    · refine OnlyO.next ?_
      exact Only.refl _ _
    · dsimp only
      refine OnlyO.ite ?_ ?_
      · refine OnlyO.next ?_
        refine Only.ite ?_ ?_
        · refine Only.step (protective_only ..) rfl ?_
          refine Only.step (raiseRc_only ..) rfl ?_
          refine Only.set_gov rfl ?_ _
          refine Only.step (updSpot_only ..) rfl ?_
          exact Only.refl _ _
        · refine Only.set_gov rfl ?_ _
          refine Only.step (updSpot_only ..) rfl ?_
          exact Only.refl _ _
      · refine OnlyO.next ?_
        refine Only.step (updSpot_only ..) rfl ?_
        exact Only.refl _ _

theorem execGovernorModuleTick_only (pin : Nat) (dyn : Nat) (bus : Nat) (bricks : List (Nat × Nat × Nat)) (s : State) : OnlyO 0x808000000000000 s (execGovernorModuleTick pin dyn bus bricks s) := by
  unfold execGovernorModuleTick
  refine OnlyO.ite ?_ ?_
  · exact OnlyO.fault _ _ _
  · refine OnlyO.ite ?_ ?_
    · refine OnlyO.next ?_
      exact Only.refl _ _
    · dsimp only
      refine OnlyO.next ?_
      refine Only.foldl (fun _ _ _ => ?_) ?_
      · refine Only.step (setBrick_only ..) rfl ?_
        assumption
      · refine Only.set_gov rfl ?_ _
        exact Only.refl _ _

theorem modelSpot_only (s : State) (h : Nat) (p : Nat) : Only 0x80000000000000 s (modelSpot s h p) := by
  unfold modelSpot
  dsimp only
  refine Only.step (setSpot_only ..) rfl ?_
  exact Only.refl _ _

theorem execThermalModelTick_only (powers : List (Nat × Nat)) (s : State) : OnlyO 0x80000000000000 s (execThermalModelTick powers s) := by
  unfold execThermalModelTick
  refine OnlyO.ite ?_ ?_
  · exact OnlyO.fault _ _ _
  · refine OnlyO.ite ?_ ?_
    · refine OnlyO.next ?_
      exact Only.refl _ _
    · refine OnlyO.next ?_
      refine Only.foldl (fun _ _ _ => ?_) ?_
      · refine Only.step (modelSpot_only ..) rfl ?_
        assumption
      · exact Only.refl _ _

theorem switchOff_only (s : State) (h : Nat) (code : Nat) : Only 0xc0080910081000600214da0 s (switchOff s h code) := by
  unfold switchOff
  refine Only.ite ?_ ?_
  · exact Only.refl _ _
  · dsimp only
    refine Only.step (reviewAll_only ..) rfl ?_
    refine Only.step (protective_only ..) rfl ?_
    refine Only.step (raiseRc_only ..) rfl ?_
    refine Only.foldl (fun _ _ _ => ?_) ?_
    · refine Only.ite ?_ ?_
      · refine Only.step (setRouter_only ..) rfl ?_
        assumption
      · assumption
    · refine Only.step (abortTests_only ..) rfl ?_
      refine Only.step (interruptBanks_only ..) rfl ?_
      refine Only.step (updSpot_only ..) rfl ?_
      refine Only.set_heatOff rfl ?_ _
      exact Only.refl _ _

theorem switchOn_only (s : State) (h : Nat) : Only 0x1000810000000005a0 s (switchOn s h) := by
  unfold switchOn
  dsimp only
  refine Only.step (reviewAll_only ..) rfl ?_
  refine Only.step (raise_only ..) rfl ?_
  refine Only.foldl (fun _ _ _ => ?_) ?_
  · refine Only.ite ?_ ?_
    · refine Only.step (setRouter_only ..) rfl ?_
      assumption
    · assumption
  · refine Only.step (updSpot_only ..) rfl ?_
    refine Only.set_heatOff rfl ?_ _
    exact Only.refl _ _

theorem sensorLost_only (s : State) (h : Nat) : Only 0x900000000000000180 s (sensorLost s h) := by
  unfold sensorLost
  refine Only.step (kennelEvent_only ..) rfl ?_
  refine Only.step (raiseRc_only ..) rfl ?_
  exact Only.refl _ _

theorem disagreeStep_only (s : State) (h : Nat) : Only 0x900080000000000180 s (disagreeStep s h) := by
  unfold disagreeStep
  dsimp only
  refine Only.ite ?_ ?_
  · refine Only.ite ?_ ?_
    · refine Only.step (setSpot_only ..) rfl ?_
      exact Only.refl _ _
    · refine Only.step (sensorLost_only ..) rfl ?_
      refine Only.step (setSpot_only ..) rfl ?_
      exact Only.refl _ _
  · refine Only.ite ?_ ?_
    · refine Only.ite ?_ ?_
      · refine Only.step (raise_only ..) rfl ?_
        refine Only.step (setSpot_only ..) rfl ?_
        exact Only.refl _ _
      · refine Only.step (setSpot_only ..) rfl ?_
        exact Only.refl _ _
    · refine Only.step (setSpot_only ..) rfl ?_
      exact Only.refl _ _

theorem dieCond_only (s : State) (h : Nat) : Only 0x100 s (dieCond s h) := by
  unfold dieCond
  dsimp only
  refine Only.step (setCond_only ..) rfl ?_
  exact Only.refl _ _

theorem coolSince_only (s : State) (h : Nat) : Only 0x80000000000000 s (coolSince s h) := by
  unfold coolSince
  dsimp only
  refine Only.step (updSpot_only ..) rfl ?_
  exact Only.refl _ _

theorem heatCheck_only (s : State) (h : Nat) : Only 0xc0080910081000600214da0 s (heatCheck s h) := by
  unfold heatCheck
  dsimp only
  refine Only.ite ?_ ?_
  · refine Only.step (switchOff_only ..) rfl ?_
    exact Only.refl _ _
  · refine Only.ite ?_ ?_
    · refine Only.step (switchOff_only ..) rfl ?_
      exact Only.refl _ _
    · exact Only.refl _ _

theorem execHotspotSample_only (h : Nat) (a : Option Int) (b : Option Int) (s : State) : OnlyO 0xc0080910081800600214da0 s (execHotspotSample h a b s) := by
  unfold execHotspotSample
  refine OnlyO.ite ?_ ?_
  · exact OnlyO.fault _ _ _
  · dsimp only
    refine OnlyO.next ?_
    refine Only.ite ?_ ?_
    · refine Only.step (heatCheck_only ..) rfl ?_
      refine Only.step (coolSince_only ..) rfl ?_
      refine Only.step (dieCond_only ..) rfl ?_
      refine Only.step (disagreeStep_only ..) rfl ?_
      refine Only.ite ?_ ?_
      · refine Only.step (sensorLost_only ..) rfl ?_
        refine Only.ite ?_ ?_
        · refine Only.step (sensorLost_only ..) rfl ?_
          refine Only.step (setSpot_only ..) rfl ?_
          refine Only.set_hot rfl ?_ _
          exact Only.refl _ _
        · refine Only.step (setSpot_only ..) rfl ?_
          refine Only.set_hot rfl ?_ _
          exact Only.refl _ _
      · refine Only.ite ?_ ?_
        · refine Only.step (sensorLost_only ..) rfl ?_
          refine Only.step (setSpot_only ..) rfl ?_
          refine Only.set_hot rfl ?_ _
          exact Only.refl _ _
        · refine Only.step (setSpot_only ..) rfl ?_
          refine Only.set_hot rfl ?_ _
          exact Only.refl _ _
    · refine Only.step (coolSince_only ..) rfl ?_
      refine Only.step (dieCond_only ..) rfl ?_
      refine Only.step (disagreeStep_only ..) rfl ?_
      refine Only.ite ?_ ?_
      · refine Only.step (sensorLost_only ..) rfl ?_
        refine Only.ite ?_ ?_
        · refine Only.step (sensorLost_only ..) rfl ?_
          refine Only.step (setSpot_only ..) rfl ?_
          refine Only.set_hot rfl ?_ _
          exact Only.refl _ _
        · refine Only.step (setSpot_only ..) rfl ?_
          refine Only.set_hot rfl ?_ _
          exact Only.refl _ _
      · refine Only.ite ?_ ?_
        · refine Only.step (sensorLost_only ..) rfl ?_
          refine Only.step (setSpot_only ..) rfl ?_
          refine Only.set_hot rfl ?_ _
          exact Only.refl _ _
        · refine Only.step (setSpot_only ..) rfl ?_
          refine Only.set_hot rfl ?_ _
          exact Only.refl _ _

theorem execRegionReturn_only (h : Nat) (s : State) : OnlyO 0x1000810000000005a0 s (execRegionReturn h s) := by
  unfold execRegionReturn
  refine OnlyO.ite ?_ ?_
  · exact OnlyO.fault _ _ _
  · dsimp only
    refine OnlyO.ite ?_ ?_
    · refine OnlyO.next ?_
      refine Only.step (switchOn_only ..) rfl ?_
      exact Only.refl _ _
    · refine OnlyO.next ?_
      exact Only.refl _ _

theorem regionReturn_only {s : State} {h : Nat} {s' : State} (hq : regionReturn s h = .inr s') : Only 0x1000810000000005a0 s s' := by
  unfold regionReturn at hq
  split at hq
  · obtain rfl := Sum.inr.inj hq
    refine Only.step (switchOn_only ..) rfl ?_
    exact Only.refl _ _
  · cases hq

theorem setStack_only (s : State) (k : Nat) (x : Stack) : Only 0x100000000000000 s (setStack s k x) := by
  unfold setStack
  refine Only.set_stackSt rfl ?_ _
  exact Only.refl _ _

theorem stackCond_only (s : State) (k : Nat) : Only 0x100 s (stackCond s k) := by
  unfold stackCond
  refine Only.step (setCond_only ..) rfl ?_
  exact Only.refl _ _

theorem execStackTempSample_only (k : Nat) (v : Option Int) (s : State) : OnlyO 0x900100000000000180 s (execStackTempSample k v s) := by
  unfold execStackTempSample
  refine OnlyO.ite ?_ ?_
  · exact OnlyO.fault _ _ _
  · split
    · refine OnlyO.next ?_
      exact Only.refl _ _
    · dsimp only
      refine OnlyO.next ?_
      refine Only.ite ?_ ?_
      · refine Only.step (protective_only ..) rfl ?_
        refine Only.step (raiseRc_only ..) rfl ?_
        refine Only.step (stackCond_only ..) rfl ?_
        refine Only.step (setStack_only ..) rfl ?_
        exact Only.refl _ _
      · refine Only.step (stackCond_only ..) rfl ?_
        refine Only.step (setStack_only ..) rfl ?_
        exact Only.refl _ _

theorem coolSensor_only (s : State) (i : Nat) (v : Option Int) : Only 0x100200000000000080 s (coolSensor s i v) := by
  unfold coolSensor
  dsimp only
  refine Only.ite ?_ ?_
  · exact Only.refl _ _
  · refine Only.ite ?_ ?_
    · refine Only.set_coolant rfl ?_ _
      exact Only.refl _ _
    · refine Only.ite ?_ ?_
      · refine Only.set_coolant rfl ?_ _
        exact Only.refl _ _
      · refine Only.step (raiseRc_only ..) rfl ?_
        refine Only.set_coolant rfl ?_ _
        exact Only.refl _ _

theorem coolSource_only (s : State) (n : Nat) (b : Bool) : Only 0x100000000000000180 s (coolSource s n b) := by
  unfold coolSource
  dsimp only
  refine Only.ite ?_ ?_
  · refine Only.step (raiseRc_only ..) rfl ?_
    refine Only.step (setCond_only ..) rfl ?_
    exact Only.refl _ _
  · refine Only.step (setCond_only ..) rfl ?_
    exact Only.refl _ _

theorem coolCriteria_only (s : State) : Only 0x200000000000000 s (coolCriteria s) := by
  unfold coolCriteria
  dsimp only
  refine Only.set_coolant rfl ?_ _
  exact Only.refl _ _

theorem coolGood_only (s : State) : Only 0x200000000000000 s (coolGood s) := by
  unfold coolGood
  dsimp only
  refine Only.set_coolant rfl ?_ _
  exact Only.refl _ _

theorem stopCompute_only (s : State) : Only 0xe00a09102007007a77fddb0 s (stopCompute s) := by
  unfold stopCompute
  dsimp only
  refine Only.step (abortTests_only ..) rfl ?_
  refine Only.step (interruptBanks_only ..) rfl ?_
  refine Only.foldl (fun _ _ _ => ?_) ?_
  · split
    · assumption
    · refine Only.ite ?_ ?_
      · assumption
      · refine Only.step (dropRuns_only ..) rfl ?_
        refine Only.step (engineFault_only ..) rfl ?_
        assumption
  · refine Only.set_power_coolant rfl rfl ?_ _ _
    exact Only.refl _ _

theorem coolantStop_only (s : State) : Only 0xe00a09102007007a77fddb0 s (coolantStop s) := by
  unfold coolantStop
  dsimp only
  refine Only.step (protective_only ..) rfl ?_
  refine Only.step (addObj_only ..) rfl ?_
  refine Only.step (stopCompute_only ..) rfl ?_
  refine Only.step (raiseRc_only ..) rfl ?_
  exact Only.refl _ _

theorem coolantSampled_only (s : State) (v : List (Option Int)) : Only 0x100200000000000180 s (coolantSampled s v) := by
  unfold coolantSampled
  dsimp only
  refine Only.step (coolGood_only ..) rfl ?_
  refine Only.step (coolCriteria_only ..) rfl ?_
  refine Only.step (coolSource_only ..) rfl ?_
  refine Only.step (coolSource_only ..) rfl ?_
  refine Only.step (coolSource_only ..) rfl ?_
  refine Only.foldl (fun _ _ _ => ?_) ?_
  · refine Only.step (coolSensor_only ..) rfl ?_
    assumption
  · exact Only.refl _ _

theorem execCoolantRecovered_only (s : State) : OnlyO 0x100200000000000080 s (execCoolantRecovered s) := by
  unfold execCoolantRecovered
  split
  · refine OnlyO.ite ?_ ?_
    · refine OnlyO.next ?_
      refine Only.step (raise_only ..) rfl ?_
      refine Only.set_coolant rfl ?_ _
      exact Only.refl _ _
    · refine OnlyO.next ?_
      exact Only.refl _ _
  · refine OnlyO.next ?_
    exact Only.refl _ _

theorem resume_only {s : State} {s' : State} (hq : resume s = .inr s') : Only 0x200000000000530 s s' := by
  unfold resume at hq
  split at hq
  · cases hq
  · split at hq
    · cases hq
    · obtain rfl := Sum.inr.inj hq
      refine Only.step (reviewAll_only ..) rfl ?_
      refine Only.set_power_coolant rfl rfl ?_ _ _
      exact Only.refl _ _

end Sys2Proof.Machine
end

