-- ==== Sys2Proof/Laws/KeepsPower.lean ====
section
/-! SUPPORT. Each operation of Machine/Power.lean keeps: the form of the memories and the bounds of the stores. -/
namespace Sys2Proof.Machine

theorem testedBanks_keeps (s : State) (t : Nat) (st : BankState) : Keeps s (testedBanks s t st) := by
  unfold testedBanks
  refine Keeps.foldl (fun _ _ _ => ?_) ?_
  · dsimp only
    refine Keeps.ite ?_ ?_
    · assumption
    · refine Keeps.step (countCycle_keeps ..) ?_
      refine Keeps.of_only (updBank_only _ _ _) rfl ?_
      assumption
  · exact Keeps.refl _

theorem abortTest_keeps (st : BankState) (s : State) (d : Nat) : Keeps s (abortTest st s d) := by
  unfold abortTest
  split
  · exact Keeps.refl _
  · dsimp only
    refine Keeps.of_only (addObj_only _ _ _ _ _ _) rfl ?_
    refine Keeps.ite ?_ ?_
    · refine Keeps.step (testedBanks_keeps ..) ?_
      refine Keeps.of_only (Only.set_ftests (m := 18446744073709551616) rfl (Only.refl _ _) _) rfl ?_
      exact Keeps.refl _
    · refine Keeps.of_only (Only.set_ftests (m := 18446744073709551616) rfl (Only.refl _ _) _) rfl ?_
      exact Keeps.refl _

theorem abortTests_keeps (s : State) (sel : FieldTest → Bool) : Keeps s (abortTests s sel) := by
  unfold abortTests
  refine Keeps.foldl (fun _ _ _ => ?_) ?_
  · refine Keeps.step (abortTest_keeps ..) ?_
    assumption
  · exact Keeps.refl _

theorem loseTests_keeps (s : State) : Keeps s (loseTests s) := by
  unfold loseTests
  refine Keeps.foldl (fun _ _ _ => ?_) ?_
  · refine Keeps.step (abortTest_keeps ..) ?_
    assumption
  · exact Keeps.refl _

theorem execFeedStateChange_keeps (f : Nat) (volts : Int) (ma : Nat) (s : State) : KeepsO s (execFeedStateChange f volts ma s) := by
  unfold execFeedStateChange
  refine KeepsO.ite ?_ ?_
  · exact KeepsO.fault _ _
  · dsimp only
    refine KeepsO.next ?_
    refine Keeps.ite ?_ ?_
    · refine Keeps.of_only (moveFeeds_only _) rfl ?_
      refine Keeps.of_only (setCond_only _ _ _) rfl ?_
      refine Keeps.of_only (setFeed_only _ _ _) rfl ?_
      exact Keeps.refl _
    · split
      · refine Keeps.step (raiseRc_keeps ..) ?_
        refine Keeps.of_only (moveFeeds_only _) rfl ?_
        refine Keeps.of_only (setCond_only _ _ _) rfl ?_
        refine Keeps.of_only (setFeed_only _ _ _) rfl ?_
        exact Keeps.refl _
      · refine Keeps.step (raise_keeps ..) ?_
        refine Keeps.of_only (moveFeeds_only _) rfl ?_
        refine Keeps.of_only (setCond_only _ _ _) rfl ?_
        refine Keeps.of_only (setFeed_only _ _ _) rfl ?_
        exact Keeps.refl _
      · refine Keeps.step (raiseRc_keeps ..) ?_
        refine Keeps.of_only (moveFeeds_only _) rfl ?_
        refine Keeps.of_only (setCond_only _ _ _) rfl ?_
        refine Keeps.of_only (setFeed_only _ _ _) rfl ?_
        exact Keeps.refl _
      · refine Keeps.step (raiseRc_keeps ..) ?_
        refine Keeps.of_only (moveFeeds_only _) rfl ?_
        refine Keeps.of_only (setCond_only _ _ _) rfl ?_
        refine Keeps.of_only (setFeed_only _ _ _) rfl ?_
        exact Keeps.refl _

theorem brickFallen_keeps (before : Nat) (s : State) : Keeps s (brickFallen before s) := by
  unfold brickFallen
  refine Keeps.ite ?_ ?_
  · refine Keeps.step (raise_keeps ..) ?_
    exact Keeps.refl _
  · exact Keeps.refl _

theorem execBrickFault_keeps (b : Nat) (s : State) : KeepsO s (execBrickFault b s) := by
  unfold execBrickFault
  refine KeepsO.ite ?_ ?_
  · exact KeepsO.fault _ _
  · refine KeepsO.ite ?_ ?_
    · refine KeepsO.next ?_
      exact Keeps.refl _
    · dsimp only
      refine KeepsO.next ?_
      refine Keeps.step (brickFallen_keeps ..) ?_
      refine Keeps.of_only (protective_only _ _ _ _) rfl ?_
      refine Keeps.step (kennelEvent_keeps ..) ?_
      refine Keeps.step (raiseRc_keeps ..) ?_
      refine Keeps.of_only (brickTo_only _ _ _ _) rfl ?_
      exact Keeps.refl _

theorem execBrickRemove_keeps (b : Nat) (s : State) : KeepsO s (execBrickRemove b s) := by
  unfold execBrickRemove
  refine KeepsO.ite ?_ ?_
  · exact KeepsO.fault _ _
  · refine KeepsO.ite ?_ ?_
    · refine KeepsO.next ?_
      exact Keeps.refl _
    · refine KeepsO.next ?_
      refine Keeps.of_only (partMoved_only _ _ _) rfl ?_
      refine Keeps.step (brickFallen_keeps ..) ?_
      refine Keeps.of_only (brickTo_only _ _ _ _) rfl ?_
      exact Keeps.refl _

theorem execBrickShedDone_keeps (b : Nat) (s : State) : KeepsO s (execBrickShedDone b s) := by
  unfold execBrickShedDone
  refine KeepsO.ite ?_ ?_
  · exact KeepsO.fault _ _
  · refine KeepsO.ite ?_ ?_
    · refine KeepsO.next ?_
      refine Keeps.step (brickFallen_keeps ..) ?_
      refine Keeps.of_only (brickTo_only _ _ _ _) rfl ?_
      exact Keeps.refl _
    · refine KeepsO.next ?_
      exact Keeps.refl _

theorem routerFail_keeps (s : State) (t : Nat) : Keeps s (routerFail s t) := by
  unfold routerFail
  refine Keeps.ite ?_ ?_
  · exact Keeps.refl _
  · dsimp only
    refine Keeps.of_only (reviewAll_only _) rfl ?_
    refine Keeps.step (raiseRc_keeps ..) ?_
    refine Keeps.step (kennelEvent_keeps ..) ?_
    refine Keeps.step (cutRoutes_keeps ..) ?_
    refine Keeps.of_only (Only.set_lostAt (m := 9007199254740992) rfl (Only.refl _ _) _) rfl ?_
    refine Keeps.of_only (setRouter_only _ _ _) rfl ?_
    exact Keeps.refl _

theorem followTies_keeps (s : State) (c : Nat) : Keeps s (followTies s c) := by
  unfold followTies
  refine Keeps.foldl (fun _ _ _ => ?_) ?_
  · refine Keeps.ite ?_ ?_
    · assumption
    · split
      · refine Keeps.ite ?_ ?_
        · assumption
        · refine Keeps.foldl (fun _ _ _ => ?_) ?_
          · refine Keeps.ite ?_ ?_
            · assumption
            · refine Keeps.of_only (setRouter_only _ _ _) rfl ?_
              assumption
          · assumption
      · refine Keeps.ite ?_ ?_
        · assumption
        · refine Keeps.foldl (fun _ _ _ => ?_) ?_
          · refine Keeps.step (routerFail_keeps ..) ?_
            assumption
          · refine Keeps.of_only (Only.set_tieLost (m := 18014398509481984) rfl (Only.refl _ _) _) rfl ?_
            assumption
  · exact Keeps.refl _

theorem loseTiles_keeps (s : State) (ts : List Nat) : Keeps s (loseTiles s ts) := .mk fun k =>
  { k with sp := Memory.wf_filter k.sp, acc := FMap.wf_filter k.acc }

theorem loseBlock_keeps (s : State) (c : Nat) : Keeps s (loseBlock s c) := by
  unfold loseBlock
  refine Keeps.ite ?_ ?_
  · exact Keeps.refl _
  · dsimp only
    refine Keeps.of_only (reviewAll_only _) rfl ?_
    refine Keeps.of_only (protective_only _ _ _ _) rfl ?_
    refine Keeps.step (kennelEvent_keeps ..) ?_
    refine Keeps.step (raiseRc_keeps ..) ?_
    refine Keeps.step (followTies_keeps ..) ?_
    refine Keeps.of_only (blockCond_only _ _) rfl ?_
    refine Keeps.step (interruptBanks_keeps ..) ?_
    refine Keeps.step (loseTiles_keeps ..) ?_
    refine Keeps.of_only (vlogOff_only _ _) rfl ?_
    refine Keeps.of_only (Only.set_blockSt_lostAt (m := 9570149208162304) rfl rfl (Only.refl _ _) _ _) rfl ?_
    exact Keeps.refl _

theorem losePhase_keeps (s : State) (c : Nat) (i : Nat) : Keeps s (losePhase s c i) := by
  unfold losePhase
  dsimp only
  refine Keeps.ite ?_ ?_
  · exact Keeps.refl _
  · refine Keeps.ite ?_ ?_
    · refine Keeps.step (loseBlock_keeps ..) ?_
      refine Keeps.step (raiseRc_keeps ..) ?_
      refine Keeps.step (kennelEvent_keeps ..) ?_
      refine Keeps.of_only (blockCond_only _ _) rfl ?_
      refine Keeps.of_only (Only.set_blockSt (m := 562949953421312) rfl (Only.refl _ _) _) rfl ?_
      refine Keeps.of_only (setBlock_only _ _ _) rfl ?_
      exact Keeps.refl _
    · refine Keeps.step (raiseRc_keeps ..) ?_
      refine Keeps.step (kennelEvent_keeps ..) ?_
      refine Keeps.of_only (blockCond_only _ _) rfl ?_
      refine Keeps.of_only (Only.set_blockSt (m := 562949953421312) rfl (Only.refl _ _) _) rfl ?_
      refine Keeps.of_only (setBlock_only _ _ _) rfl ?_
      exact Keeps.refl _

theorem loseVpgm_keeps (s : State) (c : Nat) : Keeps s (loseVpgm s c) := by
  unfold loseVpgm
  refine Keeps.ite ?_ ?_
  · exact Keeps.refl _
  · dsimp only
    refine Keeps.of_only (protective_only _ _ _ _) rfl ?_
    refine Keeps.step (raiseRc_keeps ..) ?_
    refine Keeps.step (interruptBanks_keeps ..) ?_
    refine Keeps.of_only (Only.set_vpgmLost (m := 34359738368) rfl (Only.refl _ _) _) rfl ?_
    exact Keeps.refl _

theorem jointSample_keeps (s : State) (c : Nat) (vout : Nat) (vsense : Nat) (ma : Nat) : Keeps s (jointSample s c vout vsense ma) := by
  unfold jointSample
  refine Keeps.ite ?_ ?_
  · exact Keeps.refl _
  · dsimp only
    refine Keeps.ite ?_ ?_
    · refine Keeps.of_only (setBlock_only _ _ _) rfl ?_
      exact Keeps.refl _
    · refine Keeps.ite ?_ ?_
      · refine Keeps.step (raiseRc_keeps ..) ?_
        refine Keeps.of_only (setBlock_only _ _ _) rfl ?_
        exact Keeps.refl _
      · refine Keeps.of_only (setBlock_only _ _ _) rfl ?_
        exact Keeps.refl _

theorem execDropshareSample_keeps (c : Nat) (ph : List Nat) (drv : Nat) (vout : Nat) (vsense : Nat) (varr : Nat) (vpgmOk : Bool) (fault : Bool) (s : State) : KeepsO s (execDropshareSample c ph drv vout vsense varr vpgmOk fault s) := by
  unfold execDropshareSample
  refine KeepsO.ite ?_ ?_
  · exact KeepsO.fault _ _
  · refine KeepsO.ite ?_ ?_
    · refine KeepsO.next ?_
      exact Keeps.refl _
    · dsimp only
      refine KeepsO.next ?_
      refine Keeps.ite ?_ ?_
      · refine Keeps.step (loseBlock_keeps ..) ?_
        refine Keeps.ite ?_ ?_
        · refine Keeps.step (loseVpgm_keeps ..) ?_
          refine Keeps.foldl (fun _ _ _ => ?_) ?_
          · refine Keeps.step (losePhase_keeps ..) ?_
            assumption
          · refine Keeps.step (jointSample_keeps ..) ?_
            refine Keeps.of_only (setBlock_only _ _ _) rfl ?_
            exact Keeps.refl _
        · refine Keeps.foldl (fun _ _ _ => ?_) ?_
          · refine Keeps.step (losePhase_keeps ..) ?_
            assumption
          · refine Keeps.step (jointSample_keeps ..) ?_
            refine Keeps.of_only (setBlock_only _ _ _) rfl ?_
            exact Keeps.refl _
      · refine Keeps.ite ?_ ?_
        · refine Keeps.step (loseVpgm_keeps ..) ?_
          refine Keeps.foldl (fun _ _ _ => ?_) ?_
          · refine Keeps.step (losePhase_keeps ..) ?_
            assumption
          · refine Keeps.step (jointSample_keeps ..) ?_
            refine Keeps.of_only (setBlock_only _ _ _) rfl ?_
            exact Keeps.refl _
        · refine Keeps.foldl (fun _ _ _ => ?_) ?_
          · refine Keeps.step (losePhase_keeps ..) ?_
            assumption
          · refine Keeps.step (jointSample_keeps ..) ?_
            refine Keeps.of_only (setBlock_only _ _ _) rfl ?_
            exact Keeps.refl _

theorem execBlockRestartDone_keeps (c : Nat) (phases : Nat) (ok : Bool) (s : State) : KeepsO s (execBlockRestartDone c phases ok s) := by
  unfold execBlockRestartDone
  refine KeepsO.ite ?_ ?_
  · exact KeepsO.fault _ _
  · refine KeepsO.ite ?_ ?_
    · refine KeepsO.next ?_
      exact Keeps.refl _
    · refine KeepsO.ite ?_ ?_
      · dsimp only
        refine KeepsO.next ?_
        refine Keeps.of_only (reviewAll_only _) rfl ?_
        refine Keeps.foldl (fun _ _ _ => ?_) ?_
        · refine Keeps.of_only (routerBack_only _ _) rfl ?_
          assumption
        · refine Keeps.step (loseTiles_keeps ..) ?_
          refine Keeps.of_only (vlogOn_only _ _) rfl ?_
          refine Keeps.of_only (blockCond_only _ _) rfl ?_
          refine Keeps.of_only (Only.set_blockSt_lostAt_tieLost (m := 27584547717644288) rfl rfl rfl (Only.refl _ _) _ _ _) rfl ?_
          refine Keeps.of_only (setBlock_only _ _ _) rfl ?_
          exact Keeps.refl _
      · refine KeepsO.next ?_
        refine Keeps.step (raiseRc_keeps ..) ?_
        refine Keeps.of_only (Only.set_blockSt (m := 562949953421312) rfl (Only.refl _ _) _) rfl ?_
        exact Keeps.refl _

theorem execGovernorRegionTick_keeps (h : Nat) (d : Nat) (pst : Nat) (s : State) : KeepsO s (execGovernorRegionTick h d pst s) := by
  unfold execGovernorRegionTick
  refine KeepsO.ite ?_ ?_
  · exact KeepsO.fault _ _
  · refine KeepsO.ite ?_ ?_
    · refine KeepsO.next ?_
      exact Keeps.refl _
    · dsimp only
      refine KeepsO.ite ?_ ?_
      · refine KeepsO.next ?_
        refine Keeps.ite ?_ ?_
        · refine Keeps.of_only (protective_only _ _ _ _) rfl ?_
          refine Keeps.step (raiseRc_keeps ..) ?_
          refine Keeps.of_only (Only.set_gov (m := 576460752303423488) rfl (Only.refl _ _) _) rfl ?_
          refine Keeps.of_only (updSpot_only _ _ _) rfl ?_
          exact Keeps.refl _
        · refine Keeps.of_only (Only.set_gov (m := 576460752303423488) rfl (Only.refl _ _) _) rfl ?_
          refine Keeps.of_only (updSpot_only _ _ _) rfl ?_
          exact Keeps.refl _
      · refine KeepsO.next ?_
        refine Keeps.of_only (updSpot_only _ _ _) rfl ?_
        exact Keeps.refl _

theorem switchOff_keeps (s : State) (h : Nat) (code : Nat) : Keeps s (switchOff s h code) := by
  unfold switchOff
  refine Keeps.ite ?_ ?_
  · exact Keeps.refl _
  · dsimp only
    refine Keeps.of_only (reviewAll_only _) rfl ?_
    refine Keeps.of_only (protective_only _ _ _ _) rfl ?_
    refine Keeps.step (raiseRc_keeps ..) ?_
    refine Keeps.foldl (fun _ _ _ => ?_) ?_
    · refine Keeps.ite ?_ ?_
      · refine Keeps.of_only (setRouter_only _ _ _) rfl ?_
        assumption
      · assumption
    · refine Keeps.step (abortTests_keeps ..) ?_
      refine Keeps.step (interruptBanks_keeps ..) ?_
      refine Keeps.of_only (updSpot_only _ _ _) rfl ?_
      refine Keeps.of_only (Only.set_heatOff (m := 281474976710656) rfl (Only.refl _ _) _) rfl ?_
      exact Keeps.refl _

theorem switchOn_keeps (s : State) (h : Nat) : Keeps s (switchOn s h) := by
  unfold switchOn
  dsimp only
  refine Keeps.of_only (reviewAll_only _) rfl ?_
  refine Keeps.step (raise_keeps ..) ?_
  refine Keeps.foldl (fun _ _ _ => ?_) ?_
  · refine Keeps.ite ?_ ?_
    · refine Keeps.of_only (setRouter_only _ _ _) rfl ?_
      assumption
    · assumption
  · refine Keeps.of_only (updSpot_only _ _ _) rfl ?_
    refine Keeps.of_only (Only.set_heatOff (m := 281474976710656) rfl (Only.refl _ _) _) rfl ?_
    exact Keeps.refl _

theorem sensorLost_keeps (s : State) (h : Nat) : Keeps s (sensorLost s h) := by
  unfold sensorLost
  refine Keeps.step (kennelEvent_keeps ..) ?_
  refine Keeps.step (raiseRc_keeps ..) ?_
  exact Keeps.refl _

theorem disagreeStep_keeps (s : State) (h : Nat) : Keeps s (disagreeStep s h) := by
  unfold disagreeStep
  dsimp only
  refine Keeps.ite ?_ ?_
  · refine Keeps.ite ?_ ?_
    · refine Keeps.of_only (setSpot_only _ _ _) rfl ?_
      exact Keeps.refl _
    · refine Keeps.step (sensorLost_keeps ..) ?_
      refine Keeps.of_only (setSpot_only _ _ _) rfl ?_
      exact Keeps.refl _
  · refine Keeps.ite ?_ ?_
    · refine Keeps.ite ?_ ?_
      · refine Keeps.step (raise_keeps ..) ?_
        refine Keeps.of_only (setSpot_only _ _ _) rfl ?_
        exact Keeps.refl _
      · refine Keeps.of_only (setSpot_only _ _ _) rfl ?_
        exact Keeps.refl _
    · refine Keeps.of_only (setSpot_only _ _ _) rfl ?_
      exact Keeps.refl _

theorem heatCheck_keeps (s : State) (h : Nat) : Keeps s (heatCheck s h) := by
  unfold heatCheck
  dsimp only
  refine Keeps.ite ?_ ?_
  · refine Keeps.step (switchOff_keeps ..) ?_
    exact Keeps.refl _
  · refine Keeps.ite ?_ ?_
    · refine Keeps.step (switchOff_keeps ..) ?_
      exact Keeps.refl _
    · exact Keeps.refl _

theorem execHotspotSample_keeps (h : Nat) (a : Option Int) (b : Option Int) (s : State) : KeepsO s (execHotspotSample h a b s) := by
  unfold execHotspotSample
  refine KeepsO.ite ?_ ?_
  · exact KeepsO.fault _ _
  · dsimp only
    refine KeepsO.next ?_
    refine Keeps.ite ?_ ?_
    · refine Keeps.step (heatCheck_keeps ..) ?_
      refine Keeps.of_only (coolSince_only _ _) rfl ?_
      refine Keeps.of_only (dieCond_only _ _) rfl ?_
      refine Keeps.step (disagreeStep_keeps ..) ?_
      refine Keeps.ite ?_ ?_
      · refine Keeps.step (sensorLost_keeps ..) ?_
        refine Keeps.ite ?_ ?_
        · refine Keeps.step (sensorLost_keeps ..) ?_
          refine Keeps.of_only (setSpot_only _ _ _) rfl ?_
          refine Keeps.of_only (Only.set_hot (m := 140737488355328) rfl (Only.refl _ _) _) rfl ?_
          exact Keeps.refl _
        · refine Keeps.of_only (setSpot_only _ _ _) rfl ?_
          refine Keeps.of_only (Only.set_hot (m := 140737488355328) rfl (Only.refl _ _) _) rfl ?_
          exact Keeps.refl _
      · refine Keeps.ite ?_ ?_
        · refine Keeps.step (sensorLost_keeps ..) ?_
          refine Keeps.of_only (setSpot_only _ _ _) rfl ?_
          refine Keeps.of_only (Only.set_hot (m := 140737488355328) rfl (Only.refl _ _) _) rfl ?_
          exact Keeps.refl _
        · refine Keeps.of_only (setSpot_only _ _ _) rfl ?_
          refine Keeps.of_only (Only.set_hot (m := 140737488355328) rfl (Only.refl _ _) _) rfl ?_
          exact Keeps.refl _
    · refine Keeps.of_only (coolSince_only _ _) rfl ?_
      refine Keeps.of_only (dieCond_only _ _) rfl ?_
      refine Keeps.step (disagreeStep_keeps ..) ?_
      refine Keeps.ite ?_ ?_
      · refine Keeps.step (sensorLost_keeps ..) ?_
        refine Keeps.ite ?_ ?_
        · refine Keeps.step (sensorLost_keeps ..) ?_
          refine Keeps.of_only (setSpot_only _ _ _) rfl ?_
          refine Keeps.of_only (Only.set_hot (m := 140737488355328) rfl (Only.refl _ _) _) rfl ?_
          exact Keeps.refl _
        · refine Keeps.of_only (setSpot_only _ _ _) rfl ?_
          refine Keeps.of_only (Only.set_hot (m := 140737488355328) rfl (Only.refl _ _) _) rfl ?_
          exact Keeps.refl _
      · refine Keeps.ite ?_ ?_
        · refine Keeps.step (sensorLost_keeps ..) ?_
          refine Keeps.of_only (setSpot_only _ _ _) rfl ?_
          refine Keeps.of_only (Only.set_hot (m := 140737488355328) rfl (Only.refl _ _) _) rfl ?_
          exact Keeps.refl _
        · refine Keeps.of_only (setSpot_only _ _ _) rfl ?_
          refine Keeps.of_only (Only.set_hot (m := 140737488355328) rfl (Only.refl _ _) _) rfl ?_
          exact Keeps.refl _

theorem execRegionReturn_keeps (h : Nat) (s : State) : KeepsO s (execRegionReturn h s) := by
  unfold execRegionReturn
  refine KeepsO.ite ?_ ?_
  · exact KeepsO.fault _ _
  · dsimp only
    refine KeepsO.ite ?_ ?_
    · refine KeepsO.next ?_
      refine Keeps.step (switchOn_keeps ..) ?_
      exact Keeps.refl _
    · refine KeepsO.next ?_
      exact Keeps.refl _

theorem regionReturn_keeps {s : State} {h : Nat} {s' : State} (hq : regionReturn s h = .inr s') : Keeps s s' := by
  unfold regionReturn at hq
  split at hq
  · obtain rfl := Sum.inr.inj hq
    refine Keeps.step (switchOn_keeps ..) ?_
    exact Keeps.refl _
  · cases hq

theorem execStackTempSample_keeps (k : Nat) (v : Option Int) (s : State) : KeepsO s (execStackTempSample k v s) := by
  unfold execStackTempSample
  refine KeepsO.ite ?_ ?_
  · exact KeepsO.fault _ _
  · split
    · refine KeepsO.next ?_
      exact Keeps.refl _
    · dsimp only
      refine KeepsO.next ?_
      refine Keeps.ite ?_ ?_
      · refine Keeps.of_only (protective_only _ _ _ _) rfl ?_
        refine Keeps.step (raiseRc_keeps ..) ?_
        refine Keeps.of_only (stackCond_only _ _) rfl ?_
        refine Keeps.of_only (setStack_only _ _ _) rfl ?_
        exact Keeps.refl _
      · refine Keeps.of_only (stackCond_only _ _) rfl ?_
        refine Keeps.of_only (setStack_only _ _ _) rfl ?_
        exact Keeps.refl _

theorem coolSensor_keeps (s : State) (i : Nat) (v : Option Int) : Keeps s (coolSensor s i v) := by
  unfold coolSensor
  dsimp only
  refine Keeps.ite ?_ ?_
  · exact Keeps.refl _
  · refine Keeps.ite ?_ ?_
    · refine Keeps.of_only (Only.set_coolant (m := 144115188075855872) rfl (Only.refl _ _) _) rfl ?_
      exact Keeps.refl _
    · refine Keeps.ite ?_ ?_
      · refine Keeps.of_only (Only.set_coolant (m := 144115188075855872) rfl (Only.refl _ _) _) rfl ?_
        exact Keeps.refl _
      · refine Keeps.step (raiseRc_keeps ..) ?_
        refine Keeps.of_only (Only.set_coolant (m := 144115188075855872) rfl (Only.refl _ _) _) rfl ?_
        exact Keeps.refl _

theorem coolSource_keeps (s : State) (n : Nat) (b : Bool) : Keeps s (coolSource s n b) := by
  unfold coolSource
  dsimp only
  refine Keeps.ite ?_ ?_
  · refine Keeps.step (raiseRc_keeps ..) ?_
    refine Keeps.of_only (setCond_only _ _ _) rfl ?_
    exact Keeps.refl _
  · refine Keeps.of_only (setCond_only _ _ _) rfl ?_
    exact Keeps.refl _

theorem stopCompute_keeps (s : State) : Keeps s (stopCompute s) := by
  unfold stopCompute
  dsimp only
  refine Keeps.step (abortTests_keeps ..) ?_
  refine Keeps.step (interruptBanks_keeps ..) ?_
  refine Keeps.foldl (fun _ _ _ => ?_) ?_
  · split
    · assumption
    · refine Keeps.ite ?_ ?_
      · assumption
      · refine Keeps.of_only (dropRuns_only _ _) rfl ?_
        refine Keeps.step (engineFault_keeps ..) ?_
        assumption
  · refine Keeps.of_only (Only.set_power_coolant (m := 144115188075855888) rfl rfl (Only.refl _ _) _ _) rfl ?_
    exact Keeps.refl _

theorem coolantStop_keeps (s : State) : Keeps s (coolantStop s) := by
  unfold coolantStop
  dsimp only
  refine Keeps.of_only (protective_only _ _ _ _) rfl ?_
  refine Keeps.of_only (addObj_only _ _ _ _ _ _) rfl ?_
  refine Keeps.step (stopCompute_keeps ..) ?_
  refine Keeps.step (raiseRc_keeps ..) ?_
  exact Keeps.refl _

theorem coolantSampled_keeps (s : State) (v : List (Option Int)) : Keeps s (coolantSampled s v) := by
  unfold coolantSampled
  dsimp only
  refine Keeps.of_only (coolGood_only _) rfl ?_
  refine Keeps.of_only (coolCriteria_only _) rfl ?_
  refine Keeps.step (coolSource_keeps ..) ?_
  refine Keeps.step (coolSource_keeps ..) ?_
  refine Keeps.step (coolSource_keeps ..) ?_
  refine Keeps.foldl (fun _ _ _ => ?_) ?_
  · refine Keeps.step (coolSensor_keeps ..) ?_
    assumption
  · exact Keeps.refl _

theorem execCoolantRecovered_keeps (s : State) : KeepsO s (execCoolantRecovered s) := by
  unfold execCoolantRecovered
  split
  · refine KeepsO.ite ?_ ?_
    · refine KeepsO.next ?_
      refine Keeps.step (raise_keeps ..) ?_
      refine Keeps.of_only (Only.set_coolant (m := 144115188075855872) rfl (Only.refl _ _) _) rfl ?_
      exact Keeps.refl _
    · refine KeepsO.next ?_
      exact Keeps.refl _
  · refine KeepsO.next ?_
    exact Keeps.refl _

end Sys2Proof.Machine
end

