-- ==== Sys2Proof/Laws/OnlyRepair.lean ====
section
/-! SUPPORT. What each operation of Machine/Repair.lean can change, at most. -/
namespace Sys2Proof.Machine

theorem linkFailed_only (s : State) (t : Nat) (port : Nat) : Only 0x90000030025f0005a0 s (linkFailed s t port) := by
  unfold linkFailed
  refine Only.ite ?_ ?_
  · exact Only.refl _ _
  · dsimp only
    refine Only.step (reviewAll_only ..) rfl ?_
    refine Only.step (raiseRc_only ..) rfl ?_
    refine Only.step (kennelEvent_only ..) rfl ?_
    refine Only.step (cutRoutes_only ..) rfl ?_
    refine Only.step (setObj_only ..) rfl ?_
    exact Only.refl _ _

theorem execFlitCrcError_only (t : Nat) (port : Nat) (again : Bool) (s : State) : OnlyO 0x90800030025f0005a0 s (execFlitCrcError t port again s) := by
  unfold execFlitCrcError
  refine OnlyO.ite ?_ ?_
  · exact OnlyO.fault _ _ _
  · dsimp only
    refine OnlyO.next ?_
    refine Only.ite ?_ ?_
    · refine Only.step (linkFailed_only ..) rfl ?_
      refine Only.set_retries rfl ?_ _
      exact Only.refl _ _
    · refine Only.step (addObj_only ..) rfl ?_
      refine Only.set_retries rfl ?_ _
      exact Only.refl _ _

theorem execRouterFail_only (t : Nat) (s : State) : OnlyO 0x90002030025f0005a0 s (execRouterFail t s) := by
  unfold execRouterFail
  refine OnlyO.ite ?_ ?_
  · exact OnlyO.fault _ _ _
  · refine OnlyO.next ?_
    refine Only.step (routerFail_only ..) rfl ?_
    exact Only.refl _ _

theorem execReferenceFail_only (r : Nat) (s : State) : OnlyO 0x1010000000000001a0 s (execReferenceFail r s) := by
  unfold execReferenceFail
  refine OnlyO.ite ?_ ?_
  · exact OnlyO.fault _ _ _
  · refine OnlyO.ite ?_ ?_
    · refine OnlyO.next ?_
      exact Only.refl _ _
    · dsimp only
      refine OnlyO.ite ?_ ?_
      · refine OnlyO.next ?_
        refine Only.set_refDown rfl ?_ _
        exact Only.refl _ _
      · refine OnlyO.ite ?_ ?_
        · refine OnlyO.next ?_
          refine Only.step (raise_only ..) rfl ?_
          refine Only.step (setObj_only ..) rfl ?_
          refine Only.step (setCond_only ..) rfl ?_
          refine Only.set_refDown rfl ?_ _
          exact Only.refl _ _
        · refine OnlyO.next ?_
          refine Only.step (addObj_only ..) rfl ?_
          refine Only.step (setObj_only ..) rfl ?_
          refine Only.step (setCond_only ..) rfl ?_
          refine Only.set_refDown rfl ?_ _
          exact Only.refl _ _

theorem stackFail_only (s : State) (k : Nat) : Only 0xe00a09001007003a77fdda0 s (stackFail s k) := by
  unfold stackFail
  refine Only.ite ?_ ?_
  · exact Only.refl _ _
  · dsimp only
    refine Only.foldl (fun _ _ _ => ?_) ?_
    · refine Only.ite ?_ ?_
      · refine Only.step (engineFault_only ..) rfl ?_
        assumption
      · assumption
    · refine Only.step (raiseRc_only ..) rfl ?_
      refine Only.step (stackCond_only ..) rfl ?_
      refine Only.step (setStack_only ..) rfl ?_
      exact Only.refl _ _

theorem execHbmPatrol_only (k : Nat) (e : Nat) (corrected : Nat) (bad : List Nat) (s : State) : OnlyO 0xe00a09001007003a77fdda0 s (execHbmPatrol k e corrected bad s) := by
  unfold execHbmPatrol
  refine OnlyO.ite ?_ ?_
  · exact OnlyO.fault _ _ _
  · dsimp only
    refine OnlyO.next ?_
    refine Only.foldl (fun _ _ _ => ?_) ?_
    · refine Only.ite ?_ ?_
      · assumption
      · refine Only.ite ?_ ?_
        · refine Only.step (stackFail_only ..) rfl ?_
          refine Only.step (kennelEvent_only ..) rfl ?_
          refine Only.step (raiseRc_only ..) rfl ?_
          refine Only.step (addObj_only ..) rfl ?_
          refine Only.set_hbmErr rfl ?_ _
          assumption
        · refine Only.step (kennelEvent_only ..) rfl ?_
          refine Only.step (raiseRc_only ..) rfl ?_
          refine Only.step (addObj_only ..) rfl ?_
          refine Only.set_hbmErr rfl ?_ _
          assumption
    · refine Only.step (addObj_only ..) rfl ?_
      exact Only.refl _ _

theorem execMemoryBridgeFail_only (m : Nat) (s : State) : OnlyO 0xe00a09001007003a77fdda0 s (execMemoryBridgeFail m s) := by
  unfold execMemoryBridgeFail
  refine OnlyO.ite ?_ ?_
  · exact OnlyO.fault _ _ _
  · refine OnlyO.next ?_
    refine Only.foldl (fun _ _ _ => ?_) ?_
    · refine Only.step (stackFail_only ..) rfl ?_
      assumption
    · refine Only.step (setCond_only ..) rfl ?_
      exact Only.refl _ _

theorem startTest_only (s : State) (t : Nat) (full : Bool) (asked : Bool) : Only 0xf0000000000000000 s (startTest s t full asked) := by
  unfold startTest
  refine Only.set_ftests_ftLight_ftFull_ftLast rfl rfl rfl rfl ?_ _ _ _ _
  exact Only.refl _ _

theorem execFtestLightDue_only (d : Nat) (s : State) : OnlyO 0xf0000000000000000 s (execFtestLightDue d s) := by
  unfold execFtestLightDue
  refine OnlyO.ite ?_ ?_
  · exact OnlyO.fault _ _ _
  · refine OnlyO.ite ?_ ?_
    · refine OnlyO.next ?_
      exact Only.refl _ _
    · split
      · refine OnlyO.next ?_
        exact Only.refl _ _
      · refine OnlyO.next ?_
        refine Only.ite ?_ ?_
        · refine Only.step (startTest_only ..) rfl ?_
          exact Only.refl _ _
        · exact Only.refl _ _

theorem execFtestFullDue_only (d : Nat) (s : State) : OnlyO 0xf0000000000000000 s (execFtestFullDue d s) := by
  unfold execFtestFullDue
  refine OnlyO.ite ?_ ?_
  · exact OnlyO.fault _ _ _
  · refine OnlyO.ite ?_ ?_
    · refine OnlyO.next ?_
      exact Only.refl _ _
    · split
      · refine OnlyO.next ?_
        exact Only.refl _ _
      · refine OnlyO.next ?_
        refine Only.ite ?_ ?_
        · refine Only.step (startTest_only ..) rfl ?_
          exact Only.refl _ _
        · exact Only.refl _ _

theorem execFtestDone_only (d : Nat) (part : Nat) (s : State) : OnlyO 0x9100000000002001a0 s (execFtestDone d part s) := by
  unfold execFtestDone
  refine OnlyO.ite ?_ ?_
  · exact OnlyO.fault _ _ _
  · split
    · refine OnlyO.next ?_
      exact Only.refl _ _
    · refine OnlyO.ite ?_ ?_
      · refine OnlyO.next ?_
        refine Only.set_ftests rfl ?_ _
        exact Only.refl _ _
      · dsimp only
        refine OnlyO.next ?_
        refine Only.ite ?_ ?_
        · refine Only.step (addObj_only ..) rfl ?_
          refine Only.ite ?_ ?_
          · refine Only.step (kennelCorrected_only ..) rfl ?_
            refine Only.step (kennelAdd_only ..) rfl ?_
            refine Only.ite ?_ ?_
            · refine Only.step (testedBanks_only ..) rfl ?_
              refine Only.set_ftests rfl ?_ _
              exact Only.refl _ _
            · refine Only.set_ftests rfl ?_ _
              exact Only.refl _ _
          · refine Only.step (kennelAdd_only ..) rfl ?_
            refine Only.ite ?_ ?_
            · refine Only.step (testedBanks_only ..) rfl ?_
              refine Only.set_ftests rfl ?_ _
              exact Only.refl _ _
            · refine Only.set_ftests rfl ?_ _
              exact Only.refl _ _
        · refine Only.step (raiseRc_only ..) rfl ?_
          refine Only.step (kennelEvent_only ..) rfl ?_
          refine Only.step (addObj_only ..) rfl ?_
          refine Only.step (kennelAdd_only ..) rfl ?_
          refine Only.ite ?_ ?_
          · refine Only.step (testedBanks_only ..) rfl ?_
            refine Only.set_ftests rfl ?_ _
            exact Only.refl _ _
          · refine Only.set_ftests rfl ?_ _
            exact Only.refl _ _

theorem requestTest_only {s : State} {v : Nat} {s' : State} (hq : requestTest s v = .inr s') : Only 0xf0000000000000000 s s' := by
  unfold requestTest at hq
  dsimp only at hq
  split at hq
  · cases hq
  · split at hq
    · cases hq
    · split at hq
      · cases hq
      · obtain rfl := Sum.inr.inj hq
        refine Only.step (startTest_only ..) rfl ?_
        exact Only.refl _ _

end Sys2Proof.Machine
end

