-- ==== Sys2Proof/Laws/KeepsRepair.lean ====
section
/-! SUPPORT. Each operation of Machine/Repair.lean keeps: the form of the memories and the bounds of the stores. -/
namespace Sys2Proof.Machine

theorem linkFailed_keeps (s : State) (t : Nat) (port : Nat) : Keeps s (linkFailed s t port) := by
  unfold linkFailed
  refine Keeps.ite ?_ ?_
  · exact Keeps.refl _
  · dsimp only
    refine Keeps.of_only (reviewAll_only _) rfl ?_
    refine Keeps.step (raiseRc_keeps ..) ?_
    refine Keeps.step (kennelEvent_keeps ..) ?_
    refine Keeps.step (cutRoutes_keeps ..) ?_
    refine Keeps.of_only (setObj_only _ _ _ _ _) rfl ?_
    exact Keeps.refl _

theorem execFlitCrcError_keeps (t : Nat) (port : Nat) (again : Bool) (s : State) : KeepsO s (execFlitCrcError t port again s) := by
  unfold execFlitCrcError
  refine KeepsO.ite ?_ ?_
  · exact KeepsO.fault _ _
  · dsimp only
    refine KeepsO.next ?_
    refine Keeps.ite ?_ ?_
    · refine Keeps.step (linkFailed_keeps ..) ?_
      refine Keeps.of_only (Only.set_retries (m := 9223372036854775808) rfl (Only.refl _ _) _) rfl ?_
      exact Keeps.refl _
    · refine Keeps.of_only (addObj_only _ _ _ _ _ _) rfl ?_
      refine Keeps.of_only (Only.set_retries (m := 9223372036854775808) rfl (Only.refl _ _) _) rfl ?_
      exact Keeps.refl _

theorem execRouterFail_keeps (t : Nat) (s : State) : KeepsO s (execRouterFail t s) := by
  unfold execRouterFail
  refine KeepsO.ite ?_ ?_
  · exact KeepsO.fault _ _
  · refine KeepsO.next ?_
    refine Keeps.step (routerFail_keeps ..) ?_
    exact Keeps.refl _

theorem execReferenceFail_keeps (r : Nat) (s : State) : KeepsO s (execReferenceFail r s) := by
  unfold execReferenceFail
  refine KeepsO.ite ?_ ?_
  · exact KeepsO.fault _ _
  · refine KeepsO.ite ?_ ?_
    · refine KeepsO.next ?_
      exact Keeps.refl _
    · dsimp only
      refine KeepsO.ite ?_ ?_
      · refine KeepsO.next ?_
        refine Keeps.of_only (Only.set_refDown (m := 1152921504606846976) rfl (Only.refl _ _) _) rfl ?_
        exact Keeps.refl _
      · refine KeepsO.ite ?_ ?_
        · refine KeepsO.next ?_
          refine Keeps.step (raise_keeps ..) ?_
          refine Keeps.of_only (setObj_only _ _ _ _ _) rfl ?_
          refine Keeps.of_only (setCond_only _ _ _) rfl ?_
          refine Keeps.of_only (Only.set_refDown (m := 1152921504606846976) rfl (Only.refl _ _) _) rfl ?_
          exact Keeps.refl _
        · refine KeepsO.next ?_
          refine Keeps.of_only (addObj_only _ _ _ _ _ _) rfl ?_
          refine Keeps.of_only (setObj_only _ _ _ _ _) rfl ?_
          refine Keeps.of_only (setCond_only _ _ _) rfl ?_
          refine Keeps.of_only (Only.set_refDown (m := 1152921504606846976) rfl (Only.refl _ _) _) rfl ?_
          exact Keeps.refl _

theorem stackFail_keeps (s : State) (k : Nat) : Keeps s (stackFail s k) := by
  unfold stackFail
  refine Keeps.ite ?_ ?_
  · exact Keeps.refl _
  · dsimp only
    refine Keeps.foldl (fun _ _ _ => ?_) ?_
    · refine Keeps.ite ?_ ?_
      · refine Keeps.step (engineFault_keeps ..) ?_
        assumption
      · assumption
    · refine Keeps.step (raiseRc_keeps ..) ?_
      refine Keeps.of_only (stackCond_only _ _) rfl ?_
      refine Keeps.of_only (setStack_only _ _ _) rfl ?_
      exact Keeps.refl _

theorem execHbmPatrol_keeps (k : Nat) (e : Nat) (corrected : Nat) (bad : List Nat) (s : State) : KeepsO s (execHbmPatrol k e corrected bad s) := by
  unfold execHbmPatrol
  refine KeepsO.ite ?_ ?_
  · exact KeepsO.fault _ _
  · dsimp only
    refine KeepsO.next ?_
    refine Keeps.foldl (fun _ _ _ => ?_) ?_
    · refine Keeps.ite ?_ ?_
      · assumption
      · refine Keeps.ite ?_ ?_
        · refine Keeps.step (stackFail_keeps ..) ?_
          refine Keeps.step (kennelEvent_keeps ..) ?_
          refine Keeps.step (raiseRc_keeps ..) ?_
          refine Keeps.of_only (addObj_only _ _ _ _ _ _) rfl ?_
          refine Keeps.of_only (Only.set_hbmErr (m := 4294967296) rfl (Only.refl _ _) _) rfl ?_
          assumption
        · refine Keeps.step (kennelEvent_keeps ..) ?_
          refine Keeps.step (raiseRc_keeps ..) ?_
          refine Keeps.of_only (addObj_only _ _ _ _ _ _) rfl ?_
          refine Keeps.of_only (Only.set_hbmErr (m := 4294967296) rfl (Only.refl _ _) _) rfl ?_
          assumption
    · refine Keeps.of_only (addObj_only _ _ _ _ _ _) rfl ?_
      exact Keeps.refl _

theorem execMemoryBridgeFail_keeps (m : Nat) (s : State) : KeepsO s (execMemoryBridgeFail m s) := by
  unfold execMemoryBridgeFail
  refine KeepsO.ite ?_ ?_
  · exact KeepsO.fault _ _
  · refine KeepsO.next ?_
    refine Keeps.foldl (fun _ _ _ => ?_) ?_
    · refine Keeps.step (stackFail_keeps ..) ?_
      assumption
    · refine Keeps.of_only (setCond_only _ _ _) rfl ?_
      exact Keeps.refl _

theorem execFtestDone_keeps (d : Nat) (part : Nat) (s : State) : KeepsO s (execFtestDone d part s) := by
  unfold execFtestDone
  refine KeepsO.ite ?_ ?_
  · exact KeepsO.fault _ _
  · split
    · refine KeepsO.next ?_
      exact Keeps.refl _
    · refine KeepsO.ite ?_ ?_
      · refine KeepsO.next ?_
        refine Keeps.of_only (Only.set_ftests (m := 18446744073709551616) rfl (Only.refl _ _) _) rfl ?_
        exact Keeps.refl _
      · dsimp only
        refine KeepsO.next ?_
        refine Keeps.ite ?_ ?_
        · refine Keeps.of_only (addObj_only _ _ _ _ _ _) rfl ?_
          refine Keeps.ite ?_ ?_
          · refine Keeps.of_only (kennelCorrected_only _ _ _) rfl ?_
            refine Keeps.of_only (kennelAdd_only _ _) rfl ?_
            refine Keeps.ite ?_ ?_
            · refine Keeps.step (testedBanks_keeps ..) ?_
              refine Keeps.of_only (Only.set_ftests (m := 18446744073709551616) rfl (Only.refl _ _) _) rfl ?_
              exact Keeps.refl _
            · refine Keeps.of_only (Only.set_ftests (m := 18446744073709551616) rfl (Only.refl _ _) _) rfl ?_
              exact Keeps.refl _
          · refine Keeps.of_only (kennelAdd_only _ _) rfl ?_
            refine Keeps.ite ?_ ?_
            · refine Keeps.step (testedBanks_keeps ..) ?_
              refine Keeps.of_only (Only.set_ftests (m := 18446744073709551616) rfl (Only.refl _ _) _) rfl ?_
              exact Keeps.refl _
            · refine Keeps.of_only (Only.set_ftests (m := 18446744073709551616) rfl (Only.refl _ _) _) rfl ?_
              exact Keeps.refl _
        · refine Keeps.step (raiseRc_keeps ..) ?_
          refine Keeps.step (kennelEvent_keeps ..) ?_
          refine Keeps.of_only (addObj_only _ _ _ _ _ _) rfl ?_
          refine Keeps.of_only (kennelAdd_only _ _) rfl ?_
          refine Keeps.ite ?_ ?_
          · refine Keeps.step (testedBanks_keeps ..) ?_
            refine Keeps.of_only (Only.set_ftests (m := 18446744073709551616) rfl (Only.refl _ _) _) rfl ?_
            exact Keeps.refl _
          · refine Keeps.of_only (Only.set_ftests (m := 18446744073709551616) rfl (Only.refl _ _) _) rfl ?_
            exact Keeps.refl _

end Sys2Proof.Machine
end

