-- ==== Sys2Proof/Laws/OnlyValues.lean ====
section
/-! SUPPORT. What each operation of Machine/Values.lean can change, at most. -/
namespace Sys2Proof.Machine

theorem setCard_only (s : State) (c : Nat) (x : Card) : Only 0x200000000000000000 s (setCard s c x) := by
  unfold setCard
  refine Only.set_cards rfl ?_ _
  exact Only.refl _ _

end Sys2Proof.Machine
end

