-- ==== Sys2Proof/Laws/OnlyBroler.lean ====
section
/-! SUPPORT. What each operation of Machine/Broler.lean can change, at most. -/
namespace Sys2Proof.Machine

theorem setWindow_only (s : State) (p : Nat) (w : Nat) (x : Window) : Only 0x800000000000000000000 s (setWindow s p w x) := by
  unfold setWindow
  refine Only.set_windows rfl ?_ _
  exact Only.refl _ _

theorem announce_only (s : State) (p : Nat) (w : Nat) : Only 0x80080000000000000000000 s (announce s p w) := by
  unfold announce
  dsimp only
  refine Only.foldl (fun _ _ _ => ?_) ?_
  · refine Only.step (emit_only ..) rfl ?_
    assumption
  · exact Only.refl _ _

theorem windowSettle_only (s : State) (p : Nat) (w : Nat) : Only 0xc0880100000000200014880 s (windowSettle s p w) := by
  unfold windowSettle
  refine Only.ite ?_ ?_
  · exact Only.refl _ _
  · dsimp only
    split
    · refine Only.ite ?_ ?_
      · refine Only.step (completeCmd_only ..) rfl ?_
        refine Only.step (announce_only ..) rfl ?_
        refine Only.step (setWindow_only ..) rfl ?_
        exact Only.refl _ _
      · refine Only.step (announce_only ..) rfl ?_
        refine Only.step (setWindow_only ..) rfl ?_
        exact Only.refl _ _
    · refine Only.step (announce_only ..) rfl ?_
      refine Only.step (setWindow_only ..) rfl ?_
      exact Only.refl _ _

theorem ackRecords_only (s : State) (ses : Nat) (sel : ReplyRec → Bool) : Only 0x4000 s (ackRecords s ses sel) := by
  unfold ackRecords
  refine Only.set_replyQ rfl ?_ _
  exact Only.refl _ _

theorem ackRx_only (s : State) (ses : Nat) (c : Nat) (ack : Nat) (credit : Nat) (ranges : List (Nat × Nat)) : Only 0x8008000000000000000c000 s (ackRx s ses c ack credit ranges) := by
  unfold ackRx
  dsimp only
  refine Only.step (flushAll_only ..) rfl ?_
  refine Only.step (pump_only ..) rfl ?_
  refine Only.step (ackRecords_only ..) rfl ?_
  refine Only.step (setChan_only ..) rfl ?_
  exact Only.refl _ _

theorem resendMissing_only (s : State) (ses : Nat) (c : Nat) : Only 0x80080000000000000000000 s (resendMissing s ses c) := by
  unfold resendMissing
  dsimp only
  split
  · exact Only.refl _ _
  · refine Only.ite ?_ ?_
    · exact Only.refl _ _
    · refine Only.step (sendSegs_only ..) rfl ?_
      refine Only.step (updSession_only ..) rfl ?_
      exact Only.refl _ _

theorem dropOutWrites_only (s : State) (ses : Nat) : Only 0xc2080100000000200014880 s (dropOutWrites s ses) := by
  unfold dropOutWrites
  dsimp only
  refine Only.foldl (fun _ _ _ => ?_) ?_
  · split
    · refine Only.step (refuseCmd_only ..) rfl ?_
      assumption
    · assumption
  · refine Only.set_outWrites rfl ?_ _
    exact Only.refl _ _

theorem closeSession_only (s : State) (ses : Nat) : Only 0xc398010000000020001c880 s (closeSession s ses) := by
  unfold closeSession
  dsimp only
  refine Only.foldl (fun _ _ _ => ?_) ?_
  · refine Only.step (windowSettle_only ..) rfl ?_
    assumption
  · refine Only.ite ?_ ?_
    · refine Only.set_inWrites rfl ?_ _
      refine Only.step (dropOutWrites_only ..) rfl ?_
      refine Only.step (ackRecords_only ..) rfl ?_
      refine Only.set_debugQ_sessions_closed rfl rfl rfl ?_ _ _ _
      exact Only.refl _ _
    · refine Only.set_life_inWrites rfl rfl ?_ _ _
      refine Only.step (dropOutWrites_only ..) rfl ?_
      refine Only.step (ackRecords_only ..) rfl ?_
      refine Only.set_debugQ_sessions_closed rfl rfl rfl ?_ _ _ _
      exact Only.refl _ _

theorem openLink_only (s : State) (p : Nat) (r : Nat) : Only 0x80080000000000000000000 s (openLink s p r) := by
  unfold openLink
  refine Only.ite ?_ ?_
  · exact Only.refl _ _
  · dsimp only
    split
    · refine Only.step (setSession_only ..) rfl ?_
      exact Only.refl _ _
    · refine Only.step (sendFrame_only ..) rfl ?_
      refine Only.step (setSession_only ..) rfl ?_
      exact Only.refl _ _

theorem openLinks_only (s : State) (p : Nat) : Only 0x80080000000000000000000 s (openLinks s p) := by
  unfold openLinks
  dsimp only
  refine Only.foldl (fun _ _ _ => ?_) ?_
  · refine Only.step (openLink_only ..) rfl ?_
    assumption
  · exact Only.refl _ _

end Sys2Proof.Machine
end

