-- ==== Sys2Proof/Laws/KeepsBroler.lean ====
section
/-! SUPPORT. Each operation of Machine/Broler.lean keeps: the form of the memories and the bounds of the stores. -/
namespace Sys2Proof.Machine

theorem windowSettle_keeps (s : State) (p : Nat) (w : Nat) : Keeps s (windowSettle s p w) := by
  unfold windowSettle
  refine Keeps.ite ?_ ?_
  · exact Keeps.refl _
  · dsimp only
    split
    · refine Keeps.ite ?_ ?_
      · refine Keeps.step (completeCmd_keeps ..) ?_
        refine Keeps.of_only (announce_only _ _ _) rfl ?_
        refine Keeps.of_only (setWindow_only _ _ _ _) rfl ?_
        exact Keeps.refl _
      · refine Keeps.of_only (announce_only _ _ _) rfl ?_
        refine Keeps.of_only (setWindow_only _ _ _ _) rfl ?_
        exact Keeps.refl _
    · refine Keeps.of_only (announce_only _ _ _) rfl ?_
      refine Keeps.of_only (setWindow_only _ _ _ _) rfl ?_
      exact Keeps.refl _

theorem dropOutWrites_keeps (s : State) (ses : Nat) : Keeps s (dropOutWrites s ses) := by
  unfold dropOutWrites
  dsimp only
  refine Keeps.foldl (fun _ _ _ => ?_) ?_
  · split
    · refine Keeps.step (refuseCmd_keeps ..) ?_
      assumption
    · assumption
  · refine Keeps.of_only (Only.set_outWrites (m := 38685626227668133590597632) rfl (Only.refl _ _) _) rfl ?_
    exact Keeps.refl _

theorem closeSession_keeps (s : State) (ses : Nat) : Keeps s (closeSession s ses) := by
  unfold closeSession
  dsimp only
  refine Keeps.foldl (fun _ _ _ => ?_) ?_
  · refine Keeps.step (windowSettle_keeps ..) ?_
    assumption
  · refine Keeps.ite ?_ ?_
    · refine Keeps.of_only (Only.set_inWrites (m := 19342813113834066795298816) rfl (Only.refl _ _) _) rfl ?_
      refine Keeps.step (dropOutWrites_keeps ..) ?_
      refine Keeps.of_only (ackRecords_only _ _ _) rfl ?_
      refine Keeps.of_only (Only.set_debugQ_sessions_closed (m := 1813388729421943762092032) rfl rfl rfl (Only.refl _ _) _ _ _) rfl ?_
      exact Keeps.refl _
    · refine Keeps.of_only (Only.set_life_inWrites (m := 19343108261739246148124672) rfl rfl (Only.refl _ _) _ _) rfl ?_
      refine Keeps.step (dropOutWrites_keeps ..) ?_
      refine Keeps.of_only (ackRecords_only _ _ _) rfl ?_
      refine Keeps.of_only (Only.set_debugQ_sessions_closed (m := 1813388729421943762092032) rfl rfl rfl (Only.refl _ _) _ _ _) rfl ?_
      exact Keeps.refl _

end Sys2Proof.Machine
end

