-- ==== Sys2Proof/Laws/OnlyLifeOps.lean ====
section
/-! SUPPORT. What each operation of Machine/LifeOps.lean can change, at most. -/
namespace Sys2Proof.Machine

theorem attendedRecords_only (s : State) : Only 0x900000000000200080 s (attendedRecords s) := by
  unfold attendedRecords
  refine Only.step (closeEntries_only ..) rfl ?_
  refine Only.set_life rfl ?_ _
  exact Only.refl _ _

theorem enterStarting_only (s : State) (step : Nat) : Only 0x900000000000200098 s (enterStarting s step) := by
  unfold enterStarting
  dsimp only
  refine Only.set_powerOns_power_life rfl rfl rfl ?_ _ _ _
  refine Only.ite ?_ ?_
  · refine Only.step (attendedRecords_only ..) rfl ?_
    exact Only.refl _ _
  · exact Only.refl _ _

theorem beginStop_only (s : State) (target : Nat) : Only 0x100000000000000010 s (beginStop s target) := by
  unfold beginStop
  refine Only.set_power_life rfl rfl ?_ _ _
  exact Only.refl _ _

theorem enterStandby_only (s : State) : Only 0xc398010000000020001c890 s (enterStandby s) := by
  unfold enterStandby
  dsimp only
  refine Only.set_power_life rfl rfl ?_ _ _
  refine Only.foldl (fun _ _ _ => ?_) ?_
  · refine Only.step (closeSession_only ..) rfl ?_
    assumption
  · exact Only.refl _ _

theorem powerTarget_only {s : State} {v : Nat} {s' : State} (hq : powerTarget s v = .inr s') : Only 0xc398090000000020021c898 s s' := by
  unfold powerTarget at hq
  split at hq
  · obtain rfl := Sum.inr.inj hq
    refine Only.step (beginStop_only ..) rfl ?_
    exact Only.refl _ _
  · obtain rfl := Sum.inr.inj hq
    refine Only.step (beginStop_only ..) rfl ?_
    exact Only.refl _ _
  · obtain rfl := Sum.inr.inj hq
    refine Only.step (enterStandby_only ..) rfl ?_
    exact Only.refl _ _
  · split at hq
    · cases hq
    · obtain rfl := Sum.inr.inj hq
      refine Only.step (enterStarting_only ..) rfl ?_
      exact Only.refl _ _
  · cases hq

theorem cardPrepare_only {s : State} {c : Nat} {s' : State} (hq : cardPrepare s c = .inr s') : Only 0x200000000000000000 s s' := by
  unfold cardPrepare at hq
  split at hq
  · cases hq
  · split at hq
    · cases hq
      exact Only.refl _ _
    · dsimp only at hq
      obtain rfl := Sum.inr.inj hq
      refine Only.step (setCard_only ..) rfl ?_
      refine Only.ite ?_ ?_
      · refine Only.step (setCard_only ..) rfl ?_
        exact Only.refl _ _
      · exact Only.refl _ _

end Sys2Proof.Machine
end

