-- ==== Sys2Proof/Laws/KeepsLifeOps.lean ====
section
/-! SUPPORT. Each operation of Machine/LifeOps.lean keeps: the form of the memories and the bounds of the stores. -/
namespace Sys2Proof.Machine

theorem attendedRecords_keeps (s : State) : Keeps s (attendedRecords s) := by
  unfold attendedRecords
  refine Keeps.step (closeEntries_keeps ..) ?_
  refine Keeps.of_only (Only.set_life (m := 295147905179352825856) rfl (Only.refl _ _) _) rfl ?_
  exact Keeps.refl _

theorem enterStarting_keeps (s : State) (step : Nat) : Keeps s (enterStarting s step) := by
  unfold enterStarting
  dsimp only
  refine Keeps.of_only (Only.set_powerOns_power_life (m := 295147905179352825880) rfl rfl rfl (Only.refl _ _) _ _ _) rfl ?_
  refine Keeps.ite ?_ ?_
  · refine Keeps.step (attendedRecords_keeps ..) ?_
    exact Keeps.refl _
  · exact Keeps.refl _

theorem enterStandby_keeps (s : State) : Keeps s (enterStandby s) := by
  unfold enterStandby
  dsimp only
  refine Keeps.of_only (Only.set_power_life (m := 295147905179352825872) rfl rfl (Only.refl _ _) _ _) rfl ?_
  refine Keeps.foldl (fun _ _ _ => ?_) ?_
  · refine Keeps.step (closeSession_keeps ..) ?_
    assumption
  · exact Keeps.refl _

theorem powerTarget_keeps {s : State} {v : Nat} {s' : State} (hq : powerTarget s v = .inr s') : Keeps s s' := by
  unfold powerTarget at hq
  split at hq
  · obtain rfl := Sum.inr.inj hq
    refine Keeps.of_only (beginStop_only _ _) rfl ?_
    exact Keeps.refl _
  · obtain rfl := Sum.inr.inj hq
    refine Keeps.of_only (beginStop_only _ _) rfl ?_
    exact Keeps.refl _
  · obtain rfl := Sum.inr.inj hq
    refine Keeps.step (enterStandby_keeps ..) ?_
    exact Keeps.refl _
  · split at hq
    · cases hq
    · obtain rfl := Sum.inr.inj hq
      refine Keeps.step (enterStarting_keeps ..) ?_
      exact Keeps.refl _
  · cases hq

end Sys2Proof.Machine
end

