-- ==== Sys2Proof/Laws/OnlyRequests.lean ====
section
/-! SUPPORT. What each operation of Machine/Requests.lean can change, at most. -/
namespace Sys2Proof.Machine

theorem refuseReq_only (s : State) (ses : Nat) (op : Nat) (reqid : Nat) (reason : Nat) (obj : Nat) (item : Nat) : Only 0x80080000000000000000000 s (refuseReq s ses op reqid reason obj item) := by
  unfold refuseReq
  refine Only.step (reply_only ..) rfl ?_
  exact Only.refl _ _

theorem acceptReq_only (s : State) (ses : Nat) (op : Nat) (reqid : Nat) (values : List (Nat × Nat × Nat)) : Only 0x80080000000000000000000 s (acceptReq s ses op reqid values) := by
  unfold acceptReq
  refine Only.step (reply_only ..) rfl ?_
  exact Only.refl _ _

theorem served_only {m : Nat} {s0 s : State} {ses op reqid : Nat} {f : State → State} (hf : ∀ t, Only m s0 t → Only m s0 (f t))
    (w : 0x80080000000000000000000 &&& m = 0x80080000000000000000000) (h : Only m s0 s) : OnlyO m s0 (served s ses op reqid f) := by
  unfold served
  refine OnlyO.ite (OnlyO.next h) (OnlyO.ite (OnlyO.next ?_) (OnlyO.next (hf s h)))
  exact Only.step (refuseReq_only ..) w h

theorem execRead_only (ses : Nat) (reqid : Nat) (items : List Nat) (s : State) : OnlyO 0x80080000000000000000000 s (execRead ses reqid items s) := by
  unfold execRead
  refine served_only (fun _ _ => ?_) rfl ?_
  · split
    · refine Only.step (refuseReq_only ..) rfl ?_
      assumption
    · refine Only.step (acceptReq_only ..) rfl ?_
      assumption
  · exact Only.refl _ _

theorem execDescribe_only (ses : Nat) (reqid : Nat) (items : List Nat) (s : State) : OnlyO 0x80080000000000000000000 s (execDescribe ses reqid items s) := by
  unfold execDescribe
  refine served_only (fun _ _ => ?_) rfl ?_
  · split
    · refine Only.step (refuseReq_only ..) rfl ?_
      assumption
    · refine Only.step (acceptReq_only ..) rfl ?_
      assumption
  · exact Only.refl _ _

theorem execList_only (ses : Nat) (reqid : Nat) (first : Nat) (last : Nat) (s : State) : OnlyO 0x80080000000000000000000 s (execList ses reqid first last s) := by
  unfold execList
  refine served_only (fun _ _ => ?_) rfl ?_
  · refine Only.step (acceptReq_only ..) rfl ?_
    assumption
  · exact Only.refl _ _

theorem execAckattn_only (ses : Nat) (reqid : Nat) (c : Nat) (s : State) : OnlyO 0x80080000000000000000080 s (execAckattn ses reqid c s) := by
  unfold execAckattn
  refine served_only (fun _ _ => ?_) rfl ?_
  · dsimp only
    refine Only.step (acceptReq_only ..) rfl ?_
    refine Only.set_attn rfl ?_ _
    assumption
  · exact Only.refl _ _

theorem execAttnFrameSend_only (s : State) : OnlyO 0x80080000000000000000000 s (execAttnFrameSend s) := by
  unfold execAttnFrameSend
  refine OnlyO.next ?_
  refine Only.foldl (fun _ _ _ => ?_) ?_
  · split
    · assumption
    · refine Only.step (sendFrame_only ..) rfl ?_
      refine Only.step (updSession_only ..) rfl ?_
      assumption
  · exact Only.refl _ _

theorem setEv_only (s : State) (n : Nat) (x : EvSrc) : Only 0x100 s (setEv s n x) := by
  unfold setEv
  refine Only.set_events rfl ?_ _
  exact Only.refl _ _

theorem execEvSense_only (n : Nat) (s : State) : OnlyO 0x120 s (execEvSense n s) := by
  unfold execEvSense
  refine OnlyO.ite ?_ ?_
  · exact OnlyO.fault _ _ _
  · refine OnlyO.ite ?_ ?_
    · refine OnlyO.next ?_
      exact Only.refl _ _
    · dsimp only
      split
      · refine OnlyO.next ?_
        refine Only.step (setEv_only ..) rfl ?_
        exact Only.refl _ _
      · refine OnlyO.next ?_
        refine Only.step (setEv_only ..) rfl ?_
        exact Only.refl _ _
      · refine OnlyO.next ?_
        refine Only.step (addObj_only ..) rfl ?_
        refine Only.step (setEv_only ..) rfl ?_
        exact Only.refl _ _
      · refine OnlyO.next ?_
        refine Only.step (setEv_only ..) rfl ?_
        exact Only.refl _ _

theorem execEvTake_only (srv : Nat) (s : State) : OnlyO 0x1000000000000001a0 s (execEvTake srv s) := by
  unfold execEvTake
  refine OnlyO.ite ?_ ?_
  · exact OnlyO.fault _ _ _
  · refine OnlyO.ite ?_ ?_
    · refine OnlyO.next ?_
      exact Only.refl _ _
    · split
      · refine OnlyO.next ?_
        exact Only.refl _ _
      · dsimp only
        refine OnlyO.ite ?_ ?_
        · refine OnlyO.next ?_
          refine Only.step (setEv_only ..) rfl ?_
          exact Only.refl _ _
        · refine OnlyO.next ?_
          refine Only.step (addObj_only ..) rfl ?_
          refine Only.step (raise_only ..) rfl ?_
          refine Only.step (setEv_only ..) rfl ?_
          exact Only.refl _ _

theorem evComplete_only (s : State) (n : Nat) : Only 0x100 s (evComplete s n) := by
  unfold evComplete
  dsimp only
  refine Only.ite ?_ ?_
  · refine Only.step (setEv_only ..) rfl ?_
    exact Only.refl _ _
  · refine Only.ite ?_ ?_
    · refine Only.step (setEv_only ..) rfl ?_
      exact Only.refl _ _
    · exact Only.refl _ _

theorem execEvProcessorComplete_only (n : Nat) (s : State) : OnlyO 0x100 s (execEvProcessorComplete n s) := by
  unfold execEvProcessorComplete
  refine OnlyO.ite ?_ ?_
  · exact OnlyO.fault _ _ _
  · refine OnlyO.ite ?_ ?_
    · refine OnlyO.next ?_
      refine Only.step (evComplete_only ..) rfl ?_
      exact Only.refl _ _
    · refine OnlyO.next ?_
      exact Only.refl _ _

theorem execEvcomplete_only (ses : Nat) (reqid : Nat) (n : Nat) (s : State) : OnlyO 0x80080000000000000000100 s (execEvcomplete ses reqid n s) := by
  unfold execEvcomplete
  refine served_only (fun _ _ => ?_) rfl ?_
  · refine Only.ite ?_ ?_
    · refine Only.step (refuseReq_only ..) rfl ?_
      assumption
    · refine Only.ite ?_ ?_
      · refine Only.step (refuseReq_only ..) rfl ?_
        assumption
      · refine Only.step (acceptReq_only ..) rfl ?_
        refine Only.step (evComplete_only ..) rfl ?_
        assumption
  · exact Only.refl _ _

theorem evConfigure_only (s : State) (n : Nat) (v : Nat) : Only 0x120 s (evConfigure s n v) := by
  unfold evConfigure
  dsimp only
  refine Only.step (setEv_only ..) rfl ?_
  refine Only.ite ?_ ?_
  · refine Only.step (setObj_only ..) rfl ?_
    exact Only.refl _ _
  · refine Only.step (setObj_only ..) rfl ?_
    exact Only.refl _ _

end Sys2Proof.Machine
end

