-- ==== Sys2Proof/Laws/KeepsRequests.lean ====
section
/-! SUPPORT. Each operation of Machine/Requests.lean keeps: the form of the memories and the bounds of the stores. -/
namespace Sys2Proof.Machine

theorem served_keeps {s0 s : State} {ses op reqid : Nat} {f : State → State} (hf : ∀ t, Keeps s0 t → Keeps s0 (f t))
    (h : Keeps s0 s) : KeepsO s0 (served s ses op reqid f) := by
  unfold served
  refine KeepsO.ite (KeepsO.next h) (KeepsO.ite (KeepsO.next ?_) (KeepsO.next (hf s h)))
  exact Keeps.of_only (refuseReq_only ..) rfl h

theorem execAckattn_keeps (ses reqid c : Nat) (s : State) : KeepsO s (execAckattn ses reqid c s) := by
  unfold execAckattn
  refine served_keeps (fun t h => ?_) (Keeps.refl _)
  refine Keeps.of_only (acceptReq_only ..) rfl ?_
  exact .mk fun k => { h.good k with log := (h.good k).log }

theorem execEvTake_keeps (srv : Nat) (s : State) : KeepsO s (execEvTake srv s) := by
  unfold execEvTake
  refine KeepsO.ite ?_ ?_
  · exact KeepsO.fault _ _
  · refine KeepsO.ite ?_ ?_
    · refine KeepsO.next ?_
      exact Keeps.refl _
    · split
      · refine KeepsO.next ?_
        exact Keeps.refl _
      · dsimp only
        refine KeepsO.ite ?_ ?_
        · refine KeepsO.next ?_
          refine Keeps.of_only (setEv_only _ _ _) rfl ?_
          exact Keeps.refl _
        · refine KeepsO.next ?_
          refine Keeps.of_only (addObj_only _ _ _ _ _ _) rfl ?_
          refine Keeps.step (raise_keeps ..) ?_
          refine Keeps.of_only (setEv_only _ _ _) rfl ?_
          exact Keeps.refl _

end Sys2Proof.Machine
end

