-- ==== Sys2Proof/Laws/OnlyControl.lean ====
section
/-! SUPPORT. What each operation of Machine/Control.lean can change, at most. -/
namespace Sys2Proof.Machine

theorem stateOf_only {m : Nat} {s0 s : State} {x : Sum Nat State} (hf : ∀ t, x = .inr t → Only m s0 t) (h : Only m s0 s) :
    Only m s0 (stateOf s x) := by
  unfold stateOf
  split
  · exact h
  · exact hf _ rfl

theorem setSel_only (s : State) (ses : Nat) (idx : Nat) (el : Nat) (v : Nat) : Only 0x80000000000000000000 s (setSel s ses idx el v) := by
  unfold setSel
  refine Only.step (updSession_only ..) rfl ?_
  exact Only.refl _ _

theorem portCond_only (s : State) (p : Nat) : Only 0x100 s (portCond s p) := by
  unfold portCond
  refine Only.ite ?_ ?_
  · refine Only.step (setCond_only ..) rfl ?_
    exact Only.refl _ _
  · exact Only.refl _ _

theorem releaseArmed_only (s : State) : Only 0x500 s (releaseArmed s) := by
  unfold releaseArmed
  refine Only.foldl (fun _ _ _ => ?_) ?_
  · refine Only.ite ?_ ?_
    · refine Only.step (setPState_only ..) rfl ?_
      assumption
    · assumption
  · exact Only.refl _ _

theorem modeRollback_only (s : State) (reason : Nat) : Only 0x100000000000000780 s (modeRollback s reason) := by
  unfold modeRollback
  dsimp only
  refine Only.step (raise_only ..) rfl ?_
  refine Only.step (setCond_only ..) rfl ?_
  refine Only.step (releaseArmed_only ..) rfl ?_
  refine Only.set_modeRec rfl ?_ _
  exact Only.refl _ _

theorem returnHeld_only (s : State) (p : Nat) (reason : Nat) : Only 0xc0080000000000000004800 s (returnHeld s p reason) := by
  unfold returnHeld
  refine Only.foldl (fun _ _ _ => ?_) ?_
  · split
    · refine Only.ite ?_ ?_
      · refine Only.step (returnRunning_only ..) rfl ?_
        assumption
      · assumption
    · assumption
  · exact Only.refl _ _

theorem returnStanding_only (s : State) (p : Nat) : Only 0xc0080000000000000004d00 s (returnStanding s p) := by
  unfold returnStanding
  dsimp only
  refine Only.step (returnQueued_only ..) rfl ?_
  refine Only.step (returnRunning_only ..) rfl ?_
  refine Only.step (returnHeld_only ..) rfl ?_
  refine Only.step (setPState_only ..) rfl ?_
  exact Only.refl _ _

theorem enableClear_only (s : State) (p : Nat) : Only 0xe0080100000000000004fa0 s (enableClear s p) := by
  unfold enableClear
  split
  · dsimp only
    refine Only.step (refuseReq_only ..) rfl ?_
    refine Only.step (updGroup_only ..) rfl ?_
    refine Only.step (updPart_only ..) rfl ?_
    exact Only.refl _ _
  · refine Only.ite ?_ ?_
    · exact Only.refl _ _
    · dsimp only
      refine Only.step (draftGone_only ..) rfl ?_
      split
      · refine Only.step (returnStanding_only ..) rfl ?_
        refine Only.step (updGroup_only ..) rfl ?_
        refine Only.step (updPart_only ..) rfl ?_
        exact Only.refl _ _
      · refine Only.step (returnStanding_only ..) rfl ?_
        refine Only.step (updGroup_only ..) rfl ?_
        refine Only.step (updPart_only ..) rfl ?_
        exact Only.refl _ _
      · refine Only.ite ?_ ?_
        · split
          · refine Only.ite ?_ ?_
            · refine Only.step (acceptReq_only ..) rfl ?_
              refine Only.step (modeRollback_only ..) rfl ?_
              refine Only.step (returnStanding_only ..) rfl ?_
              refine Only.step (updGroup_only ..) rfl ?_
              refine Only.step (updPart_only ..) rfl ?_
              exact Only.refl _ _
            · refine Only.step (modeRollback_only ..) rfl ?_
              refine Only.step (returnStanding_only ..) rfl ?_
              refine Only.step (updGroup_only ..) rfl ?_
              refine Only.step (updPart_only ..) rfl ?_
              exact Only.refl _ _
          · refine Only.step (modeRollback_only ..) rfl ?_
            refine Only.step (returnStanding_only ..) rfl ?_
            refine Only.step (updGroup_only ..) rfl ?_
            refine Only.step (updPart_only ..) rfl ?_
            exact Only.refl _ _
        · refine Only.step (returnStanding_only ..) rfl ?_
          refine Only.step (updGroup_only ..) rfl ?_
          refine Only.step (updPart_only ..) rfl ?_
          exact Only.refl _ _
      · refine Only.step (returnHeld_only ..) rfl ?_
        refine Only.step (setPState_only ..) rfl ?_
        refine Only.step (updGroup_only ..) rfl ?_
        refine Only.step (updPart_only ..) rfl ?_
        exact Only.refl _ _
      · refine Only.step (returnHeld_only ..) rfl ?_
        refine Only.step (setPState_only ..) rfl ?_
        refine Only.step (leaveStall_only ..) rfl ?_
        refine Only.step (updGroup_only ..) rfl ?_
        refine Only.step (updPart_only ..) rfl ?_
        exact Only.refl _ _
      · refine Only.step (updGroup_only ..) rfl ?_
        refine Only.step (updPart_only ..) rfl ?_
        exact Only.refl _ _

theorem bring_only (s : State) (keys : Nat → Bool) : Only 0x60 s (bring s keys) := by
  unfold bring
  dsimp only
  refine Only.set_dict_pend rfl rfl ?_ _ _
  exact Only.refl _ _

theorem enableStart_only (s : State) (p : Nat) (ses : Nat) (reqid : Nat) : Only 0x400 s (enableStart s p ses reqid) := by
  unfold enableStart
  dsimp only
  refine Only.step (updPart_only ..) rfl ?_
  exact Only.refl _ _

theorem forceBand_only (s : State) (p : Nat) : Only 0xc0080100000000200a14c80 s (forceBand s p) := by
  unfold forceBand
  dsimp only
  refine Only.ite ?_ ?_
  · refine Only.foldl (fun _ _ _ => ?_) ?_
    · refine Only.foldl (fun _ _ _ => ?_) ?_
      · refine Only.step (loadTable_only ..) rfl ?_
        assumption
      · refine Only.set_latch rfl ?_ _
        assumption
    · exact Only.refl _ _
  · refine Only.ite ?_ ?_
    · refine Only.step (updPart_only ..) rfl ?_
      refine Only.foldl (fun _ _ _ => ?_) ?_
      · refine Only.step (latchTile_only ..) rfl ?_
        assumption
      · exact Only.refl _ _
    · refine Only.foldl (fun _ _ _ => ?_) ?_
      · refine Only.step (latchTile_only ..) rfl ?_
        assumption
      · exact Only.refl _ _

theorem armExports_only (s : State) (p : Nat) : Only 0x8000000000000000000000 s (armExports s p) := by
  unfold armExports
  refine Only.foldl (fun _ _ _ => ?_) ?_
  · dsimp only
    refine Only.ite ?_ ?_
    · assumption
    · refine Only.set_exports rfl ?_ _
      assumption
  · exact Only.refl _ _

theorem groupEnter_only (s : State) (p : Nat) : Only 0x20000000000000000000000 s (groupEnter s p) := by
  unfold groupEnter
  dsimp only
  refine Only.step (updGroup_only ..) rfl ?_
  exact Only.refl _ _

theorem enableFinish_only (s : State) (p : Nat) : Only 0xe8080100000000200a14de0 s (enableFinish s p) := by
  unfold enableFinish
  split
  · exact Only.refl _ _
  · dsimp only
    refine Only.step (acceptReq_only ..) rfl ?_
    refine Only.step (toIdle_only ..) rfl ?_
    refine Only.ite ?_ ?_
    · refine Only.step (forceBand_only ..) rfl ?_
      refine Only.step (openLinks_only ..) rfl ?_
      refine Only.step (groupEnter_only ..) rfl ?_
      refine Only.step (armExports_only ..) rfl ?_
      refine Only.step (updPart_only ..) rfl ?_
      refine Only.set_dict_pend rfl rfl ?_ _ _
      exact Only.refl _ _
    · refine Only.step (openLinks_only ..) rfl ?_
      refine Only.step (groupEnter_only ..) rfl ?_
      refine Only.step (armExports_only ..) rfl ?_
      refine Only.step (updPart_only ..) rfl ?_
      refine Only.set_dict_pend rfl rfl ?_ _ _
      exact Only.refl _ _

theorem enableRefuse_only (s : State) (p : Nat) (reason : Nat) (obj : Nat) : Only 0xa0080000000000000000400 s (enableRefuse s p reason obj) := by
  unfold enableRefuse
  split
  · exact Only.refl _ _
  · dsimp only
    refine Only.step (refuseReq_only ..) rfl ?_
    refine Only.step (updGroup_only ..) rfl ?_
    refine Only.step (updPart_only ..) rfl ?_
    exact Only.refl _ _

theorem sendJoin_only (s : State) (p : Nat) : Only 0x80080000000000000000000 s (sendJoin s p) := by
  unfold sendJoin
  refine Only.step (toRank_only ..) rfl ?_
  exact Only.refl _ _

theorem execEnableCheckDone_only (p : Nat) (s : State) : OnlyO 0xe8080100000000200a14de0 s (execEnableCheckDone p s) := by
  unfold execEnableCheckDone
  refine OnlyO.ite ?_ ?_
  · exact OnlyO.fault _ _ _
  · split
    · refine OnlyO.next ?_
      exact Only.refl _ _
    · refine OnlyO.ite ?_ ?_
      · refine OnlyO.next ?_
        refine Only.step (enableRefuse_only ..) rfl ?_
        exact Only.refl _ _
      · refine OnlyO.ite ?_ ?_
        · refine OnlyO.next ?_
          refine Only.step (enableFinish_only ..) rfl ?_
          exact Only.refl _ _
        · refine OnlyO.ite ?_ ?_
          · refine OnlyO.next ?_
            exact Only.refl _ _
          · dsimp only
            refine OnlyO.next ?_
            refine Only.step (sendJoin_only ..) rfl ?_
            refine Only.step (openLinks_only ..) rfl ?_
            refine Only.step (updGroup_only ..) rfl ?_
            exact Only.refl _ _

theorem writeEnable_only {s : State} {ses : Nat} {reqid : Nat} {idx : Nat} {el : Nat} {u : Nat} {v : Nat} {s' : State} {y : Bool} (hq : writeEnable s ses reqid idx el u v = .inr (s', y)) : Only 0xe0480100000000000004fe0 s s' := by
  unfold writeEnable at hq
  split at hq
  · split at hq
    · cases hq
      refine Only.step (enableClear_only ..) rfl ?_
      exact Only.refl _ _
    · split at hq
      · cases hq
        exact Only.refl _ _
      · cases hq
        refine Only.step (enableStart_only ..) rfl ?_
        exact Only.refl _ _
  · split at hq
    · cases hq
      exact Only.refl _ _
    · split at hq
      · split at hq
        · cases hq
        · dsimp only at hq
          cases hq
          refine Only.step (portCond_only ..) rfl ?_
          refine Only.ite ?_ ?_
          · refine Only.step (setPort_only ..) rfl ?_
            refine Only.ite ?_ ?_
            · refine Only.step (setPort_only ..) rfl ?_
              refine Only.step (setObj_only ..) rfl ?_
              exact Only.refl _ _
            · refine Only.step (setObj_only ..) rfl ?_
              exact Only.refl _ _
          · refine Only.ite ?_ ?_
            · refine Only.step (setPort_only ..) rfl ?_
              refine Only.step (setObj_only ..) rfl ?_
              exact Only.refl _ _
            · refine Only.step (setObj_only ..) rfl ?_
              exact Only.refl _ _
      · split at hq
        · cases hq
        · cases hq
          refine Only.ite ?_ ?_
          · refine Only.step (bring_only ..) rfl ?_
            refine Only.step (setObj_only ..) rfl ?_
            exact Only.refl _ _
          · refine Only.step (setObj_only ..) rfl ?_
            exact Only.refl _ _

theorem applyItem_only (s : State) (ses : Nat) (idx : Nat) (el : Nat) (u : Nat) (v : Nat) (d : ObjDesc) : Only 0xc3987bf028b00020021cdf8 s (applyItem s ses idx el u v d) := by
  unfold applyItem
  refine Only.ite ?_ ?_
  · refine Only.step (setSel_only ..) rfl ?_
    exact Only.refl _ _
  · refine Only.ite ?_ ?_
    · refine Only.set_pend rfl ?_ _
      exact Only.refl _ _
    · refine Only.ite ?_ ?_
      · refine Only.ite ?_ ?_
        · refine stateOf_only (fun _ hq => ?_) ?_
          · refine Only.step (brickPrepare_only (by assumption)) rfl ?_
            exact Only.refl _ _
          · exact Only.refl _ _
        · refine Only.step (brickUnprepare_only ..) rfl ?_
          exact Only.refl _ _
      · refine Only.ite ?_ ?_
        · refine stateOf_only (fun _ hq => ?_) ?_
          · refine Only.step (blockRestart_only (by assumption)) rfl ?_
            exact Only.refl _ _
          · exact Only.refl _ _
        · refine Only.ite ?_ ?_
          · refine Only.step (preferFeeds_only ..) rfl ?_
            refine Only.step (setObj_only ..) rfl ?_
            exact Only.refl _ _
          · refine Only.ite ?_ ?_
            · refine stateOf_only (fun _ hq => ?_) ?_
              · refine Only.step (regionReturn_only (by assumption)) rfl ?_
                exact Only.refl _ _
              · exact Only.refl _ _
            · refine Only.ite ?_ ?_
              · refine stateOf_only (fun _ hq => ?_) ?_
                · refine Only.step (resume_only (by assumption)) rfl ?_
                  exact Only.refl _ _
                · exact Only.refl _ _
              · refine Only.ite ?_ ?_
                · split
                  · exact Only.refl _ _
                  · refine Only.step (powerTarget_only (by assumption)) rfl ?_
                    exact Only.refl _ _
                · refine Only.ite ?_ ?_
                  · refine Only.set_rtcValid_rtcSet_rtcTick rfl rfl rfl ?_ _ _ _
                    exact Only.refl _ _
                  · refine Only.ite ?_ ?_
                    · refine Only.getD (fun _ hq => ?_) ?_
                      · refine Only.step (reinstate_only (by assumption)) rfl ?_
                        exact Only.refl _ _
                      · exact Only.refl _ _
                    · refine Only.ite ?_ ?_
                      · refine stateOf_only (fun _ hq => ?_) ?_
                        · refine Only.step (requestTest_only (by assumption)) rfl ?_
                          exact Only.refl _ _
                        · exact Only.refl _ _
                      · refine Only.ite ?_ ?_
                        · refine stateOf_only (fun _ hq => ?_) ?_
                          · refine Only.step (cardPrepare_only (by assumption)) rfl ?_
                            exact Only.refl _ _
                          · exact Only.refl _ _
                        · refine Only.ite ?_ ?_
                          · refine Only.step (evConfigure_only ..) rfl ?_
                            exact Only.refl _ _
                          · refine Only.ite ?_ ?_
                            · dsimp only
                              refine Only.ite ?_ ?_
                              · refine Only.step (setEv_only ..) rfl ?_
                                exact Only.refl _ _
                              · exact Only.refl _ _
                            · dsimp only
                              refine Only.ite ?_ ?_
                              · refine Only.step (abortTests_only ..) rfl ?_
                                refine Only.step (setObj_only ..) rfl ?_
                                exact Only.refl _ _
                              · refine Only.step (setObj_only ..) rfl ?_
                                exact Only.refl _ _

theorem applyItems_only {s t : State} {ses reqid : Nat} {l : List WriteItem} {y : Bool} (h : applyItems s ses reqid l = .inr (t, y)) :
    Only 0xe3d87bf028b00020021cff8 s t := by
  induction l generalizing s with
  | nil =>
    unfold applyItems at h
    cases h
    exact Only.refl _ _
  | cons x r ih =>
    unfold applyItems at h
    split at h
    · exact ih h
    · dsimp only at h
      split at h
      · split at h
        · cases h
        · split at h
          · refine Only.step (ih h) rfl ?_
            refine Only.step (writeEnable_only (by assumption)) rfl ?_
            exact Only.refl _ _
          · cases h
            refine Only.step (writeEnable_only (by assumption)) rfl ?_
            exact Only.refl _ _
      · refine Only.step (ih h) rfl ?_
        refine Only.step (applyItem_only ..) rfl ?_
        exact Only.refl _ _

theorem writeRequest_only (ses : Nat) (reqid : Nat) (items : List Sys2Proof.WriteItem) (s : State) : OnlyO 0xe3d87bf028b00020021cff8 s (writeRequest ses reqid items s) := by
  unfold writeRequest
  refine served_only (fun _ _ => ?_) rfl ?_
  · split
    · refine Only.step (refuseReq_only ..) rfl ?_
      assumption
    · refine Only.ite ?_ ?_
      · refine Only.step (refuseReq_only ..) rfl ?_
        assumption
      · split
        · refine Only.step (refuseReq_only ..) rfl ?_
          assumption
        · refine Only.ite ?_ ?_
          · refine Only.step (acceptReq_only ..) rfl ?_
            refine Only.step (applyItems_only (by assumption)) rfl ?_
            assumption
          · refine Only.step (applyItems_only (by assumption)) rfl ?_
            assumption
  · exact Only.refl _ _

theorem execWrite_only (ses : Nat) (reqid : Nat) (items : List Sys2Proof.WriteItem) (s : State) : OnlyO 0xe3d87bf028b00020021cff8 s (execWrite ses reqid items s) := by
  unfold execWrite
  refine OnlyO.step (writeRequest_only _ _ _ _) rfl ?_
  exact Only.refl _ _

theorem execSelectorWrite_only (ses : Nat) (reqid : Nat) (idx : Nat) (el : Nat) (v : Nat) (s : State) : OnlyO 0xe3d87bf028b00020021cff8 s (execSelectorWrite ses reqid idx el v s) := by
  unfold execSelectorWrite
  refine OnlyO.ite ?_ ?_
  · refine OnlyO.step (writeRequest_only _ _ _ _) rfl ?_
    exact Only.refl _ _
  · refine OnlyO.next ?_
    exact Only.refl _ _

theorem execPartEnableSet_only (ses : Nat) (reqid : Nat) (p : Nat) (s : State) : OnlyO 0xe3d87bf028b00020021cff8 s (execPartEnableSet ses reqid p s) := by
  unfold execPartEnableSet
  refine OnlyO.ite ?_ ?_
  · exact OnlyO.fault _ _ _
  · refine OnlyO.step (writeRequest_only _ _ _ _) rfl ?_
    exact Only.refl _ _

theorem execPartEnableClear_only (ses : Nat) (reqid : Nat) (p : Nat) (s : State) : OnlyO 0xe3d87bf028b00020021cff8 s (execPartEnableClear ses reqid p s) := by
  unfold execPartEnableClear
  refine OnlyO.ite ?_ ?_
  · exact OnlyO.fault _ _ _
  · refine OnlyO.step (writeRequest_only _ _ _ _) rfl ?_
    exact Only.refl _ _

theorem execPortEnableSet_only (ses : Nat) (reqid : Nat) (mgmt : Bool) (s : State) : OnlyO 0xe3d87bf028b00020021cff8 s (execPortEnableSet ses reqid mgmt s) := by
  unfold execPortEnableSet
  refine OnlyO.step (writeRequest_only _ _ _ _) rfl ?_
  exact Only.refl _ _

theorem execPolicyEnableSet_only (ses : Nat) (reqid : Nat) (thermal : Bool) (s : State) : OnlyO 0xe3d87bf028b00020021cff8 s (execPolicyEnableSet ses reqid thermal s) := by
  unfold execPolicyEnableSet
  refine OnlyO.step (writeRequest_only _ _ _ _) rfl ?_
  exact Only.refl _ _

theorem execBrickPrepare_only (ses : Nat) (reqid : Nat) (s : State) : OnlyO 0xe3d87bf028b00020021cff8 s (execBrickPrepare ses reqid s) := by
  unfold execBrickPrepare
  refine OnlyO.step (writeRequest_only _ _ _ _) rfl ?_
  exact Only.refl _ _

theorem execBrickUnprepare_only (ses : Nat) (reqid : Nat) (s : State) : OnlyO 0xe3d87bf028b00020021cff8 s (execBrickUnprepare ses reqid s) := by
  unfold execBrickUnprepare
  refine OnlyO.step (writeRequest_only _ _ _ _) rfl ?_
  exact Only.refl _ _

theorem execBlockRestart_only (ses : Nat) (reqid : Nat) (s : State) : OnlyO 0xe3d87bf028b00020021cff8 s (execBlockRestart ses reqid s) := by
  unfold execBlockRestart
  refine OnlyO.step (writeRequest_only _ _ _ _) rfl ?_
  exact Only.refl _ _

theorem execRegionReturnRequest_only (ses : Nat) (reqid : Nat) (h : Nat) (s : State) : OnlyO 0xe3d87bf028b00020021cff8 s (execRegionReturnRequest ses reqid h s) := by
  unfold execRegionReturnRequest
  refine OnlyO.step (writeRequest_only _ _ _ _) rfl ?_
  exact Only.refl _ _

theorem execResume_only (ses : Nat) (reqid : Nat) (s : State) : OnlyO 0xe3d87bf028b00020021cff8 s (execResume ses reqid s) := by
  unfold execResume
  refine OnlyO.step (writeRequest_only _ _ _ _) rfl ?_
  exact Only.refl _ _

theorem execPowerTargetStandby_only (ses : Nat) (reqid : Nat) (s : State) : OnlyO 0xe3d87bf028b00020021cff8 s (execPowerTargetStandby ses reqid s) := by
  unfold execPowerTargetStandby
  refine OnlyO.step (writeRequest_only _ _ _ _) rfl ?_
  exact Only.refl _ _

theorem execPowerTargetAttended_only (ses : Nat) (reqid : Nat) (s : State) : OnlyO 0xe3d87bf028b00020021cff8 s (execPowerTargetAttended ses reqid s) := by
  unfold execPowerTargetAttended
  refine OnlyO.step (writeRequest_only _ _ _ _) rfl ?_
  exact Only.refl _ _

theorem execPowerTargetReady_only (ses : Nat) (reqid : Nat) (s : State) : OnlyO 0xe3d87bf028b00020021cff8 s (execPowerTargetReady ses reqid s) := by
  unfold execPowerTargetReady
  refine OnlyO.step (writeRequest_only _ _ _ _) rfl ?_
  exact Only.refl _ _

theorem execUnitReinstate_only (ses : Nat) (reqid : Nat) (s : State) : OnlyO 0xe3d87bf028b00020021cff8 s (execUnitReinstate ses reqid s) := by
  unfold execUnitReinstate
  refine OnlyO.step (writeRequest_only _ _ _ _) rfl ?_
  exact Only.refl _ _

theorem execFtestRequestLight_only (ses : Nat) (reqid : Nat) (t : Nat) (s : State) : OnlyO 0xe3d87bf028b00020021cff8 s (execFtestRequestLight ses reqid t s) := by
  unfold execFtestRequestLight
  refine OnlyO.step (writeRequest_only _ _ _ _) rfl ?_
  exact Only.refl _ _

theorem execFtestRequestFull_only (ses : Nat) (reqid : Nat) (t : Nat) (s : State) : OnlyO 0xe3d87bf028b00020021cff8 s (execFtestRequestFull ses reqid t s) := by
  unfold execFtestRequestFull
  refine OnlyO.step (writeRequest_only _ _ _ _) rfl ?_
  exact Only.refl _ _

theorem execCardPrepare_only (ses : Nat) (reqid : Nat) (s : State) : OnlyO 0xe3d87bf028b00020021cff8 s (execCardPrepare ses reqid s) := by
  unfold execCardPrepare
  refine OnlyO.step (writeRequest_only _ _ _ _) rfl ?_
  exact Only.refl _ _

theorem execEvConfigWrite_only (ses : Nat) (reqid : Nat) (n : Nat) (v : Nat) (s : State) : OnlyO 0xe3d87bf028b00020021cff8 s (execEvConfigWrite ses reqid n v s) := by
  unfold execEvConfigWrite
  refine OnlyO.ite ?_ ?_
  · exact OnlyO.fault _ _ _
  · refine OnlyO.step (writeRequest_only _ _ _ _) rfl ?_
    exact Only.refl _ _

theorem execEvOverrunClear_only (ses : Nat) (reqid : Nat) (n : Nat) (s : State) : OnlyO 0xe3d87bf028b00020021cff8 s (execEvOverrunClear ses reqid n s) := by
  unfold execEvOverrunClear
  refine OnlyO.ite ?_ ?_
  · exact OnlyO.fault _ _ _
  · refine OnlyO.step (writeRequest_only _ _ _ _) rfl ?_
    exact Only.refl _ _

theorem imgRequest_only {m : Nat} {s0 s : State} {ses op reqid : Nat} {f : State → Sum Nat State}
    (hf : ∀ t u, f t = .inr u → Only m s0 t → Only m s0 u) (w : 0x80080000000000000000000 &&& m = 0x80080000000000000000000) (h : Only m s0 s) :
    OnlyO m s0 (imgRequest ses op reqid f s) := by
  unfold imgRequest
  refine served_only (fun t g => ?_) w h
  refine Only.ite (Only.step (refuseReq_only ..) w g) ?_
  split
  · exact Only.step (refuseReq_only ..) w g
  · exact Only.step (acceptReq_only ..) w (hf t _ (by assumption) g)

theorem execImgbegin_only (ses : Nat) (reqid : Nat) (id : Nat) (len : Nat) (s : State) : OnlyO 0x80090000000000000000000 s (execImgbegin ses reqid id len s) := by
  unfold execImgbegin
  refine imgRequest_only (fun _ _ h _ => ?_) rfl ?_
  · dsimp only at h
    split at h
    · cases h
    · split at h
      · cases h
      · obtain rfl := Sum.inr.inj h
        refine Only.set_uploads rfl ?_ _
        assumption
  · exact Only.refl _ _

theorem execImgdata_only (ses : Nat) (reqid : Nat) (id : Nat) (off : Nat) (data : List Sys2Proof.Byte) (s : State) : OnlyO 0x80090000000000000000000 s (execImgdata ses reqid id off data s) := by
  unfold execImgdata
  refine imgRequest_only (fun _ _ h _ => ?_) rfl ?_
  · split at h
    · cases h
    · split at h
      · cases h
      · dsimp only at h
        obtain rfl := Sum.inr.inj h
        refine Only.set_uploads rfl ?_ _
        assumption
  · exact Only.refl _ _

theorem execImgend_only (ses : Nat) (reqid : Nat) (id : Nat) (s : State) : OnlyO 0x80098000000000000000000 s (execImgend ses reqid id s) := by
  unfold execImgend
  refine imgRequest_only (fun _ _ h _ => ?_) rfl ?_
  · split at h
    · cases h
    · split at h
      · obtain rfl := Sum.inr.inj h
        refine Only.set_images_uploads rfl rfl ?_ _ _
        assumption
      · cases h
  · exact Only.refl _ _

theorem execImgdelete_only (ses : Nat) (reqid : Nat) (id : Nat) (s : State) : OnlyO 0x80098000000000000000000 s (execImgdelete ses reqid id s) := by
  unfold execImgdelete
  refine imgRequest_only (fun _ _ h _ => ?_) rfl ?_
  · split at h
    · cases h
    · split at h
      · obtain rfl := Sum.inr.inj h
        refine Only.set_uploads rfl ?_ _
        assumption
      · split at h
        · obtain rfl := Sum.inr.inj h
          refine Only.set_images rfl ?_ _
          assumption
        · cases h
  · exact Only.refl _ _

end Sys2Proof.Machine
end

