-- ==== Sys2Proof/Laws/KeepsControl.lean ====
section
/-! SUPPORT. Each operation of Machine/Control.lean keeps: the form of the memories and the bounds of the stores. -/
namespace Sys2Proof.Machine

theorem stateOf_keeps {s0 s : State} {x : Sum Nat State} (hf : ∀ t, x = .inr t → Keeps s0 t) (h : Keeps s0 s) :
    Keeps s0 (stateOf s x) := by
  unfold stateOf
  split
  · exact h
  · exact hf _ rfl

theorem modeRollback_keeps (s : State) (reason : Nat) : Keeps s (modeRollback s reason) := by
  unfold modeRollback
  dsimp only
  refine Keeps.step (raise_keeps ..) ?_
  refine Keeps.of_only (setCond_only _ _ _) rfl ?_
  refine Keeps.of_only (releaseArmed_only _) rfl ?_
  refine Keeps.of_only (Only.set_modeRec (m := 512) rfl (Only.refl _ _) _) rfl ?_
  exact Keeps.refl _

theorem enableClear_keeps (s : State) (p : Nat) : Keeps s (enableClear s p) := by
  unfold enableClear
  split
  · dsimp only
    refine Keeps.of_only (refuseReq_only _ _ _ _ _ _ _) rfl ?_
    refine Keeps.of_only (updGroup_only _ _ _) rfl ?_
    refine Keeps.of_only (updPart_only _ _ _) rfl ?_
    exact Keeps.refl _
  · refine Keeps.ite ?_ ?_
    · exact Keeps.refl _
    · dsimp only
      refine Keeps.step (draftGone_keeps ..) ?_
      split
      · refine Keeps.of_only (returnStanding_only _ _) rfl ?_
        refine Keeps.of_only (updGroup_only _ _ _) rfl ?_
        refine Keeps.of_only (updPart_only _ _ _) rfl ?_
        exact Keeps.refl _
      · refine Keeps.of_only (returnStanding_only _ _) rfl ?_
        refine Keeps.of_only (updGroup_only _ _ _) rfl ?_
        refine Keeps.of_only (updPart_only _ _ _) rfl ?_
        exact Keeps.refl _
      · refine Keeps.ite ?_ ?_
        · split
          · refine Keeps.ite ?_ ?_
            · refine Keeps.of_only (acceptReq_only _ _ _ _ _) rfl ?_
              refine Keeps.step (modeRollback_keeps ..) ?_
              refine Keeps.of_only (returnStanding_only _ _) rfl ?_
              refine Keeps.of_only (updGroup_only _ _ _) rfl ?_
              refine Keeps.of_only (updPart_only _ _ _) rfl ?_
              exact Keeps.refl _
            · refine Keeps.step (modeRollback_keeps ..) ?_
              refine Keeps.of_only (returnStanding_only _ _) rfl ?_
              refine Keeps.of_only (updGroup_only _ _ _) rfl ?_
              refine Keeps.of_only (updPart_only _ _ _) rfl ?_
              exact Keeps.refl _
          · refine Keeps.step (modeRollback_keeps ..) ?_
            refine Keeps.of_only (returnStanding_only _ _) rfl ?_
            refine Keeps.of_only (updGroup_only _ _ _) rfl ?_
            refine Keeps.of_only (updPart_only _ _ _) rfl ?_
            exact Keeps.refl _
        · refine Keeps.of_only (returnStanding_only _ _) rfl ?_
          refine Keeps.of_only (updGroup_only _ _ _) rfl ?_
          refine Keeps.of_only (updPart_only _ _ _) rfl ?_
          exact Keeps.refl _
      · refine Keeps.of_only (returnHeld_only _ _ _) rfl ?_
        refine Keeps.of_only (setPState_only _ _ _) rfl ?_
        refine Keeps.of_only (updGroup_only _ _ _) rfl ?_
        refine Keeps.of_only (updPart_only _ _ _) rfl ?_
        exact Keeps.refl _
      · refine Keeps.of_only (returnHeld_only _ _ _) rfl ?_
        refine Keeps.of_only (setPState_only _ _ _) rfl ?_
        refine Keeps.of_only (leaveStall_only _ _) rfl ?_
        refine Keeps.of_only (updGroup_only _ _ _) rfl ?_
        refine Keeps.of_only (updPart_only _ _ _) rfl ?_
        exact Keeps.refl _
      · refine Keeps.of_only (updGroup_only _ _ _) rfl ?_
        refine Keeps.of_only (updPart_only _ _ _) rfl ?_
        exact Keeps.refl _

theorem forceBand_keeps (s : State) (p : Nat) : Keeps s (forceBand s p) := by
  unfold forceBand
  dsimp only
  refine Keeps.ite ?_ ?_
  · refine Keeps.foldl (fun _ _ _ => ?_) ?_
    · refine Keeps.foldl (fun _ _ _ => ?_) ?_
      · refine Keeps.of_only (loadTable_only _ _) rfl ?_
        assumption
      · refine Keeps.of_only (Only.set_latch (m := 8388608) rfl (Only.refl _ _) _) rfl ?_
        assumption
    · exact Keeps.refl _
  · refine Keeps.ite ?_ ?_
    · refine Keeps.of_only (updPart_only _ _ _) rfl ?_
      refine Keeps.foldl (fun _ _ _ => ?_) ?_
      · refine Keeps.step (latchTile_keeps ..) ?_
        assumption
      · exact Keeps.refl _
    · refine Keeps.foldl (fun _ _ _ => ?_) ?_
      · refine Keeps.step (latchTile_keeps ..) ?_
        assumption
      · exact Keeps.refl _

theorem enableFinish_keeps (s : State) (p : Nat) : Keeps s (enableFinish s p) := by
  unfold enableFinish
  split
  · exact Keeps.refl _
  · dsimp only
    refine Keeps.of_only (acceptReq_only _ _ _ _ _) rfl ?_
    refine Keeps.of_only (toIdle_only _ _) rfl ?_
    refine Keeps.ite ?_ ?_
    · refine Keeps.step (forceBand_keeps ..) ?_
      refine Keeps.of_only (openLinks_only _ _) rfl ?_
      refine Keeps.of_only (groupEnter_only _ _) rfl ?_
      refine Keeps.of_only (armExports_only _ _) rfl ?_
      refine Keeps.of_only (updPart_only _ _ _) rfl ?_
      refine Keeps.of_only (Only.set_dict_pend (m := 96) rfl rfl (Only.refl _ _) _ _) rfl ?_
      exact Keeps.refl _
    · refine Keeps.of_only (openLinks_only _ _) rfl ?_
      refine Keeps.of_only (groupEnter_only _ _) rfl ?_
      refine Keeps.of_only (armExports_only _ _) rfl ?_
      refine Keeps.of_only (updPart_only _ _ _) rfl ?_
      refine Keeps.of_only (Only.set_dict_pend (m := 96) rfl rfl (Only.refl _ _) _ _) rfl ?_
      exact Keeps.refl _

theorem execEnableCheckDone_keeps (p : Nat) (s : State) : KeepsO s (execEnableCheckDone p s) := by
  unfold execEnableCheckDone
  refine KeepsO.ite ?_ ?_
  · exact KeepsO.fault _ _
  · split
    · refine KeepsO.next ?_
      exact Keeps.refl _
    · refine KeepsO.ite ?_ ?_
      · refine KeepsO.next ?_
        refine Keeps.of_only (enableRefuse_only _ _ _ _) rfl ?_
        exact Keeps.refl _
      · refine KeepsO.ite ?_ ?_
        · refine KeepsO.next ?_
          refine Keeps.step (enableFinish_keeps ..) ?_
          exact Keeps.refl _
        · refine KeepsO.ite ?_ ?_
          · refine KeepsO.next ?_
            exact Keeps.refl _
          · dsimp only
            refine KeepsO.next ?_
            refine Keeps.of_only (sendJoin_only _ _) rfl ?_
            refine Keeps.of_only (openLinks_only _ _) rfl ?_
            refine Keeps.of_only (updGroup_only _ _ _) rfl ?_
            exact Keeps.refl _

theorem writeEnable_keeps {s : State} {ses : Nat} {reqid : Nat} {idx : Nat} {el : Nat} {u : Nat} {v : Nat} {s' : State} {y : Bool} (hq : writeEnable s ses reqid idx el u v = .inr (s', y)) : Keeps s s' := by
  unfold writeEnable at hq
  split at hq
  · split at hq
    · cases hq
      refine Keeps.step (enableClear_keeps ..) ?_
      exact Keeps.refl _
    · split at hq
      · cases hq
        exact Keeps.refl _
      · cases hq
        refine Keeps.of_only (enableStart_only _ _ _ _) rfl ?_
        exact Keeps.refl _
  · split at hq
    · cases hq
      exact Keeps.refl _
    · split at hq
      · split at hq
        · cases hq
        · dsimp only at hq
          cases hq
          refine Keeps.of_only (portCond_only _ _) rfl ?_
          refine Keeps.ite ?_ ?_
          · refine Keeps.of_only (setPort_only _ _ _) rfl ?_
            refine Keeps.ite ?_ ?_
            · refine Keeps.of_only (setPort_only _ _ _) rfl ?_
              refine Keeps.of_only (setObj_only _ _ _ _ _) rfl ?_
              exact Keeps.refl _
            · refine Keeps.of_only (setObj_only _ _ _ _ _) rfl ?_
              exact Keeps.refl _
          · refine Keeps.ite ?_ ?_
            · refine Keeps.of_only (setPort_only _ _ _) rfl ?_
              refine Keeps.of_only (setObj_only _ _ _ _ _) rfl ?_
              exact Keeps.refl _
            · refine Keeps.of_only (setObj_only _ _ _ _ _) rfl ?_
              exact Keeps.refl _
      · split at hq
        · cases hq
        · cases hq
          refine Keeps.ite ?_ ?_
          · refine Keeps.of_only (bring_only _ _) rfl ?_
            refine Keeps.of_only (setObj_only _ _ _ _ _) rfl ?_
            exact Keeps.refl _
          · refine Keeps.of_only (setObj_only _ _ _ _ _) rfl ?_
            exact Keeps.refl _

theorem applyItem_keeps (s : State) (ses : Nat) (idx : Nat) (el : Nat) (u : Nat) (v : Nat) (d : ObjDesc) : Keeps s (applyItem s ses idx el u v d) := by
  unfold applyItem
  refine Keeps.ite ?_ ?_
  · refine Keeps.of_only (setSel_only _ _ _ _ _) rfl ?_
    exact Keeps.refl _
  · refine Keeps.ite ?_ ?_
    · refine Keeps.of_only (Only.set_pend (m := 64) rfl (Only.refl _ _) _) rfl ?_
      exact Keeps.refl _
    · refine Keeps.ite ?_ ?_
      · refine Keeps.ite ?_ ?_
        · refine stateOf_keeps (fun _ hq => ?_) ?_
          · refine Keeps.of_only (brickPrepare_only (by assumption)) rfl ?_
            exact Keeps.refl _
          · exact Keeps.refl _
        · refine Keeps.of_only (brickUnprepare_only _ _) rfl ?_
          exact Keeps.refl _
      · refine Keeps.ite ?_ ?_
        · refine stateOf_keeps (fun _ hq => ?_) ?_
          · refine Keeps.of_only (blockRestart_only (by assumption)) rfl ?_
            exact Keeps.refl _
          · exact Keeps.refl _
        · refine Keeps.ite ?_ ?_
          · refine Keeps.of_only (preferFeeds_only _) rfl ?_
            refine Keeps.of_only (setObj_only _ _ _ _ _) rfl ?_
            exact Keeps.refl _
          · refine Keeps.ite ?_ ?_
            · refine stateOf_keeps (fun _ hq => ?_) ?_
              · refine Keeps.step (regionReturn_keeps (by assumption)) ?_
                exact Keeps.refl _
              · exact Keeps.refl _
            · refine Keeps.ite ?_ ?_
              · refine stateOf_keeps (fun _ hq => ?_) ?_
                · refine Keeps.of_only (resume_only (by assumption)) rfl ?_
                  exact Keeps.refl _
                · exact Keeps.refl _
              · refine Keeps.ite ?_ ?_
                · split
                  · exact Keeps.refl _
                  · refine Keeps.step (powerTarget_keeps (by assumption)) ?_
                    exact Keeps.refl _
                · refine Keeps.ite ?_ ?_
                  · refine Keeps.of_only (Only.set_rtcValid_rtcSet_rtcTick (m := 33056565380087516495872) rfl rfl rfl (Only.refl _ _) _ _ _) rfl ?_
                    exact Keeps.refl _
                  · refine Keeps.ite ?_ ?_
                    · refine Keeps.getD (fun _ hq => ?_) ?_
                      · refine Keeps.of_only (reinstate_only (by assumption)) rfl ?_
                        exact Keeps.refl _
                      · exact Keeps.refl _
                    · refine Keeps.ite ?_ ?_
                      · refine stateOf_keeps (fun _ hq => ?_) ?_
                        · refine Keeps.of_only (requestTest_only (by assumption)) rfl ?_
                          exact Keeps.refl _
                        · exact Keeps.refl _
                      · refine Keeps.ite ?_ ?_
                        · refine stateOf_keeps (fun _ hq => ?_) ?_
                          · refine Keeps.of_only (cardPrepare_only (by assumption)) rfl ?_
                            exact Keeps.refl _
                          · exact Keeps.refl _
                        · refine Keeps.ite ?_ ?_
                          · refine Keeps.of_only (evConfigure_only _ _ _) rfl ?_
                            exact Keeps.refl _
                          · refine Keeps.ite ?_ ?_
                            · dsimp only
                              refine Keeps.ite ?_ ?_
                              · refine Keeps.of_only (setEv_only _ _ _) rfl ?_
                                exact Keeps.refl _
                              · exact Keeps.refl _
                            · dsimp only
                              refine Keeps.ite ?_ ?_
                              · refine Keeps.step (abortTests_keeps ..) ?_
                                refine Keeps.of_only (setObj_only _ _ _ _ _) rfl ?_
                                exact Keeps.refl _
                              · refine Keeps.of_only (setObj_only _ _ _ _ _) rfl ?_
                                exact Keeps.refl _

theorem applyItems_keeps {s t : State} {ses reqid : Nat} {l : List WriteItem} {y : Bool} (h : applyItems s ses reqid l = .inr (t, y)) :
    Keeps s t := by
  induction l generalizing s with
  | nil =>
    unfold applyItems at h
    cases h
    exact Keeps.refl _
  | cons x r ih =>
    unfold applyItems at h
    split at h
    · exact ih h
    · dsimp only at h
      split at h
      · split at h
        · cases h
        · split at h
          · refine Keeps.step (ih h) ?_
            refine Keeps.step (writeEnable_keeps (by assumption)) ?_
            exact Keeps.refl _
          · cases h
            refine Keeps.step (writeEnable_keeps (by assumption)) ?_
            exact Keeps.refl _
      · refine Keeps.step (ih h) ?_
        refine Keeps.step (applyItem_keeps ..) ?_
        exact Keeps.refl _

theorem writeRequest_keeps (ses : Nat) (reqid : Nat) (items : List Sys2Proof.WriteItem) (s : State) : KeepsO s (writeRequest ses reqid items s) := by
  unfold writeRequest
  refine served_keeps (fun _ _ => ?_) ?_
  · split
    · refine Keeps.of_only (refuseReq_only _ _ _ _ _ _ _) rfl ?_
      assumption
    · refine Keeps.ite ?_ ?_
      · refine Keeps.of_only (refuseReq_only _ _ _ _ _ _ _) rfl ?_
        assumption
      · split
        · refine Keeps.of_only (refuseReq_only _ _ _ _ _ _ _) rfl ?_
          assumption
        · refine Keeps.ite ?_ ?_
          · refine Keeps.of_only (acceptReq_only _ _ _ _ _) rfl ?_
            refine Keeps.step (applyItems_keeps (by assumption)) ?_
            assumption
          · refine Keeps.step (applyItems_keeps (by assumption)) ?_
            assumption
  · exact Keeps.refl _

theorem execWrite_keeps (ses : Nat) (reqid : Nat) (items : List Sys2Proof.WriteItem) (s : State) : KeepsO s (execWrite ses reqid items s) := by
  unfold execWrite
  refine KeepsO.step (writeRequest_keeps _ _ _ _) ?_
  exact Keeps.refl _

theorem execSelectorWrite_keeps (ses : Nat) (reqid : Nat) (idx : Nat) (el : Nat) (v : Nat) (s : State) : KeepsO s (execSelectorWrite ses reqid idx el v s) := by
  unfold execSelectorWrite
  refine KeepsO.ite ?_ ?_
  · refine KeepsO.step (writeRequest_keeps _ _ _ _) ?_
    exact Keeps.refl _
  · refine KeepsO.next ?_
    exact Keeps.refl _

theorem execPartEnableSet_keeps (ses : Nat) (reqid : Nat) (p : Nat) (s : State) : KeepsO s (execPartEnableSet ses reqid p s) := by
  unfold execPartEnableSet
  refine KeepsO.ite ?_ ?_
  · exact KeepsO.fault _ _
  · refine KeepsO.step (writeRequest_keeps _ _ _ _) ?_
    exact Keeps.refl _

theorem execPartEnableClear_keeps (ses : Nat) (reqid : Nat) (p : Nat) (s : State) : KeepsO s (execPartEnableClear ses reqid p s) := by
  unfold execPartEnableClear
  refine KeepsO.ite ?_ ?_
  · exact KeepsO.fault _ _
  · refine KeepsO.step (writeRequest_keeps _ _ _ _) ?_
    exact Keeps.refl _

theorem execPortEnableSet_keeps (ses : Nat) (reqid : Nat) (mgmt : Bool) (s : State) : KeepsO s (execPortEnableSet ses reqid mgmt s) := by
  unfold execPortEnableSet
  refine KeepsO.step (writeRequest_keeps _ _ _ _) ?_
  exact Keeps.refl _

theorem execPolicyEnableSet_keeps (ses : Nat) (reqid : Nat) (thermal : Bool) (s : State) : KeepsO s (execPolicyEnableSet ses reqid thermal s) := by
  unfold execPolicyEnableSet
  refine KeepsO.step (writeRequest_keeps _ _ _ _) ?_
  exact Keeps.refl _

theorem execBrickPrepare_keeps (ses : Nat) (reqid : Nat) (s : State) : KeepsO s (execBrickPrepare ses reqid s) := by
  unfold execBrickPrepare
  refine KeepsO.step (writeRequest_keeps _ _ _ _) ?_
  exact Keeps.refl _

theorem execBrickUnprepare_keeps (ses : Nat) (reqid : Nat) (s : State) : KeepsO s (execBrickUnprepare ses reqid s) := by
  unfold execBrickUnprepare
  refine KeepsO.step (writeRequest_keeps _ _ _ _) ?_
  exact Keeps.refl _

theorem execBlockRestart_keeps (ses : Nat) (reqid : Nat) (s : State) : KeepsO s (execBlockRestart ses reqid s) := by
  unfold execBlockRestart
  refine KeepsO.step (writeRequest_keeps _ _ _ _) ?_
  exact Keeps.refl _

theorem execRegionReturnRequest_keeps (ses : Nat) (reqid : Nat) (h : Nat) (s : State) : KeepsO s (execRegionReturnRequest ses reqid h s) := by
  unfold execRegionReturnRequest
  refine KeepsO.step (writeRequest_keeps _ _ _ _) ?_
  exact Keeps.refl _

theorem execResume_keeps (ses : Nat) (reqid : Nat) (s : State) : KeepsO s (execResume ses reqid s) := by
  unfold execResume
  refine KeepsO.step (writeRequest_keeps _ _ _ _) ?_
  exact Keeps.refl _

theorem execPowerTargetStandby_keeps (ses : Nat) (reqid : Nat) (s : State) : KeepsO s (execPowerTargetStandby ses reqid s) := by
  unfold execPowerTargetStandby
  refine KeepsO.step (writeRequest_keeps _ _ _ _) ?_
  exact Keeps.refl _

theorem execPowerTargetAttended_keeps (ses : Nat) (reqid : Nat) (s : State) : KeepsO s (execPowerTargetAttended ses reqid s) := by
  unfold execPowerTargetAttended
  refine KeepsO.step (writeRequest_keeps _ _ _ _) ?_
  exact Keeps.refl _

theorem execPowerTargetReady_keeps (ses : Nat) (reqid : Nat) (s : State) : KeepsO s (execPowerTargetReady ses reqid s) := by
  unfold execPowerTargetReady
  refine KeepsO.step (writeRequest_keeps _ _ _ _) ?_
  exact Keeps.refl _

theorem execUnitReinstate_keeps (ses : Nat) (reqid : Nat) (s : State) : KeepsO s (execUnitReinstate ses reqid s) := by
  unfold execUnitReinstate
  refine KeepsO.step (writeRequest_keeps _ _ _ _) ?_
  exact Keeps.refl _

theorem execFtestRequestLight_keeps (ses : Nat) (reqid : Nat) (t : Nat) (s : State) : KeepsO s (execFtestRequestLight ses reqid t s) := by
  unfold execFtestRequestLight
  refine KeepsO.step (writeRequest_keeps _ _ _ _) ?_
  exact Keeps.refl _

theorem execFtestRequestFull_keeps (ses : Nat) (reqid : Nat) (t : Nat) (s : State) : KeepsO s (execFtestRequestFull ses reqid t s) := by
  unfold execFtestRequestFull
  refine KeepsO.step (writeRequest_keeps _ _ _ _) ?_
  exact Keeps.refl _

theorem execCardPrepare_keeps (ses : Nat) (reqid : Nat) (s : State) : KeepsO s (execCardPrepare ses reqid s) := by
  unfold execCardPrepare
  refine KeepsO.step (writeRequest_keeps _ _ _ _) ?_
  exact Keeps.refl _

theorem execEvConfigWrite_keeps (ses : Nat) (reqid : Nat) (n : Nat) (v : Nat) (s : State) : KeepsO s (execEvConfigWrite ses reqid n v s) := by
  unfold execEvConfigWrite
  refine KeepsO.ite ?_ ?_
  · exact KeepsO.fault _ _
  · refine KeepsO.step (writeRequest_keeps _ _ _ _) ?_
    exact Keeps.refl _

theorem execEvOverrunClear_keeps (ses : Nat) (reqid : Nat) (n : Nat) (s : State) : KeepsO s (execEvOverrunClear ses reqid n s) := by
  unfold execEvOverrunClear
  refine KeepsO.ite ?_ ?_
  · exact KeepsO.fault _ _
  · refine KeepsO.step (writeRequest_keeps _ _ _ _) ?_
    exact Keeps.refl _

theorem imgRequest_keeps {s0 s : State} {ses op reqid : Nat} {f : State → Sum Nat State}
    (hf : ∀ t u, f t = .inr u → Keeps s0 t → Keeps s0 u) (h : Keeps s0 s) :
    KeepsO s0 (imgRequest ses op reqid f s) := by
  unfold imgRequest
  refine served_keeps (fun t g => ?_) h
  refine Keeps.ite (Keeps.of_only (refuseReq_only ..) rfl g) ?_
  split
  · exact Keeps.of_only (refuseReq_only ..) rfl g
  · exact Keeps.of_only (acceptReq_only ..) rfl (hf t _ (by assumption) g)

theorem execImgbegin_keeps (ses reqid id len : Nat) (s : State) : KeepsO s (execImgbegin ses reqid id len s) := by
  unfold execImgbegin
  refine imgRequest_keeps (fun t u h g => .mk fun k => ?_) (Keeps.refl _)
  dsimp only at h
  split at h
  · cases h
  · split at h
    · cases h
    · obtain rfl := Sum.inr.inj h
      refine { g.good k with uploads := ?_ }
      show (List.filter _ t.uploads ++ [_]).length ≤ 4
      simp only [List.length_append, List.length_singleton]
      omega

theorem execImgdata_keeps (ses reqid id off : Nat) (data : List Byte) (s : State) : KeepsO s (execImgdata ses reqid id off data s) := by
  unfold execImgdata
  refine imgRequest_keeps (fun t u h g => .mk fun k => ?_) (Keeps.refl _)
  split at h
  · cases h
  · split at h
    · cases h
    · obtain rfl := Sum.inr.inj h
      refine { g.good k with uploads := ?_ }
      show (List.map _ t.uploads).length ≤ 4
      simpa only [List.length_map] using (g.good k).uploads

theorem execImgend_keeps (ses reqid id : Nat) (s : State) : KeepsO s (execImgend ses reqid id s) := by
  unfold execImgend
  refine imgRequest_keeps (fun t u h g => .mk fun k => ?_) (Keeps.refl _)
  split at h
  · cases h
  · split at h
    · obtain rfl := Sum.inr.inj h
      exact { g.good k with uploads := Nat.le_trans (List.length_filter_le ..) (g.good k).uploads }
    · cases h

theorem execImgdelete_keeps (ses reqid id : Nat) (s : State) : KeepsO s (execImgdelete ses reqid id s) := by
  unfold execImgdelete
  refine imgRequest_keeps (fun t u h g => .mk fun k => ?_) (Keeps.refl _)
  split at h
  · cases h
  · split at h
    · obtain rfl := Sum.inr.inj h
      exact { g.good k with uploads := Nat.le_trans (List.length_filter_le ..) (g.good k).uploads }
    · split at h
      · obtain rfl := Sum.inr.inj h
        exact { g.good k with uploads := (g.good k).uploads }
      · cases h

end Sys2Proof.Machine
end

