-- ==== Sys2Proof/Laws/OnlyModes.lean ====
section
/-! SUPPORT. What each operation of Machine/Modes.lean can change, at most. -/
namespace Sys2Proof.Machine

theorem modeArm_only (s : State) (ses : Nat) (reqid : Nat) (kind : Nat) (p : Nat) (v : Nat) : Only 0x800000000000700 s (modeArm s ses reqid kind p v) := by
  unfold modeArm
  dsimp only
  refine Only.ite ?_ ?_
  · refine Only.step (setPState_only ..) rfl ?_
    refine Only.step (setCond_only ..) rfl ?_
    refine Only.set_modeRec_gov rfl rfl ?_ _ _
    exact Only.refl _ _
  · refine Only.foldl (fun _ _ _ => ?_) ?_
    · refine Only.ite ?_ ?_
      · refine Only.step (setPState_only ..) rfl ?_
        assumption
      · assumption
    · refine Only.step (setCond_only ..) rfl ?_
      refine Only.set_modeRec_gov rfl rfl ?_ _ _
      exact Only.refl _ _

theorem mcarm_only (ses : Nat) (reqid : Nat) (kind : Nat) (p : Nat) (v : Nat) (s : State) : OnlyO 0x80080000800000000000700 s (mcarm ses reqid kind p v s) := by
  unfold mcarm
  refine OnlyO.ite ?_ ?_
  · exact OnlyO.fault _ _ _
  · refine served_only (fun _ _ => ?_) rfl ?_
    · split
      · refine Only.step (refuseReq_only ..) rfl ?_
        assumption
      · refine Only.step (modeArm_only ..) rfl ?_
        assumption
    · exact Only.refl _ _

theorem execMcarmNumeric_only (ses : Nat) (reqid : Nat) (p : Nat) (v : Nat) (s : State) : OnlyO 0x80080000800000000000700 s (execMcarmNumeric ses reqid p v s) := by
  unfold execMcarmNumeric
  refine OnlyO.step (mcarm_only _ _ _ _ _ _) rfl ?_
  exact Only.refl _ _

theorem execMcarmBand_only (ses : Nat) (reqid : Nat) (p : Nat) (v : Nat) (s : State) : OnlyO 0x80080000800000000000700 s (execMcarmBand ses reqid p v s) := by
  unfold execMcarmBand
  refine OnlyO.step (mcarm_only _ _ _ _ _ _) rfl ?_
  exact Only.refl _ _

theorem execMcarmPower_only (ses : Nat) (reqid : Nat) (v : Nat) (s : State) : OnlyO 0x80080000800000000000700 s (execMcarmPower ses reqid v s) := by
  unfold execMcarmPower
  refine OnlyO.step (mcarm_only _ _ _ _ _ _) rfl ?_
  exact Only.refl _ _

theorem modeReply_only (s : State) (op : Nat) (reason : Nat) : Only 0x80080000000000000000200 s (modeReply s op reason) := by
  unfold modeReply
  split
  · exact Only.refl _ _
  · dsimp only
    refine Only.ite ?_ ?_
    · refine Only.step (acceptReq_only ..) rfl ?_
      refine Only.set_modeRec rfl ?_ _
      exact Only.refl _ _
    · refine Only.step (refuseReq_only ..) rfl ?_
      refine Only.set_modeRec rfl ?_ _
      exact Only.refl _ _

theorem modeFail_only (s : State) (op : Nat) (reason : Nat) : Only 0x80080100000000000000780 s (modeFail s op reason) := by
  unfold modeFail
  dsimp only
  refine Only.step (modeReply_only ..) rfl ?_
  refine Only.set_modeRec rfl ?_ _
  refine Only.step (modeRollback_only ..) rfl ?_
  exact Only.refl _ _

theorem execMcArmed_only (s : State) : OnlyO 0x80080000000000000000200 s (execMcArmed s) := by
  unfold execMcArmed
  refine OnlyO.ite ?_ ?_
  · refine OnlyO.next ?_
    exact Only.refl _ _
  · dsimp only
    refine OnlyO.next ?_
    refine Only.step (modeReply_only ..) rfl ?_
    refine Only.set_modeRec rfl ?_ _
    exact Only.refl _ _

theorem execMcArmTimeout_only (s : State) : OnlyO 0x80080100000000000000780 s (execMcArmTimeout s) := by
  unfold execMcArmTimeout
  refine OnlyO.ite ?_ ?_
  · refine OnlyO.next ?_
    exact Only.refl _ _
  · refine OnlyO.next ?_
    refine Only.step (modeFail_only ..) rfl ?_
    exact Only.refl _ _

theorem execMcArmUnitFail_only (i : Nat) (s : State) : OnlyO 0x80080100000000000000780 s (execMcArmUnitFail i s) := by
  unfold execMcArmUnitFail
  dsimp only
  split
  · refine OnlyO.next ?_
    exact Only.refl _ _
  · refine OnlyO.ite ?_ ?_
    · refine OnlyO.next ?_
      exact Only.refl _ _
    · refine OnlyO.next ?_
      refine Only.step (modeFail_only ..) rfl ?_
      refine Only.set_modeRec rfl ?_ _
      exact Only.refl _ _

theorem execMcHoldTimeout_only (s : State) : OnlyO 0x100000000000000780 s (execMcHoldTimeout s) := by
  unfold execMcHoldTimeout
  refine OnlyO.ite ?_ ?_
  · refine OnlyO.next ?_
    exact Only.refl _ _
  · refine OnlyO.next ?_
    refine Only.step (modeRollback_only ..) rfl ?_
    exact Only.refl _ _

theorem execMcapply_only (ses : Nat) (reqid : Nat) (epoch : Nat) (s : State) : OnlyO 0x80080000000000000000200 s (execMcapply ses reqid epoch s) := by
  unfold execMcapply
  refine served_only (fun _ _ => ?_) rfl ?_
  · dsimp only
    refine Only.ite ?_ ?_
    · refine Only.step (refuseReq_only ..) rfl ?_
      assumption
    · refine Only.ite ?_ ?_
      · refine Only.step (refuseReq_only ..) rfl ?_
        assumption
      · refine Only.ite ?_ ?_
        · refine Only.step (refuseReq_only ..) rfl ?_
          assumption
        · refine Only.set_modeRec rfl ?_ _
          assumption
  · exact Only.refl _ _

theorem execMcabort_only (ses : Nat) (reqid : Nat) (s : State) : OnlyO 0x80080100000000000000780 s (execMcabort ses reqid s) := by
  unfold execMcabort
  refine served_only (fun _ _ => ?_) rfl ?_
  · refine Only.ite ?_ ?_
    · refine Only.step (refuseReq_only ..) rfl ?_
      assumption
    · refine Only.ite ?_ ?_
      · refine Only.step (refuseReq_only ..) rfl ?_
        assumption
      · refine Only.step (acceptReq_only ..) rfl ?_
        refine Only.step (modeRollback_only ..) rfl ?_
        assumption
  · exact Only.refl _ _

theorem execMcApplyEpoch_only (bad : List Nat) (s : State) : OnlyO 0x200 s (execMcApplyEpoch bad s) := by
  unfold execMcApplyEpoch
  dsimp only
  refine OnlyO.ite ?_ ?_
  · refine OnlyO.next ?_
    exact Only.refl _ _
  · refine OnlyO.next ?_
    refine Only.set_modeRec rfl ?_ _
    exact Only.refl _ _

theorem modeCommit_only (s : State) : Only 0xc0080100800000200a14ca0 s (modeCommit s) := by
  unfold modeCommit
  dsimp only
  split
  · refine Only.step (setObj_only ..) rfl ?_
    exact Only.refl _ _
  · refine Only.step (forceBand_only ..) rfl ?_
    refine Only.step (setObj_only ..) rfl ?_
    exact Only.refl _ _
  · refine Only.step (setObj_only ..) rfl ?_
    refine Only.set_gov rfl ?_ _
    exact Only.refl _ _

theorem execMcConfirmEnd_only (s : State) : OnlyO 0xc0080100800000200a14fa0 s (execMcConfirmEnd s) := by
  unfold execMcConfirmEnd
  dsimp only
  refine OnlyO.ite ?_ ?_
  · refine OnlyO.next ?_
    exact Only.refl _ _
  · split
    · refine OnlyO.next ?_
      refine Only.step (modeReply_only ..) rfl ?_
      refine Only.step (raise_only ..) rfl ?_
      refine Only.step (setCond_only ..) rfl ?_
      refine Only.step (releaseArmed_only ..) rfl ?_
      refine Only.set_modeRec rfl ?_ _
      refine Only.step (modeCommit_only ..) rfl ?_
      exact Only.refl _ _
    · refine OnlyO.ite ?_ ?_
      · refine OnlyO.next ?_
        exact Only.refl _ _
      · refine OnlyO.next ?_
        refine Only.step (modeFail_only ..) rfl ?_
        refine Only.set_modeRec rfl ?_ _
        exact Only.refl _ _

end Sys2Proof.Machine
end

