-- ==== Sys2Proof/Laws/KeepsModes.lean ====
section
/-! SUPPORT. Each operation of Machine/Modes.lean keeps: the form of the memories and the bounds of the stores. -/
namespace Sys2Proof.Machine

theorem modeFail_keeps (s : State) (op : Nat) (reason : Nat) : Keeps s (modeFail s op reason) := by
  unfold modeFail
  dsimp only
  refine Keeps.of_only (modeReply_only _ _ _) rfl ?_
  refine Keeps.of_only (Only.set_modeRec (m := 512) rfl (Only.refl _ _) _) rfl ?_
  refine Keeps.step (modeRollback_keeps ..) ?_
  exact Keeps.refl _

theorem execMcArmTimeout_keeps (s : State) : KeepsO s (execMcArmTimeout s) := by
  unfold execMcArmTimeout
  refine KeepsO.ite ?_ ?_
  · refine KeepsO.next ?_
    exact Keeps.refl _
  · refine KeepsO.next ?_
    refine Keeps.step (modeFail_keeps ..) ?_
    exact Keeps.refl _

theorem execMcArmUnitFail_keeps (i : Nat) (s : State) : KeepsO s (execMcArmUnitFail i s) := by
  unfold execMcArmUnitFail
  dsimp only
  split
  · refine KeepsO.next ?_
    exact Keeps.refl _
  · refine KeepsO.ite ?_ ?_
    · refine KeepsO.next ?_
      exact Keeps.refl _
    · refine KeepsO.next ?_
      refine Keeps.step (modeFail_keeps ..) ?_
      refine Keeps.of_only (Only.set_modeRec (m := 512) rfl (Only.refl _ _) _) rfl ?_
      exact Keeps.refl _

theorem execMcHoldTimeout_keeps (s : State) : KeepsO s (execMcHoldTimeout s) := by
  unfold execMcHoldTimeout
  refine KeepsO.ite ?_ ?_
  · refine KeepsO.next ?_
    exact Keeps.refl _
  · refine KeepsO.next ?_
    refine Keeps.step (modeRollback_keeps ..) ?_
    exact Keeps.refl _

theorem execMcabort_keeps (ses : Nat) (reqid : Nat) (s : State) : KeepsO s (execMcabort ses reqid s) := by
  unfold execMcabort
  refine served_keeps (fun _ _ => ?_) ?_
  · refine Keeps.ite ?_ ?_
    · refine Keeps.of_only (refuseReq_only _ _ _ _ _ _ _) rfl ?_
      assumption
    · refine Keeps.ite ?_ ?_
      · refine Keeps.of_only (refuseReq_only _ _ _ _ _ _ _) rfl ?_
        assumption
      · refine Keeps.of_only (acceptReq_only _ _ _ _ _) rfl ?_
        refine Keeps.step (modeRollback_keeps ..) ?_
        assumption
  · exact Keeps.refl _

theorem modeCommit_keeps (s : State) : Keeps s (modeCommit s) := by
  unfold modeCommit
  dsimp only
  split
  · refine Keeps.of_only (setObj_only _ _ _ _ _) rfl ?_
    exact Keeps.refl _
  · refine Keeps.step (forceBand_keeps ..) ?_
    refine Keeps.of_only (setObj_only _ _ _ _ _) rfl ?_
    exact Keeps.refl _
  · refine Keeps.of_only (setObj_only _ _ _ _ _) rfl ?_
    refine Keeps.of_only (Only.set_gov (m := 576460752303423488) rfl (Only.refl _ _) _) rfl ?_
    exact Keeps.refl _

theorem execMcConfirmEnd_keeps (s : State) : KeepsO s (execMcConfirmEnd s) := by
  unfold execMcConfirmEnd
  dsimp only
  refine KeepsO.ite ?_ ?_
  · refine KeepsO.next ?_
    exact Keeps.refl _
  · split
    · refine KeepsO.next ?_
      refine Keeps.of_only (modeReply_only _ _ _) rfl ?_
      refine Keeps.step (raise_keeps ..) ?_
      refine Keeps.of_only (setCond_only _ _ _) rfl ?_
      refine Keeps.of_only (releaseArmed_only _) rfl ?_
      refine Keeps.of_only (Only.set_modeRec (m := 512) rfl (Only.refl _ _) _) rfl ?_
      refine Keeps.step (modeCommit_keeps ..) ?_
      exact Keeps.refl _
    · refine KeepsO.ite ?_ ?_
      · refine KeepsO.next ?_
        exact Keeps.refl _
      · refine KeepsO.next ?_
        refine Keeps.step (modeFail_keeps ..) ?_
        refine Keeps.of_only (Only.set_modeRec (m := 512) rfl (Only.refl _ _) _) rfl ?_
        exact Keeps.refl _

end Sys2Proof.Machine
end

