-- ==== Sys2Proof/Laws/OnlyPlacer.lean ====
section
/-! SUPPORT. What each operation of Machine/Placer.lean can change, at most. -/
namespace Sys2Proof.Machine

theorem endJob_only (s : State) (j : PlaceJob) (reason : Nat) (limit : Nat) (pl : Placement) : Only 0x800c0000000000000000020 s (endJob s j reason limit pl) := by
  unfold endJob
  dsimp only
  refine Only.ite ?_ ?_
  · refine Only.step (reply_only ..) rfl ?_
    refine Only.set_jobs rfl ?_ _
    refine Only.ite ?_ ?_
    · refine Only.step (setObj_only ..) rfl ?_
      exact Only.refl _ _
    · refine Only.step (setObj_only ..) rfl ?_
      refine Only.step (setObj_only ..) rfl ?_
      exact Only.refl _ _
  · refine Only.set_jobs rfl ?_ _
    refine Only.ite ?_ ?_
    · refine Only.step (setObj_only ..) rfl ?_
      exact Only.refl _ _
    · refine Only.step (setObj_only ..) rfl ?_
      refine Only.step (setObj_only ..) rfl ?_
      exact Only.refl _ _

theorem unbind_only (s : State) (k : Nat) : Only 0x900000000400600480 s (unbind s k) := by
  unfold unbind
  dsimp only
  refine Only.set_parts_bankMap_vpgmWait rfl rfl rfl ?_ _ _ _
  refine Only.step (updBank_only ..) rfl ?_
  refine Only.step (closeProgram_only ..) rfl ?_
  exact Only.refl _ _

theorem dropCandidate_only (s : State) (w : PlaceTile) : Only 0x900000000400600480 s (dropCandidate s w) := by
  unfold dropCandidate
  refine Only.foldl (fun _ _ _ => ?_) ?_
  · refine Only.ite ?_ ?_
    · assumption
    · refine Only.step (unbind_only ..) rfl ?_
      assumption
  · exact Only.refl _ _

theorem returnAll_only (s : State) (p : Nat) (reason : Nat) : Only 0xc0080000000000000005800 s (returnAll s p reason) := by
  unfold returnAll
  refine Only.foldl (fun _ _ _ => ?_) ?_
  · refine Only.step (returnWaiting_only ..) rfl ?_
    refine Only.step (returnRunning_only ..) rfl ?_
    assumption
  · refine Only.set_cancelWait rfl ?_ _
    exact Only.refl _ _

theorem clearPart_only (s : State) (p : Nat) : Only 0x18200000007002201f0500 s (clearPart s p) := by
  unfold clearPart
  dsimp only
  refine Only.step (setPState_only ..) rfl ?_
  refine Only.step (setPart_only ..) rfl ?_
  refine Only.set_sync_seqs_kvSets_ringTags_staged_windows_inWrites rfl rfl rfl rfl rfl rfl rfl ?_ _ _ _ _ _ _ _
  refine Only.step (dropRuns_only ..) rfl ?_
  exact Only.refl _ _

theorem zeroSp_only (s : State) (t : Nat) (off : Nat) (n : Nat) : Only 0x3000000 s (zeroSp s t off n) := by
  unfold zeroSp
  refine Only.set_sp_spErr rfl rfl ?_ _ _
  exact Only.refl _ _

theorem patchField_only (s : State) (t : Nat) (a : Nat) (lsb : Nat) (width : Nat) (v : Nat) : Only 0x7000000 s (patchField s t a lsb width v) := by
  unfold patchField
  dsimp only
  refine Only.step (spWrite_only ..) rfl ?_
  exact Only.refl _ _

theorem patchReloc_only (pl : Placement) (pti : Nat) (x : PTile) (s : State) (w : Nat) : Only 0x7000000 s (patchReloc pl pti x s w) := by
  unfold patchReloc
  dsimp only
  refine Only.ite ?_ ?_
  · exact Only.refl _ _
  · split
    · exact Only.refl _ _
    · refine Only.step (patchField_only ..) rfl ?_
      exact Only.refl _ _

theorem patchHeader_only (pl : Placement) (pti : Nat) (x : PTile) (s : State) (g : Prog) : Only 0x7000000 s (patchHeader pl pti x s g) := by
  unfold patchHeader
  split
  · exact Only.refl _ _
  · dsimp only
    refine Only.step (patchField_only ..) rfl ?_
    refine Only.step (patchField_only ..) rfl ?_
    refine Only.step (patchField_only ..) rfl ?_
    exact Only.refl _ _

theorem writeTile_only (m : Memory) (pl : Placement) (s : State) (pti : Nat) : Only 0x7000000 s (writeTile m pl s pti) := by
  unfold writeTile
  split
  · dsimp only
    refine Only.foldl (fun _ _ _ => ?_) ?_
    · refine Only.step (patchHeader_only ..) rfl ?_
      assumption
    · refine Only.foldl (fun _ _ _ => ?_) ?_
      · refine Only.step (patchReloc_only ..) rfl ?_
        assumption
      · refine Only.foldl (fun _ _ _ => ?_) ?_
        · split
          · assumption
          · refine Only.ite ?_ ?_
            · refine Only.step (spWrite_only ..) rfl ?_
              assumption
            · refine Only.step (zeroSp_only ..) rfl ?_
              assumption
        · exact Only.refl _ _
  · exact Only.refl _ _

theorem healTile_only (m : Memory) (pl : Placement) (s : State) (pti : Nat) : Only 0x7000000 s (healTile m pl s pti) := by
  unfold healTile
  split
  · exact Only.refl _ _
  · dsimp only
    refine Only.foldl (fun _ _ _ => ?_) ?_
    · refine Only.step (spWrite_only ..) rfl ?_
      assumption
    · exact Only.refl _ _

theorem healRegions_only (s : State) (p : Nat) : Only 0x7000000 s (healRegions s p) := by
  unfold healRegions
  dsimp only
  refine Only.foldl (fun _ _ _ => ?_) ?_
  · refine Only.step (healTile_only ..) rfl ?_
    assumption
  · exact Only.refl _ _

theorem restartPart_only (s : State) (p : Nat) : Only 0x8000000000000007000500 s (restartPart s p) := by
  unfold restartPart
  refine Only.step (armExports_only ..) rfl ?_
  refine Only.step (toIdle_only ..) rfl ?_
  refine Only.step (healRegions_only ..) rfl ?_
  exact Only.refl _ _

theorem initRegion_only (m : Memory) (s : State) (r : HReg) : Only 0x180000000 s (initRegion m s r) := by
  unfold initRegion
  dsimp only
  refine Only.ite ?_ ?_
  · refine Only.foldl (fun _ _ _ => ?_) ?_
    · split
      · assumption
      · refine Only.step (hbmWrite_only ..) rfl ?_
        assumption
    · refine Only.set_hbm_hbmErr rfl rfl ?_ _ _
      exact Only.refl _ _
  · refine Only.set_hbm_hbmErr rfl rfl ?_ _ _
    exact Only.refl _ _

theorem effState_only {m : Nat} {s0 s : State} {x : Eff} (hf : ∀ t r, x = .inr (t, r) → Only m s0 t) (h : Only m s0 s) :
    Only m s0 (effState s x) := by
  unfold effState
  split
  · exact h
  · exact hf _ _ rfl

theorem stageOne_only (p : Nat) (m : Memory) (s : State) (e : Nat × Nat) : Only 0x20000000000187000020 s (stageOne p m s e) := by
  unfold stageOne
  split
  · exact Only.refl _ _
  · exact effState_only (fun _ _ hq => Only.step (stageInto_only hq) rfl (Only.refl _ _)) (Only.refl _ _)

theorem stageAll_only (s : State) (p : Nat) (m : Memory) : Only 0x20000000000187000020 s (stageAll s p m) := by
  unfold stageAll
  refine Only.foldl (fun _ _ _ => ?_) ?_
  · refine Only.step (stageOne_only ..) rfl ?_
    assumption
  · exact Only.refl _ _

theorem bindTile_only (dual : Bool) (s : State) (t : PTile) : Only 0x600000 s (bindTile dual s t) := by
  unfold bindTile
  refine Only.foldl (fun _ _ _ => ?_) ?_
  · dsimp only
    refine Only.ite ?_ ?_
    · refine Only.step (loadTable_only ..) rfl ?_
      refine Only.set_bankMap rfl ?_ _
      refine Only.step (updBank_only ..) rfl ?_
      refine Only.step (loadTable_only ..) rfl ?_
      refine Only.set_bankMap rfl ?_ _
      refine Only.step (updBank_only ..) rfl ?_
      assumption
    · refine Only.step (loadTable_only ..) rfl ?_
      refine Only.set_bankMap rfl ?_ _
      refine Only.step (updBank_only ..) rfl ?_
      assumption
  · exact Only.refl _ _

theorem resetParams_only (s : State) (p : Nat) : Only 0x20 s (resetParams s p) := by
  unfold resetParams
  refine Only.set_dict rfl ?_ _
  exact Only.refl _ _

theorem failLoad_only (s : State) (j : PlaceJob) (reason : Nat) (limit : Nat) : Only 0xc18e09000007006207f5da0 s (failLoad s j reason limit) := by
  unfold failLoad
  dsimp only
  refine Only.step (endJob_only ..) rfl ?_
  refine Only.step (clearPart_only ..) rfl ?_
  refine Only.step (returnAll_only ..) rfl ?_
  refine Only.foldl (fun _ _ _ => ?_) ?_
  · refine Only.step (dropCandidate_only ..) rfl ?_
    assumption
  · exact Only.refl _ _

theorem abortOn_only (s : State) (t : Nat) : Only 0x1100000000002000a0 s (abortOn s t) := by
  unfold abortOn
  refine Only.step (abortTests_only ..) rfl ?_
  exact Only.refl _ _

theorem beginLoad_only (s : State) (j : PlaceJob) : Only 0xc18e09100007006207f5da0 s (beginLoad s j) := by
  unfold beginLoad
  dsimp only
  split
  · refine Only.step (failLoad_only ..) rfl ?_
    exact Only.refl _ _
  · refine Only.step (placerPump_only ..) rfl ?_
    refine Only.set_jobs rfl ?_ _
    refine Only.step (updPart_only ..) rfl ?_
    refine Only.foldl (fun _ _ _ => ?_) ?_
    · refine Only.step (abortOn_only ..) rfl ?_
      assumption
    · exact Only.refl _ _

theorem failReplace_only (s : State) (j : PlaceJob) (reason : Nat) (limit : Nat) : Only 0x800c09000000004006004a0 s (failReplace s j reason limit) := by
  unfold failReplace
  refine Only.step (endJob_only ..) rfl ?_
  refine Only.foldl (fun _ _ _ => ?_) ?_
  · refine Only.step (dropCandidate_only ..) rfl ?_
    assumption
  · exact Only.refl _ _

theorem beginReplace_only (s : State) (j : PlaceJob) : Only 0xe00e09100007007a77fdda0 s (beginReplace s j) := by
  unfold beginReplace
  dsimp only
  split
  · refine Only.step (failReplace_only ..) rfl ?_
    refine Only.ite ?_ ?_
    · refine Only.step (engineFault_only ..) rfl ?_
      exact Only.refl _ _
    · exact Only.refl _ _
  · split
    · refine Only.step (failReplace_only ..) rfl ?_
      refine Only.ite ?_ ?_
      · refine Only.step (engineFault_only ..) rfl ?_
        exact Only.refl _ _
      · exact Only.refl _ _
    · refine Only.step (placerPump_only ..) rfl ?_
      refine Only.set_jobs rfl ?_ _
      refine Only.foldl (fun _ _ _ => ?_) ?_
      · refine Only.step (abortOn_only ..) rfl ?_
        assumption
      · refine Only.ite ?_ ?_
        · refine Only.step (engineFault_only ..) rfl ?_
          exact Only.refl _ _
        · exact Only.refl _ _

theorem serveJobs_only (s : State) (n : Nat) : Only 0xe18e09100007007a77fdda0 s (serveJobs s n) := by
  induction n generalizing s with
  | zero => exact Only.refl _ _
  | succ n ih =>
    unfold serveJobs
    split
    · exact Only.refl _ _
    · split
      · exact Only.refl _ _
      · split
        · exact Only.refl _ _
        · refine Only.step (ih _) rfl ?_
          refine Only.ite ?_ ?_
          · refine Only.step (beginLoad_only ..) rfl ?_
            exact Only.set_jobs rfl (Only.refl _ _) _
          · refine Only.step (beginReplace_only ..) rfl ?_
            exact Only.set_jobs rfl (Only.refl _ _) _

theorem queueJob_only (s : State) (j : PlaceJob) : Only 0xe18e09100007007a77fdda0 s (queueJob s j) := by
  unfold queueJob
  dsimp only
  refine Only.step (serveJobs_only ..) rfl ?_
  refine Only.set_jobs rfl ?_ _
  exact Only.refl _ _

theorem execLoad_only (ses : Nat) (reqid : Nat) (body : Nat) (s : State) : OnlyO 0xe18e09100007007a77fdda0 s (execLoad ses reqid body s) := by
  unfold execLoad
  refine served_only (fun _ _ => ?_) rfl ?_
  · dsimp only
    split
    · refine Only.step (refuseReq_only ..) rfl ?_
      assumption
    · split
      · refine Only.step (refuseReq_only ..) rfl ?_
        assumption
      · split
        · refine Only.step (refuseReq_only ..) rfl ?_
          assumption
        · refine Only.step (queueJob_only ..) rfl ?_
          refine Only.set_windows rfl ?_ _
          refine Only.step (setPState_only ..) rfl ?_
          refine Only.step (setPart_only ..) rfl ?_
          refine Only.step (resetParams_only ..) rfl ?_
          assumption
  · exact Only.refl _ _

theorem execUnload_only (ses : Nat) (reqid : Nat) (p : Nat) (s : State) : OnlyO 0xe18e09100007007a77fdda0 s (execUnload ses reqid p s) := by
  unfold execUnload
  refine OnlyO.ite ?_ ?_
  · exact OnlyO.fault _ _ _
  · refine served_only (fun _ _ => ?_) rfl ?_
    · split
      · refine Only.step (refuseReq_only ..) rfl ?_
        assumption
      · dsimp only
        refine Only.step (acceptReq_only ..) rfl ?_
        refine Only.step (clearPart_only ..) rfl ?_
        refine Only.foldl (fun _ _ _ => ?_) ?_
        · refine Only.step (unbind_only ..) rfl ?_
          assumption
        · refine Only.step (returnAll_only ..) rfl ?_
          split
          · assumption
          · refine Only.step (serveJobs_only ..) rfl ?_
            refine Only.step (failReplace_only ..) rfl ?_
            refine Only.set_jobs rfl ?_ _
            assumption
    · exact Only.refl _ _

theorem execRestart_only (ses : Nat) (reqid : Nat) (p : Nat) (s : State) : OnlyO 0x88080000000000007000500 s (execRestart ses reqid p s) := by
  unfold execRestart
  refine OnlyO.ite ?_ ?_
  · exact OnlyO.fault _ _ _
  · refine served_only (fun _ _ => ?_) rfl ?_
    · split
      · refine Only.step (refuseReq_only ..) rfl ?_
        assumption
      · refine Only.ite ?_ ?_
        · refine Only.step (refuseReq_only ..) rfl ?_
          assumption
        · refine Only.step (acceptReq_only ..) rfl ?_
          refine Only.step (restartPart_only ..) rfl ?_
          assumption
    · exact Only.refl _ _

theorem replaceRequest_only (ses : Nat) (reqid : Nat) (body : Nat) (s : State) : OnlyO 0xe18e09100007007a77fdda0 s (replaceRequest ses reqid body s) := by
  unfold replaceRequest
  refine served_only (fun _ _ => ?_) rfl ?_
  · dsimp only
    split
    · refine Only.step (refuseReq_only ..) rfl ?_
      assumption
    · refine Only.ite ?_ ?_
      · refine Only.step (refuseReq_only ..) rfl ?_
        assumption
      · refine Only.ite ?_ ?_
        · refine Only.step (refuseReq_only ..) rfl ?_
          assumption
        · refine Only.step (queueJob_only ..) rfl ?_
          assumption
  · exact Only.refl _ _

theorem execReplaceTile_only (ses : Nat) (reqid : Nat) (body : Nat) (s : State) : OnlyO 0xe18e09100007007a77fdda0 s (execReplaceTile ses reqid body s) := by
  unfold execReplaceTile
  refine OnlyO.ite ?_ ?_
  · refine OnlyO.next ?_
    exact Only.refl _ _
  · refine OnlyO.step (replaceRequest_only _ _ _ _) rfl ?_
    exact Only.refl _ _

theorem execReplaceUnhealthy_only (ses : Nat) (reqid : Nat) (body : Nat) (s : State) : OnlyO 0xe18e09100007007a77fdda0 s (execReplaceUnhealthy ses reqid body s) := by
  unfold execReplaceUnhealthy
  refine OnlyO.ite ?_ ?_
  · refine OnlyO.step (replaceRequest_only _ _ _ _) rfl ?_
    exact Only.refl _ _
  · refine OnlyO.next ?_
    exact Only.refl _ _

theorem execReplaceTrigger_only (p : Nat) (s : State) : OnlyO 0xe18e09100007007a77fdda0 s (execReplaceTrigger p s) := by
  unfold execReplaceTrigger
  refine OnlyO.ite ?_ ?_
  · exact OnlyO.fault _ _ _
  · dsimp only
    refine OnlyO.ite ?_ ?_
    · refine OnlyO.next ?_
      refine Only.step (queueJob_only ..) rfl ?_
      refine Only.step (updPart_only ..) rfl ?_
      exact Only.refl _ _
    · refine OnlyO.next ?_
      refine Only.step (serveJobs_only ..) rfl ?_
      exact Only.refl _ _

theorem nextCandidate_only {s : State} {j : PlaceJob} {w : PlaceTile} {why : Nat} {s' : State} {y : PlaceJob} (hq : nextCandidate s j w why = .inr (s', y)) : Only 0x409100000004006004a0 s s' := by
  unfold nextCandidate at hq
  dsimp only at hq
  split at hq
  · cases hq
  · split at hq
    · split at hq
      · cases hq
      · split at hq
        · cases hq
        · cases hq
          refine Only.set_jobs rfl ?_ _
          refine Only.ite ?_ ?_
          · refine Only.step (updPart_only ..) rfl ?_
            refine Only.step (abortOn_only ..) rfl ?_
            refine Only.step (dropCandidate_only ..) rfl ?_
            exact Only.refl _ _
          · refine Only.step (abortOn_only ..) rfl ?_
            refine Only.step (dropCandidate_only ..) rfl ?_
            exact Only.refl _ _
    · cases hq

theorem jobStep_only {m : Nat} {s0 s : State} {j : PlaceJob} {fail : State → PlaceJob → Nat → Nat → State} {finish : State → PlaceJob → State}
    (h1 : ∀ t x a b, Only m s0 t → Only m s0 (fail t x a b)) (h2 : ∀ t x, Only m s0 t → Only m s0 (finish t x))
    (w : 0x609100000004006004a0 &&& m = 0x609100000004006004a0) (h : Only m s0 s) : Only m s0 (jobStep s j fail finish) := by
  have v : ∀ a, a &&& 0x609100000004006004a0 = a → a &&& m = a := fun a e => by rw [← e, Nat.and_assoc, w]
  unfold jobStep
  refine Only.ite (h1 _ _ _ _ h) ?_
  split
  · split
    · exact h1 _ _ _ _ h
    · refine Only.step (placerPump_only ..) (v _ rfl) ?_
      exact Only.step (nextCandidate_only (by assumption)) (v _ rfl) h
  · exact Only.ite (h2 _ _ h) (Only.step (placerPump_only ..) (v _ rfl) h)

theorem finishLoad_only (s : State) (j : PlaceJob) : Only 0xc18e09000007007a77f5da0 s (finishLoad s j) := by
  unfold finishLoad
  dsimp only
  refine Only.ite ?_ ?_
  · refine Only.step (failLoad_only ..) rfl ?_
    refine Only.foldl (fun _ _ _ => ?_) ?_
    · refine Only.step (writeTile_only ..) rfl ?_
      assumption
    · exact Only.refl _ _
  · refine Only.step (endJob_only ..) rfl ?_
    refine Only.step (setPState_only ..) rfl ?_
    refine Only.foldl (fun _ _ _ => ?_) ?_
    · refine Only.step (bindTile_only ..) rfl ?_
      assumption
    · refine Only.set_sync_kvSets rfl rfl ?_ _ _
      refine Only.ite ?_ ?_
      · refine Only.step (stageAll_only ..) rfl ?_
        refine Only.foldl (fun _ _ _ => ?_) ?_
        · refine Only.step (initRegion_only ..) rfl ?_
          assumption
        · refine Only.foldl (fun _ _ _ => ?_) ?_
          · refine Only.step (writeTile_only ..) rfl ?_
            assumption
          · exact Only.refl _ _
      · refine Only.foldl (fun _ _ _ => ?_) ?_
        · refine Only.step (initRegion_only ..) rfl ?_
          assumption
        · refine Only.foldl (fun _ _ _ => ?_) ?_
          · refine Only.step (writeTile_only ..) rfl ?_
            assumption
          · exact Only.refl _ _

theorem closeMoved_only (s : State) (p : Nat) (ptis : List Nat) : Only 0x800000000000000000000 s (closeMoved s p ptis) := by
  unfold closeMoved
  refine Only.set_windows rfl ?_ _
  exact Only.refl _ _

theorem finishReplace_only (s : State) (j : PlaceJob) : Only 0x888c09000000004076805a0 s (finishReplace s j) := by
  unfold finishReplace
  dsimp only
  refine Only.ite ?_ ?_
  · refine Only.step (failReplace_only ..) rfl ?_
    refine Only.foldl (fun _ _ _ => ?_) ?_
    · refine Only.step (writeTile_only ..) rfl ?_
      assumption
    · exact Only.refl _ _
  · refine Only.step (endJob_only ..) rfl ?_
    refine Only.step (reviewStall_only ..) rfl ?_
    refine Only.step (raise_only ..) rfl ?_
    refine Only.step (addObj_only ..) rfl ?_
    refine Only.ite ?_ ?_
    · refine Only.step (restartPart_only ..) rfl ?_
      refine Only.ite ?_ ?_
      · refine Only.foldl (fun _ _ _ => ?_) ?_
        · refine Only.step (kennelRetire_only ..) rfl ?_
          assumption
        · refine Only.set_ringTags rfl ?_ _
          refine Only.step (closeMoved_only ..) rfl ?_
          refine Only.foldl (fun _ _ _ => ?_) ?_
          · refine Only.step (unbind_only ..) rfl ?_
            assumption
          · refine Only.foldl (fun _ _ _ => ?_) ?_
            · refine Only.step (bindTile_only ..) rfl ?_
              assumption
            · refine Only.step (updPart_only ..) rfl ?_
              refine Only.foldl (fun _ _ _ => ?_) ?_
              · refine Only.step (writeTile_only ..) rfl ?_
                assumption
              · exact Only.refl _ _
      · refine Only.set_ringTags rfl ?_ _
        refine Only.step (closeMoved_only ..) rfl ?_
        refine Only.foldl (fun _ _ _ => ?_) ?_
        · refine Only.step (unbind_only ..) rfl ?_
          assumption
        · refine Only.foldl (fun _ _ _ => ?_) ?_
          · refine Only.step (bindTile_only ..) rfl ?_
            assumption
          · refine Only.step (updPart_only ..) rfl ?_
            refine Only.foldl (fun _ _ _ => ?_) ?_
            · refine Only.step (writeTile_only ..) rfl ?_
              assumption
            · exact Only.refl _ _
    · refine Only.ite ?_ ?_
      · refine Only.foldl (fun _ _ _ => ?_) ?_
        · refine Only.step (kennelRetire_only ..) rfl ?_
          assumption
        · refine Only.set_ringTags rfl ?_ _
          refine Only.step (closeMoved_only ..) rfl ?_
          refine Only.foldl (fun _ _ _ => ?_) ?_
          · refine Only.step (unbind_only ..) rfl ?_
            assumption
          · refine Only.foldl (fun _ _ _ => ?_) ?_
            · refine Only.step (bindTile_only ..) rfl ?_
              assumption
            · refine Only.step (updPart_only ..) rfl ?_
              refine Only.foldl (fun _ _ _ => ?_) ?_
              · refine Only.step (writeTile_only ..) rfl ?_
                assumption
              · exact Only.refl _ _
      · refine Only.set_ringTags rfl ?_ _
        refine Only.step (closeMoved_only ..) rfl ?_
        refine Only.foldl (fun _ _ _ => ?_) ?_
        · refine Only.step (unbind_only ..) rfl ?_
          assumption
        · refine Only.foldl (fun _ _ _ => ?_) ?_
          · refine Only.step (bindTile_only ..) rfl ?_
            assumption
          · refine Only.step (updPart_only ..) rfl ?_
            refine Only.foldl (fun _ _ _ => ?_) ?_
            · refine Only.step (writeTile_only ..) rfl ?_
              assumption
            · exact Only.refl _ _

theorem execLoadComplete_only (p : Nat) (s : State) : OnlyO 0xe18e09100007007a77fdda0 s (execLoadComplete p s) := by
  unfold execLoadComplete
  refine OnlyO.ite ?_ ?_
  · exact OnlyO.fault _ _ _
  · split
    · refine OnlyO.next ?_
      exact Only.refl _ _
    · refine OnlyO.ite ?_ ?_
      · dsimp only
        refine OnlyO.next ?_
        refine Only.step (serveJobs_only ..) rfl ?_
        refine jobStep_only (fun _ _ _ _ _ => ?_) (fun _ _ _ => ?_) rfl ?_
        · refine Only.step (failLoad_only ..) rfl ?_
          assumption
        · refine Only.step (finishLoad_only ..) rfl ?_
          assumption
        · exact Only.refl _ _
      · refine OnlyO.next ?_
        refine Only.step (serveJobs_only ..) rfl ?_
        exact Only.refl _ _

theorem execReplaceComplete_only (p : Nat) (s : State) : OnlyO 0xe98e09100007007a77fdda0 s (execReplaceComplete p s) := by
  unfold execReplaceComplete
  refine OnlyO.ite ?_ ?_
  · exact OnlyO.fault _ _ _
  · split
    · refine OnlyO.next ?_
      exact Only.refl _ _
    · refine OnlyO.ite ?_ ?_
      · dsimp only
        refine OnlyO.next ?_
        refine Only.step (serveJobs_only ..) rfl ?_
        refine jobStep_only (fun _ _ _ _ _ => ?_) (fun _ _ _ => ?_) rfl ?_
        · refine Only.step (failReplace_only ..) rfl ?_
          assumption
        · refine Only.step (finishReplace_only ..) rfl ?_
          assumption
        · exact Only.refl _ _
      · refine OnlyO.next ?_
        refine Only.step (serveJobs_only ..) rfl ?_
        exact Only.refl _ _

end Sys2Proof.Machine
end

