-- ==== Sys2Proof/Laws/KeepsPlacer.lean ====
section
/-! SUPPORT. Each operation of Machine/Placer.lean keeps: the form of the memories and the bounds of the stores. -/
namespace Sys2Proof.Machine

theorem unbind_keeps (s : State) (k : Nat) : Keeps s (unbind s k) := by
  unfold unbind
  dsimp only
  refine Keeps.of_only (Only.set_parts_bankMap_vpgmWait (m := 17184064512) rfl rfl rfl (Only.refl _ _) _ _ _) rfl ?_
  refine Keeps.of_only (updBank_only _ _ _) rfl ?_
  refine Keeps.step (closeProgram_keeps ..) ?_
  exact Keeps.refl _

theorem dropCandidate_keeps (s : State) (w : PlaceTile) : Keeps s (dropCandidate s w) := by
  unfold dropCandidate
  refine Keeps.foldl (fun _ _ _ => ?_) ?_
  · refine Keeps.ite ?_ ?_
    · assumption
    · refine Keeps.step (unbind_keeps ..) ?_
      assumption
  · exact Keeps.refl _

theorem clearPart_keeps (s : State) (p : Nat) : Keeps s (clearPart s p) := by
  unfold clearPart
  dsimp only
  refine Keeps.of_only (setPState_only ..) rfl ?_
  refine Keeps.of_only (setPart_only ..) rfl ?_
  refine Keeps.step (t := dropRuns s p) (.mk fun k => ?_) (Keeps.of_only (dropRuns_only ..) rfl (Keeps.refl _))
  exact { k with sync := FMap.wf_filter k.sync }

theorem zeroSp_keeps (s : State) (t off n : Nat) : Keeps s (zeroSp s t off n) := .mk fun k => { k with sp := Memory.wf_filter k.sp }

theorem patchField_keeps (s : State) (t : Nat) (a : Nat) (lsb : Nat) (width : Nat) (v : Nat) : Keeps s (patchField s t a lsb width v) := by
  unfold patchField
  dsimp only
  refine Keeps.step (spWrite_keeps ..) ?_
  exact Keeps.refl _

theorem patchReloc_keeps (pl : Placement) (pti : Nat) (x : PTile) (s : State) (w : Nat) : Keeps s (patchReloc pl pti x s w) := by
  unfold patchReloc
  dsimp only
  refine Keeps.ite ?_ ?_
  · exact Keeps.refl _
  · split
    · exact Keeps.refl _
    · refine Keeps.step (patchField_keeps ..) ?_
      exact Keeps.refl _

theorem patchHeader_keeps (pl : Placement) (pti : Nat) (x : PTile) (s : State) (g : Prog) : Keeps s (patchHeader pl pti x s g) := by
  unfold patchHeader
  split
  · exact Keeps.refl _
  · dsimp only
    refine Keeps.step (patchField_keeps ..) ?_
    refine Keeps.step (patchField_keeps ..) ?_
    refine Keeps.step (patchField_keeps ..) ?_
    exact Keeps.refl _

theorem writeTile_keeps (m : Memory) (pl : Placement) (s : State) (pti : Nat) : Keeps s (writeTile m pl s pti) := by
  unfold writeTile
  split
  · dsimp only
    refine Keeps.foldl (fun _ _ _ => ?_) ?_
    · refine Keeps.step (patchHeader_keeps ..) ?_
      assumption
    · refine Keeps.foldl (fun _ _ _ => ?_) ?_
      · refine Keeps.step (patchReloc_keeps ..) ?_
        assumption
      · refine Keeps.foldl (fun _ _ _ => ?_) ?_
        · split
          · assumption
          · refine Keeps.ite ?_ ?_
            · refine Keeps.step (spWrite_keeps ..) ?_
              assumption
            · refine Keeps.step (zeroSp_keeps ..) ?_
              assumption
        · exact Keeps.refl _
  · exact Keeps.refl _

theorem healTile_keeps (m : Memory) (pl : Placement) (s : State) (pti : Nat) : Keeps s (healTile m pl s pti) := by
  unfold healTile
  split
  · exact Keeps.refl _
  · dsimp only
    refine Keeps.foldl (fun _ _ _ => ?_) ?_
    · refine Keeps.step (spWrite_keeps ..) ?_
      assumption
    · exact Keeps.refl _

theorem healRegions_keeps (s : State) (p : Nat) : Keeps s (healRegions s p) := by
  unfold healRegions
  dsimp only
  refine Keeps.foldl (fun _ _ _ => ?_) ?_
  · refine Keeps.step (healTile_keeps ..) ?_
    assumption
  · exact Keeps.refl _

theorem restartPart_keeps (s : State) (p : Nat) : Keeps s (restartPart s p) := by
  unfold restartPart
  refine Keeps.of_only (armExports_only _ _) rfl ?_
  refine Keeps.of_only (toIdle_only _ _) rfl ?_
  refine Keeps.step (healRegions_keeps ..) ?_
  exact Keeps.refl _

theorem initRegion_keeps (m : Memory) (s : State) (r : HReg) : Keeps s (initRegion m s r) := by
  unfold initRegion
  dsimp only
  have g : ∀ (x : Host.Cell → Bool) y, Keeps s { s with hbm := s.hbm.filter x, hbmErr := y } := fun x y => .mk fun k =>
    { k with hbm := Memory.wf_filter k.hbm }
  refine Keeps.ite ?_ (g _ _)
  refine Keeps.foldl (fun t x h => ?_) (g _ _)
  split
  · exact h
  · exact Keeps.step (hbmWrite_keeps ..) h

theorem effState_keeps {s0 s : State} {x : Eff} (hf : ∀ t r, x = .inr (t, r) → Keeps s0 t) (h : Keeps s0 s) :
    Keeps s0 (effState s x) := by
  unfold effState
  split
  · exact h
  · exact hf _ _ rfl

theorem stageOne_keeps (p : Nat) (m : Memory) (s : State) (e : Nat × Nat) : Keeps s (stageOne p m s e) := by
  unfold stageOne
  split
  · exact Keeps.refl _
  · exact effState_keeps (fun _ _ hq => Keeps.step (stageInto_keeps hq) (Keeps.refl _)) (Keeps.refl _)

theorem stageAll_keeps (s : State) (p : Nat) (m : Memory) : Keeps s (stageAll s p m) := by
  unfold stageAll
  refine Keeps.foldl (fun _ _ _ => ?_) ?_
  · refine Keeps.step (stageOne_keeps ..) ?_
    assumption
  · exact Keeps.refl _

theorem failLoad_keeps (s : State) (j : PlaceJob) (reason : Nat) (limit : Nat) : Keeps s (failLoad s j reason limit) := by
  unfold failLoad
  dsimp only
  refine Keeps.of_only (endJob_only _ _ _ _ _) rfl ?_
  refine Keeps.step (clearPart_keeps ..) ?_
  refine Keeps.of_only (returnAll_only _ _ _) rfl ?_
  refine Keeps.foldl (fun _ _ _ => ?_) ?_
  · refine Keeps.step (dropCandidate_keeps ..) ?_
    assumption
  · exact Keeps.refl _

theorem abortOn_keeps (s : State) (t : Nat) : Keeps s (abortOn s t) := by
  unfold abortOn
  refine Keeps.step (abortTests_keeps ..) ?_
  exact Keeps.refl _

theorem beginLoad_keeps (s : State) (j : PlaceJob) : Keeps s (beginLoad s j) := by
  unfold beginLoad
  dsimp only
  split
  · refine Keeps.step (failLoad_keeps ..) ?_
    exact Keeps.refl _
  · refine Keeps.of_only (placerPump_only _) rfl ?_
    refine Keeps.of_only (Only.set_jobs (m := 302231454903657293676544) rfl (Only.refl _ _) _) rfl ?_
    refine Keeps.of_only (updPart_only _ _ _) rfl ?_
    refine Keeps.foldl (fun _ _ _ => ?_) ?_
    · refine Keeps.step (abortOn_keeps ..) ?_
      assumption
    · exact Keeps.refl _

theorem failReplace_keeps (s : State) (j : PlaceJob) (reason : Nat) (limit : Nat) : Keeps s (failReplace s j reason limit) := by
  unfold failReplace
  refine Keeps.of_only (endJob_only _ _ _ _ _) rfl ?_
  refine Keeps.foldl (fun _ _ _ => ?_) ?_
  · refine Keeps.step (dropCandidate_keeps ..) ?_
    assumption
  · exact Keeps.refl _

theorem beginReplace_keeps (s : State) (j : PlaceJob) : Keeps s (beginReplace s j) := by
  unfold beginReplace
  dsimp only
  split
  · refine Keeps.step (failReplace_keeps ..) ?_
    refine Keeps.ite ?_ ?_
    · refine Keeps.step (engineFault_keeps ..) ?_
      exact Keeps.refl _
    · exact Keeps.refl _
  · split
    · refine Keeps.step (failReplace_keeps ..) ?_
      refine Keeps.ite ?_ ?_
      · refine Keeps.step (engineFault_keeps ..) ?_
        exact Keeps.refl _
      · exact Keeps.refl _
    · refine Keeps.of_only (placerPump_only _) rfl ?_
      refine Keeps.of_only (Only.set_jobs (m := 302231454903657293676544) rfl (Only.refl _ _) _) rfl ?_
      refine Keeps.foldl (fun _ _ _ => ?_) ?_
      · refine Keeps.step (abortOn_keeps ..) ?_
        assumption
      · refine Keeps.ite ?_ ?_
        · refine Keeps.step (engineFault_keeps ..) ?_
          exact Keeps.refl _
        · exact Keeps.refl _

theorem serveJobs_keeps (s : State) (n : Nat) : Keeps s (serveJobs s n) := by
  induction n generalizing s with
  | zero => exact Keeps.refl _
  | succ n ih =>
    unfold serveJobs
    split
    · exact Keeps.refl _
    · split
      · exact Keeps.refl _
      · split
        · exact Keeps.refl _
        · refine Keeps.step (ih _) ?_
          refine Keeps.ite ?_ ?_
          · refine Keeps.step (beginLoad_keeps ..) ?_
            exact Keeps.of_only (Only.set_jobs (m := 302231454903657293676544) rfl (Only.refl _ _) _) rfl (Keeps.refl _)
          · refine Keeps.step (beginReplace_keeps ..) ?_
            exact Keeps.of_only (Only.set_jobs (m := 302231454903657293676544) rfl (Only.refl _ _) _) rfl (Keeps.refl _)

theorem queueJob_keeps (s : State) (j : PlaceJob) : Keeps s (queueJob s j) := by
  unfold queueJob
  dsimp only
  refine Keeps.step (serveJobs_keeps ..) ?_
  refine Keeps.of_only (Only.set_jobs (m := 302231454903657293676544) rfl (Only.refl _ _) _) rfl ?_
  exact Keeps.refl _

theorem execLoad_keeps (ses : Nat) (reqid : Nat) (body : Nat) (s : State) : KeepsO s (execLoad ses reqid body s) := by
  unfold execLoad
  refine served_keeps (fun _ _ => ?_) ?_
  · dsimp only
    split
    · refine Keeps.of_only (refuseReq_only _ _ _ _ _ _ _) rfl ?_
      assumption
    · split
      · refine Keeps.of_only (refuseReq_only _ _ _ _ _ _ _) rfl ?_
        assumption
      · split
        · refine Keeps.of_only (refuseReq_only _ _ _ _ _ _ _) rfl ?_
          assumption
        · refine Keeps.step (queueJob_keeps ..) ?_
          refine Keeps.of_only (Only.set_windows (m := 9671406556917033397649408) rfl (Only.refl _ _) _) rfl ?_
          refine Keeps.of_only (setPState_only _ _ _) rfl ?_
          refine Keeps.of_only (setPart_only _ _ _) rfl ?_
          refine Keeps.of_only (resetParams_only _ _) rfl ?_
          assumption
  · exact Keeps.refl _

theorem execUnload_keeps (ses : Nat) (reqid : Nat) (p : Nat) (s : State) : KeepsO s (execUnload ses reqid p s) := by
  unfold execUnload
  refine KeepsO.ite ?_ ?_
  · exact KeepsO.fault _ _
  · refine served_keeps (fun _ _ => ?_) ?_
    · split
      · refine Keeps.of_only (refuseReq_only _ _ _ _ _ _ _) rfl ?_
        assumption
      · dsimp only
        refine Keeps.of_only (acceptReq_only _ _ _ _ _) rfl ?_
        refine Keeps.step (clearPart_keeps ..) ?_
        refine Keeps.foldl (fun _ _ _ => ?_) ?_
        · refine Keeps.step (unbind_keeps ..) ?_
          assumption
        · refine Keeps.of_only (returnAll_only _ _ _) rfl ?_
          split
          · assumption
          · refine Keeps.step (serveJobs_keeps ..) ?_
            refine Keeps.step (failReplace_keeps ..) ?_
            refine Keeps.of_only (Only.set_jobs (m := 302231454903657293676544) rfl (Only.refl _ _) _) rfl ?_
            assumption
    · exact Keeps.refl _

theorem execRestart_keeps (ses : Nat) (reqid : Nat) (p : Nat) (s : State) : KeepsO s (execRestart ses reqid p s) := by
  unfold execRestart
  refine KeepsO.ite ?_ ?_
  · exact KeepsO.fault _ _
  · refine served_keeps (fun _ _ => ?_) ?_
    · split
      · refine Keeps.of_only (refuseReq_only _ _ _ _ _ _ _) rfl ?_
        assumption
      · refine Keeps.ite ?_ ?_
        · refine Keeps.of_only (refuseReq_only _ _ _ _ _ _ _) rfl ?_
          assumption
        · refine Keeps.of_only (acceptReq_only _ _ _ _ _) rfl ?_
          refine Keeps.step (restartPart_keeps ..) ?_
          assumption
    · exact Keeps.refl _

theorem replaceRequest_keeps (ses : Nat) (reqid : Nat) (body : Nat) (s : State) : KeepsO s (replaceRequest ses reqid body s) := by
  unfold replaceRequest
  refine served_keeps (fun _ _ => ?_) ?_
  · dsimp only
    split
    · refine Keeps.of_only (refuseReq_only _ _ _ _ _ _ _) rfl ?_
      assumption
    · refine Keeps.ite ?_ ?_
      · refine Keeps.of_only (refuseReq_only _ _ _ _ _ _ _) rfl ?_
        assumption
      · refine Keeps.ite ?_ ?_
        · refine Keeps.of_only (refuseReq_only _ _ _ _ _ _ _) rfl ?_
          assumption
        · refine Keeps.step (queueJob_keeps ..) ?_
          assumption
  · exact Keeps.refl _

theorem execReplaceTile_keeps (ses : Nat) (reqid : Nat) (body : Nat) (s : State) : KeepsO s (execReplaceTile ses reqid body s) := by
  unfold execReplaceTile
  refine KeepsO.ite ?_ ?_
  · refine KeepsO.next ?_
    exact Keeps.refl _
  · refine KeepsO.step (replaceRequest_keeps _ _ _ _) ?_
    exact Keeps.refl _

theorem execReplaceUnhealthy_keeps (ses : Nat) (reqid : Nat) (body : Nat) (s : State) : KeepsO s (execReplaceUnhealthy ses reqid body s) := by
  unfold execReplaceUnhealthy
  refine KeepsO.ite ?_ ?_
  · refine KeepsO.step (replaceRequest_keeps _ _ _ _) ?_
    exact Keeps.refl _
  · refine KeepsO.next ?_
    exact Keeps.refl _

theorem execReplaceTrigger_keeps (p : Nat) (s : State) : KeepsO s (execReplaceTrigger p s) := by
  unfold execReplaceTrigger
  refine KeepsO.ite ?_ ?_
  · exact KeepsO.fault _ _
  · dsimp only
    refine KeepsO.ite ?_ ?_
    · refine KeepsO.next ?_
      refine Keeps.step (queueJob_keeps ..) ?_
      refine Keeps.of_only (updPart_only _ _ _) rfl ?_
      exact Keeps.refl _
    · refine KeepsO.next ?_
      refine Keeps.step (serveJobs_keeps ..) ?_
      exact Keeps.refl _

theorem nextCandidate_keeps {s : State} {j : PlaceJob} {w : PlaceTile} {why : Nat} {s' : State} {y : PlaceJob} (hq : nextCandidate s j w why = .inr (s', y)) : Keeps s s' := by
  unfold nextCandidate at hq
  dsimp only at hq
  split at hq
  · cases hq
  · split at hq
    · split at hq
      · cases hq
      · split at hq
        · cases hq
        · cases hq
          refine Keeps.of_only (Only.set_jobs (m := 302231454903657293676544) rfl (Only.refl _ _) _) rfl ?_
          refine Keeps.ite ?_ ?_
          · refine Keeps.of_only (updPart_only _ _ _) rfl ?_
            refine Keeps.step (abortOn_keeps ..) ?_
            refine Keeps.step (dropCandidate_keeps ..) ?_
            exact Keeps.refl _
          · refine Keeps.step (abortOn_keeps ..) ?_
            refine Keeps.step (dropCandidate_keeps ..) ?_
            exact Keeps.refl _
    · cases hq

theorem jobStep_keeps {s0 s : State} {j : PlaceJob} {fail : State → PlaceJob → Nat → Nat → State} {finish : State → PlaceJob → State}
    (h1 : ∀ t x a b, Keeps s0 t → Keeps s0 (fail t x a b)) (h2 : ∀ t x, Keeps s0 t → Keeps s0 (finish t x))
    (h : Keeps s0 s) : Keeps s0 (jobStep s j fail finish) := by
  unfold jobStep
  refine Keeps.ite (h1 _ _ _ _ h) ?_
  split
  · split
    · exact h1 _ _ _ _ h
    · refine Keeps.of_only (placerPump_only ..) rfl ?_
      exact Keeps.step (nextCandidate_keeps (by assumption)) h
  · exact Keeps.ite (h2 _ _ h) (Keeps.of_only (placerPump_only ..) rfl h)

theorem finishLoad_keeps (s : State) (j : PlaceJob) : Keeps s (finishLoad s j) := by
  unfold finishLoad
  dsimp only
  have w : Keeps s ((List.range j.plan.tiles.length).foldl
      (writeTile ((Option.map (fun x => x.bytes) (FMap.find s.images j.image)).getD []) j.plan) s) :=
    Keeps.foldl (fun t x h => Keeps.step (writeTile_keeps ..) h) (Keeps.refl _)
  refine Keeps.ite (Keeps.step (failLoad_keeps ..) w) ?_
  refine Keeps.of_only (endJob_only ..) rfl ?_
  refine Keeps.of_only (setPState_only ..) rfl ?_
  refine Keeps.foldl (fun t x h => ?_) ?_
  · exact Keeps.of_only (bindTile_only ..) rfl h
  · have g := Keeps.foldl (f := initRegion ((Option.map (fun x => x.bytes) (FMap.find s.images j.image)).getD [])) (l := j.plan.hregs)
      (fun t x h => Keeps.step (initRegion_keeps ..) h) w
    have f : ∀ t x, Keeps s t → Keeps s { t with sync := t.sync.filter (fun e => e.1 / 1024 != j.part), kvSets := x } := fun t x h => .mk fun k =>
      { h.good k with sync := FMap.wf_filter (h.good k).sync }
    exact f _ _ (Keeps.ite (Keeps.step (stageAll_keeps ..) g) g)


theorem finishReplace_keeps (s : State) (j : PlaceJob) : Keeps s (finishReplace s j) := by
  unfold finishReplace
  dsimp only
  refine Keeps.ite ?_ ?_
  · refine Keeps.step (failReplace_keeps ..) ?_
    refine Keeps.foldl (fun _ _ _ => ?_) ?_
    · refine Keeps.step (writeTile_keeps ..) ?_
      assumption
    · exact Keeps.refl _
  · refine Keeps.of_only (endJob_only _ _ _ _ _) rfl ?_
    refine Keeps.of_only (reviewStall_only _ _) rfl ?_
    refine Keeps.step (raise_keeps ..) ?_
    refine Keeps.of_only (addObj_only _ _ _ _ _ _) rfl ?_
    refine Keeps.ite ?_ ?_
    · refine Keeps.step (restartPart_keeps ..) ?_
      refine Keeps.ite ?_ ?_
      · refine Keeps.foldl (fun _ _ _ => ?_) ?_
        · refine Keeps.of_only (kennelRetire_only _ _ _ _) rfl ?_
          assumption
        · refine Keeps.of_only (Only.set_ringTags (m := 524288) rfl (Only.refl _ _) _) rfl ?_
          refine Keeps.of_only (closeMoved_only _ _ _) rfl ?_
          refine Keeps.foldl (fun _ _ _ => ?_) ?_
          · refine Keeps.step (unbind_keeps ..) ?_
            assumption
          · refine Keeps.foldl (fun _ _ _ => ?_) ?_
            · refine Keeps.of_only (bindTile_only _ _ _) rfl ?_
              assumption
            · refine Keeps.of_only (updPart_only _ _ _) rfl ?_
              refine Keeps.foldl (fun _ _ _ => ?_) ?_
              · refine Keeps.step (writeTile_keeps ..) ?_
                assumption
              · exact Keeps.refl _
      · refine Keeps.of_only (Only.set_ringTags (m := 524288) rfl (Only.refl _ _) _) rfl ?_
        refine Keeps.of_only (closeMoved_only _ _ _) rfl ?_
        refine Keeps.foldl (fun _ _ _ => ?_) ?_
        · refine Keeps.step (unbind_keeps ..) ?_
          assumption
        · refine Keeps.foldl (fun _ _ _ => ?_) ?_
          · refine Keeps.of_only (bindTile_only _ _ _) rfl ?_
            assumption
          · refine Keeps.of_only (updPart_only _ _ _) rfl ?_
            refine Keeps.foldl (fun _ _ _ => ?_) ?_
            · refine Keeps.step (writeTile_keeps ..) ?_
              assumption
            · exact Keeps.refl _
    · refine Keeps.ite ?_ ?_
      · refine Keeps.foldl (fun _ _ _ => ?_) ?_
        · refine Keeps.of_only (kennelRetire_only _ _ _ _) rfl ?_
          assumption
        · refine Keeps.of_only (Only.set_ringTags (m := 524288) rfl (Only.refl _ _) _) rfl ?_
          refine Keeps.of_only (closeMoved_only _ _ _) rfl ?_
          refine Keeps.foldl (fun _ _ _ => ?_) ?_
          · refine Keeps.step (unbind_keeps ..) ?_
            assumption
          · refine Keeps.foldl (fun _ _ _ => ?_) ?_
            · refine Keeps.of_only (bindTile_only _ _ _) rfl ?_
              assumption
            · refine Keeps.of_only (updPart_only _ _ _) rfl ?_
              refine Keeps.foldl (fun _ _ _ => ?_) ?_
              · refine Keeps.step (writeTile_keeps ..) ?_
                assumption
              · exact Keeps.refl _
      · refine Keeps.of_only (Only.set_ringTags (m := 524288) rfl (Only.refl _ _) _) rfl ?_
        refine Keeps.of_only (closeMoved_only _ _ _) rfl ?_
        refine Keeps.foldl (fun _ _ _ => ?_) ?_
        · refine Keeps.step (unbind_keeps ..) ?_
          assumption
        · refine Keeps.foldl (fun _ _ _ => ?_) ?_
          · refine Keeps.of_only (bindTile_only _ _ _) rfl ?_
            assumption
          · refine Keeps.of_only (updPart_only _ _ _) rfl ?_
            refine Keeps.foldl (fun _ _ _ => ?_) ?_
            · refine Keeps.step (writeTile_keeps ..) ?_
              assumption
            · exact Keeps.refl _

theorem execLoadComplete_keeps (p : Nat) (s : State) : KeepsO s (execLoadComplete p s) := by
  unfold execLoadComplete
  refine KeepsO.ite ?_ ?_
  · exact KeepsO.fault _ _
  · split
    · refine KeepsO.next ?_
      exact Keeps.refl _
    · refine KeepsO.ite ?_ ?_
      · dsimp only
        refine KeepsO.next ?_
        refine Keeps.step (serveJobs_keeps ..) ?_
        refine jobStep_keeps (fun _ _ _ _ _ => ?_) (fun _ _ _ => ?_) ?_
        · refine Keeps.step (failLoad_keeps ..) ?_
          assumption
        · refine Keeps.step (finishLoad_keeps ..) ?_
          assumption
        · exact Keeps.refl _
      · refine KeepsO.next ?_
        refine Keeps.step (serveJobs_keeps ..) ?_
        exact Keeps.refl _

theorem execReplaceComplete_keeps (p : Nat) (s : State) : KeepsO s (execReplaceComplete p s) := by
  unfold execReplaceComplete
  refine KeepsO.ite ?_ ?_
  · exact KeepsO.fault _ _
  · split
    · refine KeepsO.next ?_
      exact Keeps.refl _
    · refine KeepsO.ite ?_ ?_
      · dsimp only
        refine KeepsO.next ?_
        refine Keeps.step (serveJobs_keeps ..) ?_
        refine jobStep_keeps (fun _ _ _ _ _ => ?_) (fun _ _ _ => ?_) ?_
        · refine Keeps.step (failReplace_keeps ..) ?_
          assumption
        · refine Keeps.step (finishReplace_keeps ..) ?_
          assumption
        · exact Keeps.refl _
      · refine KeepsO.next ?_
        refine Keeps.step (serveJobs_keeps ..) ?_
        exact Keeps.refl _

end Sys2Proof.Machine
end

