-- ==== Sys2Proof/Laws/OnlyWindows.lean ====
section
/-! SUPPORT. What each operation of Machine/Windows.lean can change, at most. -/
namespace Sys2Proof.Machine

theorem execWopen_only (q : Nat) (s : State) : OnlyO 0xc0880100000000200016880 s (execWopen q s) := by
  unfold execWopen
  refine withCommand_only (fun _ _ => ?_) rfl ?_
  · dsimp only
    refine Only.ite ?_ ?_
    · refine Only.step (refuseCmd_only ..) rfl ?_
      exact Only.refl _ _
    · refine Only.ite ?_ ?_
      · refine Only.step (refuseCmd_only ..) rfl ?_
        exact Only.refl _ _
      · refine Only.step (completeCmd_only ..) rfl ?_
        refine Only.step (announce_only ..) rfl ?_
        refine Only.step (setWindow_only ..) rfl ?_
        exact Only.refl _ _
  · exact Only.refl _ _

theorem execWclose_only (q : Nat) (s : State) : OnlyO 0xc0880100000000200016880 s (execWclose q s) := by
  unfold execWclose
  refine withCommand_only (fun _ _ => ?_) rfl ?_
  · dsimp only
    refine Only.ite ?_ ?_
    · refine Only.step (refuseCmd_only ..) rfl ?_
      exact Only.refl _ _
    · refine Only.step (windowSettle_only ..) rfl ?_
      refine Only.step (beginCmd_only ..) rfl ?_
      refine Only.step (setWindow_only ..) rfl ?_
      exact Only.refl _ _
  · exact Only.refl _ _

theorem execRwrite_only (q : Nat) (s : State) : OnlyO 0xc60801000000002000168a0 s (execRwrite q s) := by
  unfold execRwrite
  refine withCommand_only (fun _ _ => ?_) rfl ?_
  · dsimp only
    refine Only.ite ?_ ?_
    · refine Only.step (refuseCmd_only ..) rfl ?_
      exact Only.refl _ _
    · refine Only.ite ?_ ?_
      · refine Only.step (refuseCmd_only ..) rfl ?_
        exact Only.refl _ _
      · refine Only.step (emit_only ..) rfl ?_
        refine Only.set_outWrites_nextTag rfl rfl ?_ _ _
        refine Only.step (beginCmd_only ..) rfl ?_
        refine Only.step (countHbm_only ..) rfl ?_
        exact Only.refl _ _
  · exact Only.refl _ _

theorem landBytes_only (s : State) (p : Nat) (va : Nat) (bs : List Sys2Proof.Byte) : Only 0x20000000000187000020 s (landBytes s p va bs) := by
  unfold landBytes
  refine Only.step (countHbm_only ..) rfl ?_
  refine Only.step (unstageWrite_only ..) rfl ?_
  refine Only.step (pvaWrite_only ..) rfl ?_
  exact Only.refl _ _

theorem updInWrite_only (s : State) (ses : Nat) (f : InWrite → Option InWrite) : Only 0x1000000000000000000000 s (updInWrite s ses f) := by
  unfold updInWrite
  refine Only.set_inWrites rfl ?_ _
  exact Only.refl _ _

theorem writeData_only (s : State) (ses : Nat) (last : Bool) (data : List Sys2Proof.Byte) : Only 0xc18a01000000003870148a0 s (writeData s ses last data) := by
  unfold writeData
  split
  · exact Only.refl _ _
  · refine Only.ite ?_ ?_
    · refine Only.ite ?_ ?_
      · refine Only.step (updInWrite_only ..) rfl ?_
        exact Only.refl _ _
      · exact Only.refl _ _
    · refine Only.ite ?_ ?_
      · refine Only.step (windowSettle_only ..) rfl ?_
        refine Only.step (updInWrite_only ..) rfl ?_
        exact Only.refl _ _
      · refine Only.ite ?_ ?_
        · refine Only.step (updInWrite_only ..) rfl ?_
          exact Only.refl _ _
        · refine Only.step (landBytes_only ..) rfl ?_
          refine Only.step (updInWrite_only ..) rfl ?_
          exact Only.refl _ _

theorem dropInWrite_only (s : State) (ses : Nat) : Only 0xc1880100000000200014880 s (dropInWrite s ses) := by
  unfold dropInWrite
  split
  · exact Only.refl _ _
  · dsimp only
    refine Only.ite ?_ ?_
    · refine Only.step (updInWrite_only ..) rfl ?_
      exact Only.refl _ _
    · refine Only.step (windowSettle_only ..) rfl ?_
      refine Only.step (updInWrite_only ..) rfl ?_
      exact Only.refl _ _

theorem writeFirst_only (s : State) (ses : Nat) (last : Bool) (payload : List Sys2Proof.Byte) : Only 0xc18a01000000003870148a0 s (writeFirst s ses last payload) := by
  unfold writeFirst
  dsimp only
  refine Only.ite ?_ ?_
  · refine Only.ite ?_ ?_
    · refine Only.step (dropInWrite_only ..) rfl ?_
      exact Only.refl _ _
    · refine Only.set_inWrites rfl ?_ _
      refine Only.step (dropInWrite_only ..) rfl ?_
      exact Only.refl _ _
  · split
    · refine Only.ite ?_ ?_
      · refine Only.step (emit_only ..) rfl ?_
        refine Only.step (addObj_only ..) rfl ?_
        refine Only.step (dropInWrite_only ..) rfl ?_
        exact Only.refl _ _
      · refine Only.set_inWrites rfl ?_ _
        refine Only.step (emit_only ..) rfl ?_
        refine Only.step (addObj_only ..) rfl ?_
        refine Only.step (dropInWrite_only ..) rfl ?_
        exact Only.refl _ _
    · refine Only.step (writeData_only ..) rfl ?_
      refine Only.set_inWrites rfl ?_ _
      refine Only.step (dropInWrite_only ..) rfl ?_
      exact Only.refl _ _

theorem writeRx_only (s : State) (ses : Nat) (g : RxSeg) : Only 0xc18a01000000003870148a0 s (writeRx s ses g) := by
  unfold writeRx
  refine Only.ite ?_ ?_
  · refine Only.step (writeFirst_only ..) rfl ?_
    exact Only.refl _ _
  · refine Only.step (writeData_only ..) rfl ?_
    exact Only.refl _ _

theorem signalOne_only (s : State) (p : Nat) (obj : Nat) : Only 0xc0080100000000200014880 s (signalOne s p obj) := by
  unfold signalOne
  refine Only.ite ?_ ?_
  · exact Only.refl _ _
  · split
    · refine Only.step (raiseRc_only ..) rfl ?_
      exact Only.refl _ _
    · refine Only.step (syncWrite_only ..) rfl ?_
      exact Only.refl _ _

theorem execWriteLanded_only (i : Nat) (s : State) : OnlyO 0xc18a01000000003870148a0 s (execWriteLanded i s) := by
  unfold execWriteLanded
  split
  · refine OnlyO.next ?_
    exact Only.refl _ _
  · split
    · refine OnlyO.next ?_
      exact Only.refl _ _
    · dsimp only
      refine OnlyO.next ?_
      refine Only.step (windowSettle_only ..) rfl ?_
      refine Only.step (emit_only ..) rfl ?_
      refine Only.step (signalOne_only ..) rfl ?_
      refine Only.step (addObj_only ..) rfl ?_
      refine Only.step (landBytes_only ..) rfl ?_
      refine Only.set_inWrites rfl ?_ _
      exact Only.refl _ _

theorem dropOut_only (s : State) (ses : Nat) (tag : Nat) : Only 0x2000000000000000000000 s (dropOut s ses tag) := by
  unfold dropOut
  refine Only.set_outWrites rfl ?_ _
  exact Only.refl _ _

theorem wackRx_only (s : State) (ses : Nat) (body : Nat) : Only 0xc2080100000000200014880 s (wackRx s ses body) := by
  unfold wackRx
  refine Only.ite ?_ ?_
  · exact Only.refl _ _
  · split
    · exact Only.refl _ _
    · dsimp only
      split
      · refine Only.step (completeCmd_only ..) rfl ?_
        refine Only.step (dropOut_only ..) rfl ?_
        exact Only.refl _ _
      · refine Only.step (dropOut_only ..) rfl ?_
        exact Only.refl _ _

theorem wnakRx_only (s : State) (ses : Nat) (reason : Nat) (body : Nat) : Only 0xc20801000000002000148a0 s (wnakRx s ses reason body) := by
  unfold wnakRx
  refine Only.ite ?_ ?_
  · exact Only.refl _ _
  · split
    · exact Only.refl _ _
    · split
      · refine Only.step (refuseCmd_only ..) rfl ?_
        refine Only.step (dropOut_only ..) rfl ?_
        exact Only.refl _ _
      · dsimp only
        refine Only.ite ?_ ?_
        · refine Only.step (emit_only ..) rfl ?_
          refine Only.set_outWrites rfl ?_ _
          exact Only.refl _ _
        · refine Only.step (raise_only ..) rfl ?_
          refine Only.step (addObj_only ..) rfl ?_
          refine Only.step (dropOut_only ..) rfl ?_
          exact Only.refl _ _

theorem sendExport_only (s : State) (p : Nat) (e : Nat) (w : Nat) : Only 0xee0a09000007003a77fdda0 s (sendExport s p e w) := by
  unfold sendExport
  dsimp only
  split
  · refine Only.ite ?_ ?_
    · exact Only.refl _ _
    · refine Only.ite ?_ ?_
      · refine Only.step (engineFault_only ..) rfl ?_
        exact Only.refl _ _
      · refine Only.ite ?_ ?_
        · refine Only.step (emit_only ..) rfl ?_
          refine Only.ite ?_ ?_
          · refine Only.step (signalOne_only ..) rfl ?_
            refine Only.set_exports rfl ?_ _
            exact Only.refl _ _
          · refine Only.set_exports rfl ?_ _
            exact Only.refl _ _
        · refine Only.step (emit_only ..) rfl ?_
          refine Only.set_outWrites_nextTag rfl rfl ?_ _ _
          refine Only.ite ?_ ?_
          · refine Only.step (signalOne_only ..) rfl ?_
            refine Only.set_exports rfl ?_ _
            exact Only.refl _ _
          · refine Only.set_exports rfl ?_ _
            exact Only.refl _ _
  · exact Only.refl _ _

theorem execExportTrigger_only (p : Nat) (e : Nat) (s : State) : OnlyO 0xee0a09000007003a77fdda0 s (execExportTrigger p e s) := by
  unfold execExportTrigger
  refine OnlyO.ite ?_ ?_
  · exact OnlyO.fault _ _ _
  · dsimp only
    refine OnlyO.ite ?_ ?_
    · refine OnlyO.next ?_
      refine Only.step (sendExport_only ..) rfl ?_
      exact Only.refl _ _
    · refine OnlyO.next ?_
      exact Only.refl _ _

theorem contribDone_only (s : State) (p : Nat) (bs : List Sys2Proof.Byte) : Only 0x1000002000000005a0 s (contribDone s p bs) := by
  unfold contribDone
  dsimp only
  refine Only.ite ?_ ?_
  · refine Only.step (raise_only ..) rfl ?_
    refine Only.step (addObj_only ..) rfl ?_
    exact Only.refl _ _
  · split
    · refine Only.step (raise_only ..) rfl ?_
      refine Only.step (addObj_only ..) rfl ?_
      exact Only.refl _ _
    · refine Only.ite ?_ ?_
      · refine Only.step (raise_only ..) rfl ?_
        refine Only.step (addObj_only ..) rfl ?_
        exact Only.refl _ _
      · refine Only.step (rlaunch_only ..) rfl ?_
        exact Only.refl _ _

theorem contribRx_only (s : State) (ses : Nat) (g : RxSeg) : Only 0x801000002000000005a0 s (contribRx s ses g) := by
  unfold contribRx
  dsimp only
  refine Only.ite ?_ ?_
  · exact Only.refl _ _
  · refine Only.ite ?_ ?_
    · refine Only.step (contribDone_only ..) rfl ?_
      refine Only.step (setChan_only ..) rfl ?_
      exact Only.refl _ _
    · refine Only.step (setChan_only ..) rfl ?_
      exact Only.refl _ _

end Sys2Proof.Machine
end

