-- ==== Sys2Proof/Laws/KeepsWindows.lean ====
section
/-! SUPPORT. Each operation of Machine/Windows.lean keeps: the form of the memories and the bounds of the stores. -/
namespace Sys2Proof.Machine

theorem execWopen_keeps (q : Nat) (s : State) : KeepsO s (execWopen q s) := by
  unfold execWopen
  refine withCommand_keeps (fun _ _ => ?_) ?_
  · dsimp only
    refine Keeps.ite ?_ ?_
    · refine Keeps.step (refuseCmd_keeps ..) ?_
      exact Keeps.refl _
    · refine Keeps.ite ?_ ?_
      · refine Keeps.step (refuseCmd_keeps ..) ?_
        exact Keeps.refl _
      · refine Keeps.step (completeCmd_keeps ..) ?_
        refine Keeps.of_only (announce_only _ _ _) rfl ?_
        refine Keeps.of_only (setWindow_only _ _ _ _) rfl ?_
        exact Keeps.refl _
  · exact Keeps.refl _

theorem execWclose_keeps (q : Nat) (s : State) : KeepsO s (execWclose q s) := by
  unfold execWclose
  refine withCommand_keeps (fun _ _ => ?_) ?_
  · dsimp only
    refine Keeps.ite ?_ ?_
    · refine Keeps.step (refuseCmd_keeps ..) ?_
      exact Keeps.refl _
    · refine Keeps.step (windowSettle_keeps ..) ?_
      refine Keeps.of_only (beginCmd_only _ _ _) rfl ?_
      refine Keeps.of_only (setWindow_only _ _ _ _) rfl ?_
      exact Keeps.refl _
  · exact Keeps.refl _

theorem execRwrite_keeps (q : Nat) (s : State) : KeepsO s (execRwrite q s) := by
  unfold execRwrite
  refine withCommand_keeps (fun _ _ => ?_) ?_
  · dsimp only
    refine Keeps.ite ?_ ?_
    · refine Keeps.step (refuseCmd_keeps ..) ?_
      exact Keeps.refl _
    · refine Keeps.ite ?_ ?_
      · refine Keeps.step (refuseCmd_keeps ..) ?_
        exact Keeps.refl _
      · refine Keeps.of_only (emit_only _ _) rfl ?_
        refine Keeps.of_only (Only.set_outWrites_nextTag (m := 116056878683004400771792896) rfl rfl (Only.refl _ _) _ _) rfl ?_
        refine Keeps.of_only (beginCmd_only _ _ _) rfl ?_
        refine Keeps.of_only (countHbm_only _ _ _ _ _) rfl ?_
        exact Keeps.refl _
  · exact Keeps.refl _

theorem landBytes_keeps (s : State) (p : Nat) (va : Nat) (bs : List Sys2Proof.Byte) : Keeps s (landBytes s p va bs) := by
  unfold landBytes
  refine Keeps.of_only (countHbm_only _ _ _ _ _) rfl ?_
  refine Keeps.of_only (unstageWrite_only _ _ _ _) rfl ?_
  refine Keeps.step (pvaWrite_keeps ..) ?_
  exact Keeps.refl _

theorem writeData_keeps (s : State) (ses : Nat) (last : Bool) (data : List Sys2Proof.Byte) : Keeps s (writeData s ses last data) := by
  unfold writeData
  split
  · exact Keeps.refl _
  · refine Keeps.ite ?_ ?_
    · refine Keeps.ite ?_ ?_
      · refine Keeps.of_only (updInWrite_only _ _ _) rfl ?_
        exact Keeps.refl _
      · exact Keeps.refl _
    · refine Keeps.ite ?_ ?_
      · refine Keeps.step (windowSettle_keeps ..) ?_
        refine Keeps.of_only (updInWrite_only _ _ _) rfl ?_
        exact Keeps.refl _
      · refine Keeps.ite ?_ ?_
        · refine Keeps.of_only (updInWrite_only _ _ _) rfl ?_
          exact Keeps.refl _
        · refine Keeps.step (landBytes_keeps ..) ?_
          refine Keeps.of_only (updInWrite_only _ _ _) rfl ?_
          exact Keeps.refl _

theorem dropInWrite_keeps (s : State) (ses : Nat) : Keeps s (dropInWrite s ses) := by
  unfold dropInWrite
  split
  · exact Keeps.refl _
  · dsimp only
    refine Keeps.ite ?_ ?_
    · refine Keeps.of_only (updInWrite_only _ _ _) rfl ?_
      exact Keeps.refl _
    · refine Keeps.step (windowSettle_keeps ..) ?_
      refine Keeps.of_only (updInWrite_only _ _ _) rfl ?_
      exact Keeps.refl _

theorem writeFirst_keeps (s : State) (ses : Nat) (last : Bool) (payload : List Sys2Proof.Byte) : Keeps s (writeFirst s ses last payload) := by
  unfold writeFirst
  dsimp only
  refine Keeps.ite ?_ ?_
  · refine Keeps.ite ?_ ?_
    · refine Keeps.step (dropInWrite_keeps ..) ?_
      exact Keeps.refl _
    · refine Keeps.of_only (Only.set_inWrites (m := 19342813113834066795298816) rfl (Only.refl _ _) _) rfl ?_
      refine Keeps.step (dropInWrite_keeps ..) ?_
      exact Keeps.refl _
  · split
    · refine Keeps.ite ?_ ?_
      · refine Keeps.of_only (emit_only _ _) rfl ?_
        refine Keeps.of_only (addObj_only _ _ _ _ _ _) rfl ?_
        refine Keeps.step (dropInWrite_keeps ..) ?_
        exact Keeps.refl _
      · refine Keeps.of_only (Only.set_inWrites (m := 19342813113834066795298816) rfl (Only.refl _ _) _) rfl ?_
        refine Keeps.of_only (emit_only _ _) rfl ?_
        refine Keeps.of_only (addObj_only _ _ _ _ _ _) rfl ?_
        refine Keeps.step (dropInWrite_keeps ..) ?_
        exact Keeps.refl _
    · refine Keeps.step (writeData_keeps ..) ?_
      refine Keeps.of_only (Only.set_inWrites (m := 19342813113834066795298816) rfl (Only.refl _ _) _) rfl ?_
      refine Keeps.step (dropInWrite_keeps ..) ?_
      exact Keeps.refl _

theorem writeRx_keeps (s : State) (ses : Nat) (g : RxSeg) : Keeps s (writeRx s ses g) := by
  unfold writeRx
  refine Keeps.ite ?_ ?_
  · refine Keeps.step (writeFirst_keeps ..) ?_
    exact Keeps.refl _
  · refine Keeps.step (writeData_keeps ..) ?_
    exact Keeps.refl _

theorem signalOne_keeps (s : State) (p : Nat) (obj : Nat) : Keeps s (signalOne s p obj) := by
  unfold signalOne
  refine Keeps.ite ?_ ?_
  · exact Keeps.refl _
  · split
    · refine Keeps.step (raiseRc_keeps ..) ?_
      exact Keeps.refl _
    · refine Keeps.step (syncWrite_keeps ..) ?_
      exact Keeps.refl _

theorem execWriteLanded_keeps (i : Nat) (s : State) : KeepsO s (execWriteLanded i s) := by
  unfold execWriteLanded
  split
  · refine KeepsO.next ?_
    exact Keeps.refl _
  · split
    · refine KeepsO.next ?_
      exact Keeps.refl _
    · dsimp only
      refine KeepsO.next ?_
      refine Keeps.step (windowSettle_keeps ..) ?_
      refine Keeps.of_only (emit_only _ _) rfl ?_
      refine Keeps.step (signalOne_keeps ..) ?_
      refine Keeps.of_only (addObj_only _ _ _ _ _ _) rfl ?_
      refine Keeps.step (landBytes_keeps ..) ?_
      refine Keeps.of_only (Only.set_inWrites (m := 19342813113834066795298816) rfl (Only.refl _ _) _) rfl ?_
      exact Keeps.refl _

theorem wackRx_keeps (s : State) (ses : Nat) (body : Nat) : Keeps s (wackRx s ses body) := by
  unfold wackRx
  refine Keeps.ite ?_ ?_
  · exact Keeps.refl _
  · split
    · exact Keeps.refl _
    · dsimp only
      split
      · refine Keeps.step (completeCmd_keeps ..) ?_
        refine Keeps.of_only (dropOut_only _ _ _) rfl ?_
        exact Keeps.refl _
      · refine Keeps.of_only (dropOut_only _ _ _) rfl ?_
        exact Keeps.refl _

theorem wnakRx_keeps (s : State) (ses : Nat) (reason : Nat) (body : Nat) : Keeps s (wnakRx s ses reason body) := by
  unfold wnakRx
  refine Keeps.ite ?_ ?_
  · exact Keeps.refl _
  · split
    · exact Keeps.refl _
    · split
      · refine Keeps.step (refuseCmd_keeps ..) ?_
        refine Keeps.of_only (dropOut_only _ _ _) rfl ?_
        exact Keeps.refl _
      · dsimp only
        refine Keeps.ite ?_ ?_
        · refine Keeps.of_only (emit_only _ _) rfl ?_
          refine Keeps.of_only (Only.set_outWrites (m := 38685626227668133590597632) rfl (Only.refl _ _) _) rfl ?_
          exact Keeps.refl _
        · refine Keeps.step (raise_keeps ..) ?_
          refine Keeps.of_only (addObj_only _ _ _ _ _ _) rfl ?_
          refine Keeps.of_only (dropOut_only _ _ _) rfl ?_
          exact Keeps.refl _

theorem sendExport_keeps (s : State) (p : Nat) (e : Nat) (w : Nat) : Keeps s (sendExport s p e w) := by
  unfold sendExport
  dsimp only
  split
  · refine Keeps.ite ?_ ?_
    · exact Keeps.refl _
    · refine Keeps.ite ?_ ?_
      · refine Keeps.step (engineFault_keeps ..) ?_
        exact Keeps.refl _
      · refine Keeps.ite ?_ ?_
        · refine Keeps.of_only (emit_only _ _) rfl ?_
          refine Keeps.ite ?_ ?_
          · refine Keeps.step (signalOne_keeps ..) ?_
            refine Keeps.of_only (Only.set_exports (m := 154742504910672534362390528) rfl (Only.refl _ _) _) rfl ?_
            exact Keeps.refl _
          · refine Keeps.of_only (Only.set_exports (m := 154742504910672534362390528) rfl (Only.refl _ _) _) rfl ?_
            exact Keeps.refl _
        · refine Keeps.of_only (emit_only _ _) rfl ?_
          refine Keeps.of_only (Only.set_outWrites_nextTag (m := 116056878683004400771792896) rfl rfl (Only.refl _ _) _ _) rfl ?_
          refine Keeps.ite ?_ ?_
          · refine Keeps.step (signalOne_keeps ..) ?_
            refine Keeps.of_only (Only.set_exports (m := 154742504910672534362390528) rfl (Only.refl _ _) _) rfl ?_
            exact Keeps.refl _
          · refine Keeps.of_only (Only.set_exports (m := 154742504910672534362390528) rfl (Only.refl _ _) _) rfl ?_
            exact Keeps.refl _
  · exact Keeps.refl _

theorem execExportTrigger_keeps (p : Nat) (e : Nat) (s : State) : KeepsO s (execExportTrigger p e s) := by
  unfold execExportTrigger
  refine KeepsO.ite ?_ ?_
  · exact KeepsO.fault _ _
  · dsimp only
    refine KeepsO.ite ?_ ?_
    · refine KeepsO.next ?_
      refine Keeps.step (sendExport_keeps ..) ?_
      exact Keeps.refl _
    · refine KeepsO.next ?_
      exact Keeps.refl _

theorem contribDone_keeps (s : State) (p : Nat) (bs : List Sys2Proof.Byte) : Keeps s (contribDone s p bs) := by
  unfold contribDone
  dsimp only
  refine Keeps.ite ?_ ?_
  · refine Keeps.step (raise_keeps ..) ?_
    refine Keeps.of_only (addObj_only _ _ _ _ _ _) rfl ?_
    exact Keeps.refl _
  · split
    · refine Keeps.step (raise_keeps ..) ?_
      refine Keeps.of_only (addObj_only _ _ _ _ _ _) rfl ?_
      exact Keeps.refl _
    · refine Keeps.ite ?_ ?_
      · refine Keeps.step (raise_keeps ..) ?_
        refine Keeps.of_only (addObj_only _ _ _ _ _ _) rfl ?_
        exact Keeps.refl _
      · refine Keeps.of_only (rlaunch_only _ _) rfl ?_
        exact Keeps.refl _

theorem contribRx_keeps (s : State) (ses : Nat) (g : RxSeg) : Keeps s (contribRx s ses g) := by
  unfold contribRx
  dsimp only
  refine Keeps.ite ?_ ?_
  · exact Keeps.refl _
  · refine Keeps.ite ?_ ?_
    · refine Keeps.step (contribDone_keeps ..) ?_
      refine Keeps.of_only (setChan_only _ _ _ _) rfl ?_
      exact Keeps.refl _
    · refine Keeps.of_only (setChan_only _ _ _ _) rfl ?_
      exact Keeps.refl _

end Sys2Proof.Machine
end

