-- ==== Sys2Proof/Laws/OnlyGroups.lean ====
section
/-! SUPPORT. What each operation of Machine/Groups.lean can change, at most. -/
namespace Sys2Proof.Machine

theorem masterSettle_only (s : State) (p : Nat) : Only 0xe0080100000000200035da0 s (masterSettle s p) := by
  unfold masterSettle
  dsimp only
  refine Only.ite ?_ ?_
  · exact Only.refl _ _
  · refine Only.step (tryCommit_only ..) rfl ?_
    refine Only.ite ?_ ?_
    · refine Only.step (reviewStall_only ..) rfl ?_
      refine Only.step (updGroup_only ..) rfl ?_
      exact Only.refl _ _
    · refine Only.step (updGroup_only ..) rfl ?_
      exact Only.refl _ _

theorem fence_only (s : State) (p : Nat) : Only 0x200001000000000000005a0 s (fence s p) := by
  unfold fence
  refine Only.ite ?_ ?_
  · exact Only.refl _ _
  · dsimp only
    refine Only.ite ?_ ?_
    · refine Only.step (enterStall_only ..) rfl ?_
      refine Only.step (raise_only ..) rfl ?_
      refine Only.step (updGroup_only ..) rfl ?_
      exact Only.refl _ _
    · refine Only.step (raise_only ..) rfl ?_
      refine Only.step (updGroup_only ..) rfl ?_
      exact Only.refl _ _

theorem stepGone_only (s : State) (p : Nat) : Only 0xe00a01000007003a77f5da0 s (stepGone s p) := by
  unfold stepGone
  refine Only.ite ?_ ?_
  · exact Only.refl _ _
  · dsimp only
    refine Only.ite ?_ ?_
    · refine Only.step (leaveDisabling_only ..) rfl ?_
      refine Only.step (discardStep_only ..) rfl ?_
      exact Only.refl _ _
    · refine Only.step (toIdle_only ..) rfl ?_
      refine Only.step (discardStep_only ..) rfl ?_
      exact Only.refl _ _

theorem revertAfter_only (s : State) (p : Nat) (n : Nat) : Only 0x60400 s (revertAfter s p n) := by
  unfold revertAfter
  split
  · exact Only.refl _ _
  · refine Only.ite ?_ ?_
    · refine Only.step (revertUndo_only ..) rfl ?_
      exact Only.refl _ _
    · exact Only.refl _ _

theorem closeSeqs_only (s : State) (p : Nat) (qs : List Nat) : Only 0xa0080000000000000060000 s (closeSeqs s p qs) := by
  unfold closeSeqs
  refine Only.foldl (fun _ _ _ => ?_) ?_
  · dsimp only
    refine Only.step (updGroup_only ..) rfl ?_
    refine Only.step (toRanks_only ..) rfl ?_
    refine Only.step (closeSeq_only ..) rfl ?_
    assumption
  · exact Only.refl _ _

theorem rankLost_only (s : State) (p : Nat) (r : Nat) : Only 0xe00a09000007003a77fdda0 s (rankLost s p r) := by
  unfold rankLost
  dsimp only
  refine Only.ite ?_ ?_
  · refine Only.ite ?_ ?_
    · refine Only.step (fence_only ..) rfl ?_
      refine Only.step (updGroup_only ..) rfl ?_
      exact Only.refl _ _
    · refine Only.ite ?_ ?_
      · refine Only.step (closeSeqs_only ..) rfl ?_
        refine Only.step (engineFault_only ..) rfl ?_
        refine Only.step (updGroup_only ..) rfl ?_
        refine Only.step (updGroup_only ..) rfl ?_
        exact Only.refl _ _
      · refine Only.step (engineFault_only ..) rfl ?_
        refine Only.step (updGroup_only ..) rfl ?_
        refine Only.step (updGroup_only ..) rfl ?_
        exact Only.refl _ _
  · refine Only.ite ?_ ?_
    · refine Only.step (toRank_only ..) rfl ?_
      exact Only.refl _ _
    · exact Only.refl _ _

theorem learnEpoch_only (s : State) (p : Nat) (r : Nat) (e : Nat) : Only 0xe00a09000007003a77fdda0 s (learnEpoch s p r e) := by
  unfold learnEpoch
  refine Only.ite ?_ ?_
  · refine Only.step (engineFault_only ..) rfl ?_
    refine Only.step (updGroup_only ..) rfl ?_
    exact Only.refl _ _
  · refine Only.step (toRank_only ..) rfl ?_
    refine Only.step (updGroup_only ..) rfl ?_
    exact Only.refl _ _

theorem joinRx_only (s : State) (ses : Nat) : Only 0xe0080100000000200035da0 s (joinRx s ses) := by
  unfold joinRx
  split
  · exact Only.refl _ _
  · refine Only.ite ?_ ?_
    · exact Only.refl _ _
    · dsimp only
      refine Only.step (masterSettle_only ..) rfl ?_
      refine Only.foldl (fun _ _ _ => ?_) ?_
      · refine Only.ite ?_ ?_
        · refine Only.step (emit_only ..) rfl ?_
          assumption
        · assumption
      · refine Only.step (emit_only ..) rfl ?_
        refine Only.step (updGroup_only ..) rfl ?_
        exact Only.refl _ _

theorem adoptSeqs_only (s : State) (p : Nat) (ws : List Nat) : Only 0x20000 s (adoptSeqs s p ws) := by
  unfold adoptSeqs
  refine Only.foldl (fun _ _ _ => ?_) ?_
  · dsimp only
    refine Only.step (setSeq_only ..) rfl ?_
    assumption
  · exact Only.refl _ _

theorem joinAnswerRx_only (s : State) (ses : Nat) (epoch : Nat) (ws : List Nat) : Only 0xe8080100000000200a34de0 s (joinAnswerRx s ses epoch ws) := by
  unfold joinAnswerRx
  split
  · exact Only.refl _ _
  · refine Only.ite ?_ ?_
    · exact Only.refl _ _
    · dsimp only
      refine Only.step (adoptSeqs_only ..) rfl ?_
      refine Only.ite ?_ ?_
      · refine Only.step (enableFinish_only ..) rfl ?_
        refine Only.step (updGroup_only ..) rfl ?_
        exact Only.refl _ _
      · refine Only.step (updGroup_only ..) rfl ?_
        exact Only.refl _ _

theorem execJoin_only (ses : Nat) (s : State) : OnlyO 0xe0080100000000200035da0 s (execJoin ses s) := by
  unfold execJoin
  refine OnlyO.next ?_
  refine Only.step (joinRx_only ..) rfl ?_
  exact Only.refl _ _

theorem execJoinTimeout_only (p : Nat) (s : State) : OnlyO 0xa0080000000000000000400 s (execJoinTimeout p s) := by
  unfold execJoinTimeout
  refine OnlyO.ite ?_ ?_
  · exact OnlyO.fault _ _ _
  · split
    · refine OnlyO.next ?_
      exact Only.refl _ _
    · refine OnlyO.ite ?_ ?_
      · refine OnlyO.next ?_
        refine Only.step (enableRefuse_only ..) rfl ?_
        exact Only.refl _ _
      · refine OnlyO.next ?_
        exact Only.refl _ _

theorem stepgoRx_only (s : State) (ses : Nat) (n : Nat) (prog : Nat) (binds : List Nat) : Only 0xe0080100000700220135da0 s (stepgoRx s ses n prog binds) := by
  unfold stepgoRx
  split
  · exact Only.refl _ _
  · refine Only.ite ?_ ?_
    · refine Only.step (goWaiting_only ..) rfl ?_
      refine Only.step (updGroup_only ..) rfl ?_
      exact Only.refl _ _
    · exact Only.refl _ _

theorem execStepgo_only (ses : Nat) (n : Nat) (prog : Nat) (binds : List Nat) (s : State) : OnlyO 0xe0080100000700220135da0 s (execStepgo ses n prog binds s) := by
  unfold execStepgo
  refine OnlyO.next ?_
  refine Only.step (stepgoRx_only ..) rfl ?_
  exact Only.refl _ _

theorem masksRx_only (s : State) (ses : Nat) (n : Nat) (slots : List Nat) : Only 0xe0080100000700220135da0 s (masksRx s ses n slots) := by
  unfold masksRx
  split
  · exact Only.refl _ _
  · dsimp only
    refine Only.ite ?_ ?_
    · refine Only.step (tryCommit_only ..) rfl ?_
      refine Only.step (endIfMasked_only ..) rfl ?_
      refine Only.foldl (fun _ _ _ => ?_) ?_
      · refine Only.step (maskSlot_only ..) rfl ?_
        assumption
      · refine Only.step (updGroup_only ..) rfl ?_
        exact Only.refl _ _
    · refine Only.step (updGroup_only ..) rfl ?_
      exact Only.refl _ _

theorem execMasks_only (ses : Nat) (n : Nat) (slots : List Nat) (s : State) : OnlyO 0xe0080100000700220135da0 s (execMasks ses n slots s) := by
  unfold execMasks
  refine OnlyO.next ?_
  refine Only.step (masksRx_only ..) rfl ?_
  exact Only.refl _ _

theorem commitRx_only (s : State) (ses : Nat) (n : Nat) (words : List Nat) : Only 0xe0080100000700220135da0 s (commitRx s ses n words) := by
  unfold commitRx
  split
  · exact Only.refl _ _
  · refine Only.ite ?_ ?_
    · dsimp only
      refine Only.step (tryCommit_only ..) rfl ?_
      refine Only.step (endIfMasked_only ..) rfl ?_
      refine Only.step (updGroup_only ..) rfl ?_
      refine Only.step (updStep_only ..) rfl ?_
      exact Only.refl _ _
    · exact Only.refl _ _

theorem execGroupCommit_only (ses : Nat) (n : Nat) (words : List Nat) (s : State) : OnlyO 0xe0080100000700220135da0 s (execGroupCommit ses n words s) := by
  unfold execGroupCommit
  refine OnlyO.next ?_
  refine Only.step (commitRx_only ..) rfl ?_
  exact Only.refl _ _

theorem committedRx_only (s : State) (ses : Nat) (n : Nat) : Only 0xe0080102000000207f14da0 s (committedRx s ses n) := by
  unfold committedRx
  split
  · exact Only.refl _ _
  · refine Only.step (groupBoundary_only ..) rfl ?_
    refine Only.step (updGroup_only ..) rfl ?_
    exact Only.refl _ _

theorem execCommitted_only (ses : Nat) (n : Nat) (s : State) : OnlyO 0xe0080102000000207f14da0 s (execCommitted ses n s) := by
  unfold execCommitted
  refine OnlyO.next ?_
  refine Only.step (committedRx_only ..) rfl ?_
  exact Only.refl _ _

theorem boundaryRx_only (s : State) (ses : Nat) (n : Nat) (ws : List Nat) : Only 0xa0080000000000000000000 s (boundaryRx s ses n ws) := by
  unfold boundaryRx
  split
  · exact Only.refl _ _
  · refine Only.ite ?_ ?_
    · refine Only.step (emit_only ..) rfl ?_
      refine Only.step (updGroup_only ..) rfl ?_
      exact Only.refl _ _
    · exact Only.refl _ _

theorem execBoundary_only (ses : Nat) (n : Nat) (ws : List Nat) (s : State) : OnlyO 0xa0080000000000000000000 s (execBoundary ses n ws s) := by
  unfold execBoundary
  refine OnlyO.next ?_
  refine Only.step (boundaryRx_only ..) rfl ?_
  exact Only.refl _ _

theorem boundaryAckRx_only (s : State) (ses : Nat) (n : Nat) : Only 0xe0080102000000207f14da0 s (boundaryAckRx s ses n) := by
  unfold boundaryAckRx
  split
  · exact Only.refl _ _
  · split
    · exact Only.refl _ _
    · refine Only.ite ?_ ?_
      · refine Only.step (postGroup_only ..) rfl ?_
        exact Only.refl _ _
      · exact Only.refl _ _

theorem execBoundaryAck_only (ses : Nat) (n : Nat) (s : State) : OnlyO 0xe0080102000000207f14da0 s (execBoundaryAck ses n s) := by
  unfold execBoundaryAck
  refine OnlyO.next ?_
  refine Only.step (boundaryAckRx_only ..) rfl ?_
  exact Only.refl _ _

theorem confirmRx_only (s : State) (ses : Nat) (n : Nat) : Only 0xe0080100000700220135da0 s (confirmRx s ses n) := by
  unfold confirmRx
  split
  · exact Only.refl _ _
  · refine Only.ite ?_ ?_
    · refine Only.step (goWaiting_only ..) rfl ?_
      refine Only.step (updGroup_only ..) rfl ?_
      exact Only.refl _ _
    · exact Only.refl _ _

theorem execConfirm_only (ses : Nat) (n : Nat) (s : State) : OnlyO 0xe0080100000700220135da0 s (execConfirm ses n s) := by
  unfold execConfirm
  refine OnlyO.next ?_
  refine Only.step (confirmRx_only ..) rfl ?_
  exact Only.refl _ _

theorem orderRx_only (s : State) (ses : Nat) (w : Nat) : Only 0x20000000000000000060000 s (orderRx s ses w) := by
  unfold orderRx
  split
  · exact Only.refl _ _
  · dsimp only
    refine Only.ite ?_ ?_
    · exact Only.refl _ _
    · refine Only.ite ?_ ?_
      · refine Only.step (updGroup_only ..) rfl ?_
        exact Only.refl _ _
      · refine Only.step (orderEff_only ..) rfl ?_
        exact Only.refl _ _

theorem cancelForwardRx_only (s : State) (ses : Nat) (q : Nat) : Only 0xa0080000000000000020020 s (cancelForwardRx s ses q) := by
  unfold cancelForwardRx
  split
  · exact Only.refl _ _
  · refine Only.ite ?_ ?_
    · exact Only.refl _ _
    · dsimp only
      split
      · refine Only.step (finalForwards_only ..) rfl ?_
        refine Only.step (updGroup_only ..) rfl ?_
        exact Only.refl _ _
      · refine Only.ite ?_ ?_
        · refine Only.step (setSeq_only ..) rfl ?_
          refine Only.step (updGroup_only ..) rfl ?_
          exact Only.refl _ _
        · refine Only.step (finalForwards_only ..) rfl ?_
          refine Only.step (addObj_only ..) rfl ?_
          refine Only.step (setSeq_only ..) rfl ?_
          refine Only.step (updGroup_only ..) rfl ?_
          exact Only.refl _ _

theorem execCancelForward_only (ses : Nat) (q : Nat) (s : State) : OnlyO 0xa0080000000000000020020 s (execCancelForward ses q s) := by
  unfold execCancelForward
  refine OnlyO.next ?_
  refine Only.step (cancelForwardRx_only ..) rfl ?_
  exact Only.refl _ _

theorem maskingRx_only (s : State) (ses : Nat) (q : Nat) (slot : Nat) (fin : Nat) (last : Nat) : Only 0xe0080100000700220135da0 s (maskingRx s ses q slot fin last) := by
  unfold maskingRx
  split
  · exact Only.refl _ _
  · refine Only.ite ?_ ?_
    · exact Only.refl _ _
    · dsimp only
      refine Only.ite ?_ ?_
      · refine Only.step (finalCancels_only ..) rfl ?_
        refine Only.step (updGroup_only ..) rfl ?_
        split
        · exact Only.refl _ _
        · refine Only.step (setSeq_only ..) rfl ?_
          exact Only.refl _ _
      · refine Only.ite ?_ ?_
        · refine Only.step (endIfMasked_only ..) rfl ?_
          refine Only.step (maskSlot_only ..) rfl ?_
          refine Only.set_tiles rfl ?_ _
          split
          · exact Only.refl _ _
          · refine Only.step (setSeq_only ..) rfl ?_
            exact Only.refl _ _
        · split
          · exact Only.refl _ _
          · refine Only.step (setSeq_only ..) rfl ?_
            exact Only.refl _ _

theorem execGroupMasking_only (ses : Nat) (q : Nat) (slot : Nat) (fin : Nat) (last : Nat) (s : State) : OnlyO 0xe0080100000700220135da0 s (execGroupMasking ses q slot fin last s) := by
  unfold execGroupMasking
  refine OnlyO.next ?_
  refine Only.step (maskingRx_only ..) rfl ?_
  exact Only.refl _ _

theorem announceRx_only (s : State) (ses : Nat) (w : Nat) (e : Nat) (st : Nat) : Only 0x10000000000000000000000 s (announceRx s ses w e st) := by
  unfold announceRx
  split
  · exact Only.refl _ _
  · refine Only.set_announced rfl ?_ _
    exact Only.refl _ _

theorem execWindowAnnounce_only (ses : Nat) (w : Nat) (e : Nat) (st : Nat) (s : State) : OnlyO 0x10000000000000000000000 s (execWindowAnnounce ses w e st s) := by
  unfold execWindowAnnounce
  refine OnlyO.next ?_
  refine Only.step (announceRx_only ..) rfl ?_
  exact Only.refl _ _

theorem masterlostRx_only (s : State) (ses : Nat) : Only 0x20000000000000000000000 s (masterlostRx s ses) := by
  unfold masterlostRx
  split
  · exact Only.refl _ _
  · refine Only.ite ?_ ?_
    · refine Only.step (updGroup_only ..) rfl ?_
      exact Only.refl _ _
    · exact Only.refl _ _

theorem execMasterlost_only (ses : Nat) (s : State) : OnlyO 0x20000000000000000000000 s (execMasterlost ses s) := by
  unfold execMasterlost
  refine OnlyO.next ?_
  refine Only.step (masterlostRx_only ..) rfl ?_
  exact Only.refl _ _

theorem promote_only (s : State) (p : Nat) : Only 0xe00a01000007003a77f5da0 s (promote s p) := by
  unfold promote
  dsimp only
  refine Only.step (raise_only ..) rfl ?_
  refine Only.step (closeSeqs_only ..) rfl ?_
  refine Only.step (toRanks_only ..) rfl ?_
  refine Only.ite ?_ ?_
  · refine Only.step (adoptSeqs_only ..) rfl ?_
    refine Only.step (updGroup_only ..) rfl ?_
    refine Only.step (revertAfter_only ..) rfl ?_
    refine Only.step (stepGone_only ..) rfl ?_
    exact Only.refl _ _
  · refine Only.step (updGroup_only ..) rfl ?_
    refine Only.step (revertAfter_only ..) rfl ?_
    refine Only.step (stepGone_only ..) rfl ?_
    exact Only.refl _ _

theorem execBackupPromote_only (p : Nat) (s : State) : OnlyO 0xe00a01000007003a77f5da0 s (execBackupPromote p s) := by
  unfold execBackupPromote
  refine OnlyO.ite ?_ ?_
  · exact OnlyO.fault _ _ _
  · refine OnlyO.ite ?_ ?_
    · refine OnlyO.next ?_
      refine Only.step (promote_only ..) rfl ?_
      exact Only.refl _ _
    · refine OnlyO.next ?_
      exact Only.refl _ _

theorem execPromote_only (ses : Nat) (reqid : Nat) (p : Nat) (gid : Nat) (s : State) : OnlyO 0xe00a01000007003a77f5da0 s (execPromote ses reqid p gid s) := by
  unfold execPromote
  refine OnlyO.ite ?_ ?_
  · exact OnlyO.fault _ _ _
  · refine served_only (fun _ _ => ?_) rfl ?_
    · refine Only.ite ?_ ?_
      · refine Only.step (refuseReq_only ..) rfl ?_
        assumption
      · refine Only.ite ?_ ?_
        · refine Only.step (refuseReq_only ..) rfl ?_
          assumption
        · refine Only.ite ?_ ?_
          · refine Only.step (refuseReq_only ..) rfl ?_
            assumption
          · refine Only.step (acceptReq_only ..) rfl ?_
            refine Only.step (promote_only ..) rfl ?_
            assumption
    · exact Only.refl _ _

theorem newmasterRx_only (s : State) (ses : Nat) (epoch : Nat) (n : Nat) : Only 0xe00a09000007003a77fdda0 s (newmasterRx s ses epoch n) := by
  unfold newmasterRx
  split
  · exact Only.refl _ _
  · dsimp only
    refine Only.ite ?_ ?_
    · exact Only.refl _ _
    · refine Only.ite ?_ ?_
      · refine Only.ite ?_ ?_
        · refine Only.step (learnEpoch_only ..) rfl ?_
          exact Only.refl _ _
        · exact Only.refl _ _
      · refine Only.step (emit_only ..) rfl ?_
        refine Only.step (updGroup_only ..) rfl ?_
        refine Only.step (finalCancels_only ..) rfl ?_
        refine Only.step (revertAfter_only ..) rfl ?_
        refine Only.step (stepGone_only ..) rfl ?_
        exact Only.refl _ _

theorem execNewmaster_only (ses : Nat) (epoch : Nat) (n : Nat) (s : State) : OnlyO 0xe00a09000007003a77fdda0 s (execNewmaster ses epoch n s) := by
  unfold execNewmaster
  refine OnlyO.next ?_
  refine Only.step (newmasterRx_only ..) rfl ?_
  exact Only.refl _ _

theorem newmasterReplyRx_only (s : State) (ses : Nat) : Only 0xe0080100000000200035da0 s (newmasterReplyRx s ses) := by
  unfold newmasterReplyRx
  split
  · exact Only.refl _ _
  · refine Only.ite ?_ ?_
    · refine Only.step (masterSettle_only ..) rfl ?_
      refine Only.step (updGroup_only ..) rfl ?_
      exact Only.refl _ _
    · exact Only.refl _ _

theorem cascadeRx_only (s : State) (ses : Nat) (kind : Nat) (b : List Nat) : Only 0xf80a09020007003a7ffdde0 s (cascadeRx s ses kind b) := by
  unfold cascadeRx
  dsimp only
  split
  · refine Only.step (joinRx_only ..) rfl ?_
    exact Only.refl _ _
  · refine Only.step (joinAnswerRx_only ..) rfl ?_
    exact Only.refl _ _
  · refine Only.step (stepgoRx_only ..) rfl ?_
    exact Only.refl _ _
  · refine Only.step (masksRx_only ..) rfl ?_
    exact Only.refl _ _
  · refine Only.step (commitRx_only ..) rfl ?_
    exact Only.refl _ _
  · refine Only.step (committedRx_only ..) rfl ?_
    exact Only.refl _ _
  · refine Only.step (boundaryRx_only ..) rfl ?_
    exact Only.refl _ _
  · refine Only.step (boundaryAckRx_only ..) rfl ?_
    exact Only.refl _ _
  · refine Only.step (confirmRx_only ..) rfl ?_
    exact Only.refl _ _
  · refine Only.step (cancelForwardRx_only ..) rfl ?_
    exact Only.refl _ _
  · refine Only.step (maskingRx_only ..) rfl ?_
    exact Only.refl _ _
  · refine Only.step (announceRx_only ..) rfl ?_
    exact Only.refl _ _
  · refine Only.step (masterlostRx_only ..) rfl ?_
    exact Only.refl _ _
  · refine Only.step (newmasterRx_only ..) rfl ?_
    exact Only.refl _ _
  · refine Only.step (newmasterReplyRx_only ..) rfl ?_
    exact Only.refl _ _
  · refine Only.step (orderRx_only ..) rfl ?_
    exact Only.refl _ _
  · exact Only.refl _ _

end Sys2Proof.Machine
end

