-- ==== Sys2Proof/Laws/KeepsGroups.lean ====
section
/-! SUPPORT. Each operation of Machine/Groups.lean keeps: the form of the memories and the bounds of the stores. -/
namespace Sys2Proof.Machine

theorem masterSettle_keeps (s : State) (p : Nat) : Keeps s (masterSettle s p) := by
  unfold masterSettle
  dsimp only
  refine Keeps.ite ?_ ?_
  · exact Keeps.refl _
  · refine Keeps.step (tryCommit_keeps ..) ?_
    refine Keeps.ite ?_ ?_
    · refine Keeps.of_only (reviewStall_only _ _) rfl ?_
      refine Keeps.of_only (updGroup_only _ _ _) rfl ?_
      exact Keeps.refl _
    · refine Keeps.of_only (updGroup_only _ _ _) rfl ?_
      exact Keeps.refl _

theorem fence_keeps (s : State) (p : Nat) : Keeps s (fence s p) := by
  unfold fence
  refine Keeps.ite ?_ ?_
  · exact Keeps.refl _
  · dsimp only
    refine Keeps.ite ?_ ?_
    · refine Keeps.of_only (enterStall_only _ _ _ _ _ _) rfl ?_
      refine Keeps.step (raise_keeps ..) ?_
      refine Keeps.of_only (updGroup_only _ _ _) rfl ?_
      exact Keeps.refl _
    · refine Keeps.step (raise_keeps ..) ?_
      refine Keeps.of_only (updGroup_only _ _ _) rfl ?_
      exact Keeps.refl _

theorem stepGone_keeps (s : State) (p : Nat) : Keeps s (stepGone s p) := by
  unfold stepGone
  refine Keeps.ite ?_ ?_
  · exact Keeps.refl _
  · dsimp only
    refine Keeps.ite ?_ ?_
    · refine Keeps.step (leaveDisabling_keeps ..) ?_
      refine Keeps.step (discardStep_keeps ..) ?_
      exact Keeps.refl _
    · refine Keeps.of_only (toIdle_only _ _) rfl ?_
      refine Keeps.step (discardStep_keeps ..) ?_
      exact Keeps.refl _

theorem rankLost_keeps (s : State) (p : Nat) (r : Nat) : Keeps s (rankLost s p r) := by
  unfold rankLost
  dsimp only
  refine Keeps.ite ?_ ?_
  · refine Keeps.ite ?_ ?_
    · refine Keeps.step (fence_keeps ..) ?_
      refine Keeps.of_only (updGroup_only _ _ _) rfl ?_
      exact Keeps.refl _
    · refine Keeps.ite ?_ ?_
      · refine Keeps.of_only (closeSeqs_only _ _ _) rfl ?_
        refine Keeps.step (engineFault_keeps ..) ?_
        refine Keeps.of_only (updGroup_only _ _ _) rfl ?_
        refine Keeps.of_only (updGroup_only _ _ _) rfl ?_
        exact Keeps.refl _
      · refine Keeps.step (engineFault_keeps ..) ?_
        refine Keeps.of_only (updGroup_only _ _ _) rfl ?_
        refine Keeps.of_only (updGroup_only _ _ _) rfl ?_
        exact Keeps.refl _
  · refine Keeps.ite ?_ ?_
    · refine Keeps.of_only (toRank_only _ _ _ _ _) rfl ?_
      exact Keeps.refl _
    · exact Keeps.refl _

theorem learnEpoch_keeps (s : State) (p : Nat) (r : Nat) (e : Nat) : Keeps s (learnEpoch s p r e) := by
  unfold learnEpoch
  refine Keeps.ite ?_ ?_
  · refine Keeps.step (engineFault_keeps ..) ?_
    refine Keeps.of_only (updGroup_only _ _ _) rfl ?_
    exact Keeps.refl _
  · refine Keeps.of_only (toRank_only _ _ _ _ _) rfl ?_
    refine Keeps.of_only (updGroup_only _ _ _) rfl ?_
    exact Keeps.refl _

theorem joinRx_keeps (s : State) (ses : Nat) : Keeps s (joinRx s ses) := by
  unfold joinRx
  split
  · exact Keeps.refl _
  · refine Keeps.ite ?_ ?_
    · exact Keeps.refl _
    · dsimp only
      refine Keeps.step (masterSettle_keeps ..) ?_
      refine Keeps.foldl (fun _ _ _ => ?_) ?_
      · refine Keeps.ite ?_ ?_
        · refine Keeps.of_only (emit_only _ _) rfl ?_
          assumption
        · assumption
      · refine Keeps.of_only (emit_only _ _) rfl ?_
        refine Keeps.of_only (updGroup_only _ _ _) rfl ?_
        exact Keeps.refl _

theorem joinAnswerRx_keeps (s : State) (ses : Nat) (epoch : Nat) (ws : List Nat) : Keeps s (joinAnswerRx s ses epoch ws) := by
  unfold joinAnswerRx
  split
  · exact Keeps.refl _
  · refine Keeps.ite ?_ ?_
    · exact Keeps.refl _
    · dsimp only
      refine Keeps.of_only (adoptSeqs_only _ _ _) rfl ?_
      refine Keeps.ite ?_ ?_
      · refine Keeps.step (enableFinish_keeps ..) ?_
        refine Keeps.of_only (updGroup_only _ _ _) rfl ?_
        exact Keeps.refl _
      · refine Keeps.of_only (updGroup_only _ _ _) rfl ?_
        exact Keeps.refl _

theorem execJoin_keeps (ses : Nat) (s : State) : KeepsO s (execJoin ses s) := by
  unfold execJoin
  refine KeepsO.next ?_
  refine Keeps.step (joinRx_keeps ..) ?_
  exact Keeps.refl _

theorem stepgoRx_keeps (s : State) (ses : Nat) (n : Nat) (prog : Nat) (binds : List Nat) : Keeps s (stepgoRx s ses n prog binds) := by
  unfold stepgoRx
  split
  · exact Keeps.refl _
  · refine Keeps.ite ?_ ?_
    · refine Keeps.step (goWaiting_keeps ..) ?_
      refine Keeps.of_only (updGroup_only _ _ _) rfl ?_
      exact Keeps.refl _
    · exact Keeps.refl _

theorem execStepgo_keeps (ses : Nat) (n : Nat) (prog : Nat) (binds : List Nat) (s : State) : KeepsO s (execStepgo ses n prog binds s) := by
  unfold execStepgo
  refine KeepsO.next ?_
  refine Keeps.step (stepgoRx_keeps ..) ?_
  exact Keeps.refl _

theorem masksRx_keeps (s : State) (ses : Nat) (n : Nat) (slots : List Nat) : Keeps s (masksRx s ses n slots) := by
  unfold masksRx
  split
  · exact Keeps.refl _
  · dsimp only
    refine Keeps.ite ?_ ?_
    · refine Keeps.step (tryCommit_keeps ..) ?_
      refine Keeps.step (endIfMasked_keeps ..) ?_
      refine Keeps.foldl (fun _ _ _ => ?_) ?_
      · refine Keeps.of_only (maskSlot_only _ _ _ _ _) rfl ?_
        assumption
      · refine Keeps.of_only (updGroup_only _ _ _) rfl ?_
        exact Keeps.refl _
    · refine Keeps.of_only (updGroup_only _ _ _) rfl ?_
      exact Keeps.refl _

theorem execMasks_keeps (ses : Nat) (n : Nat) (slots : List Nat) (s : State) : KeepsO s (execMasks ses n slots s) := by
  unfold execMasks
  refine KeepsO.next ?_
  refine Keeps.step (masksRx_keeps ..) ?_
  exact Keeps.refl _

theorem commitRx_keeps (s : State) (ses : Nat) (n : Nat) (words : List Nat) : Keeps s (commitRx s ses n words) := by
  unfold commitRx
  split
  · exact Keeps.refl _
  · refine Keeps.ite ?_ ?_
    · dsimp only
      refine Keeps.step (tryCommit_keeps ..) ?_
      refine Keeps.step (endIfMasked_keeps ..) ?_
      refine Keeps.of_only (updGroup_only _ _ _) rfl ?_
      refine Keeps.of_only (updStep_only _ _ _) rfl ?_
      exact Keeps.refl _
    · exact Keeps.refl _

theorem execGroupCommit_keeps (ses : Nat) (n : Nat) (words : List Nat) (s : State) : KeepsO s (execGroupCommit ses n words s) := by
  unfold execGroupCommit
  refine KeepsO.next ?_
  refine Keeps.step (commitRx_keeps ..) ?_
  exact Keeps.refl _

theorem committedRx_keeps (s : State) (ses : Nat) (n : Nat) : Keeps s (committedRx s ses n) := by
  unfold committedRx
  split
  · exact Keeps.refl _
  · refine Keeps.step (groupBoundary_keeps ..) ?_
    refine Keeps.of_only (updGroup_only _ _ _) rfl ?_
    exact Keeps.refl _

theorem execCommitted_keeps (ses : Nat) (n : Nat) (s : State) : KeepsO s (execCommitted ses n s) := by
  unfold execCommitted
  refine KeepsO.next ?_
  refine Keeps.step (committedRx_keeps ..) ?_
  exact Keeps.refl _

theorem boundaryAckRx_keeps (s : State) (ses : Nat) (n : Nat) : Keeps s (boundaryAckRx s ses n) := by
  unfold boundaryAckRx
  split
  · exact Keeps.refl _
  · split
    · exact Keeps.refl _
    · refine Keeps.ite ?_ ?_
      · refine Keeps.step (postGroup_keeps ..) ?_
        exact Keeps.refl _
      · exact Keeps.refl _

theorem execBoundaryAck_keeps (ses : Nat) (n : Nat) (s : State) : KeepsO s (execBoundaryAck ses n s) := by
  unfold execBoundaryAck
  refine KeepsO.next ?_
  refine Keeps.step (boundaryAckRx_keeps ..) ?_
  exact Keeps.refl _

theorem confirmRx_keeps (s : State) (ses : Nat) (n : Nat) : Keeps s (confirmRx s ses n) := by
  unfold confirmRx
  split
  · exact Keeps.refl _
  · refine Keeps.ite ?_ ?_
    · refine Keeps.step (goWaiting_keeps ..) ?_
      refine Keeps.of_only (updGroup_only _ _ _) rfl ?_
      exact Keeps.refl _
    · exact Keeps.refl _

theorem execConfirm_keeps (ses : Nat) (n : Nat) (s : State) : KeepsO s (execConfirm ses n s) := by
  unfold execConfirm
  refine KeepsO.next ?_
  refine Keeps.step (confirmRx_keeps ..) ?_
  exact Keeps.refl _

theorem maskingRx_keeps (s : State) (ses : Nat) (q : Nat) (slot : Nat) (fin : Nat) (last : Nat) : Keeps s (maskingRx s ses q slot fin last) := by
  unfold maskingRx
  split
  · exact Keeps.refl _
  · refine Keeps.ite ?_ ?_
    · exact Keeps.refl _
    · dsimp only
      refine Keeps.ite ?_ ?_
      · refine Keeps.step (finalCancels_keeps ..) ?_
        refine Keeps.of_only (updGroup_only _ _ _) rfl ?_
        split
        · exact Keeps.refl _
        · refine Keeps.of_only (setSeq_only _ _ _ _) rfl ?_
          exact Keeps.refl _
      · refine Keeps.ite ?_ ?_
        · refine Keeps.step (endIfMasked_keeps ..) ?_
          refine Keeps.of_only (maskSlot_only _ _ _ _ _) rfl ?_
          refine Keeps.of_only (Only.set_tiles (m := 8589934592) rfl (Only.refl _ _) _) rfl ?_
          split
          · exact Keeps.refl _
          · refine Keeps.of_only (setSeq_only _ _ _ _) rfl ?_
            exact Keeps.refl _
        · split
          · exact Keeps.refl _
          · refine Keeps.of_only (setSeq_only _ _ _ _) rfl ?_
            exact Keeps.refl _

theorem execGroupMasking_keeps (ses : Nat) (q : Nat) (slot : Nat) (fin : Nat) (last : Nat) (s : State) : KeepsO s (execGroupMasking ses q slot fin last s) := by
  unfold execGroupMasking
  refine KeepsO.next ?_
  refine Keeps.step (maskingRx_keeps ..) ?_
  exact Keeps.refl _

theorem promote_keeps (s : State) (p : Nat) : Keeps s (promote s p) := by
  unfold promote
  dsimp only
  refine Keeps.step (raise_keeps ..) ?_
  refine Keeps.of_only (closeSeqs_only _ _ _) rfl ?_
  refine Keeps.of_only (toRanks_only _ _ _ _ _) rfl ?_
  refine Keeps.ite ?_ ?_
  · refine Keeps.of_only (adoptSeqs_only _ _ _) rfl ?_
    refine Keeps.of_only (updGroup_only _ _ _) rfl ?_
    refine Keeps.of_only (revertAfter_only _ _ _) rfl ?_
    refine Keeps.step (stepGone_keeps ..) ?_
    exact Keeps.refl _
  · refine Keeps.of_only (updGroup_only _ _ _) rfl ?_
    refine Keeps.of_only (revertAfter_only _ _ _) rfl ?_
    refine Keeps.step (stepGone_keeps ..) ?_
    exact Keeps.refl _

theorem execBackupPromote_keeps (p : Nat) (s : State) : KeepsO s (execBackupPromote p s) := by
  unfold execBackupPromote
  refine KeepsO.ite ?_ ?_
  · exact KeepsO.fault _ _
  · refine KeepsO.ite ?_ ?_
    · refine KeepsO.next ?_
      refine Keeps.step (promote_keeps ..) ?_
      exact Keeps.refl _
    · refine KeepsO.next ?_
      exact Keeps.refl _

theorem execPromote_keeps (ses : Nat) (reqid : Nat) (p : Nat) (gid : Nat) (s : State) : KeepsO s (execPromote ses reqid p gid s) := by
  unfold execPromote
  refine KeepsO.ite ?_ ?_
  · exact KeepsO.fault _ _
  · refine served_keeps (fun _ _ => ?_) ?_
    · refine Keeps.ite ?_ ?_
      · refine Keeps.of_only (refuseReq_only _ _ _ _ _ _ _) rfl ?_
        assumption
      · refine Keeps.ite ?_ ?_
        · refine Keeps.of_only (refuseReq_only _ _ _ _ _ _ _) rfl ?_
          assumption
        · refine Keeps.ite ?_ ?_
          · refine Keeps.of_only (refuseReq_only _ _ _ _ _ _ _) rfl ?_
            assumption
          · refine Keeps.of_only (acceptReq_only _ _ _ _ _) rfl ?_
            refine Keeps.step (promote_keeps ..) ?_
            assumption
    · exact Keeps.refl _

theorem newmasterRx_keeps (s : State) (ses : Nat) (epoch : Nat) (n : Nat) : Keeps s (newmasterRx s ses epoch n) := by
  unfold newmasterRx
  split
  · exact Keeps.refl _
  · dsimp only
    refine Keeps.ite ?_ ?_
    · exact Keeps.refl _
    · refine Keeps.ite ?_ ?_
      · refine Keeps.ite ?_ ?_
        · refine Keeps.step (learnEpoch_keeps ..) ?_
          exact Keeps.refl _
        · exact Keeps.refl _
      · refine Keeps.of_only (emit_only _ _) rfl ?_
        refine Keeps.of_only (updGroup_only _ _ _) rfl ?_
        refine Keeps.step (finalCancels_keeps ..) ?_
        refine Keeps.of_only (revertAfter_only _ _ _) rfl ?_
        refine Keeps.step (stepGone_keeps ..) ?_
        exact Keeps.refl _

theorem execNewmaster_keeps (ses : Nat) (epoch : Nat) (n : Nat) (s : State) : KeepsO s (execNewmaster ses epoch n s) := by
  unfold execNewmaster
  refine KeepsO.next ?_
  refine Keeps.step (newmasterRx_keeps ..) ?_
  exact Keeps.refl _

theorem newmasterReplyRx_keeps (s : State) (ses : Nat) : Keeps s (newmasterReplyRx s ses) := by
  unfold newmasterReplyRx
  split
  · exact Keeps.refl _
  · refine Keeps.ite ?_ ?_
    · refine Keeps.step (masterSettle_keeps ..) ?_
      refine Keeps.of_only (updGroup_only _ _ _) rfl ?_
      exact Keeps.refl _
    · exact Keeps.refl _

theorem cascadeRx_keeps (s : State) (ses : Nat) (kind : Nat) (b : List Nat) : Keeps s (cascadeRx s ses kind b) := by
  unfold cascadeRx
  dsimp only
  split
  · refine Keeps.step (joinRx_keeps ..) ?_
    exact Keeps.refl _
  · refine Keeps.step (joinAnswerRx_keeps ..) ?_
    exact Keeps.refl _
  · refine Keeps.step (stepgoRx_keeps ..) ?_
    exact Keeps.refl _
  · refine Keeps.step (masksRx_keeps ..) ?_
    exact Keeps.refl _
  · refine Keeps.step (commitRx_keeps ..) ?_
    exact Keeps.refl _
  · refine Keeps.step (committedRx_keeps ..) ?_
    exact Keeps.refl _
  · refine Keeps.of_only (boundaryRx_only _ _ _ _) rfl ?_
    exact Keeps.refl _
  · refine Keeps.step (boundaryAckRx_keeps ..) ?_
    exact Keeps.refl _
  · refine Keeps.step (confirmRx_keeps ..) ?_
    exact Keeps.refl _
  · refine Keeps.of_only (cancelForwardRx_only _ _ _) rfl ?_
    exact Keeps.refl _
  · refine Keeps.step (maskingRx_keeps ..) ?_
    exact Keeps.refl _
  · refine Keeps.of_only (announceRx_only _ _ _ _ _) rfl ?_
    exact Keeps.refl _
  · refine Keeps.of_only (masterlostRx_only _ _) rfl ?_
    exact Keeps.refl _
  · refine Keeps.step (newmasterRx_keeps ..) ?_
    exact Keeps.refl _
  · refine Keeps.step (newmasterReplyRx_keeps ..) ?_
    exact Keeps.refl _
  · refine Keeps.of_only (orderRx_only _ _ _) rfl ?_
    exact Keeps.refl _
  · exact Keeps.refl _

end Sys2Proof.Machine
end

