-- ==== Sys2Proof/Laws/OnlyPorts.lean ====
section
/-! SUPPORT. What each operation of Machine/Ports.lean can change, at most. -/
namespace Sys2Proof.Machine

theorem execNeighborSolicitation_only (p : Nat) (target : Nat) (s : State) : OnlyO 0x80080000000000000000000 s (execNeighborSolicitation p target s) := by
  unfold execNeighborSolicitation
  refine OnlyO.ite ?_ ?_
  · exact OnlyO.fault _ _ _
  · refine OnlyO.ite ?_ ?_
    · refine OnlyO.next ?_
      refine Only.step (emit_only ..) rfl ?_
      exact Only.refl _ _
    · refine OnlyO.next ?_
      exact Only.refl _ _

theorem execNeighborAdvertisement_only (p : Nat) (target : Nat) (lladdr : Nat) (s : State) : OnlyO 0x400000000000000000000 s (execNeighborAdvertisement p target lladdr s) := by
  unfold execNeighborAdvertisement
  refine OnlyO.ite ?_ ?_
  · exact OnlyO.fault _ _ _
  · refine OnlyO.ite ?_ ?_
    · refine OnlyO.next ?_
      refine Only.step (setPort_only ..) rfl ?_
      exact Only.refl _ _
    · refine OnlyO.next ?_
      exact Only.refl _ _

theorem execEchoRequest_only (p : Nat) (dst : Nat) (src : Nat) (s : State) : OnlyO 0x80080000000000000000000 s (execEchoRequest p dst src s) := by
  unfold execEchoRequest
  refine OnlyO.ite ?_ ?_
  · exact OnlyO.fault _ _ _
  · refine OnlyO.ite ?_ ?_
    · refine OnlyO.next ?_
      refine Only.step (emit_only ..) rfl ?_
      exact Only.refl _ _
    · refine OnlyO.next ?_
      exact Only.refl _ _

theorem resumeTx_only (s : State) : Only 0x80080000000000000008000 s (resumeTx s) := by
  unfold resumeTx
  refine Only.step (flushAll_only ..) rfl ?_
  refine Only.foldl (fun _ _ _ => ?_) ?_
  · refine Only.foldl (fun _ _ _ => ?_) ?_
    · refine Only.step (pump_only ..) rfl ?_
      assumption
    · assumption
  · exact Only.refl _ _

theorem sendOpens_only (s : State) (p : Nat) : Only 0x80000000000000000000000 s (sendOpens s p) := by
  unfold sendOpens
  refine Only.foldl (fun _ _ _ => ?_) ?_
  · refine Only.ite ?_ ?_
    · refine Only.step (sendFrame_only ..) rfl ?_
      assumption
    · assumption
  · exact Only.refl _ _

theorem solicit_only (s : State) (p : Nat) : Only 0x80080000000000000000000 s (solicit s p) := by
  unfold solicit
  refine Only.ite ?_ ?_
  · exact Only.refl _ _
  · refine Only.step (emit_only ..) rfl ?_
    exact Only.refl _ _

theorem linkChange_only (s : State) (p : Nat) (up : Bool) : Only 0x80480000000000000008100 s (linkChange s p up) := by
  unfold linkChange
  dsimp only
  refine Only.ite ?_ ?_
  · refine Only.step (resumeTx_only ..) rfl ?_
    refine Only.step (sendOpens_only ..) rfl ?_
    refine Only.step (solicit_only ..) rfl ?_
    refine Only.step (portCond_only ..) rfl ?_
    refine Only.step (setPort_only ..) rfl ?_
    exact Only.refl _ _
  · refine Only.step (resumeTx_only ..) rfl ?_
    refine Only.step (portCond_only ..) rfl ?_
    refine Only.step (setPort_only ..) rfl ?_
    exact Only.refl _ _

theorem execPortLinkChange_only (p : Nat) (up : Bool) (s : State) : OnlyO 0x80480000000000000008100 s (execPortLinkChange p up s) := by
  unfold execPortLinkChange
  refine OnlyO.ite ?_ ?_
  · exact OnlyO.fault _ _ _
  · dsimp only
    refine OnlyO.ite ?_ ?_
    · refine OnlyO.next ?_
      exact Only.refl _ _
    · refine OnlyO.next ?_
      refine Only.step (linkChange_only ..) rfl ?_
      exact Only.refl _ _

theorem execMgmtPortLinkChange_only (m : Nat) (up : Bool) (s : State) : OnlyO 0x80480000000000000008100 s (execMgmtPortLinkChange m up s) := by
  unfold execMgmtPortLinkChange
  refine OnlyO.ite ?_ ?_
  · exact OnlyO.fault _ _ _
  · refine OnlyO.next ?_
    refine Only.step (linkChange_only ..) rfl ?_
    exact Only.refl _ _

theorem execOsfpInsert_only (p : Nat) (cls : Nat) (watts : Nat) (s : State) : OnlyO 0x400900000000000000180 s (execOsfpInsert p cls watts s) := by
  unfold execOsfpInsert
  refine OnlyO.ite ?_ ?_
  · exact OnlyO.fault _ _ _
  · refine OnlyO.ite ?_ ?_
    · refine OnlyO.next ?_
      exact Only.refl _ _
    · dsimp only
      refine OnlyO.next ?_
      refine Only.ite ?_ ?_
      · refine Only.step (raiseRc_only ..) rfl ?_
        refine Only.step (portCond_only ..) rfl ?_
        refine Only.step (setPort_only ..) rfl ?_
        refine Only.step (partMoved_only ..) rfl ?_
        exact Only.refl _ _
      · refine Only.step (portCond_only ..) rfl ?_
        refine Only.step (setPort_only ..) rfl ?_
        refine Only.step (partMoved_only ..) rfl ?_
        exact Only.refl _ _

theorem execOsfpRemove_only (p : Nat) (s : State) : OnlyO 0x80480800000000000008100 s (execOsfpRemove p s) := by
  unfold execOsfpRemove
  refine OnlyO.ite ?_ ?_
  · exact OnlyO.fault _ _ _
  · dsimp only
    refine OnlyO.ite ?_ ?_
    · refine OnlyO.next ?_
      exact Only.refl _ _
    · refine OnlyO.next ?_
      refine Only.step (linkChange_only ..) rfl ?_
      refine Only.step (setPort_only ..) rfl ?_
      refine Only.step (partMoved_only ..) rfl ?_
      exact Only.refl _ _

theorem execPortElecFault_only (p : Nat) (s : State) : OnlyO 0x80480900000000000008180 s (execPortElecFault p s) := by
  unfold execPortElecFault
  refine OnlyO.ite ?_ ?_
  · exact OnlyO.fault _ _ _
  · dsimp only
    refine OnlyO.ite ?_ ?_
    · refine OnlyO.next ?_
      exact Only.refl _ _
    · refine OnlyO.next ?_
      refine Only.step (raiseRc_only ..) rfl ?_
      refine Only.step (protective_only ..) rfl ?_
      refine Only.step (kennelEvent_only ..) rfl ?_
      refine Only.step (linkChange_only ..) rfl ?_
      refine Only.step (setPort_only ..) rfl ?_
      exact Only.refl _ _

theorem execPfcFrame_only (p : Nat) (pauses : List (Nat × Nat)) (s : State) : OnlyO 0x80480000000000000008000 s (execPfcFrame p pauses s) := by
  unfold execPfcFrame
  refine OnlyO.ite ?_ ?_
  · exact OnlyO.fault _ _ _
  · refine OnlyO.ite ?_ ?_
    · refine OnlyO.next ?_
      exact Only.refl _ _
    · dsimp only
      refine OnlyO.next ?_
      refine Only.step (resumeTx_only ..) rfl ?_
      refine Only.step (setPort_only ..) rfl ?_
      exact Only.refl _ _

theorem execPfcPauseExpire_only (p : Nat) (pri : Nat) (s : State) : OnlyO 0x80480000000000000008000 s (execPfcPauseExpire p pri s) := by
  unfold execPfcPauseExpire
  refine OnlyO.ite ?_ ?_
  · exact OnlyO.fault _ _ _
  · split
    · refine OnlyO.next ?_
      exact Only.refl _ _
    · refine OnlyO.ite ?_ ?_
      · refine OnlyO.next ?_
        refine Only.step (resumeTx_only ..) rfl ?_
        refine Only.step (setPort_only ..) rfl ?_
        exact Only.refl _ _
      · refine OnlyO.next ?_
        exact Only.refl _ _

theorem flowControl_only (s : State) (p : Nat) (pri : Nat) : Only 0x80480000000000000000000 s (flowControl s p pri) := by
  unfold flowControl
  refine Only.ite ?_ ?_
  · exact Only.refl _ _
  · dsimp only
    refine Only.ite ?_ ?_
    · refine Only.step (emit_only ..) rfl ?_
      refine Only.step (setPort_only ..) rfl ?_
      exact Only.refl _ _
    · refine Only.ite ?_ ?_
      · refine Only.step (emit_only ..) rfl ?_
        refine Only.step (setPort_only ..) rfl ?_
        exact Only.refl _ _
      · exact Only.refl _ _

theorem countPort_only (s : State) (p : Nat) (el : Nat) : Only 0x20 s (countPort s p el) := by
  unfold countPort
  refine Only.ite ?_ ?_
  · refine Only.step (addObj_only ..) rfl ?_
    exact Only.refl _ _
  · exact Only.refl _ _

theorem execFrameReceive_only (p : Nat) (e : Sys2Proof.Envelope) (bs : List Sys2Proof.Byte) (s : State) : OnlyO 0xe06a09000007003a77fdda0 s (execFrameReceive p e bs s) := by
  unfold execFrameReceive
  refine OnlyO.ite ?_ ?_
  · exact OnlyO.fault _ _ _
  · refine OnlyO.ite ?_ ?_
    · refine OnlyO.next ?_
      exact Only.refl _ _
    · dsimp only
      refine OnlyO.ite ?_ ?_
      · refine OnlyO.next ?_
        refine Only.step (countPort_only ..) rfl ?_
        refine Only.step (countPort_only ..) rfl ?_
        exact Only.refl _ _
      · split
        · refine OnlyO.ite ?_ ?_
          · refine OnlyO.next ?_
            refine Only.step (sendFrame_only ..) rfl ?_
            refine Only.step (countPort_only ..) rfl ?_
            exact Only.refl _ _
          · refine OnlyO.next ?_
            refine Only.step (flowControl_only ..) rfl ?_
            refine Only.set_rx rfl ?_ _
            refine Only.step (learnEpoch_only ..) rfl ?_
            refine Only.step (countPort_only ..) rfl ?_
            exact Only.refl _ _
        · refine OnlyO.next ?_
          refine Only.step (flowControl_only ..) rfl ?_
          refine Only.set_rx rfl ?_ _
          refine Only.step (countPort_only ..) rfl ?_
          exact Only.refl _ _

theorem takeFrame_only {m : Nat} {s0 s : State} {typ : Nat} {f : RxFrame → State → State} (hf : ∀ x u, Only m s0 u → Only m s0 (f x u))
    (w : 0x80680000000000000000000 &&& m = 0x80680000000000000000000) (h : Only m s0 s) : OnlyO m s0 (takeFrame s typ f) := by
  have v : ∀ a, a &&& 0x80680000000000000000000 = a → a &&& m = a := fun a e => by rw [← e, Nat.and_assoc, w]
  unfold takeFrame
  split
  · exact OnlyO.next h
  · refine OnlyO.ite (OnlyO.next h) ?_
    dsimp only
    have g : ∀ x a b, Only m s0 (flowControl { s with rx := x } a b) := fun x a b =>
      Only.step (flowControl_only ..) (v _ rfl) (Only.step (Only.set_rx (m := 0x80680000000000000000000) rfl (Only.refl _ _) _) (v _ rfl) h)
    refine OnlyO.ite (OnlyO.next (hf _ _ (g ..))) (OnlyO.ite (OnlyO.next (g ..)) (OnlyO.next (hf _ _ ?_)))
    exact Only.step (updSession_only ..) (v _ rfl) (g ..)

end Sys2Proof.Machine
end

