-- ==== Sys2Proof/Laws/KeepsPorts.lean ====
section
/-! SUPPORT. Each operation of Machine/Ports.lean keeps: the form of the memories and the bounds of the stores. -/
namespace Sys2Proof.Machine

theorem execOsfpInsert_keeps (p : Nat) (cls : Nat) (watts : Nat) (s : State) : KeepsO s (execOsfpInsert p cls watts s) := by
  unfold execOsfpInsert
  refine KeepsO.ite ?_ ?_
  · exact KeepsO.fault _ _
  · refine KeepsO.ite ?_ ?_
    · refine KeepsO.next ?_
      exact Keeps.refl _
    · dsimp only
      refine KeepsO.next ?_
      refine Keeps.ite ?_ ?_
      · refine Keeps.step (raiseRc_keeps ..) ?_
        refine Keeps.of_only (portCond_only _ _) rfl ?_
        refine Keeps.of_only (setPort_only _ _ _) rfl ?_
        refine Keeps.of_only (partMoved_only _ _ _) rfl ?_
        exact Keeps.refl _
      · refine Keeps.of_only (portCond_only _ _) rfl ?_
        refine Keeps.of_only (setPort_only _ _ _) rfl ?_
        refine Keeps.of_only (partMoved_only _ _ _) rfl ?_
        exact Keeps.refl _

theorem execPortElecFault_keeps (p : Nat) (s : State) : KeepsO s (execPortElecFault p s) := by
  unfold execPortElecFault
  refine KeepsO.ite ?_ ?_
  · exact KeepsO.fault _ _
  · dsimp only
    refine KeepsO.ite ?_ ?_
    · refine KeepsO.next ?_
      exact Keeps.refl _
    · refine KeepsO.next ?_
      refine Keeps.step (raiseRc_keeps ..) ?_
      refine Keeps.of_only (protective_only _ _ _ _) rfl ?_
      refine Keeps.step (kennelEvent_keeps ..) ?_
      refine Keeps.of_only (linkChange_only _ _ _) rfl ?_
      refine Keeps.of_only (setPort_only _ _ _) rfl ?_
      exact Keeps.refl _

theorem execFrameReceive_keeps (p : Nat) (e : Sys2Proof.Envelope) (bs : List Sys2Proof.Byte) (s : State) : KeepsO s (execFrameReceive p e bs s) := by
  unfold execFrameReceive
  refine KeepsO.ite ?_ ?_
  · exact KeepsO.fault _ _
  · refine KeepsO.ite ?_ ?_
    · refine KeepsO.next ?_
      exact Keeps.refl _
    · dsimp only
      refine KeepsO.ite ?_ ?_
      · refine KeepsO.next ?_
        refine Keeps.of_only (countPort_only _ _ _) rfl ?_
        refine Keeps.of_only (countPort_only _ _ _) rfl ?_
        exact Keeps.refl _
      · split
        · refine KeepsO.ite ?_ ?_
          · refine KeepsO.next ?_
            refine Keeps.of_only (sendFrame_only _ _ _ _ _ _ _) rfl ?_
            refine Keeps.of_only (countPort_only _ _ _) rfl ?_
            exact Keeps.refl _
          · refine KeepsO.next ?_
            refine Keeps.of_only (flowControl_only _ _ _) rfl ?_
            refine Keeps.of_only (Only.set_rx (m := 2417851639229258349412352) rfl (Only.refl _ _) _) rfl ?_
            refine Keeps.step (learnEpoch_keeps ..) ?_
            refine Keeps.of_only (countPort_only _ _ _) rfl ?_
            exact Keeps.refl _
        · refine KeepsO.next ?_
          refine Keeps.of_only (flowControl_only _ _ _) rfl ?_
          refine Keeps.of_only (Only.set_rx (m := 2417851639229258349412352) rfl (Only.refl _ _) _) rfl ?_
          refine Keeps.of_only (countPort_only _ _ _) rfl ?_
          exact Keeps.refl _

theorem takeFrame_keeps {s0 s : State} {typ : Nat} {f : RxFrame → State → State} (hf : ∀ x u, Keeps s0 u → Keeps s0 (f x u))
    (h : Keeps s0 s) : KeepsO s0 (takeFrame s typ f) := by
  unfold takeFrame
  split
  · exact KeepsO.next h
  · refine KeepsO.ite (KeepsO.next h) ?_
    dsimp only
    have g : ∀ x a b, Keeps s0 (flowControl { s with rx := x } a b) := fun x a b =>
      Keeps.of_only (flowControl_only ..) rfl (Keeps.step (Keeps.of_only (Only.set_rx (m := 2417851639229258349412352) rfl (Only.refl _ _) _) rfl (Keeps.refl _)) h)
    refine KeepsO.ite (KeepsO.next (hf _ _ (g ..))) (KeepsO.ite (KeepsO.next (g ..)) (KeepsO.next (hf _ _ ?_)))
    exact Keeps.of_only (updSession_only ..) rfl (g ..)

end Sys2Proof.Machine
end

