-- ==== Sys2Proof/Laws/OnlySessions.lean ====
section
/-! SUPPORT. What each operation of Machine/Sessions.lean can change, at most. -/
namespace Sys2Proof.Machine

theorem refuseOpen_only (s : State) (f : RxFrame) (reason : Nat) : Only 0x80000000000000000000000 s (refuseOpen s f reason) := by
  unfold refuseOpen
  refine Only.set_out rfl ?_ _
  exact Only.refl _ _

theorem reopen_only (s : State) (x : Session) : Only 0x80080000000000000000000 s (reopen s x) := by
  unfold reopen
  refine Only.ite ?_ ?_
  · refine Only.step (openLinks_only ..) rfl ?_
    exact Only.refl _ _
  · exact Only.refl _ _

theorem endSession_only (s : State) (ses : Nat) : Only 0xe39a09000007003a77fdda0 s (endSession s ses) := by
  unfold endSession
  dsimp only
  refine Only.step (reopen_only ..) rfl ?_
  refine Only.ite ?_ ?_
  · refine Only.step (rankLost_only ..) rfl ?_
    refine Only.step (closeSession_only ..) rfl ?_
    exact Only.refl _ _
  · refine Only.step (closeSession_only ..) rfl ?_
    exact Only.refl _ _

theorem execBrolerOpen_only (peerId : Nat) (s : State) : OnlyO 0x80680000000000000000000 s (execBrolerOpen peerId s) := by
  unfold execBrolerOpen
  refine takeFrame_only (fun _ _ _ => ?_) rfl ?_
  · dsimp only
    split
    · refine Only.step (refuseOpen_only ..) rfl ?_
      assumption
    · refine Only.step (sendFrame_only ..) rfl ?_
      refine Only.step (setSession_only ..) rfl ?_
      assumption
  · exact Only.refl _ _

theorem execBrolerChallenge_only (s : State) : OnlyO 0x80680000000000000000000 s (execBrolerChallenge s) := by
  unfold execBrolerChallenge
  refine takeFrame_only (fun _ _ _ => ?_) rfl ?_
  · dsimp only
    refine Only.ite ?_ ?_
    · assumption
    · refine Only.step (sendFrame_only ..) rfl ?_
      refine Only.step (setSession_only ..) rfl ?_
      assumption
  · exact Only.refl _ _

theorem sendDebugs_only (s : State) (ses : Nat) : Only 0x80080000000000000008000 s (sendDebugs s ses) := by
  unfold sendDebugs
  refine Only.foldl (fun _ _ _ => ?_) ?_
  · dsimp only
    refine Only.ite ?_ ?_
    · assumption
    · refine Only.step (flushDebug_only ..) rfl ?_
      refine Only.set_debugQ rfl ?_ _
      assumption
  · exact Only.refl _ _

theorem linkOpened_only (s : State) (ses : Nat) : Only 0xe0080100000000200035da0 s (linkOpened s ses) := by
  unfold linkOpened
  dsimp only
  refine Only.ite ?_ ?_
  · exact Only.refl _ _
  · refine Only.ite ?_ ?_
    · refine Only.step (masterSettle_only ..) rfl ?_
      exact Only.refl _ _
    · refine Only.ite ?_ ?_
      · refine Only.step (sendJoin_only ..) rfl ?_
        exact Only.refl _ _
      · exact Only.refl _ _

theorem execBrolerProve_only (s : State) : OnlyO 0xe3f8010000000020003dda0 s (execBrolerProve s) := by
  unfold execBrolerProve
  refine takeFrame_only (fun _ _ _ => ?_) rfl ?_
  · dsimp only
    refine Only.ite ?_ ?_
    · refine Only.ite ?_ ?_
      · refine Only.step (linkOpened_only ..) rfl ?_
        refine Only.step (sendFrame_only ..) rfl ?_
        refine Only.step (setSession_only ..) rfl ?_
        assumption
      · refine Only.step (sendDebugs_only ..) rfl ?_
        refine Only.step (sendFrame_only ..) rfl ?_
        refine Only.step (setSession_only ..) rfl ?_
        assumption
    · refine Only.step (closeSession_only ..) rfl ?_
      refine Only.step (sendFrame_only ..) rfl ?_
      assumption
  · exact Only.refl _ _

theorem execBrolerAccept_only (peerId : Nat) (s : State) : OnlyO 0xe3fa09000007003a77fdda0 s (execBrolerAccept peerId s) := by
  unfold execBrolerAccept
  refine takeFrame_only (fun _ _ _ => ?_) rfl ?_
  · dsimp only
    refine Only.ite ?_ ?_
    · refine Only.step (closeSession_only ..) rfl ?_
      refine Only.step (sendFrame_only ..) rfl ?_
      assumption
    · refine Only.step (linkOpened_only ..) rfl ?_
      refine Only.ite ?_ ?_
      · refine Only.step (learnEpoch_only ..) rfl ?_
        refine Only.step (setSession_only ..) rfl ?_
        assumption
      · refine Only.step (setSession_only ..) rfl ?_
        assumption
  · exact Only.refl _ _

theorem execBrolerRefuse_only (s : State) : OnlyO 0xe3fa09000007003a77fdda0 s (execBrolerRefuse s) := by
  unfold execBrolerRefuse
  refine takeFrame_only (fun _ _ _ => ?_) rfl ?_
  · dsimp only
    refine Only.ite ?_ ?_
    · refine Only.step (closeSession_only ..) rfl ?_
      assumption
    · refine Only.ite ?_ ?_
      · refine Only.step (learnEpoch_only ..) rfl ?_
        assumption
      · assumption
  · exact Only.refl _ _

theorem execProveTimeout_only (ses : Nat) (s : State) : OnlyO 0xc398010000000020001c880 s (execProveTimeout ses s) := by
  unfold execProveTimeout
  dsimp only
  refine OnlyO.ite ?_ ?_
  · refine OnlyO.next ?_
    refine Only.step (closeSession_only ..) rfl ?_
    exact Only.refl _ _
  · refine OnlyO.next ?_
    exact Only.refl _ _

theorem startClosing_only (s : State) (ses : Nat) : Only 0x80000000000000000000 s (startClosing s ses) := by
  unfold startClosing
  refine Only.step (updSession_only ..) rfl ?_
  exact Only.refl _ _

theorem sendClose_only (s : State) (ses : Nat) : Only 0x80080000000000000000000 s (sendClose s ses) := by
  unfold sendClose
  split
  · refine Only.step (startClosing_only ..) rfl ?_
    exact Only.refl _ _
  · refine Only.step (startClosing_only ..) rfl ?_
    refine Only.step (sendFrame_only ..) rfl ?_
    exact Only.refl _ _

theorem execBrolerClose_only (s : State) : OnlyO 0x80680000000000000000000 s (execBrolerClose s) := by
  unfold execBrolerClose
  refine takeFrame_only (fun _ _ _ => ?_) rfl ?_
  · refine Only.ite ?_ ?_
    · refine Only.step (startClosing_only ..) rfl ?_
      assumption
    · assumption
  · exact Only.refl _ _

theorem execClosingDone_only (ses : Nat) (s : State) : OnlyO 0xe39a09000007003a77fdda0 s (execClosingDone ses s) := by
  unfold execClosingDone
  dsimp only
  refine OnlyO.ite ?_ ?_
  · refine OnlyO.next ?_
    refine Only.step (endSession_only ..) rfl ?_
    exact Only.refl _ _
  · refine OnlyO.next ?_
    exact Only.refl _ _

theorem execBrolerKeepalive_only (s : State) : OnlyO 0x80680000000000000000000 s (execBrolerKeepalive s) := by
  unfold execBrolerKeepalive
  refine takeFrame_only (fun _ _ _ => ?_) rfl ?_
  · assumption
  · exact Only.refl _ _

theorem execKeepaliveSend_only (ses : Nat) (s : State) : OnlyO 0x80080000000000000000000 s (execKeepaliveSend ses s) := by
  unfold execKeepaliveSend
  dsimp only
  split
  · refine OnlyO.next ?_
    exact Only.refl _ _
  · refine OnlyO.ite ?_ ?_
    · refine OnlyO.next ?_
      refine Only.step (sendFrame_only ..) rfl ?_
      refine Only.step (setSession_only ..) rfl ?_
      exact Only.refl _ _
    · refine OnlyO.next ?_
      exact Only.refl _ _

theorem execSessionLoss_only (ses : Nat) (s : State) : OnlyO 0xe39a09000007003a77fdda0 s (execSessionLoss ses s) := by
  unfold execSessionLoss
  split
  · refine OnlyO.next ?_
    exact Only.refl _ _
  · refine OnlyO.ite ?_ ?_
    · refine OnlyO.next ?_
      refine Only.step (endSession_only ..) rfl ?_
      exact Only.refl _ _
    · refine OnlyO.next ?_
      exact Only.refl _ _

theorem sendAck_only (s : State) (ses : Nat) (c : Nat) : Only 0x80080000000000000000000 s (sendAck s ses c) := by
  unfold sendAck
  split
  · exact Only.refl _ _
  · dsimp only
    refine Only.set_out rfl ?_ _
    refine Only.step (updSession_only ..) rfl ?_
    refine Only.step (setChan_only ..) rfl ?_
    exact Only.refl _ _

theorem execAckDelay_only (ses : Nat) (c : Nat) (s : State) : OnlyO 0x80080000000000000000000 s (execAckDelay ses c s) := by
  unfold execAckDelay
  dsimp only
  refine OnlyO.ite ?_ ?_
  · refine OnlyO.next ?_
    refine Only.step (sendAck_only ..) rfl ?_
    exact Only.refl _ _
  · refine OnlyO.next ?_
    exact Only.refl _ _

theorem execBrolerAckf_only (s : State) : OnlyO 0x8068000000000000000c000 s (execBrolerAckf s) := by
  unfold execBrolerAckf
  refine takeFrame_only (fun _ _ _ => ?_) rfl ?_
  · dsimp only
    refine Only.ite ?_ ?_
    · refine Only.step (resendMissing_only ..) rfl ?_
      refine Only.step (ackRx_only ..) rfl ?_
      assumption
    · refine Only.step (ackRx_only ..) rfl ?_
      assumption
  · exact Only.refl _ _

theorem execRetransmitTimeout_only (ses : Nat) (c : Nat) (s : State) : OnlyO 0xe39a09000007003a77fdda0 s (execRetransmitTimeout ses c s) := by
  unfold execRetransmitTimeout
  dsimp only
  split
  · refine OnlyO.next ?_
    exact Only.refl _ _
  · refine OnlyO.ite ?_ ?_
    · refine OnlyO.next ?_
      exact Only.refl _ _
    · refine OnlyO.ite ?_ ?_
      · refine OnlyO.next ?_
        refine Only.step (endSession_only ..) rfl ?_
        exact Only.refl _ _
      · refine OnlyO.ite ?_ ?_
        · refine OnlyO.next ?_
          refine Only.step (sendSegs_only ..) rfl ?_
          refine Only.step (updSession_only ..) rfl ?_
          refine Only.step (setChan_only ..) rfl ?_
          exact Only.refl _ _
        · refine OnlyO.next ?_
          refine Only.step (setChan_only ..) rfl ?_
          exact Only.refl _ _

end Sys2Proof.Machine
end

