-- ==== Sys2Proof/Laws/KeepsSessions.lean ====
section
/-! SUPPORT. Each operation of Machine/Sessions.lean keeps: the form of the memories and the bounds of the stores. -/
namespace Sys2Proof.Machine

theorem endSession_keeps (s : State) (ses : Nat) : Keeps s (endSession s ses) := by
  unfold endSession
  dsimp only
  refine Keeps.of_only (reopen_only _ _) rfl ?_
  refine Keeps.ite ?_ ?_
  · refine Keeps.step (rankLost_keeps ..) ?_
    refine Keeps.step (closeSession_keeps ..) ?_
    exact Keeps.refl _
  · refine Keeps.step (closeSession_keeps ..) ?_
    exact Keeps.refl _

theorem linkOpened_keeps (s : State) (ses : Nat) : Keeps s (linkOpened s ses) := by
  unfold linkOpened
  dsimp only
  refine Keeps.ite ?_ ?_
  · exact Keeps.refl _
  · refine Keeps.ite ?_ ?_
    · refine Keeps.step (masterSettle_keeps ..) ?_
      exact Keeps.refl _
    · refine Keeps.ite ?_ ?_
      · refine Keeps.of_only (sendJoin_only _ _) rfl ?_
        exact Keeps.refl _
      · exact Keeps.refl _

theorem execBrolerProve_keeps (s : State) : KeepsO s (execBrolerProve s) := by
  unfold execBrolerProve
  refine takeFrame_keeps (fun _ _ _ => ?_) ?_
  · dsimp only
    refine Keeps.ite ?_ ?_
    · refine Keeps.ite ?_ ?_
      · refine Keeps.step (linkOpened_keeps ..) ?_
        refine Keeps.of_only (sendFrame_only _ _ _ _ _ _ _) rfl ?_
        refine Keeps.of_only (setSession_only _ _ _) rfl ?_
        assumption
      · refine Keeps.of_only (sendDebugs_only _ _) rfl ?_
        refine Keeps.of_only (sendFrame_only _ _ _ _ _ _ _) rfl ?_
        refine Keeps.of_only (setSession_only _ _ _) rfl ?_
        assumption
    · refine Keeps.step (closeSession_keeps ..) ?_
      refine Keeps.of_only (sendFrame_only _ _ _ _ _ _ _) rfl ?_
      assumption
  · exact Keeps.refl _

theorem execBrolerAccept_keeps (peerId : Nat) (s : State) : KeepsO s (execBrolerAccept peerId s) := by
  unfold execBrolerAccept
  refine takeFrame_keeps (fun _ _ _ => ?_) ?_
  · dsimp only
    refine Keeps.ite ?_ ?_
    · refine Keeps.step (closeSession_keeps ..) ?_
      refine Keeps.of_only (sendFrame_only _ _ _ _ _ _ _) rfl ?_
      assumption
    · refine Keeps.step (linkOpened_keeps ..) ?_
      refine Keeps.ite ?_ ?_
      · refine Keeps.step (learnEpoch_keeps ..) ?_
        refine Keeps.of_only (setSession_only _ _ _) rfl ?_
        assumption
      · refine Keeps.of_only (setSession_only _ _ _) rfl ?_
        assumption
  · exact Keeps.refl _

theorem execBrolerRefuse_keeps (s : State) : KeepsO s (execBrolerRefuse s) := by
  unfold execBrolerRefuse
  refine takeFrame_keeps (fun _ _ _ => ?_) ?_
  · dsimp only
    refine Keeps.ite ?_ ?_
    · refine Keeps.step (closeSession_keeps ..) ?_
      assumption
    · refine Keeps.ite ?_ ?_
      · refine Keeps.step (learnEpoch_keeps ..) ?_
        assumption
      · assumption
  · exact Keeps.refl _

theorem execProveTimeout_keeps (ses : Nat) (s : State) : KeepsO s (execProveTimeout ses s) := by
  unfold execProveTimeout
  dsimp only
  refine KeepsO.ite ?_ ?_
  · refine KeepsO.next ?_
    refine Keeps.step (closeSession_keeps ..) ?_
    exact Keeps.refl _
  · refine KeepsO.next ?_
    exact Keeps.refl _

theorem execClosingDone_keeps (ses : Nat) (s : State) : KeepsO s (execClosingDone ses s) := by
  unfold execClosingDone
  dsimp only
  refine KeepsO.ite ?_ ?_
  · refine KeepsO.next ?_
    refine Keeps.step (endSession_keeps ..) ?_
    exact Keeps.refl _
  · refine KeepsO.next ?_
    exact Keeps.refl _

theorem execSessionLoss_keeps (ses : Nat) (s : State) : KeepsO s (execSessionLoss ses s) := by
  unfold execSessionLoss
  split
  · refine KeepsO.next ?_
    exact Keeps.refl _
  · refine KeepsO.ite ?_ ?_
    · refine KeepsO.next ?_
      refine Keeps.step (endSession_keeps ..) ?_
      exact Keeps.refl _
    · refine KeepsO.next ?_
      exact Keeps.refl _

theorem execRetransmitTimeout_keeps (ses : Nat) (c : Nat) (s : State) : KeepsO s (execRetransmitTimeout ses c s) := by
  unfold execRetransmitTimeout
  dsimp only
  split
  · refine KeepsO.next ?_
    exact Keeps.refl _
  · refine KeepsO.ite ?_ ?_
    · refine KeepsO.next ?_
      exact Keeps.refl _
    · refine KeepsO.ite ?_ ?_
      · refine KeepsO.next ?_
        refine Keeps.step (endSession_keeps ..) ?_
        exact Keeps.refl _
      · refine KeepsO.ite ?_ ?_
        · refine KeepsO.next ?_
          refine Keeps.of_only (sendSegs_only _ _ _ _) rfl ?_
          refine Keeps.of_only (updSession_only _ _ _) rfl ?_
          refine Keeps.of_only (setChan_only _ _ _ _) rfl ?_
          exact Keeps.refl _
        · refine KeepsO.next ?_
          refine Keeps.of_only (setChan_only _ _ _ _) rfl ?_
          exact Keeps.refl _

end Sys2Proof.Machine
end

