-- ==== Sys2Proof/Laws/OnlyPowerDown.lean ====
section
/-! SUPPORT. What each operation of Machine/PowerDown.lean can change, at most. -/
namespace Sys2Proof.Machine

theorem unloadBanks_only (s : State) : Only 0x900000000400600480 s (unloadBanks s) := by
  unfold unloadBanks
  split
  · exact Only.refl _ _
  · refine Only.ite ?_ ?_
    · exact Only.refl _ _
    · dsimp only
      refine Only.foldl (fun _ _ _ => ?_) ?_
      · refine Only.ite ?_ ?_
        · assumption
        · refine Only.step (unbind_only ..) rfl ?_
          assumption
      · exact Only.refl _ _

theorem partDown_only (busy : List Nat) (s : State) (p : Nat) : Only 0x500 s (partDown busy s p) := by
  unfold partDown
  dsimp only
  refine Only.ite ?_ ?_
  · refine Only.step (setPState_only ..) rfl ?_
    refine Only.step (setPart_only ..) rfl ?_
    exact Only.refl _ _
  · refine Only.step (setPState_only ..) rfl ?_
    refine Only.step (setPart_only ..) rfl ?_
    exact Only.refl _ _

theorem windowsOff_only (s : State) : Only 0x800000000000000000000 s (windowsOff s) := by
  unfold windowsOff
  refine Only.set_windows rfl ?_ _
  exact Only.refl _ _

theorem allOff_only (s : State) : Only 0x3000000000 s (allOff s) := by
  unfold allOff
  refine Only.foldl (fun _ _ _ => ?_) ?_
  · refine Only.step (vlogOff_only ..) rfl ?_
    assumption
  · exact Only.refl _ _

theorem portsOff_only (s : State) : Only 0x400000000000000000100 s (portsOff s) := by
  unfold portsOff
  refine Only.foldl (fun _ _ _ => ?_) ?_
  · refine Only.ite ?_ ?_
    · refine Only.step (portCond_only ..) rfl ?_
      refine Only.step (setPort_only ..) rfl ?_
      assumption
    · assumption
  · exact Only.refl _ _

theorem bricksOff_only (s : State) : Only 0x8000000000100 s (bricksOff s) := by
  unfold bricksOff
  refine Only.foldl (fun _ _ _ => ?_) ?_
  · refine Only.ite ?_ ?_
    · refine Only.step (brickTo_only ..) rfl ?_
      assumption
    · assumption
  · exact Only.refl _ _

theorem spotsOff_only (s : State) : Only 0x81000000000000 s (spotsOff s) := by
  unfold spotsOff
  refine Only.set_heatOff_spots rfl rfl ?_ _ _
  exact Only.refl _ _

theorem wipe_only (s : State) : Only 0x3b220108b2072c3fb1fd800 s (wipe s) := by
  unfold wipe
  refine Only.set_queues_cancelWait_replyQ_debugQ_sync_seqs_kvSets_ringTags_fills_sp_spErr_acc_accTag_accPend_accErr_hbm_hbmErr_tiles_checkCount_capLatch_captures_flights_rflights_rslots_lostAt_stackSt_coolant_gov_retries_life_staged_rx_inWrites_outWrites_exports_announced_groups rfl rfl rfl rfl rfl rfl rfl rfl rfl rfl rfl rfl rfl rfl rfl rfl rfl rfl rfl rfl rfl rfl rfl rfl rfl rfl rfl rfl rfl rfl rfl rfl rfl rfl rfl rfl rfl ?_ _ _ _ _ _ _ _ _ _ _ _ _ _ _ _ _ _ _ _ _ _ _ _ _ _ _ _ _ _ _ _ _ _ _ _ _ _
  exact Only.refl _ _

theorem modeBoot_only (s : State) : Only 0x300 s (modeBoot s) := by
  unfold modeBoot
  refine Only.ite ?_ ?_
  · exact Only.refl _ _
  · refine Only.step (setCond_only ..) rfl ?_
    refine Only.set_modeRec rfl ?_ _
    exact Only.refl _ _

theorem modeLost_only (s : State) : Only 0x200 s (modeLost s) := by
  unfold modeLost
  refine Only.ite ?_ ?_
  · refine Only.set_modeRec rfl ?_ _
    exact Only.refl _ _
  · exact Only.refl _ _

theorem banksOff_only (s : State) : Only 0x409100000004006004a0 s (banksOff s) := by
  unfold banksOff
  dsimp only
  refine Only.set_vpgmWait_jobs rfl rfl ?_ _ _
  refine Only.step (unloadBanks_only ..) rfl ?_
  refine Only.set_banks rfl ?_ _
  refine Only.step (loseTests_only ..) rfl ?_
  exact Only.refl _ _

theorem waferOff_only (s : State) : Only 0x3be60918ba972f7fb7fdfa0 s (waferOff s) := by
  unfold waferOff
  refine Only.step (wipe_only ..) rfl ?_
  refine Only.step (modeLost_only ..) rfl ?_
  refine Only.step (spotsOff_only ..) rfl ?_
  refine Only.step (bricksOff_only ..) rfl ?_
  refine Only.step (portsOff_only ..) rfl ?_
  refine Only.step (allOff_only ..) rfl ?_
  refine Only.step (windowsOff_only ..) rfl ?_
  refine Only.foldl (fun _ _ _ => ?_) ?_
  · refine Only.step (partDown_only ..) rfl ?_
    assumption
  · refine Only.step (banksOff_only ..) rfl ?_
    exact Only.refl _ _

theorem eventsBoot_only (s : State) : Only 0x100000000000000100 s (eventsBoot s) := by
  unfold eventsBoot
  dsimp only
  refine Only.set_events_life rfl rfl ?_ _ _
  exact Only.refl _ _

theorem electCards_only (s : State) : Only 0x200000000000000000 s (electCards s) := by
  unfold electCards
  dsimp only
  split
  · refine Only.foldl (fun _ _ _ => ?_) ?_
    · refine Only.ite ?_ ?_
      · refine Only.step (setCard_only ..) rfl ?_
        assumption
      · assumption
    · exact Only.refl _ _
  · refine Only.step (setCard_only ..) rfl ?_
    refine Only.foldl (fun _ _ _ => ?_) ?_
    · refine Only.ite ?_ ?_
      · refine Only.step (setCard_only ..) rfl ?_
        assumption
      · assumption
    · exact Only.refl _ _

theorem restoreSettings_only (s : State) : Only 0x400000000000000020 s (restoreSettings s) := by
  unfold restoreSettings
  dsimp only
  refine Only.set_fw rfl ?_ _
  split
  · exact Only.refl _ _
  · refine Only.set_dict rfl ?_ _
    exact Only.refl _ _

theorem fwRelease_only (s : State) : Only 0x400008000000000100 s (fwRelease s) := by
  unfold fwRelease
  split
  · exact Only.refl _ _
  · refine Only.step (brickUnprepare_only ..) rfl ?_
    refine Only.set_fw rfl ?_ _
    exact Only.refl _ _

theorem fwBoot_only (s : State) : Only 0x400008000000000120 s (fwBoot s) := by
  unfold fwBoot
  dsimp only
  split
  · refine Only.set_fw rfl ?_ _
    refine Only.step (fwRelease_only ..) rfl ?_
    exact Only.refl _ _
  · refine Only.set_fw rfl ?_ _
    refine Only.step (fwRelease_only ..) rfl ?_
    exact Only.refl _ _
  · refine Only.set_fw rfl ?_ _
    refine Only.step (fwRelease_only ..) rfl ?_
    exact Only.refl _ _
  · refine Only.ite ?_ ?_
    · refine Only.set_fw rfl ?_ _
      refine Only.step (fwRelease_only ..) rfl ?_
      exact Only.refl _ _
    · refine Only.step (restoreSettings_only ..) rfl ?_
      refine Only.set_fw rfl ?_ _
      refine Only.step (fwRelease_only ..) rfl ?_
      exact Only.refl _ _
  · refine Only.set_fw rfl ?_ _
    refine Only.step (fwRelease_only ..) rfl ?_
    exact Only.refl _ _

theorem lossCause_only (s : State) : Only 0x100000000000000080 s (lossCause s) := by
  unfold lossCause
  refine Only.ite ?_ ?_
  · dsimp only
    refine Only.step (raiseRc_only ..) rfl ?_
    refine Only.set_life rfl ?_ _
    exact Only.refl _ _
  · exact Only.refl _ _

theorem cardBoot_only (s : State) (goal : Power) : Only 0x44390f008080c00002003f4 s (cardBoot s goal) := by
  unfold cardBoot
  dsimp only
  refine Only.step (lossCause_only ..) rfl ?_
  refine Only.foldl (fun _ _ _ => ?_) ?_
  · refine Only.step (raise_only ..) rfl ?_
    assumption
  · refine Only.step (closeEntries_only ..) rfl ?_
    refine Only.step (electCards_only ..) rfl ?_
    refine Only.step (fwBoot_only ..) rfl ?_
    refine Only.step (eventsBoot_only ..) rfl ?_
    refine Only.step (modeBoot_only ..) rfl ?_
    refine Only.set_onTick_power_dict_pend_attn_capNo_verdicts_gov_life_uploads_sessions_closed_rx_nextTag_replyNo rfl rfl rfl rfl rfl rfl rfl rfl rfl rfl rfl rfl rfl rfl rfl ?_ _ _ _ _ _ _ _ _ _ _ _ _ _ _ _
    exact Only.refl _ _

theorem blocked_only (s : State) (retention : Bool) : Only 0x100000000000000090 s (blocked s retention) := by
  unfold blocked
  refine Only.step (raiseRc_only ..) rfl ?_
  refine Only.set_power_life rfl rfl ?_ _ _
  exact Only.refl _ _

theorem wake_only (s : State) (toReady : Bool) (retention : Bool) : Only 0x44390f008080c00002003fc s (wake s toReady retention) := by
  unfold wake
  refine Only.ite ?_ ?_
  · split
    · refine Only.step (enterStarting_only ..) rfl ?_
      refine Only.step (cardBoot_only ..) rfl ?_
      exact Only.refl _ _
    · refine Only.step (blocked_only ..) rfl ?_
      refine Only.step (cardBoot_only ..) rfl ?_
      exact Only.refl _ _
  · refine Only.step (cardBoot_only ..) rfl ?_
    exact Only.refl _ _

theorem gateWatch_only (s : State) : Only 0x3be60918ba972f7fb7fdfb0 s (gateWatch s) := by
  unfold gateWatch
  refine Only.ite ?_ ?_
  · dsimp only
    refine Only.step (blocked_only ..) rfl ?_
    refine Only.step (waferOff_only ..) rfl ?_
    exact Only.refl _ _
  · exact Only.refl _ _

theorem execWakeEvent_only (n : Nat) (s : State) : OnlyO 0x44390f008080c00002003fc s (execWakeEvent n s) := by
  unfold execWakeEvent
  refine OnlyO.ite ?_ ?_
  · exact OnlyO.fault _ _ _
  · refine OnlyO.ite ?_ ?_
    · refine OnlyO.next ?_
      refine Only.step (wake_only ..) rfl ?_
      exact Only.refl _ _
    · refine OnlyO.next ?_
      exact Only.refl _ _

theorem execScheduledWake_only (s : State) : OnlyO 0x44390f008080c00002003fc s (execScheduledWake s) := by
  unfold execScheduledWake
  dsimp only
  refine OnlyO.ite ?_ ?_
  · refine OnlyO.next ?_
    refine Only.step (wake_only ..) rfl ?_
    refine Only.step (setObj_only ..) rfl ?_
    exact Only.refl _ _
  · refine OnlyO.next ?_
    exact Only.refl _ _

theorem execMgmtOpenWake_only (m : Nat) (s : State) : OnlyO 0x44390f008080c00002003fc s (execMgmtOpenWake m s) := by
  unfold execMgmtOpenWake
  refine OnlyO.ite ?_ ?_
  · exact OnlyO.fault _ _ _
  · refine OnlyO.ite ?_ ?_
    · refine OnlyO.next ?_
      refine Only.step (wake_only ..) rfl ?_
      exact Only.refl _ _
    · refine OnlyO.next ?_
      exact Only.refl _ _

theorem execRetentionWake_only (s : State) : OnlyO 0x44390f008080c00002003fc s (execRetentionWake s) := by
  unfold execRetentionWake
  refine OnlyO.ite ?_ ?_
  · dsimp only
    refine OnlyO.next ?_
    refine Only.step (raise_only ..) rfl ?_
    refine Only.set_life rfl ?_ _
    refine Only.step (wake_only ..) rfl ?_
    exact Only.refl _ _
  · refine OnlyO.next ?_
    exact Only.refl _ _

theorem execWakeGateOpen_only (s : State) : OnlyO 0x44390f008080c00002003fc s (execWakeGateOpen s) := by
  unfold execWakeGateOpen
  split
  · refine OnlyO.next ?_
    exact Only.refl _ _
  · refine OnlyO.ite ?_ ?_
    · refine OnlyO.next ?_
      exact Only.refl _ _
    · refine OnlyO.ite ?_ ?_
      · refine OnlyO.next ?_
        refine Only.step (enterStarting_only ..) rfl ?_
        refine Only.set_life rfl ?_ _
        exact Only.refl _ _
      · refine OnlyO.ite ?_ ?_
        · refine OnlyO.next ?_
          refine Only.step (enterStarting_only ..) rfl ?_
          refine Only.step (cardBoot_only ..) rfl ?_
          refine Only.set_life rfl ?_ _
          exact Only.refl _ _
        · refine OnlyO.next ?_
          exact Only.refl _ _

theorem execWakeGateTimeout_only (s : State) : OnlyO 0x100000000000000080 s (execWakeGateTimeout s) := by
  unfold execWakeGateTimeout
  split
  · refine OnlyO.next ?_
    exact Only.refl _ _
  · refine OnlyO.ite ?_ ?_
    · refine OnlyO.next ?_
      exact Only.refl _ _
    · dsimp only
      refine OnlyO.next ?_
      refine Only.ite ?_ ?_
      · refine Only.step (raise_only ..) rfl ?_
        refine Only.set_life rfl ?_ _
        exact Only.refl _ _
      · refine Only.set_life rfl ?_ _
        exact Only.refl _ _

theorem execAttendedIdleTimeout_only (s : State) : OnlyO 0xc398010000000020001c890 s (execAttendedIdleTimeout s) := by
  unfold execAttendedIdleTimeout
  refine OnlyO.ite ?_ ?_
  · refine OnlyO.next ?_
    refine Only.step (enterStandby_only ..) rfl ?_
    exact Only.refl _ _
  · refine OnlyO.next ?_
    exact Only.refl _ _

theorem restartWake_only (s : State) : Only 0x44390f008080c00002003fc s (restartWake s) := by
  unfold restartWake
  refine Only.ite ?_ ?_
  · split
    · refine Only.step (wake_only ..) rfl ?_
      exact Only.refl _ _
    · refine Only.set_life rfl ?_ _
      exact Only.refl _ _
  · exact Only.refl _ _

theorem execFeedUsable_only (f : Nat) (s : State) : OnlyO 0x44390f0080c0c00002003fc s (execFeedUsable f s) := by
  unfold execFeedUsable
  refine OnlyO.ite ?_ ?_
  · exact OnlyO.fault _ _ _
  · split
    · refine OnlyO.next ?_
      exact Only.refl _ _
    · refine OnlyO.ite ?_ ?_
      · refine OnlyO.next ?_
        exact Only.refl _ _
      · refine OnlyO.next ?_
        refine Only.step (restartWake_only ..) rfl ?_
        refine Only.step (moveFeeds_only ..) rfl ?_
        refine Only.step (setFeed_only ..) rfl ?_
        exact Only.refl _ _

theorem execStandbySupplyAppear_only (s : State) : OnlyO 0x44390f008080c00002003fc s (execStandbySupplyAppear s) := by
  unfold execStandbySupplyAppear
  refine OnlyO.ite ?_ ?_
  · refine OnlyO.next ?_
    refine Only.step (restartWake_only ..) rfl ?_
    refine Only.set_power rfl ?_ _
    exact Only.refl _ _
  · refine OnlyO.next ?_
    exact Only.refl _ _

end Sys2Proof.Machine
end

