-- ==== Sys2Proof/Laws/KeepsPowerDown.lean ====
section
/-! SUPPORT. Each operation of Machine/PowerDown.lean keeps: the form of the memories and the bounds of the stores. -/
namespace Sys2Proof.Machine

theorem unloadBanks_keeps (s : State) : Keeps s (unloadBanks s) := by
  unfold unloadBanks
  split
  · exact Keeps.refl _
  · refine Keeps.ite ?_ ?_
    · exact Keeps.refl _
    · dsimp only
      refine Keeps.foldl (fun _ _ _ => ?_) ?_
      · refine Keeps.ite ?_ ?_
        · assumption
        · refine Keeps.step (unbind_keeps ..) ?_
          assumption
      · exact Keeps.refl _

theorem wipe_keeps (s : State) : Keeps s (wipe s) := .mk fun k =>
  { k with sp := rfl, hbm := rfl, acc := rfl, sync := rfl, captures := Nat.zero_le _ }

theorem banksOff_keeps (s : State) : Keeps s (banksOff s) := by
  unfold banksOff
  dsimp only
  refine Keeps.of_only (Only.set_vpgmWait_jobs (m := 302231454903674473545728) rfl rfl (Only.refl _ _) _ _) rfl ?_
  refine Keeps.step (unloadBanks_keeps ..) ?_
  refine Keeps.of_only (Only.set_banks (m := 2097152) rfl (Only.refl _ _) _) rfl ?_
  refine Keeps.step (loseTests_keeps ..) ?_
  exact Keeps.refl _

theorem waferOff_keeps (s : State) : Keeps s (waferOff s) := by
  unfold waferOff
  refine Keeps.step (wipe_keeps ..) ?_
  refine Keeps.of_only (modeLost_only _) rfl ?_
  refine Keeps.of_only (spotsOff_only _) rfl ?_
  refine Keeps.of_only (bricksOff_only _) rfl ?_
  refine Keeps.of_only (portsOff_only _) rfl ?_
  refine Keeps.of_only (allOff_only _) rfl ?_
  refine Keeps.of_only (windowsOff_only _) rfl ?_
  refine Keeps.foldl (fun _ _ _ => ?_) ?_
  · refine Keeps.of_only (partDown_only _ _ _) rfl ?_
    assumption
  · refine Keeps.step (banksOff_keeps ..) ?_
    exact Keeps.refl _

theorem lossCause_keeps (s : State) : Keeps s (lossCause s) := by
  unfold lossCause
  refine Keeps.ite ?_ ?_
  · dsimp only
    refine Keeps.step (raiseRc_keeps ..) ?_
    refine Keeps.of_only (Only.set_life (m := 295147905179352825856) rfl (Only.refl _ _) _) rfl ?_
    exact Keeps.refl _
  · exact Keeps.refl _

theorem cardBoot_keeps (s : State) (dest : Power) : Keeps s (cardBoot s dest) := by
  unfold cardBoot
  dsimp only
  refine Keeps.step (lossCause_keeps ..) ?_
  refine Keeps.foldl (fun t x h => Keeps.step (raise_keeps ..) h) ?_
  refine Keeps.step (closeEntries_keeps ..) ?_
  refine Keeps.of_only (electCards_only ..) rfl ?_
  refine Keeps.of_only (fwBoot_only ..) rfl ?_
  refine Keeps.of_only (eventsBoot_only ..) rfl ?_
  refine Keeps.of_only (modeBoot_only ..) rfl ?_
  exact .mk fun k => { k with log := Nat.zero_le _, uploads := Nat.zero_le _, verdicts := Nat.zero_le _ }

theorem blocked_keeps (s : State) (retention : Bool) : Keeps s (blocked s retention) := by
  unfold blocked
  refine Keeps.step (raiseRc_keeps ..) ?_
  refine Keeps.of_only (Only.set_power_life (m := 295147905179352825872) rfl rfl (Only.refl _ _) _ _) rfl ?_
  exact Keeps.refl _

theorem wake_keeps (s : State) (toReady : Bool) (retention : Bool) : Keeps s (wake s toReady retention) := by
  unfold wake
  refine Keeps.ite ?_ ?_
  · split
    · refine Keeps.step (enterStarting_keeps ..) ?_
      refine Keeps.step (cardBoot_keeps ..) ?_
      exact Keeps.refl _
    · refine Keeps.step (blocked_keeps ..) ?_
      refine Keeps.step (cardBoot_keeps ..) ?_
      exact Keeps.refl _
  · refine Keeps.step (cardBoot_keeps ..) ?_
    exact Keeps.refl _

theorem gateWatch_keeps (s : State) : Keeps s (gateWatch s) := by
  unfold gateWatch
  refine Keeps.ite ?_ ?_
  · dsimp only
    refine Keeps.step (blocked_keeps ..) ?_
    refine Keeps.step (waferOff_keeps ..) ?_
    exact Keeps.refl _
  · exact Keeps.refl _

theorem execWakeEvent_keeps (n : Nat) (s : State) : KeepsO s (execWakeEvent n s) := by
  unfold execWakeEvent
  refine KeepsO.ite ?_ ?_
  · exact KeepsO.fault _ _
  · refine KeepsO.ite ?_ ?_
    · refine KeepsO.next ?_
      refine Keeps.step (wake_keeps ..) ?_
      exact Keeps.refl _
    · refine KeepsO.next ?_
      exact Keeps.refl _

theorem execScheduledWake_keeps (s : State) : KeepsO s (execScheduledWake s) := by
  unfold execScheduledWake
  dsimp only
  refine KeepsO.ite ?_ ?_
  · refine KeepsO.next ?_
    refine Keeps.step (wake_keeps ..) ?_
    refine Keeps.of_only (setObj_only _ _ _ _ _) rfl ?_
    exact Keeps.refl _
  · refine KeepsO.next ?_
    exact Keeps.refl _

theorem execMgmtOpenWake_keeps (m : Nat) (s : State) : KeepsO s (execMgmtOpenWake m s) := by
  unfold execMgmtOpenWake
  refine KeepsO.ite ?_ ?_
  · exact KeepsO.fault _ _
  · refine KeepsO.ite ?_ ?_
    · refine KeepsO.next ?_
      refine Keeps.step (wake_keeps ..) ?_
      exact Keeps.refl _
    · refine KeepsO.next ?_
      exact Keeps.refl _

theorem execRetentionWake_keeps (s : State) : KeepsO s (execRetentionWake s) := by
  unfold execRetentionWake
  refine KeepsO.ite ?_ ?_
  · dsimp only
    refine KeepsO.next ?_
    refine Keeps.step (raise_keeps ..) ?_
    refine Keeps.of_only (Only.set_life (m := 295147905179352825856) rfl (Only.refl _ _) _) rfl ?_
    refine Keeps.step (wake_keeps ..) ?_
    exact Keeps.refl _
  · refine KeepsO.next ?_
    exact Keeps.refl _

theorem execWakeGateOpen_keeps (s : State) : KeepsO s (execWakeGateOpen s) := by
  unfold execWakeGateOpen
  split
  · refine KeepsO.next ?_
    exact Keeps.refl _
  · refine KeepsO.ite ?_ ?_
    · refine KeepsO.next ?_
      exact Keeps.refl _
    · refine KeepsO.ite ?_ ?_
      · refine KeepsO.next ?_
        refine Keeps.step (enterStarting_keeps ..) ?_
        refine Keeps.of_only (Only.set_life (m := 295147905179352825856) rfl (Only.refl _ _) _) rfl ?_
        exact Keeps.refl _
      · refine KeepsO.ite ?_ ?_
        · refine KeepsO.next ?_
          refine Keeps.step (enterStarting_keeps ..) ?_
          refine Keeps.step (cardBoot_keeps ..) ?_
          refine Keeps.of_only (Only.set_life (m := 295147905179352825856) rfl (Only.refl _ _) _) rfl ?_
          exact Keeps.refl _
        · refine KeepsO.next ?_
          exact Keeps.refl _

theorem execWakeGateTimeout_keeps (s : State) : KeepsO s (execWakeGateTimeout s) := by
  unfold execWakeGateTimeout
  split
  · refine KeepsO.next ?_
    exact Keeps.refl _
  · refine KeepsO.ite ?_ ?_
    · refine KeepsO.next ?_
      exact Keeps.refl _
    · dsimp only
      refine KeepsO.next ?_
      refine Keeps.ite ?_ ?_
      · refine Keeps.step (raise_keeps ..) ?_
        refine Keeps.of_only (Only.set_life (m := 295147905179352825856) rfl (Only.refl _ _) _) rfl ?_
        exact Keeps.refl _
      · refine Keeps.of_only (Only.set_life (m := 295147905179352825856) rfl (Only.refl _ _) _) rfl ?_
        exact Keeps.refl _

theorem execAttendedIdleTimeout_keeps (s : State) : KeepsO s (execAttendedIdleTimeout s) := by
  unfold execAttendedIdleTimeout
  refine KeepsO.ite ?_ ?_
  · refine KeepsO.next ?_
    refine Keeps.step (enterStandby_keeps ..) ?_
    exact Keeps.refl _
  · refine KeepsO.next ?_
    exact Keeps.refl _

theorem restartWake_keeps (s : State) : Keeps s (restartWake s) := by
  unfold restartWake
  refine Keeps.ite ?_ ?_
  · split
    · refine Keeps.step (wake_keeps ..) ?_
      exact Keeps.refl _
    · refine Keeps.of_only (Only.set_life (m := 295147905179352825856) rfl (Only.refl _ _) _) rfl ?_
      exact Keeps.refl _
  · exact Keeps.refl _

theorem execFeedUsable_keeps (f : Nat) (s : State) : KeepsO s (execFeedUsable f s) := by
  unfold execFeedUsable
  refine KeepsO.ite ?_ ?_
  · exact KeepsO.fault _ _
  · split
    · refine KeepsO.next ?_
      exact Keeps.refl _
    · refine KeepsO.ite ?_ ?_
      · refine KeepsO.next ?_
        exact Keeps.refl _
      · refine KeepsO.next ?_
        refine Keeps.step (restartWake_keeps ..) ?_
        refine Keeps.of_only (moveFeeds_only _) rfl ?_
        refine Keeps.of_only (setFeed_only _ _ _) rfl ?_
        exact Keeps.refl _

theorem execStandbySupplyAppear_keeps (s : State) : KeepsO s (execStandbySupplyAppear s) := by
  unfold execStandbySupplyAppear
  refine KeepsO.ite ?_ ?_
  · refine KeepsO.next ?_
    refine Keeps.step (restartWake_keeps ..) ?_
    refine Keeps.of_only (Only.set_power (m := 16) rfl (Only.refl _ _) _) rfl ?_
    exact Keeps.refl _
  · refine KeepsO.next ?_
    exact Keeps.refl _

end Sys2Proof.Machine
end

