-- ==== Sys2Proof/Laws/OnlyPowerOn.lean ====
section
/-! SUPPORT. What each operation of Machine/PowerOn.lean can change, at most. -/
namespace Sys2Proof.Machine

theorem moveHub_only (s : State) (p : Nat) : Only 0x100000000000000480 s (moveHub s p) := by
  unfold moveHub
  split
  · refine Only.step (updPart_only ..) rfl ?_
    exact Only.refl _ _
  · refine Only.step (raiseRc_only ..) rfl ?_
    refine Only.step (updPart_only ..) rfl ?_
    exact Only.refl _ _

theorem hubLost_only (l : Nat) (s : State) (p : Nat) : Only 0xe00a09000007003a77fdda0 s (hubLost l s p) := by
  unfold hubLost
  dsimp only
  refine Only.ite ?_ ?_
  · exact Only.refl _ _
  · refine Only.ite ?_ ?_
    · refine Only.ite ?_ ?_
      · split
        · refine Only.ite ?_ ?_
          · exact Only.refl _ _
          · refine Only.step (engineFault_only ..) rfl ?_
            exact Only.refl _ _
        · exact Only.refl _ _
      · refine Only.step (moveHub_only ..) rfl ?_
        split
        · refine Only.ite ?_ ?_
          · exact Only.refl _ _
          · refine Only.step (engineFault_only ..) rfl ?_
            exact Only.refl _ _
        · exact Only.refl _ _
    · refine Only.ite ?_ ?_
      · refine Only.step (updPart_only ..) rfl ?_
        exact Only.refl _ _
      · exact Only.refl _ _

theorem linkDieDown_only (s : State) (l : Nat) : Only 0xe04a09040007003a77fdda0 s (linkDieDown s l) := by
  unfold linkDieDown
  dsimp only
  refine Only.foldl (fun _ _ _ => ?_) ?_
  · refine Only.step (hubLost_only ..) rfl ?_
    assumption
  · refine Only.foldl (fun _ _ _ => ?_) ?_
    · refine Only.step (linkChange_only ..) rfl ?_
      assumption
    · refine Only.step (setCond_only ..) rfl ?_
      refine Only.set_ldDown rfl ?_ _
      exact Only.refl _ _

theorem linkDieBack_only (s : State) (l : Nat) : Only 0x4000000000000500 s (linkDieBack s l) := by
  unfold linkDieBack
  dsimp only
  refine Only.foldl (fun _ _ _ => ?_) ?_
  · refine Only.ite ?_ ?_
    · assumption
    · refine Only.ite ?_ ?_
      · refine Only.step (updPart_only ..) rfl ?_
        assumption
      · refine Only.ite ?_ ?_
        · refine Only.step (updPart_only ..) rfl ?_
          assumption
        · assumption
  · refine Only.step (setCond_only ..) rfl ?_
    refine Only.set_ldDown rfl ?_ _
    exact Only.refl _ _

theorem execHubLinkDieFail_only (l : Nat) (s : State) : OnlyO 0xe04a09040007003a77fdda0 s (execHubLinkDieFail l s) := by
  unfold execHubLinkDieFail
  refine OnlyO.ite ?_ ?_
  · exact OnlyO.fault _ _ _
  · refine OnlyO.ite ?_ ?_
    · refine OnlyO.next ?_
      exact Only.refl _ _
    · dsimp only
      refine OnlyO.next ?_
      refine Only.step (kennelAdd_only ..) rfl ?_
      refine Only.step (raiseRc_only ..) rfl ?_
      refine Only.step (linkDieDown_only ..) rfl ?_
      exact Only.refl _ _

theorem startBlocks_only (s : State) (bad : List Nat) : Only 0xc008090007230b67f294da0 s (startBlocks s bad) := by
  unfold startBlocks
  dsimp only
  refine Only.foldl (fun _ _ _ => ?_) ?_
  · refine Only.step (loseBlock_only ..) rfl ?_
    assumption
  · refine Only.foldl (fun _ _ _ => ?_) ?_
    · refine Only.step (vlogOn_only ..) rfl ?_
      refine Only.step (blockCond_only ..) rfl ?_
      assumption
    · refine Only.set_dict_blockSt_blocks_tieLost rfl rfl rfl rfl ?_ _ _ _ _
      exact Only.refl _ _

theorem startLinks_only (s : State) (bad : List Nat) : Only 0xe04a09050007003a77fdda0 s (startLinks s bad) := by
  unfold startLinks
  dsimp only
  refine Only.step (setCond_only ..) rfl ?_
  refine Only.step (setObj_only ..) rfl ?_
  refine Only.set_refDown rfl ?_ _
  refine Only.foldl (fun _ _ _ => ?_) ?_
  · refine Only.ite ?_ ?_
    · refine Only.ite ?_ ?_
      · assumption
      · refine Only.step (linkDieDown_only ..) rfl ?_
        assumption
    · refine Only.ite ?_ ?_
      · refine Only.step (linkDieBack_only ..) rfl ?_
        assumption
      · assumption
  · exact Only.refl _ _

theorem trainStacks_only (s : State) (bad : List Nat) : Only 0x900100000000000180 s (trainStacks s bad) := by
  unfold trainStacks
  refine Only.foldl (fun _ _ _ => ?_) ?_
  · refine Only.ite ?_ ?_
    · refine Only.step (kennelEvent_only ..) rfl ?_
      refine Only.step (raiseRc_only ..) rfl ?_
      refine Only.step (stackCond_only ..) rfl ?_
      refine Only.step (setStack_only ..) rfl ?_
      assumption
    · refine Only.ite ?_ ?_
      · refine Only.step (stackCond_only ..) rfl ?_
        refine Only.step (setStack_only ..) rfl ?_
        assumption
      · assumption
  · exact Only.refl _ _

theorem integrityFail_only (s : State) (k : Nat) : Only 0x100000000000200080 s (integrityFail s k) := by
  unfold integrityFail
  refine Only.ite ?_ ?_
  · refine Only.step (raiseRc_only ..) rfl ?_
    refine Only.step (updBank_only ..) rfl ?_
    exact Only.refl _ _
  · exact Only.refl _ _

theorem probed_only (s : State) (k : Nat) (codes : List (List (BitVec 12))) : Only 0x200000 s (probed s k codes) := by
  unfold probed
  dsimp only
  split
  · refine Only.step (updBank_only ..) rfl ?_
    exact Only.refl _ _
  · exact Only.refl _ _

theorem checkBank_only (bad : List Nat) (s : State) (e : Sys2Proof.BankEval) : Only 0x100000000000200080 s (checkBank bad s e) := by
  unfold checkBank
  dsimp only
  refine Only.ite ?_ ?_
  · refine Only.ite ?_ ?_
    · refine Only.step (integrityFail_only ..) rfl ?_
      exact Only.refl _ _
    · refine Only.step (probed_only ..) rfl ?_
      exact Only.refl _ _
  · exact Only.refl _ _

theorem checkWeights_only (s : State) (bad : List Nat) (evals : List Sys2Proof.BankEval) : Only 0x100000000400200080 s (checkWeights s bad evals) := by
  unfold checkWeights
  dsimp only
  refine Only.foldl (fun _ _ _ => ?_) ?_
  · refine Only.step (vpgmRequest_only ..) rfl ?_
    assumption
  · refine Only.ite ?_ ?_
    · refine Only.foldl (fun _ _ _ => ?_) ?_
      · refine Only.ite ?_ ?_
        · refine Only.step (updBank_only ..) rfl ?_
          assumption
        · assumption
      · refine Only.foldl (fun _ _ _ => ?_) ?_
        · refine Only.step (integrityFail_only ..) rfl ?_
          assumption
        · refine Only.foldl (fun _ _ _ => ?_) ?_
          · refine Only.step (checkBank_only ..) rfl ?_
            assumption
          · refine Only.foldl (fun _ _ _ => ?_) ?_
            · refine Only.ite ?_ ?_
              · refine Only.step (loadTable_only ..) rfl ?_
                assumption
              · assumption
            · exact Only.refl _ _
    · refine Only.foldl (fun _ _ _ => ?_) ?_
      · refine Only.step (integrityFail_only ..) rfl ?_
        assumption
      · refine Only.foldl (fun _ _ _ => ?_) ?_
        · refine Only.step (checkBank_only ..) rfl ?_
          assumption
        · refine Only.foldl (fun _ _ _ => ?_) ?_
          · refine Only.ite ?_ ?_
            · refine Only.step (loadTable_only ..) rfl ?_
              assumption
            · assumption
          · exact Only.refl _ _

theorem reload_only (s : State) (p : Nat) (v : Saved) : Only 0x187060400 s (reload s p v) := by
  unfold reload
  dsimp only
  refine Only.step (updPart_only ..) rfl ?_
  refine Only.foldl (fun _ _ _ => ?_) ?_
  · refine Only.step (pvaWrite_only ..) rfl ?_
    assumption
  · refine Only.foldl (fun _ _ _ => ?_) ?_
    · refine Only.set_kvSets rfl ?_ _
      assumption
    · refine Only.foldl (fun _ _ _ => ?_) ?_
      · refine Only.set_seqs rfl ?_ _
        assumption
      · exact Only.refl _ _

theorem seqsLost_only (s : State) (p : Nat) : Only 0x100000000000000480 s (seqsLost s p) := by
  unfold seqsLost
  dsimp only
  refine Only.step (updPart_only ..) rfl ?_
  refine Only.ite ?_ ?_
  · refine Only.step (raiseRc_only ..) rfl ?_
    exact Only.refl _ _
  · exact Only.refl _ _

theorem unhealthyCause_only (s : State) (p : Nat) : Only 0x100000000000000480 s (unhealthyCause s p) := by
  unfold unhealthyCause
  refine Only.step (raise_only ..) rfl ?_
  refine Only.step (updPart_only ..) rfl ?_
  exact Only.refl _ _

theorem restorePart_only (s : State) (p : Nat) : Only 0xe80a0100000000387a74da0 s (restorePart s p) := by
  unfold restorePart
  dsimp only
  refine Only.ite ?_ ?_
  · exact Only.refl _ _
  · refine Only.ite ?_ ?_
    · refine Only.step (openLinks_only ..) rfl ?_
      refine Only.step (groupEnter_only ..) rfl ?_
      refine Only.step (armExports_only ..) rfl ?_
      refine Only.ite ?_ ?_
      · refine Only.step (unhealthyCause_only ..) rfl ?_
        refine Only.ite ?_ ?_
        · refine Only.step (setPState_only ..) rfl ?_
          refine Only.ite ?_ ?_
          · refine Only.step (stageAll_only ..) rfl ?_
            refine Only.ite ?_ ?_
            · refine Only.step (forceBand_only ..) rfl ?_
              split
              · refine Only.step (reload_only ..) rfl ?_
                refine Only.step (latchCheck_only ..) rfl ?_
                refine Only.foldl (fun _ _ _ => ?_) ?_
                · refine Only.step (initRegion_only ..) rfl ?_
                  assumption
                · refine Only.foldl (fun _ _ _ => ?_) ?_
                  · refine Only.step (writeTile_only ..) rfl ?_
                    assumption
                  · exact Only.refl _ _
              · refine Only.ite ?_ ?_
                · refine Only.step (seqsLost_only ..) rfl ?_
                  refine Only.step (latchCheck_only ..) rfl ?_
                  refine Only.foldl (fun _ _ _ => ?_) ?_
                  · refine Only.step (initRegion_only ..) rfl ?_
                    assumption
                  · refine Only.foldl (fun _ _ _ => ?_) ?_
                    · refine Only.step (writeTile_only ..) rfl ?_
                      assumption
                    · exact Only.refl _ _
                · refine Only.step (latchCheck_only ..) rfl ?_
                  refine Only.foldl (fun _ _ _ => ?_) ?_
                  · refine Only.step (initRegion_only ..) rfl ?_
                    assumption
                  · refine Only.foldl (fun _ _ _ => ?_) ?_
                    · refine Only.step (writeTile_only ..) rfl ?_
                      assumption
                    · exact Only.refl _ _
            · split
              · refine Only.step (reload_only ..) rfl ?_
                refine Only.step (latchCheck_only ..) rfl ?_
                refine Only.foldl (fun _ _ _ => ?_) ?_
                · refine Only.step (initRegion_only ..) rfl ?_
                  assumption
                · refine Only.foldl (fun _ _ _ => ?_) ?_
                  · refine Only.step (writeTile_only ..) rfl ?_
                    assumption
                  · exact Only.refl _ _
              · refine Only.ite ?_ ?_
                · refine Only.step (seqsLost_only ..) rfl ?_
                  refine Only.step (latchCheck_only ..) rfl ?_
                  refine Only.foldl (fun _ _ _ => ?_) ?_
                  · refine Only.step (initRegion_only ..) rfl ?_
                    assumption
                  · refine Only.foldl (fun _ _ _ => ?_) ?_
                    · refine Only.step (writeTile_only ..) rfl ?_
                      assumption
                    · exact Only.refl _ _
                · refine Only.step (latchCheck_only ..) rfl ?_
                  refine Only.foldl (fun _ _ _ => ?_) ?_
                  · refine Only.step (initRegion_only ..) rfl ?_
                    assumption
                  · refine Only.foldl (fun _ _ _ => ?_) ?_
                    · refine Only.step (writeTile_only ..) rfl ?_
                      assumption
                    · exact Only.refl _ _
          · refine Only.ite ?_ ?_
            · refine Only.step (forceBand_only ..) rfl ?_
              split
              · refine Only.step (reload_only ..) rfl ?_
                refine Only.step (latchCheck_only ..) rfl ?_
                refine Only.foldl (fun _ _ _ => ?_) ?_
                · refine Only.step (initRegion_only ..) rfl ?_
                  assumption
                · refine Only.foldl (fun _ _ _ => ?_) ?_
                  · refine Only.step (writeTile_only ..) rfl ?_
                    assumption
                  · exact Only.refl _ _
              · refine Only.ite ?_ ?_
                · refine Only.step (seqsLost_only ..) rfl ?_
                  refine Only.step (latchCheck_only ..) rfl ?_
                  refine Only.foldl (fun _ _ _ => ?_) ?_
                  · refine Only.step (initRegion_only ..) rfl ?_
                    assumption
                  · refine Only.foldl (fun _ _ _ => ?_) ?_
                    · refine Only.step (writeTile_only ..) rfl ?_
                      assumption
                    · exact Only.refl _ _
                · refine Only.step (latchCheck_only ..) rfl ?_
                  refine Only.foldl (fun _ _ _ => ?_) ?_
                  · refine Only.step (initRegion_only ..) rfl ?_
                    assumption
                  · refine Only.foldl (fun _ _ _ => ?_) ?_
                    · refine Only.step (writeTile_only ..) rfl ?_
                      assumption
                    · exact Only.refl _ _
            · split
              · refine Only.step (reload_only ..) rfl ?_
                refine Only.step (latchCheck_only ..) rfl ?_
                refine Only.foldl (fun _ _ _ => ?_) ?_
                · refine Only.step (initRegion_only ..) rfl ?_
                  assumption
                · refine Only.foldl (fun _ _ _ => ?_) ?_
                  · refine Only.step (writeTile_only ..) rfl ?_
                    assumption
                  · exact Only.refl _ _
              · refine Only.ite ?_ ?_
                · refine Only.step (seqsLost_only ..) rfl ?_
                  refine Only.step (latchCheck_only ..) rfl ?_
                  refine Only.foldl (fun _ _ _ => ?_) ?_
                  · refine Only.step (initRegion_only ..) rfl ?_
                    assumption
                  · refine Only.foldl (fun _ _ _ => ?_) ?_
                    · refine Only.step (writeTile_only ..) rfl ?_
                      assumption
                    · exact Only.refl _ _
                · refine Only.step (latchCheck_only ..) rfl ?_
                  refine Only.foldl (fun _ _ _ => ?_) ?_
                  · refine Only.step (initRegion_only ..) rfl ?_
                    assumption
                  · refine Only.foldl (fun _ _ _ => ?_) ?_
                    · refine Only.step (writeTile_only ..) rfl ?_
                      assumption
                    · exact Only.refl _ _
        · refine Only.ite ?_ ?_
          · refine Only.step (stageAll_only ..) rfl ?_
            refine Only.ite ?_ ?_
            · refine Only.step (forceBand_only ..) rfl ?_
              split
              · refine Only.step (reload_only ..) rfl ?_
                refine Only.step (latchCheck_only ..) rfl ?_
                refine Only.foldl (fun _ _ _ => ?_) ?_
                · refine Only.step (initRegion_only ..) rfl ?_
                  assumption
                · refine Only.foldl (fun _ _ _ => ?_) ?_
                  · refine Only.step (writeTile_only ..) rfl ?_
                    assumption
                  · exact Only.refl _ _
              · refine Only.ite ?_ ?_
                · refine Only.step (seqsLost_only ..) rfl ?_
                  refine Only.step (latchCheck_only ..) rfl ?_
                  refine Only.foldl (fun _ _ _ => ?_) ?_
                  · refine Only.step (initRegion_only ..) rfl ?_
                    assumption
                  · refine Only.foldl (fun _ _ _ => ?_) ?_
                    · refine Only.step (writeTile_only ..) rfl ?_
                      assumption
                    · exact Only.refl _ _
                · refine Only.step (latchCheck_only ..) rfl ?_
                  refine Only.foldl (fun _ _ _ => ?_) ?_
                  · refine Only.step (initRegion_only ..) rfl ?_
                    assumption
                  · refine Only.foldl (fun _ _ _ => ?_) ?_
                    · refine Only.step (writeTile_only ..) rfl ?_
                      assumption
                    · exact Only.refl _ _
            · split
              · refine Only.step (reload_only ..) rfl ?_
                refine Only.step (latchCheck_only ..) rfl ?_
                refine Only.foldl (fun _ _ _ => ?_) ?_
                · refine Only.step (initRegion_only ..) rfl ?_
                  assumption
                · refine Only.foldl (fun _ _ _ => ?_) ?_
                  · refine Only.step (writeTile_only ..) rfl ?_
                    assumption
                  · exact Only.refl _ _
              · refine Only.ite ?_ ?_
                · refine Only.step (seqsLost_only ..) rfl ?_
                  refine Only.step (latchCheck_only ..) rfl ?_
                  refine Only.foldl (fun _ _ _ => ?_) ?_
                  · refine Only.step (initRegion_only ..) rfl ?_
                    assumption
                  · refine Only.foldl (fun _ _ _ => ?_) ?_
                    · refine Only.step (writeTile_only ..) rfl ?_
                      assumption
                    · exact Only.refl _ _
                · refine Only.step (latchCheck_only ..) rfl ?_
                  refine Only.foldl (fun _ _ _ => ?_) ?_
                  · refine Only.step (initRegion_only ..) rfl ?_
                    assumption
                  · refine Only.foldl (fun _ _ _ => ?_) ?_
                    · refine Only.step (writeTile_only ..) rfl ?_
                      assumption
                    · exact Only.refl _ _
          · refine Only.ite ?_ ?_
            · refine Only.step (forceBand_only ..) rfl ?_
              split
              · refine Only.step (reload_only ..) rfl ?_
                refine Only.step (latchCheck_only ..) rfl ?_
                refine Only.foldl (fun _ _ _ => ?_) ?_
                · refine Only.step (initRegion_only ..) rfl ?_
                  assumption
                · refine Only.foldl (fun _ _ _ => ?_) ?_
                  · refine Only.step (writeTile_only ..) rfl ?_
                    assumption
                  · exact Only.refl _ _
              · refine Only.ite ?_ ?_
                · refine Only.step (seqsLost_only ..) rfl ?_
                  refine Only.step (latchCheck_only ..) rfl ?_
                  refine Only.foldl (fun _ _ _ => ?_) ?_
                  · refine Only.step (initRegion_only ..) rfl ?_
                    assumption
                  · refine Only.foldl (fun _ _ _ => ?_) ?_
                    · refine Only.step (writeTile_only ..) rfl ?_
                      assumption
                    · exact Only.refl _ _
                · refine Only.step (latchCheck_only ..) rfl ?_
                  refine Only.foldl (fun _ _ _ => ?_) ?_
                  · refine Only.step (initRegion_only ..) rfl ?_
                    assumption
                  · refine Only.foldl (fun _ _ _ => ?_) ?_
                    · refine Only.step (writeTile_only ..) rfl ?_
                      assumption
                    · exact Only.refl _ _
            · split
              · refine Only.step (reload_only ..) rfl ?_
                refine Only.step (latchCheck_only ..) rfl ?_
                refine Only.foldl (fun _ _ _ => ?_) ?_
                · refine Only.step (initRegion_only ..) rfl ?_
                  assumption
                · refine Only.foldl (fun _ _ _ => ?_) ?_
                  · refine Only.step (writeTile_only ..) rfl ?_
                    assumption
                  · exact Only.refl _ _
              · refine Only.ite ?_ ?_
                · refine Only.step (seqsLost_only ..) rfl ?_
                  refine Only.step (latchCheck_only ..) rfl ?_
                  refine Only.foldl (fun _ _ _ => ?_) ?_
                  · refine Only.step (initRegion_only ..) rfl ?_
                    assumption
                  · refine Only.foldl (fun _ _ _ => ?_) ?_
                    · refine Only.step (writeTile_only ..) rfl ?_
                      assumption
                    · exact Only.refl _ _
                · refine Only.step (latchCheck_only ..) rfl ?_
                  refine Only.foldl (fun _ _ _ => ?_) ?_
                  · refine Only.step (initRegion_only ..) rfl ?_
                    assumption
                  · refine Only.foldl (fun _ _ _ => ?_) ?_
                    · refine Only.step (writeTile_only ..) rfl ?_
                      assumption
                    · exact Only.refl _ _
      · refine Only.ite ?_ ?_
        · refine Only.step (setPState_only ..) rfl ?_
          refine Only.ite ?_ ?_
          · refine Only.step (stageAll_only ..) rfl ?_
            refine Only.ite ?_ ?_
            · refine Only.step (forceBand_only ..) rfl ?_
              split
              · refine Only.step (reload_only ..) rfl ?_
                refine Only.step (latchCheck_only ..) rfl ?_
                refine Only.foldl (fun _ _ _ => ?_) ?_
                · refine Only.step (initRegion_only ..) rfl ?_
                  assumption
                · refine Only.foldl (fun _ _ _ => ?_) ?_
                  · refine Only.step (writeTile_only ..) rfl ?_
                    assumption
                  · exact Only.refl _ _
              · refine Only.ite ?_ ?_
                · refine Only.step (seqsLost_only ..) rfl ?_
                  refine Only.step (latchCheck_only ..) rfl ?_
                  refine Only.foldl (fun _ _ _ => ?_) ?_
                  · refine Only.step (initRegion_only ..) rfl ?_
                    assumption
                  · refine Only.foldl (fun _ _ _ => ?_) ?_
                    · refine Only.step (writeTile_only ..) rfl ?_
                      assumption
                    · exact Only.refl _ _
                · refine Only.step (latchCheck_only ..) rfl ?_
                  refine Only.foldl (fun _ _ _ => ?_) ?_
                  · refine Only.step (initRegion_only ..) rfl ?_
                    assumption
                  · refine Only.foldl (fun _ _ _ => ?_) ?_
                    · refine Only.step (writeTile_only ..) rfl ?_
                      assumption
                    · exact Only.refl _ _
            · split
              · refine Only.step (reload_only ..) rfl ?_
                refine Only.step (latchCheck_only ..) rfl ?_
                refine Only.foldl (fun _ _ _ => ?_) ?_
                · refine Only.step (initRegion_only ..) rfl ?_
                  assumption
                · refine Only.foldl (fun _ _ _ => ?_) ?_
                  · refine Only.step (writeTile_only ..) rfl ?_
                    assumption
                  · exact Only.refl _ _
              · refine Only.ite ?_ ?_
                · refine Only.step (seqsLost_only ..) rfl ?_
                  refine Only.step (latchCheck_only ..) rfl ?_
                  refine Only.foldl (fun _ _ _ => ?_) ?_
                  · refine Only.step (initRegion_only ..) rfl ?_
                    assumption
                  · refine Only.foldl (fun _ _ _ => ?_) ?_
                    · refine Only.step (writeTile_only ..) rfl ?_
                      assumption
                    · exact Only.refl _ _
                · refine Only.step (latchCheck_only ..) rfl ?_
                  refine Only.foldl (fun _ _ _ => ?_) ?_
                  · refine Only.step (initRegion_only ..) rfl ?_
                    assumption
                  · refine Only.foldl (fun _ _ _ => ?_) ?_
                    · refine Only.step (writeTile_only ..) rfl ?_
                      assumption
                    · exact Only.refl _ _
          · refine Only.ite ?_ ?_
            · refine Only.step (forceBand_only ..) rfl ?_
              split
              · refine Only.step (reload_only ..) rfl ?_
                refine Only.step (latchCheck_only ..) rfl ?_
                refine Only.foldl (fun _ _ _ => ?_) ?_
                · refine Only.step (initRegion_only ..) rfl ?_
                  assumption
                · refine Only.foldl (fun _ _ _ => ?_) ?_
                  · refine Only.step (writeTile_only ..) rfl ?_
                    assumption
                  · exact Only.refl _ _
              · refine Only.ite ?_ ?_
                · refine Only.step (seqsLost_only ..) rfl ?_
                  refine Only.step (latchCheck_only ..) rfl ?_
                  refine Only.foldl (fun _ _ _ => ?_) ?_
                  · refine Only.step (initRegion_only ..) rfl ?_
                    assumption
                  · refine Only.foldl (fun _ _ _ => ?_) ?_
                    · refine Only.step (writeTile_only ..) rfl ?_
                      assumption
                    · exact Only.refl _ _
                · refine Only.step (latchCheck_only ..) rfl ?_
                  refine Only.foldl (fun _ _ _ => ?_) ?_
                  · refine Only.step (initRegion_only ..) rfl ?_
                    assumption
                  · refine Only.foldl (fun _ _ _ => ?_) ?_
                    · refine Only.step (writeTile_only ..) rfl ?_
                      assumption
                    · exact Only.refl _ _
            · split
              · refine Only.step (reload_only ..) rfl ?_
                refine Only.step (latchCheck_only ..) rfl ?_
                refine Only.foldl (fun _ _ _ => ?_) ?_
                · refine Only.step (initRegion_only ..) rfl ?_
                  assumption
                · refine Only.foldl (fun _ _ _ => ?_) ?_
                  · refine Only.step (writeTile_only ..) rfl ?_
                    assumption
                  · exact Only.refl _ _
              · refine Only.ite ?_ ?_
                · refine Only.step (seqsLost_only ..) rfl ?_
                  refine Only.step (latchCheck_only ..) rfl ?_
                  refine Only.foldl (fun _ _ _ => ?_) ?_
                  · refine Only.step (initRegion_only ..) rfl ?_
                    assumption
                  · refine Only.foldl (fun _ _ _ => ?_) ?_
                    · refine Only.step (writeTile_only ..) rfl ?_
                      assumption
                    · exact Only.refl _ _
                · refine Only.step (latchCheck_only ..) rfl ?_
                  refine Only.foldl (fun _ _ _ => ?_) ?_
                  · refine Only.step (initRegion_only ..) rfl ?_
                    assumption
                  · refine Only.foldl (fun _ _ _ => ?_) ?_
                    · refine Only.step (writeTile_only ..) rfl ?_
                      assumption
                    · exact Only.refl _ _
        · refine Only.ite ?_ ?_
          · refine Only.step (stageAll_only ..) rfl ?_
            refine Only.ite ?_ ?_
            · refine Only.step (forceBand_only ..) rfl ?_
              split
              · refine Only.step (reload_only ..) rfl ?_
                refine Only.step (latchCheck_only ..) rfl ?_
                refine Only.foldl (fun _ _ _ => ?_) ?_
                · refine Only.step (initRegion_only ..) rfl ?_
                  assumption
                · refine Only.foldl (fun _ _ _ => ?_) ?_
                  · refine Only.step (writeTile_only ..) rfl ?_
                    assumption
                  · exact Only.refl _ _
              · refine Only.ite ?_ ?_
                · refine Only.step (seqsLost_only ..) rfl ?_
                  refine Only.step (latchCheck_only ..) rfl ?_
                  refine Only.foldl (fun _ _ _ => ?_) ?_
                  · refine Only.step (initRegion_only ..) rfl ?_
                    assumption
                  · refine Only.foldl (fun _ _ _ => ?_) ?_
                    · refine Only.step (writeTile_only ..) rfl ?_
                      assumption
                    · exact Only.refl _ _
                · refine Only.step (latchCheck_only ..) rfl ?_
                  refine Only.foldl (fun _ _ _ => ?_) ?_
                  · refine Only.step (initRegion_only ..) rfl ?_
                    assumption
                  · refine Only.foldl (fun _ _ _ => ?_) ?_
                    · refine Only.step (writeTile_only ..) rfl ?_
                      assumption
                    · exact Only.refl _ _
            · split
              · refine Only.step (reload_only ..) rfl ?_
                refine Only.step (latchCheck_only ..) rfl ?_
                refine Only.foldl (fun _ _ _ => ?_) ?_
                · refine Only.step (initRegion_only ..) rfl ?_
                  assumption
                · refine Only.foldl (fun _ _ _ => ?_) ?_
                  · refine Only.step (writeTile_only ..) rfl ?_
                    assumption
                  · exact Only.refl _ _
              · refine Only.ite ?_ ?_
                · refine Only.step (seqsLost_only ..) rfl ?_
                  refine Only.step (latchCheck_only ..) rfl ?_
                  refine Only.foldl (fun _ _ _ => ?_) ?_
                  · refine Only.step (initRegion_only ..) rfl ?_
                    assumption
                  · refine Only.foldl (fun _ _ _ => ?_) ?_
                    · refine Only.step (writeTile_only ..) rfl ?_
                      assumption
                    · exact Only.refl _ _
                · refine Only.step (latchCheck_only ..) rfl ?_
                  refine Only.foldl (fun _ _ _ => ?_) ?_
                  · refine Only.step (initRegion_only ..) rfl ?_
                    assumption
                  · refine Only.foldl (fun _ _ _ => ?_) ?_
                    · refine Only.step (writeTile_only ..) rfl ?_
                      assumption
                    · exact Only.refl _ _
          · refine Only.ite ?_ ?_
            · refine Only.step (forceBand_only ..) rfl ?_
              split
              · refine Only.step (reload_only ..) rfl ?_
                refine Only.step (latchCheck_only ..) rfl ?_
                refine Only.foldl (fun _ _ _ => ?_) ?_
                · refine Only.step (initRegion_only ..) rfl ?_
                  assumption
                · refine Only.foldl (fun _ _ _ => ?_) ?_
                  · refine Only.step (writeTile_only ..) rfl ?_
                    assumption
                  · exact Only.refl _ _
              · refine Only.ite ?_ ?_
                · refine Only.step (seqsLost_only ..) rfl ?_
                  refine Only.step (latchCheck_only ..) rfl ?_
                  refine Only.foldl (fun _ _ _ => ?_) ?_
                  · refine Only.step (initRegion_only ..) rfl ?_
                    assumption
                  · refine Only.foldl (fun _ _ _ => ?_) ?_
                    · refine Only.step (writeTile_only ..) rfl ?_
                      assumption
                    · exact Only.refl _ _
                · refine Only.step (latchCheck_only ..) rfl ?_
                  refine Only.foldl (fun _ _ _ => ?_) ?_
                  · refine Only.step (initRegion_only ..) rfl ?_
                    assumption
                  · refine Only.foldl (fun _ _ _ => ?_) ?_
                    · refine Only.step (writeTile_only ..) rfl ?_
                      assumption
                    · exact Only.refl _ _
            · split
              · refine Only.step (reload_only ..) rfl ?_
                refine Only.step (latchCheck_only ..) rfl ?_
                refine Only.foldl (fun _ _ _ => ?_) ?_
                · refine Only.step (initRegion_only ..) rfl ?_
                  assumption
                · refine Only.foldl (fun _ _ _ => ?_) ?_
                  · refine Only.step (writeTile_only ..) rfl ?_
                    assumption
                  · exact Only.refl _ _
              · refine Only.ite ?_ ?_
                · refine Only.step (seqsLost_only ..) rfl ?_
                  refine Only.step (latchCheck_only ..) rfl ?_
                  refine Only.foldl (fun _ _ _ => ?_) ?_
                  · refine Only.step (initRegion_only ..) rfl ?_
                    assumption
                  · refine Only.foldl (fun _ _ _ => ?_) ?_
                    · refine Only.step (writeTile_only ..) rfl ?_
                      assumption
                    · exact Only.refl _ _
                · refine Only.step (latchCheck_only ..) rfl ?_
                  refine Only.foldl (fun _ _ _ => ?_) ?_
                  · refine Only.step (initRegion_only ..) rfl ?_
                    assumption
                  · refine Only.foldl (fun _ _ _ => ?_) ?_
                    · refine Only.step (writeTile_only ..) rfl ?_
                      assumption
                    · exact Only.refl _ _
    · refine Only.ite ?_ ?_
      · refine Only.step (unhealthyCause_only ..) rfl ?_
        refine Only.ite ?_ ?_
        · refine Only.step (setPState_only ..) rfl ?_
          refine Only.ite ?_ ?_
          · refine Only.step (stageAll_only ..) rfl ?_
            refine Only.ite ?_ ?_
            · refine Only.step (forceBand_only ..) rfl ?_
              split
              · refine Only.step (reload_only ..) rfl ?_
                refine Only.step (latchCheck_only ..) rfl ?_
                refine Only.foldl (fun _ _ _ => ?_) ?_
                · refine Only.step (initRegion_only ..) rfl ?_
                  assumption
                · refine Only.foldl (fun _ _ _ => ?_) ?_
                  · refine Only.step (writeTile_only ..) rfl ?_
                    assumption
                  · exact Only.refl _ _
              · refine Only.ite ?_ ?_
                · refine Only.step (seqsLost_only ..) rfl ?_
                  refine Only.step (latchCheck_only ..) rfl ?_
                  refine Only.foldl (fun _ _ _ => ?_) ?_
                  · refine Only.step (initRegion_only ..) rfl ?_
                    assumption
                  · refine Only.foldl (fun _ _ _ => ?_) ?_
                    · refine Only.step (writeTile_only ..) rfl ?_
                      assumption
                    · exact Only.refl _ _
                · refine Only.step (latchCheck_only ..) rfl ?_
                  refine Only.foldl (fun _ _ _ => ?_) ?_
                  · refine Only.step (initRegion_only ..) rfl ?_
                    assumption
                  · refine Only.foldl (fun _ _ _ => ?_) ?_
                    · refine Only.step (writeTile_only ..) rfl ?_
                      assumption
                    · exact Only.refl _ _
            · split
              · refine Only.step (reload_only ..) rfl ?_
                refine Only.step (latchCheck_only ..) rfl ?_
                refine Only.foldl (fun _ _ _ => ?_) ?_
                · refine Only.step (initRegion_only ..) rfl ?_
                  assumption
                · refine Only.foldl (fun _ _ _ => ?_) ?_
                  · refine Only.step (writeTile_only ..) rfl ?_
                    assumption
                  · exact Only.refl _ _
              · refine Only.ite ?_ ?_
                · refine Only.step (seqsLost_only ..) rfl ?_
                  refine Only.step (latchCheck_only ..) rfl ?_
                  refine Only.foldl (fun _ _ _ => ?_) ?_
                  · refine Only.step (initRegion_only ..) rfl ?_
                    assumption
                  · refine Only.foldl (fun _ _ _ => ?_) ?_
                    · refine Only.step (writeTile_only ..) rfl ?_
                      assumption
                    · exact Only.refl _ _
                · refine Only.step (latchCheck_only ..) rfl ?_
                  refine Only.foldl (fun _ _ _ => ?_) ?_
                  · refine Only.step (initRegion_only ..) rfl ?_
                    assumption
                  · refine Only.foldl (fun _ _ _ => ?_) ?_
                    · refine Only.step (writeTile_only ..) rfl ?_
                      assumption
                    · exact Only.refl _ _
          · refine Only.ite ?_ ?_
            · refine Only.step (forceBand_only ..) rfl ?_
              split
              · refine Only.step (reload_only ..) rfl ?_
                refine Only.step (latchCheck_only ..) rfl ?_
                refine Only.foldl (fun _ _ _ => ?_) ?_
                · refine Only.step (initRegion_only ..) rfl ?_
                  assumption
                · refine Only.foldl (fun _ _ _ => ?_) ?_
                  · refine Only.step (writeTile_only ..) rfl ?_
                    assumption
                  · exact Only.refl _ _
              · refine Only.ite ?_ ?_
                · refine Only.step (seqsLost_only ..) rfl ?_
                  refine Only.step (latchCheck_only ..) rfl ?_
                  refine Only.foldl (fun _ _ _ => ?_) ?_
                  · refine Only.step (initRegion_only ..) rfl ?_
                    assumption
                  · refine Only.foldl (fun _ _ _ => ?_) ?_
                    · refine Only.step (writeTile_only ..) rfl ?_
                      assumption
                    · exact Only.refl _ _
                · refine Only.step (latchCheck_only ..) rfl ?_
                  refine Only.foldl (fun _ _ _ => ?_) ?_
                  · refine Only.step (initRegion_only ..) rfl ?_
                    assumption
                  · refine Only.foldl (fun _ _ _ => ?_) ?_
                    · refine Only.step (writeTile_only ..) rfl ?_
                      assumption
                    · exact Only.refl _ _
            · split
              · refine Only.step (reload_only ..) rfl ?_
                refine Only.step (latchCheck_only ..) rfl ?_
                refine Only.foldl (fun _ _ _ => ?_) ?_
                · refine Only.step (initRegion_only ..) rfl ?_
                  assumption
                · refine Only.foldl (fun _ _ _ => ?_) ?_
                  · refine Only.step (writeTile_only ..) rfl ?_
                    assumption
                  · exact Only.refl _ _
              · refine Only.ite ?_ ?_
                · refine Only.step (seqsLost_only ..) rfl ?_
                  refine Only.step (latchCheck_only ..) rfl ?_
                  refine Only.foldl (fun _ _ _ => ?_) ?_
                  · refine Only.step (initRegion_only ..) rfl ?_
                    assumption
                  · refine Only.foldl (fun _ _ _ => ?_) ?_
                    · refine Only.step (writeTile_only ..) rfl ?_
                      assumption
                    · exact Only.refl _ _
                · refine Only.step (latchCheck_only ..) rfl ?_
                  refine Only.foldl (fun _ _ _ => ?_) ?_
                  · refine Only.step (initRegion_only ..) rfl ?_
                    assumption
                  · refine Only.foldl (fun _ _ _ => ?_) ?_
                    · refine Only.step (writeTile_only ..) rfl ?_
                      assumption
                    · exact Only.refl _ _
        · refine Only.ite ?_ ?_
          · refine Only.step (stageAll_only ..) rfl ?_
            refine Only.ite ?_ ?_
            · refine Only.step (forceBand_only ..) rfl ?_
              split
              · refine Only.step (reload_only ..) rfl ?_
                refine Only.step (latchCheck_only ..) rfl ?_
                refine Only.foldl (fun _ _ _ => ?_) ?_
                · refine Only.step (initRegion_only ..) rfl ?_
                  assumption
                · refine Only.foldl (fun _ _ _ => ?_) ?_
                  · refine Only.step (writeTile_only ..) rfl ?_
                    assumption
                  · exact Only.refl _ _
              · refine Only.ite ?_ ?_
                · refine Only.step (seqsLost_only ..) rfl ?_
                  refine Only.step (latchCheck_only ..) rfl ?_
                  refine Only.foldl (fun _ _ _ => ?_) ?_
                  · refine Only.step (initRegion_only ..) rfl ?_
                    assumption
                  · refine Only.foldl (fun _ _ _ => ?_) ?_
                    · refine Only.step (writeTile_only ..) rfl ?_
                      assumption
                    · exact Only.refl _ _
                · refine Only.step (latchCheck_only ..) rfl ?_
                  refine Only.foldl (fun _ _ _ => ?_) ?_
                  · refine Only.step (initRegion_only ..) rfl ?_
                    assumption
                  · refine Only.foldl (fun _ _ _ => ?_) ?_
                    · refine Only.step (writeTile_only ..) rfl ?_
                      assumption
                    · exact Only.refl _ _
            · split
              · refine Only.step (reload_only ..) rfl ?_
                refine Only.step (latchCheck_only ..) rfl ?_
                refine Only.foldl (fun _ _ _ => ?_) ?_
                · refine Only.step (initRegion_only ..) rfl ?_
                  assumption
                · refine Only.foldl (fun _ _ _ => ?_) ?_
                  · refine Only.step (writeTile_only ..) rfl ?_
                    assumption
                  · exact Only.refl _ _
              · refine Only.ite ?_ ?_
                · refine Only.step (seqsLost_only ..) rfl ?_
                  refine Only.step (latchCheck_only ..) rfl ?_
                  refine Only.foldl (fun _ _ _ => ?_) ?_
                  · refine Only.step (initRegion_only ..) rfl ?_
                    assumption
                  · refine Only.foldl (fun _ _ _ => ?_) ?_
                    · refine Only.step (writeTile_only ..) rfl ?_
                      assumption
                    · exact Only.refl _ _
                · refine Only.step (latchCheck_only ..) rfl ?_
                  refine Only.foldl (fun _ _ _ => ?_) ?_
                  · refine Only.step (initRegion_only ..) rfl ?_
                    assumption
                  · refine Only.foldl (fun _ _ _ => ?_) ?_
                    · refine Only.step (writeTile_only ..) rfl ?_
                      assumption
                    · exact Only.refl _ _
          · refine Only.ite ?_ ?_
            · refine Only.step (forceBand_only ..) rfl ?_
              split
              · refine Only.step (reload_only ..) rfl ?_
                refine Only.step (latchCheck_only ..) rfl ?_
                refine Only.foldl (fun _ _ _ => ?_) ?_
                · refine Only.step (initRegion_only ..) rfl ?_
                  assumption
                · refine Only.foldl (fun _ _ _ => ?_) ?_
                  · refine Only.step (writeTile_only ..) rfl ?_
                    assumption
                  · exact Only.refl _ _
              · refine Only.ite ?_ ?_
                · refine Only.step (seqsLost_only ..) rfl ?_
                  refine Only.step (latchCheck_only ..) rfl ?_
                  refine Only.foldl (fun _ _ _ => ?_) ?_
                  · refine Only.step (initRegion_only ..) rfl ?_
                    assumption
                  · refine Only.foldl (fun _ _ _ => ?_) ?_
                    · refine Only.step (writeTile_only ..) rfl ?_
                      assumption
                    · exact Only.refl _ _
                · refine Only.step (latchCheck_only ..) rfl ?_
                  refine Only.foldl (fun _ _ _ => ?_) ?_
                  · refine Only.step (initRegion_only ..) rfl ?_
                    assumption
                  · refine Only.foldl (fun _ _ _ => ?_) ?_
                    · refine Only.step (writeTile_only ..) rfl ?_
                      assumption
                    · exact Only.refl _ _
            · split
              · refine Only.step (reload_only ..) rfl ?_
                refine Only.step (latchCheck_only ..) rfl ?_
                refine Only.foldl (fun _ _ _ => ?_) ?_
                · refine Only.step (initRegion_only ..) rfl ?_
                  assumption
                · refine Only.foldl (fun _ _ _ => ?_) ?_
                  · refine Only.step (writeTile_only ..) rfl ?_
                    assumption
                  · exact Only.refl _ _
              · refine Only.ite ?_ ?_
                · refine Only.step (seqsLost_only ..) rfl ?_
                  refine Only.step (latchCheck_only ..) rfl ?_
                  refine Only.foldl (fun _ _ _ => ?_) ?_
                  · refine Only.step (initRegion_only ..) rfl ?_
                    assumption
                  · refine Only.foldl (fun _ _ _ => ?_) ?_
                    · refine Only.step (writeTile_only ..) rfl ?_
                      assumption
                    · exact Only.refl _ _
                · refine Only.step (latchCheck_only ..) rfl ?_
                  refine Only.foldl (fun _ _ _ => ?_) ?_
                  · refine Only.step (initRegion_only ..) rfl ?_
                    assumption
                  · refine Only.foldl (fun _ _ _ => ?_) ?_
                    · refine Only.step (writeTile_only ..) rfl ?_
                      assumption
                    · exact Only.refl _ _
      · refine Only.ite ?_ ?_
        · refine Only.step (setPState_only ..) rfl ?_
          refine Only.ite ?_ ?_
          · refine Only.step (stageAll_only ..) rfl ?_
            refine Only.ite ?_ ?_
            · refine Only.step (forceBand_only ..) rfl ?_
              split
              · refine Only.step (reload_only ..) rfl ?_
                refine Only.step (latchCheck_only ..) rfl ?_
                refine Only.foldl (fun _ _ _ => ?_) ?_
                · refine Only.step (initRegion_only ..) rfl ?_
                  assumption
                · refine Only.foldl (fun _ _ _ => ?_) ?_
                  · refine Only.step (writeTile_only ..) rfl ?_
                    assumption
                  · exact Only.refl _ _
              · refine Only.ite ?_ ?_
                · refine Only.step (seqsLost_only ..) rfl ?_
                  refine Only.step (latchCheck_only ..) rfl ?_
                  refine Only.foldl (fun _ _ _ => ?_) ?_
                  · refine Only.step (initRegion_only ..) rfl ?_
                    assumption
                  · refine Only.foldl (fun _ _ _ => ?_) ?_
                    · refine Only.step (writeTile_only ..) rfl ?_
                      assumption
                    · exact Only.refl _ _
                · refine Only.step (latchCheck_only ..) rfl ?_
                  refine Only.foldl (fun _ _ _ => ?_) ?_
                  · refine Only.step (initRegion_only ..) rfl ?_
                    assumption
                  · refine Only.foldl (fun _ _ _ => ?_) ?_
                    · refine Only.step (writeTile_only ..) rfl ?_
                      assumption
                    · exact Only.refl _ _
            · split
              · refine Only.step (reload_only ..) rfl ?_
                refine Only.step (latchCheck_only ..) rfl ?_
                refine Only.foldl (fun _ _ _ => ?_) ?_
                · refine Only.step (initRegion_only ..) rfl ?_
                  assumption
                · refine Only.foldl (fun _ _ _ => ?_) ?_
                  · refine Only.step (writeTile_only ..) rfl ?_
                    assumption
                  · exact Only.refl _ _
              · refine Only.ite ?_ ?_
                · refine Only.step (seqsLost_only ..) rfl ?_
                  refine Only.step (latchCheck_only ..) rfl ?_
                  refine Only.foldl (fun _ _ _ => ?_) ?_
                  · refine Only.step (initRegion_only ..) rfl ?_
                    assumption
                  · refine Only.foldl (fun _ _ _ => ?_) ?_
                    · refine Only.step (writeTile_only ..) rfl ?_
                      assumption
                    · exact Only.refl _ _
                · refine Only.step (latchCheck_only ..) rfl ?_
                  refine Only.foldl (fun _ _ _ => ?_) ?_
                  · refine Only.step (initRegion_only ..) rfl ?_
                    assumption
                  · refine Only.foldl (fun _ _ _ => ?_) ?_
                    · refine Only.step (writeTile_only ..) rfl ?_
                      assumption
                    · exact Only.refl _ _
          · refine Only.ite ?_ ?_
            · refine Only.step (forceBand_only ..) rfl ?_
              split
              · refine Only.step (reload_only ..) rfl ?_
                refine Only.step (latchCheck_only ..) rfl ?_
                refine Only.foldl (fun _ _ _ => ?_) ?_
                · refine Only.step (initRegion_only ..) rfl ?_
                  assumption
                · refine Only.foldl (fun _ _ _ => ?_) ?_
                  · refine Only.step (writeTile_only ..) rfl ?_
                    assumption
                  · exact Only.refl _ _
              · refine Only.ite ?_ ?_
                · refine Only.step (seqsLost_only ..) rfl ?_
                  refine Only.step (latchCheck_only ..) rfl ?_
                  refine Only.foldl (fun _ _ _ => ?_) ?_
                  · refine Only.step (initRegion_only ..) rfl ?_
                    assumption
                  · refine Only.foldl (fun _ _ _ => ?_) ?_
                    · refine Only.step (writeTile_only ..) rfl ?_
                      assumption
                    · exact Only.refl _ _
                · refine Only.step (latchCheck_only ..) rfl ?_
                  refine Only.foldl (fun _ _ _ => ?_) ?_
                  · refine Only.step (initRegion_only ..) rfl ?_
                    assumption
                  · refine Only.foldl (fun _ _ _ => ?_) ?_
                    · refine Only.step (writeTile_only ..) rfl ?_
                      assumption
                    · exact Only.refl _ _
            · split
              · refine Only.step (reload_only ..) rfl ?_
                refine Only.step (latchCheck_only ..) rfl ?_
                refine Only.foldl (fun _ _ _ => ?_) ?_
                · refine Only.step (initRegion_only ..) rfl ?_
                  assumption
                · refine Only.foldl (fun _ _ _ => ?_) ?_
                  · refine Only.step (writeTile_only ..) rfl ?_
                    assumption
                  · exact Only.refl _ _
              · refine Only.ite ?_ ?_
                · refine Only.step (seqsLost_only ..) rfl ?_
                  refine Only.step (latchCheck_only ..) rfl ?_
                  refine Only.foldl (fun _ _ _ => ?_) ?_
                  · refine Only.step (initRegion_only ..) rfl ?_
                    assumption
                  · refine Only.foldl (fun _ _ _ => ?_) ?_
                    · refine Only.step (writeTile_only ..) rfl ?_
                      assumption
                    · exact Only.refl _ _
                · refine Only.step (latchCheck_only ..) rfl ?_
                  refine Only.foldl (fun _ _ _ => ?_) ?_
                  · refine Only.step (initRegion_only ..) rfl ?_
                    assumption
                  · refine Only.foldl (fun _ _ _ => ?_) ?_
                    · refine Only.step (writeTile_only ..) rfl ?_
                      assumption
                    · exact Only.refl _ _
        · refine Only.ite ?_ ?_
          · refine Only.step (stageAll_only ..) rfl ?_
            refine Only.ite ?_ ?_
            · refine Only.step (forceBand_only ..) rfl ?_
              split
              · refine Only.step (reload_only ..) rfl ?_
                refine Only.step (latchCheck_only ..) rfl ?_
                refine Only.foldl (fun _ _ _ => ?_) ?_
                · refine Only.step (initRegion_only ..) rfl ?_
                  assumption
                · refine Only.foldl (fun _ _ _ => ?_) ?_
                  · refine Only.step (writeTile_only ..) rfl ?_
                    assumption
                  · exact Only.refl _ _
              · refine Only.ite ?_ ?_
                · refine Only.step (seqsLost_only ..) rfl ?_
                  refine Only.step (latchCheck_only ..) rfl ?_
                  refine Only.foldl (fun _ _ _ => ?_) ?_
                  · refine Only.step (initRegion_only ..) rfl ?_
                    assumption
                  · refine Only.foldl (fun _ _ _ => ?_) ?_
                    · refine Only.step (writeTile_only ..) rfl ?_
                      assumption
                    · exact Only.refl _ _
                · refine Only.step (latchCheck_only ..) rfl ?_
                  refine Only.foldl (fun _ _ _ => ?_) ?_
                  · refine Only.step (initRegion_only ..) rfl ?_
                    assumption
                  · refine Only.foldl (fun _ _ _ => ?_) ?_
                    · refine Only.step (writeTile_only ..) rfl ?_
                      assumption
                    · exact Only.refl _ _
            · split
              · refine Only.step (reload_only ..) rfl ?_
                refine Only.step (latchCheck_only ..) rfl ?_
                refine Only.foldl (fun _ _ _ => ?_) ?_
                · refine Only.step (initRegion_only ..) rfl ?_
                  assumption
                · refine Only.foldl (fun _ _ _ => ?_) ?_
                  · refine Only.step (writeTile_only ..) rfl ?_
                    assumption
                  · exact Only.refl _ _
              · refine Only.ite ?_ ?_
                · refine Only.step (seqsLost_only ..) rfl ?_
                  refine Only.step (latchCheck_only ..) rfl ?_
                  refine Only.foldl (fun _ _ _ => ?_) ?_
                  · refine Only.step (initRegion_only ..) rfl ?_
                    assumption
                  · refine Only.foldl (fun _ _ _ => ?_) ?_
                    · refine Only.step (writeTile_only ..) rfl ?_
                      assumption
                    · exact Only.refl _ _
                · refine Only.step (latchCheck_only ..) rfl ?_
                  refine Only.foldl (fun _ _ _ => ?_) ?_
                  · refine Only.step (initRegion_only ..) rfl ?_
                    assumption
                  · refine Only.foldl (fun _ _ _ => ?_) ?_
                    · refine Only.step (writeTile_only ..) rfl ?_
                      assumption
                    · exact Only.refl _ _
          · refine Only.ite ?_ ?_
            · refine Only.step (forceBand_only ..) rfl ?_
              split
              · refine Only.step (reload_only ..) rfl ?_
                refine Only.step (latchCheck_only ..) rfl ?_
                refine Only.foldl (fun _ _ _ => ?_) ?_
                · refine Only.step (initRegion_only ..) rfl ?_
                  assumption
                · refine Only.foldl (fun _ _ _ => ?_) ?_
                  · refine Only.step (writeTile_only ..) rfl ?_
                    assumption
                  · exact Only.refl _ _
              · refine Only.ite ?_ ?_
                · refine Only.step (seqsLost_only ..) rfl ?_
                  refine Only.step (latchCheck_only ..) rfl ?_
                  refine Only.foldl (fun _ _ _ => ?_) ?_
                  · refine Only.step (initRegion_only ..) rfl ?_
                    assumption
                  · refine Only.foldl (fun _ _ _ => ?_) ?_
                    · refine Only.step (writeTile_only ..) rfl ?_
                      assumption
                    · exact Only.refl _ _
                · refine Only.step (latchCheck_only ..) rfl ?_
                  refine Only.foldl (fun _ _ _ => ?_) ?_
                  · refine Only.step (initRegion_only ..) rfl ?_
                    assumption
                  · refine Only.foldl (fun _ _ _ => ?_) ?_
                    · refine Only.step (writeTile_only ..) rfl ?_
                      assumption
                    · exact Only.refl _ _
            · split
              · refine Only.step (reload_only ..) rfl ?_
                refine Only.step (latchCheck_only ..) rfl ?_
                refine Only.foldl (fun _ _ _ => ?_) ?_
                · refine Only.step (initRegion_only ..) rfl ?_
                  assumption
                · refine Only.foldl (fun _ _ _ => ?_) ?_
                  · refine Only.step (writeTile_only ..) rfl ?_
                    assumption
                  · exact Only.refl _ _
              · refine Only.ite ?_ ?_
                · refine Only.step (seqsLost_only ..) rfl ?_
                  refine Only.step (latchCheck_only ..) rfl ?_
                  refine Only.foldl (fun _ _ _ => ?_) ?_
                  · refine Only.step (initRegion_only ..) rfl ?_
                    assumption
                  · refine Only.foldl (fun _ _ _ => ?_) ?_
                    · refine Only.step (writeTile_only ..) rfl ?_
                      assumption
                    · exact Only.refl _ _
                · refine Only.step (latchCheck_only ..) rfl ?_
                  refine Only.foldl (fun _ _ _ => ?_) ?_
                  · refine Only.step (initRegion_only ..) rfl ?_
                    assumption
                  · refine Only.foldl (fun _ _ _ => ?_) ?_
                    · refine Only.step (writeTile_only ..) rfl ?_
                      assumption
                    · exact Only.refl _ _

theorem restoreAll_only (s : State) : Only 0xe80a0100000000387a74db0 s (restoreAll s) := by
  unfold restoreAll
  dsimp only
  refine Only.step (reviewAll_only ..) rfl ?_
  refine Only.step (raise_only ..) rfl ?_
  refine Only.set_power_life rfl rfl ?_ _ _
  refine Only.foldl (fun _ _ _ => ?_) ?_
  · refine Only.step (restorePart_only ..) rfl ?_
    assumption
  · exact Only.refl _ _

theorem stepDone_only (s : State) (bad : List Nat) (evals : List Sys2Proof.BankEval) : Only 0xe84a090517270b7ffffddb0 s (stepDone s bad evals) := by
  unfold stepDone
  dsimp only
  split
  · refine Only.set_life rfl ?_ _
    exact Only.refl _ _
  · refine Only.ite ?_ ?_
    · exact Only.refl _ _
    · refine Only.set_life rfl ?_ _
      exact Only.refl _ _
  · refine Only.set_life rfl ?_ _
    refine Only.step (startBlocks_only ..) rfl ?_
    exact Only.refl _ _
  · refine Only.set_life rfl ?_ _
    refine Only.step (startLinks_only ..) rfl ?_
    exact Only.refl _ _
  · refine Only.set_life rfl ?_ _
    refine Only.step (trainStacks_only ..) rfl ?_
    exact Only.refl _ _
  · refine Only.set_life rfl ?_ _
    refine Only.step (checkWeights_only ..) rfl ?_
    exact Only.refl _ _
  · refine Only.step (restoreAll_only ..) rfl ?_
    exact Only.refl _ _
  · exact Only.refl _ _

theorem execPowerOnStepDone_only (bad : List Nat) (evals : List Sys2Proof.BankEval) (s : State) : OnlyO 0xe84a090517270b7ffffddb0 s (execPowerOnStepDone bad evals s) := by
  unfold execPowerOnStepDone
  refine OnlyO.ite ?_ ?_
  · refine OnlyO.next ?_
    refine Only.step (stepDone_only ..) rfl ?_
    exact Only.refl _ _
  · refine OnlyO.next ?_
    exact Only.refl _ _

theorem execPowerOnStepOverrun_only (bad : List Nat) (evals : List Sys2Proof.BankEval) (s : State) : OnlyO 0xe84a090517270b7ffffddb0 s (execPowerOnStepOverrun bad evals s) := by
  unfold execPowerOnStepOverrun
  refine OnlyO.ite ?_ ?_
  · dsimp only
    refine OnlyO.next ?_
    refine Only.step (stepDone_only ..) rfl ?_
    refine Only.ite ?_ ?_
    · exact Only.refl _ _
    · refine Only.step (raise_only ..) rfl ?_
      refine Only.set_life rfl ?_ _
      exact Only.refl _ _
  · refine OnlyO.next ?_
    exact Only.refl _ _

end Sys2Proof.Machine
end

