-- ==== Sys2Proof/Laws/KeepsPowerOn.lean ====
section
/-! SUPPORT. Each operation of Machine/PowerOn.lean keeps: the form of the memories and the bounds of the stores. -/
namespace Sys2Proof.Machine

theorem moveHub_keeps (s : State) (p : Nat) : Keeps s (moveHub s p) := by
  unfold moveHub
  split
  · refine Keeps.of_only (updPart_only _ _ _) rfl ?_
    exact Keeps.refl _
  · refine Keeps.step (raiseRc_keeps ..) ?_
    refine Keeps.of_only (updPart_only _ _ _) rfl ?_
    exact Keeps.refl _

theorem hubLost_keeps (l : Nat) (s : State) (p : Nat) : Keeps s (hubLost l s p) := by
  unfold hubLost
  dsimp only
  refine Keeps.ite ?_ ?_
  · exact Keeps.refl _
  · refine Keeps.ite ?_ ?_
    · refine Keeps.ite ?_ ?_
      · split
        · refine Keeps.ite ?_ ?_
          · exact Keeps.refl _
          · refine Keeps.step (engineFault_keeps ..) ?_
            exact Keeps.refl _
        · exact Keeps.refl _
      · refine Keeps.step (moveHub_keeps ..) ?_
        split
        · refine Keeps.ite ?_ ?_
          · exact Keeps.refl _
          · refine Keeps.step (engineFault_keeps ..) ?_
            exact Keeps.refl _
        · exact Keeps.refl _
    · refine Keeps.ite ?_ ?_
      · refine Keeps.of_only (updPart_only _ _ _) rfl ?_
        exact Keeps.refl _
      · exact Keeps.refl _

theorem linkDieDown_keeps (s : State) (l : Nat) : Keeps s (linkDieDown s l) := by
  unfold linkDieDown
  dsimp only
  refine Keeps.foldl (fun _ _ _ => ?_) ?_
  · refine Keeps.step (hubLost_keeps ..) ?_
    assumption
  · refine Keeps.foldl (fun _ _ _ => ?_) ?_
    · refine Keeps.of_only (linkChange_only _ _ _) rfl ?_
      assumption
    · refine Keeps.of_only (setCond_only _ _ _) rfl ?_
      refine Keeps.of_only (Only.set_ldDown (m := 4611686018427387904) rfl (Only.refl _ _) _) rfl ?_
      exact Keeps.refl _

theorem execHubLinkDieFail_keeps (l : Nat) (s : State) : KeepsO s (execHubLinkDieFail l s) := by
  unfold execHubLinkDieFail
  refine KeepsO.ite ?_ ?_
  · exact KeepsO.fault _ _
  · refine KeepsO.ite ?_ ?_
    · refine KeepsO.next ?_
      exact Keeps.refl _
    · dsimp only
      refine KeepsO.next ?_
      refine Keeps.of_only (kennelAdd_only _ _) rfl ?_
      refine Keeps.step (raiseRc_keeps ..) ?_
      refine Keeps.step (linkDieDown_keeps ..) ?_
      exact Keeps.refl _

theorem startBlocks_keeps (s : State) (bad : List Nat) : Keeps s (startBlocks s bad) := by
  unfold startBlocks
  dsimp only
  refine Keeps.foldl (fun _ _ _ => ?_) ?_
  · refine Keeps.step (loseBlock_keeps ..) ?_
    assumption
  · refine Keeps.foldl (fun _ _ _ => ?_) ?_
    · refine Keeps.of_only (vlogOn_only _ _) rfl ?_
      refine Keeps.of_only (blockCond_only _ _) rfl ?_
      assumption
    · refine Keeps.of_only (Only.set_dict_blockSt_blocks_tieLost (m := 23080948090273824) rfl rfl rfl rfl (Only.refl _ _) _ _ _ _) rfl ?_
      exact Keeps.refl _

theorem startLinks_keeps (s : State) (bad : List Nat) : Keeps s (startLinks s bad) := by
  unfold startLinks
  dsimp only
  refine Keeps.of_only (setCond_only _ _ _) rfl ?_
  refine Keeps.of_only (setObj_only _ _ _ _ _) rfl ?_
  refine Keeps.of_only (Only.set_refDown (m := 1152921504606846976) rfl (Only.refl _ _) _) rfl ?_
  refine Keeps.foldl (fun _ _ _ => ?_) ?_
  · refine Keeps.ite ?_ ?_
    · refine Keeps.ite ?_ ?_
      · assumption
      · refine Keeps.step (linkDieDown_keeps ..) ?_
        assumption
    · refine Keeps.ite ?_ ?_
      · refine Keeps.of_only (linkDieBack_only _ _) rfl ?_
        assumption
      · assumption
  · exact Keeps.refl _

theorem trainStacks_keeps (s : State) (bad : List Nat) : Keeps s (trainStacks s bad) := by
  unfold trainStacks
  refine Keeps.foldl (fun _ _ _ => ?_) ?_
  · refine Keeps.ite ?_ ?_
    · refine Keeps.step (kennelEvent_keeps ..) ?_
      refine Keeps.step (raiseRc_keeps ..) ?_
      refine Keeps.of_only (stackCond_only _ _) rfl ?_
      refine Keeps.of_only (setStack_only _ _ _) rfl ?_
      assumption
    · refine Keeps.ite ?_ ?_
      · refine Keeps.of_only (stackCond_only _ _) rfl ?_
        refine Keeps.of_only (setStack_only _ _ _) rfl ?_
        assumption
      · assumption
  · exact Keeps.refl _

theorem integrityFail_keeps (s : State) (k : Nat) : Keeps s (integrityFail s k) := by
  unfold integrityFail
  refine Keeps.ite ?_ ?_
  · refine Keeps.step (raiseRc_keeps ..) ?_
    refine Keeps.of_only (updBank_only _ _ _) rfl ?_
    exact Keeps.refl _
  · exact Keeps.refl _

theorem checkBank_keeps (bad : List Nat) (s : State) (e : Sys2Proof.BankEval) : Keeps s (checkBank bad s e) := by
  unfold checkBank
  dsimp only
  refine Keeps.ite ?_ ?_
  · refine Keeps.ite ?_ ?_
    · refine Keeps.step (integrityFail_keeps ..) ?_
      exact Keeps.refl _
    · refine Keeps.of_only (probed_only _ _ _) rfl ?_
      exact Keeps.refl _
  · exact Keeps.refl _

theorem checkWeights_keeps (s : State) (bad : List Nat) (evals : List Sys2Proof.BankEval) : Keeps s (checkWeights s bad evals) := by
  unfold checkWeights
  dsimp only
  refine Keeps.foldl (fun _ _ _ => ?_) ?_
  · refine Keeps.of_only (vpgmRequest_only _ _ _) rfl ?_
    assumption
  · refine Keeps.ite ?_ ?_
    · refine Keeps.foldl (fun _ _ _ => ?_) ?_
      · refine Keeps.ite ?_ ?_
        · refine Keeps.of_only (updBank_only _ _ _) rfl ?_
          assumption
        · assumption
      · refine Keeps.foldl (fun _ _ _ => ?_) ?_
        · refine Keeps.step (integrityFail_keeps ..) ?_
          assumption
        · refine Keeps.foldl (fun _ _ _ => ?_) ?_
          · refine Keeps.step (checkBank_keeps ..) ?_
            assumption
          · refine Keeps.foldl (fun _ _ _ => ?_) ?_
            · refine Keeps.ite ?_ ?_
              · refine Keeps.of_only (loadTable_only _ _) rfl ?_
                assumption
              · assumption
            · exact Keeps.refl _
    · refine Keeps.foldl (fun _ _ _ => ?_) ?_
      · refine Keeps.step (integrityFail_keeps ..) ?_
        assumption
      · refine Keeps.foldl (fun _ _ _ => ?_) ?_
        · refine Keeps.step (checkBank_keeps ..) ?_
          assumption
        · refine Keeps.foldl (fun _ _ _ => ?_) ?_
          · refine Keeps.ite ?_ ?_
            · refine Keeps.of_only (loadTable_only _ _) rfl ?_
              assumption
            · assumption
          · exact Keeps.refl _

theorem reload_keeps (s : State) (p : Nat) (v : Saved) : Keeps s (reload s p v) := by
  unfold reload
  dsimp only
  refine Keeps.of_only (updPart_only _ _ _) rfl ?_
  refine Keeps.foldl (fun _ _ _ => ?_) ?_
  · refine Keeps.step (pvaWrite_keeps ..) ?_
    assumption
  · refine Keeps.foldl (fun _ _ _ => ?_) ?_
    · refine Keeps.of_only (Only.set_kvSets (m := 262144) rfl (Only.refl _ _) _) rfl ?_
      assumption
    · refine Keeps.foldl (fun _ _ _ => ?_) ?_
      · refine Keeps.of_only (Only.set_seqs (m := 131072) rfl (Only.refl _ _) _) rfl ?_
        assumption
      · exact Keeps.refl _

theorem seqsLost_keeps (s : State) (p : Nat) : Keeps s (seqsLost s p) := by
  unfold seqsLost
  dsimp only
  refine Keeps.of_only (updPart_only _ _ _) rfl ?_
  refine Keeps.ite ?_ ?_
  · refine Keeps.step (raiseRc_keeps ..) ?_
    exact Keeps.refl _
  · exact Keeps.refl _

theorem unhealthyCause_keeps (s : State) (p : Nat) : Keeps s (unhealthyCause s p) := by
  unfold unhealthyCause
  refine Keeps.step (raise_keeps ..) ?_
  refine Keeps.of_only (updPart_only _ _ _) rfl ?_
  exact Keeps.refl _

theorem restorePart_keeps (s : State) (p : Nat) : Keeps s (restorePart s p) := by
  unfold restorePart
  dsimp only
  refine Keeps.ite ?_ ?_
  · exact Keeps.refl _
  · refine Keeps.ite ?_ ?_
    · refine Keeps.of_only (openLinks_only _ _) rfl ?_
      refine Keeps.of_only (groupEnter_only _ _) rfl ?_
      refine Keeps.of_only (armExports_only _ _) rfl ?_
      refine Keeps.ite ?_ ?_
      · refine Keeps.step (unhealthyCause_keeps ..) ?_
        refine Keeps.ite ?_ ?_
        · refine Keeps.of_only (setPState_only _ _ _) rfl ?_
          refine Keeps.ite ?_ ?_
          · refine Keeps.step (stageAll_keeps ..) ?_
            refine Keeps.ite ?_ ?_
            · refine Keeps.step (forceBand_keeps ..) ?_
              split
              · refine Keeps.step (reload_keeps ..) ?_
                refine Keeps.of_only (latchCheck_only _ _) rfl ?_
                refine Keeps.foldl (fun _ _ _ => ?_) ?_
                · refine Keeps.step (initRegion_keeps ..) ?_
                  assumption
                · refine Keeps.foldl (fun _ _ _ => ?_) ?_
                  · refine Keeps.step (writeTile_keeps ..) ?_
                    assumption
                  · exact Keeps.refl _
              · refine Keeps.ite ?_ ?_
                · refine Keeps.step (seqsLost_keeps ..) ?_
                  refine Keeps.of_only (latchCheck_only _ _) rfl ?_
                  refine Keeps.foldl (fun _ _ _ => ?_) ?_
                  · refine Keeps.step (initRegion_keeps ..) ?_
                    assumption
                  · refine Keeps.foldl (fun _ _ _ => ?_) ?_
                    · refine Keeps.step (writeTile_keeps ..) ?_
                      assumption
                    · exact Keeps.refl _
                · refine Keeps.of_only (latchCheck_only _ _) rfl ?_
                  refine Keeps.foldl (fun _ _ _ => ?_) ?_
                  · refine Keeps.step (initRegion_keeps ..) ?_
                    assumption
                  · refine Keeps.foldl (fun _ _ _ => ?_) ?_
                    · refine Keeps.step (writeTile_keeps ..) ?_
                      assumption
                    · exact Keeps.refl _
            · split
              · refine Keeps.step (reload_keeps ..) ?_
                refine Keeps.of_only (latchCheck_only _ _) rfl ?_
                refine Keeps.foldl (fun _ _ _ => ?_) ?_
                · refine Keeps.step (initRegion_keeps ..) ?_
                  assumption
                · refine Keeps.foldl (fun _ _ _ => ?_) ?_
                  · refine Keeps.step (writeTile_keeps ..) ?_
                    assumption
                  · exact Keeps.refl _
              · refine Keeps.ite ?_ ?_
                · refine Keeps.step (seqsLost_keeps ..) ?_
                  refine Keeps.of_only (latchCheck_only _ _) rfl ?_
                  refine Keeps.foldl (fun _ _ _ => ?_) ?_
                  · refine Keeps.step (initRegion_keeps ..) ?_
                    assumption
                  · refine Keeps.foldl (fun _ _ _ => ?_) ?_
                    · refine Keeps.step (writeTile_keeps ..) ?_
                      assumption
                    · exact Keeps.refl _
                · refine Keeps.of_only (latchCheck_only _ _) rfl ?_
                  refine Keeps.foldl (fun _ _ _ => ?_) ?_
                  · refine Keeps.step (initRegion_keeps ..) ?_
                    assumption
                  · refine Keeps.foldl (fun _ _ _ => ?_) ?_
                    · refine Keeps.step (writeTile_keeps ..) ?_
                      assumption
                    · exact Keeps.refl _
          · refine Keeps.ite ?_ ?_
            · refine Keeps.step (forceBand_keeps ..) ?_
              split
              · refine Keeps.step (reload_keeps ..) ?_
                refine Keeps.of_only (latchCheck_only _ _) rfl ?_
                refine Keeps.foldl (fun _ _ _ => ?_) ?_
                · refine Keeps.step (initRegion_keeps ..) ?_
                  assumption
                · refine Keeps.foldl (fun _ _ _ => ?_) ?_
                  · refine Keeps.step (writeTile_keeps ..) ?_
                    assumption
                  · exact Keeps.refl _
              · refine Keeps.ite ?_ ?_
                · refine Keeps.step (seqsLost_keeps ..) ?_
                  refine Keeps.of_only (latchCheck_only _ _) rfl ?_
                  refine Keeps.foldl (fun _ _ _ => ?_) ?_
                  · refine Keeps.step (initRegion_keeps ..) ?_
                    assumption
                  · refine Keeps.foldl (fun _ _ _ => ?_) ?_
                    · refine Keeps.step (writeTile_keeps ..) ?_
                      assumption
                    · exact Keeps.refl _
                · refine Keeps.of_only (latchCheck_only _ _) rfl ?_
                  refine Keeps.foldl (fun _ _ _ => ?_) ?_
                  · refine Keeps.step (initRegion_keeps ..) ?_
                    assumption
                  · refine Keeps.foldl (fun _ _ _ => ?_) ?_
                    · refine Keeps.step (writeTile_keeps ..) ?_
                      assumption
                    · exact Keeps.refl _
            · split
              · refine Keeps.step (reload_keeps ..) ?_
                refine Keeps.of_only (latchCheck_only _ _) rfl ?_
                refine Keeps.foldl (fun _ _ _ => ?_) ?_
                · refine Keeps.step (initRegion_keeps ..) ?_
                  assumption
                · refine Keeps.foldl (fun _ _ _ => ?_) ?_
                  · refine Keeps.step (writeTile_keeps ..) ?_
                    assumption
                  · exact Keeps.refl _
              · refine Keeps.ite ?_ ?_
                · refine Keeps.step (seqsLost_keeps ..) ?_
                  refine Keeps.of_only (latchCheck_only _ _) rfl ?_
                  refine Keeps.foldl (fun _ _ _ => ?_) ?_
                  · refine Keeps.step (initRegion_keeps ..) ?_
                    assumption
                  · refine Keeps.foldl (fun _ _ _ => ?_) ?_
                    · refine Keeps.step (writeTile_keeps ..) ?_
                      assumption
                    · exact Keeps.refl _
                · refine Keeps.of_only (latchCheck_only _ _) rfl ?_
                  refine Keeps.foldl (fun _ _ _ => ?_) ?_
                  · refine Keeps.step (initRegion_keeps ..) ?_
                    assumption
                  · refine Keeps.foldl (fun _ _ _ => ?_) ?_
                    · refine Keeps.step (writeTile_keeps ..) ?_
                      assumption
                    · exact Keeps.refl _
        · refine Keeps.ite ?_ ?_
          · refine Keeps.step (stageAll_keeps ..) ?_
            refine Keeps.ite ?_ ?_
            · refine Keeps.step (forceBand_keeps ..) ?_
              split
              · refine Keeps.step (reload_keeps ..) ?_
                refine Keeps.of_only (latchCheck_only _ _) rfl ?_
                refine Keeps.foldl (fun _ _ _ => ?_) ?_
                · refine Keeps.step (initRegion_keeps ..) ?_
                  assumption
                · refine Keeps.foldl (fun _ _ _ => ?_) ?_
                  · refine Keeps.step (writeTile_keeps ..) ?_
                    assumption
                  · exact Keeps.refl _
              · refine Keeps.ite ?_ ?_
                · refine Keeps.step (seqsLost_keeps ..) ?_
                  refine Keeps.of_only (latchCheck_only _ _) rfl ?_
                  refine Keeps.foldl (fun _ _ _ => ?_) ?_
                  · refine Keeps.step (initRegion_keeps ..) ?_
                    assumption
                  · refine Keeps.foldl (fun _ _ _ => ?_) ?_
                    · refine Keeps.step (writeTile_keeps ..) ?_
                      assumption
                    · exact Keeps.refl _
                · refine Keeps.of_only (latchCheck_only _ _) rfl ?_
                  refine Keeps.foldl (fun _ _ _ => ?_) ?_
                  · refine Keeps.step (initRegion_keeps ..) ?_
                    assumption
                  · refine Keeps.foldl (fun _ _ _ => ?_) ?_
                    · refine Keeps.step (writeTile_keeps ..) ?_
                      assumption
                    · exact Keeps.refl _
            · split
              · refine Keeps.step (reload_keeps ..) ?_
                refine Keeps.of_only (latchCheck_only _ _) rfl ?_
                refine Keeps.foldl (fun _ _ _ => ?_) ?_
                · refine Keeps.step (initRegion_keeps ..) ?_
                  assumption
                · refine Keeps.foldl (fun _ _ _ => ?_) ?_
                  · refine Keeps.step (writeTile_keeps ..) ?_
                    assumption
                  · exact Keeps.refl _
              · refine Keeps.ite ?_ ?_
                · refine Keeps.step (seqsLost_keeps ..) ?_
                  refine Keeps.of_only (latchCheck_only _ _) rfl ?_
                  refine Keeps.foldl (fun _ _ _ => ?_) ?_
                  · refine Keeps.step (initRegion_keeps ..) ?_
                    assumption
                  · refine Keeps.foldl (fun _ _ _ => ?_) ?_
                    · refine Keeps.step (writeTile_keeps ..) ?_
                      assumption
                    · exact Keeps.refl _
                · refine Keeps.of_only (latchCheck_only _ _) rfl ?_
                  refine Keeps.foldl (fun _ _ _ => ?_) ?_
                  · refine Keeps.step (initRegion_keeps ..) ?_
                    assumption
                  · refine Keeps.foldl (fun _ _ _ => ?_) ?_
                    · refine Keeps.step (writeTile_keeps ..) ?_
                      assumption
                    · exact Keeps.refl _
          · refine Keeps.ite ?_ ?_
            · refine Keeps.step (forceBand_keeps ..) ?_
              split
              · refine Keeps.step (reload_keeps ..) ?_
                refine Keeps.of_only (latchCheck_only _ _) rfl ?_
                refine Keeps.foldl (fun _ _ _ => ?_) ?_
                · refine Keeps.step (initRegion_keeps ..) ?_
                  assumption
                · refine Keeps.foldl (fun _ _ _ => ?_) ?_
                  · refine Keeps.step (writeTile_keeps ..) ?_
                    assumption
                  · exact Keeps.refl _
              · refine Keeps.ite ?_ ?_
                · refine Keeps.step (seqsLost_keeps ..) ?_
                  refine Keeps.of_only (latchCheck_only _ _) rfl ?_
                  refine Keeps.foldl (fun _ _ _ => ?_) ?_
                  · refine Keeps.step (initRegion_keeps ..) ?_
                    assumption
                  · refine Keeps.foldl (fun _ _ _ => ?_) ?_
                    · refine Keeps.step (writeTile_keeps ..) ?_
                      assumption
                    · exact Keeps.refl _
                · refine Keeps.of_only (latchCheck_only _ _) rfl ?_
                  refine Keeps.foldl (fun _ _ _ => ?_) ?_
                  · refine Keeps.step (initRegion_keeps ..) ?_
                    assumption
                  · refine Keeps.foldl (fun _ _ _ => ?_) ?_
                    · refine Keeps.step (writeTile_keeps ..) ?_
                      assumption
                    · exact Keeps.refl _
            · split
              · refine Keeps.step (reload_keeps ..) ?_
                refine Keeps.of_only (latchCheck_only _ _) rfl ?_
                refine Keeps.foldl (fun _ _ _ => ?_) ?_
                · refine Keeps.step (initRegion_keeps ..) ?_
                  assumption
                · refine Keeps.foldl (fun _ _ _ => ?_) ?_
                  · refine Keeps.step (writeTile_keeps ..) ?_
                    assumption
                  · exact Keeps.refl _
              · refine Keeps.ite ?_ ?_
                · refine Keeps.step (seqsLost_keeps ..) ?_
                  refine Keeps.of_only (latchCheck_only _ _) rfl ?_
                  refine Keeps.foldl (fun _ _ _ => ?_) ?_
                  · refine Keeps.step (initRegion_keeps ..) ?_
                    assumption
                  · refine Keeps.foldl (fun _ _ _ => ?_) ?_
                    · refine Keeps.step (writeTile_keeps ..) ?_
                      assumption
                    · exact Keeps.refl _
                · refine Keeps.of_only (latchCheck_only _ _) rfl ?_
                  refine Keeps.foldl (fun _ _ _ => ?_) ?_
                  · refine Keeps.step (initRegion_keeps ..) ?_
                    assumption
                  · refine Keeps.foldl (fun _ _ _ => ?_) ?_
                    · refine Keeps.step (writeTile_keeps ..) ?_
                      assumption
                    · exact Keeps.refl _
      · refine Keeps.ite ?_ ?_
        · refine Keeps.of_only (setPState_only _ _ _) rfl ?_
          refine Keeps.ite ?_ ?_
          · refine Keeps.step (stageAll_keeps ..) ?_
            refine Keeps.ite ?_ ?_
            · refine Keeps.step (forceBand_keeps ..) ?_
              split
              · refine Keeps.step (reload_keeps ..) ?_
                refine Keeps.of_only (latchCheck_only _ _) rfl ?_
                refine Keeps.foldl (fun _ _ _ => ?_) ?_
                · refine Keeps.step (initRegion_keeps ..) ?_
                  assumption
                · refine Keeps.foldl (fun _ _ _ => ?_) ?_
                  · refine Keeps.step (writeTile_keeps ..) ?_
                    assumption
                  · exact Keeps.refl _
              · refine Keeps.ite ?_ ?_
                · refine Keeps.step (seqsLost_keeps ..) ?_
                  refine Keeps.of_only (latchCheck_only _ _) rfl ?_
                  refine Keeps.foldl (fun _ _ _ => ?_) ?_
                  · refine Keeps.step (initRegion_keeps ..) ?_
                    assumption
                  · refine Keeps.foldl (fun _ _ _ => ?_) ?_
                    · refine Keeps.step (writeTile_keeps ..) ?_
                      assumption
                    · exact Keeps.refl _
                · refine Keeps.of_only (latchCheck_only _ _) rfl ?_
                  refine Keeps.foldl (fun _ _ _ => ?_) ?_
                  · refine Keeps.step (initRegion_keeps ..) ?_
                    assumption
                  · refine Keeps.foldl (fun _ _ _ => ?_) ?_
                    · refine Keeps.step (writeTile_keeps ..) ?_
                      assumption
                    · exact Keeps.refl _
            · split
              · refine Keeps.step (reload_keeps ..) ?_
                refine Keeps.of_only (latchCheck_only _ _) rfl ?_
                refine Keeps.foldl (fun _ _ _ => ?_) ?_
                · refine Keeps.step (initRegion_keeps ..) ?_
                  assumption
                · refine Keeps.foldl (fun _ _ _ => ?_) ?_
                  · refine Keeps.step (writeTile_keeps ..) ?_
                    assumption
                  · exact Keeps.refl _
              · refine Keeps.ite ?_ ?_
                · refine Keeps.step (seqsLost_keeps ..) ?_
                  refine Keeps.of_only (latchCheck_only _ _) rfl ?_
                  refine Keeps.foldl (fun _ _ _ => ?_) ?_
                  · refine Keeps.step (initRegion_keeps ..) ?_
                    assumption
                  · refine Keeps.foldl (fun _ _ _ => ?_) ?_
                    · refine Keeps.step (writeTile_keeps ..) ?_
                      assumption
                    · exact Keeps.refl _
                · refine Keeps.of_only (latchCheck_only _ _) rfl ?_
                  refine Keeps.foldl (fun _ _ _ => ?_) ?_
                  · refine Keeps.step (initRegion_keeps ..) ?_
                    assumption
                  · refine Keeps.foldl (fun _ _ _ => ?_) ?_
                    · refine Keeps.step (writeTile_keeps ..) ?_
                      assumption
                    · exact Keeps.refl _
          · refine Keeps.ite ?_ ?_
            · refine Keeps.step (forceBand_keeps ..) ?_
              split
              · refine Keeps.step (reload_keeps ..) ?_
                refine Keeps.of_only (latchCheck_only _ _) rfl ?_
                refine Keeps.foldl (fun _ _ _ => ?_) ?_
                · refine Keeps.step (initRegion_keeps ..) ?_
                  assumption
                · refine Keeps.foldl (fun _ _ _ => ?_) ?_
                  · refine Keeps.step (writeTile_keeps ..) ?_
                    assumption
                  · exact Keeps.refl _
              · refine Keeps.ite ?_ ?_
                · refine Keeps.step (seqsLost_keeps ..) ?_
                  refine Keeps.of_only (latchCheck_only _ _) rfl ?_
                  refine Keeps.foldl (fun _ _ _ => ?_) ?_
                  · refine Keeps.step (initRegion_keeps ..) ?_
                    assumption
                  · refine Keeps.foldl (fun _ _ _ => ?_) ?_
                    · refine Keeps.step (writeTile_keeps ..) ?_
                      assumption
                    · exact Keeps.refl _
                · refine Keeps.of_only (latchCheck_only _ _) rfl ?_
                  refine Keeps.foldl (fun _ _ _ => ?_) ?_
                  · refine Keeps.step (initRegion_keeps ..) ?_
                    assumption
                  · refine Keeps.foldl (fun _ _ _ => ?_) ?_
                    · refine Keeps.step (writeTile_keeps ..) ?_
                      assumption
                    · exact Keeps.refl _
            · split
              · refine Keeps.step (reload_keeps ..) ?_
                refine Keeps.of_only (latchCheck_only _ _) rfl ?_
                refine Keeps.foldl (fun _ _ _ => ?_) ?_
                · refine Keeps.step (initRegion_keeps ..) ?_
                  assumption
                · refine Keeps.foldl (fun _ _ _ => ?_) ?_
                  · refine Keeps.step (writeTile_keeps ..) ?_
                    assumption
                  · exact Keeps.refl _
              · refine Keeps.ite ?_ ?_
                · refine Keeps.step (seqsLost_keeps ..) ?_
                  refine Keeps.of_only (latchCheck_only _ _) rfl ?_
                  refine Keeps.foldl (fun _ _ _ => ?_) ?_
                  · refine Keeps.step (initRegion_keeps ..) ?_
                    assumption
                  · refine Keeps.foldl (fun _ _ _ => ?_) ?_
                    · refine Keeps.step (writeTile_keeps ..) ?_
                      assumption
                    · exact Keeps.refl _
                · refine Keeps.of_only (latchCheck_only _ _) rfl ?_
                  refine Keeps.foldl (fun _ _ _ => ?_) ?_
                  · refine Keeps.step (initRegion_keeps ..) ?_
                    assumption
                  · refine Keeps.foldl (fun _ _ _ => ?_) ?_
                    · refine Keeps.step (writeTile_keeps ..) ?_
                      assumption
                    · exact Keeps.refl _
        · refine Keeps.ite ?_ ?_
          · refine Keeps.step (stageAll_keeps ..) ?_
            refine Keeps.ite ?_ ?_
            · refine Keeps.step (forceBand_keeps ..) ?_
              split
              · refine Keeps.step (reload_keeps ..) ?_
                refine Keeps.of_only (latchCheck_only _ _) rfl ?_
                refine Keeps.foldl (fun _ _ _ => ?_) ?_
                · refine Keeps.step (initRegion_keeps ..) ?_
                  assumption
                · refine Keeps.foldl (fun _ _ _ => ?_) ?_
                  · refine Keeps.step (writeTile_keeps ..) ?_
                    assumption
                  · exact Keeps.refl _
              · refine Keeps.ite ?_ ?_
                · refine Keeps.step (seqsLost_keeps ..) ?_
                  refine Keeps.of_only (latchCheck_only _ _) rfl ?_
                  refine Keeps.foldl (fun _ _ _ => ?_) ?_
                  · refine Keeps.step (initRegion_keeps ..) ?_
                    assumption
                  · refine Keeps.foldl (fun _ _ _ => ?_) ?_
                    · refine Keeps.step (writeTile_keeps ..) ?_
                      assumption
                    · exact Keeps.refl _
                · refine Keeps.of_only (latchCheck_only _ _) rfl ?_
                  refine Keeps.foldl (fun _ _ _ => ?_) ?_
                  · refine Keeps.step (initRegion_keeps ..) ?_
                    assumption
                  · refine Keeps.foldl (fun _ _ _ => ?_) ?_
                    · refine Keeps.step (writeTile_keeps ..) ?_
                      assumption
                    · exact Keeps.refl _
            · split
              · refine Keeps.step (reload_keeps ..) ?_
                refine Keeps.of_only (latchCheck_only _ _) rfl ?_
                refine Keeps.foldl (fun _ _ _ => ?_) ?_
                · refine Keeps.step (initRegion_keeps ..) ?_
                  assumption
                · refine Keeps.foldl (fun _ _ _ => ?_) ?_
                  · refine Keeps.step (writeTile_keeps ..) ?_
                    assumption
                  · exact Keeps.refl _
              · refine Keeps.ite ?_ ?_
                · refine Keeps.step (seqsLost_keeps ..) ?_
                  refine Keeps.of_only (latchCheck_only _ _) rfl ?_
                  refine Keeps.foldl (fun _ _ _ => ?_) ?_
                  · refine Keeps.step (initRegion_keeps ..) ?_
                    assumption
                  · refine Keeps.foldl (fun _ _ _ => ?_) ?_
                    · refine Keeps.step (writeTile_keeps ..) ?_
                      assumption
                    · exact Keeps.refl _
                · refine Keeps.of_only (latchCheck_only _ _) rfl ?_
                  refine Keeps.foldl (fun _ _ _ => ?_) ?_
                  · refine Keeps.step (initRegion_keeps ..) ?_
                    assumption
                  · refine Keeps.foldl (fun _ _ _ => ?_) ?_
                    · refine Keeps.step (writeTile_keeps ..) ?_
                      assumption
                    · exact Keeps.refl _
          · refine Keeps.ite ?_ ?_
            · refine Keeps.step (forceBand_keeps ..) ?_
              split
              · refine Keeps.step (reload_keeps ..) ?_
                refine Keeps.of_only (latchCheck_only _ _) rfl ?_
                refine Keeps.foldl (fun _ _ _ => ?_) ?_
                · refine Keeps.step (initRegion_keeps ..) ?_
                  assumption
                · refine Keeps.foldl (fun _ _ _ => ?_) ?_
                  · refine Keeps.step (writeTile_keeps ..) ?_
                    assumption
                  · exact Keeps.refl _
              · refine Keeps.ite ?_ ?_
                · refine Keeps.step (seqsLost_keeps ..) ?_
                  refine Keeps.of_only (latchCheck_only _ _) rfl ?_
                  refine Keeps.foldl (fun _ _ _ => ?_) ?_
                  · refine Keeps.step (initRegion_keeps ..) ?_
                    assumption
                  · refine Keeps.foldl (fun _ _ _ => ?_) ?_
                    · refine Keeps.step (writeTile_keeps ..) ?_
                      assumption
                    · exact Keeps.refl _
                · refine Keeps.of_only (latchCheck_only _ _) rfl ?_
                  refine Keeps.foldl (fun _ _ _ => ?_) ?_
                  · refine Keeps.step (initRegion_keeps ..) ?_
                    assumption
                  · refine Keeps.foldl (fun _ _ _ => ?_) ?_
                    · refine Keeps.step (writeTile_keeps ..) ?_
                      assumption
                    · exact Keeps.refl _
            · split
              · refine Keeps.step (reload_keeps ..) ?_
                refine Keeps.of_only (latchCheck_only _ _) rfl ?_
                refine Keeps.foldl (fun _ _ _ => ?_) ?_
                · refine Keeps.step (initRegion_keeps ..) ?_
                  assumption
                · refine Keeps.foldl (fun _ _ _ => ?_) ?_
                  · refine Keeps.step (writeTile_keeps ..) ?_
                    assumption
                  · exact Keeps.refl _
              · refine Keeps.ite ?_ ?_
                · refine Keeps.step (seqsLost_keeps ..) ?_
                  refine Keeps.of_only (latchCheck_only _ _) rfl ?_
                  refine Keeps.foldl (fun _ _ _ => ?_) ?_
                  · refine Keeps.step (initRegion_keeps ..) ?_
                    assumption
                  · refine Keeps.foldl (fun _ _ _ => ?_) ?_
                    · refine Keeps.step (writeTile_keeps ..) ?_
                      assumption
                    · exact Keeps.refl _
                · refine Keeps.of_only (latchCheck_only _ _) rfl ?_
                  refine Keeps.foldl (fun _ _ _ => ?_) ?_
                  · refine Keeps.step (initRegion_keeps ..) ?_
                    assumption
                  · refine Keeps.foldl (fun _ _ _ => ?_) ?_
                    · refine Keeps.step (writeTile_keeps ..) ?_
                      assumption
                    · exact Keeps.refl _
    · refine Keeps.ite ?_ ?_
      · refine Keeps.step (unhealthyCause_keeps ..) ?_
        refine Keeps.ite ?_ ?_
        · refine Keeps.of_only (setPState_only _ _ _) rfl ?_
          refine Keeps.ite ?_ ?_
          · refine Keeps.step (stageAll_keeps ..) ?_
            refine Keeps.ite ?_ ?_
            · refine Keeps.step (forceBand_keeps ..) ?_
              split
              · refine Keeps.step (reload_keeps ..) ?_
                refine Keeps.of_only (latchCheck_only _ _) rfl ?_
                refine Keeps.foldl (fun _ _ _ => ?_) ?_
                · refine Keeps.step (initRegion_keeps ..) ?_
                  assumption
                · refine Keeps.foldl (fun _ _ _ => ?_) ?_
                  · refine Keeps.step (writeTile_keeps ..) ?_
                    assumption
                  · exact Keeps.refl _
              · refine Keeps.ite ?_ ?_
                · refine Keeps.step (seqsLost_keeps ..) ?_
                  refine Keeps.of_only (latchCheck_only _ _) rfl ?_
                  refine Keeps.foldl (fun _ _ _ => ?_) ?_
                  · refine Keeps.step (initRegion_keeps ..) ?_
                    assumption
                  · refine Keeps.foldl (fun _ _ _ => ?_) ?_
                    · refine Keeps.step (writeTile_keeps ..) ?_
                      assumption
                    · exact Keeps.refl _
                · refine Keeps.of_only (latchCheck_only _ _) rfl ?_
                  refine Keeps.foldl (fun _ _ _ => ?_) ?_
                  · refine Keeps.step (initRegion_keeps ..) ?_
                    assumption
                  · refine Keeps.foldl (fun _ _ _ => ?_) ?_
                    · refine Keeps.step (writeTile_keeps ..) ?_
                      assumption
                    · exact Keeps.refl _
            · split
              · refine Keeps.step (reload_keeps ..) ?_
                refine Keeps.of_only (latchCheck_only _ _) rfl ?_
                refine Keeps.foldl (fun _ _ _ => ?_) ?_
                · refine Keeps.step (initRegion_keeps ..) ?_
                  assumption
                · refine Keeps.foldl (fun _ _ _ => ?_) ?_
                  · refine Keeps.step (writeTile_keeps ..) ?_
                    assumption
                  · exact Keeps.refl _
              · refine Keeps.ite ?_ ?_
                · refine Keeps.step (seqsLost_keeps ..) ?_
                  refine Keeps.of_only (latchCheck_only _ _) rfl ?_
                  refine Keeps.foldl (fun _ _ _ => ?_) ?_
                  · refine Keeps.step (initRegion_keeps ..) ?_
                    assumption
                  · refine Keeps.foldl (fun _ _ _ => ?_) ?_
                    · refine Keeps.step (writeTile_keeps ..) ?_
                      assumption
                    · exact Keeps.refl _
                · refine Keeps.of_only (latchCheck_only _ _) rfl ?_
                  refine Keeps.foldl (fun _ _ _ => ?_) ?_
                  · refine Keeps.step (initRegion_keeps ..) ?_
                    assumption
                  · refine Keeps.foldl (fun _ _ _ => ?_) ?_
                    · refine Keeps.step (writeTile_keeps ..) ?_
                      assumption
                    · exact Keeps.refl _
          · refine Keeps.ite ?_ ?_
            · refine Keeps.step (forceBand_keeps ..) ?_
              split
              · refine Keeps.step (reload_keeps ..) ?_
                refine Keeps.of_only (latchCheck_only _ _) rfl ?_
                refine Keeps.foldl (fun _ _ _ => ?_) ?_
                · refine Keeps.step (initRegion_keeps ..) ?_
                  assumption
                · refine Keeps.foldl (fun _ _ _ => ?_) ?_
                  · refine Keeps.step (writeTile_keeps ..) ?_
                    assumption
                  · exact Keeps.refl _
              · refine Keeps.ite ?_ ?_
                · refine Keeps.step (seqsLost_keeps ..) ?_
                  refine Keeps.of_only (latchCheck_only _ _) rfl ?_
                  refine Keeps.foldl (fun _ _ _ => ?_) ?_
                  · refine Keeps.step (initRegion_keeps ..) ?_
                    assumption
                  · refine Keeps.foldl (fun _ _ _ => ?_) ?_
                    · refine Keeps.step (writeTile_keeps ..) ?_
                      assumption
                    · exact Keeps.refl _
                · refine Keeps.of_only (latchCheck_only _ _) rfl ?_
                  refine Keeps.foldl (fun _ _ _ => ?_) ?_
                  · refine Keeps.step (initRegion_keeps ..) ?_
                    assumption
                  · refine Keeps.foldl (fun _ _ _ => ?_) ?_
                    · refine Keeps.step (writeTile_keeps ..) ?_
                      assumption
                    · exact Keeps.refl _
            · split
              · refine Keeps.step (reload_keeps ..) ?_
                refine Keeps.of_only (latchCheck_only _ _) rfl ?_
                refine Keeps.foldl (fun _ _ _ => ?_) ?_
                · refine Keeps.step (initRegion_keeps ..) ?_
                  assumption
                · refine Keeps.foldl (fun _ _ _ => ?_) ?_
                  · refine Keeps.step (writeTile_keeps ..) ?_
                    assumption
                  · exact Keeps.refl _
              · refine Keeps.ite ?_ ?_
                · refine Keeps.step (seqsLost_keeps ..) ?_
                  refine Keeps.of_only (latchCheck_only _ _) rfl ?_
                  refine Keeps.foldl (fun _ _ _ => ?_) ?_
                  · refine Keeps.step (initRegion_keeps ..) ?_
                    assumption
                  · refine Keeps.foldl (fun _ _ _ => ?_) ?_
                    · refine Keeps.step (writeTile_keeps ..) ?_
                      assumption
                    · exact Keeps.refl _
                · refine Keeps.of_only (latchCheck_only _ _) rfl ?_
                  refine Keeps.foldl (fun _ _ _ => ?_) ?_
                  · refine Keeps.step (initRegion_keeps ..) ?_
                    assumption
                  · refine Keeps.foldl (fun _ _ _ => ?_) ?_
                    · refine Keeps.step (writeTile_keeps ..) ?_
                      assumption
                    · exact Keeps.refl _
        · refine Keeps.ite ?_ ?_
          · refine Keeps.step (stageAll_keeps ..) ?_
            refine Keeps.ite ?_ ?_
            · refine Keeps.step (forceBand_keeps ..) ?_
              split
              · refine Keeps.step (reload_keeps ..) ?_
                refine Keeps.of_only (latchCheck_only _ _) rfl ?_
                refine Keeps.foldl (fun _ _ _ => ?_) ?_
                · refine Keeps.step (initRegion_keeps ..) ?_
                  assumption
                · refine Keeps.foldl (fun _ _ _ => ?_) ?_
                  · refine Keeps.step (writeTile_keeps ..) ?_
                    assumption
                  · exact Keeps.refl _
              · refine Keeps.ite ?_ ?_
                · refine Keeps.step (seqsLost_keeps ..) ?_
                  refine Keeps.of_only (latchCheck_only _ _) rfl ?_
                  refine Keeps.foldl (fun _ _ _ => ?_) ?_
                  · refine Keeps.step (initRegion_keeps ..) ?_
                    assumption
                  · refine Keeps.foldl (fun _ _ _ => ?_) ?_
                    · refine Keeps.step (writeTile_keeps ..) ?_
                      assumption
                    · exact Keeps.refl _
                · refine Keeps.of_only (latchCheck_only _ _) rfl ?_
                  refine Keeps.foldl (fun _ _ _ => ?_) ?_
                  · refine Keeps.step (initRegion_keeps ..) ?_
                    assumption
                  · refine Keeps.foldl (fun _ _ _ => ?_) ?_
                    · refine Keeps.step (writeTile_keeps ..) ?_
                      assumption
                    · exact Keeps.refl _
            · split
              · refine Keeps.step (reload_keeps ..) ?_
                refine Keeps.of_only (latchCheck_only _ _) rfl ?_
                refine Keeps.foldl (fun _ _ _ => ?_) ?_
                · refine Keeps.step (initRegion_keeps ..) ?_
                  assumption
                · refine Keeps.foldl (fun _ _ _ => ?_) ?_
                  · refine Keeps.step (writeTile_keeps ..) ?_
                    assumption
                  · exact Keeps.refl _
              · refine Keeps.ite ?_ ?_
                · refine Keeps.step (seqsLost_keeps ..) ?_
                  refine Keeps.of_only (latchCheck_only _ _) rfl ?_
                  refine Keeps.foldl (fun _ _ _ => ?_) ?_
                  · refine Keeps.step (initRegion_keeps ..) ?_
                    assumption
                  · refine Keeps.foldl (fun _ _ _ => ?_) ?_
                    · refine Keeps.step (writeTile_keeps ..) ?_
                      assumption
                    · exact Keeps.refl _
                · refine Keeps.of_only (latchCheck_only _ _) rfl ?_
                  refine Keeps.foldl (fun _ _ _ => ?_) ?_
                  · refine Keeps.step (initRegion_keeps ..) ?_
                    assumption
                  · refine Keeps.foldl (fun _ _ _ => ?_) ?_
                    · refine Keeps.step (writeTile_keeps ..) ?_
                      assumption
                    · exact Keeps.refl _
          · refine Keeps.ite ?_ ?_
            · refine Keeps.step (forceBand_keeps ..) ?_
              split
              · refine Keeps.step (reload_keeps ..) ?_
                refine Keeps.of_only (latchCheck_only _ _) rfl ?_
                refine Keeps.foldl (fun _ _ _ => ?_) ?_
                · refine Keeps.step (initRegion_keeps ..) ?_
                  assumption
                · refine Keeps.foldl (fun _ _ _ => ?_) ?_
                  · refine Keeps.step (writeTile_keeps ..) ?_
                    assumption
                  · exact Keeps.refl _
              · refine Keeps.ite ?_ ?_
                · refine Keeps.step (seqsLost_keeps ..) ?_
                  refine Keeps.of_only (latchCheck_only _ _) rfl ?_
                  refine Keeps.foldl (fun _ _ _ => ?_) ?_
                  · refine Keeps.step (initRegion_keeps ..) ?_
                    assumption
                  · refine Keeps.foldl (fun _ _ _ => ?_) ?_
                    · refine Keeps.step (writeTile_keeps ..) ?_
                      assumption
                    · exact Keeps.refl _
                · refine Keeps.of_only (latchCheck_only _ _) rfl ?_
                  refine Keeps.foldl (fun _ _ _ => ?_) ?_
                  · refine Keeps.step (initRegion_keeps ..) ?_
                    assumption
                  · refine Keeps.foldl (fun _ _ _ => ?_) ?_
                    · refine Keeps.step (writeTile_keeps ..) ?_
                      assumption
                    · exact Keeps.refl _
            · split
              · refine Keeps.step (reload_keeps ..) ?_
                refine Keeps.of_only (latchCheck_only _ _) rfl ?_
                refine Keeps.foldl (fun _ _ _ => ?_) ?_
                · refine Keeps.step (initRegion_keeps ..) ?_
                  assumption
                · refine Keeps.foldl (fun _ _ _ => ?_) ?_
                  · refine Keeps.step (writeTile_keeps ..) ?_
                    assumption
                  · exact Keeps.refl _
              · refine Keeps.ite ?_ ?_
                · refine Keeps.step (seqsLost_keeps ..) ?_
                  refine Keeps.of_only (latchCheck_only _ _) rfl ?_
                  refine Keeps.foldl (fun _ _ _ => ?_) ?_
                  · refine Keeps.step (initRegion_keeps ..) ?_
                    assumption
                  · refine Keeps.foldl (fun _ _ _ => ?_) ?_
                    · refine Keeps.step (writeTile_keeps ..) ?_
                      assumption
                    · exact Keeps.refl _
                · refine Keeps.of_only (latchCheck_only _ _) rfl ?_
                  refine Keeps.foldl (fun _ _ _ => ?_) ?_
                  · refine Keeps.step (initRegion_keeps ..) ?_
                    assumption
                  · refine Keeps.foldl (fun _ _ _ => ?_) ?_
                    · refine Keeps.step (writeTile_keeps ..) ?_
                      assumption
                    · exact Keeps.refl _
      · refine Keeps.ite ?_ ?_
        · refine Keeps.of_only (setPState_only _ _ _) rfl ?_
          refine Keeps.ite ?_ ?_
          · refine Keeps.step (stageAll_keeps ..) ?_
            refine Keeps.ite ?_ ?_
            · refine Keeps.step (forceBand_keeps ..) ?_
              split
              · refine Keeps.step (reload_keeps ..) ?_
                refine Keeps.of_only (latchCheck_only _ _) rfl ?_
                refine Keeps.foldl (fun _ _ _ => ?_) ?_
                · refine Keeps.step (initRegion_keeps ..) ?_
                  assumption
                · refine Keeps.foldl (fun _ _ _ => ?_) ?_
                  · refine Keeps.step (writeTile_keeps ..) ?_
                    assumption
                  · exact Keeps.refl _
              · refine Keeps.ite ?_ ?_
                · refine Keeps.step (seqsLost_keeps ..) ?_
                  refine Keeps.of_only (latchCheck_only _ _) rfl ?_
                  refine Keeps.foldl (fun _ _ _ => ?_) ?_
                  · refine Keeps.step (initRegion_keeps ..) ?_
                    assumption
                  · refine Keeps.foldl (fun _ _ _ => ?_) ?_
                    · refine Keeps.step (writeTile_keeps ..) ?_
                      assumption
                    · exact Keeps.refl _
                · refine Keeps.of_only (latchCheck_only _ _) rfl ?_
                  refine Keeps.foldl (fun _ _ _ => ?_) ?_
                  · refine Keeps.step (initRegion_keeps ..) ?_
                    assumption
                  · refine Keeps.foldl (fun _ _ _ => ?_) ?_
                    · refine Keeps.step (writeTile_keeps ..) ?_
                      assumption
                    · exact Keeps.refl _
            · split
              · refine Keeps.step (reload_keeps ..) ?_
                refine Keeps.of_only (latchCheck_only _ _) rfl ?_
                refine Keeps.foldl (fun _ _ _ => ?_) ?_
                · refine Keeps.step (initRegion_keeps ..) ?_
                  assumption
                · refine Keeps.foldl (fun _ _ _ => ?_) ?_
                  · refine Keeps.step (writeTile_keeps ..) ?_
                    assumption
                  · exact Keeps.refl _
              · refine Keeps.ite ?_ ?_
                · refine Keeps.step (seqsLost_keeps ..) ?_
                  refine Keeps.of_only (latchCheck_only _ _) rfl ?_
                  refine Keeps.foldl (fun _ _ _ => ?_) ?_
                  · refine Keeps.step (initRegion_keeps ..) ?_
                    assumption
                  · refine Keeps.foldl (fun _ _ _ => ?_) ?_
                    · refine Keeps.step (writeTile_keeps ..) ?_
                      assumption
                    · exact Keeps.refl _
                · refine Keeps.of_only (latchCheck_only _ _) rfl ?_
                  refine Keeps.foldl (fun _ _ _ => ?_) ?_
                  · refine Keeps.step (initRegion_keeps ..) ?_
                    assumption
                  · refine Keeps.foldl (fun _ _ _ => ?_) ?_
                    · refine Keeps.step (writeTile_keeps ..) ?_
                      assumption
                    · exact Keeps.refl _
          · refine Keeps.ite ?_ ?_
            · refine Keeps.step (forceBand_keeps ..) ?_
              split
              · refine Keeps.step (reload_keeps ..) ?_
                refine Keeps.of_only (latchCheck_only _ _) rfl ?_
                refine Keeps.foldl (fun _ _ _ => ?_) ?_
                · refine Keeps.step (initRegion_keeps ..) ?_
                  assumption
                · refine Keeps.foldl (fun _ _ _ => ?_) ?_
                  · refine Keeps.step (writeTile_keeps ..) ?_
                    assumption
                  · exact Keeps.refl _
              · refine Keeps.ite ?_ ?_
                · refine Keeps.step (seqsLost_keeps ..) ?_
                  refine Keeps.of_only (latchCheck_only _ _) rfl ?_
                  refine Keeps.foldl (fun _ _ _ => ?_) ?_
                  · refine Keeps.step (initRegion_keeps ..) ?_
                    assumption
                  · refine Keeps.foldl (fun _ _ _ => ?_) ?_
                    · refine Keeps.step (writeTile_keeps ..) ?_
                      assumption
                    · exact Keeps.refl _
                · refine Keeps.of_only (latchCheck_only _ _) rfl ?_
                  refine Keeps.foldl (fun _ _ _ => ?_) ?_
                  · refine Keeps.step (initRegion_keeps ..) ?_
                    assumption
                  · refine Keeps.foldl (fun _ _ _ => ?_) ?_
                    · refine Keeps.step (writeTile_keeps ..) ?_
                      assumption
                    · exact Keeps.refl _
            · split
              · refine Keeps.step (reload_keeps ..) ?_
                refine Keeps.of_only (latchCheck_only _ _) rfl ?_
                refine Keeps.foldl (fun _ _ _ => ?_) ?_
                · refine Keeps.step (initRegion_keeps ..) ?_
                  assumption
                · refine Keeps.foldl (fun _ _ _ => ?_) ?_
                  · refine Keeps.step (writeTile_keeps ..) ?_
                    assumption
                  · exact Keeps.refl _
              · refine Keeps.ite ?_ ?_
                · refine Keeps.step (seqsLost_keeps ..) ?_
                  refine Keeps.of_only (latchCheck_only _ _) rfl ?_
                  refine Keeps.foldl (fun _ _ _ => ?_) ?_
                  · refine Keeps.step (initRegion_keeps ..) ?_
                    assumption
                  · refine Keeps.foldl (fun _ _ _ => ?_) ?_
                    · refine Keeps.step (writeTile_keeps ..) ?_
                      assumption
                    · exact Keeps.refl _
                · refine Keeps.of_only (latchCheck_only _ _) rfl ?_
                  refine Keeps.foldl (fun _ _ _ => ?_) ?_
                  · refine Keeps.step (initRegion_keeps ..) ?_
                    assumption
                  · refine Keeps.foldl (fun _ _ _ => ?_) ?_
                    · refine Keeps.step (writeTile_keeps ..) ?_
                      assumption
                    · exact Keeps.refl _
        · refine Keeps.ite ?_ ?_
          · refine Keeps.step (stageAll_keeps ..) ?_
            refine Keeps.ite ?_ ?_
            · refine Keeps.step (forceBand_keeps ..) ?_
              split
              · refine Keeps.step (reload_keeps ..) ?_
                refine Keeps.of_only (latchCheck_only _ _) rfl ?_
                refine Keeps.foldl (fun _ _ _ => ?_) ?_
                · refine Keeps.step (initRegion_keeps ..) ?_
                  assumption
                · refine Keeps.foldl (fun _ _ _ => ?_) ?_
                  · refine Keeps.step (writeTile_keeps ..) ?_
                    assumption
                  · exact Keeps.refl _
              · refine Keeps.ite ?_ ?_
                · refine Keeps.step (seqsLost_keeps ..) ?_
                  refine Keeps.of_only (latchCheck_only _ _) rfl ?_
                  refine Keeps.foldl (fun _ _ _ => ?_) ?_
                  · refine Keeps.step (initRegion_keeps ..) ?_
                    assumption
                  · refine Keeps.foldl (fun _ _ _ => ?_) ?_
                    · refine Keeps.step (writeTile_keeps ..) ?_
                      assumption
                    · exact Keeps.refl _
                · refine Keeps.of_only (latchCheck_only _ _) rfl ?_
                  refine Keeps.foldl (fun _ _ _ => ?_) ?_
                  · refine Keeps.step (initRegion_keeps ..) ?_
                    assumption
                  · refine Keeps.foldl (fun _ _ _ => ?_) ?_
                    · refine Keeps.step (writeTile_keeps ..) ?_
                      assumption
                    · exact Keeps.refl _
            · split
              · refine Keeps.step (reload_keeps ..) ?_
                refine Keeps.of_only (latchCheck_only _ _) rfl ?_
                refine Keeps.foldl (fun _ _ _ => ?_) ?_
                · refine Keeps.step (initRegion_keeps ..) ?_
                  assumption
                · refine Keeps.foldl (fun _ _ _ => ?_) ?_
                  · refine Keeps.step (writeTile_keeps ..) ?_
                    assumption
                  · exact Keeps.refl _
              · refine Keeps.ite ?_ ?_
                · refine Keeps.step (seqsLost_keeps ..) ?_
                  refine Keeps.of_only (latchCheck_only _ _) rfl ?_
                  refine Keeps.foldl (fun _ _ _ => ?_) ?_
                  · refine Keeps.step (initRegion_keeps ..) ?_
                    assumption
                  · refine Keeps.foldl (fun _ _ _ => ?_) ?_
                    · refine Keeps.step (writeTile_keeps ..) ?_
                      assumption
                    · exact Keeps.refl _
                · refine Keeps.of_only (latchCheck_only _ _) rfl ?_
                  refine Keeps.foldl (fun _ _ _ => ?_) ?_
                  · refine Keeps.step (initRegion_keeps ..) ?_
                    assumption
                  · refine Keeps.foldl (fun _ _ _ => ?_) ?_
                    · refine Keeps.step (writeTile_keeps ..) ?_
                      assumption
                    · exact Keeps.refl _
          · refine Keeps.ite ?_ ?_
            · refine Keeps.step (forceBand_keeps ..) ?_
              split
              · refine Keeps.step (reload_keeps ..) ?_
                refine Keeps.of_only (latchCheck_only _ _) rfl ?_
                refine Keeps.foldl (fun _ _ _ => ?_) ?_
                · refine Keeps.step (initRegion_keeps ..) ?_
                  assumption
                · refine Keeps.foldl (fun _ _ _ => ?_) ?_
                  · refine Keeps.step (writeTile_keeps ..) ?_
                    assumption
                  · exact Keeps.refl _
              · refine Keeps.ite ?_ ?_
                · refine Keeps.step (seqsLost_keeps ..) ?_
                  refine Keeps.of_only (latchCheck_only _ _) rfl ?_
                  refine Keeps.foldl (fun _ _ _ => ?_) ?_
                  · refine Keeps.step (initRegion_keeps ..) ?_
                    assumption
                  · refine Keeps.foldl (fun _ _ _ => ?_) ?_
                    · refine Keeps.step (writeTile_keeps ..) ?_
                      assumption
                    · exact Keeps.refl _
                · refine Keeps.of_only (latchCheck_only _ _) rfl ?_
                  refine Keeps.foldl (fun _ _ _ => ?_) ?_
                  · refine Keeps.step (initRegion_keeps ..) ?_
                    assumption
                  · refine Keeps.foldl (fun _ _ _ => ?_) ?_
                    · refine Keeps.step (writeTile_keeps ..) ?_
                      assumption
                    · exact Keeps.refl _
            · split
              · refine Keeps.step (reload_keeps ..) ?_
                refine Keeps.of_only (latchCheck_only _ _) rfl ?_
                refine Keeps.foldl (fun _ _ _ => ?_) ?_
                · refine Keeps.step (initRegion_keeps ..) ?_
                  assumption
                · refine Keeps.foldl (fun _ _ _ => ?_) ?_
                  · refine Keeps.step (writeTile_keeps ..) ?_
                    assumption
                  · exact Keeps.refl _
              · refine Keeps.ite ?_ ?_
                · refine Keeps.step (seqsLost_keeps ..) ?_
                  refine Keeps.of_only (latchCheck_only _ _) rfl ?_
                  refine Keeps.foldl (fun _ _ _ => ?_) ?_
                  · refine Keeps.step (initRegion_keeps ..) ?_
                    assumption
                  · refine Keeps.foldl (fun _ _ _ => ?_) ?_
                    · refine Keeps.step (writeTile_keeps ..) ?_
                      assumption
                    · exact Keeps.refl _
                · refine Keeps.of_only (latchCheck_only _ _) rfl ?_
                  refine Keeps.foldl (fun _ _ _ => ?_) ?_
                  · refine Keeps.step (initRegion_keeps ..) ?_
                    assumption
                  · refine Keeps.foldl (fun _ _ _ => ?_) ?_
                    · refine Keeps.step (writeTile_keeps ..) ?_
                      assumption
                    · exact Keeps.refl _

theorem restoreAll_keeps (s : State) : Keeps s (restoreAll s) := by
  unfold restoreAll
  dsimp only
  refine Keeps.of_only (reviewAll_only _) rfl ?_
  refine Keeps.step (raise_keeps ..) ?_
  refine Keeps.of_only (Only.set_power_life (m := 295147905179352825872) rfl rfl (Only.refl _ _) _ _) rfl ?_
  refine Keeps.foldl (fun _ _ _ => ?_) ?_
  · refine Keeps.step (restorePart_keeps ..) ?_
    assumption
  · exact Keeps.refl _

theorem stepDone_keeps (s : State) (bad : List Nat) (evals : List Sys2Proof.BankEval) : Keeps s (stepDone s bad evals) := by
  unfold stepDone
  dsimp only
  split
  · refine Keeps.of_only (Only.set_life (m := 295147905179352825856) rfl (Only.refl _ _) _) rfl ?_
    exact Keeps.refl _
  · refine Keeps.ite ?_ ?_
    · exact Keeps.refl _
    · refine Keeps.of_only (Only.set_life (m := 295147905179352825856) rfl (Only.refl _ _) _) rfl ?_
      exact Keeps.refl _
  · refine Keeps.of_only (Only.set_life (m := 295147905179352825856) rfl (Only.refl _ _) _) rfl ?_
    refine Keeps.step (startBlocks_keeps ..) ?_
    exact Keeps.refl _
  · refine Keeps.of_only (Only.set_life (m := 295147905179352825856) rfl (Only.refl _ _) _) rfl ?_
    refine Keeps.step (startLinks_keeps ..) ?_
    exact Keeps.refl _
  · refine Keeps.of_only (Only.set_life (m := 295147905179352825856) rfl (Only.refl _ _) _) rfl ?_
    refine Keeps.step (trainStacks_keeps ..) ?_
    exact Keeps.refl _
  · refine Keeps.of_only (Only.set_life (m := 295147905179352825856) rfl (Only.refl _ _) _) rfl ?_
    refine Keeps.step (checkWeights_keeps ..) ?_
    exact Keeps.refl _
  · refine Keeps.step (restoreAll_keeps ..) ?_
    exact Keeps.refl _
  · exact Keeps.refl _

theorem execPowerOnStepDone_keeps (bad : List Nat) (evals : List Sys2Proof.BankEval) (s : State) : KeepsO s (execPowerOnStepDone bad evals s) := by
  unfold execPowerOnStepDone
  refine KeepsO.ite ?_ ?_
  · refine KeepsO.next ?_
    refine Keeps.step (stepDone_keeps ..) ?_
    exact Keeps.refl _
  · refine KeepsO.next ?_
    exact Keeps.refl _

theorem execPowerOnStepOverrun_keeps (bad : List Nat) (evals : List Sys2Proof.BankEval) (s : State) : KeepsO s (execPowerOnStepOverrun bad evals s) := by
  unfold execPowerOnStepOverrun
  refine KeepsO.ite ?_ ?_
  · dsimp only
    refine KeepsO.next ?_
    refine Keeps.step (stepDone_keeps ..) ?_
    refine Keeps.ite ?_ ?_
    · exact Keeps.refl _
    · refine Keeps.step (raise_keeps ..) ?_
      refine Keeps.of_only (Only.set_life (m := 295147905179352825856) rfl (Only.refl _ _) _) rfl ?_
      exact Keeps.refl _
  · refine KeepsO.next ?_
    exact Keeps.refl _

end Sys2Proof.Machine
end

