-- ==== Sys2Proof/Laws/OnlyStop.lean ====
section
/-! SUPPORT. What each operation of Machine/Stop.lean can change, at most. -/
namespace Sys2Proof.Machine

theorem stopLimit_only (s : State) : Only 0xe00a09000007007a77fdda0 s (stopLimit s) := by
  unfold stopLimit
  dsimp only
  refine Only.step (interruptBanks_only ..) rfl ?_
  refine Only.foldl (fun _ _ _ => ?_) ?_
  · refine Only.ite ?_ ?_
    · refine Only.step (returnRunning_only ..) rfl ?_
      assumption
    · assumption
  · refine Only.foldl (fun _ _ _ => ?_) ?_
    · split
      · assumption
      · refine Only.ite ?_ ?_
        · assumption
        · refine Only.step (dropRuns_only ..) rfl ?_
          refine Only.step (engineFault_only ..) rfl ?_
          assumption
    · exact Only.refl _ _

theorem execStopLimitExpire_only (s : State) : OnlyO 0xe00a09000007007a77fdda0 s (execStopLimitExpire s) := by
  unfold execStopLimitExpire
  refine OnlyO.ite ?_ ?_
  · refine OnlyO.next ?_
    refine Only.step (stopLimit_only ..) rfl ?_
    exact Only.refl _ _
  · refine OnlyO.next ?_
    exact Only.refl _ _

theorem returnWaits_only (s : State) : Only 0xc0080000000000000004800 s (returnWaits s) := by
  unfold returnWaits
  dsimp only
  refine Only.foldl (fun _ _ _ => ?_) ?_
  · refine Only.step (returnWaiting_only ..) rfl ?_
    assumption
  · refine Only.foldl (fun _ _ _ => ?_) ?_
    · refine Only.ite ?_ ?_
      · refine Only.step (returnRunning_only ..) rfl ?_
        assumption
      · assumption
    · exact Only.refl _ _

theorem saveNext_only (s : State) (l : List Nat) : Only 0x100000000000000000 s (saveNext s l) := by
  unfold saveNext
  refine Only.ite ?_ ?_
  · refine Only.set_life rfl ?_ _
    exact Only.refl _ _
  · refine Only.set_life rfl ?_ _
    exact Only.refl _ _

theorem execStopStepsDrained_only (s : State) : OnlyO 0xc0080100000000000004800 s (execStopStepsDrained s) := by
  unfold execStopStepsDrained
  refine OnlyO.ite ?_ ?_
  · dsimp only
    refine OnlyO.next ?_
    refine Only.step (saveNext_only ..) rfl ?_
    refine Only.step (returnWaits_only ..) rfl ?_
    exact Only.refl _ _
  · refine OnlyO.next ?_
    exact Only.refl _ _

theorem execPreservationDone_only (p : Nat) (s : State) : OnlyO 0x100000000000000400 s (execPreservationDone p s) := by
  unfold execPreservationDone
  refine OnlyO.ite ?_ ?_
  · exact OnlyO.fault _ _ _
  · split
    · refine OnlyO.next ?_
      exact Only.refl _ _
    · refine OnlyO.ite ?_ ?_
      · refine OnlyO.next ?_
        exact Only.refl _ _
      · dsimp only
        refine OnlyO.next ?_
        refine Only.step (saveNext_only ..) rfl ?_
        refine Only.ite ?_ ?_
        · refine Only.step (updPart_only ..) rfl ?_
          exact Only.refl _ _
        · exact Only.refl _ _

theorem stamp_only (s : State) (commits : Nat) : Only 0x900000000000000000 s (stamp s commits) := by
  unfold stamp
  dsimp only
  refine Only.set_life_kennel rfl rfl ?_ _ _
  refine Only.step (kennelAdd_only ..) rfl ?_
  exact Only.refl _ _

theorem stopEnds_only (s : State) : Only 0xfbfe0918ba972f7fb7fdfb0 s (stopEnds s) := by
  unfold stopEnds
  dsimp only
  refine Only.ite ?_ ?_
  · refine Only.step (enterStandby_only ..) rfl ?_
    refine Only.step (stamp_only ..) rfl ?_
    refine Only.step (waferOff_only ..) rfl ?_
    refine Only.foldl (fun _ _ _ => ?_) ?_
    · refine Only.step (closeSession_only ..) rfl ?_
      refine Only.ite ?_ ?_
      · refine Only.step (sendClose_only ..) rfl ?_
        assumption
      · assumption
    · exact Only.refl _ _
  · refine Only.ite ?_ ?_
    · refine Only.set_power_life rfl rfl ?_ _ _
      refine Only.step (stamp_only ..) rfl ?_
      refine Only.step (waferOff_only ..) rfl ?_
      refine Only.foldl (fun _ _ _ => ?_) ?_
      · refine Only.step (closeSession_only ..) rfl ?_
        refine Only.ite ?_ ?_
        · refine Only.step (sendClose_only ..) rfl ?_
          assumption
        · assumption
      · exact Only.refl _ _
    · refine Only.set_power rfl ?_ _
      refine Only.step (stamp_only ..) rfl ?_
      refine Only.step (waferOff_only ..) rfl ?_
      refine Only.foldl (fun _ _ _ => ?_) ?_
      · refine Only.step (closeSession_only ..) rfl ?_
        refine Only.ite ?_ ?_
        · refine Only.step (sendClose_only ..) rfl ?_
          assumption
        · assumption
      · exact Only.refl _ _

theorem execStopRecordsDone_only (s : State) : OnlyO 0xfbfe0918ba972f7fb7fdfb0 s (execStopRecordsDone s) := by
  unfold execStopRecordsDone
  refine OnlyO.ite ?_ ?_
  · refine OnlyO.next ?_
    refine Only.step (stopEnds_only ..) rfl ?_
    refine Only.ite ?_ ?_
    · refine Only.step (interruptBanks_only ..) rfl ?_
      exact Only.refl _ _
    · exact Only.refl _ _
  · refine OnlyO.next ?_
    exact Only.refl _ _

theorem execPowerLoss_only (s : State) : OnlyO 0x3bee0918ba972f7fb7fdfb0 s (execPowerLoss s) := by
  unfold execPowerLoss
  refine OnlyO.ite ?_ ?_
  · dsimp only
    refine OnlyO.next ?_
    refine Only.set_power_life_kennel_sessions rfl rfl rfl rfl ?_ _ _ _ _
    refine Only.step (waferOff_only ..) rfl ?_
    exact Only.refl _ _
  · refine OnlyO.next ?_
    exact Only.refl _ _

theorem execShutdownStamp_only (commits : Nat) (mv : Nat) (s : State) : OnlyO 0x900000000000000000 s (execShutdownStamp commits mv s) := by
  unfold execShutdownStamp
  refine OnlyO.ite ?_ ?_
  · dsimp only
    refine OnlyO.next ?_
    refine Only.ite ?_ ?_
    · refine Only.step (stamp_only ..) rfl ?_
      refine Only.set_life rfl ?_ _
      exact Only.refl _ _
    · refine Only.set_life rfl ?_ _
      exact Only.refl _ _
  · refine OnlyO.next ?_
    exact Only.refl _ _

theorem execBusDepleted_only (s : State) : OnlyO 0x80100000000000000010 s (execBusDepleted s) := by
  unfold execBusDepleted
  refine OnlyO.ite ?_ ?_
  · refine OnlyO.next ?_
    refine Only.set_power_life_sessions rfl rfl rfl ?_ _ _ _
    exact Only.refl _ _
  · refine OnlyO.next ?_
    exact Only.refl _ _

theorem controlledStop_only (s : State) : Only 0xe00a09102007007a77fddb0 s (controlledStop s) := by
  unfold controlledStop
  refine Only.ite ?_ ?_
  · refine Only.step (beginStop_only ..) rfl ?_
    refine Only.step (stopCompute_only ..) rfl ?_
    refine Only.step (raiseRc_only ..) rfl ?_
    exact Only.refl _ _
  · exact Only.refl _ _

theorem policyStop_only (s : State) (bit : Nat) : Only 0xe00a09102007007a77fddb0 s (policyStop s bit) := by
  unfold policyStop
  refine Only.ite ?_ ?_
  · refine Only.step (controlledStop_only ..) rfl ?_
    exact Only.refl _ _
  · exact Only.refl _ _

theorem alarmWake_only (s : State) : Only 0x44390f008080c00002003fc s (alarmWake s) := by
  unfold alarmWake
  refine Only.ite ?_ ?_
  · refine Only.step (wake_only ..) rfl ?_
    exact Only.refl _ _
  · exact Only.refl _ _

theorem execLeakWet_only (i : Nat) (s : State) : OnlyO 0xffff0f18fa97ef7ff7fdffc s (execLeakWet i s) := by
  unfold execLeakWet
  refine OnlyO.ite ?_ ?_
  · exact OnlyO.fault _ _ _
  · refine OnlyO.ite ?_ ?_
    · refine OnlyO.next ?_
      exact Only.refl _ _
    · dsimp only
      refine OnlyO.next ?_
      refine Only.step (alarmWake_only ..) rfl ?_
      refine Only.step (gateWatch_only ..) rfl ?_
      refine Only.step (policyStop_only ..) rfl ?_
      refine Only.step (raiseRc_only ..) rfl ?_
      refine Only.step (setCond_only ..) rfl ?_
      refine Only.set_leaks rfl ?_ _
      exact Only.refl _ _

theorem execLeakDry_only (i : Nat) (s : State) : OnlyO 0x400000000000100 s (execLeakDry i s) := by
  unfold execLeakDry
  refine OnlyO.ite ?_ ?_
  · exact OnlyO.fault _ _ _
  · refine OnlyO.ite ?_ ?_
    · refine OnlyO.next ?_
      exact Only.refl _ _
    · refine OnlyO.next ?_
      refine Only.step (setCond_only ..) rfl ?_
      refine Only.set_leaks rfl ?_ _
      exact Only.refl _ _

theorem execLeakLoopBreak_only (i : Nat) (s : State) : OnlyO 0x100400000000000080 s (execLeakLoopBreak i s) := by
  unfold execLeakLoopBreak
  refine OnlyO.ite ?_ ?_
  · exact OnlyO.fault _ _ _
  · refine OnlyO.ite ?_ ?_
    · refine OnlyO.next ?_
      exact Only.refl _ _
    · refine OnlyO.next ?_
      refine Only.step (raiseRc_only ..) rfl ?_
      refine Only.set_leaks rfl ?_ _
      exact Only.refl _ _

theorem execAlarmInput_only (s : State) : OnlyO 0xe43b0f10e087c07a77fdffc s (execAlarmInput s) := by
  unfold execAlarmInput
  refine OnlyO.ite ?_ ?_
  · refine OnlyO.next ?_
    exact Only.refl _ _
  · dsimp only
    refine OnlyO.next ?_
    refine Only.step (alarmWake_only ..) rfl ?_
    refine Only.step (policyStop_only ..) rfl ?_
    refine Only.step (raise_only ..) rfl ?_
    refine Only.step (setCond_only ..) rfl ?_
    refine Only.set_leaks rfl ?_ _
    exact Only.refl _ _

theorem execAlarmInputOpen_only (s : State) : OnlyO 0x400000000000100 s (execAlarmInputOpen s) := by
  unfold execAlarmInputOpen
  refine OnlyO.ite ?_ ?_
  · refine OnlyO.next ?_
    exact Only.refl _ _
  · refine OnlyO.next ?_
    refine Only.step (setCond_only ..) rfl ?_
    refine Only.set_leaks rfl ?_ _
    exact Only.refl _ _

theorem execCoolantSample_only (v : List (Option Int)) (s : State) : OnlyO 0xfbee0918ba972f7ff7fdfb0 s (execCoolantSample v s) := by
  unfold execCoolantSample
  refine OnlyO.ite ?_ ?_
  · refine OnlyO.next ?_
    exact Only.refl _ _
  · dsimp only
    refine OnlyO.ite ?_ ?_
    · refine OnlyO.next ?_
      refine Only.step (coolantStop_only ..) rfl ?_
      refine Only.step (coolantSampled_only ..) rfl ?_
      exact Only.refl _ _
    · refine OnlyO.ite ?_ ?_
      · refine OnlyO.next ?_
        refine Only.set_power rfl ?_ _
        refine Only.step (coolantStop_only ..) rfl ?_
        refine Only.step (coolantSampled_only ..) rfl ?_
        exact Only.refl _ _
      · refine OnlyO.next ?_
        refine Only.step (gateWatch_only ..) rfl ?_
        refine Only.step (coolantSampled_only ..) rfl ?_
        exact Only.refl _ _

theorem execHoldExpire_only (s : State) : OnlyO 0x100000000000000010 s (execHoldExpire s) := by
  unfold execHoldExpire
  dsimp only
  refine OnlyO.ite ?_ ?_
  · refine OnlyO.next ?_
    refine Only.step (beginStop_only ..) rfl ?_
    exact Only.refl _ _
  · refine OnlyO.next ?_
    exact Only.refl _ _

theorem execSheepdogSample_only (carrier : List Int) (v : List (Option Int)) (s : State) : OnlyO 0x3be60918ba972f7fb7fdfb0 s (execSheepdogSample carrier v s) := by
  unfold execSheepdogSample
  refine OnlyO.ite ?_ ?_
  · refine OnlyO.next ?_
    exact Only.refl _ _
  · dsimp only
    refine OnlyO.next ?_
    refine Only.step (gateWatch_only ..) rfl ?_
    refine Only.ite ?_ ?_
    · refine Only.set_life rfl ?_ _
      exact Only.refl _ _
    · refine Only.step (coolantSampled_only ..) rfl ?_
      refine Only.set_life rfl ?_ _
      exact Only.refl _ _

end Sys2Proof.Machine
end

