-- ==== Sys2Proof/Laws/KeepsStop.lean ====
section
/-! SUPPORT. Each operation of Machine/Stop.lean keeps: the form of the memories and the bounds of the stores. -/
namespace Sys2Proof.Machine

theorem stopLimit_keeps (s : State) : Keeps s (stopLimit s) := by
  unfold stopLimit
  dsimp only
  refine Keeps.step (interruptBanks_keeps ..) ?_
  refine Keeps.foldl (fun _ _ _ => ?_) ?_
  · refine Keeps.ite ?_ ?_
    · refine Keeps.of_only (returnRunning_only _ _ _) rfl ?_
      assumption
    · assumption
  · refine Keeps.foldl (fun _ _ _ => ?_) ?_
    · split
      · assumption
      · refine Keeps.ite ?_ ?_
        · assumption
        · refine Keeps.of_only (dropRuns_only _ _) rfl ?_
          refine Keeps.step (engineFault_keeps ..) ?_
          assumption
    · exact Keeps.refl _

theorem execStopLimitExpire_keeps (s : State) : KeepsO s (execStopLimitExpire s) := by
  unfold execStopLimitExpire
  refine KeepsO.ite ?_ ?_
  · refine KeepsO.next ?_
    refine Keeps.step (stopLimit_keeps ..) ?_
    exact Keeps.refl _
  · refine KeepsO.next ?_
    exact Keeps.refl _

theorem stopEnds_keeps (s : State) : Keeps s (stopEnds s) := by
  unfold stopEnds
  dsimp only
  refine Keeps.ite ?_ ?_
  · refine Keeps.step (enterStandby_keeps ..) ?_
    refine Keeps.of_only (stamp_only _ _) rfl ?_
    refine Keeps.step (waferOff_keeps ..) ?_
    refine Keeps.foldl (fun _ _ _ => ?_) ?_
    · refine Keeps.step (closeSession_keeps ..) ?_
      refine Keeps.ite ?_ ?_
      · refine Keeps.of_only (sendClose_only _ _) rfl ?_
        assumption
      · assumption
    · exact Keeps.refl _
  · refine Keeps.ite ?_ ?_
    · refine Keeps.of_only (Only.set_power_life (m := 295147905179352825872) rfl rfl (Only.refl _ _) _ _) rfl ?_
      refine Keeps.of_only (stamp_only _ _) rfl ?_
      refine Keeps.step (waferOff_keeps ..) ?_
      refine Keeps.foldl (fun _ _ _ => ?_) ?_
      · refine Keeps.step (closeSession_keeps ..) ?_
        refine Keeps.ite ?_ ?_
        · refine Keeps.of_only (sendClose_only _ _) rfl ?_
          assumption
        · assumption
      · exact Keeps.refl _
    · refine Keeps.of_only (Only.set_power (m := 16) rfl (Only.refl _ _) _) rfl ?_
      refine Keeps.of_only (stamp_only _ _) rfl ?_
      refine Keeps.step (waferOff_keeps ..) ?_
      refine Keeps.foldl (fun _ _ _ => ?_) ?_
      · refine Keeps.step (closeSession_keeps ..) ?_
        refine Keeps.ite ?_ ?_
        · refine Keeps.of_only (sendClose_only _ _) rfl ?_
          assumption
        · assumption
      · exact Keeps.refl _

theorem execStopRecordsDone_keeps (s : State) : KeepsO s (execStopRecordsDone s) := by
  unfold execStopRecordsDone
  refine KeepsO.ite ?_ ?_
  · refine KeepsO.next ?_
    refine Keeps.step (stopEnds_keeps ..) ?_
    refine Keeps.ite ?_ ?_
    · refine Keeps.step (interruptBanks_keeps ..) ?_
      exact Keeps.refl _
    · exact Keeps.refl _
  · refine KeepsO.next ?_
    exact Keeps.refl _

theorem execPowerLoss_keeps (s : State) : KeepsO s (execPowerLoss s) := by
  unfold execPowerLoss
  refine KeepsO.ite ?_ ?_
  · dsimp only
    refine KeepsO.next ?_
    refine Keeps.of_only (Only.set_power_life_kennel_sessions (m := 607119240953928762785808) rfl rfl rfl rfl (Only.refl _ _) _ _ _ _) rfl ?_
    refine Keeps.step (waferOff_keeps ..) ?_
    exact Keeps.refl _
  · refine KeepsO.next ?_
    exact Keeps.refl _

theorem controlledStop_keeps (s : State) : Keeps s (controlledStop s) := by
  unfold controlledStop
  refine Keeps.ite ?_ ?_
  · refine Keeps.of_only (beginStop_only _ _) rfl ?_
    refine Keeps.step (stopCompute_keeps ..) ?_
    refine Keeps.step (raiseRc_keeps ..) ?_
    exact Keeps.refl _
  · exact Keeps.refl _

theorem policyStop_keeps (s : State) (bit : Nat) : Keeps s (policyStop s bit) := by
  unfold policyStop
  refine Keeps.ite ?_ ?_
  · refine Keeps.step (controlledStop_keeps ..) ?_
    exact Keeps.refl _
  · exact Keeps.refl _

theorem alarmWake_keeps (s : State) : Keeps s (alarmWake s) := by
  unfold alarmWake
  refine Keeps.ite ?_ ?_
  · refine Keeps.step (wake_keeps ..) ?_
    exact Keeps.refl _
  · exact Keeps.refl _

theorem execLeakWet_keeps (i : Nat) (s : State) : KeepsO s (execLeakWet i s) := by
  unfold execLeakWet
  refine KeepsO.ite ?_ ?_
  · exact KeepsO.fault _ _
  · refine KeepsO.ite ?_ ?_
    · refine KeepsO.next ?_
      exact Keeps.refl _
    · dsimp only
      refine KeepsO.next ?_
      refine Keeps.step (alarmWake_keeps ..) ?_
      refine Keeps.step (gateWatch_keeps ..) ?_
      refine Keeps.step (policyStop_keeps ..) ?_
      refine Keeps.step (raiseRc_keeps ..) ?_
      refine Keeps.of_only (setCond_only _ _ _) rfl ?_
      refine Keeps.of_only (Only.set_leaks (m := 288230376151711744) rfl (Only.refl _ _) _) rfl ?_
      exact Keeps.refl _

theorem execLeakLoopBreak_keeps (i : Nat) (s : State) : KeepsO s (execLeakLoopBreak i s) := by
  unfold execLeakLoopBreak
  refine KeepsO.ite ?_ ?_
  · exact KeepsO.fault _ _
  · refine KeepsO.ite ?_ ?_
    · refine KeepsO.next ?_
      exact Keeps.refl _
    · refine KeepsO.next ?_
      refine Keeps.step (raiseRc_keeps ..) ?_
      refine Keeps.of_only (Only.set_leaks (m := 288230376151711744) rfl (Only.refl _ _) _) rfl ?_
      exact Keeps.refl _

theorem execAlarmInput_keeps (s : State) : KeepsO s (execAlarmInput s) := by
  unfold execAlarmInput
  refine KeepsO.ite ?_ ?_
  · refine KeepsO.next ?_
    exact Keeps.refl _
  · dsimp only
    refine KeepsO.next ?_
    refine Keeps.step (alarmWake_keeps ..) ?_
    refine Keeps.step (policyStop_keeps ..) ?_
    refine Keeps.step (raise_keeps ..) ?_
    refine Keeps.of_only (setCond_only _ _ _) rfl ?_
    refine Keeps.of_only (Only.set_leaks (m := 288230376151711744) rfl (Only.refl _ _) _) rfl ?_
    exact Keeps.refl _

theorem execCoolantSample_keeps (v : List (Option Int)) (s : State) : KeepsO s (execCoolantSample v s) := by
  unfold execCoolantSample
  refine KeepsO.ite ?_ ?_
  · refine KeepsO.next ?_
    exact Keeps.refl _
  · dsimp only
    refine KeepsO.ite ?_ ?_
    · refine KeepsO.next ?_
      refine Keeps.step (coolantStop_keeps ..) ?_
      refine Keeps.step (coolantSampled_keeps ..) ?_
      exact Keeps.refl _
    · refine KeepsO.ite ?_ ?_
      · refine KeepsO.next ?_
        refine Keeps.of_only (Only.set_power (m := 16) rfl (Only.refl _ _) _) rfl ?_
        refine Keeps.step (coolantStop_keeps ..) ?_
        refine Keeps.step (coolantSampled_keeps ..) ?_
        exact Keeps.refl _
      · refine KeepsO.next ?_
        refine Keeps.step (gateWatch_keeps ..) ?_
        refine Keeps.step (coolantSampled_keeps ..) ?_
        exact Keeps.refl _

theorem execSheepdogSample_keeps (carrier : List Int) (v : List (Option Int)) (s : State) : KeepsO s (execSheepdogSample carrier v s) := by
  unfold execSheepdogSample
  refine KeepsO.ite ?_ ?_
  · refine KeepsO.next ?_
    exact Keeps.refl _
  · dsimp only
    refine KeepsO.next ?_
    refine Keeps.step (gateWatch_keeps ..) ?_
    refine Keeps.ite ?_ ?_
    · refine Keeps.of_only (Only.set_life (m := 295147905179352825856) rfl (Only.refl _ _) _) rfl ?_
      exact Keeps.refl _
    · refine Keeps.step (coolantSampled_keeps ..) ?_
      refine Keeps.of_only (Only.set_life (m := 295147905179352825856) rfl (Only.refl _ _) _) rfl ?_
      exact Keeps.refl _

end Sys2Proof.Machine
end

