-- ==== Sys2Proof/Laws/OnlyCards.lean ====
section
/-! SUPPORT. What each operation of Machine/Cards.lean can change, at most. -/
namespace Sys2Proof.Machine

theorem dropRequests_only (s : State) : Only 0x40000000000000000600 s (dropRequests s) := by
  unfold dropRequests
  dsimp only
  refine Only.foldl (fun _ _ _ => ?_) ?_
  · refine Only.ite ?_ ?_
    · refine Only.step (updPart_only ..) rfl ?_
      assumption
    · assumption
  · refine Only.set_modeRec_jobs rfl rfl ?_ _ _
    exact Only.refl _ _

theorem handOver_only (s : State) (c : Nat) : Only 0x40200000000000000600 s (handOver s c) := by
  unfold handOver
  dsimp only
  refine Only.ite ?_ ?_
  · refine Only.step (setCard_only ..) rfl ?_
    refine Only.step (dropRequests_only ..) rfl ?_
    exact Only.refl _ _
  · refine Only.step (dropRequests_only ..) rfl ?_
    exact Only.refl _ _

theorem cardOut_only (s : State) (c : Nat) (st : Nat) : Only 0x40200000000000000700 s (cardOut s c st) := by
  unfold cardOut
  dsimp only
  refine Only.ite ?_ ?_
  · refine Only.step (handOver_only ..) rfl ?_
    refine Only.step (setCond_only ..) rfl ?_
    refine Only.step (setCard_only ..) rfl ?_
    exact Only.refl _ _
  · refine Only.step (setCond_only ..) rfl ?_
    refine Only.step (setCard_only ..) rfl ?_
    exact Only.refl _ _

theorem execCardFault_only (c : Nat) (s : State) : OnlyO 0x40b00000000000000780 s (execCardFault c s) := by
  unfold execCardFault
  refine OnlyO.ite ?_ ?_
  · exact OnlyO.fault _ _ _
  · refine OnlyO.ite ?_ ?_
    · refine OnlyO.next ?_
      exact Only.refl _ _
    · refine OnlyO.next ?_
      refine Only.step (cardOut_only ..) rfl ?_
      refine Only.step (kennelEvent_only ..) rfl ?_
      exact Only.refl _ _

theorem toRecovery_only (s : State) : Only 0x3be60918ba972f7fb7fdfb0 s (toRecovery s) := by
  unfold toRecovery
  refine Only.ite ?_ ?_
  · split
    · refine Only.set_power rfl ?_ _
      exact Only.refl _ _
    · dsimp only
      refine Only.set_power rfl ?_ _
      refine Only.step (waferOff_only ..) rfl ?_
      exact Only.refl _ _
    · exact Only.refl _ _
  · exact Only.refl _ _

theorem execCardBootFail_only (c : Nat) (s : State) : OnlyO 0x3be60b18ba972f7fb7fdfb0 s (execCardBootFail c s) := by
  unfold execCardBootFail
  refine OnlyO.ite ?_ ?_
  · exact OnlyO.fault _ _ _
  · dsimp only
    refine OnlyO.ite ?_ ?_
    · refine OnlyO.next ?_
      exact Only.refl _ _
    · refine OnlyO.ite ?_ ?_
      · refine OnlyO.next ?_
        refine Only.step (setCard_only ..) rfl ?_
        exact Only.refl _ _
      · refine OnlyO.ite ?_ ?_
        · refine OnlyO.next ?_
          refine Only.step (toRecovery_only ..) rfl ?_
          refine Only.step (cardOut_only ..) rfl ?_
          refine Only.step (setCard_only ..) rfl ?_
          refine Only.step (setCond_only ..) rfl ?_
          refine Only.step (raiseRc_only ..) rfl ?_
          refine Only.step (kennelEvent_only ..) rfl ?_
          exact Only.refl _ _
        · refine OnlyO.next ?_
          refine Only.step (setCard_only ..) rfl ?_
          refine Only.step (setCond_only ..) rfl ?_
          refine Only.step (raiseRc_only ..) rfl ?_
          refine Only.step (kennelEvent_only ..) rfl ?_
          exact Only.refl _ _

theorem execCardInsert_only (c : Nat) (s : State) : OnlyO 0xa00000000000000000 s (execCardInsert c s) := by
  unfold execCardInsert
  refine OnlyO.ite ?_ ?_
  · exact OnlyO.fault _ _ _
  · refine OnlyO.ite ?_ ?_
    · refine OnlyO.next ?_
      exact Only.refl _ _
    · refine OnlyO.next ?_
      refine Only.step (partMoved_only ..) rfl ?_
      refine Only.step (setCard_only ..) rfl ?_
      exact Only.refl _ _

theorem execCardRemove_only (c : Nat) (s : State) : OnlyO 0x40a00000000000000700 s (execCardRemove c s) := by
  unfold execCardRemove
  refine OnlyO.ite ?_ ?_
  · exact OnlyO.fault _ _ _
  · refine OnlyO.ite ?_ ?_
    · refine OnlyO.next ?_
      exact Only.refl _ _
    · refine OnlyO.next ?_
      refine Only.step (partMoved_only ..) rfl ?_
      refine Only.step (cardOut_only ..) rfl ?_
      exact Only.refl _ _

theorem execCardSyncDone_only (c : Nat) (s : State) : OnlyO 0x200000000000000000 s (execCardSyncDone c s) := by
  unfold execCardSyncDone
  refine OnlyO.ite ?_ ?_
  · exact OnlyO.fault _ _ _
  · refine OnlyO.ite ?_ ?_
    · refine OnlyO.next ?_
      exact Only.refl _ _
    · refine OnlyO.next ?_
      refine Only.step (setCard_only ..) rfl ?_
      exact Only.refl _ _

theorem execRecoveryRelease_only (s : State) : OnlyO 0xc398010000000020001c890 s (execRecoveryRelease s) := by
  unfold execRecoveryRelease
  refine OnlyO.ite ?_ ?_
  · refine OnlyO.next ?_
    refine Only.step (enterStandby_only ..) rfl ?_
    exact Only.refl _ _
  · refine OnlyO.next ?_
    exact Only.refl _ _

theorem execRtcStoreExhausted_only (s : State) : OnlyO 0x1000000000000000000 s (execRtcStoreExhausted s) := by
  unfold execRtcStoreExhausted
  refine OnlyO.ite ?_ ?_
  · refine OnlyO.next ?_
    refine Only.set_rtcValid rfl ?_ _
    exact Only.refl _ _
  · refine OnlyO.next ?_
    exact Only.refl _ _

theorem tapClock_only (s : State) (c : Nat) (tms : Bool) (tdi : Bool) : Only 0x80080200000000000000000 s (tapClock s c tms tdi) := by
  unfold tapClock
  dsimp only
  refine Only.ite ?_ ?_
  · refine Only.step (emit_only ..) rfl ?_
    refine Only.step (setCard_only ..) rfl ?_
    exact Only.refl _ _
  · refine Only.ite ?_ ?_
    · refine Only.step (emit_only ..) rfl ?_
      refine Only.step (setCard_only ..) rfl ?_
      exact Only.refl _ _
    · refine Only.step (setCard_only ..) rfl ?_
      exact Only.refl _ _

theorem execTestAccessPortClock_only (c : Nat) (tms : Bool) (tdi : Bool) (trst : Bool) (s : State) : OnlyO 0x80080200000000000000000 s (execTestAccessPortClock c tms tdi trst s) := by
  unfold execTestAccessPortClock
  refine OnlyO.ite ?_ ?_
  · exact OnlyO.fault _ _ _
  · refine OnlyO.ite ?_ ?_
    · refine OnlyO.next ?_
      refine Only.step (tapClock_only ..) rfl ?_
      exact Only.refl _ _
    · refine OnlyO.next ?_
      refine Only.step (setCard_only ..) rfl ?_
      exact Only.refl _ _

end Sys2Proof.Machine
end

