-- ==== Sys2Proof/Laws/KeepsCards.lean ====
section
/-! SUPPORT. Each operation of Machine/Cards.lean keeps: the form of the memories and the bounds of the stores. -/
namespace Sys2Proof.Machine

theorem execCardFault_keeps (c : Nat) (s : State) : KeepsO s (execCardFault c s) := by
  unfold execCardFault
  refine KeepsO.ite ?_ ?_
  · exact KeepsO.fault _ _
  · refine KeepsO.ite ?_ ?_
    · refine KeepsO.next ?_
      exact Keeps.refl _
    · refine KeepsO.next ?_
      refine Keeps.of_only (cardOut_only _ _ _) rfl ?_
      refine Keeps.step (kennelEvent_keeps ..) ?_
      exact Keeps.refl _

theorem toRecovery_keeps (s : State) : Keeps s (toRecovery s) := by
  unfold toRecovery
  refine Keeps.ite ?_ ?_
  · split
    · refine Keeps.of_only (Only.set_power (m := 16) rfl (Only.refl _ _) _) rfl ?_
      exact Keeps.refl _
    · dsimp only
      refine Keeps.of_only (Only.set_power (m := 16) rfl (Only.refl _ _) _) rfl ?_
      refine Keeps.step (waferOff_keeps ..) ?_
      exact Keeps.refl _
    · exact Keeps.refl _
  · exact Keeps.refl _

theorem execCardBootFail_keeps (c : Nat) (s : State) : KeepsO s (execCardBootFail c s) := by
  unfold execCardBootFail
  refine KeepsO.ite ?_ ?_
  · exact KeepsO.fault _ _
  · dsimp only
    refine KeepsO.ite ?_ ?_
    · refine KeepsO.next ?_
      exact Keeps.refl _
    · refine KeepsO.ite ?_ ?_
      · refine KeepsO.next ?_
        refine Keeps.of_only (setCard_only _ _ _) rfl ?_
        exact Keeps.refl _
      · refine KeepsO.ite ?_ ?_
        · refine KeepsO.next ?_
          refine Keeps.step (toRecovery_keeps ..) ?_
          refine Keeps.of_only (cardOut_only _ _ _) rfl ?_
          refine Keeps.of_only (setCard_only _ _ _) rfl ?_
          refine Keeps.of_only (setCond_only _ _ _) rfl ?_
          refine Keeps.step (raiseRc_keeps ..) ?_
          refine Keeps.step (kennelEvent_keeps ..) ?_
          exact Keeps.refl _
        · refine KeepsO.next ?_
          refine Keeps.of_only (setCard_only _ _ _) rfl ?_
          refine Keeps.of_only (setCond_only _ _ _) rfl ?_
          refine Keeps.step (raiseRc_keeps ..) ?_
          refine Keeps.step (kennelEvent_keeps ..) ?_
          exact Keeps.refl _

theorem execRecoveryRelease_keeps (s : State) : KeepsO s (execRecoveryRelease s) := by
  unfold execRecoveryRelease
  refine KeepsO.ite ?_ ?_
  · refine KeepsO.next ?_
    refine Keeps.step (enterStandby_keeps ..) ?_
    exact Keeps.refl _
  · refine KeepsO.next ?_
    exact Keeps.refl _

end Sys2Proof.Machine
end

