-- ==== Sys2Proof/Laws/OnlyFirmware.lean ====
section
/-! SUPPORT. What each operation of Machine/Firmware.lean can change, at most. -/
namespace Sys2Proof.Machine

theorem fwRequest_only {m : Nat} {s0 s : State} {ses op reqid : Nat} {f : State → State × Nat} (hf : ∀ t, Only m s0 t → Only m s0 (f t).1)
    (w : 0x80080000000000000000000 &&& m = 0x80080000000000000000000) (h : Only m s0 s) : OnlyO m s0 (fwRequest ses op reqid f s) := by
  unfold fwRequest
  refine served_only (fun t g => ?_) w h
  refine Only.ite (Only.step (refuseReq_only ..) w g) ?_
  dsimp only
  exact Only.ite (Only.step (acceptReq_only ..) w (hf t g)) (Only.step (refuseReq_only ..) w (hf t g))

theorem execFwbegin_only (ses : Nat) (reqid : Nat) (len : Nat) (s : State) : OnlyO 0x80080400000000000000000 s (execFwbegin ses reqid len s) := by
  unfold execFwbegin
  refine fwRequest_only (fun _ _ => ?_) rfl ?_
  · split
    · dsimp only
      assumption
    · split
      · dsimp only
        assumption
      · dsimp only
        refine Only.set_fw rfl ?_ _
        assumption
  · exact Only.refl _ _

theorem execFwdata_only (ses : Nat) (reqid : Nat) (off : Nat) (data : List Sys2Proof.Byte) (s : State) : OnlyO 0x80080400000000000000000 s (execFwdata ses reqid off data s) := by
  unfold execFwdata
  refine fwRequest_only (fun _ _ => ?_) rfl ?_
  · dsimp only
    split
    · dsimp only
      assumption
    · dsimp only
      refine Only.set_fw rfl ?_ _
      assumption
  · exact Only.refl _ _

theorem execFwend_only (ses : Nat) (reqid : Nat) (s : State) : OnlyO 0x80080400000000000000000 s (execFwend ses reqid s) := by
  unfold execFwend
  refine fwRequest_only (fun _ _ => ?_) rfl ?_
  · dsimp only
    split
    · dsimp only
      assumption
    · split
      · dsimp only
        refine Only.set_fw rfl ?_ _
        assumption
      · dsimp only
        refine Only.set_fw rfl ?_ _
        assumption
  · exact Only.refl _ _

theorem fwPending_only (s : State) : Only 0x500000000000000080 s (fwPending s) := by
  unfold fwPending
  refine Only.ite ?_ ?_
  · refine Only.step (raise_only ..) rfl ?_
    refine Only.set_fw rfl ?_ _
    exact Only.refl _ _
  · exact Only.refl _ _

theorem fwFreeze_only (s : State) : Only 0x400000000000000000 s (fwFreeze s) := by
  unfold fwFreeze
  refine Only.ite ?_ ?_
  · exact Only.refl _ _
  · refine Only.set_fw rfl ?_ _
    exact Only.refl _ _

theorem fwRecovered_only (s : State) (sel : List Nat) : Only 0x600000000000000000 s (fwRecovered s sel) := by
  unfold fwRecovered
  dsimp only
  refine Only.set_fw rfl ?_ _
  refine Only.foldl (fun _ _ _ => ?_) ?_
  · refine Only.step (setCard_only ..) rfl ?_
    assumption
  · refine Only.ite ?_ ?_
    · refine Only.step (fwFreeze_only ..) rfl ?_
      exact Only.refl _ _
    · exact Only.refl _ _

theorem execFwactivate_only (ses : Nat) (reqid : Nat) (mask : Nat) (s : State) : OnlyO 0xc398070000000020001c890 s (execFwactivate ses reqid mask s) := by
  unfold execFwactivate
  split
  · refine OnlyO.next ?_
    refine Only.ite ?_ ?_
    · refine Only.step (enterStandby_only ..) rfl ?_
      refine fwRequest_only (fun _ _ => ?_) rfl (Only.refl _ _) _ (by assumption)
      dsimp only
      split
      · dsimp only
        assumption
      · split
        · dsimp only
          refine Only.step (fwRecovered_only ..) rfl ?_
          assumption
        · split
          · dsimp only
            assumption
          · split
            · dsimp only
              assumption
            · dsimp only
              refine Only.step (fwPending_only ..) rfl ?_
              refine Only.set_fw rfl ?_ _
              assumption
    · refine fwRequest_only (fun _ _ => ?_) rfl (Only.refl _ _) _ (by assumption)
      dsimp only
      split
      · dsimp only
        assumption
      · split
        · dsimp only
          refine Only.step (fwRecovered_only ..) rfl ?_
          assumption
        · split
          · dsimp only
            assumption
          · split
            · dsimp only
              assumption
            · dsimp only
              refine Only.step (fwPending_only ..) rfl ?_
              refine Only.set_fw rfl ?_ _
              assumption
  · refine fwRequest_only (fun _ _ => ?_) rfl ?_
    · dsimp only
      split
      · dsimp only
        assumption
      · split
        · dsimp only
          refine Only.step (fwRecovered_only ..) rfl ?_
          assumption
        · split
          · dsimp only
            assumption
          · split
            · dsimp only
              assumption
            · dsimp only
              refine Only.step (fwPending_only ..) rfl ?_
              refine Only.set_fw rfl ?_ _
              assumption
    · exact Only.refl _ _

theorem hubsMove_only (s : State) : Only 0x400 s (hubsMove s) := by
  unfold hubsMove
  refine Only.foldl (fun _ _ _ => ?_) ?_
  · refine Only.step (hubMove_only ..) rfl ?_
    assumption
  · exact Only.refl _ _

theorem refHandover_only (s : State) : Only 0x120 s (refHandover s) := by
  unfold refHandover
  refine Only.ite ?_ ?_
  · refine Only.step (addObj_only ..) rfl ?_
    refine Only.step (setObj_only ..) rfl ?_
    refine Only.step (setCond_only ..) rfl ?_
    exact Only.refl _ _
  · exact Only.refl _ _

theorem ldSwitch_only (s : State) (l : Nat) : Only 0xe04a09040007003a77fdda0 s (ldSwitch s l) := by
  unfold ldSwitch
  refine Only.ite ?_ ?_
  · exact Only.refl _ _
  · refine Only.step (linkDieBack_only ..) rfl ?_
    refine Only.step (linkDieDown_only ..) rfl ?_
    refine Only.ite ?_ ?_
    · refine Only.step (refHandover_only ..) rfl ?_
      exact Only.refl _ _
    · exact Only.refl _ _

theorem slotEffect_only (s : State) (slot : Nat) : Only 0x40200000000000000600 s (slotEffect s slot) := by
  unfold slotEffect
  refine Only.ite ?_ ?_
  · dsimp only
    split
    · refine Only.ite ?_ ?_
      · refine Only.step (setCard_only ..) rfl ?_
        refine Only.step (setCard_only ..) rfl ?_
        refine Only.step (dropRequests_only ..) rfl ?_
        exact Only.refl _ _
      · refine Only.step (dropRequests_only ..) rfl ?_
        exact Only.refl _ _
    · refine Only.step (dropRequests_only ..) rfl ?_
      exact Only.refl _ _
  · exact Only.refl _ _

theorem fwRolledBack_only (s : State) : Only 0x5000000000000000a0 s (fwRolledBack s) := by
  unfold fwRolledBack
  refine Only.ite ?_ ?_
  · dsimp only
    refine Only.step (raise_only ..) rfl ?_
    refine Only.set_fw rfl ?_ _
    refine Only.step (restoreSettings_only ..) rfl ?_
    exact Only.refl _ _
  · exact Only.refl _ _

theorem fwRollback_only (s : State) : Only 0x5000080000000001a0 s (fwRollback s) := by
  unfold fwRollback
  dsimp only
  refine Only.step (fwRolledBack_only ..) rfl ?_
  refine Only.set_fw rfl ?_ _
  refine Only.step (fwRelease_only ..) rfl ?_
  exact Only.refl _ _

theorem fwLinkDie_only {m : Nat} {s0 s : State} {done : State → State} (hf : ∀ t, Only m s0 t → Only m s0 (done t)) (w : 0xe04a0d040007003a77fdda0 &&& m = 0xe04a0d040007003a77fdda0)
    (h : Only m s0 s) : Only m s0 (fwLinkDie s done) := by
  have v : ∀ a, a &&& 0xe04a0d040007003a77fdda0 = a → a &&& m = a := fun a e => by rw [← e, Nat.and_assoc, w]
  have fw : ∀ t x, Only m s0 t → Only m s0 { t with fw := x } := fun t x g =>
    Only.step (a := 0x400000000000000000) (Only.set_fw rfl (Only.refl _ _) x) (v _ rfl) g
  unfold fwLinkDie
  dsimp only
  have g : Only m s0 (hubsMove s) := Only.step (hubsMove_only ..) (v _ rfl) h
  split
  · exact hf _ (fw _ _ g)
  · refine Only.ite g ?_
    have k := fun l => Only.step (ldSwitch_only (hubsMove s) l) (v _ rfl) g
    exact Only.ite (hf _ (fw _ _ (k _))) (fw _ _ (k _))


theorem fwBricksEnd_only {m : Nat} {s0 s : State} {done : State → State} (hf : ∀ t, Only m s0 t → Only m s0 (done t)) (w : 0x400000000000000000 &&& m = 0x400000000000000000)
    (h : Only m s0 s) : Only m s0 (fwBricksEnd s done) := by
  have v : ∀ a, a &&& 0x400000000000000000 = a → a &&& m = a := fun a e => by rw [← e, Nat.and_assoc, w]
  have fw : ∀ t x, Only m s0 t → Only m s0 { t with fw := x } := fun t x g =>
    Only.step (a := 0x400000000000000000) (Only.set_fw rfl (Only.refl _ _) x) (v _ rfl) g
  unfold fwBricksEnd
  exact Only.ite (hf _ (fw _ _ h)) h


theorem fwBrick_only {m : Nat} {s0 s : State} {done : State → State} (hf : ∀ t, Only m s0 t → Only m s0 (done t)) (w : 0x500008000000000180 &&& m = 0x500008000000000180)
    (h : Only m s0 s) : Only m s0 (fwBrick s done) := by
  have v : ∀ a, a &&& 0x500008000000000180 = a → a &&& m = a := fun a e => by rw [← e, Nat.and_assoc, w]
  have fw : ∀ t x, Only m s0 t → Only m s0 { t with fw := x } := fun t x g =>
    Only.step (a := 0x400000000000000000) (Only.set_fw rfl (Only.refl _ _) x) (v _ rfl) g
  unfold fwBrick
  split
  · exact fwBricksEnd_only hf (v _ rfl) (Only.step (fwRelease_only ..) (v _ rfl) h)
  · split
    · exact fwBricksEnd_only hf (v _ rfl) h
    · refine Only.ite (fwBricksEnd_only hf (v _ rfl) (fw _ _ h)) (Only.ite h ?_)
      refine Only.step (brickFallen_only ..) (v _ rfl) ?_
      exact Only.step (brickTo_only ..) (v _ rfl) (fw _ _ h)


theorem execFwSlotSwitched_only (ok : Bool) (s : State) : OnlyO 0xe04e0f040087003a77fdfa0 s (execFwSlotSwitched ok s) := by
  unfold execFwSlotSwitched
  split
  · refine OnlyO.ite ?_ ?_
    · refine OnlyO.next ?_
      refine Only.step (fwRollback_only ..) rfl ?_
      exact Only.refl _ _
    · refine OnlyO.ite ?_ ?_
      · refine OnlyO.next ?_
        refine fwLinkDie_only (fun _ _ => ?_) rfl ?_
        · refine Only.step (fwPending_only ..) rfl ?_
          refine Only.set_fw rfl ?_ _
          assumption
        · exact Only.refl _ _
      · refine OnlyO.ite ?_ ?_
        · refine OnlyO.next ?_
          refine fwBrick_only (fun _ _ => ?_) rfl ?_
          · refine Only.step (fwPending_only ..) rfl ?_
            refine Only.set_fw rfl ?_ _
            assumption
          · exact Only.refl _ _
        · dsimp only
          refine OnlyO.next ?_
          refine Only.step (fwPending_only ..) rfl ?_
          refine Only.step (slotEffect_only ..) rfl ?_
          refine Only.set_fw rfl ?_ _
          refine Only.ite ?_ ?_
          · refine Only.step (fwFreeze_only ..) rfl ?_
            exact Only.refl _ _
          · exact Only.refl _ _
  · refine OnlyO.ite ?_ ?_
    · refine OnlyO.next ?_
      refine fwLinkDie_only (fun _ _ => ?_) rfl ?_
      · refine Only.step (fwRolledBack_only ..) rfl ?_
        refine Only.set_fw rfl ?_ _
        assumption
      · exact Only.refl _ _
    · refine OnlyO.ite ?_ ?_
      · refine OnlyO.next ?_
        refine fwBrick_only (fun _ _ => ?_) rfl ?_
        · refine Only.step (fwRolledBack_only ..) rfl ?_
          refine Only.set_fw rfl ?_ _
          assumption
        · exact Only.refl _ _
      · refine OnlyO.next ?_
        refine Only.step (fwRolledBack_only ..) rfl ?_
        refine Only.step (slotEffect_only ..) rfl ?_
        refine Only.set_fw rfl ?_ _
        exact Only.refl _ _
  · refine OnlyO.next ?_
    exact Only.refl _ _

theorem execFwconfirm_only (ses : Nat) (reqid : Nat) (s : State) : OnlyO 0x80080400000000000000000 s (execFwconfirm ses reqid s) := by
  unfold execFwconfirm
  refine fwRequest_only (fun _ _ => ?_) rfl ?_
  · split
    · dsimp only
      assumption
    · dsimp only
      refine Only.set_fw rfl ?_ _
      assumption
  · exact Only.refl _ _

theorem execFwrollback_only (ses : Nat) (reqid : Nat) (s : State) : OnlyO 0x800805000080000000001a0 s (execFwrollback ses reqid s) := by
  unfold execFwrollback
  refine fwRequest_only (fun _ _ => ?_) rfl ?_
  · split
    · dsimp only
      assumption
    · dsimp only
      refine Only.step (fwRollback_only ..) rfl ?_
      assumption
  · exact Only.refl _ _

theorem execFwabort_only (ses : Nat) (reqid : Nat) (s : State) : OnlyO 0x80080400000000000000000 s (execFwabort ses reqid s) := by
  unfold execFwabort
  refine fwRequest_only (fun _ _ => ?_) rfl ?_
  · split
    · dsimp only
      assumption
    · dsimp only
      refine Only.set_fw rfl ?_ _
      assumption
  · exact Only.refl _ _

theorem execFwConfirmTimeout_only (s : State) : OnlyO 0x5000080000000001a0 s (execFwConfirmTimeout s) := by
  unfold execFwConfirmTimeout
  dsimp only
  refine OnlyO.ite ?_ ?_
  · refine OnlyO.next ?_
    refine Only.step (fwRollback_only ..) rfl ?_
    exact Only.refl _ _
  · refine OnlyO.next ?_
    exact Only.refl _ _

theorem execRecover_only (ses : Nat) (reqid : Nat) (s : State) : OnlyO 0xbbee0918ba972f7fb7fdfb0 s (execRecover ses reqid s) := by
  unfold execRecover
  split
  · refine OnlyO.ite ?_ ?_
    · split
      · refine OnlyO.next ?_
        refine Only.step (beginStop_only ..) rfl ?_
        refine fwRequest_only (fun _ _ => ?_) rfl (Only.refl _ _) _ (by assumption)
        dsimp only
        assumption
      · refine OnlyO.next ?_
        refine Only.step (beginStop_only ..) rfl ?_
        refine fwRequest_only (fun _ _ => ?_) rfl (Only.refl _ _) _ (by assumption)
        dsimp only
        assumption
      · refine OnlyO.next ?_
        refine Only.set_life rfl ?_ _
        refine fwRequest_only (fun _ _ => ?_) rfl (Only.refl _ _) _ (by assumption)
        dsimp only
        assumption
      · refine OnlyO.next ?_
        dsimp only
        refine Only.set_power rfl ?_ _
        refine Only.step (waferOff_only ..) rfl ?_
        refine fwRequest_only (fun _ _ => ?_) rfl (Only.refl _ _) _ (by assumption)
        dsimp only
        assumption
      · refine OnlyO.next ?_
        refine Only.set_power rfl ?_ _
        refine fwRequest_only (fun _ _ => ?_) rfl (Only.refl _ _) _ (by assumption)
        dsimp only
        assumption
      · refine OnlyO.next ?_
        refine fwRequest_only (fun _ _ => ?_) rfl (Only.refl _ _) _ (by assumption)
        dsimp only
        assumption
    · refine OnlyO.next ?_
      refine fwRequest_only (fun _ _ => ?_) rfl (Only.refl _ _) _ (by assumption)
      dsimp only
      assumption
  · refine fwRequest_only (fun _ _ => ?_) rfl ?_
    · dsimp only
      assumption
    · exact Only.refl _ _

end Sys2Proof.Machine
end

