-- ==== Sys2Proof/Laws/KeepsFirmware.lean ====
section
/-! SUPPORT. Each operation of Machine/Firmware.lean keeps: the form of the memories and the bounds of the stores. -/
namespace Sys2Proof.Machine

theorem fwRequest_keeps {s0 s : State} {ses op reqid : Nat} {f : State → State × Nat} (hf : ∀ t, Keeps s0 t → Keeps s0 (f t).1)
    (h : Keeps s0 s) : KeepsO s0 (fwRequest ses op reqid f s) := by
  unfold fwRequest
  refine served_keeps (fun t g => ?_) h
  refine Keeps.ite (Keeps.of_only (refuseReq_only ..) rfl g) ?_
  dsimp only
  exact Keeps.ite (Keeps.of_only (acceptReq_only ..) rfl (hf t g)) (Keeps.of_only (refuseReq_only ..) rfl (hf t g))

theorem fwPending_keeps (s : State) : Keeps s (fwPending s) := by
  unfold fwPending
  refine Keeps.ite ?_ ?_
  · refine Keeps.step (raise_keeps ..) ?_
    refine Keeps.of_only (Only.set_fw (m := 1180591620717411303424) rfl (Only.refl _ _) _) rfl ?_
    exact Keeps.refl _
  · exact Keeps.refl _

theorem execFwactivate_keeps (ses : Nat) (reqid : Nat) (mask : Nat) (s : State) : KeepsO s (execFwactivate ses reqid mask s) := by
  unfold execFwactivate
  split
  · refine KeepsO.next ?_
    refine Keeps.ite ?_ ?_
    · refine Keeps.step (enterStandby_keeps ..) ?_
      refine KeepsO.next_good (fwRequest_keeps (fun _ _ => ?_) (Keeps.refl _)) _ (by assumption)
      dsimp only
      split
      · dsimp only
        assumption
      · split
        · dsimp only
          refine Keeps.of_only (fwRecovered_only _ _) rfl ?_
          assumption
        · split
          · dsimp only
            assumption
          · split
            · dsimp only
              assumption
            · dsimp only
              refine Keeps.step (fwPending_keeps ..) ?_
              refine Keeps.of_only (Only.set_fw (m := 1180591620717411303424) rfl (Only.refl _ _) _) rfl ?_
              assumption
    · refine KeepsO.next_good (fwRequest_keeps (fun _ _ => ?_) (Keeps.refl _)) _ (by assumption)
      dsimp only
      split
      · dsimp only
        assumption
      · split
        · dsimp only
          refine Keeps.of_only (fwRecovered_only _ _) rfl ?_
          assumption
        · split
          · dsimp only
            assumption
          · split
            · dsimp only
              assumption
            · dsimp only
              refine Keeps.step (fwPending_keeps ..) ?_
              refine Keeps.of_only (Only.set_fw (m := 1180591620717411303424) rfl (Only.refl _ _) _) rfl ?_
              assumption
  · refine fwRequest_keeps (fun _ _ => ?_) ?_
    · dsimp only
      split
      · dsimp only
        assumption
      · split
        · dsimp only
          refine Keeps.of_only (fwRecovered_only _ _) rfl ?_
          assumption
        · split
          · dsimp only
            assumption
          · split
            · dsimp only
              assumption
            · dsimp only
              refine Keeps.step (fwPending_keeps ..) ?_
              refine Keeps.of_only (Only.set_fw (m := 1180591620717411303424) rfl (Only.refl _ _) _) rfl ?_
              assumption
    · exact Keeps.refl _

theorem ldSwitch_keeps (s : State) (l : Nat) : Keeps s (ldSwitch s l) := by
  unfold ldSwitch
  refine Keeps.ite ?_ ?_
  · exact Keeps.refl _
  · refine Keeps.of_only (linkDieBack_only _ _) rfl ?_
    refine Keeps.step (linkDieDown_keeps ..) ?_
    refine Keeps.ite ?_ ?_
    · refine Keeps.of_only (refHandover_only _) rfl ?_
      exact Keeps.refl _
    · exact Keeps.refl _

theorem fwRolledBack_keeps (s : State) : Keeps s (fwRolledBack s) := by
  unfold fwRolledBack
  refine Keeps.ite ?_ ?_
  · dsimp only
    refine Keeps.step (raise_keeps ..) ?_
    refine Keeps.of_only (Only.set_fw (m := 1180591620717411303424) rfl (Only.refl _ _) _) rfl ?_
    refine Keeps.of_only (restoreSettings_only _) rfl ?_
    exact Keeps.refl _
  · exact Keeps.refl _

theorem fwRollback_keeps (s : State) : Keeps s (fwRollback s) := by
  unfold fwRollback
  dsimp only
  refine Keeps.step (fwRolledBack_keeps ..) ?_
  refine Keeps.of_only (Only.set_fw (m := 1180591620717411303424) rfl (Only.refl _ _) _) rfl ?_
  refine Keeps.of_only (fwRelease_only _) rfl ?_
  exact Keeps.refl _

theorem fwLinkDie_keeps {s0 s : State} {done : State → State} (hf : ∀ t, Keeps s0 t → Keeps s0 (done t)) (h : Keeps s0 s) :
    Keeps s0 (fwLinkDie s done) := by
  unfold fwLinkDie
  dsimp only
  have g : Keeps s0 (hubsMove s) := Keeps.of_only (hubsMove_only ..) rfl h
  split
  · exact hf _ (Keeps.of_only (Only.set_fw (m := 1180591620717411303424) rfl (Only.refl _ _) _) rfl g)
  · refine Keeps.ite g ?_
    have k := fun l => Keeps.step (ldSwitch_keeps (hubsMove s) l) g
    exact Keeps.ite (hf _ (Keeps.of_only (Only.set_fw (m := 1180591620717411303424) rfl (Only.refl _ _) _) rfl (k _))) (Keeps.of_only (Only.set_fw (m := 1180591620717411303424) rfl (Only.refl _ _) _) rfl (k _))


theorem fwBricksEnd_keeps {s0 s : State} {done : State → State} (hf : ∀ t, Keeps s0 t → Keeps s0 (done t)) (h : Keeps s0 s) :
    Keeps s0 (fwBricksEnd s done) := by
  unfold fwBricksEnd
  exact Keeps.ite (hf _ (Keeps.of_only (Only.set_fw (m := 1180591620717411303424) rfl (Only.refl _ _) _) rfl h)) h


theorem fwBrick_keeps {s0 s : State} {done : State → State} (hf : ∀ t, Keeps s0 t → Keeps s0 (done t)) (h : Keeps s0 s) :
    Keeps s0 (fwBrick s done) := by
  unfold fwBrick
  split
  · exact fwBricksEnd_keeps hf (Keeps.of_only (fwRelease_only ..) rfl h)
  · split
    · exact fwBricksEnd_keeps hf h
    · refine Keeps.ite (fwBricksEnd_keeps hf (Keeps.of_only (Only.set_fw (m := 1180591620717411303424) rfl (Only.refl _ _) _) rfl h)) (Keeps.ite h ?_)
      refine Keeps.step (brickFallen_keeps ..) ?_
      exact Keeps.of_only (brickTo_only ..) rfl (Keeps.of_only (Only.set_fw (m := 1180591620717411303424) rfl (Only.refl _ _) _) rfl h)


theorem execFwSlotSwitched_keeps (ok : Bool) (s : State) : KeepsO s (execFwSlotSwitched ok s) := by
  unfold execFwSlotSwitched
  split
  · refine KeepsO.ite ?_ ?_
    · refine KeepsO.next ?_
      refine Keeps.step (fwRollback_keeps ..) ?_
      exact Keeps.refl _
    · refine KeepsO.ite ?_ ?_
      · refine KeepsO.next ?_
        refine fwLinkDie_keeps (fun _ _ => ?_) ?_
        · refine Keeps.step (fwPending_keeps ..) ?_
          refine Keeps.of_only (Only.set_fw (m := 1180591620717411303424) rfl (Only.refl _ _) _) rfl ?_
          assumption
        · exact Keeps.refl _
      · refine KeepsO.ite ?_ ?_
        · refine KeepsO.next ?_
          refine fwBrick_keeps (fun _ _ => ?_) ?_
          · refine Keeps.step (fwPending_keeps ..) ?_
            refine Keeps.of_only (Only.set_fw (m := 1180591620717411303424) rfl (Only.refl _ _) _) rfl ?_
            assumption
          · exact Keeps.refl _
        · dsimp only
          refine KeepsO.next ?_
          refine Keeps.step (fwPending_keeps ..) ?_
          refine Keeps.of_only (slotEffect_only _ _) rfl ?_
          refine Keeps.of_only (Only.set_fw (m := 1180591620717411303424) rfl (Only.refl _ _) _) rfl ?_
          refine Keeps.ite ?_ ?_
          · refine Keeps.of_only (fwFreeze_only _) rfl ?_
            exact Keeps.refl _
          · exact Keeps.refl _
  · refine KeepsO.ite ?_ ?_
    · refine KeepsO.next ?_
      refine fwLinkDie_keeps (fun _ _ => ?_) ?_
      · refine Keeps.step (fwRolledBack_keeps ..) ?_
        refine Keeps.of_only (Only.set_fw (m := 1180591620717411303424) rfl (Only.refl _ _) _) rfl ?_
        assumption
      · exact Keeps.refl _
    · refine KeepsO.ite ?_ ?_
      · refine KeepsO.next ?_
        refine fwBrick_keeps (fun _ _ => ?_) ?_
        · refine Keeps.step (fwRolledBack_keeps ..) ?_
          refine Keeps.of_only (Only.set_fw (m := 1180591620717411303424) rfl (Only.refl _ _) _) rfl ?_
          assumption
        · exact Keeps.refl _
      · refine KeepsO.next ?_
        refine Keeps.step (fwRolledBack_keeps ..) ?_
        refine Keeps.of_only (slotEffect_only _ _) rfl ?_
        refine Keeps.of_only (Only.set_fw (m := 1180591620717411303424) rfl (Only.refl _ _) _) rfl ?_
        exact Keeps.refl _
  · refine KeepsO.next ?_
    exact Keeps.refl _

theorem execFwrollback_keeps (ses : Nat) (reqid : Nat) (s : State) : KeepsO s (execFwrollback ses reqid s) := by
  unfold execFwrollback
  refine fwRequest_keeps (fun _ _ => ?_) ?_
  · split
    · dsimp only
      assumption
    · dsimp only
      refine Keeps.step (fwRollback_keeps ..) ?_
      assumption
  · exact Keeps.refl _

theorem execFwConfirmTimeout_keeps (s : State) : KeepsO s (execFwConfirmTimeout s) := by
  unfold execFwConfirmTimeout
  dsimp only
  refine KeepsO.ite ?_ ?_
  · refine KeepsO.next ?_
    refine Keeps.step (fwRollback_keeps ..) ?_
    exact Keeps.refl _
  · refine KeepsO.next ?_
    exact Keeps.refl _

theorem execRecover_keeps (ses : Nat) (reqid : Nat) (s : State) : KeepsO s (execRecover ses reqid s) := by
  unfold execRecover
  split
  · refine KeepsO.ite ?_ ?_
    · split
      · refine KeepsO.next ?_
        refine Keeps.of_only (beginStop_only _ _) rfl ?_
        refine KeepsO.next_good (fwRequest_keeps (fun _ _ => ?_) (Keeps.refl _)) _ (by assumption)
        dsimp only
        assumption
      · refine KeepsO.next ?_
        refine Keeps.of_only (beginStop_only _ _) rfl ?_
        refine KeepsO.next_good (fwRequest_keeps (fun _ _ => ?_) (Keeps.refl _)) _ (by assumption)
        dsimp only
        assumption
      · refine KeepsO.next ?_
        refine Keeps.of_only (Only.set_life (m := 295147905179352825856) rfl (Only.refl _ _) _) rfl ?_
        refine KeepsO.next_good (fwRequest_keeps (fun _ _ => ?_) (Keeps.refl _)) _ (by assumption)
        dsimp only
        assumption
      · refine KeepsO.next ?_
        dsimp only
        refine Keeps.of_only (Only.set_power (m := 16) rfl (Only.refl _ _) _) rfl ?_
        refine Keeps.step (waferOff_keeps ..) ?_
        refine KeepsO.next_good (fwRequest_keeps (fun _ _ => ?_) (Keeps.refl _)) _ (by assumption)
        dsimp only
        assumption
      · refine KeepsO.next ?_
        refine Keeps.of_only (Only.set_power (m := 16) rfl (Only.refl _ _) _) rfl ?_
        refine KeepsO.next_good (fwRequest_keeps (fun _ _ => ?_) (Keeps.refl _)) _ (by assumption)
        dsimp only
        assumption
      · refine KeepsO.next ?_
        refine KeepsO.next_good (fwRequest_keeps (fun _ _ => ?_) (Keeps.refl _)) _ (by assumption)
        dsimp only
        assumption
    · refine KeepsO.next ?_
      refine KeepsO.next_good (fwRequest_keeps (fun _ _ => ?_) (Keeps.refl _)) _ (by assumption)
      dsimp only
      assumption
  · refine fwRequest_keeps (fun _ _ => ?_) ?_
    · dsimp only
      assumption
    · exact Keeps.refl _

end Sys2Proof.Machine
end

