-- ==== Sys2Proof/Laws/OnlyMessages.lean ====
section
/-! SUPPORT. What each operation of Machine/Messages.lean can change, at most. -/
namespace Sys2Proof.Machine

theorem after_only {m : Nat} {s0 s : State} {o : Host.Outcome State Fault Refusal} (hf : OnlyO m s0 o) (h : Only m s0 s) :
    Only m s0 (after s o) := by
  unfold after
  split
  · exact hf _ rfl
  · exact h

theorem mcarmBody_only (ses : Nat) (reqid : Nat) (p : Nat) (b : Nat) (s : State) : Only 0x80080000800000000000700 s (mcarmBody ses reqid p b s) := by
  unfold mcarmBody
  refine Only.ite ?_ ?_
  · refine Only.step (refuseReq_only ..) rfl ?_
    exact Only.refl _ _
  · refine Only.ite ?_ ?_
    · refine Only.step (refuseReq_only ..) rfl ?_
      exact Only.refl _ _
    · split
      · refine after_only ?_ ?_
        · refine OnlyO.step (execMcarmNumeric_only _ _ _ _ _) rfl ?_
          exact Only.refl _ _
        · exact Only.refl _ _
      · refine after_only ?_ ?_
        · refine OnlyO.step (execMcarmBand_only _ _ _ _ _) rfl ?_
          exact Only.refl _ _
        · exact Only.refl _ _
      · refine after_only ?_ ?_
        · refine OnlyO.step (execMcarmPower_only _ _ _ _) rfl ?_
          exact Only.refl _ _
        · exact Only.refl _ _
      · refine Only.step (refuseReq_only ..) rfl ?_
        exact Only.refl _ _

theorem requestOp_only {ses reqid op p n : Nat} {b : List Byte} {s : State} {o : Host.Outcome State Fault Refusal}
    (hq : requestOp ses reqid op p n b s = some o) : OnlyO 0xfbfffff8bab72f7ff7fdff8 s o := by
  have key : ∀ {c : Prop} [Decidable c] {x : Host.Outcome State Fault Refusal}, (if c then some x else none) = some o →
      OnlyO 0xfbfffff8bab72f7ff7fdff8 s x → OnlyO 0xfbfffff8bab72f7ff7fdff8 s o := by
    intro c _ x e h
    split at e
    · obtain rfl := Option.some.inj e
      exact h
    · cases e
  unfold requestOp at hq
  dsimp only at hq
  split at hq
  · exact key hq (OnlyO.step (execRead_only _ _ _ _) rfl (Only.refl _ _))
  · rw [Option.map_eq_some_iff] at hq
    obtain ⟨l, -, rfl⟩ := hq
    exact OnlyO.step (execWrite_only _ _ _ _) rfl (Only.refl _ _)
  · exact key hq (OnlyO.step (execDescribe_only _ _ _ _) rfl (Only.refl _ _))
  · exact key hq (OnlyO.step (execList_only _ _ _ _ _) rfl (Only.refl _ _))
  · exact key hq (OnlyO.step (execAckattn_only _ _ _ _) rfl (Only.refl _ _))
  · exact key hq (OnlyO.step (execEvcomplete_only _ _ _ _) rfl (Only.refl _ _))
  · exact key hq (OnlyO.step (execLoad_only _ _ _ _) rfl (Only.refl _ _))
  · exact key hq (OnlyO.step (execUnload_only _ _ _ _) rfl (Only.refl _ _))
  · exact key hq (OnlyO.step (execRestart_only _ _ _ _) rfl (Only.refl _ _))
  · refine key hq (OnlyO.ite ?_ ?_)
    · exact OnlyO.step (execReplaceUnhealthy_only _ _ _ _) rfl (Only.refl _ _)
    · exact OnlyO.step (execReplaceTile_only _ _ _ _) rfl (Only.refl _ _)
  · exact key hq (OnlyO.step (execPromote_only _ _ _ _ _) rfl (Only.refl _ _))
  · refine key hq (OnlyO.next ?_)
    exact Only.step (mcarmBody_only ..) rfl (Only.refl _ _)
  · exact key hq (OnlyO.step (execMcapply_only _ _ _ _) rfl (Only.refl _ _))
  · exact key hq (OnlyO.step (execMcabort_only _ _ _) rfl (Only.refl _ _))
  · exact key hq (OnlyO.step (execImgbegin_only _ _ _ _ _) rfl (Only.refl _ _))
  · exact key hq (OnlyO.step (execImgdata_only _ _ _ _ _ _) rfl (Only.refl _ _))
  · exact key hq (OnlyO.step (execImgend_only _ _ _ _) rfl (Only.refl _ _))
  · exact key hq (OnlyO.step (execImgdelete_only _ _ _ _) rfl (Only.refl _ _))
  · exact key hq (OnlyO.step (execFwbegin_only _ _ _ _) rfl (Only.refl _ _))
  · exact key hq (OnlyO.step (execFwdata_only _ _ _ _ _) rfl (Only.refl _ _))
  · exact key hq (OnlyO.step (execFwend_only _ _ _) rfl (Only.refl _ _))
  · exact key hq (OnlyO.step (execFwactivate_only _ _ _ _) rfl (Only.refl _ _))
  · exact key hq (OnlyO.step (execFwconfirm_only _ _ _) rfl (Only.refl _ _))
  · exact key hq (OnlyO.step (execFwrollback_only _ _ _) rfl (Only.refl _ _))
  · exact key hq (OnlyO.step (execFwabort_only _ _ _) rfl (Only.refl _ _))
  · exact key hq (OnlyO.step (execRecover_only _ _ _) rfl (Only.refl _ _))
  · cases hq

theorem requestRx_only (s : State) (ses : Nat) (b : List Sys2Proof.Byte) : Only 0xfbfffff8bab72f7ff7fdff8 s (requestRx s ses b) := by
  unfold requestRx
  dsimp only
  refine Only.ite ?_ ?_
  · exact Only.refl _ _
  · refine Only.ite ?_ ?_
    · refine after_only ?_ ?_
      · refine served_only (fun _ _ => ?_) rfl ?_
        · refine Only.step (refuseReq_only ..) rfl ?_
          assumption
        · exact Only.refl _ _
      · exact Only.refl _ _
    · refine Only.ite ?_ ?_
      · refine after_only ?_ ?_
        · refine served_only (fun _ _ => ?_) rfl ?_
          · refine Only.step (refuseReq_only ..) rfl ?_
            assumption
          · exact Only.refl _ _
        · exact Only.refl _ _
      · split
        · refine after_only ?_ ?_
          · refine OnlyO.step (requestOp_only (by assumption)) rfl ?_
            exact Only.refl _ _
          · exact Only.refl _ _
        · refine after_only ?_ ?_
          · refine served_only (fun _ _ => ?_) rfl ?_
            · refine Only.step (refuseReq_only ..) rfl ?_
              assumption
            · exact Only.refl _ _
          · exact Only.refl _ _

theorem malformedList_only (s : State) (ses : Nat) (q : Nat) (b : List Sys2Proof.Byte) : Only 0x80080000000000000000000 s (malformedList s ses q b) := by
  unfold malformedList
  refine Only.step (reply_only ..) rfl ?_
  exact Only.refl _ _

theorem messageRx_only (s : State) (ses : Nat) (bs : List Sys2Proof.Byte) : Only 0xfbfffffabab72f7ffffdff8 s (messageRx s ses bs) := by
  unfold messageRx
  dsimp only
  refine Only.ite ?_ ?_
  · refine Only.ite ?_ ?_
    · exact Only.refl _ _
    · refine Only.ite ?_ ?_
      · refine Only.step (malformedList_only ..) rfl ?_
        exact Only.refl _ _
      · refine after_only ?_ ?_
        · refine OnlyO.step (execCommandListSubmit_only _ _ _ _) rfl ?_
          exact Only.refl _ _
        · exact Only.refl _ _
  · refine Only.ite ?_ ?_
    · exact Only.refl _ _
    · refine Only.ite ?_ ?_
      · refine Only.ite ?_ ?_
        · exact Only.refl _ _
        · refine Only.step (requestRx_only ..) rfl ?_
          exact Only.refl _ _
      · refine Only.ite ?_ ?_
        · refine Only.ite ?_ ?_
          · refine Only.step (cascadeRx_only ..) rfl ?_
            exact Only.refl _ _
          · exact Only.refl _ _
        · exact Only.refl _ _

theorem msgRx_only (s : State) (ses : Nat) (c : Nat) (g : RxSeg) : Only 0xfbfffffabab72f7ffffdff8 s (msgRx s ses c g) := by
  unfold msgRx
  dsimp only
  refine Only.ite ?_ ?_
  · exact Only.refl _ _
  · refine Only.ite ?_ ?_
    · refine Only.step (messageRx_only ..) rfl ?_
      refine Only.step (setChan_only ..) rfl ?_
      exact Only.refl _ _
    · refine Only.step (setChan_only ..) rfl ?_
      exact Only.refl _ _

theorem segRx_only (s : State) (ses : Nat) (c : Nat) (g : RxSeg) : Only 0xfbfffffabab72f7ffffdff8 s (segRx s ses c g) := by
  unfold segRx
  split
  · refine Only.step (msgRx_only ..) rfl ?_
    exact Only.refl _ _
  · refine Only.step (writeRx_only ..) rfl ?_
    exact Only.refl _ _
  · refine Only.step (wackRx_only ..) rfl ?_
    exact Only.refl _ _
  · refine Only.step (wnakRx_only ..) rfl ?_
    exact Only.refl _ _
  · refine Only.step (contribRx_only ..) rfl ?_
    exact Only.refl _ _
  · exact Only.refl _ _

theorem takeSeg_only (s : State) (ses : Nat) (c : Nat) (g : RxSeg) : Only 0xfbfffffabab72f7ffffdff8 s (takeSeg s ses c g) := by
  unfold takeSeg
  dsimp only
  refine Only.ite ?_ ?_
  · refine Only.step (setChan_only ..) rfl ?_
    exact Only.refl _ _
  · refine Only.step (segRx_only ..) rfl ?_
    refine Only.step (setChan_only ..) rfl ?_
    exact Only.refl _ _

theorem drain_only (s : State) (ses c n : Nat) : Only 0xfbfffffabab72f7ffffdff8 s (drain s ses c n) := by
  induction n generalizing s with
  | zero => exact Only.refl _ _
  | succ n ih =>
    unfold drain
    dsimp only
    split
    · exact Only.refl _ _
    · refine Only.step (ih _) rfl ?_
      refine Only.step (takeSeg_only ..) rfl ?_
      refine Only.step (setChan_only ..) rfl ?_
      exact Only.refl _ _

theorem noteDue_only (s : State) (ses : Nat) (c : Nat) (now : Bool) : Only 0x80080000000000000000000 s (noteDue s ses c now) := by
  unfold noteDue
  refine Only.ite ?_ ?_
  · exact Only.refl _ _
  · dsimp only
    refine Only.ite ?_ ?_
    · refine Only.step (sendAck_only ..) rfl ?_
      refine Only.step (setChan_only ..) rfl ?_
      exact Only.refl _ _
    · refine Only.step (setChan_only ..) rfl ?_
      exact Only.refl _ _

theorem segmentRx_only (f : RxFrame) (s : State) : Only 0xfbfffffabab72f7ffffdff8 s (segmentRx f s) := by
  unfold segmentRx
  dsimp only
  refine Only.ite ?_ ?_
  · refine Only.step (sendAck_only ..) rfl ?_
    refine Only.step (ackRx_only ..) rfl ?_
    exact Only.refl _ _
  · refine Only.ite ?_ ?_
    · refine Only.step (noteDue_only ..) rfl ?_
      refine Only.step (drain_only ..) rfl ?_
      refine Only.step (takeSeg_only ..) rfl ?_
      refine Only.step (ackRx_only ..) rfl ?_
      exact Only.refl _ _
    · refine Only.ite ?_ ?_
      · refine Only.step (noteDue_only ..) rfl ?_
        refine Only.step (setChan_only ..) rfl ?_
        refine Only.step (ackRx_only ..) rfl ?_
        exact Only.refl _ _
      · refine Only.step (ackRx_only ..) rfl ?_
        exact Only.refl _ _

theorem execBrolerMsg_only (s : State) : OnlyO 0xfbfffffabab72f7ffffdff8 s (execBrolerMsg s) := by
  unfold execBrolerMsg
  refine takeFrame_only (fun _ _ _ => ?_) rfl ?_
  · refine Only.step (segmentRx_only ..) rfl ?_
    assumption
  · exact Only.refl _ _

theorem execBrolerWrite_only (s : State) : OnlyO 0xfbfffffabab72f7ffffdff8 s (execBrolerWrite s) := by
  unfold execBrolerWrite
  refine takeFrame_only (fun _ _ _ => ?_) rfl ?_
  · refine Only.step (segmentRx_only ..) rfl ?_
    assumption
  · exact Only.refl _ _

theorem execBrolerWack_only (s : State) : OnlyO 0xfbfffffabab72f7ffffdff8 s (execBrolerWack s) := by
  unfold execBrolerWack
  refine takeFrame_only (fun _ _ _ => ?_) rfl ?_
  · refine Only.step (segmentRx_only ..) rfl ?_
    assumption
  · exact Only.refl _ _

theorem execBrolerWnak_only (s : State) : OnlyO 0xfbfffffabab72f7ffffdff8 s (execBrolerWnak s) := by
  unfold execBrolerWnak
  refine takeFrame_only (fun _ _ _ => ?_) rfl ?_
  · refine Only.step (segmentRx_only ..) rfl ?_
    assumption
  · exact Only.refl _ _

theorem execBrolerContrib_only (s : State) : OnlyO 0xfbfffffabab72f7ffffdff8 s (execBrolerContrib s) := by
  unfold execBrolerContrib
  refine takeFrame_only (fun _ _ _ => ?_) rfl ?_
  · refine Only.step (segmentRx_only ..) rfl ?_
    assumption
  · exact Only.refl _ _

end Sys2Proof.Machine
end

