-- ==== Sys2Proof/Laws/KeepsMessages.lean ====
section
/-! SUPPORT. Each operation of Machine/Messages.lean keeps: the form of the memories and the bounds of the stores. -/
namespace Sys2Proof.Machine

theorem after_keeps {s0 s : State} {o : Host.Outcome State Fault Refusal} (hf : KeepsO s0 o) (h : Keeps s0 s) :
    Keeps s0 (after s o) := by
  unfold after
  split
  · exact hf.next_good _ rfl
  · exact h

theorem requestOp_keeps {ses reqid op p n : Nat} {b : List Byte} {s : State} {o : Host.Outcome State Fault Refusal}
    (hq : requestOp ses reqid op p n b s = some o) : KeepsO s o := by
  have key : ∀ {c : Prop} [Decidable c] {x : Host.Outcome State Fault Refusal}, (if c then some x else none) = some o →
      KeepsO s x → KeepsO s o := by
    intro c _ x e h
    split at e
    · obtain rfl := Option.some.inj e
      exact h
    · cases e
  unfold requestOp at hq
  dsimp only at hq
  split at hq
  · exact key hq (KeepsO.of_only (execRead_only _ _ _ _) rfl (Keeps.refl _))
  · rw [Option.map_eq_some_iff] at hq
    obtain ⟨l, -, rfl⟩ := hq
    exact KeepsO.step (execWrite_keeps _ _ _ _) (Keeps.refl _)
  · exact key hq (KeepsO.of_only (execDescribe_only _ _ _ _) rfl (Keeps.refl _))
  · exact key hq (KeepsO.of_only (execList_only _ _ _ _ _) rfl (Keeps.refl _))
  · exact key hq (KeepsO.step (execAckattn_keeps _ _ _ _) (Keeps.refl _))
  · exact key hq (KeepsO.of_only (execEvcomplete_only _ _ _ _) rfl (Keeps.refl _))
  · exact key hq (KeepsO.step (execLoad_keeps _ _ _ _) (Keeps.refl _))
  · exact key hq (KeepsO.step (execUnload_keeps _ _ _ _) (Keeps.refl _))
  · exact key hq (KeepsO.step (execRestart_keeps _ _ _ _) (Keeps.refl _))
  · refine key hq (KeepsO.ite ?_ ?_)
    · exact KeepsO.step (execReplaceUnhealthy_keeps _ _ _ _) (Keeps.refl _)
    · exact KeepsO.step (execReplaceTile_keeps _ _ _ _) (Keeps.refl _)
  · exact key hq (KeepsO.step (execPromote_keeps _ _ _ _ _) (Keeps.refl _))
  · refine key hq (KeepsO.next ?_)
    exact Keeps.of_only (mcarmBody_only ..) rfl (Keeps.refl _)
  · exact key hq (KeepsO.of_only (execMcapply_only _ _ _ _) rfl (Keeps.refl _))
  · exact key hq (KeepsO.step (execMcabort_keeps _ _ _) (Keeps.refl _))
  · exact key hq (KeepsO.step (execImgbegin_keeps _ _ _ _ _) (Keeps.refl _))
  · exact key hq (KeepsO.step (execImgdata_keeps _ _ _ _ _ _) (Keeps.refl _))
  · exact key hq (KeepsO.step (execImgend_keeps _ _ _ _) (Keeps.refl _))
  · exact key hq (KeepsO.step (execImgdelete_keeps _ _ _ _) (Keeps.refl _))
  · exact key hq (KeepsO.of_only (execFwbegin_only _ _ _ _) rfl (Keeps.refl _))
  · exact key hq (KeepsO.of_only (execFwdata_only _ _ _ _ _) rfl (Keeps.refl _))
  · exact key hq (KeepsO.of_only (execFwend_only _ _ _) rfl (Keeps.refl _))
  · exact key hq (KeepsO.step (execFwactivate_keeps _ _ _ _) (Keeps.refl _))
  · exact key hq (KeepsO.of_only (execFwconfirm_only _ _ _) rfl (Keeps.refl _))
  · exact key hq (KeepsO.step (execFwrollback_keeps _ _ _) (Keeps.refl _))
  · exact key hq (KeepsO.of_only (execFwabort_only _ _ _) rfl (Keeps.refl _))
  · exact key hq (KeepsO.step (execRecover_keeps _ _ _) (Keeps.refl _))
  · cases hq

theorem requestRx_keeps (s : State) (ses : Nat) (b : List Sys2Proof.Byte) : Keeps s (requestRx s ses b) := by
  unfold requestRx
  dsimp only
  refine Keeps.ite ?_ ?_
  · exact Keeps.refl _
  · refine Keeps.ite ?_ ?_
    · refine after_keeps ?_ ?_
      · refine served_keeps (fun _ _ => ?_) ?_
        · refine Keeps.of_only (refuseReq_only _ _ _ _ _ _ _) rfl ?_
          assumption
        · exact Keeps.refl _
      · exact Keeps.refl _
    · refine Keeps.ite ?_ ?_
      · refine after_keeps ?_ ?_
        · refine served_keeps (fun _ _ => ?_) ?_
          · refine Keeps.of_only (refuseReq_only _ _ _ _ _ _ _) rfl ?_
            assumption
          · exact Keeps.refl _
        · exact Keeps.refl _
      · split
        · refine after_keeps ?_ ?_
          · refine KeepsO.step (requestOp_keeps (by assumption)) ?_
            exact Keeps.refl _
          · exact Keeps.refl _
        · refine after_keeps ?_ ?_
          · refine served_keeps (fun _ _ => ?_) ?_
            · refine Keeps.of_only (refuseReq_only _ _ _ _ _ _ _) rfl ?_
              assumption
            · exact Keeps.refl _
          · exact Keeps.refl _

theorem messageRx_keeps (s : State) (ses : Nat) (bs : List Sys2Proof.Byte) : Keeps s (messageRx s ses bs) := by
  unfold messageRx
  dsimp only
  refine Keeps.ite ?_ ?_
  · refine Keeps.ite ?_ ?_
    · exact Keeps.refl _
    · refine Keeps.ite ?_ ?_
      · refine Keeps.of_only (malformedList_only _ _ _ _) rfl ?_
        exact Keeps.refl _
      · refine after_keeps ?_ ?_
        · refine KeepsO.of_only (execCommandListSubmit_only _ _ _ _) rfl ?_
          exact Keeps.refl _
        · exact Keeps.refl _
  · refine Keeps.ite ?_ ?_
    · exact Keeps.refl _
    · refine Keeps.ite ?_ ?_
      · refine Keeps.ite ?_ ?_
        · exact Keeps.refl _
        · refine Keeps.step (requestRx_keeps ..) ?_
          exact Keeps.refl _
      · refine Keeps.ite ?_ ?_
        · refine Keeps.ite ?_ ?_
          · refine Keeps.step (cascadeRx_keeps ..) ?_
            exact Keeps.refl _
          · exact Keeps.refl _
        · exact Keeps.refl _

theorem msgRx_keeps (s : State) (ses : Nat) (c : Nat) (g : RxSeg) : Keeps s (msgRx s ses c g) := by
  unfold msgRx
  dsimp only
  refine Keeps.ite ?_ ?_
  · exact Keeps.refl _
  · refine Keeps.ite ?_ ?_
    · refine Keeps.step (messageRx_keeps ..) ?_
      refine Keeps.of_only (setChan_only _ _ _ _) rfl ?_
      exact Keeps.refl _
    · refine Keeps.of_only (setChan_only _ _ _ _) rfl ?_
      exact Keeps.refl _

theorem segRx_keeps (s : State) (ses : Nat) (c : Nat) (g : RxSeg) : Keeps s (segRx s ses c g) := by
  unfold segRx
  split
  · refine Keeps.step (msgRx_keeps ..) ?_
    exact Keeps.refl _
  · refine Keeps.step (writeRx_keeps ..) ?_
    exact Keeps.refl _
  · refine Keeps.step (wackRx_keeps ..) ?_
    exact Keeps.refl _
  · refine Keeps.step (wnakRx_keeps ..) ?_
    exact Keeps.refl _
  · refine Keeps.step (contribRx_keeps ..) ?_
    exact Keeps.refl _
  · exact Keeps.refl _

theorem takeSeg_keeps (s : State) (ses : Nat) (c : Nat) (g : RxSeg) : Keeps s (takeSeg s ses c g) := by
  unfold takeSeg
  dsimp only
  refine Keeps.ite ?_ ?_
  · refine Keeps.of_only (setChan_only _ _ _ _) rfl ?_
    exact Keeps.refl _
  · refine Keeps.step (segRx_keeps ..) ?_
    refine Keeps.of_only (setChan_only _ _ _ _) rfl ?_
    exact Keeps.refl _

theorem drain_keeps (s : State) (ses c n : Nat) : Keeps s (drain s ses c n) := by
  induction n generalizing s with
  | zero => exact Keeps.refl _
  | succ n ih =>
    unfold drain
    dsimp only
    split
    · exact Keeps.refl _
    · refine Keeps.step (ih _) ?_
      refine Keeps.step (takeSeg_keeps ..) ?_
      refine Keeps.of_only (setChan_only ..) rfl ?_
      exact Keeps.refl _

theorem segmentRx_keeps (f : RxFrame) (s : State) : Keeps s (segmentRx f s) := by
  unfold segmentRx
  dsimp only
  refine Keeps.ite ?_ ?_
  · refine Keeps.of_only (sendAck_only _ _ _) rfl ?_
    refine Keeps.of_only (ackRx_only _ _ _ _ _ _) rfl ?_
    exact Keeps.refl _
  · refine Keeps.ite ?_ ?_
    · refine Keeps.of_only (noteDue_only _ _ _ _) rfl ?_
      refine Keeps.step (drain_keeps ..) ?_
      refine Keeps.step (takeSeg_keeps ..) ?_
      refine Keeps.of_only (ackRx_only _ _ _ _ _ _) rfl ?_
      exact Keeps.refl _
    · refine Keeps.ite ?_ ?_
      · refine Keeps.of_only (noteDue_only _ _ _ _) rfl ?_
        refine Keeps.of_only (setChan_only _ _ _ _) rfl ?_
        refine Keeps.of_only (ackRx_only _ _ _ _ _ _) rfl ?_
        exact Keeps.refl _
      · refine Keeps.of_only (ackRx_only _ _ _ _ _ _) rfl ?_
        exact Keeps.refl _

theorem execBrolerMsg_keeps (s : State) : KeepsO s (execBrolerMsg s) := by
  unfold execBrolerMsg
  refine takeFrame_keeps (fun _ _ _ => ?_) ?_
  · refine Keeps.step (segmentRx_keeps ..) ?_
    assumption
  · exact Keeps.refl _

theorem execBrolerWrite_keeps (s : State) : KeepsO s (execBrolerWrite s) := by
  unfold execBrolerWrite
  refine takeFrame_keeps (fun _ _ _ => ?_) ?_
  · refine Keeps.step (segmentRx_keeps ..) ?_
    assumption
  · exact Keeps.refl _

theorem execBrolerWack_keeps (s : State) : KeepsO s (execBrolerWack s) := by
  unfold execBrolerWack
  refine takeFrame_keeps (fun _ _ _ => ?_) ?_
  · refine Keeps.step (segmentRx_keeps ..) ?_
    assumption
  · exact Keeps.refl _

theorem execBrolerWnak_keeps (s : State) : KeepsO s (execBrolerWnak s) := by
  unfold execBrolerWnak
  refine takeFrame_keeps (fun _ _ _ => ?_) ?_
  · refine Keeps.step (segmentRx_keeps ..) ?_
    assumption
  · exact Keeps.refl _

theorem execBrolerContrib_keeps (s : State) : KeepsO s (execBrolerContrib s) := by
  unfold execBrolerContrib
  refine takeFrame_keeps (fun _ _ _ => ?_) ?_
  · refine Keeps.step (segmentRx_keeps ..) ?_
    assumption
  · exact Keeps.refl _

end Sys2Proof.Machine
end

