-- ==== Sys2Proof/Laws/OnlyTick.lean ====
section
/-! SUPPORT. What each operation of Machine/Tick.lean can change, at most. -/
namespace Sys2Proof.Machine

theorem tick_only (s : State) : Only 0xe0080100000000200074c92 s (tick s) := by
  unfold tick
  dsimp only
  refine Only.ite ?_ ?_
  · refine Only.step (beginStop_only ..) rfl ?_
    refine Only.ite ?_ ?_
    · refine Only.foldl (fun _ _ _ => ?_) ?_
      · refine Only.step (copiesEnd_only ..) rfl ?_
        assumption
      · refine Only.set_refTicks_tiles rfl rfl ?_ _ _
        exact Only.refl _ _
    · refine Only.set_refTicks_tiles rfl rfl ?_ _ _
      exact Only.refl _ _
  · refine Only.ite ?_ ?_
    · refine Only.foldl (fun _ _ _ => ?_) ?_
      · refine Only.step (copiesEnd_only ..) rfl ?_
        assumption
      · refine Only.set_refTicks_tiles rfl rfl ?_ _ _
        exact Only.refl _ _
    · refine Only.set_refTicks_tiles rfl rfl ?_ _ _
      exact Only.refl _ _

end Sys2Proof.Machine
end

