-- ==== Sys2Proof/Laws/KeepsTick.lean ====
section
/-! SUPPORT. Each operation of Machine/Tick.lean keeps: the form of the memories and the bounds of the stores. -/
namespace Sys2Proof.Machine

theorem tick_keeps (s : State) : Keeps s (tick s) := by
  unfold tick
  dsimp only
  refine Keeps.ite ?_ ?_
  · refine Keeps.of_only (beginStop_only _ _) rfl ?_
    refine Keeps.ite ?_ ?_
    · refine Keeps.foldl (fun _ _ _ => ?_) ?_
      · refine Keeps.step (copiesEnd_keeps ..) ?_
        assumption
      · refine Keeps.of_only (Only.set_refTicks_tiles (m := 8589934594) rfl rfl (Only.refl _ _) _ _) rfl ?_
        exact Keeps.refl _
    · refine Keeps.of_only (Only.set_refTicks_tiles (m := 8589934594) rfl rfl (Only.refl _ _) _ _) rfl ?_
      exact Keeps.refl _
  · refine Keeps.ite ?_ ?_
    · refine Keeps.foldl (fun _ _ _ => ?_) ?_
      · refine Keeps.step (copiesEnd_keeps ..) ?_
        assumption
      · refine Keeps.of_only (Only.set_refTicks_tiles (m := 8589934594) rfl rfl (Only.refl _ _) _ _) rfl ?_
        exact Keeps.refl _
    · refine Keeps.of_only (Only.set_refTicks_tiles (m := 8589934594) rfl rfl (Only.refl _ _) _ _) rfl ?_
      exact Keeps.refl _

end Sys2Proof.Machine
end

