-- ==== Sys2Proof/Laws/State.lean ====
section
/-! SUPPORT. The registers of State: what each holds after its own update, after another's of its kind, and after the updates of the other
registers. What an operation may change at most is in Laws/Only. -/
namespace Sys2Proof.Machine

/-! ### Tables -/

section
variable {α : Type} {m : FMap α} {k j : Nat} {v : α}

theorem FMap.find_set : FMap.find (FMap.set m k v) j = if j = k then some v else FMap.find m j := by
  induction m with
  | nil => simp [FMap.set, FMap.find]
  | cons e t ih =>
    obtain ⟨k', v'⟩ := e
    simp only [FMap.set]
    split
    · simp [FMap.find]
    · split
      · subst_vars; simp only [FMap.find]; split <;> rfl
      · simp only [FMap.find, ih]; split <;> split <;> simp_all
@[simp] theorem FMap.find_set_same : FMap.find (FMap.set m k v) k = some v := by simp [FMap.find_set]
theorem FMap.find_set_other (h : j ≠ k) : FMap.find (FMap.set m k v) j = FMap.find m j := by simp [FMap.find_set, h]

theorem FMap.find_del : FMap.find (FMap.del m k) j = if j = k then none else FMap.find m j := by
  induction m with
  | nil => simp [FMap.del, FMap.find]
  | cons e t ih =>
    obtain ⟨k', v'⟩ := e
    simp only [FMap.del]
    split
    · simp only [FMap.find, ih]; split <;> simp_all
    · simp only [FMap.find, ih]; split <;> split <;> simp_all
@[simp] theorem FMap.find_del_same : FMap.find (FMap.del m k) k = none := by simp [FMap.find_del]
theorem FMap.find_del_other (h : j ≠ k) : FMap.find (FMap.del m k) j = FMap.find m j := by simp [FMap.find_del, h]
end

/-! ### A register after its own update -/

theorem port_setPort (s : State) (p j : Nat) (x : Port) : port (setPort s p x) j = if j = p then x else port s j := FMap.get_set
@[simp] theorem port_setPort_same (s : State) (p : Nat) (x : Port) : port (setPort s p x) p = x := FMap.get_set_same
theorem part_setPart (s : State) (p j : Nat) (x : Part) : part (setPart s p x) j = if j = p then x else part s j := FMap.get_set
@[simp] theorem part_setPart_same (s : State) (p : Nat) (x : Part) : part (setPart s p x) p = x := FMap.get_set_same
theorem queue_setQueue (s : State) (q j : Nat) (x : QueueSt) : queue (setQueue s q x) j = if j = q then x else queue s j := FMap.get_set
@[simp] theorem queue_setQueue_same (s : State) (q : Nat) (x : QueueSt) : queue (setQueue s q x) q = x := FMap.get_set_same
theorem session_setSession (s : State) (n j : Nat) (x : Session) : session (setSession s n x) j = if j = n then x else session s j := FMap.get_set
@[simp] theorem session_setSession_same (s : State) (n : Nat) (x : Session) : session (setSession s n x) n = x := FMap.get_set_same
theorem bankOf_setBank (s : State) (k j : Nat) (x : Bank) : bankOf (setBank s k x) j = if j = k then x else bankOf s j := FMap.get_set
@[simp] theorem bankOf_setBank_same (s : State) (k : Nat) (x : Bank) : bankOf (setBank s k x) k = x := FMap.get_set_same
theorem group_setGroup (s : State) (p j : Nat) (x : Group) : group (setGroup s p x) j = if j = p then x else group s j := FMap.get_set
@[simp] theorem group_setGroup_same (s : State) (p : Nat) (x : Group) : group (setGroup s p x) p = x := FMap.get_set_same
theorem feed_setFeed (s : State) (f j : Nat) (x : Feed) : feed (setFeed s f x) j = if j = f then x else feed s j := FMap.get_set
@[simp] theorem feed_setFeed_same (s : State) (f : Nat) (x : Feed) : feed (setFeed s f x) f = x := FMap.get_set_same
theorem brick_setBrick (s : State) (b j : Nat) (x : Brick) : brick (setBrick s b x) j = if j = b then x else brick s j := FMap.get_set
@[simp] theorem brick_setBrick_same (s : State) (b : Nat) (x : Brick) : brick (setBrick s b x) b = x := FMap.get_set_same
theorem block_setBlock (s : State) (c j : Nat) (x : Block) : block (setBlock s c x) j = if j = c then x else block s j := FMap.get_set
@[simp] theorem block_setBlock_same (s : State) (c : Nat) (x : Block) : block (setBlock s c x) c = x := FMap.get_set_same
theorem spot_setSpot (s : State) (h j : Nat) (x : HotSpot) : spot (setSpot s h x) j = if j = h then x else spot s j := FMap.get_set
@[simp] theorem spot_setSpot_same (s : State) (h : Nat) (x : HotSpot) : spot (setSpot s h x) h = x := FMap.get_set_same
theorem stack_setStack (s : State) (k j : Nat) (x : Stack) : stack (setStack s k x) j = if j = k then x else stack s j := FMap.get_set
@[simp] theorem stack_setStack_same (s : State) (k : Nat) (x : Stack) : stack (setStack s k x) k = x := FMap.get_set_same
theorem evSrc_setEv (s : State) (n j : Nat) (x : EvSrc) : evSrc (setEv s n x) j = if j = n then x else evSrc s j := FMap.get_set
@[simp] theorem evSrc_setEv_same (s : State) (n : Nat) (x : EvSrc) : evSrc (setEv s n x) n = x := FMap.get_set_same

theorem part_updPart (s : State) (i j : Nat) (f : Part → Part) : part (updPart s i f) j = if j = i then f (part s i) else part s j := part_setPart ..
@[simp] theorem part_updPart_same (s : State) (i : Nat) (f : Part → Part) : part (updPart s i f) i = f (part s i) := part_setPart_same ..
theorem session_updSession (s : State) (i j : Nat) (f : Session → Session) : session (updSession s i f) j = if j = i then f (session s i) else session s j := session_setSession ..
@[simp] theorem session_updSession_same (s : State) (i : Nat) (f : Session → Session) : session (updSession s i f) i = f (session s i) := session_setSession_same ..
theorem bankOf_updBank (s : State) (i j : Nat) (f : Bank → Bank) : bankOf (updBank s i f) j = if j = i then f (bankOf s i) else bankOf s j := bankOf_setBank ..
@[simp] theorem bankOf_updBank_same (s : State) (i : Nat) (f : Bank → Bank) : bankOf (updBank s i f) i = f (bankOf s i) := bankOf_setBank_same ..
theorem group_updGroup (s : State) (i j : Nat) (f : Group → Group) : group (updGroup s i f) j = if j = i then f (group s i) else group s j := group_setGroup ..
@[simp] theorem group_updGroup_same (s : State) (i : Nat) (f : Group → Group) : group (updGroup s i f) i = f (group s i) := group_setGroup_same ..
theorem spot_updSpot (s : State) (i j : Nat) (f : HotSpot → HotSpot) : spot (updSpot s i f) j = if j = i then f (spot s i) else spot s j := spot_setSpot ..
@[simp] theorem spot_updSpot_same (s : State) (i : Nat) (f : HotSpot → HotSpot) : spot (updSpot s i f) i = f (spot s i) := spot_setSpot_same ..

theorem card_setCard (s : State) (c j : Nat) (x : Card) : card (setCard s c x) j = if j = c then x else card s j := by
  simp only [card, setCard, FMap.find_set]; split <;> simp_all
@[simp] theorem card_setCard_same (s : State) (c : Nat) (x : Card) : card (setCard s c x) c = x := by simp [card_setCard]
theorem kUnit_setKUnit (s : State) (k j : Nat) (x : KUnit) : kUnit (setKUnit s k x) j = if j = k then x else kUnit s j := FMap.get_set
@[simp] theorem kUnit_setKUnit_same (s : State) (k : Nat) (x : KUnit) : kUnit (setKUnit s k x) k = x := FMap.get_set_same
theorem window_setWindow (s : State) (p w q v : Nat) (x : Window) :
    window (setWindow s p w x) q v = if q * 256 + v = p * 256 + w then x else window s q v := FMap.get_set
@[simp] theorem window_setWindow_same (s : State) (p w : Nat) (x : Window) : window (setWindow s p w x) p w = x := FMap.get_set_same

theorem seqOf_setSeq (s : State) (p q i j : Nat) (x : Seq) : seqOf (setSeq s p q x) i j = if seqKey i j = seqKey p q then some x else seqOf s i j :=
  FMap.find_set
@[simp] theorem seqOf_setSeq_same (s : State) (p q : Nat) (x : Seq) : seqOf (setSeq s p q x) p q = some x := FMap.find_set_same
theorem seqOf_delSeq (s : State) (p q i j : Nat) : seqOf (delSeq s p q) i j = if seqKey i j = seqKey p q then none else seqOf s i j := FMap.find_del
@[simp] theorem seqOf_delSeq_same (s : State) (p q : Nat) : seqOf (delSeq s p q) p q = none := FMap.find_del_same

theorem syncGet_syncPut (s : State) (p n v i j : Nat) : syncGet (syncPut s p n v) i j = if i * 1024 + j = p * 1024 + n then v else syncGet s i j :=
  FMap.get_put
@[simp] theorem syncGet_syncPut_same (s : State) (p n v : Nat) : syncGet (syncPut s p n v) p n = v := by simp [syncGet_syncPut]

theorem objD_setObj (d : Nat) (s : State) (idx el v u idx' el' u' : Nat) :
    objD d (setObj s idx el v u) idx' el' u' = if objKey idx' el' u' = objKey idx el u then v else objD d s idx' el' u' := FMap.get_set
@[simp] theorem objD_setObj_same (d : Nat) (s : State) (idx el v u : Nat) : objD d (setObj s idx el v u) idx el u = v := FMap.get_set_same

theorem runOf_updRun (s : State) (t j : Nat) (f : TileRun → TileRun) : runOf (updRun s t f) j = if j = t then (runOf s t).map f else runOf s j := by
  simp only [updRun]
  cases h : runOf s t with
  | none => split <;> simp_all
  | some r => simp [runOf, FMap.find_set]
@[simp] theorem runOf_updRun_same (s : State) (t : Nat) (f : TileRun → TileRun) : runOf (updRun s t f) t = (runOf s t).map f := by simp [runOf_updRun]

@[simp] theorem raw_setCond (s : State) (n : Nat) (b : Bool) : (evSrc (setCond s n b) n).raw = b := by simp [evSrc, setCond]
theorem evSrc_setCond_other (s : State) {n j : Nat} (b : Bool) (h : j ≠ n) : evSrc (setCond s n b) j = evSrc s j := by
  simp [evSrc, setCond, FMap.get_set_other h]
theorem part_setCond (s : State) (n : Nat) (b : Bool) (p : Nat) : part (setCond s n b) p = part s p := rfl
theorem part_setPState (s : State) (p j : Nat) (st : PState) : part (setPState s p st) j = if j = p then { part s p with st := st } else part s j :=
  part_updPart s p j fun x => { x with st := st }
@[simp] theorem part_setPState_same (s : State) (p : Nat) (st : PState) : part (setPState s p st) p = { part s p with st := st } := by
  simp [part_setPState]

/-! ### A register after the updates of the others -/

@[simp] theorem part_setPort (s : State) (i j : Nat) (x : Port) : part (setPort s i x) j = part s j := rfl
@[simp] theorem queue_setPort (s : State) (i j : Nat) (x : Port) : queue (setPort s i x) j = queue s j := rfl
@[simp] theorem session_setPort (s : State) (i j : Nat) (x : Port) : session (setPort s i x) j = session s j := rfl
@[simp] theorem bankOf_setPort (s : State) (i j : Nat) (x : Port) : bankOf (setPort s i x) j = bankOf s j := rfl
@[simp] theorem group_setPort (s : State) (i j : Nat) (x : Port) : group (setPort s i x) j = group s j := rfl
@[simp] theorem feed_setPort (s : State) (i j : Nat) (x : Port) : feed (setPort s i x) j = feed s j := rfl
@[simp] theorem brick_setPort (s : State) (i j : Nat) (x : Port) : brick (setPort s i x) j = brick s j := rfl
@[simp] theorem block_setPort (s : State) (i j : Nat) (x : Port) : block (setPort s i x) j = block s j := rfl
@[simp] theorem spot_setPort (s : State) (i j : Nat) (x : Port) : spot (setPort s i x) j = spot s j := rfl
@[simp] theorem stack_setPort (s : State) (i j : Nat) (x : Port) : stack (setPort s i x) j = stack s j := rfl
@[simp] theorem evSrc_setPort (s : State) (i j : Nat) (x : Port) : evSrc (setPort s i x) j = evSrc s j := rfl
@[simp] theorem card_setPort (s : State) (i j : Nat) (x : Port) : card (setPort s i x) j = card s j := rfl
@[simp] theorem kUnit_setPort (s : State) (i j : Nat) (x : Port) : kUnit (setPort s i x) j = kUnit s j := rfl
@[simp] theorem runOf_setPort (s : State) (i j : Nat) (x : Port) : runOf (setPort s i x) j = runOf s j := rfl
@[simp] theorem port_setPart (s : State) (i j : Nat) (x : Part) : port (setPart s i x) j = port s j := rfl
@[simp] theorem queue_setPart (s : State) (i j : Nat) (x : Part) : queue (setPart s i x) j = queue s j := rfl
@[simp] theorem session_setPart (s : State) (i j : Nat) (x : Part) : session (setPart s i x) j = session s j := rfl
@[simp] theorem bankOf_setPart (s : State) (i j : Nat) (x : Part) : bankOf (setPart s i x) j = bankOf s j := rfl
@[simp] theorem group_setPart (s : State) (i j : Nat) (x : Part) : group (setPart s i x) j = group s j := rfl
@[simp] theorem feed_setPart (s : State) (i j : Nat) (x : Part) : feed (setPart s i x) j = feed s j := rfl
@[simp] theorem brick_setPart (s : State) (i j : Nat) (x : Part) : brick (setPart s i x) j = brick s j := rfl
@[simp] theorem block_setPart (s : State) (i j : Nat) (x : Part) : block (setPart s i x) j = block s j := rfl
@[simp] theorem spot_setPart (s : State) (i j : Nat) (x : Part) : spot (setPart s i x) j = spot s j := rfl
@[simp] theorem stack_setPart (s : State) (i j : Nat) (x : Part) : stack (setPart s i x) j = stack s j := rfl
@[simp] theorem evSrc_setPart (s : State) (i j : Nat) (x : Part) : evSrc (setPart s i x) j = evSrc s j := rfl
@[simp] theorem card_setPart (s : State) (i j : Nat) (x : Part) : card (setPart s i x) j = card s j := rfl
@[simp] theorem kUnit_setPart (s : State) (i j : Nat) (x : Part) : kUnit (setPart s i x) j = kUnit s j := rfl
@[simp] theorem runOf_setPart (s : State) (i j : Nat) (x : Part) : runOf (setPart s i x) j = runOf s j := rfl
@[simp] theorem port_setQueue (s : State) (i j : Nat) (x : QueueSt) : port (setQueue s i x) j = port s j := rfl
@[simp] theorem part_setQueue (s : State) (i j : Nat) (x : QueueSt) : part (setQueue s i x) j = part s j := rfl
@[simp] theorem session_setQueue (s : State) (i j : Nat) (x : QueueSt) : session (setQueue s i x) j = session s j := rfl
@[simp] theorem bankOf_setQueue (s : State) (i j : Nat) (x : QueueSt) : bankOf (setQueue s i x) j = bankOf s j := rfl
@[simp] theorem group_setQueue (s : State) (i j : Nat) (x : QueueSt) : group (setQueue s i x) j = group s j := rfl
@[simp] theorem feed_setQueue (s : State) (i j : Nat) (x : QueueSt) : feed (setQueue s i x) j = feed s j := rfl
@[simp] theorem brick_setQueue (s : State) (i j : Nat) (x : QueueSt) : brick (setQueue s i x) j = brick s j := rfl
@[simp] theorem block_setQueue (s : State) (i j : Nat) (x : QueueSt) : block (setQueue s i x) j = block s j := rfl
@[simp] theorem spot_setQueue (s : State) (i j : Nat) (x : QueueSt) : spot (setQueue s i x) j = spot s j := rfl
@[simp] theorem stack_setQueue (s : State) (i j : Nat) (x : QueueSt) : stack (setQueue s i x) j = stack s j := rfl
@[simp] theorem evSrc_setQueue (s : State) (i j : Nat) (x : QueueSt) : evSrc (setQueue s i x) j = evSrc s j := rfl
@[simp] theorem card_setQueue (s : State) (i j : Nat) (x : QueueSt) : card (setQueue s i x) j = card s j := rfl
@[simp] theorem kUnit_setQueue (s : State) (i j : Nat) (x : QueueSt) : kUnit (setQueue s i x) j = kUnit s j := rfl
@[simp] theorem runOf_setQueue (s : State) (i j : Nat) (x : QueueSt) : runOf (setQueue s i x) j = runOf s j := rfl
@[simp] theorem port_setSession (s : State) (i j : Nat) (x : Session) : port (setSession s i x) j = port s j := rfl
@[simp] theorem part_setSession (s : State) (i j : Nat) (x : Session) : part (setSession s i x) j = part s j := rfl
@[simp] theorem queue_setSession (s : State) (i j : Nat) (x : Session) : queue (setSession s i x) j = queue s j := rfl
@[simp] theorem bankOf_setSession (s : State) (i j : Nat) (x : Session) : bankOf (setSession s i x) j = bankOf s j := rfl
@[simp] theorem group_setSession (s : State) (i j : Nat) (x : Session) : group (setSession s i x) j = group s j := rfl
@[simp] theorem feed_setSession (s : State) (i j : Nat) (x : Session) : feed (setSession s i x) j = feed s j := rfl
@[simp] theorem brick_setSession (s : State) (i j : Nat) (x : Session) : brick (setSession s i x) j = brick s j := rfl
@[simp] theorem block_setSession (s : State) (i j : Nat) (x : Session) : block (setSession s i x) j = block s j := rfl
@[simp] theorem spot_setSession (s : State) (i j : Nat) (x : Session) : spot (setSession s i x) j = spot s j := rfl
@[simp] theorem stack_setSession (s : State) (i j : Nat) (x : Session) : stack (setSession s i x) j = stack s j := rfl
@[simp] theorem evSrc_setSession (s : State) (i j : Nat) (x : Session) : evSrc (setSession s i x) j = evSrc s j := rfl
@[simp] theorem card_setSession (s : State) (i j : Nat) (x : Session) : card (setSession s i x) j = card s j := rfl
@[simp] theorem kUnit_setSession (s : State) (i j : Nat) (x : Session) : kUnit (setSession s i x) j = kUnit s j := rfl
@[simp] theorem runOf_setSession (s : State) (i j : Nat) (x : Session) : runOf (setSession s i x) j = runOf s j := rfl
@[simp] theorem port_setBank (s : State) (i j : Nat) (x : Bank) : port (setBank s i x) j = port s j := rfl
@[simp] theorem part_setBank (s : State) (i j : Nat) (x : Bank) : part (setBank s i x) j = part s j := rfl
@[simp] theorem queue_setBank (s : State) (i j : Nat) (x : Bank) : queue (setBank s i x) j = queue s j := rfl
@[simp] theorem session_setBank (s : State) (i j : Nat) (x : Bank) : session (setBank s i x) j = session s j := rfl
@[simp] theorem group_setBank (s : State) (i j : Nat) (x : Bank) : group (setBank s i x) j = group s j := rfl
@[simp] theorem feed_setBank (s : State) (i j : Nat) (x : Bank) : feed (setBank s i x) j = feed s j := rfl
@[simp] theorem brick_setBank (s : State) (i j : Nat) (x : Bank) : brick (setBank s i x) j = brick s j := rfl
@[simp] theorem block_setBank (s : State) (i j : Nat) (x : Bank) : block (setBank s i x) j = block s j := rfl
@[simp] theorem spot_setBank (s : State) (i j : Nat) (x : Bank) : spot (setBank s i x) j = spot s j := rfl
@[simp] theorem stack_setBank (s : State) (i j : Nat) (x : Bank) : stack (setBank s i x) j = stack s j := rfl
@[simp] theorem evSrc_setBank (s : State) (i j : Nat) (x : Bank) : evSrc (setBank s i x) j = evSrc s j := rfl
@[simp] theorem card_setBank (s : State) (i j : Nat) (x : Bank) : card (setBank s i x) j = card s j := rfl
@[simp] theorem kUnit_setBank (s : State) (i j : Nat) (x : Bank) : kUnit (setBank s i x) j = kUnit s j := rfl
@[simp] theorem runOf_setBank (s : State) (i j : Nat) (x : Bank) : runOf (setBank s i x) j = runOf s j := rfl
@[simp] theorem port_setGroup (s : State) (i j : Nat) (x : Group) : port (setGroup s i x) j = port s j := rfl
@[simp] theorem part_setGroup (s : State) (i j : Nat) (x : Group) : part (setGroup s i x) j = part s j := rfl
@[simp] theorem queue_setGroup (s : State) (i j : Nat) (x : Group) : queue (setGroup s i x) j = queue s j := rfl
@[simp] theorem session_setGroup (s : State) (i j : Nat) (x : Group) : session (setGroup s i x) j = session s j := rfl
@[simp] theorem bankOf_setGroup (s : State) (i j : Nat) (x : Group) : bankOf (setGroup s i x) j = bankOf s j := rfl
@[simp] theorem feed_setGroup (s : State) (i j : Nat) (x : Group) : feed (setGroup s i x) j = feed s j := rfl
@[simp] theorem brick_setGroup (s : State) (i j : Nat) (x : Group) : brick (setGroup s i x) j = brick s j := rfl
@[simp] theorem block_setGroup (s : State) (i j : Nat) (x : Group) : block (setGroup s i x) j = block s j := rfl
@[simp] theorem spot_setGroup (s : State) (i j : Nat) (x : Group) : spot (setGroup s i x) j = spot s j := rfl
@[simp] theorem stack_setGroup (s : State) (i j : Nat) (x : Group) : stack (setGroup s i x) j = stack s j := rfl
@[simp] theorem evSrc_setGroup (s : State) (i j : Nat) (x : Group) : evSrc (setGroup s i x) j = evSrc s j := rfl
@[simp] theorem card_setGroup (s : State) (i j : Nat) (x : Group) : card (setGroup s i x) j = card s j := rfl
@[simp] theorem kUnit_setGroup (s : State) (i j : Nat) (x : Group) : kUnit (setGroup s i x) j = kUnit s j := rfl
@[simp] theorem runOf_setGroup (s : State) (i j : Nat) (x : Group) : runOf (setGroup s i x) j = runOf s j := rfl
@[simp] theorem port_setFeed (s : State) (i j : Nat) (x : Feed) : port (setFeed s i x) j = port s j := rfl
@[simp] theorem part_setFeed (s : State) (i j : Nat) (x : Feed) : part (setFeed s i x) j = part s j := rfl
@[simp] theorem queue_setFeed (s : State) (i j : Nat) (x : Feed) : queue (setFeed s i x) j = queue s j := rfl
@[simp] theorem session_setFeed (s : State) (i j : Nat) (x : Feed) : session (setFeed s i x) j = session s j := rfl
@[simp] theorem bankOf_setFeed (s : State) (i j : Nat) (x : Feed) : bankOf (setFeed s i x) j = bankOf s j := rfl
@[simp] theorem group_setFeed (s : State) (i j : Nat) (x : Feed) : group (setFeed s i x) j = group s j := rfl
@[simp] theorem brick_setFeed (s : State) (i j : Nat) (x : Feed) : brick (setFeed s i x) j = brick s j := rfl
@[simp] theorem block_setFeed (s : State) (i j : Nat) (x : Feed) : block (setFeed s i x) j = block s j := rfl
@[simp] theorem spot_setFeed (s : State) (i j : Nat) (x : Feed) : spot (setFeed s i x) j = spot s j := rfl
@[simp] theorem stack_setFeed (s : State) (i j : Nat) (x : Feed) : stack (setFeed s i x) j = stack s j := rfl
@[simp] theorem evSrc_setFeed (s : State) (i j : Nat) (x : Feed) : evSrc (setFeed s i x) j = evSrc s j := rfl
@[simp] theorem card_setFeed (s : State) (i j : Nat) (x : Feed) : card (setFeed s i x) j = card s j := rfl
@[simp] theorem kUnit_setFeed (s : State) (i j : Nat) (x : Feed) : kUnit (setFeed s i x) j = kUnit s j := rfl
@[simp] theorem runOf_setFeed (s : State) (i j : Nat) (x : Feed) : runOf (setFeed s i x) j = runOf s j := rfl
@[simp] theorem port_setBrick (s : State) (i j : Nat) (x : Brick) : port (setBrick s i x) j = port s j := rfl
@[simp] theorem part_setBrick (s : State) (i j : Nat) (x : Brick) : part (setBrick s i x) j = part s j := rfl
@[simp] theorem queue_setBrick (s : State) (i j : Nat) (x : Brick) : queue (setBrick s i x) j = queue s j := rfl
@[simp] theorem session_setBrick (s : State) (i j : Nat) (x : Brick) : session (setBrick s i x) j = session s j := rfl
@[simp] theorem bankOf_setBrick (s : State) (i j : Nat) (x : Brick) : bankOf (setBrick s i x) j = bankOf s j := rfl
@[simp] theorem group_setBrick (s : State) (i j : Nat) (x : Brick) : group (setBrick s i x) j = group s j := rfl
@[simp] theorem feed_setBrick (s : State) (i j : Nat) (x : Brick) : feed (setBrick s i x) j = feed s j := rfl
@[simp] theorem block_setBrick (s : State) (i j : Nat) (x : Brick) : block (setBrick s i x) j = block s j := rfl
@[simp] theorem spot_setBrick (s : State) (i j : Nat) (x : Brick) : spot (setBrick s i x) j = spot s j := rfl
@[simp] theorem stack_setBrick (s : State) (i j : Nat) (x : Brick) : stack (setBrick s i x) j = stack s j := rfl
@[simp] theorem evSrc_setBrick (s : State) (i j : Nat) (x : Brick) : evSrc (setBrick s i x) j = evSrc s j := rfl
@[simp] theorem card_setBrick (s : State) (i j : Nat) (x : Brick) : card (setBrick s i x) j = card s j := rfl
@[simp] theorem kUnit_setBrick (s : State) (i j : Nat) (x : Brick) : kUnit (setBrick s i x) j = kUnit s j := rfl
@[simp] theorem runOf_setBrick (s : State) (i j : Nat) (x : Brick) : runOf (setBrick s i x) j = runOf s j := rfl
@[simp] theorem port_setBlock (s : State) (i j : Nat) (x : Block) : port (setBlock s i x) j = port s j := rfl
@[simp] theorem part_setBlock (s : State) (i j : Nat) (x : Block) : part (setBlock s i x) j = part s j := rfl
@[simp] theorem queue_setBlock (s : State) (i j : Nat) (x : Block) : queue (setBlock s i x) j = queue s j := rfl
@[simp] theorem session_setBlock (s : State) (i j : Nat) (x : Block) : session (setBlock s i x) j = session s j := rfl
@[simp] theorem bankOf_setBlock (s : State) (i j : Nat) (x : Block) : bankOf (setBlock s i x) j = bankOf s j := rfl
@[simp] theorem group_setBlock (s : State) (i j : Nat) (x : Block) : group (setBlock s i x) j = group s j := rfl
@[simp] theorem feed_setBlock (s : State) (i j : Nat) (x : Block) : feed (setBlock s i x) j = feed s j := rfl
@[simp] theorem brick_setBlock (s : State) (i j : Nat) (x : Block) : brick (setBlock s i x) j = brick s j := rfl
@[simp] theorem spot_setBlock (s : State) (i j : Nat) (x : Block) : spot (setBlock s i x) j = spot s j := rfl
@[simp] theorem stack_setBlock (s : State) (i j : Nat) (x : Block) : stack (setBlock s i x) j = stack s j := rfl
@[simp] theorem evSrc_setBlock (s : State) (i j : Nat) (x : Block) : evSrc (setBlock s i x) j = evSrc s j := rfl
@[simp] theorem card_setBlock (s : State) (i j : Nat) (x : Block) : card (setBlock s i x) j = card s j := rfl
@[simp] theorem kUnit_setBlock (s : State) (i j : Nat) (x : Block) : kUnit (setBlock s i x) j = kUnit s j := rfl
@[simp] theorem runOf_setBlock (s : State) (i j : Nat) (x : Block) : runOf (setBlock s i x) j = runOf s j := rfl
@[simp] theorem port_setSpot (s : State) (i j : Nat) (x : HotSpot) : port (setSpot s i x) j = port s j := rfl
@[simp] theorem part_setSpot (s : State) (i j : Nat) (x : HotSpot) : part (setSpot s i x) j = part s j := rfl
@[simp] theorem queue_setSpot (s : State) (i j : Nat) (x : HotSpot) : queue (setSpot s i x) j = queue s j := rfl
@[simp] theorem session_setSpot (s : State) (i j : Nat) (x : HotSpot) : session (setSpot s i x) j = session s j := rfl
@[simp] theorem bankOf_setSpot (s : State) (i j : Nat) (x : HotSpot) : bankOf (setSpot s i x) j = bankOf s j := rfl
@[simp] theorem group_setSpot (s : State) (i j : Nat) (x : HotSpot) : group (setSpot s i x) j = group s j := rfl
@[simp] theorem feed_setSpot (s : State) (i j : Nat) (x : HotSpot) : feed (setSpot s i x) j = feed s j := rfl
@[simp] theorem brick_setSpot (s : State) (i j : Nat) (x : HotSpot) : brick (setSpot s i x) j = brick s j := rfl
@[simp] theorem block_setSpot (s : State) (i j : Nat) (x : HotSpot) : block (setSpot s i x) j = block s j := rfl
@[simp] theorem stack_setSpot (s : State) (i j : Nat) (x : HotSpot) : stack (setSpot s i x) j = stack s j := rfl
@[simp] theorem evSrc_setSpot (s : State) (i j : Nat) (x : HotSpot) : evSrc (setSpot s i x) j = evSrc s j := rfl
@[simp] theorem card_setSpot (s : State) (i j : Nat) (x : HotSpot) : card (setSpot s i x) j = card s j := rfl
@[simp] theorem kUnit_setSpot (s : State) (i j : Nat) (x : HotSpot) : kUnit (setSpot s i x) j = kUnit s j := rfl
@[simp] theorem runOf_setSpot (s : State) (i j : Nat) (x : HotSpot) : runOf (setSpot s i x) j = runOf s j := rfl
@[simp] theorem port_setStack (s : State) (i j : Nat) (x : Stack) : port (setStack s i x) j = port s j := rfl
@[simp] theorem part_setStack (s : State) (i j : Nat) (x : Stack) : part (setStack s i x) j = part s j := rfl
@[simp] theorem queue_setStack (s : State) (i j : Nat) (x : Stack) : queue (setStack s i x) j = queue s j := rfl
@[simp] theorem session_setStack (s : State) (i j : Nat) (x : Stack) : session (setStack s i x) j = session s j := rfl
@[simp] theorem bankOf_setStack (s : State) (i j : Nat) (x : Stack) : bankOf (setStack s i x) j = bankOf s j := rfl
@[simp] theorem group_setStack (s : State) (i j : Nat) (x : Stack) : group (setStack s i x) j = group s j := rfl
@[simp] theorem feed_setStack (s : State) (i j : Nat) (x : Stack) : feed (setStack s i x) j = feed s j := rfl
@[simp] theorem brick_setStack (s : State) (i j : Nat) (x : Stack) : brick (setStack s i x) j = brick s j := rfl
@[simp] theorem block_setStack (s : State) (i j : Nat) (x : Stack) : block (setStack s i x) j = block s j := rfl
@[simp] theorem spot_setStack (s : State) (i j : Nat) (x : Stack) : spot (setStack s i x) j = spot s j := rfl
@[simp] theorem evSrc_setStack (s : State) (i j : Nat) (x : Stack) : evSrc (setStack s i x) j = evSrc s j := rfl
@[simp] theorem card_setStack (s : State) (i j : Nat) (x : Stack) : card (setStack s i x) j = card s j := rfl
@[simp] theorem kUnit_setStack (s : State) (i j : Nat) (x : Stack) : kUnit (setStack s i x) j = kUnit s j := rfl
@[simp] theorem runOf_setStack (s : State) (i j : Nat) (x : Stack) : runOf (setStack s i x) j = runOf s j := rfl
@[simp] theorem port_setEv (s : State) (i j : Nat) (x : EvSrc) : port (setEv s i x) j = port s j := rfl
@[simp] theorem part_setEv (s : State) (i j : Nat) (x : EvSrc) : part (setEv s i x) j = part s j := rfl
@[simp] theorem queue_setEv (s : State) (i j : Nat) (x : EvSrc) : queue (setEv s i x) j = queue s j := rfl
@[simp] theorem session_setEv (s : State) (i j : Nat) (x : EvSrc) : session (setEv s i x) j = session s j := rfl
@[simp] theorem bankOf_setEv (s : State) (i j : Nat) (x : EvSrc) : bankOf (setEv s i x) j = bankOf s j := rfl
@[simp] theorem group_setEv (s : State) (i j : Nat) (x : EvSrc) : group (setEv s i x) j = group s j := rfl
@[simp] theorem feed_setEv (s : State) (i j : Nat) (x : EvSrc) : feed (setEv s i x) j = feed s j := rfl
@[simp] theorem brick_setEv (s : State) (i j : Nat) (x : EvSrc) : brick (setEv s i x) j = brick s j := rfl
@[simp] theorem block_setEv (s : State) (i j : Nat) (x : EvSrc) : block (setEv s i x) j = block s j := rfl
@[simp] theorem spot_setEv (s : State) (i j : Nat) (x : EvSrc) : spot (setEv s i x) j = spot s j := rfl
@[simp] theorem stack_setEv (s : State) (i j : Nat) (x : EvSrc) : stack (setEv s i x) j = stack s j := rfl
@[simp] theorem card_setEv (s : State) (i j : Nat) (x : EvSrc) : card (setEv s i x) j = card s j := rfl
@[simp] theorem kUnit_setEv (s : State) (i j : Nat) (x : EvSrc) : kUnit (setEv s i x) j = kUnit s j := rfl
@[simp] theorem runOf_setEv (s : State) (i j : Nat) (x : EvSrc) : runOf (setEv s i x) j = runOf s j := rfl
@[simp] theorem port_setCard (s : State) (i j : Nat) (x : Card) : port (setCard s i x) j = port s j := rfl
@[simp] theorem part_setCard (s : State) (i j : Nat) (x : Card) : part (setCard s i x) j = part s j := rfl
@[simp] theorem queue_setCard (s : State) (i j : Nat) (x : Card) : queue (setCard s i x) j = queue s j := rfl
@[simp] theorem session_setCard (s : State) (i j : Nat) (x : Card) : session (setCard s i x) j = session s j := rfl
@[simp] theorem bankOf_setCard (s : State) (i j : Nat) (x : Card) : bankOf (setCard s i x) j = bankOf s j := rfl
@[simp] theorem group_setCard (s : State) (i j : Nat) (x : Card) : group (setCard s i x) j = group s j := rfl
@[simp] theorem feed_setCard (s : State) (i j : Nat) (x : Card) : feed (setCard s i x) j = feed s j := rfl
@[simp] theorem brick_setCard (s : State) (i j : Nat) (x : Card) : brick (setCard s i x) j = brick s j := rfl
@[simp] theorem block_setCard (s : State) (i j : Nat) (x : Card) : block (setCard s i x) j = block s j := rfl
@[simp] theorem spot_setCard (s : State) (i j : Nat) (x : Card) : spot (setCard s i x) j = spot s j := rfl
@[simp] theorem stack_setCard (s : State) (i j : Nat) (x : Card) : stack (setCard s i x) j = stack s j := rfl
@[simp] theorem evSrc_setCard (s : State) (i j : Nat) (x : Card) : evSrc (setCard s i x) j = evSrc s j := rfl
@[simp] theorem kUnit_setCard (s : State) (i j : Nat) (x : Card) : kUnit (setCard s i x) j = kUnit s j := rfl
@[simp] theorem runOf_setCard (s : State) (i j : Nat) (x : Card) : runOf (setCard s i x) j = runOf s j := rfl
@[simp] theorem port_setKUnit (s : State) (i j : Nat) (x : KUnit) : port (setKUnit s i x) j = port s j := rfl
@[simp] theorem part_setKUnit (s : State) (i j : Nat) (x : KUnit) : part (setKUnit s i x) j = part s j := rfl
@[simp] theorem queue_setKUnit (s : State) (i j : Nat) (x : KUnit) : queue (setKUnit s i x) j = queue s j := rfl
@[simp] theorem session_setKUnit (s : State) (i j : Nat) (x : KUnit) : session (setKUnit s i x) j = session s j := rfl
@[simp] theorem bankOf_setKUnit (s : State) (i j : Nat) (x : KUnit) : bankOf (setKUnit s i x) j = bankOf s j := rfl
@[simp] theorem group_setKUnit (s : State) (i j : Nat) (x : KUnit) : group (setKUnit s i x) j = group s j := rfl
@[simp] theorem feed_setKUnit (s : State) (i j : Nat) (x : KUnit) : feed (setKUnit s i x) j = feed s j := rfl
@[simp] theorem brick_setKUnit (s : State) (i j : Nat) (x : KUnit) : brick (setKUnit s i x) j = brick s j := rfl
@[simp] theorem block_setKUnit (s : State) (i j : Nat) (x : KUnit) : block (setKUnit s i x) j = block s j := rfl
@[simp] theorem spot_setKUnit (s : State) (i j : Nat) (x : KUnit) : spot (setKUnit s i x) j = spot s j := rfl
@[simp] theorem stack_setKUnit (s : State) (i j : Nat) (x : KUnit) : stack (setKUnit s i x) j = stack s j := rfl
@[simp] theorem evSrc_setKUnit (s : State) (i j : Nat) (x : KUnit) : evSrc (setKUnit s i x) j = evSrc s j := rfl
@[simp] theorem card_setKUnit (s : State) (i j : Nat) (x : KUnit) : card (setKUnit s i x) j = card s j := rfl
@[simp] theorem runOf_setKUnit (s : State) (i j : Nat) (x : KUnit) : runOf (setKUnit s i x) j = runOf s j := rfl
@[simp] theorem port_setObj (s : State) (idx el v u j : Nat) : port (setObj s idx el v u) j = port s j := rfl
@[simp] theorem part_setObj (s : State) (idx el v u j : Nat) : part (setObj s idx el v u) j = part s j := rfl
@[simp] theorem queue_setObj (s : State) (idx el v u j : Nat) : queue (setObj s idx el v u) j = queue s j := rfl
@[simp] theorem session_setObj (s : State) (idx el v u j : Nat) : session (setObj s idx el v u) j = session s j := rfl
@[simp] theorem bankOf_setObj (s : State) (idx el v u j : Nat) : bankOf (setObj s idx el v u) j = bankOf s j := rfl
@[simp] theorem group_setObj (s : State) (idx el v u j : Nat) : group (setObj s idx el v u) j = group s j := rfl
@[simp] theorem feed_setObj (s : State) (idx el v u j : Nat) : feed (setObj s idx el v u) j = feed s j := rfl
@[simp] theorem brick_setObj (s : State) (idx el v u j : Nat) : brick (setObj s idx el v u) j = brick s j := rfl
@[simp] theorem block_setObj (s : State) (idx el v u j : Nat) : block (setObj s idx el v u) j = block s j := rfl
@[simp] theorem spot_setObj (s : State) (idx el v u j : Nat) : spot (setObj s idx el v u) j = spot s j := rfl
@[simp] theorem stack_setObj (s : State) (idx el v u j : Nat) : stack (setObj s idx el v u) j = stack s j := rfl
@[simp] theorem evSrc_setObj (s : State) (idx el v u j : Nat) : evSrc (setObj s idx el v u) j = evSrc s j := rfl
@[simp] theorem card_setObj (s : State) (idx el v u j : Nat) : card (setObj s idx el v u) j = card s j := rfl
@[simp] theorem kUnit_setObj (s : State) (idx el v u j : Nat) : kUnit (setObj s idx el v u) j = kUnit s j := rfl
@[simp] theorem runOf_setObj (s : State) (idx el v u j : Nat) : runOf (setObj s idx el v u) j = runOf s j := rfl
@[simp] theorem objD_setPort (d : Nat) (s : State) (i idx el u : Nat) (x : Port) : objD d (setPort s i x) idx el u = objD d s idx el u := rfl
@[simp] theorem objD_setPart (d : Nat) (s : State) (i idx el u : Nat) (x : Part) : objD d (setPart s i x) idx el u = objD d s idx el u := rfl
@[simp] theorem objD_setQueue (d : Nat) (s : State) (i idx el u : Nat) (x : QueueSt) : objD d (setQueue s i x) idx el u = objD d s idx el u := rfl
@[simp] theorem objD_setSession (d : Nat) (s : State) (i idx el u : Nat) (x : Session) : objD d (setSession s i x) idx el u = objD d s idx el u := rfl
@[simp] theorem objD_setBank (d : Nat) (s : State) (i idx el u : Nat) (x : Bank) : objD d (setBank s i x) idx el u = objD d s idx el u := rfl
@[simp] theorem objD_setGroup (d : Nat) (s : State) (i idx el u : Nat) (x : Group) : objD d (setGroup s i x) idx el u = objD d s idx el u := rfl
@[simp] theorem objD_setFeed (d : Nat) (s : State) (i idx el u : Nat) (x : Feed) : objD d (setFeed s i x) idx el u = objD d s idx el u := rfl
@[simp] theorem objD_setBrick (d : Nat) (s : State) (i idx el u : Nat) (x : Brick) : objD d (setBrick s i x) idx el u = objD d s idx el u := rfl
@[simp] theorem objD_setBlock (d : Nat) (s : State) (i idx el u : Nat) (x : Block) : objD d (setBlock s i x) idx el u = objD d s idx el u := rfl
@[simp] theorem objD_setSpot (d : Nat) (s : State) (i idx el u : Nat) (x : HotSpot) : objD d (setSpot s i x) idx el u = objD d s idx el u := rfl
@[simp] theorem objD_setStack (d : Nat) (s : State) (i idx el u : Nat) (x : Stack) : objD d (setStack s i x) idx el u = objD d s idx el u := rfl
@[simp] theorem objD_setEv (d : Nat) (s : State) (i idx el u : Nat) (x : EvSrc) : objD d (setEv s i x) idx el u = objD d s idx el u := rfl
@[simp] theorem objD_setCard (d : Nat) (s : State) (i idx el u : Nat) (x : Card) : objD d (setCard s i x) idx el u = objD d s idx el u := rfl
@[simp] theorem objD_setKUnit (d : Nat) (s : State) (i idx el u : Nat) (x : KUnit) : objD d (setKUnit s i x) idx el u = objD d s idx el u := rfl

end Sys2Proof.Machine
end

