-- ==== Sys2Proof/Tests/States.lean ====
section
/-! SUPPORT. The small states in which the tests and the witnesses of the statements stand. -/
namespace Sys2Proof.Tests
open Sys2Proof Sys2Proof.Machine

/-- An open host session with every right (R358, R396). -/
def host : Session := { st := 2, kind := 1, rights := 2 ^ 128 - 1 }
/-- A KV pool of one group of one layer: four sets of one head of 32 elements in E4M3 (R277, R278). -/
def pool : KvPool :=
  { maxent := 8, pageUnits := 1, groups := [{ l0 := 0, layers := 1, fmt := 2, nkvh := 1, dh := 32, nset := 4, basepage := 0 }]
    tiles := [{ pti := 0, layer := 0, h0 := 0, nh := 1, ring := 5, w := 1, scalereg := 6, scaleoff := 0 }] }
/-- A reduction over the two tiles, of two words or a top-k list, into tile 16 (R254). -/
def reduction (rid kind : Nat) : Reduce :=
  { rid := rid, kind := kind, nw := 2, dpti := 1, dst := 4096, dreg := 0, dflag := 1, onLanes := false, contribs := [0, 1] }
/-- A placement of two tiles of one cluster, with the regions that the tests use. -/
def place : Placement :=
  { image := 7, dual := true, nsync := 1024
    tiles := [{ tile := 0, arrays := [3], grant := 100, regions := [⟨0, 1, 0, 65536⟩, ⟨5, 2, 65536, 65536⟩, ⟨6, 1, 131072, 64⟩, ⟨7, 0, 1048576, 4096⟩] },
      { tile := 16, arrays := [4], grant := 100, regions := [⟨0, 2, 0, 65536⟩] }]
    progs := [{ prog := 0, slots := 4, cap := 64, entries := [(0, 0), (0, 0)] }]
    hregs := [{ ridx := 0, kind := 0, vbase := 0, size := 2097152, stackIds := [0], extents := [[0]] },
      { ridx := 1, kind := 2, vbase := 4194304, size := 2097152, stackIds := [1], extents := [[0]] },
      { ridx := 2, kind := 3, vbase := 0, size := 2097152, stackIds := [2], extents := [[0]] }]
    reduces := [reduction 1 0, reduction 2 1], kv := pool }
/-- A module in READY with a host session and partition 0 IDLE, placed and without a list. -/
def s0 : State :=
  { State.reset with power := .ready, sessions := [(1, host)], parts := [(0, { st := .idle, place := place })] }
/-- The header and the words of a list for queue `q` of partition 0 (R173). -/
def qWords (q : Nat) (ws : List Nat) : List W256 :=
  ((put 1 4 252 + put (q % 8) 3 241 + put ws.length 16 176) :: ws).map (BitVec.ofNat 256)
/-- A state in which queue `q` has reached the first of the words. -/
def reach (q : Nat) (ws : List Nat) (s : State := s0) : State :=
  { s with queues := [(q, { running := some { lst := { words := qWords q ws, session := 1 } } })] }
/-- The list that a queue runs, and the word that it has reached. -/
def listRun (s : State) (q : Nat) : RunList := ((queue s q).running).getD { lst := {} }
def listWord (s : State) (q : Nat) : Nat := (listRun s q).lst.word (listRun s q).pos
/-- A command word: opcode and the fields given. -/
def cmd (op : Nat) (fields : List (Nat × Nat × Nat)) : Nat := put op 8 248 + (fields.map fun f => put f.1 f.2.1 f.2.2).foldl (· + ·) 0
/-- Partition 0 with some fields changed, and a live sequence 9. -/
def withPart (f : Part → Part) (s : State := s0) : State := { s with parts := FMap.set s.parts 0 (f (part s 0)) }
def withSeq (x : Seq) (s : State := s0) : State := { s with seqs := FMap.set s.seqs (seqKey 0 9) x }
/-- A running step of partition 0 with one slot, bound to sequence 9. -/
def slot0 : SlotB := { slot := 0, seq := 9, nnode := 1, csrc := 1, nodes := [{ token := 5, parent := 0, q := 0 }], force := [false] }
def step0 : StepRun := { prog := 0, stepNo := 3, slots := [slot0], startNs := 0 }
def stepping (r : StepRun := step0) (s : State := s0) : State := withPart (fun x => { x with st := .stepping, step := some r, stepCounter := 3 }) s
/-- A list of one DBGREL for the debug queue of partition 15, with its CRC, and partition 15 enabled to take it (R176). -/
def dbgHead : Nat := put 1 4 252 + put 15 4 244 + put 7 3 241 + put 1 16 176
def dbgList : List W256 :=
  let ws := [dbgHead, cmd 0x70 [(0xFFF, 12, 212)]].map (BitVec.ofNat 256)
  BitVec.ofNat 256 (dbgHead + listCrc ws) :: ws.drop 1
def dbgState : State := { s0 with parts := [(15, { st := .idle, place := place })] }
def dbgQueued : State := { dbgState with queues := [(127, { waiting := [{ words := dbgList, session := 1 }] })] }
/-- A list held by its WAIT on queue 0. -/
def heldWait : State :=
  let s := reach 0 [cmd 0xF0 [(2, 10, 214), (1, 64, 150)]] { s0 with sync := [(2, 1)] }
  { s with queues := [(0, { running := some { listRun s 0 with begun := true } })] }
def twoSeqs : State := { s0 with seqs := [(seqKey 0 8, { len := 64, tables := [(0, [1])] }), (seqKey 0 9, {})], kvSets := [(setKey 0 0 1, (1, 1))] }
/-- A checkpoint of a sequence of length 0 in HBM, with its CRC (R343). -/
def saved : State :=
  let h := chkptHeader place 9 {}
  pvaWrite s0 0 (2 * 2 ^ 44) (leBytes 4 (crc32 (h.take 4096)) ++ (h.drop 4).take 4092)
/-- A STEP of one slot that draws its nodes from the list, and its payload (R188, R189). -/
def stepWords : List Nat := [cmd 0x01 [(4, 12, 236), (0, 4, 220), (1, 9, 211)], put 9 32 216 + put 1 5 211 + put 1 2 209, 5, 0, 0]
def stepAt : State := reach 0 stepWords (withSeq {})
def stepPay : List Nat := stepWords.drop 1
def stepSlots : List SlotB := [bindOf stepAt 0 stepPay 0]
def debugOnState : State := { s0 with dict := [(objKey (pidx 0x51 0) 26 0, 1)] }
theorem reset_good : State.reset.Good := ⟨by decide, by decide, by decide, by decide, by decide, by decide, by decide, by decide⟩
def loaded15 : State := { s0 with parts := [(15, { st := .loaded, place := place })] }
def checking (c : CheckRun) : State := { s0 with parts := [(15, { st := .loaded, place := place, check := some c })] }
def evKey (k : Nat) : Nat := objKey (0x9100 + k / 256) (k % 256) 0
def checkOf (r : Nat) : CheckRun := { session := 1, reqid := 0, reason := r, object := 0, snapshot := [] }
def bricksOn : State := { s0 with bricks := (List.range 5).map fun b => (b, { st := 2 }) }
/-- Bank A of array 3 of tile 0, the partition's first array, in a state. -/
def banksIn (b : Bank) (s : State := s0) : State := { s with banks := [(bankKey 0 3 0, b)] }
def shadowPlace : Placement := { place with dual := false }
/-- That bank's SWAP is armed. -/
def armed : State := withPart (fun x => { x with swap := [bankKey 0 3 0], place := shadowPlace }) (banksIn { st := .swapArmed })
/-- Bank B of that array stands by while bank A is in service, in shadow mode. -/
def swapReady (s : State) : State :=
  { withPart (fun x => { x with place := shadowPlace }) s with banks := [(bankKey 0 3 0, { st := .standby }), (bankKey 0 3 1, { st := .inService })] }
def fitted : FitTable := { resid := 0, cols := [], trim := [], sig := [] }
def capture : Capture :=
  { id := 1, part := 0, tile := 0, array := 3, bank := 0, group := 0, wide := false, codes := [], results := [], temp := 0, band := 0, calTime := 0, eg := 0
    kg := 0, tol := 0, block := none, format := 0, ageSec := 0, ageCyc := 0 }
/-- An open link session of partition 0 with rank 1, in group 1. -/
def link : Session := { st := 2, kind := 2, lpart := 0, rank := 1, group := 1 }
def linked (s : State := s0) : State := { s with sessions := [(1, host), (2, link)] }
def landing : InWrite := { session := 2, part := 0, win := 255, tag := 0, va := 2 * 2 ^ 44, left := 0, last := some [1] }
/-- An export of partition 0 to rank 1, of four words of tile 0 in epoch 1. -/
def exportW : Nat := put 1 8 248 + put 1 4 243 + put 4 16 189 + put 1 16 95
/-- The header of an image of one page (R246). -/
def pageHeader : List Byte :=
  let h := put 0x4F4C4931 32 480 + put 1 32 352
  leBytes 64 (h + crc32 (leBytes 64 h))
def uploading : State :=
  { s0 with uploads := [{ image := 8, len := 4096, bytes := Memory.writeN [] 0 pageHeader, ranges := [(0, 4096)] }] }
def plainHost : State := { s0 with sessions := [(1, { host with rights := 0 })] }
/-- A frame of a type for a session, as received on port 0, and a state that holds it alone. -/
def rxFrame (typ ses : Nat) (payload : List Byte) : RxFrame :=
  { port := 0, pri := 0, len := 64, udp := false, addr := 0, hdr := put typ 8 240 + put ses 16 216 + put 5 16 200, payload := payload }
def portsUp : State := { s0 with ports := [(0, { present := true, link := true }), (47, { present := true, link := true })] }
def rxState (typ ses : Nat) (payload : List Byte) : State := { portsUp with rx := [rxFrame typ ses payload] }
def later (s : State) : State := { s with refTicks := 2 ^ 62 }
/-- An OPEN of a host session with credential 1 (R359). -/
def openBody : List Byte := [16, 1, 1] ++ List.replicate 37 0
/-- Session 3 has been challenged; credential 1 is enabled for host sessions and has a key (R395, R396). -/
def proved : Session := { st := 1, kind := 1, cred := 1 }
def proveState : State :=
  { portsUp with dict := FMap.set [(objKey 0x2020 1 0, 2 ^ 119 + 2 ^ 113)] (objKey 0x2021 1 0) 7, sessions := [(3, proved)] }
def proof (s : State) : List Byte := hmac256 ((credKey s 1).getD []) (proofMessage proved 0 3)
def proving : State := { proveState with rx := [rxFrame 3 3 (proof proveState)] }
def segOf (typ : Nat) (payload : List Byte) : RxSeg := { typ := typ, first := true, last := true, reason := 0, payload := payload }
def sentWrite : OutWrite :=
  { session := 2, part := 0, tag := 0, queue := some 5, exp := 0, win := 0, epoch := 1, off := 0, data := [] }
def sent : State := { (linked) with outWrites := [sentWrite] }
/-- A KEEPALIVE of version 1.1 for session 1, whose peer is 0, with its CRC, and the envelope it comes in (R352–R354). -/
def keepalive : List Byte :=
  let h := leBytes 32 (put 0x11 8 248 + put 7 8 240 + put 1 16 216)
  h ++ leBytes 4 (crc32 h)
def envelope : Envelope :=
  { len := 64, tags := 0, pri := 0, etherType := 0x88B5, dstMac := 2 ^ 40, ext := false, nextHeader := 0, dstIp := 0, checksumOk := false, udpPort := 0, addr := 0 }
set_option maxRecDepth 4000 in
theorem proofFits : (rxFrame 3 3 (proof proveState)).payload =
    hmac256 ((credKey proving proved.cred).getD []) (proofMessage proved proved.peer (bDsid (rxFrame 3 3 (proof proveState)).hdr)) := by
  have h : bDsid (rxFrame 3 3 (proof proveState)).hdr = 3 := by decide +kernel
  have k : credKey proving proved.cred = credKey proveState 1 := by decide +kernel
  rw [h, k, show (rxFrame 3 3 (proof proveState)).payload = proof proveState from rfl, proof, show proved.peer = 0 from rfl]
/-- Partition 0 as rank 0 of the group 7 of two ranks, with a role (1 master, 2 member); session 2 leads to rank 1, the master of a member (R373, R374). -/
def grouped (role : Nat) (g : Group) (n : Nat := 2) : State :=
  { (linked) with
    dict := FMap.set (FMap.set (FMap.set [(objKey (pidx 0x63 0) 1 0, 7)] (objKey (pidx 0x63 0) 2 0) role) (objKey (pidx 0x63 0) 4 0) n) (objKey (pidx 0x63 0) 7 0) 1
    groups := [(0, { g with st := 2, role := role, master := if role = 1 then 0 else 1 })] }
/-- That member after its session to the master was lost; alone in a group of two, or with a rank more that has lost it. -/
def orphan : State := { withPart (fun x => { x with enable := true }) (grouped 2 { backup := 0, lost := [2] } 3) with sessions := [(1, host)] }
def loneOrphan : State := { withPart (fun x => { x with enable := true }) (grouped 2 { backup := 0 } 3) with sessions := [(1, host)] }
/-- The placer's job in hand, a load or a re-placement of one tile with one array (R257, R270). -/
def job (load : Bool) : PlaceJob :=
  { part := 15, isLoad := load, begun := true, work := [{ pti := 0, tile := 0, narray := 1, arrays := [3] }]
    plan := { tiles := [{ tile := 0, arrays := [3], grant := 1, regions := [] }] } }
def bothStandby : FMap Bank := [(bankKey 0 3 0, { st := .standby }), (bankKey 0 3 1, { st := .standby })]
/-! ### Tiles -/
def run0 : TileRun := { part := 0, prog := 0, base := 0, ncmd := 4 }
/-- Tile 0 of a partition that steps, with the words of its list from the first command on. -/
def onTile (ws : List Nat) (r : TileRun := run0) (s : State := stepping) : State :=
  { s with tiles := FMap.set s.tiles 0 r, sp := Memory.writeN s.sp (spKey 0 16) (ws.flatMap (leBytes 16)) }
/-- A tile command word: opcode and the fields given. -/
def tcmd (op : Nat) (fields : List (Nat × Nat × Nat)) : Nat := put op 8 120 + (fields.map fun f => put f.1 f.2.1 f.2.2).foldl (· + ·) 0
def tileRun (s : State) (t : Nat) : TileRun := (runOf s t).getD run0
def tileWord (s : State) (t : Nat) : Nat := leNat (spRead s t ((tileRun s t).base + 16 * (tileRun s t).pos) 16)
/-- The same with a byte at a scratchpad offset of tile 0 or a word of its accumulator memory. -/
def withSp (off : Nat) (bs : List Byte) (s : State) : State := { s with sp := Memory.writeN s.sp (spKey 0 off) bs }
def debugMode (v : Nat) (s : State) : State := { s with dict := FMap.set s.dict (objKey (pidx 0x51 0) 26 0) v }
/-- A list on the control queue of partition 0 that cancels sequence 9. -/
def cancelling : State :=
  { withSeq {} with queues := [(128, { running := some { lst := { words := qWords 0 [cmd 0xF2 [(9, 32, 192)], cmd 0xF2 [(9, 32, 192)]], session := 1 } } })] }
def slot9 (x : Seq) (r : StepRun := step0) : State := withSeq x (stepping r)
/-- A partition that steps, row 0 of whose tile 0 is scaled (R151). -/
def scaledRow : State := { (stepping) with accTag := [(0, 2 ^ 13)] }
def listHead : Nat := 2 ^ 41
def evaluation : EvalRun := { array := 3, bank := 0, wide := false, codes := [], scale := 0, nonfin := false, row := 127, off := 1 }
def product : TmmRun := { dst := 4096, acc := false, words := [(0, 0x3F800000)], off := 1 }
/-- A guarded quantisation to E2M1 of one block of BF16 zeros (R118, R122). -/
def quantWords : List Nat := [tcmd 0x33 [(6, 5, 115), (1, 1, 114), (1, 16, 98), (4096, 24, 74), (8192, 23, 51), (12288, 23, 28)]]
/-- The same in a step whose saturation threshold is 0, which flags every block. -/
def guardState : State := onTile quantWords { run0 with grd := true } (stepping { step0 with satThr := 0 })
def quants (s : State) : List Quant := [quantise 6 (quantSource s 0 4096 32 true)]
def quantState : State := onTile quantWords { run0 with grd := true }

/-- A SEND on its way from tile 0 to tile 16 (R159), and two runs of the partition's tiles. -/
def flight : Flight := { part := 0, src := 0, dst := 16, addr := 4096, flag := 1, off := 1, step := 3, data := [1, 2, 3, 4] }
def bothRun (s : State := stepping) : State := { s with tiles := [(0, run0), (16, run0)] }
/-- An operand of a reduction at a position of `n` (R233). -/
def operand (rid idx n : Nat) (data : List Nat) : RFlight := { part := 0, rid := rid, lvl := 0, idx := idx, n := n, step := 3, data := data }
/-- A list of one entry (R115). -/
def oneEntry : List Nat := [2 ^ 41 + 2 ^ 34, 0x3F80000000000000 + 7]
def pageCtx (s : State) : TCtx := { p := 0, t := 0, run := tileRun s 0, w := tileWord s 0 }
def kvrdState : State := onTile [tcmd 0x60 [(32, 32, 72), (32, 16, 56), (4096, 23, 33)]] run0 (slot9 {})
def kvrdMasked : State := onTile [tcmd 0x60 [(3, 8, 112), (32, 16, 56), (4096, 23, 33)]] run0 (slot9 {})
def kvapState (slot node : Nat) : State := onTile [tcmd 0x61 [(slot, 8, 112), (node, 4, 108)]] run0 { slot9 {} with accTag := [(0, 2 ^ 13)] }
/-- Tile 0 at a PCALL of an engine, with the call's descriptor at offset 4096 (R163). -/
def calling (eng d : Nat) (s : State := stepping) : State :=
  withSp 4096 (leBytes 16 d) (onTile [tcmd 0x06 [(eng, 3, 117), (4096, 23, 94), (63, 6, 88)]] run0 s)
def drafting : State := { (stepping) with dict := FMap.set [(objKey 0x5200 1 0, 0)] (objKey 0x5200 2 0) 1 }
def maskedStep : State := stepping { step0 with slots := [{ slot0 with masked := true }] }
def chainDesc : Nat := put 1 8 248 + put (2 * 2 ^ 44) 48 192 + put (2 * 2 ^ 44 + 4096) 48 144 + put 4 32 112
def treeCall : Nat := put 1 8 120 + put 1 4 116 + put 1 9 99 + put 8192 23 76
def acceptCall : Nat := put 1 8 120 + put 2 4 116 + put 1 9 99 + put 8192 23 76
def publishCall : Nat := put 1 8 120 + put 3 4 116 + put 1 9 99
def chainCall : Nat := put 1 8 120 + put 1 4 116 + put 1 12 104 + put 8192 23 81
def chainState : State := withSp 8192 (leBytes 32 chainDesc) (calling 1 chainCall)
def callRun : CallRun := { off := 1, eng := 1, flag := 63, descs := [] }
def pageRead : KvrdRun := { off := 1, dst := 4096, flag := 63, data := [1] }
/-- A fill of page index 0 of slot 0 into the ring of tile 0, from page 0. -/
def filling : State := { slot9 { tables := [(0, [0])] } with fills := [(0, 0, 0, 0, 0, 0)] }
theorem acceptMasked : ∀ i b, i < 1 → slotOf (calling 3 acceptCall maskedStep) (tileRun (calling 3 acceptCall maskedStep) 0).part (sSlot0 acceptCall + i) = some b →
    b.decided = false ∧ (b.masked = false → ∃ x, walkTree b (fun k => acceptList (calling 3 acceptCall maskedStep) 0
      (8192 + (i * 16 + k) * 520)) 0 {} 17 = .inr x) := by
  intro i b h e
  obtain rfl : i = 0 := by omega
  have k : slotOf (calling 3 acceptCall maskedStep) (tileRun (calling 3 acceptCall maskedStep) 0).part (sSlot0 acceptCall + 0) =
      some { slot0 with masked := true } := by decide +kernel
  cases e.symm.trans k
  exact ⟨rfl, fun h => nomatch h⟩
def entryCtx : KvCtx := { k := pool.tiles.headD ⟨0, 0, 0, 0, 0, 0, 0, 0⟩, gi := 0, g := pool.groups.headD ⟨0, 0, 0, 0, 0, 0, 0⟩ }
def kvapBytes (s : State) : List Byte :=
  ((opW32 s 0 (2 ^ 23) 64).zip (List.range 64)).flatMap fun e =>
    leBytes 1 (kvConvert 2 (kvScale s (pageCtx s) entryCtx (e.2 / 32) (e.2 % 32 / 32)) e.1).1
/-- A wake that the start gate holds, with nothing that bars it (R498). -/
def gated : State :=
  { s0 with power := .attended, refTicks := 2000000000, feeds := [(0, { usable := true })], coolant := { s0.coolant with gateAt := some 0 }, life := { s0.life with wake := some (0, false) } }
def starting (n : Nat) : State := { bricksOn with power := .starting, life := { s0.life with step := n } }
def halting (n : Nat) : State := { s0 with power := .stopping, life := { s0.life with stop := n } }
def stampOwed : State := { s0 with power := .standby, life := { s0.life with stampDue := true } }
def failing (x : Card) : State := { s0 with power := .attended, cards := [(1, x)] }
def copying : StepRun := { step0 with copies := [(0, 1, 2, 0, 0)] }

end Sys2Proof.Tests
end

