-- ==== Sys2Proof/Tests/Slice0.lean ====
section
/-! SUPPORT. Tests of the model: terms that the well-formedness check refuses and takes, the worked examples of the manual, and single steps. -/
namespace Sys2Proof.Tests
open Sys2Proof Sys2Proof.Machine
set_option Elab.async false

/-! ### Well-formedness: a term for each check -/

theorem test_wf_refuses_session : (Instr.listDispatch 128).wf = false := by decide +kernel
theorem test_wf_refuses_queue_of_engine_6 : (Instr.wait 6).wf = false := by decide +kernel
theorem test_wf_refuses_reply_queue : (Instr.dbgrd 126).wf = false := by decide +kernel
theorem test_wf_refuses_list_without_words : (Instr.commandListSubmit 1 0 []).wf = false := by decide +kernel
theorem test_wf_refuses_list_session : (Instr.commandListSubmit 65537 0 [0]).wf = false := by decide +kernel
theorem test_wf_refuses_list_queue : (Instr.commandListSubmit 1 6 [0]).wf = false := by decide +kernel
theorem test_wf_refuses_request_session : (Instr.recover 65537 0).wf = false := by decide +kernel
theorem test_wf_refuses_reqid_width : (Instr.fwend 1 (2 ^ 32)).wf = false := by decide +kernel
theorem test_wf_refuses_read_item_width : (Instr.read 1 0 [2 ^ 64]).wf = false := by decide +kernel
theorem test_wf_refuses_write_value_length : (Instr.write 1 0 [⟨BitVec.ofNat 64 2, [0]⟩]).wf = false := by decide +kernel
theorem test_wf_refuses_describe_item_width : (Instr.describe 1 0 [2 ^ 64]).wf = false := by decide +kernel
theorem test_wf_refuses_list_index_width : (Instr.list 1 0 65536 0).wf = false := by decide +kernel
theorem test_wf_refuses_list_last_index_width : (Instr.list 1 0 0 65536).wf = false := by decide +kernel
theorem test_wf_refuses_cause_width : (Instr.ackattn 1 0 (2 ^ 32)).wf = false := by decide +kernel
theorem test_wf_refuses_source_width : (Instr.evcomplete 1 0 65536).wf = false := by decide +kernel
theorem test_wf_refuses_load_body_width : (Instr.load 1 0 (2 ^ 256)).wf = false := by decide +kernel
theorem test_wf_refuses_partition : (Instr.loadComplete 16).wf = false := by decide +kernel
theorem test_wf_refuses_request_partition : (Instr.unload 1 0 16).wf = false := by decide +kernel
theorem test_wf_refuses_group_width : (Instr.promote 1 0 0 (2 ^ 32)).wf = false := by decide +kernel
theorem test_wf_refuses_numeric_policy_width : (Instr.mcarmNumeric 1 0 0 256).wf = false := by decide +kernel
theorem test_wf_refuses_band_width : (Instr.mcarmBand 1 0 0 256).wf = false := by decide +kernel
theorem test_wf_refuses_epoch_width : (Instr.mcapply 1 0 (2 ^ 64)).wf = false := by decide +kernel
theorem test_wf_refuses_image_id_width : (Instr.imgbegin 1 0 (2 ^ 64) 0).wf = false := by decide +kernel
theorem test_wf_refuses_image_offset_width : (Instr.imgdata 1 0 0 (2 ^ 64) []).wf = false := by decide +kernel
theorem test_wf_refuses_firmware_mask_width : (Instr.fwactivate 1 0 65536).wf = false := by decide +kernel
theorem test_wf_refuses_element_width : (Instr.selectorWrite 1 0 0 256 0).wf = false := by decide +kernel
theorem test_wf_refuses_value_width : (Instr.selectorWrite 1 0 0 0 (2 ^ 64)).wf = false := by decide +kernel
theorem test_wf_refuses_phases_of_a_block : (Instr.blockRestartDone 0 9 true).wf = false := by decide +kernel
theorem test_wf_refuses_cluster : (Instr.blockRestartDone 288 8 true).wf = false := by decide +kernel
theorem test_wf_refuses_hot_spot : (Instr.regionReturnRequest 1 0 576).wf = false := by decide +kernel
theorem test_wf_refuses_test_tile_width : (Instr.ftestRequestLight 1 0 65536).wf = false := by decide +kernel
theorem test_wf_refuses_event_source : (Instr.evConfigWrite 1 0 512 0).wf = false := by decide +kernel
theorem test_wf_refuses_event_value_width : (Instr.evConfigWrite 1 0 0 65536).wf = false := by decide +kernel
theorem test_wf_refuses_processor_event_source : (Instr.evSense 512).wf = false := by decide +kernel
theorem test_wf_refuses_event_server : (Instr.evTake 2).wf = false := by decide +kernel
theorem test_wf_refuses_die_24 : (Instr.stepLaunch 49152).wf = false := by decide +kernel
theorem test_wf_refuses_cluster_6_of_a_half : (Instr.nop 768).wf = false := by decide +kernel
theorem test_wf_refuses_unit_of_a_tile : (Instr.endCmd 1).wf = false := by decide +kernel
theorem test_wf_refuses_array_64 : (Instr.evalResultWrite 0 64 [[], []]).wf = false := by decide +kernel
theorem test_wf_refuses_number_of_results : (Instr.evalResultWrite 0 0 [[]]).wf = false := by decide +kernel
theorem test_wf_refuses_columns_of_a_result : (Instr.evalResultWrite 0 0 [[], []]).wf = false := by decide +kernel
theorem test_wf_refuses_sender : (Instr.sendArrive 1 0).wf = false := by decide +kernel
theorem test_wf_refuses_copy_partition : (Instr.allocCopyDone 16 0).wf = false := by decide +kernel
theorem test_wf_refuses_stall_source : (Instr.stallNotice 0 1).wf = false := by decide +kernel
theorem test_wf_refuses_slot_256 : (Instr.cancelNoticeTile 0 256).wf = false := by decide +kernel
theorem test_wf_refuses_cancelled_sequence : (Instr.cancelRecorded 0 (2 ^ 32) 0).wf = false := by decide +kernel
theorem test_wf_refuses_scratchpad_line : (Instr.scrubLine 0 196608 []).wf = false := by decide +kernel
theorem test_wf_refuses_word_condition : (Instr.scrubLine 0 0 [3]).wf = false := by decide +kernel
theorem test_wf_refuses_bank : (Instr.bankVerifyDone 0 0 2 0 0 0).wf = false := by decide +kernel
theorem test_wf_refuses_fit_sizes : (Instr.calFitDone 0 0 0 (some ⟨0, [], [], []⟩)).wf = false := by decide +kernel
theorem test_wf_refuses_fit_residual : (Instr.repairDone 0 0 0 0 0 0 (some ⟨65536, [], [], []⟩)).wf = false := by decide +kernel
theorem test_wf_refuses_timeout_bank : (Instr.calTimeout 0 0 2).wf = false := by decide +kernel
theorem test_wf_refuses_probe_columns : (Instr.driftProbe 0 0 0 [[]]).wf = false := by decide +kernel
theorem test_wf_refuses_verdict_width : (Instr.arbitrationVerdict (2 ^ 32)).wf = false := by decide +kernel
theorem test_wf_refuses_unit_kind_0 : (Instr.kennelSuspectExpire 0 0 0).wf = false := by decide +kernel
theorem test_wf_refuses_unit_kind_11 : (Instr.kennelSuspectExpire 11 0 0).wf = false := by decide +kernel
theorem test_wf_refuses_unit_width : (Instr.kennelSuspectExpire 1 65536 0).wf = false := by decide +kernel
theorem test_wf_refuses_die : (Instr.ftestLightDue 24).wf = false := by decide +kernel
theorem test_wf_refuses_test_part_width : (Instr.ftestDone 0 256).wf = false := by decide +kernel
theorem test_wf_refuses_router_port : (Instr.flitCrcError 0 6 false).wf = false := by decide +kernel
theorem test_wf_refuses_reference : (Instr.referenceFail 2).wf = false := by decide +kernel
theorem test_wf_refuses_link_die : (Instr.hubLinkDieFail 4).wf = false := by decide +kernel
theorem test_wf_refuses_stack : (Instr.stackTempSample 40 none).wf = false := by decide +kernel
theorem test_wf_refuses_extent : (Instr.hbmPatrol 0 17166 0 []).wf = false := by decide +kernel
theorem test_wf_refuses_sector : (Instr.hbmPatrol 0 0 0 [65536]).wf = false := by decide +kernel
theorem test_wf_refuses_port_50 : (Instr.frameReceive 50 envelope []).wf = false := by decide +kernel
theorem test_wf_refuses_vlan_tags : (Instr.frameReceive 0 { envelope with tags := 3 } []).wf = false := by decide +kernel
theorem test_wf_refuses_frame_priority : (Instr.frameReceive 0 { envelope with pri := 8 } []).wf = false := by decide +kernel
theorem test_wf_refuses_ether_type : (Instr.frameReceive 0 { envelope with etherType := 65536 } []).wf = false := by decide +kernel
theorem test_wf_refuses_frame_mac : (Instr.frameReceive 0 { envelope with dstMac := 2 ^ 48 } []).wf = false := by decide +kernel
theorem test_wf_refuses_frame_next_header : (Instr.frameReceive 0 { envelope with nextHeader := 256 } []).wf = false := by decide +kernel
theorem test_wf_refuses_frame_ip : (Instr.frameReceive 0 { envelope with dstIp := 2 ^ 128 } []).wf = false := by decide +kernel
theorem test_wf_refuses_frame_udp_port : (Instr.frameReceive 0 { envelope with udpPort := 65536 } []).wf = false := by decide +kernel
theorem test_wf_refuses_frame_address : (Instr.frameReceive 0 { envelope with addr := 2 ^ 128 } []).wf = false := by decide +kernel
theorem test_wf_refuses_frame_longer_than_its_length : (Instr.frameReceive 0 { envelope with len := 0 } [0]).wf = false := by decide +kernel
theorem test_wf_refuses_peer_width : (Instr.brolerOpen (2 ^ 128)).wf = false := by decide +kernel
theorem test_wf_refuses_ssid : (Instr.proveTimeout 65536).wf = false := by decide +kernel
theorem test_wf_refuses_channel : (Instr.ackDelay 0 6).wf = false := by decide +kernel
theorem test_wf_refuses_export : (Instr.exportTrigger 0 64).wf = false := by decide +kernel
theorem test_wf_refuses_pause_priority : (Instr.pfcFrame 0 [(8, 0)]).wf = false := by decide +kernel
theorem test_wf_refuses_pause_time : (Instr.pfcFrame 0 [(0, 65536)]).wf = false := by decide +kernel
theorem test_wf_refuses_solicited_address : (Instr.neighborSolicitation 0 (2 ^ 128)).wf = false := by decide +kernel
theorem test_wf_refuses_echo_address : (Instr.echoRequest 0 0 (2 ^ 128)).wf = false := by decide +kernel
theorem test_wf_refuses_module_port : (Instr.osfpRemove 48).wf = false := by decide +kernel
theorem test_wf_refuses_module_class_0 : (Instr.osfpInsert 0 0 0).wf = false := by decide +kernel
theorem test_wf_refuses_module_class_9 : (Instr.osfpInsert 0 9 0).wf = false := by decide +kernel
theorem test_wf_refuses_step_program : (Instr.stepgo 0 0 16 []).wf = false := by decide +kernel
theorem test_wf_refuses_step_number : (Instr.stepgo 0 (2 ^ 64) 0 []).wf = false := by decide +kernel
theorem test_wf_refuses_binding_width : (Instr.stepgo 0 0 0 [2 ^ 256]).wf = false := by decide +kernel
theorem test_wf_refuses_masked_slot : (Instr.masks 0 0 [256]).wf = false := by decide +kernel
theorem test_wf_refuses_commit_word : (Instr.groupCommit 0 0 [2 ^ 64]).wf = false := by decide +kernel
theorem test_wf_refuses_boundary_word : (Instr.boundary 0 0 [2 ^ 64]).wf = false := by decide +kernel
theorem test_wf_refuses_window_epoch : (Instr.windowAnnounce 0 0 65536 0).wf = false := by decide +kernel
theorem test_wf_refuses_window_state : (Instr.windowAnnounce 0 0 0 3).wf = false := by decide +kernel
theorem test_wf_refuses_group_epoch : (Instr.newmaster 0 65536 0).wf = false := by decide +kernel
theorem test_wf_refuses_feed : (Instr.feedUsable 2).wf = false := by decide +kernel
theorem test_wf_refuses_brick : (Instr.brickFault 5).wf = false := by decide +kernel
theorem test_wf_refuses_phase_currents : (Instr.dropshareSample 0 [] 0 0 0 0 true false).wf = false := by decide +kernel
theorem test_wf_refuses_model_spot : (Instr.thermalModelTick [(576, 0)]).wf = false := by decide +kernel
theorem test_wf_refuses_governor_brick : (Instr.governorModuleTick 0 0 0 [(5, 0, 0)]).wf = false := by decide +kernel
theorem test_wf_refuses_coolant_sensors : (Instr.coolantSample []).wf = false := by decide +kernel
theorem test_wf_refuses_leak_loop : (Instr.leakWet 4).wf = false := by decide +kernel
theorem test_wf_refuses_carrier_sensors : (Instr.sheepdogSample [] (List.replicate 7 none)).wf = false := by decide +kernel
theorem test_wf_refuses_management_port : (Instr.mgmtOpenWake 2).wf = false := by decide +kernel
theorem test_wf_refuses_evaluated_bank : (Instr.powerOnStepDone [] [⟨393216, [], []⟩]).wf = false := by decide +kernel
theorem test_wf_refuses_card : (Instr.cardInsert 2).wf = false := by decide +kernel
theorem test_wf_refuses_bridge : (Instr.memoryBridgeFail 10).wf = false := by decide +kernel
theorem test_wf_refuses_neighbour_mac : (Instr.neighborAdvertisement 0 0 (2 ^ 48)).wf = false := by decide +kernel
theorem test_wf_refuses_paused_priority : (Instr.pfcPauseExpire 0 8).wf = false := by decide +kernel
theorem test_wf_refuses_4097_words : (Instr.commandListSubmit 1 0 (List.replicate 4097 0)).wf = false := by
  simp only [Instr.wf, List.length_replicate]; rfl
theorem test_wf_refuses_4096_read_items : (Instr.read 1 0 (List.replicate 4096 0)).wf = false := by
  simp only [Instr.wf, List.length_replicate]; rfl
theorem test_wf_refuses_firmware_data : (Instr.fwdata 1 0 0 (List.replicate 2097137 0)).wf = false := by
  simp only [Instr.wf, List.length_replicate]; rfl
theorem test_wf_takes_session_of_the_console : (Instr.recover 65536 0).wf = true := by decide +kernel
theorem test_wf_takes_last_queue : (Instr.dbgrd 127).wf = true := by decide +kernel
theorem test_wf_takes_last_tile : (Instr.stepLaunch 0xBEF0).wf = true := by decide +kernel
theorem test_wf_takes_last_slot : (Instr.cancelNoticeTile 0xBEF0 255).wf = true := by decide +kernel
theorem test_wf_takes_last_port : (Instr.echoRequest 49 0 0).wf = true := by decide +kernel
theorem test_wf_takes_write_value : (Instr.write 1 0 [⟨BitVec.ofNat 64 1, [0]⟩]).wf = true := by decide +kernel
theorem test_wf_takes_last_bank : (Instr.powerOnStepDone [] [⟨393215, [], []⟩]).wf = true := by decide +kernel
theorem test_wf_takes_phases : (Instr.blockRestartDone 287 8 true).wf = true := by decide +kernel

/-! ### The manual's worked examples -/

/-- 00_scope.md after R8: tile address 0x86D0 is die 16, half 1, cluster 5, tile 5. -/
theorem test_tile_address : dieOf 0x86D0 = 16 ∧ clusterOf 0x86D0 = 16 * 12 + 6 + 5 ∧ tileOk 0x86D0 = true := by decide
/-- 08_fabric.md after R216: tile 0xBEF0 lies at (71, 31), the tile 0x29B0 at (63, 2). -/
theorem test_mesh_coordinates : (tileX 0xBEF0, tileY 0xBEF0) = (71, 31) ∧ (tileX 0x29B0, tileY 0x29B0) = (63, 2) := by decide
/-- 01_machine_model.md after R20: queue 43 is the sampler queue of partition 5. -/
theorem test_queue_number : qPart 43 = 5 ∧ isQueue 43 = true := by decide
/-- 02_weight_arrays.md after R57: the digits of S = −1,203. -/
theorem test_check_digits : (List.range 3).map (checkDigit (-1203)) = [-3, 5, -5] := by decide
/-- 04_numeric_formats.md after R94: the first four elements +1.0, −0.5, +6.0 and 0 in MXFP4. -/
theorem test_mxfp4_bytes : packElems 4 [0x2, 0x9, 0x7, 0x0] = [0x92, 0x07] := by decide
theorem test_mxfp4_values : [0x2, 0x9, 0x7].map (decElem 6) = [.fin false 2 (-1), .fin true 1 (-1), .fin false 3 1] := by decide
/-- 04_numeric_formats.md R92: the largest finite magnitudes, 448 and 57,344. -/
theorem test_largest_magnitudes : decElem 2 0x7E = .fin false 14 5 ∧ decElem 3 0x7B = .fin false 7 13 := by decide
/-- 06_tile_engines.md after R164: the EVAL word of array 9, bank 0, A4, FP32 source at 0x1_0000, row 12, slot 0, node 2. -/
def evalExample : Nat := 0x10244600100002000000000000000000
theorem test_eval_fields :
    (fld evalExample 127 120, fld evalExample 119 114, bitAt evalExample 113, bitAt evalExample 112, fld evalExample 111 110, fld evalExample 109 103) =
      (0x10, 9, false, false, 1, 12) ∧
    (fld evalExample 102 95, fld evalExample 94 91, fld evalExample 90 81, fld evalExample 80 57) = (0, 2, 0, 0x10000) := by decide
/-- 12_streaming_tier.md after R332: WIDTH 0 and the address 0x2000_4123_4568. -/
theorem test_striped_address :
    HReg.resolve { ridx := 0, kind := 0, vbase := 0x40000000, size := 2 ^ 28, stackIds := List.range 40, extents := List.replicate 40 [0, 1, 2, 3] } 0x41234568 =
      some (20 * 36000000000 + 476520) := by decide +kernel
/-- 15_power_and_thermal.md after R449: grants of 104 units, a block that lost one phase. -/
def grants104 : State :=
  { s0 with parts := [(0, { st := .idle, place := { tiles := [{ tile := 0, arrays := [], grant := 104, regions := [] }] } })], blocks := [(0, { phases := 7 })] }
theorem test_lost_phase : clusterCap grants104 0 = 98 ∧ electricFactor grants104 0 = 60 := by decide +kernel
/-- The check value of the IEEE 802.3 CRC-32 (R12) over the digits 1 to 9. -/
theorem test_crc_check_value : crc32 [0x31, 0x32, 0x33, 0x34, 0x35, 0x36, 0x37, 0x38, 0x39] = 0xCBF43926 := by decide +kernel
/-- R105: rounding to nearest, ties to even, at 2^24 + 1 and 2^24 + 3; −0 only of −0 and −0. -/
theorem test_fadd_ties : (fadd 0x4B800000 0x3F800000).v = 0x4B800000 ∧ (fadd 0x4B800000 0x40400000).v = 0x4B800002 := by decide +kernel
theorem test_fadd_zeros : (fadd 0 0x80000000).v = 0 ∧ (fadd 0x80000000 0x80000000).v = 0x80000000 := by decide +kernel

/-! ### One step -/

theorem test_reset_queue_empty : State.reset.pending = [] := by rfl
theorem test_no_row_has_bits : decodeTableWord 32 0xFFFFFFFF = none := by rfl
/-- Two commands wait: the step runs the first and leaves the second. -/
theorem test_step_takes_the_front : (match step { s0 with pending := [.leakWet 1, .leakWet 2] } with
    | .next t => t.pending == [.leakWet 2] && t.leaks.wet == 2
    | _ => false) = true := by decide +kernel


end Sys2Proof.Tests
end

