-- ==== Sys2Proof/Tests/Witness1.lean ====
section
/-! SUPPORT. Concrete states and operands that meet the hypotheses of the statements, part 1. -/
namespace Sys2Proof.Tests
open Sys2Proof Sys2Proof.Machine
set_option maxRecDepth 4000
set_option Elab.async false

/-- The hypotheses of `Obligations.IdleStepTicks` are met, clause by clause. -/
theorem witness_IdleStepTicks :
    (∃ (s : State), s.pending = []) ∧
    (∃ (s : State), s.pending = [] ∧ s.life.refresh = false ∧ (s.queues.any fun e => e.2.running.any fun r => r.begun && r.aux == copyMark) = false) :=
  ⟨⟨s0, by decide +kernel⟩,
   ⟨s0, by decide +kernel, by decide +kernel, by decide +kernel⟩⟩

/-- The hypotheses of `Obligations.StepKeepsGood` are met, clause by clause. -/
theorem witness_StepKeepsGood : ∃ (s : State) (t : State), s.Good ∧ step s = .next t :=
  ⟨State.reset, _, reset_good, rfl⟩

/-- The hypotheses of `Obligations.EveryWellFormedCommandCompletes` are met, clause by clause. -/
theorem witness_EveryWellFormedCommandCompletes : ∃ (c : Instr) (s : State), c.wf = true :=
  ⟨(.listDispatch 127), s0, by decide +kernel⟩

/-- The hypotheses of `Obligations.SubmittedListWaitsLast` are met, clause by clause. -/
theorem witness_SubmittedListWaitsLast :
    (∃ (ses : Nat) (q : Nat) (ws : List W256) (s : State), q < 128 ∧ submitRefusal s ses q ws = none) ∧
    (∃ (ses : Nat) (q : Nat) (ws : List W256) (s : State) (e : Nat) (o : Nat), q < 128 ∧ submitRefusal s ses q ws = some (e, o)) :=
  ⟨⟨1, 127, dbgList, dbgState, by decide +kernel, by decide +kernel⟩,
   ⟨1, 0, ([]), s0, 0x0801, 0, by decide +kernel, by decide +kernel⟩⟩

/-- The hypotheses of `Obligations.DispatchTakesTheOldestList` are met, clause by clause. -/
theorem witness_DispatchTakesTheOldestList :
    (∃ (q : Nat) (s : State) (l : HostList) (ls : List HostList), q < 128 ∧ (queue s q).running = none ∧ (queue s q).waiting = l :: ls ∧
      mayDispatch s q = true) ∧
    (∃ (q : Nat) (s : State), q < 128 ∧ mayDispatch s q = false) :=
  ⟨⟨127, dbgQueued, _, _, by decide +kernel, by decide +kernel, rfl, by decide +kernel⟩,
   ⟨0, State.reset, by decide +kernel, by decide +kernel⟩⟩

/-- The hypotheses of `Obligations.CompletedCommandMovesItsListOn` are met, clause by clause. -/
theorem witness_CompletedCommandMovesItsListOn : ∃ (q : Nat) (s : State) (r : RunList) (res : List W256), (queue s q).running = some r ∧
  r.pos + 1 + cmdNpay (r.lst.word r.pos) ≤ hdrNwords r.lst.hdr :=
  ⟨0, (reach 0 [cmd 0xF1 [], cmd 0xF1 []]), (((queue (reach 0 [cmd 0xF1 [], cmd 0xF1 []]) 0).running).get (by decide +kernel)), ([]),
    (Option.some_get _).symm, by decide +kernel⟩

/-- The hypotheses of `Obligations.LastCommandEndsItsList` are met, clause by clause. -/
theorem witness_LastCommandEndsItsList : ∃ (q : Nat) (s : State) (r : RunList) (res : List W256), (queue s q).running = some r ∧
  hdrNwords r.lst.hdr < r.pos + 1 + cmdNpay (r.lst.word r.pos) :=
  ⟨0, (reach 0 [cmd 0xF1 []]), (((queue (reach 0 [cmd 0xF1 []]) 0).running).get (by decide +kernel)), ([1]), (Option.some_get _).symm, by decide +kernel⟩

/-- The hypotheses of `Obligations.RefusedCommandEndsItsList` are met, clause by clause. -/
theorem witness_RefusedCommandEndsItsList : ∃ (q : Nat) (reason : Nat) (s : State) (r : RunList), (queue s q).running = some r ∧ reason ≠ 0 :=
  ⟨0, 0x0107, (reach 0 [cmd 0xF1 []]), (((queue (reach 0 [cmd 0xF1 []]) 0).running).get (by decide +kernel)), (Option.some_get _).symm, by decide +kernel⟩

/-- The hypotheses of `Obligations.SignalsAndWaits` are met, clause by clause. -/
theorem witness_SignalsAndWaits :
    (∃ (q : Nat) (s : State) (r : RunList) (w : Nat), Reached s q 0xF1 r w ∧ bitAt w 149 = false ∧
      syncGet s (qPart q) (fld w 223 214) + fld w 213 150 < 2 ^ 64) ∧
    (∃ (q : Nat) (s : State) (r : RunList) (w : Nat), Reached s q 0xF1 r w ∧ bitAt w 149 = false ∧
      2 ^ 64 ≤ syncGet s (qPart q) (fld w 223 214) + fld w 213 150) ∧
    (∃ (q : Nat) (s : State) (r : RunList) (w : Nat), Reached s q 0xF1 r w ∧ bitAt w 149 = true) ∧
    (∃ (q : Nat) (s : State) (r : RunList) (w : Nat), Reached s q 0xF0 r w ∧ fld w 213 150 ≤ syncGet s (qPart q) (fld w 223 214)) ∧
    (∃ (q : Nat) (s : State) (r : RunList) (w : Nat), Reached s q 0xF0 r w ∧ syncGet s (qPart q) (fld w 223 214) < fld w 213 150) ∧
    (∃ (s : State) (p : Nat) (e : Nat) (r : RunList), (queue s (p * 8 + e)).running = some r ∧ r.begun = true ∧ cmdOpcode (r.lst.word r.pos) = 0xF0 ∧
      fld (r.lst.word r.pos) 213 150 ≤ syncGet s p (fld (r.lst.word r.pos) 223 214)) :=
  ⟨⟨0, (reach 0 [cmd 0xF1 [(1023, 10, 214), (2 ^ 64 - 1, 64, 150)]]), (listRun (reach 0 [cmd 0xF1 [(1023, 10, 214), (2 ^ 64 - 1, 64, 150)]]) 0),
     (listWord (reach 0 [cmd 0xF1 [(1023, 10, 214), (2 ^ 64 - 1, 64, 150)]]) 0), ⟨by decide +kernel, by decide +kernel, by decide +kernel, by decide +kernel,
     by decide +kernel, by decide +kernel⟩, by decide +kernel, by decide +kernel⟩,
   ⟨0, (reach 0 [cmd 0xF1 [(2, 10, 214), (2 ^ 64 - 1, 64, 150)]] { s0 with sync := [(2, 1)] }), (listRun (reach 0 [cmd 0xF1 [(2, 10, 214), (2 ^ 64 - 1, 64,
     150)]] { s0 with sync := [(2, 1)] }) 0), (listWord (reach 0 [cmd 0xF1 [(2, 10, 214), (2 ^ 64 - 1, 64, 150)]] { s0 with sync := [(2, 1)] }) 0),
     ⟨by decide +kernel, by decide +kernel, by decide +kernel, by decide +kernel, by decide +kernel, by decide +kernel⟩, by decide +kernel, by decide +kernel⟩,
   ⟨0, (reach 0 [cmd 0xF1 [(2, 10, 214), (2 ^ 64 - 1, 64, 150), (1, 1, 149)]] { s0 with sync := [(2, 1)] }), (listRun (reach 0 [cmd 0xF1 [(2, 10, 214),
     (2 ^ 64 - 1, 64, 150), (1, 1, 149)]] { s0 with sync := [(2, 1)] }) 0), (listWord (reach 0 [cmd 0xF1 [(2, 10, 214), (2 ^ 64 - 1, 64, 150), (1, 1,
     149)]] { s0 with sync := [(2, 1)] }) 0), ⟨by decide +kernel, by decide +kernel, by decide +kernel, by decide +kernel, by decide +kernel,
     by decide +kernel⟩, by decide +kernel⟩,
   ⟨0, (reach 0 [cmd 0xF0 [(2, 10, 214), (1, 64, 150)]] { s0 with sync := [(2, 1)] }), (listRun (reach 0 [cmd 0xF0 [(2, 10, 214), (1, 64,
     150)]] { s0 with sync := [(2, 1)] }) 0), (listWord (reach 0 [cmd 0xF0 [(2, 10, 214), (1, 64, 150)]] { s0 with sync := [(2, 1)] }) 0), ⟨by decide +kernel,
     by decide +kernel, by decide +kernel, by decide +kernel, by decide +kernel, by decide +kernel⟩, by decide +kernel⟩,
   ⟨0, (reach 0 [cmd 0xF0 [(2, 10, 214), (2, 64, 150)]] { s0 with sync := [(2, 1)] }), (listRun (reach 0 [cmd 0xF0 [(2, 10, 214), (2, 64,
     150)]] { s0 with sync := [(2, 1)] }) 0), (listWord (reach 0 [cmd 0xF0 [(2, 10, 214), (2, 64, 150)]] { s0 with sync := [(2, 1)] }) 0), ⟨by decide +kernel,
     by decide +kernel, by decide +kernel, by decide +kernel, by decide +kernel, by decide +kernel⟩, by decide +kernel⟩,
   ⟨heldWait, 0, 0, (((queue heldWait (0 * 8 + 0)).running).get (by decide +kernel)), (Option.some_get _).symm, by decide +kernel, by decide +kernel,
     by decide +kernel⟩⟩

/-- The hypotheses of `Obligations.SequenceCommands` are met, clause by clause. -/
theorem witness_SequenceCommands :
    (∃ (q : Nat) (s : State) (r : RunList) (w : Nat), Reached s q 0x02 r w ∧ seqOf s (qPart q) (fld w 223 192) = none ∧ liveCount s (qPart q) < 65536) ∧
    (∃ (q : Nat) (s : State) (r : RunList) (w : Nat), Reached s q 0x03 r w ∧ (seqOf s (qPart q) (fld w 223 192)).isSome = true ∧
      stepActive s (qPart q) = false) ∧
    (∃ (q : Nat) (s : State) (r : RunList) (w : Nat) (x : Seq), Reached s q 0x30 r w ∧ seqOf s (qPart q) (fld w 223 192) = some x ∧ x.cancelled = false) ∧
    (∃ (q : Nat) (s : State) (r : RunList) (w : Nat) (x : Seq), Reached s q 0x31 r w ∧ seqOf s (qPart q) (fld w 223 192) = some x ∧ x.cancelled = false) ∧
    (∃ (q : Nat) (s : State) (r : RunList) (w : Nat) (x : Seq), Reached s q 0x32 r w ∧ seqOf s (qPart q) (fld w 223 192) = some x ∧ x.cancelled = false ∧
      ((fld w 191 190 = 2 → (linkOfTarget s (qPart q)).isSome = true))) :=
  ⟨⟨0, (reach 0 [cmd 0x02 [(9, 32, 192)]]), (listRun (reach 0 [cmd 0x02 [(9, 32, 192)]]) 0), (listWord (reach 0 [cmd 0x02 [(9, 32, 192)]]) 0),
     ⟨by decide +kernel, by decide +kernel, by decide +kernel, by decide +kernel, by decide +kernel, by decide +kernel⟩, by decide +kernel, by decide +kernel⟩,
   ⟨0, (reach 0 [cmd 0x03 [(9, 32, 192)]] (withSeq {})), (listRun (reach 0 [cmd 0x03 [(9, 32, 192)]] (withSeq {})) 0), (listWord (reach 0 [cmd 0x03 [(9, 32,
     192)]] (withSeq {})) 0), ⟨by decide +kernel, by decide +kernel, by decide +kernel, by decide +kernel, by decide +kernel, by decide +kernel⟩,
     by decide +kernel, by decide +kernel⟩,
   ⟨3, (reach 3 [cmd 0x30 [(9, 32, 192), (0, 32, 160), (64, 7, 153), (0x3F800000, 32, 121)]] (withSeq {})), (listRun (reach 3 [cmd 0x30 [(9, 32, 192), (0, 32,
     160), (64, 7, 153), (0x3F800000, 32, 121)]] (withSeq {})) 3), (listWord (reach 3 [cmd 0x30 [(9, 32, 192), (0, 32, 160), (64, 7, 153), (0x3F800000, 32,
     121)]] (withSeq {})) 3), ((seqOf (reach 3 [cmd 0x30 [(9, 32, 192), (0, 32, 160), (64, 7, 153), (0x3F800000, 32,
     121)]] (withSeq {})) (qPart 3) (fld (listWord (reach 3 [cmd 0x30 [(9, 32, 192), (0, 32, 160), (64, 7, 153), (0x3F800000, 32,
     121)]] (withSeq {})) 3) 223 192)).get (by decide +kernel)), ⟨by decide +kernel, by decide +kernel, by decide +kernel, by decide +kernel,
     by decide +kernel, by decide +kernel⟩, (Option.some_get _).symm, by decide +kernel⟩,
   ⟨3, (reach 3 [cmd 0x31 [(9, 32, 192), (2 ^ 64 - 1, 64, 128)]] (withSeq {})), (listRun (reach 3 [cmd 0x31 [(9, 32, 192), (2 ^ 64 - 1, 64,
     128)]] (withSeq {})) 3), (listWord (reach 3 [cmd 0x31 [(9, 32, 192), (2 ^ 64 - 1, 64, 128)]] (withSeq {})) 3), ((seqOf (reach 3 [cmd 0x31 [(9, 32, 192),
     (2 ^ 64 - 1, 64, 128)]] (withSeq {})) (qPart 3) (fld (listWord (reach 3 [cmd 0x31 [(9, 32, 192), (2 ^ 64 - 1, 64,
     128)]] (withSeq {})) 3) 223 192)).get (by decide +kernel)), ⟨by decide +kernel, by decide +kernel, by decide +kernel, by decide +kernel,
     by decide +kernel, by decide +kernel⟩, (Option.some_get _).symm, by decide +kernel⟩,
   ⟨3, (reach 3 [cmd 0x32 [(9, 32, 192), (1, 2, 190)]] (withSeq {})), (listRun (reach 3 [cmd 0x32 [(9, 32, 192), (1, 2, 190)]] (withSeq {})) 3),
     (listWord (reach 3 [cmd 0x32 [(9, 32, 192), (1, 2, 190)]] (withSeq {})) 3), ((seqOf (reach 3 [cmd 0x32 [(9, 32, 192), (1, 2,
     190)]] (withSeq {})) (qPart 3) (fld (listWord (reach 3 [cmd 0x32 [(9, 32, 192), (1, 2, 190)]] (withSeq {})) 3) 223 192)).get (by decide +kernel)),
     ⟨by decide +kernel, by decide +kernel, by decide +kernel, by decide +kernel, by decide +kernel, by decide +kernel⟩, (Option.some_get _).symm,
     by decide +kernel, by decide +kernel⟩⟩

/-- The hypotheses of `Obligations.FinishedCommandOutsideAGroup` are met, clause by clause. -/
theorem witness_FinishedCommandOutsideAGroup : ∃ (s : State) (u : State) (q : Nat) (e : Nat) (res : List W256), isMaster u (qPart q) = false :=
  ⟨s0, s0, 0, 0x0207, ([]), by decide +kernel⟩

end Sys2Proof.Tests
end

