-- ==== Sys2Proof/Tests/Witness2.lean ====
section
/-! SUPPORT. Concrete states and operands that meet the hypotheses of the statements, part 2. -/
namespace Sys2Proof.Tests
open Sys2Proof Sys2Proof.Machine
set_option maxRecDepth 4000
set_option Elab.async false

/-- The hypotheses of `Obligations.PageEngineCommands` are met, clause by clause. -/
theorem witness_PageEngineCommands :
    (∃ (q : Nat) (s : State) (r : RunList) (w : Nat) (x : Seq), Reached s q 0x20 r w ∧ stepActive s (qPart q) = false ∧ pageWaits s (qPart q) w = false ∧
      pageRefusal s (qPart q) w = none ∧ seqOf s (qPart q) (fld w 223 192) = some x ∧ fld w 183 168 ≤ (freeSets s (qPart q) (fld w 191 184)).length ∧
      (table x (fld w 191 184)).length + fld w 183 168 ≤ (part s (qPart q)).place.kv.maxent) ∧
    (∃ (q : Nat) (s : State) (r : RunList) (w : Nat) (x : Seq), Reached s q 0x21 r w ∧ stepActive s (qPart q) = false ∧ pageWaits s (qPart q) w = false ∧
      pageRefusal s (qPart q) w = none ∧ seqOf s (qPart q) (fld w 223 192) = some x ∧ x.len ≤ fld w 183 152) ∧
    (∃ (q : Nat) (s : State) (r : RunList) (w : Nat) (n : Nat) (x : Seq), Reached s q 0x22 r w ∧ stepActive s (qPart q) = false ∧
      pageWaits s (qPart q) w = false ∧ pageRefusal s (qPart q) w = none ∧ seqOf s (qPart q) (fld w 223 192) = some x ∧
      pageInPool (part s (qPart q)).place (fld w 151 120) = true ∧ setOfPage (kvGroup (part s (qPart q)).place (fld w 191 184)) (fld w 151 120) = some n ∧
      fld w 183 152 ≤ (table x (fld w 191 184)).length ∧ ((fld w 183 152 = (table x (fld w 191 184)).length →
      (table x (fld w 191 184)).length < (part s (qPart q)).place.kv.maxent))) ∧
    (∃ (q : Nat) (s : State) (r : RunList) (w : Nat) (x : Seq) (y : Seq), Reached s q 0x23 r w ∧ stepActive s (qPart q) = false ∧
      pageWaits s (qPart q) w = false ∧ pageRefusal s (qPart q) w = none ∧ seqOf s (qPart q) (fld w 223 192) = some x ∧
      seqOf s (qPart q) (fld w 191 160) = some y ∧ x.len = 0 ∧ ((∀ g, g < kvNgroup (part s (qPart q)).place → table x g = [])) ∧ fld w 159 128 ≤ y.len) :=
  ⟨⟨2, (reach 2 [cmd 0x20 [(9, 32, 192), (0, 8, 184), (4, 16, 168)]] (withSeq {})), (listRun (reach 2 [cmd 0x20 [(9, 32, 192), (0, 8, 184), (4, 16,
     168)]] (withSeq {})) 2), (listWord (reach 2 [cmd 0x20 [(9, 32, 192), (0, 8, 184), (4, 16, 168)]] (withSeq {})) 2), ((seqOf (reach 2 [cmd 0x20 [(9, 32,
     192), (0, 8, 184), (4, 16, 168)]] (withSeq {})) (qPart 2) (fld (listWord (reach 2 [cmd 0x20 [(9, 32, 192), (0, 8, 184), (4, 16,
     168)]] (withSeq {})) 2) 223 192)).get (by decide +kernel)), ⟨by decide +kernel, by decide +kernel, by decide +kernel, by decide +kernel,
     by decide +kernel, by decide +kernel⟩, by decide +kernel, by decide +kernel, by decide +kernel, (Option.some_get _).symm, by decide +kernel,
     by decide +kernel⟩,
   ⟨2, (reach 2 [cmd 0x21 [(9, 32, 192), (0, 8, 184), (0, 32, 152)]] (withSeq {})), (listRun (reach 2 [cmd 0x21 [(9, 32, 192), (0, 8, 184), (0, 32,
     152)]] (withSeq {})) 2), (listWord (reach 2 [cmd 0x21 [(9, 32, 192), (0, 8, 184), (0, 32, 152)]] (withSeq {})) 2), ((seqOf (reach 2 [cmd 0x21 [(9, 32,
     192), (0, 8, 184), (0, 32, 152)]] (withSeq {})) (qPart 2) (fld (listWord (reach 2 [cmd 0x21 [(9, 32, 192), (0, 8, 184), (0, 32,
     152)]] (withSeq {})) 2) 223 192)).get (by decide +kernel)), ⟨by decide +kernel, by decide +kernel, by decide +kernel, by decide +kernel,
     by decide +kernel, by decide +kernel⟩, by decide +kernel, by decide +kernel, by decide +kernel, (Option.some_get _).symm, by decide +kernel⟩,
   ⟨2, (reach 2 [cmd 0x22 [(9, 32, 192), (0, 8, 184), (0, 32, 152), (3, 32, 120)]] (withSeq {})), (listRun (reach 2 [cmd 0x22 [(9, 32, 192), (0, 8, 184), (0,
     32, 152), (3, 32, 120)]] (withSeq {})) 2), (listWord (reach 2 [cmd 0x22 [(9, 32, 192), (0, 8, 184), (0, 32, 152), (3, 32, 120)]] (withSeq {})) 2), 3,
     ((seqOf (reach 2 [cmd 0x22 [(9, 32, 192), (0, 8, 184), (0, 32, 152), (3, 32, 120)]] (withSeq {})) (qPart 2) (fld (listWord (reach 2 [cmd 0x22 [(9, 32,
     192), (0, 8, 184), (0, 32, 152), (3, 32, 120)]] (withSeq {})) 2) 223 192)).get (by decide +kernel)), ⟨by decide +kernel, by decide +kernel,
     by decide +kernel, by decide +kernel, by decide +kernel, by decide +kernel⟩, by decide +kernel, by decide +kernel, by decide +kernel,
     (Option.some_get _).symm, by decide +kernel, by decide +kernel, by decide +kernel, by decide +kernel⟩,
   ⟨2, (reach 2 [cmd 0x23 [(9, 32, 192), (8, 32, 160), (64, 32, 128)]] twoSeqs), (listRun (reach 2 [cmd 0x23 [(9, 32, 192), (8, 32, 160), (64, 32,
     128)]] twoSeqs) 2), (listWord (reach 2 [cmd 0x23 [(9, 32, 192), (8, 32, 160), (64, 32, 128)]] twoSeqs) 2), ((seqOf (reach 2 [cmd 0x23 [(9, 32, 192), (8,
     32, 160), (64, 32, 128)]] twoSeqs) (qPart 2) (fld (listWord (reach 2 [cmd 0x23 [(9, 32, 192), (8, 32, 160), (64, 32,
     128)]] twoSeqs) 2) 223 192)).get (by decide +kernel)), ((seqOf (reach 2 [cmd 0x23 [(9, 32, 192), (8, 32, 160), (64, 32,
     128)]] twoSeqs) (qPart 2) (fld (listWord (reach 2 [cmd 0x23 [(9, 32, 192), (8, 32, 160), (64, 32, 128)]] twoSeqs) 2) 191 160)).get (by decide +kernel)),
     ⟨by decide +kernel, by decide +kernel, by decide +kernel, by decide +kernel, by decide +kernel, by decide +kernel⟩, by decide +kernel, by decide +kernel,
     by decide +kernel, (Option.some_get _).symm, (Option.some_get _).symm, by decide +kernel, by decide +kernel, by decide +kernel⟩⟩

/-- The hypotheses of `Obligations.RetrieverCommands` are met, clause by clause. -/
theorem witness_RetrieverCommands :
    (∃ (q : Nat) (s : State) (r : RunList) (w : Nat), Reached s q 0x10 r w ∧ xferHolds s (qPart q) (fld w 175 128) (fld w 127 96) = false ∧
      xferRefusal s (qPart q) (fld w 175 128) (fld w 127 96) = none ∧ pvaBad s (qPart q) (fld w 223 176) (fld w 127 96) = false ∧
      dstBad s (qPart q) (fld w 175 128) (fld w 127 96) = false) ∧
    (∃ (q : Nat) (s : State) (r : RunList) (w : Nat) (x : Seq), Reached s q 0x12 r w ∧ bitAt w 223 = false ∧ seqOf s (qPart q) (fld w 222 191) = some x ∧
      x.cancelled = false ∧ seqBusy s (qPart q) (fld w 222 191) = false ∧
      chkptFits (part s (qPart q)).place (fld w 190 143) (chkptBytes (part s (qPart q)).place x.len) = true ∧
      ((chkptPages (part s (qPart q)).place (fun g i => (table x g).getD i 0) x.len).any fun e => pvaBad s (qPart q) (4 * 2 ^ 44 + e.1 * pageStride (part s (qPart q)).place) e.2) = false) :=
  ⟨⟨1, (reach 1 [cmd 0x10 [(0, 48, 176), (2 * 2 ^ 44, 48, 128), (4, 32, 96)]]), (listRun (reach 1 [cmd 0x10 [(0, 48, 176), (2 * 2 ^ 44, 48, 128), (4, 32,
     96)]]) 1), (listWord (reach 1 [cmd 0x10 [(0, 48, 176), (2 * 2 ^ 44, 48, 128), (4, 32, 96)]]) 1), ⟨by decide +kernel, by decide +kernel,
     by decide +kernel, by decide +kernel, by decide +kernel, by decide +kernel⟩, by decide +kernel, by decide +kernel, by decide +kernel, by decide +kernel⟩,
   ⟨1, (reach 1 [cmd 0x12 [(9, 32, 191), (2 * 2 ^ 44, 48, 143)]] (withSeq {})), (listRun (reach 1 [cmd 0x12 [(9, 32, 191), (2 * 2 ^ 44, 48,
     143)]] (withSeq {})) 1), (listWord (reach 1 [cmd 0x12 [(9, 32, 191), (2 * 2 ^ 44, 48, 143)]] (withSeq {})) 1), ((seqOf (reach 1 [cmd 0x12 [(9, 32, 191),
     (2 * 2 ^ 44, 48, 143)]] (withSeq {})) (qPart 1) (fld (listWord (reach 1 [cmd 0x12 [(9, 32, 191), (2 * 2 ^ 44, 48,
     143)]] (withSeq {})) 1) 222 191)).get (by decide +kernel)), ⟨by decide +kernel, by decide +kernel, by decide +kernel, by decide +kernel,
     by decide +kernel, by decide +kernel⟩, by decide +kernel, (Option.some_get _).symm, by decide +kernel, by decide +kernel, by decide +kernel,
     by decide +kernel⟩⟩

/-- The hypotheses of `Obligations.CommandsHeldToTheBoundary` are met, clause by clause. -/
theorem witness_CommandsHeldToTheBoundary : ∃ (q : Nat) (op : Nat) (s : State) (r : RunList) (w : Nat) (c : Instr), Reached s q op r w ∧
  stepActive s (qPart q) = true ∧ (((c = .seqclose q ∧ op = 0x03 ∧ (seqOf s (qPart q) (fld w 223 192)).isSome = true ∧
  seqBusy s (qPart q) (fld w 223 192) = false) ∨ (c = .palloc q ∧ op = 0x20 ∧ pageWaits s (qPart q) w = false ∧
  pageRefusal s (qPart q) w = none) ∨ (c = .pfree q ∧ op = 0x21 ∧ pageWaits s (qPart q) w = false ∧ pageRefusal s (qPart q) w = none) ∨ (c = .ptedit q ∧
  op = 0x22 ∧ pageWaits s (qPart q) w = false ∧ pageRefusal s (qPart q) w = none) ∨ (c = .pshare q ∧ op = 0x23 ∧ pageWaits s (qPart q) w = false ∧
  pageRefusal s (qPart q) w = none) ∨ (c = .chkptRestore q ∧ op = 0x12 ∧ bitAt w 223 = true ∧ seqOf s (qPart q) (fld w 222 191) = none ∧
  liveCount s (qPart q) < 65536) ∨ (c = .xfer q ∧ op = 0x10 ∧ xferHolds s (qPart q) (fld w 175 128) (fld w 127 96) = true ∧
  xferRefusal s (qPart q) (fld w 175 128) (fld w 127 96) = none))) :=
  ⟨2, 0x20, (reach 2 [cmd 0x20 [(9, 32, 192), (0, 8, 184), (4, 16, 168)]] (withSeq {} (stepping))), (listRun (reach 2 [cmd 0x20 [(9, 32, 192), (0, 8, 184),
    (4, 16, 168)]] (withSeq {} (stepping))) 2), (listWord (reach 2 [cmd 0x20 [(9, 32, 192), (0, 8, 184), (4, 16, 168)]] (withSeq {} (stepping))) 2),
    (.palloc 2), ⟨by decide +kernel, by decide +kernel, by decide +kernel, by decide +kernel, by decide +kernel, by decide +kernel⟩, by decide +kernel,
    by decide +kernel⟩

/-- The hypotheses of `Obligations.StepIsDispatched` are met, clause by clause. -/
theorem witness_StepIsDispatched :
    (∃ (q : Nat) (s : State) (r : RunList) (w : Nat) (bs : List SlotB) (pay : List Nat), Reached s q 0x01 r w ∧ stepReady s (qPart q) = true ∧
      isMaster s (qPart q) = false ∧ pay = payload (r.lst.words.map (·.toNat)) r.pos (cmdNpay w) ∧ stepRefusal s (qPart q) (fld w 223 220) pay = none ∧
      stallReason s (qPart q) = false ∧ bs = (List.range (pay.length / 4)).map (bindOf s (qPart q) pay) ∧ bs.all (·.masked) = false) ∧
    (∃ (q : Nat) (s : State) (r : RunList) (w : Nat) (e : Nat) (res : List W256), Reached s q 0x01 r w ∧ stepReady s (qPart q) = true ∧
      isMaster s (qPart q) = false ∧ stepRefusal s (qPart q) (fld w 223 220) (payload (r.lst.words.map (·.toNat)) r.pos (cmdNpay w)) = some (e, res)) :=
  ⟨⟨0, stepAt, (listRun stepAt 0), (listWord stepAt 0), stepSlots, stepPay, ⟨by decide +kernel, by decide +kernel, by decide +kernel, by decide +kernel,
     by decide +kernel, by decide +kernel⟩, by decide +kernel, by decide +kernel, by decide +kernel, by decide +kernel, by decide +kernel, by decide +kernel,
     by decide +kernel⟩,
   ⟨0, (reach 0 stepWords), (listRun (reach 0 stepWords) 0), (listWord (reach 0 stepWords) 0),
     (((stepRefusal (reach 0 stepWords) (qPart 0) (fld (listWord (reach 0 stepWords) 0) 223 220) (payload ((listRun (reach 0 stepWords) 0).lst.words.map (·.toNat)) (listRun (reach 0 stepWords) 0).pos (cmdNpay (listWord (reach 0 stepWords) 0)))).get (by decide +kernel)).1),
     (((stepRefusal (reach 0 stepWords) (qPart 0) (fld (listWord (reach 0 stepWords) 0) 223 220) (payload ((listRun (reach 0 stepWords) 0).lst.words.map (·.toNat)) (listRun (reach 0 stepWords) 0).pos (cmdNpay (listWord (reach 0 stepWords) 0)))).get (by decide +kernel)).2),
     ⟨by decide +kernel, by decide +kernel, by decide +kernel, by decide +kernel, by decide +kernel, by decide +kernel⟩, by decide +kernel, by decide +kernel,
     by decide +kernel⟩⟩

/-- The hypotheses of `Obligations.StepEvents` are met, clause by clause. -/
theorem witness_StepEvents :
    (∃ (t : Nat) (p : Nat) (pti : Nat) (base : Nat) (s : State) (r : StepRun), tileOk t = true ∧ ownerOf s t = some (p, pti) ∧ stepOf s p = some r ∧
      listBase (part s p).place pti r.prog = some base ∧ r.launched.contains t = false ∧ r.committed = false ∧ tileDark s t = false) ∧
    (∃ (p : Nat) (s : State) (r : StepRun), p < 16 ∧ stepOf s p = some r ∧ r.committed = true ∧ r.copies = [] ∧ r.group = none) ∧
    (∃ (p : Nat) (s : State) (r : StepRun), r.held = []) ∧
    (∃ (p : Nat) (s : State), p < 16 ∧ (group s p).waiting = []) ∧
    (∃ (p : Nat) (s : State), p < 16 ∧ (part s p).holdTables = true ∧ (part s p).boundDue = false ∧ (group s p).waiting = []) ∧
    (∃ (t : Nat) (s : State), tileOk t = true ∧ ownerOf s t = none) :=
  ⟨⟨0, (((ownerOf stepping 0).get (by decide +kernel)).1), (((ownerOf stepping 0).get (by decide +kernel)).2),
     ((listBase (part stepping (((ownerOf stepping 0).get (by decide +kernel)).1)).place (((ownerOf stepping 0).get (by decide +kernel)).2) ((stepOf stepping (((ownerOf stepping 0).get (by decide +kernel)).1)).get (by decide +kernel)).prog).get (by decide +kernel)),
     stepping, ((stepOf stepping (((ownerOf stepping 0).get (by decide +kernel)).1)).get (by decide +kernel)), by decide +kernel, by decide +kernel,
     (Option.some_get _).symm, (Option.some_get _).symm, by decide +kernel, by decide +kernel, by decide +kernel⟩,
   ⟨0, (stepping { step0 with committed := true }), ((stepOf (stepping { step0 with committed := true }) 0).get (by decide +kernel)), by decide +kernel,
     (Option.some_get _).symm, by decide +kernel, by decide +kernel, by decide +kernel⟩,
   ⟨0, s0, step0, by decide +kernel⟩,
   ⟨0, s0, by decide +kernel, by decide +kernel⟩,
   ⟨0, (withPart fun x => { x with holdTables := true }), by decide +kernel, by decide +kernel, by decide +kernel, by decide +kernel⟩,
   ⟨32, s0, by decide +kernel, by decide +kernel⟩⟩

/-- The hypotheses of `Obligations.DebugCommands` are met, clause by clause. -/
theorem witness_DebugCommands :
    (∃ (q : Nat) (s : State) (r : RunList) (w : Nat), Reached s q 0x70 r w ∧ debugOn s (qPart q) = true) ∧
    (∃ (q : Nat) (s : State) (r : RunList) (w : Nat), Reached s q 0x71 r w ∧ debugOn s (qPart q) = true) ∧
    (∃ (q : Nat) (s : State) (r : RunList) (w : Nat), debugOn s (qPart q) = false ∧ Reached s q 0x70 r w) ∧
    (∃ (q : Nat) (s : State) (r : RunList) (w : Nat), debugOn s (qPart q) = false ∧ Reached s q 0x71 r w) :=
  ⟨⟨7, (reach 7 [cmd 0x70 [(0xFFF, 12, 212)]] debugOnState), (listRun (reach 7 [cmd 0x70 [(0xFFF, 12, 212)]] debugOnState) 7),
     (listWord (reach 7 [cmd 0x70 [(0xFFF, 12, 212)]] debugOnState) 7), ⟨by decide +kernel, by decide +kernel, by decide +kernel, by decide +kernel,
     by decide +kernel, by decide +kernel⟩, by decide +kernel⟩,
   ⟨7, (reach 7 [cmd 0x71 [(0, 48, 176), (32, 16, 160)]] debugOnState), (listRun (reach 7 [cmd 0x71 [(0, 48, 176), (32, 16, 160)]] debugOnState) 7),
     (listWord (reach 7 [cmd 0x71 [(0, 48, 176), (32, 16, 160)]] debugOnState) 7), ⟨by decide +kernel, by decide +kernel, by decide +kernel,
     by decide +kernel, by decide +kernel, by decide +kernel⟩, by decide +kernel⟩,
   ⟨7, (reach 7 [cmd 0x70 [(0xFFF, 12, 212)]]), (listRun (reach 7 [cmd 0x70 [(0xFFF, 12, 212)]]) 7), (listWord (reach 7 [cmd 0x70 [(0xFFF, 12, 212)]]) 7),
     by decide +kernel, ⟨by decide +kernel, by decide +kernel, by decide +kernel, by decide +kernel, by decide +kernel, by decide +kernel⟩⟩,
   ⟨7, (reach 7 [cmd 0x71 [(0, 48, 176), (32, 16, 160)]]), (listRun (reach 7 [cmd 0x71 [(0, 48, 176), (32, 16, 160)]]) 7), (listWord (reach 7 [cmd 0x71 [(0,
     48, 176), (32, 16, 160)]]) 7), by decide +kernel, ⟨by decide +kernel, by decide +kernel, by decide +kernel, by decide +kernel, by decide +kernel,
     by decide +kernel⟩⟩⟩

/-- The hypotheses of `Obligations.ReadRequests` are met, clause by clause. -/
theorem witness_ReadRequests :
    (∃ (ses : Nat) (n : Nat) (items : List Nat) (s : State) (l : List (Nat × Nat × Nat)), Serves s ses 1 ∧ readItems s ses items 0 = .inr l) ∧
    (∃ (ses : Nat) (n : Nat) (r : Nat) (i : Nat) (w : Nat) (items : List Nat) (s : State), Serves s ses 1 ∧ readItems s ses items 0 = .inl (r, i, w)) ∧
    (∃ (ses : Nat) (n : Nat) (items : List Nat) (s : State) (l : List (Nat × Nat × Nat)), Serves s ses 3 ∧ describeItems s ses items 0 = .inr l) ∧
    (∃ (ses : Nat) (n : Nat) (a : Nat) (b : Nat) (s : State), Serves s ses 4) ∧
    (∃ (ses : Nat) (n : Nat) (c : Nat) (s : State), Serves s ses 5) :=
  ⟨⟨1, 0, ([]), s0, _, ⟨by decide +kernel, by decide +kernel, by decide +kernel, by decide +kernel⟩, rfl⟩,
   ⟨1, 0, 0x0128, 0, (put 0xFFFF 16 48), ([put 0xFFFF 16 48]), s0, ⟨by decide +kernel, by decide +kernel, by decide +kernel, by decide +kernel⟩,
     by decide +kernel⟩,
   ⟨1, 0, ([]), s0, _, ⟨by decide +kernel, by decide +kernel, by decide +kernel, by decide +kernel⟩, rfl⟩,
   ⟨1, 0, 0, 0, s0, ⟨by decide +kernel, by decide +kernel, by decide +kernel, by decide +kernel⟩⟩,
   ⟨1, 0, 0, s0, ⟨by decide +kernel, by decide +kernel, by decide +kernel, by decide +kernel⟩⟩⟩

/-- The hypotheses of `Obligations.ReadsNeverChangeTheDictionary` are met, clause by clause. -/
theorem witness_ReadsNeverChangeTheDictionary : ∃ (c : Instr) (s : State) (t : State) (ses : Nat) (n : Nat) (a : Nat) (b : Nat) (items : List Nat),
  (c = .read ses n items ∨ c = .describe ses n items ∨ c = .list ses n a b) ∧ exec c s = .next t :=
  ⟨(.list 1 0 0 65535), s0, _, 1, 0, 0, 65535, ([]), .inr (.inr rfl), rfl⟩

/-- The hypotheses of `Obligations.RefusedRequestsHaveNoEffect` are met, clause by clause. -/
theorem witness_RefusedRequestsHaveNoEffect : ∃ (ses : Nat) (n : Nat) (r : Nat) (i : Nat) (o : Option Nat) (x : WriteItem) (items : List WriteItem) (s : State),
  Serves s ses 2 ∧ itemsFail s ses (items.length == 1) items 0 = some (r, o, i, x) :=
  ⟨1, 0, 0x0128, 0, none, ({ head := 0, value := [] }), ([{ head := 0, value := [] }]), s0, ⟨by decide +kernel, by decide +kernel, by decide +kernel,
    by decide +kernel⟩, by decide +kernel⟩

/-- The hypotheses of `Obligations.WriteRequests` are met, clause by clause. -/
theorem witness_WriteRequests :
    (∃ (ses : Nat) (n : Nat) (items : List WriteItem) (s : State) (t : State) (now : Bool), Serves s ses 2 ∧
      itemsFail s ses (items.length == 1) items 0 = none ∧ persistBytes items ≤ 3968 ∧ applyItems s ses n items = .inr (t, now)) ∧
    (∃ (ses : Nat) (n : Nat) (idx : Nat) (el : Nat) (v : Nat) (s : State) (d : ObjDesc), objDesc idx el = some d ∧ d.selector = true ∧ d.enable = false ∧
      idx < 65536 ∧ el < 256 ∧ Writes s ses idx el v) ∧
    (∃ (ses : Nat) (n : Nat) (k : Nat) (v : Nat) (s : State), k < 512 ∧ v < 65536 ∧ Writes s ses (0x9100 + k / 256) (k % 256) v) ∧
    (∃ (ses : Nat) (n : Nat) (k : Nat) (s : State), k < 512 ∧ Writes s ses (0x9200 + k / 256) (k % 256) 16) :=
  ⟨⟨1, 0, ([itemFor 0x2400 11 5]), s0, _, _, ⟨by decide +kernel, by decide +kernel, by decide +kernel, by decide +kernel⟩, by decide +kernel,
     by decide +kernel, rfl⟩,
   ⟨1, 0, 0x6010, 0, 47, s0, ((objDesc 0x6010 0).get (by decide +kernel)), (Option.some_get _).symm, by decide +kernel, by decide +kernel, by decide +kernel,
     by decide +kernel, ⟨⟨by decide +kernel, by decide +kernel, by decide +kernel, by decide +kernel⟩, by decide +kernel⟩⟩,
   ⟨1, 0, 511, 65520, s0, by decide +kernel, by decide +kernel, ⟨⟨by decide +kernel, by decide +kernel, by decide +kernel, by decide +kernel⟩,
     by decide +kernel⟩⟩,
   ⟨1, 0, 511, s0, by decide +kernel, ⟨⟨by decide +kernel, by decide +kernel, by decide +kernel, by decide +kernel⟩, by decide +kernel⟩⟩⟩

/-- The hypotheses of `Obligations.EnableRequests` are met, clause by clause. -/
theorem witness_EnableRequests :
    (∃ (ses : Nat) (n : Nat) (p : Nat) (s : State), p < 16 ∧ Writes s ses (pidx 0x51 p) 2 1 ∧ (part s p).enable = false) ∧
    (∃ (p : Nat) (s : State) (c : CheckRun), p < 16 ∧ (part s p).check = some c ∧ c.reason ≠ 0) ∧
    (∃ (p : Nat) (s : State) (c : CheckRun), p < 16 ∧ (part s p).check = some c ∧ c.reason = 0 ∧
      (govD 0 s p (pidx 0x63 p) 1 = 0 ∨ govD 0 s p (pidx 0x63 p) 2 ≠ 2)) ∧
    (∃ (p : Nat) (s : State) (c : CheckRun), (part s p).check = some c) ∧
    (∃ (ses : Nat) (n : Nat) (p : Nat) (s : State), p < 16 ∧ Writes s ses (pidx 0x51 p) 2 0 ∧ (part s p).enable = true ∧ (part s p).check = none) ∧
    (∃ (ses : Nat) (n : Nat) (u : Nat) (m : Bool) (s : State), Writes s ses (if m then 0x2010 else 0x6010) 1 1 ∧
      u = selValue s ses (if m then 0x2010 else 0x6010) 0 ∧ objD 1 s (if m then 0x2010 else 0x6010) 1 u = 0 ∧
      portCheck s (if m then 0x2010 else 0x6010) u = none) ∧
    (∃ (ses : Nat) (n : Nat) (th : Bool) (s : State), Writes s ses (if th then 0x4031 else 0x4030) 1 1 ∧ enableBit s (if th then 0x4031 else 0x4030) 1 0 = 0 ∧
      policyCheck s (if th then 0x4031 else 0x4030) = none) :=
  ⟨⟨1, 0, 15, loaded15, by decide +kernel, ⟨⟨by decide +kernel, by decide +kernel, by decide +kernel, by decide +kernel⟩, by decide +kernel⟩,
     by decide +kernel⟩,
   ⟨15, (checking (checkOf 0x0301)), (checkOf 0x0301), by decide +kernel, by decide +kernel, by decide +kernel⟩,
   ⟨15, (checking (checkOf 0)), (checkOf 0), by decide +kernel, by decide +kernel, by decide +kernel, by decide +kernel⟩,
   ⟨15, (checking (checkOf 0)), (checkOf 0), by decide +kernel⟩,
   ⟨1, 0, 0, (withPart fun x => { x with enable := true }), by decide +kernel, ⟨⟨by decide +kernel, by decide +kernel, by decide +kernel, by decide +kernel⟩,
     by decide +kernel⟩, by decide +kernel, by decide +kernel⟩,
   ⟨1, 0, (selValue ({ s0 with dict := [(objKey 0x6010 1 0, 0)] }) 1 (if false then 0x2010 else 0x6010) 0), false,
     ({ s0 with dict := [(objKey 0x6010 1 0, 0)] }), ⟨⟨by decide +kernel, by decide +kernel, by decide +kernel, by decide +kernel⟩, by decide +kernel⟩, rfl,
     by decide +kernel, by decide +kernel⟩,
   ⟨1, 0, true, ({ s0 with dict := [(objKey 0x4031 1 0, 0)] }), ⟨⟨by decide +kernel, by decide +kernel, by decide +kernel, by decide +kernel⟩,
     by decide +kernel⟩, by decide +kernel, by decide +kernel⟩⟩

/-- The hypotheses of `Obligations.UnitRequests` are met, clause by clause. -/
theorem witness_UnitRequests :
    (∃ (ses : Nat) (n : Nat) (b : Nat) (s : State), Writes s ses 0x4002 6 1 ∧ b = selValue s ses 0x4002 0 ∧ (brick s b).st = 2) ∧
    (∃ (ses : Nat) (n : Nat) (b : Nat) (s : State), Writes s ses 0x4002 6 0 ∧ b = selValue s ses 0x4002 0 ∧ (brick s b).st = 3) ∧
    (∃ (ses : Nat) (n : Nat) (c : Nat) (s : State), Writes s ses 0x4100 11 1 ∧ c = selValue s ses 0x4100 0) ∧
    (∃ (ses : Nat) (n : Nat) (h : Nat) (s : State), h < 65536 ∧ Writes s ses 0x4011 9 h) ∧
    (∃ (ses : Nat) (n : Nat) (s : State), Writes s ses 0x4020 9 1) ∧
    (∃ (ses : Nat) (n : Nat) (k : Nat) (s : State), Writes s ses 0x7010 6 1 ∧ k = unitKey (selValue s ses 0x7010 0)) ∧
    (∃ (ses : Nat) (n : Nat) (t : Nat) (s : State), t < 65536 ∧ Writes s ses 0x7030 5 t) ∧
    (∃ (ses : Nat) (n : Nat) (t : Nat) (s : State), t < 65536 ∧ Writes s ses 0x7030 5 (65536 + t)) ∧
    (∃ (ses : Nat) (n : Nat) (c : Nat) (s : State), Writes s ses 0x7040 2 1 ∧ c = selValue s ses 0x7040 0 ∧ c < 2 ∧ (card s c).st < 3) :=
  ⟨⟨1, 0, (selValue bricksOn 1 0x4002 0), bricksOn, ⟨⟨by decide +kernel, by decide +kernel, by decide +kernel, by decide +kernel⟩, by decide +kernel⟩, rfl,
     by decide +kernel⟩,
   ⟨1, 0, (selValue ({ s0 with bricks := [(0, { st := 3 })] }) 1 0x4002 0), ({ s0 with bricks := [(0, { st := 3 })] }), ⟨⟨by decide +kernel,
     by decide +kernel, by decide +kernel, by decide +kernel⟩, by decide +kernel⟩, rfl, by decide +kernel⟩,
   ⟨1, 0, (selValue ({ s0 with blockSt := [(0, 2)], parts := [] }) 1 0x4100 0), ({ s0 with blockSt := [(0, 2)], parts := [] }), ⟨⟨by decide +kernel,
     by decide +kernel, by decide +kernel, by decide +kernel⟩, by decide +kernel⟩, rfl⟩,
   ⟨1, 0, 575, ({ s0 with spots := [(575, { off := 3 })] }), by decide +kernel, ⟨⟨by decide +kernel, by decide +kernel, by decide +kernel, by decide +kernel⟩,
     by decide +kernel⟩⟩,
   ⟨1, 0, ({ s0 with power := .hold, coolant := { s0.coolant with st := 3 } }), ⟨⟨by decide +kernel, by decide +kernel, by decide +kernel, by decide +kernel⟩,
     by decide +kernel⟩⟩,
   ⟨1, 0, (unitKey (selValue ({ s0 with kennel := { s0.kennel with units := [(unitKey 0, { st := 2 })] } }) 1 0x7010 0)),
     ({ s0 with kennel := { s0.kennel with units := [(unitKey 0, { st := 2 })] } }), ⟨⟨by decide +kernel, by decide +kernel, by decide +kernel,
     by decide +kernel⟩, by decide +kernel⟩, rfl⟩,
   ⟨1, 0, 32, s0, by decide +kernel, ⟨⟨by decide +kernel, by decide +kernel, by decide +kernel, by decide +kernel⟩, by decide +kernel⟩⟩,
   ⟨1, 0, 32, s0, by decide +kernel, ⟨⟨by decide +kernel, by decide +kernel, by decide +kernel, by decide +kernel⟩, by decide +kernel⟩⟩,
   ⟨1, 0, (selValue s0 1 0x7040 0), s0, ⟨⟨by decide +kernel, by decide +kernel, by decide +kernel, by decide +kernel⟩, by decide +kernel⟩, rfl,
     by decide +kernel, by decide +kernel⟩⟩

/-- The hypotheses of `Obligations.PowerTargets` are met, clause by clause. -/
theorem witness_PowerTargets :
    (∃ (ses : Nat) (n : Nat) (s : State), Serves s ses 2 ∧ hasMconfig s ses = true ∧ s.power = .ready) ∧
    (∃ (ses : Nat) (n : Nat) (s : State), Serves s ses 2 ∧ hasMconfig s ses = true ∧ s.power = .attended) ∧
    (∃ (ses : Nat) (n : Nat) (s : State), Serves s ses 2 ∧ hasMconfig s ses = true ∧ s.power ≠ .ready ∧ s.power ≠ .attended) ∧
    (∃ (ses : Nat) (n : Nat) (s : State), Serves s ses 2 ∧ hasMconfig s ses = false) :=
  ⟨⟨1, 0, s0, ⟨by decide +kernel, by decide +kernel, by decide +kernel, by decide +kernel⟩, by decide +kernel, by decide +kernel⟩,
   ⟨1, 0, ({ s0 with power := .attended }), ⟨by decide +kernel, by decide +kernel, by decide +kernel, by decide +kernel⟩, by decide +kernel,
     by decide +kernel⟩,
   ⟨1, 0, ({ s0 with power := .hold }), ⟨by decide +kernel, by decide +kernel, by decide +kernel, by decide +kernel⟩, by decide +kernel, by decide +kernel,
     by decide +kernel⟩,
   ⟨1, 0, ({ s0 with sessions := [(1, { host with rights := 0 })] }), ⟨by decide +kernel, by decide +kernel, by decide +kernel, by decide +kernel⟩,
     by decide +kernel⟩⟩

/-- The hypotheses of `Obligations.EventController` are met, clause by clause. -/
theorem witness_EventController :
    (∃ (k : Nat) (s : State), k < 512 ∧ s.power ≠ .off ∧ ((s.power = .standby → watched k = true)) ∧ evSensed s k = true) ∧
    (∃ (srv : Nat) (k : Nat) (s : State), srv < 2 ∧ cardsUp s = true ∧
      (s.events.filter fun e => decide (2 ≤ e.2.st) && e.2.target == srv).length < (if srv = 0 then 8 else 32) ∧ evNext s srv = some k) ∧
    (∃ (k : Nat) (s : State), k < 512 ∧ cardsUp s = true ∧ (evSrc s k).target = 0) ∧
    (∃ (ses : Nat) (n : Nat) (k : Nat) (s : State), Serves s ses 6 ∧ hasMconfig s ses = true ∧ 2 ≤ (evSrc s k).st ∧ (evSrc s k).target = 1) ∧
    (∃ (k : Nat) (s : State), (evSrc s k).st = 2) ∧
    (∃ (k : Nat) (s : State), (evSrc s k).st = 3) ∧
    (∃ (k : Nat) (s : State) (j : _), j ≠ k) :=
  ⟨⟨511, ({ s0 with events := [(511, { raw := true })], dict := [(evKey 511, 0x8000)] }), by decide +kernel, by decide +kernel, by decide +kernel,
     by decide +kernel⟩,
   ⟨1, 511, ({ s0 with events := [(511, { st := 1, target := 1 })] }), by decide +kernel, by decide +kernel, by decide +kernel, by decide +kernel⟩,
   ⟨511, s0, by decide +kernel, by decide +kernel, by decide +kernel⟩,
   ⟨1, 0, 511, ({ s0 with events := [(511, { st := 2, target := 1 })] }), ⟨by decide +kernel, by decide +kernel, by decide +kernel, by decide +kernel⟩,
     by decide +kernel, by decide +kernel, by decide +kernel⟩,
   ⟨511, ({ s0 with events := [(511, { st := 2, target := 1 })] }), by decide +kernel⟩,
   ⟨511, ({ s0 with events := [(511, { st := 3, target := 1 })] }), by decide +kernel⟩,
   ⟨511, s0, 510, by decide +kernel⟩⟩

/-- The hypotheses of `Obligations.BankCommandsRefused` are met, clause by clause. -/
theorem witness_BankCommandsRefused : ∃ (c : Instr) (q : Nat) (op : Nat) (s : State) (r : RunList) (w : Nat) (e : Nat) (k : Nat), (c, op) ∈ [(.program q,
  0x40), (.calibrate q, 0x41), (.disarm q, 0x43), (.refresh q, 0x44), (.retire q, 0x45)] ∧ Reached s q op r w ∧
  selRefusal s (qPart q) op (picked s q w) = some (e, k) :=
  ⟨(.program 4), 4, 0x40, (reach 4 [cmd 0x40 [(1, 1, 147)]] (banksIn { st := .retired })), (listRun (reach 4 [cmd 0x40 [(1, 1,
    147)]] (banksIn { st := .retired })) 4), (listWord (reach 4 [cmd 0x40 [(1, 1, 147)]] (banksIn { st := .retired })) 4), 0x0223, (bankKey 0 3 0),
    by decide +kernel, ⟨by decide +kernel, by decide +kernel, by decide +kernel, by decide +kernel, by decide +kernel, by decide +kernel⟩, by decide +kernel⟩

/-- The hypotheses of `Obligations.BankCommands` are met, clause by clause. -/
theorem witness_BankCommands :
    (∃ (q : Nat) (s : State) (r : RunList) (w : Nat), Reached s q 0x41 r w ∧ selRefusal s (qPart q) 0x41 (picked s q w) = none) ∧
    (∃ (q : Nat) (s : State) (u0 : State) (r : RunList) (w : Nat), Reached s q 0x44 r w ∧ selRefusal s (qPart q) 0x44 (picked s q w) = none ∧
      refreshAll (qPart q) .host s (picked s q w) [] = .inr u0) ∧
    (∃ (q : Nat) (s : State) (r : RunList) (w : Nat), Reached s q 0x43 r w ∧ selRefusal s (qPart q) 0x43 (picked s q w) = none) ∧
    (∃ (q : Nat) (s : State) (r : RunList) (w : Nat), Reached s q 0x45 r w ∧ selRefusal s (qPart q) 0x45 (picked s q w) = none) :=
  ⟨⟨4, (reach 4 [cmd 0x41 [(1, 1, 147)]] (banksIn { st := .programmed })), (listRun (reach 4 [cmd 0x41 [(1, 1, 147)]] (banksIn { st := .programmed })) 4),
     (listWord (reach 4 [cmd 0x41 [(1, 1, 147)]] (banksIn { st := .programmed })) 4), ⟨by decide +kernel, by decide +kernel, by decide +kernel,
     by decide +kernel, by decide +kernel, by decide +kernel⟩, by decide +kernel⟩,
   ⟨4, (reach 4 [cmd 0x44 []]), _, (listRun (reach 4 [cmd 0x44 []]) 4), (listWord (reach 4 [cmd 0x44 []]) 4), ⟨by decide +kernel, by decide +kernel,
     by decide +kernel, by decide +kernel, by decide +kernel, by decide +kernel⟩, by decide +kernel, rfl⟩,
   ⟨4, (reach 4 [cmd 0x43 [(1, 1, 147)]] armed), (listRun (reach 4 [cmd 0x43 [(1, 1, 147)]] armed) 4), (listWord (reach 4 [cmd 0x43 [(1, 1, 147)]] armed) 4),
     ⟨by decide +kernel, by decide +kernel, by decide +kernel, by decide +kernel, by decide +kernel, by decide +kernel⟩, by decide +kernel⟩,
   ⟨4, (reach 4 [cmd 0x45 [(1, 1, 147)]] (banksIn { st := .invalid })), (listRun (reach 4 [cmd 0x45 [(1, 1, 147)]] (banksIn { st := .invalid })) 4),
     (listWord (reach 4 [cmd 0x45 [(1, 1, 147)]] (banksIn { st := .invalid })) 4), ⟨by decide +kernel, by decide +kernel, by decide +kernel,
     by decide +kernel, by decide +kernel, by decide +kernel⟩, by decide +kernel⟩⟩

end Sys2Proof.Tests
end

