-- ==== Sys2Proof/Tests/Witness3.lean ====
section
/-! SUPPORT. Concrete states and operands that meet the hypotheses of the statements, part 3. -/
namespace Sys2Proof.Tests
open Sys2Proof Sys2Proof.Machine
set_option maxRecDepth 4000
set_option Elab.async false

/-- The hypotheses of `Obligations.SwapArmsOrExchanges` are met, clause by clause. -/
theorem witness_SwapArmsOrExchanges :
    (∃ (q : Nat) (s : State) (r : RunList) (w : Nat), Reached s q 0x42 r w ∧ selRefusal s (qPart q) 0x42 (picked s q w) = none ∧
      (part s (qPart q)).st ≠ .faulted ∧ ((∀ k, k ∈ picked s q w → (bankOf s k).st = .standby)) ∧ swapNow s (qPart q) = false) ∧
    (∃ (q : Nat) (s : State) (r : RunList) (w : Nat), Reached s q 0x42 r w ∧ selRefusal s (qPart q) 0x42 (picked s q w) = none ∧
      (part s (qPart q)).st ≠ .faulted ∧ ((∀ k, k ∈ picked s q w → (bankOf s k).st = .standby)) ∧ swapNow s (qPart q) = true ∧ (part s (qPart q)).swap = [] ∧
      ((∀ k, k ∈ picked s q w → sibling k ∉ picked s q w))) :=
  ⟨⟨4, (reach 4 [cmd 0x42 [(1, 1, 147)]] (swapReady (stepping))), (listRun (reach 4 [cmd 0x42 [(1, 1, 147)]] (swapReady (stepping))) 4),
     (listWord (reach 4 [cmd 0x42 [(1, 1, 147)]] (swapReady (stepping))) 4), ⟨by decide +kernel, by decide +kernel, by decide +kernel, by decide +kernel,
     by decide +kernel, by decide +kernel⟩, by decide +kernel, by decide +kernel, by decide +kernel, by decide +kernel⟩,
   ⟨4, (reach 4 [cmd 0x42 [(1, 1, 147)]] (swapReady s0)), (listRun (reach 4 [cmd 0x42 [(1, 1, 147)]] (swapReady s0)) 4), (listWord (reach 4 [cmd 0x42 [(1, 1,
     147)]] (swapReady s0)) 4), ⟨by decide +kernel, by decide +kernel, by decide +kernel, by decide +kernel, by decide +kernel, by decide +kernel⟩,
     by decide +kernel, by decide +kernel, by decide +kernel, by decide +kernel, by decide +kernel, by decide +kernel⟩⟩

/-- The hypotheses of `Obligations.BankQueries` are met, clause by clause. -/
theorem witness_BankQueries :
    (∃ (q : Nat) (s : State) (r : RunList) (w : Nat), Reached s q 0x46 r w ∧ fld w 146 145 = 0) ∧
    (∃ (q : Nat) (s : State) (r : RunList) (w : Nat), Reached s q 0x46 r w ∧ fld w 146 145 = 1) ∧
    (∃ (q : Nat) (s : State) (r : RunList) (w : Nat), Reached s q 0x46 r w ∧ fld w 146 145 = 2) :=
  ⟨⟨4, (reach 4 [cmd 0x46 [(1, 1, 147)]]), (listRun (reach 4 [cmd 0x46 [(1, 1, 147)]]) 4), (listWord (reach 4 [cmd 0x46 [(1, 1, 147)]]) 4),
     ⟨by decide +kernel, by decide +kernel, by decide +kernel, by decide +kernel, by decide +kernel, by decide +kernel⟩, by decide +kernel⟩,
   ⟨4, (reach 4 [cmd 0x46 [(1, 1, 147), (1, 2, 145), (2 * 2 ^ 44, 48, 93)]]), (listRun (reach 4 [cmd 0x46 [(1, 1, 147), (1, 2, 145), (2 * 2 ^ 44, 48,
     93)]]) 4), (listWord (reach 4 [cmd 0x46 [(1, 1, 147), (1, 2, 145), (2 * 2 ^ 44, 48, 93)]]) 4), ⟨by decide +kernel, by decide +kernel, by decide +kernel,
     by decide +kernel, by decide +kernel, by decide +kernel⟩, by decide +kernel⟩,
   ⟨4, (reach 4 [cmd 0x46 [(1, 1, 147), (2, 2, 145), (2 * 2 ^ 44, 48, 93)]]), (listRun (reach 4 [cmd 0x46 [(1, 1, 147), (2, 2, 145), (2 * 2 ^ 44, 48,
     93)]]) 4), (listWord (reach 4 [cmd 0x46 [(1, 1, 147), (2, 2, 145), (2 * 2 ^ 44, 48, 93)]]) 4), ⟨by decide +kernel, by decide +kernel, by decide +kernel,
     by decide +kernel, by decide +kernel, by decide +kernel⟩, by decide +kernel⟩⟩

/-- The hypotheses of `Obligations.BankEvents` are met, clause by clause. -/
theorem witness_BankEvents :
    (∃ (s : State) (e : Bool × List Nat), vpgmNext s = some e ∧ vpgmCovers s e.2 = true) ∧
    (∃ (s : State) (t : Nat) (a : Nat) (b : Nat) (cells : Nat) (slow : Nat) (pulses : Nat), badBank t a b = false ∧
      (bankOf s (bankKey t a b)).st = .programming ∧ (bankOf s (bankKey t a b)).openEntry = true ∧ cells = 0) ∧
    (∃ (s : State) (t : Nat) (a : Nat) (b : Nat) (cells : Nat) (slow : Nat) (pulses : Nat), badBank t a b = false ∧
      (bankOf s (bankKey t a b)).st = .programming ∧ (bankOf s (bankKey t a b)).openEntry = true ∧ cells ≠ 0) ∧
    (∃ (s : State) (t : Nat) (a : Nat) (b : Nat) (cells : Nat) (slow : Nat) (pulses : Nat), badBank t a b = false ∧
      (bankOf s (bankKey t a b)).st = .repairing ∧ (bankOf s (bankKey t a b)).openEntry = true ∧ cells = 0) ∧
    (∃ (s : State) (t : Nat) (a : Nat) (b : Nat) (cells : Nat) (slow : Nat) (pulses : Nat), badBank t a b = false ∧
      (bankOf s (bankKey t a b)).st = .repairing ∧ (bankOf s (bankKey t a b)).openEntry = true ∧ cells ≠ 0) ∧
    (∃ (s : State) (t : Nat) (a : Nat) (b : Nat) (f : FitTable), badBank t a b = false ∧ f.cols.contains noCorrection = false ∧
      (bankOf s (bankKey t a b)).st = .calibrating ∧ (bankOf s (bankKey t a b)).calInPlace = false) ∧
    (∃ (s : State) (t : Nat) (a : Nat) (b : Nat) (f : FitTable), badBank t a b = false ∧ f.cols.contains noCorrection = false ∧
      (bankOf s (bankKey t a b)).calInPlace = true) ∧
    (∃ (s : State) (t : Nat) (a : Nat) (b : Nat) (c : Instr), badBank t a b = false ∧ (c = .calFitDone t a b none ∨ c = .calTimeout t a b) ∧
      (bankOf s (bankKey t a b)).st = .calibrating) ∧
    (∃ (s : State) (t : Nat) (a : Nat) (b : Nat) (c : Instr), badBank t a b = false ∧ (c = .calFitDone t a b none ∨ c = .calTimeout t a b) ∧
      (bankOf s (bankKey t a b)).st = .inService ∧ (bankOf s (bankKey t a b)).calInPlace = true) ∧
    (∃ (s : State) (t : Nat) (a : Nat) (b : Nat) (cells : Nat) (slow : Nat) (pulses : Nat) (f : FitTable), badBank t a b = false ∧
      (bankOf s (bankKey t a b)).st = .repairing ∧ (bankOf s (bankKey t a b)).fitting = true ∧ f.cols.contains noCorrection = false) ∧
    (∃ (s : State) (t : Nat) (a : Nat) (b : Nat) (cells : Nat) (slow : Nat) (pulses : Nat), badBank t a b = false ∧
      (bankOf s (bankKey t a b)).st = .repairing ∧ (bankOf s (bankKey t a b)).fitting = true ∧ (bankOf s (bankKey t a b)).fitFails = 0) ∧
    (∃ (s : State) (t : Nat) (a : Nat) (b : Nat) (cells : Nat) (slow : Nat) (pulses : Nat), badBank t a b = false ∧
      (bankOf s (bankKey t a b)).st = .repairing ∧ (bankOf s (bankKey t a b)).fitting = true ∧ (bankOf s (bankKey t a b)).fitFails ≠ 0) ∧
    (∃ (s : State) (t : Nat) (a : Nat) (b : Nat) (codes : List (List (BitVec 12))) (c : CalTable), badBank t a b = false ∧
      (bankOf s (bankKey t a b)).st = .inService ∧ curTable (bankOf s (bankKey t a b)) = some c) ∧
    (∃ (s : State) (t : Nat) (a : Nat) (b : Nat) (cells : Nat) (slow : Nat) (pulses : Nat) (fit : Option FitTable), badBank t a b = false ∧
      (bankOf s (bankKey t a b)).st = .repairing ∧ (bankOf s (bankKey t a b)).fitting = false ∧ (bankOf s (bankKey t a b)).openEntry = true) :=
  ⟨⟨({ banksIn { st := .programming } with vpgmWait := [(false, [bankKey 0 3 0])] }),
     ((vpgmNext ({ banksIn { st := .programming } with vpgmWait := [(false, [bankKey 0 3 0])] })).get (by decide +kernel)), (Option.some_get _).symm,
     by decide +kernel⟩,
   ⟨(banksIn { st := .programming, openEntry := true }), 0, 3, 0, 0, 65535, 0, by decide +kernel, by decide +kernel, by decide +kernel, rfl⟩,
   ⟨(banksIn { st := .programming, openEntry := true }), 0, 3, 0, 1, 0, 0, by decide +kernel, by decide +kernel, by decide +kernel, by decide +kernel⟩,
   ⟨(banksIn { st := .repairing, openEntry := true }), 0, 3, 0, 0, 0, 0, by decide +kernel, by decide +kernel, by decide +kernel, rfl⟩,
   ⟨(banksIn { st := .repairing, openEntry := true }), 0, 3, 0, 1, 0, 0, by decide +kernel, by decide +kernel, by decide +kernel, by decide +kernel⟩,
   ⟨(banksIn { st := .calibrating }), 0, 3, 0, fitted, by decide +kernel, by decide +kernel, by decide +kernel, by decide +kernel⟩,
   ⟨(banksIn { st := .inService, calInPlace := true }), 0, 3, 0, fitted, by decide +kernel, by decide +kernel, by decide +kernel⟩,
   ⟨(banksIn { st := .calibrating, prior := .programmed }), 0, 3, 0, (.calTimeout 0 3 0), by decide +kernel, .inr rfl, by decide +kernel⟩,
   ⟨(banksIn { st := .inService, calInPlace := true }), 0, 3, 0, (.calFitDone 0 3 0 none), by decide +kernel, .inl rfl, by decide +kernel, by decide +kernel⟩,
   ⟨(banksIn { st := .repairing, fitting := true }), 0, 3, 0, 0, 0, 0, fitted, by decide +kernel, by decide +kernel, by decide +kernel, by decide +kernel⟩,
   ⟨(banksIn { st := .repairing, fitting := true }), 0, 3, 0, 0, 0, 0, by decide +kernel, by decide +kernel, by decide +kernel, by decide +kernel⟩,
   ⟨(banksIn { st := .repairing, fitting := true, fitFails := 1 }), 0, 3, 0, 0, 0, 0, by decide +kernel, by decide +kernel, by decide +kernel,
     by decide +kernel⟩,
   ⟨(banksIn { st := .inService, cur := some noTable }), 0, 3, 0, ([]), noTable, by decide +kernel, by decide +kernel, rfl⟩,
   ⟨(banksIn { st := .repairing, openEntry := true }), 0, 3, 0, 0, 0, 0, none, by decide +kernel, by decide +kernel, by decide +kernel, by decide +kernel⟩⟩

/-- The hypotheses of `Obligations.SchedulerAndArbitration` are met, clause by clause. -/
theorem witness_SchedulerAndArbitration :
    (∃ (s : State), objD 1 s 0x2300 1 = 0) ∧
    (∃ (s : State) (t : Nat) (c : Capture), tileOk t = true ∧ FMap.find s.capLatch t = some c ∧ s.captures.length < 64) ∧
    (∃ (s : State) (c : Capture), (s.captures.filter (·.running)).length < 4 ∧ (s.captures.find? fun c => !c.running) = some c) ∧
    (∃ (s : State) (c : Capture), (s.captures.find? fun x => x.id == c.id && x.running) = some c) ∧
    (∃ (s : State) (t : Nat) (line : Nat) (conds : List Nat), tileOk t = true ∧ line < 196608 ∧ (∀ i, conds.getD i 0 ≤ 2)) :=
  ⟨⟨({ s0 with dict := [(objKey 0x2300 1 0, 0)] }), by decide +kernel⟩,
   ⟨({ s0 with capLatch := [(0, capture)] }), 0, capture, by decide +kernel, by decide +kernel, by decide +kernel⟩,
   ⟨({ s0 with captures := [capture] }), capture, by decide +kernel, by decide +kernel⟩,
   ⟨({ s0 with captures := [{ capture with running := true }] }), ({ capture with running := true }), by decide +kernel⟩,
   ⟨s0, 0, 196607, ([0, 1, 2, 0]), by decide +kernel, by decide +kernel, fun i => match i with | 0 | 1 | 2 | 3 => by decide | _ + 4 => Nat.zero_le 2⟩⟩

/-- The hypotheses of `Obligations.WindowCommands` are met, clause by clause. -/
theorem witness_WindowCommands :
    (∃ (q : Nat) (s : State) (r : RunList) (w : Nat) (e : Nat), Reached s q 0x50 r w ∧ (window s (qPart q) (fld w 223 208)).st = 0 ∧
      coversResident s (qPart q) (fld w 207 160) (fld w 159 128) = false ∧
      e = (if (window s (qPart q) (fld w 223 208)).epoch = 0xFFFF then 1 else (window s (qPart q) (fld w 223 208)).epoch + 1)) ∧
    (∃ (q : Nat) (s : State) (r : RunList) (w : Nat), Reached s q 0x51 r w ∧ (window s (qPart q) (fld w 223 208)).st = 1) ∧
    (∃ (s : State) (p : Nat) (w : Nat), (window s p w).st = 2 ∧ (s.inWrites.any fun x => x.part == p && x.win == w && !x.refused) = false) ∧
    (∃ (s : State) (p : Nat) (w : Nat), (window s p w).st = 2 ∧ (s.inWrites.any fun x => x.part == p && x.win == w && !x.refused) = true) ∧
    (∃ (q : Nat) (s : State) (r : RunList) (w : Nat), Reached s q 0x52 r w ∧ (session s (fld w 207 192)).st = 2 ∧ (session s (fld w 207 192)).kind = 2 ∧
      (session s (fld w 207 192)).lpart = qPart q ∧ pvaBad s (qPart q) (fld w 175 128) (fld w 95 64) = false) :=
  ⟨⟨5, (reach 5 [cmd 0x50 [(255, 16, 208), (2 * 2 ^ 44, 48, 160), (32, 32, 128)]] { s0 with windows := [(255, { epoch := 0xFFFF })] }),
     (listRun (reach 5 [cmd 0x50 [(255, 16, 208), (2 * 2 ^ 44, 48, 160), (32, 32, 128)]] { s0 with windows := [(255, { epoch := 0xFFFF })] }) 5),
     (listWord (reach 5 [cmd 0x50 [(255, 16, 208), (2 * 2 ^ 44, 48, 160), (32, 32, 128)]] { s0 with windows := [(255, { epoch := 0xFFFF })] }) 5), 1,
     ⟨by decide +kernel, by decide +kernel, by decide +kernel, by decide +kernel, by decide +kernel, by decide +kernel⟩, by decide +kernel, by decide +kernel,
     by decide +kernel⟩,
   ⟨5, (reach 5 [cmd 0x51 [(255, 16, 208)]] { s0 with windows := [(255, { st := 1 })] }), (listRun (reach 5 [cmd 0x51 [(255, 16,
     208)]] { s0 with windows := [(255, { st := 1 })] }) 5), (listWord (reach 5 [cmd 0x51 [(255, 16, 208)]] { s0 with windows := [(255, { st := 1 })] }) 5),
     ⟨by decide +kernel, by decide +kernel, by decide +kernel, by decide +kernel, by decide +kernel, by decide +kernel⟩, by decide +kernel⟩,
   ⟨({ s0 with windows := [(255, { st := 2 })] }), 0, 255, by decide +kernel, by decide +kernel⟩,
   ⟨({ s0 with windows := [(255, { st := 2 })], inWrites := [landing] }), 0, 255, by decide +kernel, by decide +kernel⟩,
   ⟨5, (reach 5 [cmd 0x52 [(0, 16, 208), (2, 16, 192), (1, 16, 176), (2 * 2 ^ 44, 48, 128), (0, 32, 96), (4, 32, 64)]] linked),
     (listRun (reach 5 [cmd 0x52 [(0, 16, 208), (2, 16, 192), (1, 16, 176), (2 * 2 ^ 44, 48, 128), (0, 32, 96), (4, 32, 64)]] linked) 5),
     (listWord (reach 5 [cmd 0x52 [(0, 16, 208), (2, 16, 192), (1, 16, 176), (2 * 2 ^ 44, 48, 128), (0, 32, 96), (4, 32, 64)]] linked) 5), ⟨by decide +kernel,
     by decide +kernel, by decide +kernel, by decide +kernel, by decide +kernel, by decide +kernel⟩, by decide +kernel, by decide +kernel, by decide +kernel,
     by decide +kernel⟩⟩

/-- The hypotheses of `Obligations.RemoteWritesLand` are met, clause by clause. -/
theorem witness_RemoteWritesLand : ∃ (i : Nat) (s : State) (x : InWrite) (data : List Byte), s.inWrites[i]? = some x ∧ x.last = some data :=
  ⟨0, ({ s0 with inWrites := [landing] }), landing, ([1]), by decide +kernel, by decide +kernel⟩

/-- The hypotheses of `Obligations.ExportsSend` are met, clause by clause. -/
theorem witness_ExportsSend :
    (∃ (p : Nat) (e : Nat) (s : State), p < 16 ∧ e < 64 ∧ fld (objD 0 s (pidx 0x64 p) (e + 1)) 255 248 ≠ 0 ∧ (part s p).enable = true ∧
      FMap.get 0 s.exports (p * 64 + e) < syncGet s p (fld (objD 0 s (pidx 0x64 p) (e + 1)) 188 179)) ∧
    (∃ (p : Nat) (e : Nat) (w : Nat) (ses : Nat) (ep : Nat) (s : State) (t : PTile), bitAt w 247 = false ∧ bitAt w 94 = false ∧ bitAt w 83 = false ∧
      rankSession s p (exportRank s p w) = some ses ∧ ptile (part s p).place (fld w 239 228) = some t ∧ exportEpoch s p w = some ep ∧
      spBad s t.tile (fld w 227 205) (4 * fld w 204 189) = false) ∧
    (∃ (p : Nat) (e : Nat) (w : Nat) (s : State), bitAt w 247 = false ∧ exportEpoch s p w = none) :=
  ⟨⟨0, 63, ({ (withPart fun x => { x with enable := true }) with dict := [(objKey (pidx 0x64 0) 64 0, exportW)], sync := [(0, 1)] }), by decide +kernel,
     by decide +kernel, by decide +kernel, by decide +kernel, by decide +kernel⟩,
   ⟨0, 0, exportW, 2, 1, linked, _, by decide +kernel, by decide +kernel, by decide +kernel, by decide +kernel, rfl, by decide +kernel, rfl⟩,
   ⟨0, 0, (put 1 8 248), s0, by decide +kernel, by decide +kernel⟩⟩

/-- The hypotheses of `Obligations.ImageRequests` are met, clause by clause. -/
theorem witness_ImageRequests :
    (∃ (ses : Nat) (n : Nat) (im : Nat) (len : Nat) (s : State), Serves s ses 0x30 ∧ hasMconfig s ses = true ∧ imageUsed s im = false ∧
      (s.uploads.filter fun u => u.image != im).length < 4 ∧ len ≤ storeFree { s with uploads := s.uploads.filter fun u => u.image != im }) ∧
    (∃ (ses : Nat) (n : Nat) (im : Nat) (off : Nat) (data : List Byte) (s : State) (v : Upload), Serves s ses 0x31 ∧ hasMconfig s ses = true ∧
      (s.uploads.find? fun u => u.image == im) = some v ∧ off + data.length ≤ v.len ∧ data.length ≤ 2097136) ∧
    (∃ (ses : Nat) (n : Nat) (im : Nat) (s : State) (v : Upload), Serves s ses 0x32 ∧ hasMconfig s ses = true ∧
      (s.uploads.find? fun u => u.image == im) = some v ∧ coversFrom v.ranges v.len 0 v.ranges.length = true ∧ imgMagic v.bytes = 0x4F4C4931 ∧
      imgLength v.bytes * 4096 = v.len ∧ imgHdrCrcOk v.bytes = true) ∧
    (∃ (ses : Nat) (n : Nat) (im : Nat) (s : State), Serves s ses 0x33 ∧ hasMconfig s ses = true ∧ imageUsed s im = false ∧
      (s.uploads.any fun u => u.image == im) = true) ∧
    (∃ (ses : Nat) (n : Nat) (im : Nat) (s : State), Serves s ses 0x33 ∧ hasMconfig s ses = true ∧ imageUsed s im = false ∧
      (s.uploads.any fun u => u.image == im) = false ∧ (FMap.find s.images im).isSome = true) ∧
    (∃ (ses : Nat) (n : Nat) (im : Nat) (len : Nat) (off : Nat) (data : List Byte) (s : State), hasMconfig s ses = false ∧ Serves s ses 0x30) ∧
    (∃ (ses : Nat) (n : Nat) (im : Nat) (len : Nat) (off : Nat) (data : List Byte) (s : State), hasMconfig s ses = false ∧ Serves s ses 0x31) ∧
    (∃ (ses : Nat) (n : Nat) (im : Nat) (len : Nat) (off : Nat) (data : List Byte) (s : State), hasMconfig s ses = false ∧ Serves s ses 0x32) ∧
    (∃ (ses : Nat) (n : Nat) (im : Nat) (len : Nat) (off : Nat) (data : List Byte) (s : State), hasMconfig s ses = false ∧ Serves s ses 0x33) :=
  ⟨⟨1, 0, 8, 0, s0, ⟨by decide +kernel, by decide +kernel, by decide +kernel, by decide +kernel⟩, by decide +kernel, by decide +kernel, by decide +kernel,
     Nat.zero_le _⟩,
   ⟨1, 0, 8, 4095, ([0]), uploading, (((uploading.uploads.find? fun u => u.image == 8)).get (by decide +kernel)), ⟨by decide +kernel, by decide +kernel,
     by decide +kernel, by decide +kernel⟩, by decide +kernel, (Option.some_get _).symm, by decide +kernel, by decide +kernel⟩,
   ⟨1, 0, 8, uploading, (((uploading.uploads.find? fun u => u.image == 8)).get (by decide +kernel)), ⟨by decide +kernel, by decide +kernel, by decide +kernel,
     by decide +kernel⟩, by decide +kernel, (Option.some_get _).symm, by decide +kernel, by decide +kernel, by decide +kernel, by decide +kernel⟩,
   ⟨1, 0, 8, uploading, ⟨by decide +kernel, by decide +kernel, by decide +kernel, by decide +kernel⟩, by decide +kernel, by decide +kernel, by decide +kernel⟩,
   ⟨1, 0, 8, ({ s0 with images := [(8, { len := 4096, bytes := [] })] }), ⟨by decide +kernel, by decide +kernel, by decide +kernel, by decide +kernel⟩,
     by decide +kernel, by decide +kernel, by decide +kernel, by decide +kernel⟩,
   ⟨1, 0, 0, 0, 0, ([]), plainHost, by decide +kernel, ⟨by decide +kernel, by decide +kernel, by decide +kernel, by decide +kernel⟩⟩,
   ⟨1, 0, 0, 0, 0, ([]), plainHost, by decide +kernel, ⟨by decide +kernel, by decide +kernel, by decide +kernel, by decide +kernel⟩⟩,
   ⟨1, 0, 0, 0, 0, ([]), plainHost, by decide +kernel, ⟨by decide +kernel, by decide +kernel, by decide +kernel, by decide +kernel⟩⟩,
   ⟨1, 0, 0, 0, 0, ([]), plainHost, by decide +kernel, ⟨by decide +kernel, by decide +kernel, by decide +kernel, by decide +kernel⟩⟩⟩

/-- The hypotheses of `Obligations.BrolerRowsTakeTheOldestFrame` are met, clause by clause. -/
theorem witness_BrolerRowsTakeTheOldestFrame :
    (∃ (c : Instr) (typ : Nat) (k : Nat) (s : State) (x : _) (t : _), (c, typ) ∈ [(.brolerOpen k, 1), (.brolerChallenge, 2), (.brolerProve, 3),
      (.brolerAccept k, 4), (.brolerRefuse, 5), (.brolerClose, 6), (.brolerKeepalive, 7), (.brolerAckf, 8), (.brolerMsg, 0x10), (.brolerWrite, 0x20),
      (.brolerWack, 0x21), (.brolerWnak, 0x22), (.brolerContrib, 0x30)] ∧ Oldest s typ x t) ∧
    (∃ (c : Instr) (typ : Nat) (k : Nat) (s : State), (c, typ) ∈ [(.brolerOpen k, 1), (.brolerChallenge, 2), (.brolerProve, 3), (.brolerAccept k, 4),
      (.brolerRefuse, 5), (.brolerClose, 6), (.brolerKeepalive, 7), (.brolerAckf, 8), (.brolerMsg, 0x10), (.brolerWrite, 0x20), (.brolerWack, 0x21),
      (.brolerWnak, 0x22), (.brolerContrib, 0x30)] ∧ s.rx = []) ∧
    (∃ (c : Instr) (typ : Nat) (k : Nat) (s : State) (x : _) (t : _), (c, typ) ∈ [(.brolerOpen k, 1), (.brolerChallenge, 2), (.brolerProve, 3),
      (.brolerAccept k, 4), (.brolerRefuse, 5), (.brolerClose, 6), (.brolerKeepalive, 7), (.brolerAckf, 8), (.brolerMsg, 0x10), (.brolerWrite, 0x20),
      (.brolerWack, 0x21), (.brolerWnak, 0x22), (.brolerContrib, 0x30)] ∧ s.rx = x :: t ∧ bTyp x.hdr ≠ typ) :=
  ⟨⟨(.brolerOpen 0), 1, 0, (rxState 1 1 []), (rxFrame 1 1 []), ([]), by decide +kernel, ⟨by decide +kernel, by decide +kernel, by decide +kernel⟩⟩,
   ⟨.brolerContrib, 0x30, 0, s0, by decide +kernel, by decide +kernel⟩,
   ⟨.brolerContrib, 0x30, 0, (rxState 1 1 []), (rxFrame 1 1 []), ([]), by decide +kernel, by decide +kernel, by decide +kernel⟩⟩

/-- The hypotheses of `Obligations.SessionsOpen` are met, clause by clause. -/
theorem witness_SessionsOpen :
    (∃ (k : Nat) (s : State) (x : RxFrame) (t : List RxFrame) (r : _), Oldest s 1 x t ∧
      openRefusal s x.payload (bSsid x.hdr) (bDsid x.hdr) (decide (48 ≤ x.port)) k = some r) ∧
    (∃ (k : Nat) (s : State) (x : RxFrame) (t : List RxFrame), Oldest s 1 x t ∧
      openRefusal s x.payload (bSsid x.hdr) (bDsid x.hdr) (decide (48 ≤ x.port)) k = none) ∧
    (∃ (s : State) (x : RxFrame) (t : List RxFrame), Oldest s 2 x t ∧ x.payload.length = 17 ∧ (openField x.payload 0 1 = 16 ∨ openField x.payload 0 1 = 17)) ∧
    (∃ (s : State) (x : RxFrame) (t : List RxFrame) (y : Session), Oldest s 3 x t ∧ y = session s (bDsid x.hdr) ∧ credOk s y.cred y.kind = true ∧
      x.payload = hmac256 ((credKey s y.cred).getD []) (proofMessage y y.peer (bDsid x.hdr))) ∧
    (∃ (s : State) (x : RxFrame) (t : List RxFrame) (y : Session), Oldest s 3 x t ∧ y = session s (bDsid x.hdr) ∧
      (credOk s y.cred y.kind = false ∨ x.payload ≠ hmac256 ((credKey s y.cred).getD []) (proofMessage y y.peer (bDsid x.hdr)))) ∧
    (∃ (k : Nat) (s : State) (x : RxFrame) (t : List RxFrame), Oldest s 4 x t ∧ (session s (bDsid x.hdr)).group = 0) ∧
    (∃ (s : State) (x : RxFrame) (t : List RxFrame), Oldest s 5 x t ∧ (session s (bDsid x.hdr)).st < 2) ∧
    (∃ (ses : Nat) (s : State), (session s ses).st = 1 ∧ (session s ses).opener = false ∧ (session s ses).openedAt + 100000000 ≤ nowNs s) :=
  ⟨⟨0, (rxState 1 0 []), (rxFrame 1 0 []), ([]), 0x0124, ⟨by decide +kernel, by decide +kernel, by decide +kernel⟩, by decide +kernel⟩,
   ⟨0, (rxState 1 0 openBody), (rxFrame 1 0 openBody), ([]), ⟨by decide +kernel, by decide +kernel, by decide +kernel⟩, by decide +kernel⟩,
   ⟨({ rxState 2 3 (16 :: List.replicate 16 0) with sessions := [(3, { st := 0, opener := true })] }), (rxFrame 2 3 (16 :: List.replicate 16 0)), ([]),
     ⟨by decide +kernel, by decide +kernel, by decide +kernel⟩, by decide +kernel, by decide +kernel⟩,
   ⟨proving, (rxFrame 3 3 (proof proveState)), ([]), proved, ⟨rfl, by decide +kernel, by decide +kernel⟩, by decide +kernel, by decide +kernel, proofFits⟩,
   ⟨({ proveState with rx := [rxFrame 3 3 []], dict := [] }), (rxFrame 3 3 []), ([]), proved, ⟨by decide +kernel, by decide +kernel, by decide +kernel⟩,
     by decide +kernel, .inl (by decide +kernel)⟩,
   ⟨0, ({ rxState 4 3 [] with sessions := [(3, { st := 1, opener := true })] }), (rxFrame 4 3 []), ([]), ⟨by decide +kernel, by decide +kernel,
     by decide +kernel⟩, by decide +kernel⟩,
   ⟨({ rxState 5 3 [] with sessions := [(3, { st := 1, opener := true })] }), (rxFrame 5 3 []), ([]), ⟨by decide +kernel, by decide +kernel,
     by decide +kernel⟩, by decide +kernel⟩,
   ⟨3, (later { s0 with sessions := [(3, { st := 1 })] }), by decide +kernel, by decide +kernel, by decide +kernel⟩⟩

/-- The hypotheses of `Obligations.SessionsCloseAndLive` are met, clause by clause. -/
theorem witness_SessionsCloseAndLive :
    (∃ (s : State) (x : RxFrame) (t : List RxFrame), Oldest s 6 x t ∧ (session s (bDsid x.hdr)).st = 2) ∧
    (∃ (ses : Nat) (s : State), (session s ses).st = 3 ∧
      (((session s ses).chans.all fun c => c.2.segs.isEmpty) = true ∨ (session s ses).closeAt + 100000000 ≤ nowNs s)) ∧
    (∃ (ses : Nat) (s : State) (x : Session), FMap.find s.sessions ses = some x ∧ x.st = 2 ∧ x.lastRx + lossTime s x ≤ nowNs s) ∧
    (∃ (ses : Nat) (s : State), (session s ses).kind ≠ 2) ∧
    (∃ (s : State) (x : RxFrame) (t : List RxFrame), Oldest s 7 x t) ∧
    (∃ (ses : Nat) (p : Nat) (s : State), sendPort s ses = some p ∧ (session s ses).st = 2 ∧
      (session s ses).lastTx + keepalivePeriod s (session s ses) ≤ nowNs s) ∧
    (∃ (ses : Nat) (c : Nat) (p : Nat) (s : State), sendPort s ses = some p ∧ 2 ≤ (session s ses).st ∧ 0 < (chan s ses c).due ∧
      (chan s ses c).dueAt + 2000 ≤ nowNs s) ∧
    (∃ (s : State) (x : RxFrame) (t : List RxFrame), Oldest s 8 x t ∧ (session s (bDsid x.hdr)).vmin = 0) ∧
    (∃ (s : State) (ses : Nat) (c : Nat) (a : Nat) (cr : Nat) (g : Seg), (∀ p, FMap.get [] s.debugQ p = [])) ∧
    (∃ (ses : Nat) (c : Nat) (n : Nat) (s : State), (chan s ses c).timerAt = some n ∧ 2 ≤ (session s ses).st ∧
      n + retransmitAfter s (chan s ses c).expiries ≤ nowNs s ∧ (chan s ses c).expiries < 11) :=
  ⟨⟨(rxState 6 1 []), (rxFrame 6 1 []), ([]), ⟨by decide +kernel, by decide +kernel, by decide +kernel⟩, by decide +kernel⟩,
   ⟨1, ({ s0 with sessions := [(1, { host with st := 3 })] }), by decide +kernel, by decide +kernel⟩,
   ⟨1, (later s0), host, by decide +kernel, by decide +kernel, by decide +kernel⟩,
   ⟨1, s0, by decide +kernel⟩,
   ⟨(rxState 7 1 []), (rxFrame 7 1 []), ([]), ⟨by decide +kernel, by decide +kernel, by decide +kernel⟩⟩,
   ⟨1, 0, (later portsUp), by decide +kernel, by decide +kernel, by decide +kernel⟩,
   ⟨1, 0, 0, (later { portsUp with sessions := [(1, { host with chans := [(0, { due := 1 })] })] }), by decide +kernel, by decide +kernel, by decide +kernel,
     by decide +kernel⟩,
   ⟨({ rxState 8 1 [] with sessions := [(1, { host with vmin := 0 })] }), (rxFrame 8 1 []), ([]), ⟨by decide +kernel, by decide +kernel, by decide +kernel⟩,
     by decide +kernel⟩,
   ⟨s0, 0, 0, 0, 0, ({ seq := 0, first := true, last := true, msg := .icmp 0 0 0, off := 0, len := 0 }), fun _ => rfl⟩,
   ⟨1, 0, 0, (later { s0 with sessions := [(1, { host with chans := [(0, { timerAt := some 0, expiries := 10 })] })] }), by decide +kernel, by decide +kernel,
     by decide +kernel, by decide +kernel⟩⟩

/-- The hypotheses of `Obligations.SegmentsAreTakenInSequence` are met, clause by clause. -/
theorem witness_SegmentsAreTakenInSequence :
    (∃ (c : Instr) (typ : Nat) (s : State) (x : RxFrame) (t : List RxFrame), (c, typ) ∈ [(.brolerMsg, 0x10), (.brolerWrite, 0x20), (.brolerWack, 0x21),
      (.brolerWnak, 0x22), (.brolerContrib, 0x30)] ∧ Oldest s typ x t) ∧
    (∃ (s : State) (u : State) (x : RxFrame), u = ackRx s (bDsid x.hdr) (bChan x.hdr) (bAck x.hdr) (bCredit x.hdr) [] ∧
      serLt (bSeq x.hdr) (chan s (bDsid x.hdr) (bChan x.hdr)).rxNext = true) ∧
    (∃ (s : State) (ses : Nat) (c : Nat) (g : RxSeg), (session s ses).st = 2) ∧
    (∃ (s : State) (ses : Nat) (c : Nat) (g : RxSeg), g.typ = 0x10 ∧ g.first = true ∧ g.last = true) ∧
    (∃ (s : State) (ses : Nat) (c : Nat) (g : RxSeg), g.typ = 0x20 ∧ g.first = true) ∧
    (∃ (s : State) (ses : Nat) (c : Nat) (g : RxSeg) (o : _) (q : _), g.typ = 0x21 ∧ fld (leNat g.payload) 13 0 = 0 ∧
      findOut s ses (fld (leNat g.payload) 63 32) = some o ∧ o.queue = some q) ∧
    (∃ (s : State) (ses : Nat) (c : Nat) (g : RxSeg) (o : _) (q : _), g.typ = 0x22 ∧ fld (leNat g.payload) 13 0 = 0 ∧
      findOut s ses (fld (leNat g.payload) 63 32) = some o ∧ o.queue = some q) ∧
    (∃ (s : State) (ses : Nat) (c : Nat) (g : RxSeg), g.typ = 0x30 ∧ g.first = true ∧ g.last = true) :=
  ⟨⟨.brolerMsg, 0x10, (rxState 0x10 1 []), (rxFrame 0x10 1 []), ([]), by decide +kernel, ⟨by decide +kernel, by decide +kernel, by decide +kernel⟩⟩,
   ⟨({ s0 with sessions := [(1, { host with chans := [(0, { rxNext := 1 })] })] }),
     (ackRx ({ s0 with sessions := [(1, { host with chans := [(0, { rxNext := 1 })] })] }) (bDsid (rxFrame 0x10 1 []).hdr) (bChan (rxFrame 0x10 1 []).hdr) (bAck (rxFrame 0x10 1 []).hdr) (bCredit (rxFrame 0x10 1 []).hdr) []),
     (rxFrame 0x10 1 []), rfl, by decide +kernel⟩,
   ⟨s0, 1, 0, (segOf 0x10 []), by decide +kernel⟩,
   ⟨s0, 1, 0, (segOf 0x10 []), by decide +kernel, by decide +kernel, by decide +kernel⟩,
   ⟨s0, 1, 0, (segOf 0x20 []), by decide +kernel, by decide +kernel⟩,
   ⟨sent, 2, 0, (segOf 0x21 (leBytes 8 0)), sentWrite, 5, by decide +kernel, by decide +kernel, by decide +kernel, by decide +kernel⟩,
   ⟨sent, 2, 0, (segOf 0x22 (leBytes 8 0)), sentWrite, 5, by decide +kernel, by decide +kernel, by decide +kernel, by decide +kernel⟩,
   ⟨linked, 2, 0, (segOf 0x30 []), by decide +kernel, by decide +kernel, by decide +kernel⟩⟩

/-- The hypotheses of `Obligations.PortCommands` are met, clause by clause. -/
theorem witness_PortCommands :
    (∃ (p : Nat) (a : Nat) (b : Nat) (s : State), p < 50 ∧ portRuns s p = true ∧ ownAddress s p a = true) ∧
    (∃ (p : Nat) (a : Nat) (l : Nat) (s : State), p < 50 ∧ portRuns s p = true ∧ a ≠ 0 ∧ a = gatewayOf s p) ∧
    (∃ (p : Nat) (s : State), p < 48 ∧ portState s p = 2 ∧ (port s p).low = false ∧ s.ldDown.contains (p / 12) = false) ∧
    (∃ (p : Nat) (s : State), p < 48) ∧
    (∃ (m : Nat) (up : Bool) (s : State), m < 2) ∧
    (∃ (p : Nat) (c : Nat) (w : Nat) (s : State), p < 48 ∧ (port s p).present = false) ∧
    (∃ (p : Nat) (s : State), p < 48 ∧ (port s p).present = true) ∧
    (∃ (p : Nat) (s : State), p < 48 ∧ (port s p).present = true ∧ (port s p).fault = false ∧ objD 1 s 0x6010 1 p ≠ 0) ∧
    (∃ (p : Nat) (k : Nat) (v : Nat) (s : State), p < 48 ∧ portRuns s p = true ∧ k < 8 ∧ bitAt (objD 0 s 0x6010 7 p) k = true) ∧
    (∃ (p : Nat) (k : Nat) (t : Nat) (s : State), p < 48 ∧ FMap.find (port s p).paused k = some t ∧ t ≤ nowNs s) :=
  ⟨⟨47, 1, 0, ({ portsUp with dict := [(objKey 0x6010 4 47, 1)] }), by decide +kernel, by decide +kernel, by decide +kernel⟩,
   ⟨47, 1, 0, ({ portsUp with dict := [(objKey 0x6010 5 47, 1)] }), by decide +kernel, by decide +kernel, by decide +kernel, by decide +kernel⟩,
   ⟨47, ({ s0 with ports := [(47, { present := true })] }), by decide +kernel, by decide +kernel, by decide +kernel, by decide +kernel⟩,
   ⟨47, portsUp, by decide +kernel⟩,
   ⟨1, true, s0, by decide +kernel⟩,
   ⟨47, 255, 17, s0, by decide +kernel, by decide +kernel⟩,
   ⟨47, portsUp, by decide +kernel, by decide +kernel⟩,
   ⟨47, portsUp, by decide +kernel, by decide +kernel, by decide +kernel, by decide +kernel⟩,
   ⟨47, 7, 65535, ({ portsUp with dict := [(objKey 0x6010 7 47, 0x80)] }), by decide +kernel, by decide +kernel, by decide +kernel, by decide +kernel⟩,
   ⟨47, 7, 0, ({ s0 with ports := [(47, { present := true, link := true, paused := [(7, 0)] })] }), by decide +kernel, by decide +kernel, by decide +kernel⟩⟩

/-- The hypotheses of `Obligations.FramesReceived` are met, clause by clause. -/
theorem witness_FramesReceived :
    (∃ (p : Nat) (e : Envelope) (bs : List Byte) (s : State) (u : State), p < 50 ∧ portRuns s p = true ∧ u = countPort s p 10 ∧ envelopeOk u p e = true ∧
      brolerOk bs = true ∧ sessionOk u (leNat (bs.take 32)) (decide (48 ≤ p)) = true ∧ encapOk u (leNat (bs.take 32)) e = true ∧
      buffered s p e.pri + e.len ≤ 524288 ∧ epochOff u (leNat (bs.take 32)) = none) ∧
    (∃ (p : Nat) (e : Envelope) (bs : List Byte) (s : State) (u : State), p < 50 ∧ portRuns s p = true ∧ u = countPort s p 10 ∧
      (envelopeOk u p e = false ∨ brolerOk bs = false ∨ sessionOk u (leNat (bs.take 32)) (decide (48 ≤ p)) = false ∨ encapOk u (leNat (bs.take 32)) e = false ∨ 524288 < buffered s p e.pri + e.len)) :=
  ⟨⟨0, envelope, keepalive, portsUp, (countPort portsUp 0 10), by decide +kernel, by decide +kernel, rfl, by decide +kernel, by decide +kernel,
     by decide +kernel, by decide +kernel, by decide +kernel, by decide +kernel⟩,
   ⟨0, envelope, ([]), portsUp, (countPort portsUp 0 10), by decide +kernel, by decide +kernel, rfl, .inr (.inl (by decide +kernel))⟩⟩

/-- The hypotheses of `Obligations.GroupsForm` are met, clause by clause. -/
theorem witness_GroupsForm :
    (∃ (ses : Nat) (p : Nat) (s : State), linkPart s ses = some p ∧ isMaster s p = true ∧ (group s p).st ≠ 0 ∧ (group s p).st ≠ 4) ∧
    (∃ (p : Nat) (t : Nat) (s : State) (c : CheckRun), p < 16 ∧ (group s p).joinAt = some t ∧ t + 1000000000 ≤ nowNs s ∧ (part s p).check = some c) ∧
    (∃ (ses : Nat) (p : Nat) (w : Nat) (e : Nat) (st : Nat) (s : State), linkPart s ses = some p ∧ w < 256) ∧
    (∃ (ses : Nat) (p : Nat) (s : State), linkPart s ses = some p ∧ isMember s p = true ∧ (group s p).backup = ownRank s p) :=
  ⟨⟨2, 0, (grouped 1 {}), by decide +kernel, by decide +kernel, by decide +kernel, by decide +kernel⟩,
   ⟨15, 0, (later { s0 with groups := [(15, { joinAt := some 0 })], parts := [(15, { check := some (checkOf 0) })] }), (checkOf 0), by decide +kernel,
     by decide +kernel, by decide +kernel, by decide +kernel⟩,
   ⟨2, 0, 255, 65535, 1, (grouped 2 {}), by decide +kernel, by decide +kernel⟩,
   ⟨2, 0, (grouped 2 { backup := 0 }), by decide +kernel, by decide +kernel, by decide +kernel⟩⟩

/-- The hypotheses of `Obligations.GroupStepMessages` are met, clause by clause. -/
theorem witness_GroupStepMessages :
    (∃ (ses : Nat) (n : Nat) (g : Nat) (p : Nat) (binds : List Nat) (s : State), linkPart s ses = some p ∧ isMember s p = true ∧ (part s p).enable = true ∧
      (group s p).master = (session s ses).rank) ∧
    (∃ (ses : Nat) (n : Nat) (p : Nat) (slots : List Nat) (s : State), masterOf s ses n = some p) ∧
    (∃ (ses : Nat) (n : Nat) (p : Nat) (words : List Nat) (s : State) (r : StepRun), linkPart s ses = some p ∧ isMember s p = true ∧ stepOf s p = some r ∧
      r.group = some n) ∧
    (∃ (ses : Nat) (n : Nat) (p : Nat) (s : State), masterOf s ses n = some p) ∧
    (∃ (ses : Nat) (n : Nat) (p : Nat) (ws : List Nat) (s : State), linkPart s ses = some p ∧ isMember s p = true) ∧
    (∃ (ses : Nat) (n : Nat) (p : Nat) (s : State) (r : StepRun), linkPart s ses = some p ∧ (group s p).posting = some r ∧ r.group = some n ∧
      (group s p).sent = true ∧ (group s p).backup = (session s ses).rank) ∧
    (∃ (ses : Nat) (n : Nat) (p : Nat) (s : State), linkPart s ses = some p ∧ isMember s p = true ∧ (group s p).master = (session s ses).rank) ∧
    (∃ (ses : Nat) (q : Nat) (p : Nat) (s : State) (x : Seq), linkPart s ses = some p ∧ isMaster s p = true ∧ seqOf s p q = some x) ∧
    (∃ (ses : Nat) (q : Nat) (slot : Nat) (fin : Nat) (last : Nat) (p : Nat) (s : State) (x : Seq), linkPart s ses = some p ∧ isMember s p = true ∧
      seqOf s p q = some x ∧ fin ≠ 0) :=
  ⟨⟨2, 0, 0, 0, ([]), (withPart (fun x => { x with enable := true }) (grouped 2 {})), by decide +kernel, by decide +kernel, by decide +kernel,
     by decide +kernel⟩,
   ⟨2, 5, 0, ([]), (grouped 1 { confirmed := 4, ranks := [1] }), by decide +kernel⟩,
   ⟨2, 5, 0, ([]), (stepping { step0 with group := some 5 } (grouped 2 {})), ({ step0 with group := some 5 }), by decide +kernel, by decide +kernel,
     by decide +kernel, by decide +kernel⟩,
   ⟨2, 5, 0, (grouped 1 { confirmed := 4, ranks := [1] }), by decide +kernel⟩,
   ⟨2, 5, 0, ([]), (grouped 2 {}), by decide +kernel, by decide +kernel⟩,
   ⟨2, 5, 0, (grouped 1 { posting := some { step0 with group := some 5 }, sent := true, backup := 1 }), ({ step0 with group := some 5 }), by decide +kernel,
     by decide +kernel, by decide +kernel, by decide +kernel, by decide +kernel⟩,
   ⟨2, 5, 0, (grouped 2 {}), by decide +kernel, by decide +kernel, by decide +kernel⟩,
   ⟨2, 9, 0, (withSeq {} (grouped 1 {})), ((seqOf (withSeq {} (grouped 1 {})) 0 9).get (by decide +kernel)), by decide +kernel, by decide +kernel,
     (Option.some_get _).symm⟩,
   ⟨2, 9, 0, 1, 0, 0, (withSeq {} (grouped 2 {})), ((seqOf (withSeq {} (grouped 2 {})) 0 9).get (by decide +kernel)), by decide +kernel, by decide +kernel,
     (Option.some_get _).symm, by decide +kernel⟩⟩

/-- The hypotheses of `Obligations.Failover` are met, clause by clause. -/
theorem witness_Failover :
    (∃ (p : Nat) (s : State), p < 16 ∧ masterGone s p = true ∧ (group s p).backup = ownRank s p ∧ objD 0 s (pidx 0x63 p) 7 = 1 ∧ promoteQuorum s p = true) ∧
    (∃ (ses : Nat) (n : Nat) (p : Nat) (g : Nat) (s : State), p < 16 ∧ Serves s ses 0x14 ∧ hasConfigure s ses p = true ∧ g = objD 0 s (pidx 0x63 p) 1 ∧
      masterGone s p = true ∧ promoteQuorum s p = true) ∧
    (∃ (ses : Nat) (n : Nat) (p : Nat) (g : Nat) (s : State), p < 16 ∧ Serves s ses 0x14 ∧ hasConfigure s ses p = true ∧ g = objD 0 s (pidx 0x63 p) 1 ∧
      masterGone s p = true ∧ promoteQuorum s p = false) ∧
    (∃ (p : Nat) (s : State), (part s p).step = none) ∧
    (∃ (ses : Nat) (e : Nat) (n : Nat) (p : Nat) (s : State), linkPart s ses = some p ∧ isMaster s p = false ∧ (group s p).epoch ≤ e) :=
  ⟨⟨0, orphan, by decide +kernel, by decide +kernel, by decide +kernel, by decide +kernel, by decide +kernel⟩,
   ⟨1, 0, 0, 7, orphan, by decide +kernel, ⟨by decide +kernel, by decide +kernel, by decide +kernel, by decide +kernel⟩, by decide +kernel, by decide +kernel,
     by decide +kernel, by decide +kernel⟩,
   ⟨1, 0, 0, 7, loneOrphan, by decide +kernel, ⟨by decide +kernel, by decide +kernel, by decide +kernel, by decide +kernel⟩, by decide +kernel,
     by decide +kernel, by decide +kernel, by decide +kernel⟩,
   ⟨0, s0, by decide +kernel⟩,
   ⟨2, 65535, 0, 0, (grouped 2 {}), by decide +kernel, by decide +kernel, by decide +kernel⟩⟩

/-- The hypotheses of `Obligations.PlacementRequests` are met, clause by clause. -/
theorem witness_PlacementRequests :
    (∃ (ses : Nat) (n : Nat) (p : Nat) (s : State), MayPlace s ses p 0x11 ∧ (part s p).st = .loaded ∧ (s.jobs.any fun j => j.part == p) = false) ∧
    (∃ (ses : Nat) (n : Nat) (p : Nat) (s : State), MayPlace s ses p 0x12 ∧ (part s p).st = .faulted ∧
      (s.jobs.any fun j => j.part == p && !j.isLoad) = false ∧ stackLost s p = false ∧ modeHolds s = false) ∧
    (∃ (ses : Nat) (n : Nat) (body : Nat) (p : Nat) (s : State), p = fld body 247 244 ∧ MayPlace s ses p 0x13 ∧ fld body 255 248 = 1 ∧ body % 2 ^ 200 = 0 ∧
      body < 2 ^ 256 ∧ mayReplace s p = true ∧ (s.jobs.any fun j => j.part == p && !j.isLoad) = false ∧ fld body 243 242 = 0 ∧
      ((part s p).place.tiles.any fun t => t.tile == fld body 239 224) = true) ∧
    (∃ (ses : Nat) (n : Nat) (body : Nat) (p : Nat) (s : State), p = fld body 247 244 ∧ MayPlace s ses p 0x13 ∧ fld body 255 248 = 1 ∧ body % 2 ^ 200 = 0 ∧
      body < 2 ^ 256 ∧ mayReplace s p = true ∧ (s.jobs.any fun j => j.part == p && !j.isLoad) = false ∧ fld body 243 242 = 1 ∧ fld body 239 224 = 0 ∧
      ((part s p).place.tiles.all fun t => tileHealthy s t.tile) = false) ∧
    (∃ (p : Nat) (s : State), p < 16 ∧ s.power = .ready ∧ objD 0 s (pidx 0x55 p) 1 ≠ 0 ∧ triggered s p = true ∧ (s.jobs.any fun j => j.part == p) = false) ∧
    (∃ (s : State) (a : PlaceJob) (j : PlaceJob) (l : List PlaceJob), s.jobs = a :: l ∧ a.begun = true ∧ (∀ x ∈ l, x.begun = false) ∧ j.isLoad = true) ∧
    (∃ (s : State) (a : PlaceJob) (j : PlaceJob) (l : List PlaceJob), s.jobs = a :: l ∧ a.begun = true ∧ (∀ x ∈ l, x.begun = false) ∧ j.isLoad = false) :=
  ⟨⟨1, 0, 15, loaded15, ⟨by decide +kernel, ⟨by decide +kernel, by decide +kernel, by decide +kernel, by decide +kernel⟩, by decide +kernel,
     by decide +kernel, by decide +kernel⟩, by decide +kernel, by decide +kernel⟩,
   ⟨1, 0, 0, (withPart fun x => { x with st := .faulted }), ⟨by decide +kernel, ⟨by decide +kernel, by decide +kernel, by decide +kernel, by decide +kernel⟩,
     by decide +kernel, by decide +kernel, by decide +kernel⟩, by decide +kernel, by decide +kernel, by decide +kernel, by decide +kernel⟩,
   ⟨1, 0, (put 1 8 248 + put 16 16 224), 0, s0, by decide +kernel, ⟨by decide +kernel, ⟨by decide +kernel, by decide +kernel, by decide +kernel,
     by decide +kernel⟩, by decide +kernel, by decide +kernel, by decide +kernel⟩, by decide +kernel, by decide +kernel, by decide +kernel, by decide +kernel,
     by decide +kernel, by decide +kernel, by decide +kernel⟩,
   ⟨1, 0, (put 1 8 248 + put 1 2 242), 0, ({ s0 with blockSt := [(clusterOf 0, 2)] }), by decide +kernel, ⟨by decide +kernel, ⟨by decide +kernel,
     by decide +kernel, by decide +kernel, by decide +kernel⟩, by decide +kernel, by decide +kernel, by decide +kernel⟩, by decide +kernel, by decide +kernel,
     by decide +kernel, by decide +kernel, by decide +kernel, by decide +kernel, by decide +kernel, by decide +kernel⟩,
   ⟨0, ({ withPart (fun x => { x with st := .faulted, permFault := true }) with dict := [(objKey (pidx 0x55 0) 1 0, 2)] }), by decide +kernel,
     by decide +kernel, by decide +kernel, by decide +kernel, by decide +kernel⟩,
   ⟨({ s0 with jobs := [job true] }), (job true), ({ job true with begun := false }), ([]), by decide +kernel, by decide +kernel, by decide +kernel,
     by decide +kernel⟩,
   ⟨({ s0 with jobs := [job true, { job true with begun := false }] }), (job true), ({ job false with begun := false }), ([{ job true with begun := false }]),
     by decide +kernel, by decide +kernel, by decide +kernel, by decide +kernel⟩⟩

/-- The hypotheses of `Obligations.PlacementCompletes` are met, clause by clause. -/
theorem witness_PlacementCompletes :
    (∃ (p : Nat) (s : State) (j : PlaceJob), JobReady s p j true ∧
      boundOk ((List.range j.plan.tiles.length).foldl (writeTile (((FMap.find s.images j.image).map (·.bytes)).getD []) j.plan) s) j.plan (List.range j.plan.tiles.length) = true) ∧
    (∃ (p : Nat) (s : State) (j : PlaceJob), JobReady s p j false ∧
      boundOk ((j.vacated.map (·.1)).foldl (writeTile (((FMap.find s.images j.image).map (·.bytes)).getD []) j.plan) s) j.plan (j.vacated.map (·.1)) = true) :=
  ⟨⟨15, ({ s0 with jobs := [job true], parts := [(15, { st := .loading })], banks := bothStandby }), (job true), ⟨by decide +kernel, by decide +kernel,
     by decide +kernel, by decide +kernel, by decide +kernel, by decide +kernel, by decide +kernel⟩, by decide +kernel⟩,
   ⟨15, ({ s0 with jobs := [job false], parts := [(15, { st := .idle })], banks := bothStandby }), (job false), ⟨by decide +kernel, by decide +kernel,
     by decide +kernel, by decide +kernel, by decide +kernel, by decide +kernel, by decide +kernel⟩, by decide +kernel⟩⟩

end Sys2Proof.Tests
end

