-- ==== Sys2Proof/Tests/Witness4.lean ====
section
/-! SUPPORT. Concrete states and operands that meet the hypotheses of the statements, part 4. -/
namespace Sys2Proof.Tests
open Sys2Proof Sys2Proof.Machine
set_option maxRecDepth 4000
set_option Elab.async false

/-- The hypotheses of `Obligations.ModeChangesArm` are met, clause by clause. -/
theorem witness_ModeChangesArm :
    (∃ (ses : Nat) (n : Nat) (p : Nat) (v : Nat) (s : State), p < 16 ∧ Serves s ses 0x20 ∧ hasConfigure s ses p = true ∧ MayArm s ∧ (part s p).st = .idle ∧
      v ≤ 2) ∧
    (∃ (ses : Nat) (n : Nat) (p : Nat) (v : Nat) (s : State), p < 16 ∧ Serves s ses 0x20 ∧ hasConfigure s ses p = true ∧ MayArm s ∧ (part s p).st = .idle ∧
      (v = 0xFF ∨ (v ≤ 7 ∧ bandTables s p v = true))) ∧
    (∃ (ses : Nat) (n : Nat) (v : Nat) (s : State), Serves s ses 0x20 ∧ hasMconfig s ses = true ∧ MayArm s ∧ replacing s = false ∧ v ≤ 3) ∧
    (∃ (s : State), s.modeRec.st = 1 ∧ modeWaits s = false) ∧
    (∃ (s : State), s.modeRec.st = 1 ∧ s.modeRec.since + objD 100 s 0x2400 12 * 1000000 ≤ nowNs s) ∧
    (∃ (i : Nat) (s : State) (x : ModeUnit), s.modeRec.st = 1 ∧ s.modeRec.units[i]? = some x ∧ x.st = 1 ∧ unitDark s x.ident = false) ∧
    (∃ (s : State), s.modeRec.st = 2 ∧ s.modeRec.since + objD 1000 s 0x2400 11 * 1000000 ≤ nowNs s) :=
  ⟨⟨1, 0, 0, 2, s0, by decide +kernel, ⟨by decide +kernel, by decide +kernel, by decide +kernel, by decide +kernel⟩, by decide +kernel, ⟨by decide +kernel,
     by decide +kernel, by decide +kernel, by decide +kernel⟩, by decide +kernel, by decide +kernel⟩,
   ⟨1, 0, 0, 255, s0, by decide +kernel, ⟨by decide +kernel, by decide +kernel, by decide +kernel, by decide +kernel⟩, by decide +kernel, ⟨by decide +kernel,
     by decide +kernel, by decide +kernel, by decide +kernel⟩, by decide +kernel, by decide +kernel⟩,
   ⟨1, 0, 3, s0, ⟨by decide +kernel, by decide +kernel, by decide +kernel, by decide +kernel⟩, by decide +kernel, ⟨by decide +kernel, by decide +kernel,
     by decide +kernel, by decide +kernel⟩, by decide +kernel, by decide +kernel⟩,
   ⟨({ s0 with modeRec := { st := 1, kind := 1 } }), by decide +kernel, by decide +kernel⟩,
   ⟨(later { s0 with modeRec := { st := 1, kind := 1 } }), by decide +kernel, by decide +kernel⟩,
   ⟨0, ({ s0 with modeRec := { st := 1, kind := 1, units := [{ ident := 65536, st := 1 }] } }), ({ ident := 65536, st := 1 }), by decide +kernel,
     by decide +kernel, by decide +kernel, by decide +kernel⟩,
   ⟨(later { s0 with modeRec := { st := 2, kind := 1 } }), by decide +kernel, by decide +kernel⟩⟩

/-- The hypotheses of `Obligations.ModeChangesApply` are met, clause by clause. -/
theorem witness_ModeChangesApply :
    (∃ (ses : Nat) (n : Nat) (epoch : Nat) (s : State), Serves s ses 0x21 ∧ modeRight s ses = true ∧ s.modeRec.st = 2 ∧
      (epoch = 0 ∨ nowNs s + objD 100 s 0x2400 13 * 1000 ≤ epoch)) ∧
    (∃ (bad : List Nat) (s : State), s.modeRec.st = 3 ∧ s.modeRec.epoch ≤ nowNs s) ∧
    (∃ (s : State), s.modeRec.st = 3 ∧ s.modeRec.epoch ≤ nowNs s ∧ (∀ x ∈ s.modeRec.units, x.st ≠ 2)) ∧
    (∃ (s : State) (x : ModeUnit), s.modeRec.st = 3 ∧ s.modeRec.epoch + objD 10 s 0x2400 14 * 1000 ≤ nowNs s ∧
      s.modeRec.units.find? (fun y => y.st == 2) = some x) ∧
    (∃ (ses : Nat) (n : Nat) (s : State), Serves s ses 0x22 ∧ modeRight s ses = true ∧ s.modeRec.st = 2) :=
  ⟨⟨1, 0, 0, ({ s0 with modeRec := { st := 2, kind := 3 } }), ⟨by decide +kernel, by decide +kernel, by decide +kernel, by decide +kernel⟩, by decide +kernel,
     by decide +kernel, .inl rfl⟩,
   ⟨([]), ({ s0 with modeRec := { st := 3, kind := 3 } }), by decide +kernel, by decide +kernel⟩,
   ⟨({ s0 with modeRec := { st := 3, kind := 3, units := [{ ident := 65536, st := 6 }] } }), by decide +kernel, by decide +kernel, by decide +kernel⟩,
   ⟨(later { s0 with modeRec := { st := 3, kind := 3, units := [{ ident := 65536, st := 2 }] } }), ({ ident := 65536, st := 2 }), by decide +kernel,
     by decide +kernel, by decide +kernel⟩,
   ⟨1, 0, ({ s0 with modeRec := { st := 2, kind := 3 } }), ⟨by decide +kernel, by decide +kernel, by decide +kernel, by decide +kernel⟩, by decide +kernel,
     by decide +kernel⟩⟩

/-- The hypotheses of `Obligations.FirmwareRequests` are met, clause by clause. -/
theorem witness_FirmwareRequests :
    (∃ (ses : Nat) (n : Nat) (len : Nat) (s : State), Serves s ses 0x40 ∧ hasFirmware s ses = true ∧ s.fw.st = 0 ∧ len ≤ Config.fwBytes) ∧
    (∃ (ses : Nat) (n : Nat) (off : Nat) (data : List Byte) (s : State), Serves s ses 0x41 ∧ hasFirmware s ses = true ∧ s.fw.st = 1 ∧
      off + data.length ≤ s.fw.len ∧ data.length ≤ 2097136) ∧
    (∃ (ses : Nat) (n : Nat) (s : State) (e : _), Serves s ses 0x42 ∧ hasFirmware s ses = true ∧ s.fw.st = 1 ∧ fwEndFail s.fw = some e) ∧
    (∃ (ses : Nat) (n : Nat) (mask : Nat) (s : State), Serves s ses 0x43 ∧ hasFirmware s ses = true ∧ s.fw.st = 2 ∧ s.power ≠ .recovery ∧
      replacing s = false ∧ bricksSpare s = true) ∧
    (∃ (ses : Nat) (n : Nat) (mask : Nat) (s : State), Serves s ses 0x43 ∧ hasFirmware s ses = true ∧ s.fw.st = 2 ∧ s.power = .recovery) ∧
    (∃ (ses : Nat) (n : Nat) (s : State), Serves s ses 0x44 ∧ hasFirmware s ses = true ∧ s.fw.st = 4) ∧
    (∃ (ses : Nat) (n : Nat) (s : State), Serves s ses 0x45 ∧ hasFirmware s ses = true ∧ s.fw.st = 4) ∧
    (∃ (s : State), s.fw.st = 4 ∧ s.fw.switched = []) ∧
    (∃ (s : State), s.fw.st = 4 ∧ s.fw.switched ≠ []) ∧
    (∃ (ses : Nat) (n : Nat) (s : State), Serves s ses 0x46 ∧ hasFirmware s ses = true ∧ (s.fw.st = 1 ∨ s.fw.st = 2)) ∧
    (∃ (s : State), s.fw.st = 4 ∧ objD 0 s 0x8000 5 ≠ 0 ∧ s.fw.pendingAt + objD 0 s 0x8000 5 * 1000000000 ≤ ageNs s) ∧
    (∃ (ses : Nat) (n : Nat) (s : State), Serves s ses 0x47 ∧ hasFirmware s ses = true ∧ ((s.power = .ready ∨ s.power = .hold))) ∧
    (∃ (ses : Nat) (n : Nat) (s : State), Serves s ses 0x47 ∧ hasFirmware s ses = true ∧ s.power = .stopping) ∧
    (∃ (ses : Nat) (n : Nat) (s : State), Serves s ses 0x47 ∧ hasFirmware s ses = true ∧ ((s.power = .starting ∨ s.power = .attended))) :=
  ⟨⟨1, 0, 0, s0, ⟨by decide +kernel, by decide +kernel, by decide +kernel, by decide +kernel⟩, by decide +kernel, by decide +kernel, Nat.zero_le _⟩,
   ⟨1, 0, 3, ([7]), ({ s0 with fw := { st := 1, len := 4 } }), ⟨by decide +kernel, by decide +kernel, by decide +kernel, by decide +kernel⟩,
     by decide +kernel, by decide +kernel, by decide +kernel, by decide +kernel⟩,
   ⟨1, 0, ({ s0 with fw := { st := 1, len := 4 } }), 0x0710, ⟨by decide +kernel, by decide +kernel, by decide +kernel, by decide +kernel⟩, by decide +kernel,
     by decide +kernel, by decide +kernel⟩,
   ⟨1, 0, 0, ({ bricksOn with fw := { st := 2, slots := [7] } }), ⟨by decide +kernel, by decide +kernel, by decide +kernel, by decide +kernel⟩,
     by decide +kernel, by decide +kernel, by decide +kernel, by decide +kernel, by decide +kernel⟩,
   ⟨1, 0, 0, ({ s0 with power := .recovery, fw := { st := 2, slots := [7] } }), ⟨by decide +kernel, by decide +kernel, by decide +kernel, by decide +kernel⟩,
     by decide +kernel, by decide +kernel, by decide +kernel⟩,
   ⟨1, 0, ({ s0 with fw := { st := 4, slots := [0] } }), ⟨by decide +kernel, by decide +kernel, by decide +kernel, by decide +kernel⟩, by decide +kernel,
     by decide +kernel⟩,
   ⟨1, 0, ({ s0 with fw := { st := 4, switched := [0] } }), ⟨by decide +kernel, by decide +kernel, by decide +kernel, by decide +kernel⟩, by decide +kernel,
     by decide +kernel⟩,
   ⟨({ s0 with fw := { st := 4 } }), by decide +kernel, by decide +kernel⟩,
   ⟨({ s0 with fw := { st := 4, switched := [0] } }), by decide +kernel, by decide +kernel⟩,
   ⟨1, 0, ({ s0 with fw := { st := 2 } }), ⟨by decide +kernel, by decide +kernel, by decide +kernel, by decide +kernel⟩, by decide +kernel, .inr rfl⟩,
   ⟨(later { s0 with fw := { st := 4 }, dict := [(objKey 0x8000 5 0, 60)] }), by decide +kernel, by decide +kernel, by decide +kernel⟩,
   ⟨1, 0, s0, ⟨by decide +kernel, by decide +kernel, by decide +kernel, by decide +kernel⟩, by decide +kernel, .inl rfl⟩,
   ⟨1, 0, ({ s0 with power := .stopping }), ⟨by decide +kernel, by decide +kernel, by decide +kernel, by decide +kernel⟩, by decide +kernel,
     by decide +kernel⟩,
   ⟨1, 0, ({ s0 with power := .attended }), ⟨by decide +kernel, by decide +kernel, by decide +kernel, by decide +kernel⟩, by decide +kernel, .inr rfl⟩⟩

/-- The hypotheses of `Obligations.FirmwareSlotsSwitch` are met, clause by clause. -/
theorem witness_FirmwareSlotsSwitch :
    (∃ (x : Nat) (t : List Nat) (s : State), s.fw.st = 3 ∧ s.fw.todo = x :: t ∧ x ≠ 4 ∧ x ≠ 7) ∧
    (∃ (x : Nat) (t : List Nat) (s : State), s.fw.st = 3 ∧ s.fw.todo = x :: t ∧ x ≠ 4 ∧ x ≠ 7 ∧ s.fw.switched ≠ []) ∧
    (∃ (x : Nat) (t : List Nat) (s : State), s.fw.st = 5 ∧ s.fw.todo = x :: t ∧ x ≠ 4 ∧ x ≠ 7) ∧
    (∃ (l : Nat) (l2 : Nat) (t : List Nat) (r : List Nat) (s : State), s.fw.st = 3 ∧ s.fw.todo = 4 :: t ∧ s.fw.lds = l :: l2 :: r ∧
      hubsWait (hubsMove s) = false) :=
  ⟨⟨0, ([]), ({ s0 with fw := { st := 3, todo := [0] } }), by decide +kernel, by decide +kernel, by decide +kernel, by decide +kernel⟩,
   ⟨8, ([]), ({ s0 with fw := { st := 3, todo := [8], switched := [0] } }), by decide +kernel, by decide +kernel, by decide +kernel, by decide +kernel,
     by decide +kernel⟩,
   ⟨8, ([]), ({ s0 with fw := { st := 5, todo := [8], switched := [8] } }), by decide +kernel, by decide +kernel, by decide +kernel, by decide +kernel⟩,
   ⟨3, 2, ([]), ([1, 0]), ({ s0 with fw := { st := 3, todo := [4] } }), by decide +kernel, by decide +kernel, by decide +kernel, by decide +kernel⟩⟩

/-- The hypotheses of `Obligations.SequencerCommands` are met, clause by clause. -/
theorem witness_SequencerCommands :
    (∃ (t : Nat) (s : State) (r : TileRun) (w : Nat), AtTile s t 0x00 r w) ∧
    (∃ (t : Nat) (s : State) (r : TileRun) (w : Nat), AtTile s t 0x01 r w ∧ tileDrained s t r = true ∧ r.stopping = false) ∧
    (∃ (t : Nat) (s : State) (r : TileRun) (w : Nat), AtTile s t 0x02 r w ∧ r.stopping = false ∧ r.late = false ∧ fld w 119 94 ≤ r.clk ∧
      frozen s r.part = false) ∧
    (∃ (t : Nat) (s : State) (r : TileRun) (w : Nat) (q : StepRun), AtTile s t 0x02 r w ∧ r.stopping = false ∧ r.late = true ∧ stepOf s r.part = some q) ∧
    (∃ (t : Nat) (s : State) (r : TileRun) (w : Nat), AtTile s t 0x03 r w ∧ fld w 113 82 ≤ tileFlag r (fld w 119 114)) ∧
    (∃ (t : Nat) (s : State) (r : TileRun) (w : Nat), AtTile s t 0x03 r w ∧ tileFlag r (fld w 119 114) < fld w 113 82) ∧
    (∃ (t : Nat) (s : State) (r : TileRun) (w : Nat), AtTile s t 0x04 r w ∧ fenceHolds s t (fld w 119 112) r = false) ∧
    (∃ (t : Nat) (s : State) (r : TileRun) (w : Nat), AtTile s t 0x04 r w ∧ fenceHolds s t (fld w 119 112) r = true) ∧
    (∃ (t : Nat) (s : State) (r : TileRun) (w : Nat) (v : Nat), AtTile s t 0x05 r w ∧ bitAt w 119 = false ∧ ownsSync s r.part (fld w 118 109) = true ∧
      v = syncGet s r.part (fld w 118 109) + fld w 108 45 ∧ v < 2 ^ 64) ∧
    (∃ (t : Nat) (s : State) (r : TileRun) (w : Nat), AtTile s t 0x05 r w ∧ bitAt w 119 = true ∧ ownsSync s r.part (fld w 118 109) = true ∧
      fld w 108 45 ≤ syncGet s r.part (fld w 118 109)) ∧
    (∃ (t : Nat) (s : State) (r : TileRun) (w : Nat), AtTile s t 0x07 r w ∧ (debugBit s r.part 0 = false ∨ r.brk = 2)) ∧
    (∃ (t : Nat) (s : State) (r : TileRun) (w : Nat), AtTile s t 0x07 r w ∧ debugBit s r.part 0 = true ∧ r.brk ≠ 2) :=
  ⟨⟨0, (onTile [tcmd 0 []]), (tileRun (onTile [tcmd 0 []]) 0), (tileWord (onTile [tcmd 0 []]) 0), ⟨by decide +kernel, by decide +kernel, by decide +kernel,
     by decide +kernel, by decide +kernel, by decide +kernel, by decide +kernel, by decide +kernel, by decide +kernel, by decide +kernel, by decide +kernel,
     by decide +kernel⟩⟩,
   ⟨0, (onTile [tcmd 1 []]), (tileRun (onTile [tcmd 1 []]) 0), (tileWord (onTile [tcmd 1 []]) 0), ⟨by decide +kernel, by decide +kernel, by decide +kernel,
     by decide +kernel, by decide +kernel, by decide +kernel, by decide +kernel, by decide +kernel, by decide +kernel, by decide +kernel, by decide +kernel,
     by decide +kernel⟩, by decide +kernel, by decide +kernel⟩,
   ⟨0, (onTile [tcmd 2 [(2 ^ 26 - 1, 26, 94)]] { run0 with clk := 2 ^ 26 - 1 }), (tileRun (onTile [tcmd 2 [(2 ^ 26 - 1, 26,
     94)]] { run0 with clk := 2 ^ 26 - 1 }) 0), (tileWord (onTile [tcmd 2 [(2 ^ 26 - 1, 26, 94)]] { run0 with clk := 2 ^ 26 - 1 }) 0), ⟨by decide +kernel,
     by decide +kernel, by decide +kernel, by decide +kernel, by decide +kernel, by decide +kernel, by decide +kernel, by decide +kernel, by decide +kernel,
     by decide +kernel, by decide +kernel, by decide +kernel⟩, by decide +kernel, by decide +kernel, by decide +kernel, by decide +kernel⟩,
   ⟨0, (onTile [tcmd 2 []] { run0 with late := true }), (tileRun (onTile [tcmd 2 []] { run0 with late := true }) 0),
     (tileWord (onTile [tcmd 2 []] { run0 with late := true }) 0), step0, ⟨by decide +kernel, by decide +kernel, by decide +kernel, by decide +kernel,
     by decide +kernel, by decide +kernel, by decide +kernel, by decide +kernel, by decide +kernel, by decide +kernel, by decide +kernel, by decide +kernel⟩,
     by decide +kernel, by decide +kernel, by decide +kernel⟩,
   ⟨0, (onTile [tcmd 3 [(63, 6, 114), (2 ^ 32 - 1, 32, 82)]] { run0 with flags := [(63, 2 ^ 32 - 1)] }), (tileRun (onTile [tcmd 3 [(63, 6, 114), (2 ^ 32 - 1,
     32, 82)]] { run0 with flags := [(63, 2 ^ 32 - 1)] }) 0), (tileWord (onTile [tcmd 3 [(63, 6, 114), (2 ^ 32 - 1, 32,
     82)]] { run0 with flags := [(63, 2 ^ 32 - 1)] }) 0), ⟨by decide +kernel, by decide +kernel, by decide +kernel, by decide +kernel, by decide +kernel,
     by decide +kernel, by decide +kernel, by decide +kernel, by decide +kernel, by decide +kernel, by decide +kernel, by decide +kernel⟩, by decide +kernel⟩,
   ⟨0, (onTile [tcmd 3 [(63, 6, 114), (1, 32, 82)]]), (tileRun (onTile [tcmd 3 [(63, 6, 114), (1, 32, 82)]]) 0), (tileWord (onTile [tcmd 3 [(63, 6, 114), (1,
     32, 82)]]) 0), ⟨by decide +kernel, by decide +kernel, by decide +kernel, by decide +kernel, by decide +kernel, by decide +kernel, by decide +kernel,
     by decide +kernel, by decide +kernel, by decide +kernel, by decide +kernel, by decide +kernel⟩, by decide +kernel⟩,
   ⟨0, (onTile [tcmd 4 [(0xCE, 8, 112)]]), (tileRun (onTile [tcmd 4 [(0xCE, 8, 112)]]) 0), (tileWord (onTile [tcmd 4 [(0xCE, 8, 112)]]) 0),
     ⟨by decide +kernel, by decide +kernel, by decide +kernel, by decide +kernel, by decide +kernel, by decide +kernel, by decide +kernel, by decide +kernel,
     by decide +kernel, by decide +kernel, by decide +kernel, by decide +kernel⟩, by decide +kernel⟩,
   ⟨0, (onTile [tcmd 4 [(2, 8, 112)]] { run0 with calls := [{ off := 0, eng := 1, flag := 0, descs := [] }] }), (tileRun (onTile [tcmd 4 [(2, 8,
     112)]] { run0 with calls := [{ off := 0, eng := 1, flag := 0, descs := [] }] }) 0), (tileWord (onTile [tcmd 4 [(2, 8,
     112)]] { run0 with calls := [{ off := 0, eng := 1, flag := 0, descs := [] }] }) 0), ⟨by decide +kernel, by decide +kernel, by decide +kernel,
     by decide +kernel, by decide +kernel, by decide +kernel, by decide +kernel, by decide +kernel, by decide +kernel, by decide +kernel, by decide +kernel,
     by decide +kernel⟩, by decide +kernel⟩,
   ⟨0, (onTile [tcmd 5 [(1023, 10, 109), (2 ^ 64 - 1, 64, 45)]]), (tileRun (onTile [tcmd 5 [(1023, 10, 109), (2 ^ 64 - 1, 64, 45)]]) 0),
     (tileWord (onTile [tcmd 5 [(1023, 10, 109), (2 ^ 64 - 1, 64, 45)]]) 0), (2 ^ 64 - 1), ⟨by decide +kernel, by decide +kernel, by decide +kernel,
     by decide +kernel, by decide +kernel, by decide +kernel, by decide +kernel, by decide +kernel, by decide +kernel, by decide +kernel, by decide +kernel,
     by decide +kernel⟩, by decide +kernel, by decide +kernel, by decide +kernel, by decide +kernel⟩,
   ⟨0, (onTile [tcmd 5 [(1, 1, 119), (1, 10, 109), (1, 64, 45)]] run0 { (stepping) with sync := [(1, 1)] }), (tileRun (onTile [tcmd 5 [(1, 1, 119), (1, 10,
     109), (1, 64, 45)]] run0 { (stepping) with sync := [(1, 1)] }) 0), (tileWord (onTile [tcmd 5 [(1, 1, 119), (1, 10, 109), (1, 64,
     45)]] run0 { (stepping) with sync := [(1, 1)] }) 0), ⟨by decide +kernel, by decide +kernel, by decide +kernel, by decide +kernel, by decide +kernel,
     by decide +kernel, by decide +kernel, by decide +kernel, by decide +kernel, by decide +kernel, by decide +kernel, by decide +kernel⟩, by decide +kernel,
     by decide +kernel, by decide +kernel⟩,
   ⟨0, (onTile [tcmd 7 []]), (tileRun (onTile [tcmd 7 []]) 0), (tileWord (onTile [tcmd 7 []]) 0), ⟨by decide +kernel, by decide +kernel, by decide +kernel,
     by decide +kernel, by decide +kernel, by decide +kernel, by decide +kernel, by decide +kernel, by decide +kernel, by decide +kernel, by decide +kernel,
     by decide +kernel⟩, .inl (by decide +kernel)⟩,
   ⟨0, (debugMode 1 (onTile [tcmd 7 []])), (tileRun (debugMode 1 (onTile [tcmd 7 []])) 0), (tileWord (debugMode 1 (onTile [tcmd 7 []])) 0),
     ⟨by decide +kernel, by decide +kernel, by decide +kernel, by decide +kernel, by decide +kernel, by decide +kernel, by decide +kernel, by decide +kernel,
     by decide +kernel, by decide +kernel, by decide +kernel, by decide +kernel⟩, by decide +kernel, by decide +kernel⟩⟩

/-- The hypotheses of `Obligations.LateTilesAndCancels` are met, clause by clause. -/
theorem witness_LateTilesAndCancels :
    (∃ (t : Nat) (i : Nat) (w : Nat) (s : State) (r : TileRun) (q : StepRun), tileOk t = true ∧ runOf s t = some r ∧
      nextTstep s t r r.pos (r.ncmd + 1) = some (i, w) ∧ r.late = false ∧ r.stopping = false ∧ i ≠ r.pos ∧ fld w 119 94 ≤ r.clk ∧ stepOf s r.part = some q) ∧
    (∃ (t : Nat) (src : Nat) (start : Nat) (s : State) (r : TileRun), tileOk t = true ∧ tileOk src = true ∧ runOf s t = some r ∧
      Noticed s r.part t src 0 start) ∧
    (∃ (t : Nat) (src : Nat) (start : Nat) (s : State) (r : TileRun), tileOk t = true ∧ tileOk src = true ∧ runOf s t = some r ∧
      Noticed s r.part t src 1 start ∧ (∀ x ∈ r.stalls, x.1 = src)) ∧
    (∃ (p : Nat) (s : State) (q : StepRun), p < 16 ∧ (part s p).st = .stalled ∧ stepOf s p = some q ∧ q.stallPosted = false ∧
      objD 10000 s (pidx 0x51 p) 23 * 1000 < nowNs s - q.stallFrom) ∧
    (∃ (t : Nat) (slot : Nat) (s : State) (r : TileRun) (b : SlotB) (x : Seq), tileOk t = true ∧ runOf s t = some r ∧ slotOf s r.part slot = some b ∧
      seqOf s r.part b.seq = some x ∧ x.cancelled = true ∧ slot ∉ r.masked ++ r.maskNext) ∧
    (∃ (q : Nat) (s : State) (r : RunList) (x : Seq), q < 128 ∧ (part s (qPart q)).st ≠ .free ∧ (queue s (128 + 8 * qPart q)).running = some r ∧
      isMember s (qPart q) = false ∧ seqOf s (qPart q) (fld (r.lst.word r.pos) 223 192) = some x ∧ ((∀ k, stepOf s (qPart q) = some k →
      k.committed = true ∨ ∀ b ∈ k.slots, b.seq ≠ fld (r.lst.word r.pos) 223 192)) ∧ r.pos + 1 ≤ hdrNwords r.lst.hdr) ∧
    (∃ (p : Nat) (seq : Nat) (lat : Nat) (s : State) (k : StepRun) (b : SlotB), p < 16 ∧ cancelPending s p seq = true ∧ isMember s p = false ∧
      stepOf s p = some k ∧ boundSlot s p seq = some b ∧ k.committed = false ∧ b.cancelled = false) ∧
    (∃ (p : Nat) (s : State), p < 16 ∧ acceptMissing s p = true) :=
  ⟨⟨0, 2, (tcmd 2 []), (onTile [tcmd 0 [], tcmd 2 []]), run0, step0, by decide +kernel, by decide +kernel, by decide +kernel, by decide +kernel,
     by decide +kernel, by decide +kernel, by decide +kernel, by decide +kernel⟩,
   ⟨0, 16, 5, ({ onTile [] with parts := [(0, { st := .stepping, place := place, step := some { step0 with notices := [(0, 16, 5, 0)] } })] }), run0,
     by decide +kernel, by decide +kernel, by decide +kernel, ⟨_, _, rfl, rfl, rfl⟩⟩,
   ⟨0, 16, 5,
     ({ onTile [] { run0 with stalls := [(16, 5)] } with parts := [(0, { st := .stalled, place := place, step := some { step0 with notices := [(0, 16, 5, 1)] } })] }),
     ({ run0 with stalls := [(16, 5)] }), by decide +kernel, by decide +kernel, by decide +kernel, ⟨_, _, rfl, rfl, rfl⟩, by decide +kernel⟩,
   ⟨0, (later (withPart fun x => { x with st := .stalled, step := some step0 })), step0, by decide +kernel, by decide +kernel, by decide +kernel,
     by decide +kernel, by decide +kernel⟩,
   ⟨0, 0, (onTile [] run0 (slot9 { cancelled := true })), run0, ((slotOf (onTile [] run0 (slot9 { cancelled := true })) run0.part 0).get (by decide +kernel)),
     ((seqOf (onTile [] run0 (slot9 { cancelled := true })) run0.part ((slotOf (onTile [] run0 (slot9 { cancelled := true })) run0.part 0).get (by decide +kernel)).seq).get (by decide +kernel)),
     by decide +kernel, by decide +kernel, (Option.some_get _).symm, (Option.some_get _).symm, by decide +kernel, by decide +kernel⟩,
   ⟨0, cancelling, (((queue cancelling (128 + 8 * qPart 0)).running).get (by decide +kernel)),
     ((seqOf cancelling (qPart 0) (fld ((((queue cancelling (128 + 8 * qPart 0)).running).get (by decide +kernel)).lst.word (((queue cancelling (128 + 8 * qPart 0)).running).get (by decide +kernel)).pos) 223 192)).get (by decide +kernel)),
     by decide +kernel, by decide +kernel, (Option.some_get _).symm, by decide +kernel, (Option.some_get _).symm,
     (fun k h => by have e : stepOf cancelling (qPart 0) = none := (by decide +kernel); rw [e] at h; cases h), by decide +kernel⟩,
   ⟨0, 9, 0,
     ({ slot9 { cancelled := true } with queues := [(128, { running := some { lst := { words := qWords 0 [cmd 0xF2 [(9, 32, 192)]], session := 1 }, begun := true, aux := [9 * 65536] } })] }),
     step0, slot0, by decide +kernel, by decide +kernel, by decide +kernel, by decide +kernel, by decide +kernel, by decide +kernel, by decide +kernel⟩,
   ⟨0, (stepping { step0 with ended := [0, 16] }), by decide +kernel, by decide +kernel⟩⟩

/-- The hypotheses of `Obligations.VectorCommands` are met, clause by clause. -/
theorem witness_VectorCommands :
    (∃ (t : Nat) (fn : Nat) (c : Instr) (s : State) (r : TileRun) (w : Nat), (c, fn) ∈ vewForms t ∧ AtTile s t 0x30 r w ∧ fld w 119 112 = fn ∧
      0 < fld w 111 96 ∧ Operable s t r (vewSrcs fn (fld w 111 96) (fld w 71 48) (fld w 47 24) (fld w 23 0)) [(fld w 95 72,
      (if fn = 0x16 then 2 else 4) * fld w 111 96, if fn = 0x16 then 2 else 4)] false) ∧
    (∃ (t : Nat) (s : State) (r : TileRun) (w : Nat) (k : Nat), AtTile s t 0x30 r w ∧ fld w 119 112 = 0x15 ∧ fld w 111 96 = 2 * k ∧ 0 < k ∧
      Operable s t r (vewSrcs 0x15 (2 * k) (fld w 71 48) (fld w 47 24) (fld w 23 0)) [(fld w 95 72, 8 * k, 4)] false) ∧
    (∃ (t : Nat) (fn : Nat) (l : Nat) (k : Nat) (c : Instr) (s : State) (r : TileRun) (w : Nat), (c, fn) ∈ [(Instr.vredSum t, 0), (Instr.vredSumSquares t, 1),
      (Instr.vredMax t, 2), (Instr.vredMin t, 3)] ∧ AtTile s t 0x31 r w ∧ fld w 119 112 = fn ∧ fld w 47 32 = l ∧ 0 < l ∧ 0 < k ∧ fld w 111 96 = k * l ∧
      Operable s t r [(fld w 71 48, 4 * (k * l), 4)] [(fld w 95 72, 4 * k, 4)] false) ∧
    (∃ (t : Nat) (n : Nat) (s : State) (r : TileRun) (w : Nat), AtTile s t 0x32 r w ∧ fld w 119 112 = 0 ∧ fld w 23 0 = 0 ∧ fld w 111 96 = n ∧ 0 < n ∧
      opOverlap (fld w 95 72) (4 * n) (fld w 47 24) 12 = false ∧ Operable s t r [(fld w 71 48, 4 * n, 4), (fld w 47 24, 12, 4)] [(fld w 95 72, 4 * n, 4),
      (fld w 47 24, 12, 4)] false) ∧
    (∃ (t : Nat) (k : Nat) (n : Nat) (s : State) (r : TileRun) (w : Nat), AtTile s t 0x34 r w ∧ bitAt w 119 = false ∧ fld w 118 112 = k ∧ 0 < k ∧ k ≤ 64 ∧
      fld w 111 96 = n ∧ 0 < n ∧ Operable s t r [(fld w 95 72, 4 * n, 4), (fld w 71 49, 8, 8)] [(fld w 71 49, 8 + 8 * k, 8)] false) ∧
    (∃ (t : Nat) (k : Nat) (s : State) (r : TileRun) (w : Nat) (ws : List Nat), AtTile s t 0x34 r w ∧ bitAt w 119 = true ∧ fld w 118 112 = k ∧ 0 < k ∧
      k ≤ 64 ∧ fld w 111 96 = 0 ∧ fld w 48 17 = 0 ∧ Operable s t r [(fld w 95 72, 8 + 8 * k, 8), (fld w 71 49, 8 + 8 * k, 8)] [(fld w 71 49, 8 + 8 * k,
      8)] false ∧ topkBad (leNat (opBytes s t (fld w 95 72) 8)) = false ∧ topkBad (leNat (opBytes s t (fld w 71 49) 8)) = false ∧
      topkK (leNat (opBytes s t (fld w 95 72) 8)) = k ∧ topkK (leNat (opBytes s t (fld w 71 49) 8)) = k ∧
      topkTag (leNat (opBytes s t (fld w 95 72) 8)) = topkTag (leNat (opBytes s t (fld w 71 49) 8)) ∧
      topkMerge (listWords s t (fld w 71 49) k) (listWords s t (fld w 95 72) k) = .inr ws ∧ ws.length = k + 1) ∧
    (∃ (t : Nat) (n : Nat) (s : State) (r : TileRun) (w : Nat), AtTile s t 0x40 r w ∧ fld w 95 72 = 4 * n ∧ 0 < n ∧ Operable s t r [] [(fld w 119 96, 4 * n,
      4)] false) ∧
    (∃ (t : Nat) (n : Nat) (s : State) (r : TileRun) (w : Nat), AtTile s t 0x41 r w ∧ fld w 95 72 = 4 * n ∧ 0 < n ∧ Operable s t r [(fld w 71 48, 4 * n,
      1)] [(fld w 119 96, 4 * n, 1)] true) :=
  ⟨⟨0, 1, (.vewAdd 0), (onTile [tcmd 0x30 [(1, 8, 112), (1, 16, 96), (4096, 24, 72), (4096, 24, 48), (2 ^ 23, 24, 24)]] run0 scaledRow),
     (tileRun (onTile [tcmd 0x30 [(1, 8, 112), (1, 16, 96), (4096, 24, 72), (4096, 24, 48), (2 ^ 23, 24, 24)]] run0 scaledRow) 0),
     (tileWord (onTile [tcmd 0x30 [(1, 8, 112), (1, 16, 96), (4096, 24, 72), (4096, 24, 48), (2 ^ 23, 24, 24)]] run0 scaledRow) 0), by decide +kernel,
     ⟨by decide +kernel, by decide +kernel, by decide +kernel, by decide +kernel, by decide +kernel, by decide +kernel, by decide +kernel, by decide +kernel,
     by decide +kernel, by decide +kernel, by decide +kernel, by decide +kernel⟩, by decide +kernel, by decide +kernel, ⟨by decide +kernel, by decide +kernel,
     by decide +kernel, by decide +kernel, by decide +kernel⟩⟩,
   ⟨0, (onTile [tcmd 0x30 [(0x15, 8, 112), (2, 16, 96), (4096, 24, 72), (8192, 24, 48), (8200, 24, 24)]]), (tileRun (onTile [tcmd 0x30 [(0x15, 8, 112), (2,
     16, 96), (4096, 24, 72), (8192, 24, 48), (8200, 24, 24)]]) 0), (tileWord (onTile [tcmd 0x30 [(0x15, 8, 112), (2, 16, 96), (4096, 24, 72), (8192, 24, 48),
     (8200, 24, 24)]]) 0), 1, ⟨by decide +kernel, by decide +kernel, by decide +kernel, by decide +kernel, by decide +kernel, by decide +kernel,
     by decide +kernel, by decide +kernel, by decide +kernel, by decide +kernel, by decide +kernel, by decide +kernel⟩, by decide +kernel, by decide +kernel,
     by decide +kernel, ⟨by decide +kernel, by decide +kernel, by decide +kernel, by decide +kernel, by decide +kernel⟩⟩,
   ⟨0, 3, 2, 2, (.vredMin 0), (onTile [tcmd 0x31 [(3, 8, 112), (4, 16, 96), (4096, 24, 72), (8192, 24, 48), (2, 16, 32)]]), (tileRun (onTile [tcmd 0x31 [(3,
     8, 112), (4, 16, 96), (4096, 24, 72), (8192, 24, 48), (2, 16, 32)]]) 0), (tileWord (onTile [tcmd 0x31 [(3, 8, 112), (4, 16, 96), (4096, 24, 72), (8192,
     24, 48), (2, 16, 32)]]) 0), by decide +kernel, ⟨by decide +kernel, by decide +kernel, by decide +kernel, by decide +kernel, by decide +kernel,
     by decide +kernel, by decide +kernel, by decide +kernel, by decide +kernel, by decide +kernel, by decide +kernel, by decide +kernel⟩, by decide +kernel,
     by decide +kernel, by decide +kernel, by decide +kernel, by decide +kernel, ⟨by decide +kernel, by decide +kernel, by decide +kernel, by decide +kernel,
     by decide +kernel⟩⟩,
   ⟨0, 1, (onTile [tcmd 0x32 [(1, 16, 96), (4096, 24, 72), (4096, 24, 48), (8192, 24, 24)]]), (tileRun (onTile [tcmd 0x32 [(1, 16, 96), (4096, 24, 72), (4096,
     24, 48), (8192, 24, 24)]]) 0), (tileWord (onTile [tcmd 0x32 [(1, 16, 96), (4096, 24, 72), (4096, 24, 48), (8192, 24, 24)]]) 0), ⟨by decide +kernel,
     by decide +kernel, by decide +kernel, by decide +kernel, by decide +kernel, by decide +kernel, by decide +kernel, by decide +kernel, by decide +kernel,
     by decide +kernel, by decide +kernel, by decide +kernel⟩, by decide +kernel, by decide +kernel, by decide +kernel, by decide +kernel, by decide +kernel,
     ⟨by decide +kernel, by decide +kernel, by decide +kernel, by decide +kernel, by decide +kernel⟩⟩,
   ⟨0, 64, 1, (onTile [tcmd 0x34 [(64, 7, 112), (1, 16, 96), (4096, 24, 72), (8192, 23, 49)]]), (tileRun (onTile [tcmd 0x34 [(64, 7, 112), (1, 16, 96), (4096,
     24, 72), (8192, 23, 49)]]) 0), (tileWord (onTile [tcmd 0x34 [(64, 7, 112), (1, 16, 96), (4096, 24, 72), (8192, 23, 49)]]) 0), ⟨by decide +kernel,
     by decide +kernel, by decide +kernel, by decide +kernel, by decide +kernel, by decide +kernel, by decide +kernel, by decide +kernel, by decide +kernel,
     by decide +kernel, by decide +kernel, by decide +kernel⟩, by decide +kernel, by decide +kernel, by decide +kernel, by decide +kernel, by decide +kernel,
     by decide +kernel, ⟨by decide +kernel, by decide +kernel, by decide +kernel, by decide +kernel, by decide +kernel⟩⟩,
   ⟨0, 1, (withSp 4096 (leBytes 8 listHead) (withSp 8192 (leBytes 8 listHead) (onTile [tcmd 0x34 [(1, 1, 119), (1, 7, 112), (4096, 24, 72), (8192, 23,
     49)]]))), (tileRun (withSp 4096 (leBytes 8 listHead) (withSp 8192 (leBytes 8 listHead) (onTile [tcmd 0x34 [(1, 1, 119), (1, 7, 112), (4096, 24, 72),
     (8192, 23, 49)]]))) 0), (tileWord (withSp 4096 (leBytes 8 listHead) (withSp 8192 (leBytes 8 listHead) (onTile [tcmd 0x34 [(1, 1, 119), (1, 7, 112),
     (4096, 24, 72), (8192, 23, 49)]]))) 0), _, ⟨by decide +kernel, by decide +kernel, by decide +kernel, by decide +kernel, by decide +kernel,
     by decide +kernel, by decide +kernel, by decide +kernel, by decide +kernel, by decide +kernel, by decide +kernel, by decide +kernel⟩, by decide +kernel,
     by decide +kernel, by decide +kernel, by decide +kernel, by decide +kernel, by decide +kernel, ⟨by decide +kernel, by decide +kernel, by decide +kernel,
     by decide +kernel, by decide +kernel⟩, by decide +kernel, by decide +kernel, by decide +kernel, by decide +kernel, by decide +kernel, rfl, rfl⟩,
   ⟨0, 1, (onTile [tcmd 0x40 [(4096, 24, 96), (4, 24, 72)]]), (tileRun (onTile [tcmd 0x40 [(4096, 24, 96), (4, 24, 72)]]) 0),
     (tileWord (onTile [tcmd 0x40 [(4096, 24, 96), (4, 24, 72)]]) 0), ⟨by decide +kernel, by decide +kernel, by decide +kernel, by decide +kernel,
     by decide +kernel, by decide +kernel, by decide +kernel, by decide +kernel, by decide +kernel, by decide +kernel, by decide +kernel, by decide +kernel⟩,
     by decide +kernel, by decide +kernel, ⟨by decide +kernel, by decide +kernel, by decide +kernel, by decide +kernel, by decide +kernel⟩⟩,
   ⟨0, 1, (onTile [tcmd 0x41 [(4097, 24, 96), (4, 24, 72), (4096, 24, 48)]]), (tileRun (onTile [tcmd 0x41 [(4097, 24, 96), (4, 24, 72), (4096, 24, 48)]]) 0),
     (tileWord (onTile [tcmd 0x41 [(4097, 24, 96), (4, 24, 72), (4096, 24, 48)]]) 0), ⟨by decide +kernel, by decide +kernel, by decide +kernel,
     by decide +kernel, by decide +kernel, by decide +kernel, by decide +kernel, by decide +kernel, by decide +kernel, by decide +kernel, by decide +kernel,
     by decide +kernel⟩, by decide +kernel, by decide +kernel, ⟨by decide +kernel, by decide +kernel, by decide +kernel, by decide +kernel,
     by decide +kernel⟩⟩⟩

/-- The hypotheses of `Obligations.ArrayTensorAndGuardCommands` are met, clause by clause. -/
theorem witness_ArrayTensorAndGuardCommands :
    (∃ (t : Nat) (a : Nat) (b : Nat) (wide : Bool) (s : State) (r : TileRun) (w : Nat), AtTile s t 0x10 r w ∧ bitAt w 112 = wide ∧ fld w 111 110 = 0 ∧
      a = fld w 119 114 ∧ ((fld w 113 113 = 1 → (part s r.part).place.dual = true)) ∧ mapBank s t a (fld w 113 113) = some b ∧
      (bankOf s (bankKey t a b)).st ≠ .invalid ∧ (bankOf s (bankKey t a b)).st ≠ .repairing ∧ rowTaken s t (fld w 109 103) = false ∧ r.redirects = [] ∧
      debugBit s r.part 1 = false ∧ opOk (fld w 80 57) (if wide then 1024 else 512) 1 = true ∧
      opPending s t (fld w 80 57) (if wide then 1024 else 512) = false ∧ opReadFault s t (fld w 80 57) (if wide then 1024 else 512) = none ∧
      fld w 56 34 < spTop ∧ opPending s t (fld w 56 34) 1 = false ∧ opReadFault s t (fld w 56 34) 1 = none) ∧
    (∃ (t : Nat) (a : Nat) (codes : List (List (BitVec 12))) (s : State) (r : TileRun) (e : EvalRun), tileOk t = true ∧ runOf s t = some r ∧
      r.evals.find? (fun e => e.array == a) = some e ∧ e.suppressed = false ∧ e.row < 128) ∧
    (∃ (t : Nat) (row : Nat) (cs : Nat) (s : State) (r : TileRun) (w : Nat), AtTile s t 0x11 r w ∧ row = fld w 119 113 ∧ cs = fld w 112 90 ∧
      opOk cs 4096 4 = true ∧ rowPending s t row = false ∧ opPending s t cs 4096 = false ∧ accScaled s t row = false ∧
      opReadFault s t (2 ^ 23 + row * 4096) 4096 true = none ∧ opReadFault s t cs 4096 = none ∧ debugBit s r.part 1 = false) ∧
    (∃ (t : Nat) (fa : Nat) (fb : Nat) (m : Nat) (n : Nat) (kb : Nat) (acc : Bool) (s : State) (r : TileRun) (w : Nat), AtTile s t 0x20 r w ∧
      fa = tmmFmt (fld w 119 115) (fld w 114 110) ∧ fb = tmmFmt (fld w 114 110) (fld w 119 115) ∧ 1 ≤ fa ∧ fa ≤ 7 ∧ 1 ≤ fb ∧ fb ≤ 7 ∧ (fa = 1 ↔ fb = 1) ∧
      m = fld w 109 104 + 1 ∧ n = fld w 103 98 + 1 ∧ kb = fld w 97 82 ∧ 0 < kb ∧ acc = bitAt w 11 ∧ ((opAcc (fld w 35 12) = true → fld w 35 12 % 4096 = 0)) ∧
      r.redirects = [] ∧ r.tmms.length < 3 ∧ Operable s t r [(fld w 81 59, matBytes fa m kb, if fa = 1 then 2 else 1), (fld w 58 36, matBytes fb n kb,
      if fb = 1 then 2 else 1)] [(fld w 35 12, if opAcc (fld w 35 12) then (m + 15) / 16 * 4096 else 4 * (64 * (m - 1) + n), 4)] true ∧ ((acc = true →
      opPending s t (fld w 35 12) (if opAcc (fld w 35 12) then (m + 15) / 16 * 4096 else 4 * (64 * (m - 1) + n)) = false ∧
      opReadFault s t (fld w 35 12) (if opAcc (fld w 35 12) then (m + 15) / 16 * 4096 else 4 * (64 * (m - 1) + n)) = none))) ∧
    (∃ (t : Nat) (s : State) (r : TileRun) (x : TmmRun) (rest : List TmmRun), tileOk t = true ∧ runOf s t = some r ∧ r.tmms = x :: rest ∧
      x.suppressed = false ∧ tmmFault s t x = none ∧ (x.words.map (·.1)).Nodup) ∧
    (∃ (t : Nat) (d : Nat) (nb : Nat) (src : Nat) (sb : Nat) (dst : Nat) (dsts : Nat) (bf : Bool) (s : State) (r : TileRun) (w : Nat) (c : TCtx) (qs : List Quant),
      AtTile s t 0x33 r w ∧ d = fld w 119 115 ∧ bf = bitAt w 114 ∧ nb = fld w 113 98 ∧ src = fld w 97 74 ∧ dst = fld w 73 51 ∧ dsts = fld w 50 28 ∧
      sb = nb * unitLen d * (if bf then 2 else 4) ∧ 2 ≤ d ∧ d ≤ 9 ∧ 0 < nb ∧ ((guardedFmt d = true → r.grd = true)) ∧ Operable s t r [(src, sb,
      if bf then 2 else 4)] [(dst, nb * unitBytes d, 1), (dsts, nb, 1)] false ∧ opOverlap dst (nb * unitBytes d) dsts nb = false ∧
      c = { p := r.part, t := t, run := r, w := w } ∧ runFmt s c d = d ∧
      qs = (List.range nb).map (fun i => quantise d (((quantSource s t src (nb * unitLen d) bf).drop (i * unitLen d)).take (unitLen d))) ∧
      ((guardedFmt d = true → slotMasked s r (fld w 27 20) = false → ∀ b ∈ guardBlocks d qs, blockFlagged s r.part b = false))) ∧
    (∃ (t : Nat) (d : Nat) (nb : Nat) (src : Nat) (sb : Nat) (dst : Nat) (dsts : Nat) (bf : Bool) (s : State) (r : TileRun) (w : Nat) (c : TCtx) (qs : List Quant),
      AtTile s t 0x33 r w ∧ d = fld w 119 115 ∧ bf = bitAt w 114 ∧ nb = fld w 113 98 ∧ src = fld w 97 74 ∧ dst = fld w 73 51 ∧ dsts = fld w 50 28 ∧
      sb = nb * unitLen d * (if bf then 2 else 4) ∧ 2 ≤ d ∧ d ≤ 9 ∧ 0 < nb ∧ ((guardedFmt d = true → r.grd = true)) ∧ Operable s t r [(src, sb,
      if bf then 2 else 4)] [(dst, nb * unitBytes d, 1), (dsts, nb, 1)] false ∧ opOverlap dst (nb * unitBytes d) dsts nb = false ∧
      c = { p := r.part, t := t, run := r, w := w } ∧ runFmt s c d = d ∧
      qs = (List.range nb).map (fun i => quantise d (((quantSource s t src (nb * unitLen d) bf).drop (i * unitLen d)).take (unitLen d))) ∧
      (guardedFmt d = true ∧ slotMasked s r (fld w 27 20) = false ∧ ∃ b ∈ guardBlocks d qs, blockFlagged s r.part b = true)) ∧
    (∃ (t : Nat) (s : State) (r : TileRun), tileOk t = true ∧ runOf s t = some r ∧ r.flagged = true) :=
  ⟨⟨0, 3, 0, true, (onTile [tcmd 0x10 [(3, 6, 114), (1, 1, 112), (127, 7, 103), (4096, 24, 57), (8192, 23,
     34)]] run0 { (stepping) with bankMap := [(bankKey 0 3 0, 0)] }), (tileRun (onTile [tcmd 0x10 [(3, 6, 114), (1, 1, 112), (127, 7, 103), (4096, 24, 57),
     (8192, 23, 34)]] run0 { (stepping) with bankMap := [(bankKey 0 3 0, 0)] }) 0), (tileWord (onTile [tcmd 0x10 [(3, 6, 114), (1, 1, 112), (127, 7, 103),
     (4096, 24, 57), (8192, 23, 34)]] run0 { (stepping) with bankMap := [(bankKey 0 3 0, 0)] }) 0), ⟨by decide +kernel, by decide +kernel, by decide +kernel,
     by decide +kernel, by decide +kernel, by decide +kernel, by decide +kernel, by decide +kernel, by decide +kernel, by decide +kernel, by decide +kernel,
     by decide +kernel⟩, by decide +kernel, by decide +kernel, by decide +kernel, by decide +kernel, by decide +kernel, by decide +kernel, by decide +kernel,
     by decide +kernel, by decide +kernel, by decide +kernel, by decide +kernel, by decide +kernel, by decide +kernel, by decide +kernel, by decide +kernel,
     by decide +kernel⟩,
   ⟨0, 3, ([]), (onTile [] { run0 with evals := [evaluation] }), ({ run0 with evals := [evaluation] }), evaluation, by decide +kernel, by decide +kernel,
     by decide +kernel, by decide +kernel, by decide +kernel⟩,
   ⟨0, 127, 4096, (onTile [tcmd 0x11 [(127, 7, 113), (4096, 23, 90)]]), (tileRun (onTile [tcmd 0x11 [(127, 7, 113), (4096, 23, 90)]]) 0),
     (tileWord (onTile [tcmd 0x11 [(127, 7, 113), (4096, 23, 90)]]) 0), ⟨by decide +kernel, by decide +kernel, by decide +kernel, by decide +kernel,
     by decide +kernel, by decide +kernel, by decide +kernel, by decide +kernel, by decide +kernel, by decide +kernel, by decide +kernel, by decide +kernel⟩,
     by decide +kernel, by decide +kernel, by decide +kernel, by decide +kernel, by decide +kernel, by decide +kernel, by decide +kernel, by decide +kernel,
     by decide +kernel⟩,
   ⟨0, 6, 6, 1, 1, 1, false, (onTile [tcmd 0x20 [(6, 5, 115), (6, 5, 110), (1, 16, 82), (4096, 23, 59), (8192, 23, 36), (12288, 24, 12)]]),
     (tileRun (onTile [tcmd 0x20 [(6, 5, 115), (6, 5, 110), (1, 16, 82), (4096, 23, 59), (8192, 23, 36), (12288, 24, 12)]]) 0),
     (tileWord (onTile [tcmd 0x20 [(6, 5, 115), (6, 5, 110), (1, 16, 82), (4096, 23, 59), (8192, 23, 36), (12288, 24, 12)]]) 0), ⟨by decide +kernel,
     by decide +kernel, by decide +kernel, by decide +kernel, by decide +kernel, by decide +kernel, by decide +kernel, by decide +kernel, by decide +kernel,
     by decide +kernel, by decide +kernel, by decide +kernel⟩, by decide +kernel, by decide +kernel, by decide +kernel, by decide +kernel, by decide +kernel,
     by decide +kernel, by decide +kernel, by decide +kernel, by decide +kernel, by decide +kernel, by decide +kernel, by decide +kernel, by decide +kernel,
     by decide +kernel, by decide +kernel, ⟨by decide +kernel, by decide +kernel, by decide +kernel, by decide +kernel, by decide +kernel⟩, by decide +kernel⟩,
   ⟨0, (onTile [] { run0 with tmms := [product] }), ({ run0 with tmms := [product] }), product, ([]), by decide +kernel, by decide +kernel, by decide +kernel,
     by decide +kernel, by decide +kernel, by decide +kernel⟩,
   ⟨0, 6, 1, (fld (tileWord quantState 0) 97 74), (1 * unitLen 6 * (if true then 2 else 4)), (fld (tileWord quantState 0) 73 51),
     (fld (tileWord quantState 0) 50 28), true, quantState, (tileRun quantState 0), (tileWord quantState 0),
     ({ p := 0, t := 0, run := tileRun quantState 0, w := tileWord quantState 0 }), (quants quantState), ⟨by decide +kernel, by decide +kernel,
     by decide +kernel, by decide +kernel, by decide +kernel, by decide +kernel, by decide +kernel, by decide +kernel, by decide +kernel, by decide +kernel,
     by decide +kernel, by decide +kernel⟩, by decide +kernel, by decide +kernel, by decide +kernel, rfl, rfl, rfl, rfl, by decide +kernel, by decide +kernel,
     by decide +kernel, by decide +kernel, ⟨by decide +kernel, by decide +kernel, by decide +kernel, by decide +kernel, by decide +kernel⟩, by decide +kernel,
     rfl, by decide +kernel, by decide +kernel, by decide +kernel⟩,
   ⟨0, 6, 1, (fld (tileWord guardState 0) 97 74), (1 * unitLen 6 * (if true then 2 else 4)), (fld (tileWord guardState 0) 73 51),
     (fld (tileWord guardState 0) 50 28), true, guardState, (tileRun guardState 0), (tileWord guardState 0),
     ({ p := 0, t := 0, run := tileRun guardState 0, w := tileWord guardState 0 }), (quants guardState), ⟨by decide +kernel, by decide +kernel,
     by decide +kernel, by decide +kernel, by decide +kernel, by decide +kernel, by decide +kernel, by decide +kernel, by decide +kernel, by decide +kernel,
     by decide +kernel, by decide +kernel⟩, by decide +kernel, by decide +kernel, by decide +kernel, rfl, rfl, rfl, rfl, by decide +kernel, by decide +kernel,
     by decide +kernel, by decide +kernel, ⟨by decide +kernel, by decide +kernel, by decide +kernel, by decide +kernel, by decide +kernel⟩, by decide +kernel,
     rfl, by decide +kernel, by decide +kernel, by decide +kernel⟩,
   ⟨0, (onTile [] { run0 with flagged := true }), ({ run0 with flagged := true }), by decide +kernel, by decide +kernel, by decide +kernel⟩⟩

/-- The hypotheses of `Obligations.FabricAttentionAndSamplerCommands` are met, clause by clause. -/
theorem witness_FabricAttentionAndSamplerCommands :
    (∃ (t : Nat) (src : Nat) (n : Nat) (dst : Nat) (s : State) (r : TileRun) (w : Nat) (d : PTile), AtTile s t 0x50 r w ∧ src = fld w 119 96 ∧
      n = fld w 95 72 ∧ dst = fld w 59 36 ∧ 0 < n ∧ n % 4 = 0 ∧ opOk src n 1 = true ∧ opOk dst n 1 = true ∧
      ptile (part s r.part).place (fld w 71 60) = some d ∧ opProtected s r.part d.tile dst n = false ∧ opPending s t src n = false ∧ inFlight s t < 16 ∧
      opReadFault s t src n = none ∧ debugBit s r.part 1 = false) ∧
    (∃ (src : Nat) (s : State) (pre : List Flight) (post : List Flight) (f : Flight) (r : TileRun), tileOk src = true ∧ s.flights = pre ++ f :: post ∧
      f.src = src ∧ flightHeld s f = false ∧ ((∀ g ∈ pre, f.lane = none ∨ g.lane ≠ f.lane ∨ g.dst ≠ f.dst)) ∧ (ownerOf s f.dst).map (·.1) = some f.part ∧
      opWriteFault s f.dst f.addr f.data.length = none ∧ opOk f.addr f.data.length 1 = true ∧ debugBit s f.part 1 = false ∧ stepNoOf s f.part = f.step ∧
      runOf s f.dst = some r ∧ tileFlag r f.flag ≠ 0xFFFFFFFF) ∧
    (∃ (t : Nat) (src : Nat) (nw : Nat) (idx : Nat) (pti : Nat) (topk : Bool) (s : State) (r : TileRun) (w : Nat) (d : Reduce) (x : PTile),
      AtTile s t 0x51 r w ∧ src = fld w 119 96 ∧ nw = fld w 95 80 ∧ idx = fld w 67 52 ∧ topk = bitAt w 51 ∧ reduceOf s r.part (fld w 79 68) = some d ∧
      d.contribs[idx]? = some pti ∧ ptile (part s r.part).place pti = some x ∧ x.tile = t ∧ (d.kind = 1 ↔ topk = true) ∧ debugBit s r.part 1 = false ∧
      inFlight s t < 16 ∧ topk = false ∧ 0 < nw ∧ nw = d.nw ∧ opOk src (Nat.max (4 * nw) 8) 4 = true ∧ opPending s t src (4 * nw) = false ∧
      opReadFault s t src (4 * nw) = none) ∧
    (∃ (t : Nat) (src : Nat) (nw : Nat) (idx : Nat) (pti : Nat) (topk : Bool) (s : State) (r : TileRun) (w : Nat) (d : Reduce) (x : PTile) (k : _),
      AtTile s t 0x51 r w ∧ src = fld w 119 96 ∧ nw = fld w 95 80 ∧ idx = fld w 67 52 ∧ topk = bitAt w 51 ∧ reduceOf s r.part (fld w 79 68) = some d ∧
      d.contribs[idx]? = some pti ∧ ptile (part s r.part).place pti = some x ∧ x.tile = t ∧ (d.kind = 1 ↔ topk = true) ∧ debugBit s r.part 1 = false ∧
      inFlight s t < 16 ∧ topk = true ∧ nw = 0 ∧ k = topkK (leNat (opBytes s t src 8)) ∧ topkBad (leNat (opBytes s t src 8)) = false ∧
      opOk src (8 + 8 * k) 8 = true ∧ opPending s t src (8 + 8 * k) = false ∧ opReadFault s t src (8 + 8 * k) = none) ∧
    (∃ (i : Nat) (s : State) (f : RFlight) (d : Reduce), s.rflights[i]? = some f ∧ reduceOf s f.part f.rid = some d ∧ 1 < f.n ∧ legHeld s d f = false ∧
      slotFor s f = none) ∧
    (∃ (i : Nat) (s : State) (f : RFlight) (d : Reduce) (g : _) (l : _) (m : _), s.rflights[i]? = some f ∧ reduceOf s f.part f.rid = some d ∧ 1 < f.n ∧
      legHeld s d f = false ∧ slotFor s f = some g ∧ g.step = f.step ∧ l = (if f.idx % 2 = 0 then f.data else g.data) ∧
      m = (if f.idx % 2 = 0 then g.data else f.data) ∧ d.kind ≠ 1) ∧
    (∃ (i : Nat) (s : State) (f : RFlight) (d : Reduce) (g : _) (l : _) (m : _) (ws : _), s.rflights[i]? = some f ∧ reduceOf s f.part f.rid = some d ∧
      1 < f.n ∧ legHeld s d f = false ∧ slotFor s f = some g ∧ g.step = f.step ∧ l = (if f.idx % 2 = 0 then f.data else g.data) ∧
      m = (if f.idx % 2 = 0 then g.data else f.data) ∧ d.kind = 1 ∧ topkMerge l m = .inr ws) ∧
    (∃ (i : Nat) (s : State) (f : RFlight) (d : Reduce) (x : PTile) (r : TileRun) (bs : List Byte), s.rflights[i]? = some f ∧
      reduceOf s f.part f.rid = some d ∧ f.n ≤ 1 ∧ legHeld s d f = false ∧ ptile (part s f.part).place d.dpti = some x ∧ bs = resultBytes d f ∧
      opProtected s f.part x.tile (reduceDst x d) bs.length = false ∧ opWriteFault s x.tile (reduceDst x d) bs.length = none ∧
      opOk (reduceDst x d) bs.length 1 = true ∧ debugBit s f.part 1 = false ∧ stepNoOf s f.part = f.step ∧ runOf s x.tile = some r ∧
      tileFlag r d.dflag ≠ 0xFFFFFFFF) ∧
    (∃ (t : Nat) (slot : Nat) (p0 : Nat) (n : Nat) (dst : Nat) (s : State) (r : TileRun) (w : Nat) (c : TCtx) (x : KvCtx), AtTile s t 0x60 r w ∧
      c = { p := r.part, t := t, run := r, w := w } ∧ slot = fld w 119 112 ∧ p0 = fld w 103 72 ∧ n = fld w 71 56 ∧ dst = fld w 55 33 ∧
      kvCtx s c slot (fld w 111 104) = some x ∧ 0 < n ∧ n % 32 = 0 ∧ p0 % 32 = 0 ∧ dst + kvrdBytes x n ≤ spTop ∧
      opProtected s r.part t dst (kvrdBytes x n) = false ∧ preparing s t = false ∧ r.kvrds.length < 8 ∧ debugBit s r.part 1 = false ∧
      slotMasked s r slot = true) ∧
    (∃ (t : Nat) (slot : Nat) (p0 : Nat) (n : Nat) (dst : Nat) (s : State) (r : TileRun) (w : Nat) (c : TCtx) (x : KvCtx) (b : _) (s1 : _) (pages : _),
      AtTile s t 0x60 r w ∧ c = { p := r.part, t := t, run := r, w := w } ∧ slot = fld w 119 112 ∧ p0 = fld w 103 72 ∧ n = fld w 71 56 ∧ dst = fld w 55 33 ∧
      kvCtx s c slot (fld w 111 104) = some x ∧ 0 < n ∧ n % 32 = 0 ∧ p0 % 32 = 0 ∧ dst + kvrdBytes x n ≤ spTop ∧
      opProtected s r.part t dst (kvrdBytes x n) = false ∧ preparing s t = false ∧ r.kvrds.length < 8 ∧ debugBit s r.part 1 = false ∧
      slotMasked s r slot = false ∧ slotOf s r.part slot = some b ∧
      pages = (if p0 < Nat.min (p0 + n) (b.len + b.nnode) then (List.range ((Nat.min (p0 + n) (b.len + b.nnode) - 1) / 64 + 1 - p0 / 64)).map (· + p0 / 64) else []) ∧
      pages.foldl (walkPage c x b) (.inr s) = .inr s1 ∧ (∀ i ∈ pages, ringBad s1 c x b i = false)) ∧
    (∃ (t : Nat) (s : State) (r : TileRun) (k : KvrdRun) (rest : List KvrdRun), tileOk t = true ∧ runOf s t = some r ∧ r.kvrds = k :: rest ∧
      tileDark s t = false ∧ ((k.far = true → bridgeCut s r.part t = false)) ∧ opWriteFault s t k.dst k.data.length = none ∧ k.dst < spTop ∧
      tileFlag r k.flag ≠ 0xFFFFFFFF) ∧
    (∃ (t : Nat) (slot : Nat) (node : Nat) (src : Nat) (m : Nat) (h : Nat) (s : State) (r : TileRun) (w : Nat) (c : TCtx) (x : KvCtx) (bs : List Byte),
      AtTile s t 0x61 r w ∧ c = { p := r.part, t := t, run := r, w := w } ∧ slot = fld w 119 112 ∧ node = fld w 111 108 ∧
      kvCtx s c slot (fld w 90 83) = some x ∧ m = x.k.nh * x.g.dh ∧ h = m * kvEsize x.g ∧ src = 2 ^ 23 + fld w 107 101 * 4096 + 4 * fld w 100 91 ∧
      fld w 100 91 + 2 * m ≤ 1024 ∧ opPending s t src (8 * m) = false ∧ preparing s t = false ∧ debugBit s r.part 1 = false ∧
      bs = ((opW32 s t src (2 * m)).zip (List.range (2 * m))).flatMap (fun e => leBytes (kvEsize x.g) (kvConvert x.g.fmt (kvScale s c x (e.2 / m) (e.2 % m / x.g.dh)) e.1).1) ∧
      slotMasked s r slot = true) ∧
    (∃ (t : Nat) (slot : Nat) (node : Nat) (src : Nat) (m : Nat) (h : Nat) (s : State) (r : TileRun) (w : Nat) (c : TCtx) (x : KvCtx) (bs : List Byte) (b : _),
      AtTile s t 0x61 r w ∧ c = { p := r.part, t := t, run := r, w := w } ∧ slot = fld w 119 112 ∧ node = fld w 111 108 ∧
      kvCtx s c slot (fld w 90 83) = some x ∧ m = x.k.nh * x.g.dh ∧ h = m * kvEsize x.g ∧ src = 2 ^ 23 + fld w 107 101 * 4096 + 4 * fld w 100 91 ∧
      fld w 100 91 + 2 * m ≤ 1024 ∧ opPending s t src (8 * m) = false ∧ preparing s t = false ∧ debugBit s r.part 1 = false ∧
      bs = ((opW32 s t src (2 * m)).zip (List.range (2 * m))).flatMap (fun e => leBytes (kvEsize x.g) (kvConvert x.g.fmt (kvScale s c x (e.2 / m) (e.2 % m / x.g.dh)) e.1).1) ∧
      slotMasked s r slot = false ∧ slotOf s r.part slot = some b ∧ b.nnode ≤ node) ∧
    (∃ (t : Nat) (slot : Nat) (node : Nat) (src : Nat) (m : Nat) (h : Nat) (s : State) (r : TileRun) (w : Nat) (c : TCtx) (x : KvCtx) (bs : List Byte) (b : _) (o1 : _) (o2 : _),
      AtTile s t 0x61 r w ∧ c = { p := r.part, t := t, run := r, w := w } ∧ slot = fld w 119 112 ∧ node = fld w 111 108 ∧
      kvCtx s c slot (fld w 90 83) = some x ∧ m = x.k.nh * x.g.dh ∧ h = m * kvEsize x.g ∧ src = 2 ^ 23 + fld w 107 101 * 4096 + 4 * fld w 100 91 ∧
      fld w 100 91 + 2 * m ≤ 1024 ∧ opPending s t src (8 * m) = false ∧ preparing s t = false ∧ debugBit s r.part 1 = false ∧
      bs = ((opW32 s t src (2 * m)).zip (List.range (2 * m))).flatMap (fun e => leBytes (kvEsize x.g) (kvConvert x.g.fmt (kvScale s c x (e.2 / m) (e.2 % m / x.g.dh)) e.1).1) ∧
      slotMasked s r slot = false ∧ slotOf s r.part slot = some b ∧ node < b.nnode ∧ opReadFault s t src (8 * m) = none ∧
      (entryRuns (part s r.part).place x.k x.g slot (b.len + node)).map (·.1) = [o1, o2] ∧ (o1 + h ≤ o2 ∨ o2 + h ≤ o1)) ∧
    (∃ (n : Nat) (p : Nat) (t : Nat) (layer : Nat) (slot : Nat) (i : Nat) (src : Nat) (pti : Nat) (gi : Nat) (page : Nat) (s : State) (b : SlotB) (k : KvTile),
      s.fills[n]? = some (p, t, layer, slot, i, src) ∧ bridgeCut s p t = false ∧ (part s p).place.tiles.findIdx? (fun x => x.tile == t) = some pti ∧
      kvGroupOf (part s p).place layer = some gi ∧ slotOf s p slot = some b ∧ kvTile (part s p).place pti layer = some k ∧
      pageOf s p b.seq gi layer i = some page ∧
      ((partCoords k (kvGroup (part s p).place gi)).any fun o => poolBad s p src (pageByte k (kvGroup (part s p).place gi) o)) = false) ∧
    (∃ (p : Nat) (n : Nat) (g : Nat) (src : Nat) (dst : Nat) (lo : Nat) (hi : Nat) (s : State) (q : StepRun), p < 16 ∧ stepOf s p = some q ∧
      q.copies[n]? = some (g, src, dst, lo, hi)) ∧
    (∃ (t : Nat) (d : Nat) (s : State) (r : TileRun) (w : Nat) (q : StepRun), AtCall s t 2 r w d ∧ stepOf s r.part = some q ∧ q.alloced = true) ∧
    (∃ (t : Nat) (d : Nat) (s : State) (r : TileRun) (w : Nat) (q : StepRun), AtCall s t 2 r w d ∧ stepOf s r.part = some q ∧ q.alloced = false) ∧
    (∃ (t : Nat) (d : Nat) (n : Nat) (a : Nat) (s : State) (r : TileRun) (w : Nat) (ds : List Nat), AtCall s t 1 r w d ∧ n = fld d 115 104 ∧
      a = fld d 103 81 ∧ fld d 127 120 = 1 ∧ fld d 119 116 = 1 ∧ 0 < n ∧ a % 32 = 0 ∧ d % 2 ^ 81 = 0 ∧ a + 32 * n ≤ spTop ∧ opPending s t a (32 * n) = false ∧
      spBad s t a (32 * n) = false ∧ ds = (List.range n).map (fun i => leNat (spRead s t (a + 32 * i) 32)) ∧ (∀ e ∈ ds, chainRefusal s r.part e = none)) ∧
    (∃ (t : Nat) (s : State) (v : State) (r : TileRun) (k : CallRun) (rest : List CallRun), tileOk t = true ∧ runOf s t = some r ∧ r.calls = k :: rest ∧
      ((k.eng = 1 → bridgeCut s r.part t = false)) ∧ (k.descs.flatMap chainRuns).foldl (chainMove r.part) (updRun s t (fun r => { r with calls := rest }),
      none) = (v, none)) ∧
    (∃ (t : Nat) (d : Nat) (off : Nat) (n : Nat) (s : State) (r : TileRun) (w : Nat) (c : TCtx), AtCall s t 3 r w d ∧
      c = { p := r.part, t := t, run := r, w := w } ∧ samplerBad s c d = false ∧ off = sOff d ∧ n = sNslot d ∧ sOp d = 1 ∧ off + 2048 * n ≤ spTop ∧
      spTouches s c 0 off (2048 * n) = false ∧ spTouches s c 3 off (2048 * n) = false ∧ drawBad s c d = false ∧ opWriteFault s t off (2048 * n) = none) ∧
    (∃ (t : Nat) (d : Nat) (off : Nat) (n : Nat) (s : State) (r : TileRun) (w : Nat) (c : TCtx), AtCall s t 3 r w d ∧
      c = { p := r.part, t := t, run := r, w := w } ∧ samplerBad s c d = false ∧ off = sOff d ∧ n = sNslot d ∧ sOp d = 2 ∧ off + 8320 * n ≤ spTop ∧
      opPending s t off (n * 16 * 520) = false ∧ ((∀ i b, i < n → slotOf s r.part (sSlot0 d + i) = some b → b.decided = false ∧ (b.masked = false → ∃ x,
      walkTree b (fun k => acceptList s t (off + (i * 16 + k) * 520)) 0 {} 17 = .inr x)))) ∧
    (∃ (t : Nat) (d : Nat) (off : Nat) (n : Nat) (s : State) (r : TileRun) (w : Nat) (c : TCtx) (q : _), AtCall s t 3 r w d ∧
      c = { p := r.part, t := t, run := r, w := w } ∧ samplerBad s c d = false ∧ off = sOff d ∧ n = sNslot d ∧ sOp d = 3 ∧
      (linkOfDraft s r.part).isSome = true ∧ stepOf s r.part = some q) :=
  ⟨⟨0, (fld (tileWord (onTile [tcmd 0x50 [(4096, 24, 96), (4, 24, 72), (1, 12, 60), (4096, 24, 36)]]) 0) 119 96), 4, (fld (tileWord (onTile [tcmd 0x50 [(4096,
     24, 96), (4, 24, 72), (1, 12, 60), (4096, 24, 36)]]) 0) 59 36), (onTile [tcmd 0x50 [(4096, 24, 96), (4, 24, 72), (1, 12, 60), (4096, 24, 36)]]),
     (tileRun (onTile [tcmd 0x50 [(4096, 24, 96), (4, 24, 72), (1, 12, 60), (4096, 24, 36)]]) 0), (tileWord (onTile [tcmd 0x50 [(4096, 24, 96), (4, 24, 72),
     (1, 12, 60), (4096, 24, 36)]]) 0), ((ptile (part (onTile [tcmd 0x50 [(4096, 24, 96), (4, 24, 72), (1, 12, 60), (4096, 24,
     36)]]) (tileRun (onTile [tcmd 0x50 [(4096, 24, 96), (4, 24, 72), (1, 12, 60), (4096, 24, 36)]]) 0).part).place (fld (tileWord (onTile [tcmd 0x50 [(4096,
     24, 96), (4, 24, 72), (1, 12, 60), (4096, 24, 36)]]) 0) 71 60)).get (by decide +kernel)), ⟨by decide +kernel, by decide +kernel, by decide +kernel,
     by decide +kernel, by decide +kernel, by decide +kernel, by decide +kernel, by decide +kernel, by decide +kernel, by decide +kernel, by decide +kernel,
     by decide +kernel⟩, rfl, by decide +kernel, rfl, by decide +kernel, by decide +kernel, by decide +kernel, by decide +kernel, (Option.some_get _).symm,
     by decide +kernel, by decide +kernel, by decide +kernel, by decide +kernel, by decide +kernel⟩,
   ⟨flight.src, ({ bothRun with flights := [flight] }), ([]), ([]), flight, run0, by decide +kernel, by decide +kernel, rfl, by decide +kernel,
     by decide +kernel, by decide +kernel, by decide +kernel, by decide +kernel, by decide +kernel, by decide +kernel, by decide +kernel, by decide +kernel⟩,
   ⟨0, (fld (tileWord (onTile [tcmd 0x51 [(4096, 24, 96), (2, 16, 80), (1, 12, 68)]]) 0) 119 96), 2, (fld (tileWord (onTile [tcmd 0x51 [(4096, 24, 96), (2,
     16, 80), (1, 12, 68)]]) 0) 67 52), 0, false, (onTile [tcmd 0x51 [(4096, 24, 96), (2, 16, 80), (1, 12, 68)]]), (tileRun (onTile [tcmd 0x51 [(4096, 24,
     96), (2, 16, 80), (1, 12, 68)]]) 0), (tileWord (onTile [tcmd 0x51 [(4096, 24, 96), (2, 16, 80), (1, 12, 68)]]) 0), (reduction 1 0),
     ((ptile (part (onTile [tcmd 0x51 [(4096, 24, 96), (2, 16, 80), (1, 12, 68)]]) (tileRun (onTile [tcmd 0x51 [(4096, 24, 96), (2, 16, 80), (1, 12,
     68)]]) 0).part).place 0).get (by decide +kernel)), ⟨by decide +kernel, by decide +kernel, by decide +kernel, by decide +kernel, by decide +kernel,
     by decide +kernel, by decide +kernel, by decide +kernel, by decide +kernel, by decide +kernel, by decide +kernel, by decide +kernel⟩, rfl,
     by decide +kernel, rfl, by decide +kernel, by decide +kernel, by decide +kernel, (Option.some_get _).symm, by decide +kernel, by decide +kernel,
     by decide +kernel, by decide +kernel, by decide +kernel, by decide +kernel, by decide +kernel, by decide +kernel, by decide +kernel, by decide +kernel⟩,
   ⟨0, (fld (tileWord (withSp 4096 (oneEntry.flatMap (leBytes 8)) (onTile [tcmd 0x51 [(4096, 24, 96), (2, 12, 68), (1, 1, 51)]])) 0) 119 96), 0,
     (fld (tileWord (withSp 4096 (oneEntry.flatMap (leBytes 8)) (onTile [tcmd 0x51 [(4096, 24, 96), (2, 12, 68), (1, 1, 51)]])) 0) 67 52), 0, true,
     (withSp 4096 (oneEntry.flatMap (leBytes 8)) (onTile [tcmd 0x51 [(4096, 24, 96), (2, 12, 68), (1, 1, 51)]])),
     (tileRun (withSp 4096 (oneEntry.flatMap (leBytes 8)) (onTile [tcmd 0x51 [(4096, 24, 96), (2, 12, 68), (1, 1, 51)]])) 0),
     (tileWord (withSp 4096 (oneEntry.flatMap (leBytes 8)) (onTile [tcmd 0x51 [(4096, 24, 96), (2, 12, 68), (1, 1, 51)]])) 0), (reduction 2 1),
     ((ptile (part (withSp 4096 (oneEntry.flatMap (leBytes 8)) (onTile [tcmd 0x51 [(4096, 24, 96), (2, 12, 68), (1, 1,
     51)]])) (tileRun (withSp 4096 (oneEntry.flatMap (leBytes 8)) (onTile [tcmd 0x51 [(4096, 24, 96), (2, 12, 68), (1, 1,
     51)]])) 0).part).place 0).get (by decide +kernel)), 1, ⟨by decide +kernel, by decide +kernel, by decide +kernel, by decide +kernel, by decide +kernel,
     by decide +kernel, by decide +kernel, by decide +kernel, by decide +kernel, by decide +kernel, by decide +kernel, by decide +kernel⟩, rfl,
     by decide +kernel, rfl, by decide +kernel, by decide +kernel, by decide +kernel, (Option.some_get _).symm, by decide +kernel, by decide +kernel,
     by decide +kernel, by decide +kernel, by decide +kernel, by decide +kernel, by decide +kernel, by decide +kernel, by decide +kernel, by decide +kernel,
     by decide +kernel⟩,
   ⟨0, ({ bothRun with rflights := [operand 1 0 2 [0, 0]] }), (operand 1 0 2 [0, 0]), (reduction 1 0), by decide +kernel, by decide +kernel,
     by decide +kernel, by decide +kernel, by decide +kernel⟩,
   ⟨0, ({ bothRun with rflights := [operand 1 0 2 [0, 0]], rslots := [operand 1 1 2 [0, 0]] }), (operand 1 0 2 [0, 0]), (reduction 1 0), (operand 1 1 2 [0,
     0]), ([0, 0]), ([0, 0]), by decide +kernel, by decide +kernel, by decide +kernel, by decide +kernel, by decide +kernel, by decide +kernel,
     by decide +kernel, by decide +kernel, by decide +kernel⟩,
   ⟨0, ({ bothRun with rflights := [operand 2 0 2 oneEntry], rslots := [operand 2 1 2 oneEntry] }), (operand 2 0 2 oneEntry), (reduction 2 1),
     (operand 2 1 2 oneEntry), oneEntry, oneEntry, _, by decide +kernel, by decide +kernel, by decide +kernel, by decide +kernel, by decide +kernel,
     by decide +kernel, by decide +kernel, by decide +kernel, by decide +kernel, rfl⟩,
   ⟨0, ({ bothRun with rflights := [operand 1 0 1 [0, 0]] }), (operand 1 0 1 [0, 0]), (reduction 1 0),
     ((ptile (part ({ bothRun with rflights := [operand 1 0 1 [0, 0]] }) (operand 1 0 1 [0, 0]).part).place (reduction 1 0).dpti).get (by decide +kernel)),
     run0, (resultBytes (reduction 1 0) (operand 1 0 1 [0, 0])), by decide +kernel, by decide +kernel, by decide +kernel, by decide +kernel,
     (Option.some_get _).symm, rfl, by decide +kernel, by decide +kernel, by decide +kernel, by decide +kernel, by decide +kernel, by decide +kernel,
     by decide +kernel⟩,
   ⟨0, 3, (fld (tileWord kvrdMasked 0) 103 72), 32, 4096, kvrdMasked, (tileRun kvrdMasked 0), (tileWord kvrdMasked 0), (pageCtx kvrdMasked),
     ((kvCtx kvrdMasked (pageCtx kvrdMasked) 3 (fld (tileWord kvrdMasked 0) 111 104)).get (by decide +kernel)), ⟨by decide +kernel, by decide +kernel,
     by decide +kernel, by decide +kernel, by decide +kernel, by decide +kernel, by decide +kernel, by decide +kernel, by decide +kernel, by decide +kernel,
     by decide +kernel, by decide +kernel⟩, rfl, by decide +kernel, rfl, by decide +kernel, by decide +kernel, (Option.some_get _).symm, by decide +kernel,
     by decide +kernel, by decide +kernel, by decide +kernel, by decide +kernel, by decide +kernel, by decide +kernel, by decide +kernel, by decide +kernel⟩,
   ⟨0, (fld (tileWord kvrdState 0) 119 112), 32, 32, 4096, kvrdState, (tileRun kvrdState 0), (tileWord kvrdState 0), (pageCtx kvrdState),
     ((kvCtx kvrdState (pageCtx kvrdState) (fld (tileWord kvrdState 0) 119 112) (fld (tileWord kvrdState 0) 111 104)).get (by decide +kernel)),
     ((slotOf kvrdState (tileRun kvrdState 0).part (fld (tileWord kvrdState 0) 119 112)).get (by decide +kernel)), kvrdState, ([]), ⟨by decide +kernel,
     by decide +kernel, by decide +kernel, by decide +kernel, by decide +kernel, by decide +kernel, by decide +kernel, by decide +kernel, by decide +kernel,
     by decide +kernel, by decide +kernel, by decide +kernel⟩, rfl, rfl, by decide +kernel, by decide +kernel, by decide +kernel, (Option.some_get _).symm,
     by decide +kernel, by decide +kernel, by decide +kernel, by decide +kernel, by decide +kernel, by decide +kernel, by decide +kernel, by decide +kernel,
     by decide +kernel, (Option.some_get _).symm, rfl, by decide +kernel, by decide +kernel⟩,
   ⟨0, (onTile [] { run0 with kvrds := [pageRead] }), ({ run0 with kvrds := [pageRead] }), pageRead, ([]), by decide +kernel, by decide +kernel,
     by decide +kernel, by decide +kernel, by decide +kernel, by decide +kernel, by decide +kernel, by decide +kernel⟩,
   ⟨0, 3, (fld (tileWord (kvapState 3 0) 0) 111 108), (2 ^ 23), 32, 32, (kvapState 3 0), (tileRun (kvapState 3 0) 0), (tileWord (kvapState 3 0) 0),
     (pageCtx (kvapState 3 0)), entryCtx, (kvapBytes (kvapState 3 0)), ⟨by decide +kernel, by decide +kernel, by decide +kernel, by decide +kernel,
     by decide +kernel, by decide +kernel, by decide +kernel, by decide +kernel, by decide +kernel, by decide +kernel, by decide +kernel, by decide +kernel⟩,
     rfl, by decide +kernel, rfl, rfl, by decide +kernel, by decide +kernel, by decide +kernel, by decide +kernel, by decide +kernel, by decide +kernel,
     by decide +kernel, by decide +kernel, by decide +kernel⟩,
   ⟨0, (fld (tileWord (kvapState 0 15) 0) 119 112), 15, (2 ^ 23), 32, 32, (kvapState 0 15), (tileRun (kvapState 0 15) 0), (tileWord (kvapState 0 15) 0),
     (pageCtx (kvapState 0 15)), entryCtx, (kvapBytes (kvapState 0 15)),
     ((slotOf (kvapState 0 15) (tileRun (kvapState 0 15) 0).part (fld (tileWord (kvapState 0 15) 0) 119 112)).get (by decide +kernel)), ⟨by decide +kernel,
     by decide +kernel, by decide +kernel, by decide +kernel, by decide +kernel, by decide +kernel, by decide +kernel, by decide +kernel, by decide +kernel,
     by decide +kernel, by decide +kernel, by decide +kernel⟩, rfl, rfl, by decide +kernel, rfl, by decide +kernel, by decide +kernel, by decide +kernel,
     by decide +kernel, by decide +kernel, by decide +kernel, by decide +kernel, by decide +kernel, by decide +kernel, (Option.some_get _).symm,
     by decide +kernel⟩,
   ⟨0, (fld (tileWord (kvapState 0 0) 0) 119 112), (fld (tileWord (kvapState 0 0) 0) 111 108), (2 ^ 23), 32, 32, (kvapState 0 0), (tileRun (kvapState 0 0) 0),
     (tileWord (kvapState 0 0) 0), (pageCtx (kvapState 0 0)), entryCtx, (kvapBytes (kvapState 0 0)),
     ((slotOf (kvapState 0 0) (tileRun (kvapState 0 0) 0).part (fld (tileWord (kvapState 0 0) 0) 119 112)).get (by decide +kernel)),
     (ringOff place entryCtx.k entryCtx.g 0 0 + partOff entryCtx.k entryCtx.g 0 0 0 0),
     (ringOff place entryCtx.k entryCtx.g 0 0 + partOff entryCtx.k entryCtx.g 1 0 0 0), ⟨by decide +kernel, by decide +kernel, by decide +kernel,
     by decide +kernel, by decide +kernel, by decide +kernel, by decide +kernel, by decide +kernel, by decide +kernel, by decide +kernel, by decide +kernel,
     by decide +kernel⟩, rfl, rfl, rfl, rfl, by decide +kernel, by decide +kernel, by decide +kernel, by decide +kernel, by decide +kernel, by decide +kernel,
     by decide +kernel, by decide +kernel, by decide +kernel, (Option.some_get _).symm, by decide +kernel, by decide +kernel, by decide +kernel,
     by decide +kernel⟩,
   ⟨0, 0, 0, 0, 0, 0, 0, 0, 0, ((pageOf filling 0 slot0.seq 0 0 0).get (by decide +kernel)), filling, slot0,
     ((kvTile (part filling 0).place 0 0).get (by decide +kernel)), by decide +kernel, by decide +kernel, by decide +kernel, by decide +kernel,
     by decide +kernel, (Option.some_get _).symm, (Option.some_get _).symm, by decide +kernel⟩,
   ⟨0, 0, 0, 1, 2, 0, 0, (stepping copying), copying, by decide +kernel, by decide +kernel, by decide +kernel⟩,
   ⟨0, 7, (calling 2 7 (stepping { step0 with alloced := true })), (tileRun (calling 2 7 (stepping { step0 with alloced := true })) 0),
     (tileWord (calling 2 7 (stepping { step0 with alloced := true })) 0), ({ step0 with alloced := true }), ⟨⟨by decide +kernel, by decide +kernel,
     by decide +kernel, by decide +kernel, by decide +kernel, by decide +kernel, by decide +kernel, by decide +kernel, by decide +kernel, by decide +kernel,
     by decide +kernel, by decide +kernel⟩, by decide +kernel, by decide +kernel, by decide +kernel, by decide +kernel, by decide +kernel, by decide +kernel,
     by decide +kernel, by decide +kernel, by decide +kernel⟩, by decide +kernel, by decide +kernel⟩,
   ⟨0, 7, (calling 2 7), (tileRun (calling 2 7) 0), (tileWord (calling 2 7) 0), step0, ⟨⟨by decide +kernel, by decide +kernel, by decide +kernel,
     by decide +kernel, by decide +kernel, by decide +kernel, by decide +kernel, by decide +kernel, by decide +kernel, by decide +kernel, by decide +kernel,
     by decide +kernel⟩, by decide +kernel, by decide +kernel, by decide +kernel, by decide +kernel, by decide +kernel, by decide +kernel, by decide +kernel,
     by decide +kernel, by decide +kernel⟩, by decide +kernel, by decide +kernel⟩,
   ⟨0, chainCall, 1, 8192, chainState, (tileRun chainState 0), (tileWord chainState 0), ([chainDesc]), ⟨⟨by decide +kernel, by decide +kernel,
     by decide +kernel, by decide +kernel, by decide +kernel, by decide +kernel, by decide +kernel, by decide +kernel, by decide +kernel, by decide +kernel,
     by decide +kernel, by decide +kernel⟩, by decide +kernel, by decide +kernel, by decide +kernel, by decide +kernel, by decide +kernel, by decide +kernel,
     by decide +kernel, by decide +kernel, by decide +kernel⟩, by decide +kernel, by decide +kernel, by decide +kernel, by decide +kernel, by decide +kernel,
     by decide +kernel, by decide +kernel, by decide +kernel, by decide +kernel, by decide +kernel, by decide +kernel, by decide +kernel⟩,
   ⟨0, (onTile [] { run0 with calls := [callRun] }), _, ({ run0 with calls := [callRun] }), callRun, ([]), by decide +kernel, by decide +kernel,
     by decide +kernel, by decide +kernel, rfl⟩,
   ⟨0, treeCall, (sOff treeCall), (sNslot treeCall), (calling 3 treeCall), (tileRun (calling 3 treeCall) 0), (tileWord (calling 3 treeCall) 0),
     (pageCtx (calling 3 treeCall)), ⟨⟨by decide +kernel, by decide +kernel, by decide +kernel, by decide +kernel, by decide +kernel, by decide +kernel,
     by decide +kernel, by decide +kernel, by decide +kernel, by decide +kernel, by decide +kernel, by decide +kernel⟩, by decide +kernel, by decide +kernel,
     by decide +kernel, by decide +kernel, by decide +kernel, by decide +kernel, by decide +kernel, by decide +kernel, by decide +kernel⟩, rfl,
     by decide +kernel, rfl, rfl, by decide +kernel, by decide +kernel, by decide +kernel, by decide +kernel, by decide +kernel, by decide +kernel⟩,
   ⟨0, acceptCall, (sOff acceptCall), (sNslot acceptCall), (calling 3 acceptCall maskedStep), (tileRun (calling 3 acceptCall maskedStep) 0),
     (tileWord (calling 3 acceptCall maskedStep) 0), (pageCtx (calling 3 acceptCall maskedStep)), ⟨⟨by decide +kernel, by decide +kernel, by decide +kernel,
     by decide +kernel, by decide +kernel, by decide +kernel, by decide +kernel, by decide +kernel, by decide +kernel, by decide +kernel, by decide +kernel,
     by decide +kernel⟩, by decide +kernel, by decide +kernel, by decide +kernel, by decide +kernel, by decide +kernel, by decide +kernel, by decide +kernel,
     by decide +kernel, by decide +kernel⟩, rfl, by decide +kernel, rfl, rfl, by decide +kernel, by decide +kernel, by decide +kernel, acceptMasked⟩,
   ⟨0, publishCall, (sOff publishCall), (sNslot publishCall), (calling 3 publishCall drafting), (tileRun (calling 3 publishCall drafting) 0),
     (tileWord (calling 3 publishCall drafting) 0), (pageCtx (calling 3 publishCall drafting)), step0, ⟨⟨by decide +kernel, by decide +kernel,
     by decide +kernel, by decide +kernel, by decide +kernel, by decide +kernel, by decide +kernel, by decide +kernel, by decide +kernel, by decide +kernel,
     by decide +kernel, by decide +kernel⟩, by decide +kernel, by decide +kernel, by decide +kernel, by decide +kernel, by decide +kernel, by decide +kernel,
     by decide +kernel, by decide +kernel, by decide +kernel⟩, rfl, by decide +kernel, rfl, rfl, by decide +kernel, by decide +kernel, by decide +kernel⟩⟩

/-- The hypotheses of `Obligations.PowerThermalAndFailureEvents` are met, clause by clause. -/
theorem witness_PowerThermalAndFailureEvents :
    (∃ (f : Nat) (volts : Int) (ma : Nat) (s : State), f < 2) ∧
    (∃ (f : Nat) (t : Nat) (s : State), f < 2 ∧ (feed s f).bandAt = some t ∧ (feed s f).usable = false ∧ t + 100000000 ≤ ageNs s) ∧
    (∃ (b : Nat) (t : Nat) (s : State), b < 5 ∧ (feed s (preferred s b)).usableAt = some t ∧ brickDraws (brick s b) = true ∧
      (feed s (preferred s b)).usable = true ∧ t + 1000000000 ≤ ageNs s) ∧
    (∃ (b : Nat) (st : Nat) (c : Instr) (ok : Prop) (s : State), b < 5 ∧ (c, st, ok) ∈ [(Instr.brickFault b, 4, (brick s b).st ≠ 0 ∧ (brick s b).st ≠ 4),
      (Instr.brickRemove b, 0, (brick s b).st ≠ 0), (Instr.brickInsert b, 1, (brick s b).st = 0), (Instr.brickStartDone b, 2, (brick s b).st = 1 ∧
      bricksPowered s = true), (Instr.brickShedDone b, 3, (brick s b).st = 2 ∧ (brick s b).shedding = true)] ∧ ok) ∧
    (∃ (c : Nat) (ph : List Nat) (drv : Nat) (vout : Nat) (vsense : Nat) (varr : Nat) (ok : Bool) (fault : Bool) (s : State) (v : State), c < 288 ∧
      blockState s c < 2 ∧ ph.foldl (· + ·) 0 < 40000 ∧
      v = setBlock s c { block s c with low := List.replicate 8 0, vpgmBad := (if ok then 0 else (block s c).vpgmBad + 1), vlog := vsense / 1000, ma := ph.foldl (· + ·) 0, varr := varr } ∧
      drv = 0 ∧ ok = true) ∧
    (∃ (c : Nat) (ph : List Nat) (drv : Nat) (vout : Nat) (vsense : Nat) (varr : Nat) (ok : Bool) (fault : Bool) (s : State) (v : State) (i : _), c < 288 ∧
      blockState s c < 2 ∧ ph.foldl (· + ·) 0 < 40000 ∧
      v = setBlock s c { block s c with low := List.replicate 8 0, vpgmBad := (if ok then 0 else (block s c).vpgmBad + 1), vlog := vsense / 1000, ma := ph.foldl (· + ·) 0, varr := varr } ∧
      drv = 2 ^ i ∧ i < 8 ∧ i ∉ (block s c).off ∧ ok = true ∧ fault = false) ∧
    (∃ (c : Nat) (ph : List Nat) (drv : Nat) (vout : Nat) (vsense : Nat) (varr : Nat) (ok : Bool) (fault : Bool) (s : State) (v : State), c < 288 ∧
      blockState s c < 2 ∧ ph.foldl (· + ·) 0 < 40000 ∧
      v = setBlock s c { block s c with low := List.replicate 8 0, vpgmBad := (if ok then 0 else (block s c).vpgmBad + 1), vlog := vsense / 1000, ma := ph.foldl (· + ·) 0, varr := varr } ∧
      drv = 0 ∧ ok = false ∧ fault = false ∧ 9 ≤ (block s c).vpgmBad) ∧
    (∃ (c : Nat) (phases : Nat) (ok : Bool) (s : State), c < 288 ∧ blockState s c = 3 ∧ ok = true ∧ 6 ≤ phases ∧ phases ≤ 8) ∧
    (∃ (c : Nat) (phases : Nat) (ok : Bool) (s : State), c < 288 ∧ blockState s c = 3 ∧ (ok = false ∨ phases < 6)) ∧
    (∃ (h : Nat) (d : Nat) (pst : Nat) (s : State), h < 576 ∧ (spot s h).off = 0 ∧ computes s = true) ∧
    (∃ (pin : Nat) (dyn : Nat) (bus : Nat) (s : State), s.power ≠ .off ∧ s.power ≠ .standby) ∧
    (∃ (s : State), True) ∧
    (∃ (h : Nat) (p : Nat) (s : State), h < 576 ∧ computes s = true) ∧
    (∃ (h : Nat) (a : Int) (b : Int) (s : State), h < 576 ∧ (spot s h).failA = false ∧ (spot s h).failB = false ∧ -640 ≤ a ∧ a ≤ 2400 ∧ -640 ≤ b ∧ b ≤ 2400) ∧
    (∃ (h : Nat) (s : State), h < 576 ∧ objD 1 s 0x4031 1 = 1 ∧ returnOk s h = true ∧
      ((spot s h).coolAt).getD (ageNs s) + objD 1 s 0x4031 3 * 1000000000 ≤ ageNs s) ∧
    (∃ (k : Nat) (v : Int) (s : State), k < 40) ∧
    (∃ (l : List (Option Int)) (s : State), waferOn s = false) ∧
    (∃ (l : List (Option Int)) (s : State), waferOn s = true ∧ (coolantSampled s l).coolant.lost = false) ∧
    (∃ (l : List (Option Int)) (s : State), s.power = .ready ∧ (coolantSampled s l).coolant.lost = true) ∧
    (∃ (t : Nat) (s : State), s.coolant.goodAt = some t ∧ s.power = .hold ∧ s.coolant.st = 2 ∧ t + 10000000000 ≤ ageNs s) ∧
    (∃ (s : State), s.power = .hold ∧ s.coolant.stopAt + objD 120 s 0x4020 8 * 1000000000 ≤ ageNs s) ∧
    (∃ (i : Nat) (s : State), i < 4 ∧ s.power ≠ .off ∧ bitAt s.leaks.wet i = false ∧ bitAt s.leaks.failed i = false) ∧
    (∃ (i : Nat) (s : State), i < 4 ∧ s.power ≠ .off ∧ bitAt s.leaks.wet i = true) ∧
    (∃ (i : Nat) (s : State), i < 4 ∧ s.power ≠ .off ∧ bitAt s.leaks.failed i = false) ∧
    (∃ (s : State), s.power ≠ .off ∧ s.leaks.alarm = false) ∧
    (∃ (s : State), s.power ≠ .off ∧ s.leaks.alarm = true) ∧
    (∃ (s : State) (n : Nat), n = s.kennel.gathering.length - 60) ∧
    (∃ (a : Nat) (b : Nat) (c : Nat) (s : State), (kUnit s (kKey a b c)).st = 1 ∧
      ((kUnit s (kKey a b c)).events.map (·.2)).foldl Nat.max 0 + longestInterval s (kUnit s (kKey a b c)) * 1000000000 ≤ ageNs s) ∧
    (∃ (d : Nat) (t : Nat) (s : State), d < 24 ∧ s.power = .ready ∧ objD 1 s 0x7030 1 ≠ 0 ∧ testable s t = true ∧
      nextTest s d (testDue s s.ftLight (objD 24 s 0x7030 2 * 3600000000000)) = some t) ∧
    (∃ (d : Nat) (t : Nat) (s : State), d < 24 ∧ s.power = .ready ∧ objD 1 s 0x7030 1 ≠ 0 ∧ testable s t = true ∧
      nextTest s d (testDue s s.ftFull (objD 180 s 0x7030 3 * 86400000000000)) = some t ∧ fullCovered s t = true) ∧
    (∃ (d : Nat) (n : Nat) (s : State) (f : FieldTest), d < 24 ∧ FMap.find s.ftests d = some f ∧ n ≠ 0 ∧ f.again = false) ∧
    (∃ (d : Nat) (n : Nat) (s : State) (f : FieldTest), d < 24 ∧ FMap.find s.ftests d = some f ∧ n = 0) ∧
    (∃ (d : Nat) (n : Nat) (s : State) (f : FieldTest), d < 24 ∧ FMap.find s.ftests d = some f ∧ n ≠ 0 ∧ f.again = true) ∧
    (∃ (t : Nat) (port : Nat) (n : Nat) (again : Bool) (s : State), tileOk t = true ∧ hasLink t port = true ∧
      n = (if again then FMap.get 0 s.retries (t * 8 + port) + 1 else 0)) ∧
    (∃ (t : Nat) (s : State), tileOk t = true) ∧
    (∃ (r : Nat) (s : State), r < 2 ∧ bitAt s.refDown r = false) ∧
    (∃ (l : Nat) (s : State), l < 4 ∧ l ∉ s.ldDown) ∧
    (∃ (k : Nat) (e : Nat) (n : Nat) (i : Nat) (f : Nat) (s : State), k < 40 ∧ e < 17166 ∧ f = k * stackBytes + e * extentBytes + 32 * (i % 65536)) ∧
    (∃ (m : Nat) (i : Nat) (s : State), m < 10 ∧ i < 4) :=
  ⟨⟨1, (-1), 0, s0, by decide +kernel⟩,
   ⟨1, 0, (later { s0 with feeds := [(1, { bandAt := some 0 })] }), by decide +kernel, by decide +kernel, by decide +kernel, by decide +kernel⟩,
   ⟨4, 0, (later { bricksOn with feeds := [(0, { usable := true, usableAt := some 0 })] }), by decide +kernel, by decide +kernel, by decide +kernel,
     by decide +kernel, by decide +kernel⟩,
   ⟨4, 4, (.brickFault 4), ((brick bricksOn 4).st ≠ 0 ∧ (brick bricksOn 4).st ≠ 4), bricksOn, by decide +kernel, List.Mem.head _, by decide +kernel⟩,
   ⟨287, ([39999]), 0, 0, 0, 0, true, false, s0, _, by decide +kernel, by decide +kernel, by decide +kernel, rfl, rfl, by decide +kernel⟩,
   ⟨287, ([]), (2 ^ 7), 0, 0, 0, true, false, s0, _, 7, by decide +kernel, by decide +kernel, by decide +kernel, rfl, by decide +kernel, by decide +kernel,
     by decide +kernel, by decide +kernel, by decide +kernel⟩,
   ⟨287, ([]), 0, 0, 0, 0, false, false, ({ s0 with blocks := [(287, { vpgmBad := 9 })] }), _, by decide +kernel, by decide +kernel, by decide +kernel, rfl,
     rfl, by decide +kernel, by decide +kernel, by decide +kernel⟩,
   ⟨287, 6, true, ({ s0 with blockSt := [(287, 3)] }), by decide +kernel, by decide +kernel, by decide +kernel, by decide +kernel, by decide +kernel⟩,
   ⟨287, 5, true, ({ s0 with blockSt := [(287, 3)] }), by decide +kernel, by decide +kernel, .inr (by decide)⟩,
   ⟨575, 0, 0, s0, by decide +kernel, by decide +kernel, by decide +kernel⟩,
   ⟨0, 0, 0, s0, by decide +kernel, by decide +kernel⟩,
   ⟨s0, trivial⟩,
   ⟨575, 0, s0, by decide +kernel, by decide +kernel⟩,
   ⟨575, (-640), 2400, s0, by decide +kernel, by decide +kernel, by decide +kernel, by decide +kernel, by decide +kernel, by decide +kernel,
     by decide +kernel⟩,
   ⟨575, (later { s0 with spots := [(575, { off := 3, coolAt := some 0 })] }), by decide +kernel, by decide +kernel, by decide +kernel, by decide +kernel⟩,
   ⟨39, 1360, s0, by decide +kernel⟩,
   ⟨([]), ({ s0 with power := .standby }), by decide +kernel⟩,
   ⟨([]), s0, by decide +kernel, by decide +kernel⟩,
   ⟨([]), ({ s0 with coolant := { failed := 7 } }), by decide +kernel, by decide +kernel⟩,
   ⟨0, (later { s0 with power := .hold, coolant := { st := 2, goodAt := some 0 } }), by decide +kernel, by decide +kernel, by decide +kernel,
     by decide +kernel⟩,
   ⟨(later { s0 with power := .hold }), by decide +kernel, by decide +kernel⟩,
   ⟨3, s0, by decide +kernel, by decide +kernel, by decide +kernel, by decide +kernel⟩,
   ⟨3, ({ s0 with leaks := { wet := 8 } }), by decide +kernel, by decide +kernel, by decide +kernel⟩,
   ⟨3, s0, by decide +kernel, by decide +kernel, by decide +kernel⟩,
   ⟨s0, by decide +kernel, by decide +kernel⟩,
   ⟨({ s0 with leaks := { alarm := true } }), by decide +kernel, by decide +kernel⟩,
   ⟨s0, 0, by decide +kernel⟩,
   ⟨1, 32, 0, (later { s0 with kennel := { s0.kennel with units := [(kKey 1 32 0, { st := 1 })] } }), by decide +kernel, by decide +kernel⟩,
   ⟨0, 32, (later { s0 with parts := [], ftLast := [(0, 32)] }), by decide +kernel, by decide +kernel, by decide +kernel, by decide +kernel,
     by decide +kernel⟩,
   ⟨0, 32, (later { s0 with parts := [], ftLast := [(0, 32)] }), by decide +kernel, by decide +kernel, by decide +kernel, by decide +kernel,
     by decide +kernel, by decide +kernel⟩,
   ⟨23, 1, ({ s0 with ftests := [(23, { tile := 32, full := false, asked := false })] }), ({ tile := 32, full := false, asked := false }), by decide +kernel,
     by decide +kernel, by decide +kernel, by decide +kernel⟩,
   ⟨23, 0, ({ s0 with ftests := [(23, { tile := 32, full := false, asked := false })] }), ({ tile := 32, full := false, asked := false }), by decide +kernel,
     by decide +kernel, by decide +kernel⟩,
   ⟨23, 1, ({ s0 with ftests := [(23, { tile := 32, full := false, asked := false, again := true })] }),
     ({ tile := 32, full := false, asked := false, again := true }), by decide +kernel, by decide +kernel, by decide +kernel, by decide +kernel⟩,
   ⟨0, 1, (if true then FMap.get 0 s0.retries (0 * 8 + 1) + 1 else 0), true, s0, by decide +kernel, by decide +kernel, rfl⟩,
   ⟨0, s0, by decide +kernel⟩,
   ⟨1, s0, by decide +kernel, by decide +kernel⟩,
   ⟨3, s0, by decide +kernel, by decide +kernel⟩,
   ⟨39, 17165, 0, 0, (39 * stackBytes + 17165 * extentBytes + 32 * (0 % 65536)), s0, by decide +kernel, by decide +kernel, rfl⟩,
   ⟨9, 3, s0, by decide +kernel, by decide +kernel⟩⟩

/-- The hypotheses of `Obligations.ModuleStatesAndCards` are met, clause by clause. -/
theorem witness_ModuleStatesAndCards :
    (∃ (r : Bool) (s : State), True) ∧
    (∃ (s : State), s.power = .off ∧ ((feed s 0).usable || (feed s 1).usable) = true) ∧
    (∃ (n : Nat) (s : State), n < 512 ∧ s.power = .standby ∧ watched n = true ∧ evWake s n = true ∧ (evSrc s n).st = 1) ∧
    (∃ (s : State), s.power = .standby ∧ objD 0 s 0x4050 3 ≠ 0 ∧ s.rtcValid = true ∧ objD 0 s 0x4050 3 ≤ rtcNow s) ∧
    (∃ (m : Nat) (s : State), m < 2 ∧ s.power = .standby ∧ portUp s (48 + m) = true ∧ objD 1 s 0x4050 4 = 1) ∧
    (∃ (s : State), s.power = .standby ∧ objD 1 s 0x2300 1 = 1 ∧ s.life.wake = none ∧ s.life.offAt + retentionDue s * 1000000000 ≤ ageNs s) ∧
    (∃ (s : State) (w : Nat × Bool), s.life.wake = some w ∧ gateFails s = none ∧ wakeInTime s w.1 = true ∧ (s.power = .attended ∨ s.power = .standby)) ∧
    (∃ (s : State) (w : Nat × Bool), s.life.wake = some w ∧ wakeInTime s w.1 = false) ∧
    (∃ (s : State), s.power = .attended ∧ (∀ e ∈ s.sessions, e.2.st ≠ 2) ∧ s.life.idleAt + 600000000000 ≤ ageNs s) ∧
    (∃ (bad : List Nat) (evals : List BankEval) (s : State), s.power = .starting ∧ 2 ≤ s.life.step ∧ s.life.step < 8 ∧ ((s.life.step = 3 → bricksIn s ≠ 0))) ∧
    (∃ (bad : List Nat) (evals : List BankEval) (s : State), s.power = .starting ∧ s.life.step = 8) ∧
    (∃ (bad : List Nat) (evals : List BankEval) (s : State), s.power = .starting ∧ s.life.startAt + powerOnBound s ≤ ageNs s) ∧
    (∃ (s : State), s.power = .stopping ∧ pastLimit s = true) ∧
    (∃ (s : State), s.power = .stopping ∧ s.life.stop = 1 ∧ stepsDrained s = true) ∧
    (∃ (p : Nat) (t : List Nat) (s : State), p < 16 ∧ s.power = .stopping ∧ s.life.stop = 2 ∧ s.life.saving = p :: t) ∧
    (∃ (s : State), s.power = .stopping ∧ s.life.stop = 3 ∧ (recordsAcked s = true ∨ s.life.recAt + 1000000000 ≤ ageNs s) ∧ programsRun s = false) ∧
    (∃ (s : State), waferOn s = true ∧ (feed s 0).usable = false ∧ (feed s 1).usable = false) ∧
    (∃ (commits : Nat) (mv : Nat) (s : State), s.life.stampDue = true ∧ s.power = .standby ∧ mv < 44000) ∧
    (∃ (commits : Nat) (mv : Nat) (s : State), s.life.stampDue = true ∧ s.power = .standby ∧ 44000 ≤ mv) ∧
    (∃ (s : State), waferOn s = false ∧ (feed s 0).usable = false ∧ (feed s 1).usable = false) ∧
    (∃ (c : Nat) (s : State), c < 2 ∧ (card s c).st < 4) ∧
    (∃ (c : Nat) (s : State), c < 2 ∧ (card s c).st < 4 ∧ (card s c).dead = false ∧ (s.power = .attended ∨ s.power = .starting) ∧ (card s c).fails < 2) ∧
    (∃ (c : Nat) (s : State), c < 2 ∧ (card s c).st < 4 ∧ (card s c).dead = false ∧ (s.power = .attended ∨ s.power = .starting) ∧ 2 ≤ (card s c).fails ∧
      (card s c).other = false) ∧
    (∃ (c : Nat) (s : State), c < 2 ∧ (card s c).st < 4 ∧ (card s c).dead = false ∧ (s.power = .attended ∨ s.power = .starting) ∧ 2 ≤ (card s c).fails ∧
      (card s c).other = true) ∧
    (∃ (c : Nat) (s : State), c < 2 ∧ (card s c).st = 4) ∧
    (∃ (c : Nat) (s : State), c < 2 ∧ (card s c).st = 2) ∧
    (∃ (c : Nat) (s : State), c < 2 ∧ (card s c).st ≠ 4) ∧
    (∃ (s : State), s.power = .recovery ∧ noneBoots s = false) ∧
    (∃ (c : Nat) (tms : Bool) (tdi : Bool) (trst : Bool) (s : State), c < 2 ∧ tapLive s c = true ∧ trst = false) ∧
    (∃ (c : Nat) (tms : Bool) (tdi : Bool) (trst : Bool) (s : State), c < 2 ∧ (tapLive s c = false ∨ trst = true)) ∧
    (∃ (s : State), s.power = .off) ∧
    (∃ (carrier : List Int) (l : List (Option Int)) (s : State), s.power ≠ .off) :=
  ⟨⟨true, s0, trivial⟩,
   ⟨({ s0 with power := .off, feeds := [(0, { usable := true })] }), by decide +kernel, by decide +kernel⟩,
   ⟨288, ({ s0 with power := .standby, events := [(288, { st := 1 })], dict := [(objKey 0x9101 32 0, 0x80)] }), by decide +kernel, by decide +kernel,
     by decide +kernel, by decide +kernel, by decide +kernel⟩,
   ⟨(later { s0 with power := .standby, rtcValid := true, dict := [(objKey 0x4050 3 0, 1)] }), by decide +kernel, by decide +kernel, by decide +kernel,
     by decide +kernel⟩,
   ⟨1, ({ s0 with power := .standby, ports := [(49, { link := true })] }), by decide +kernel, by decide +kernel, by decide +kernel, by decide +kernel⟩,
   ⟨(later { s0 with power := .standby, life := { s0.life with wake := none } }), by decide +kernel, by decide +kernel, by decide +kernel, by decide +kernel⟩,
   ⟨gated, (0, false), by decide +kernel, by decide +kernel, by decide +kernel, by decide +kernel⟩,
   ⟨(later gated), (0, false), by decide +kernel, by decide +kernel⟩,
   ⟨(later { s0 with power := .attended, sessions := [] }), by decide +kernel, by decide +kernel, by decide +kernel⟩,
   ⟨([]), ([]), (starting 3), by decide +kernel, by decide +kernel, by decide +kernel, by decide +kernel⟩,
   ⟨([]), ([]), (starting 8), by decide +kernel, by decide +kernel⟩,
   ⟨([]), ([]), (later (starting 8)), by decide +kernel, by decide +kernel⟩,
   ⟨(later { s0 with power := .stopping }), by decide +kernel, by decide +kernel⟩,
   ⟨(halting 1), by decide +kernel, by decide +kernel, by decide +kernel⟩,
   ⟨15, ([]), ({ s0 with power := .stopping, life := { s0.life with stop := 2, saving := [15] } }), by decide +kernel, by decide +kernel, by decide +kernel,
     by decide +kernel⟩,
   ⟨(later (halting 3)), by decide +kernel, by decide +kernel, .inr (by decide +kernel), by decide +kernel⟩,
   ⟨s0, by decide +kernel, by decide +kernel, by decide +kernel⟩,
   ⟨0, 43999, stampOwed, by decide +kernel, by decide +kernel, by decide +kernel⟩,
   ⟨0, 44000, stampOwed, by decide +kernel, by decide +kernel, by decide +kernel⟩,
   ⟨({ s0 with power := .standby }), by decide +kernel, by decide +kernel, by decide +kernel⟩,
   ⟨1, s0, by decide +kernel, by decide +kernel⟩,
   ⟨1, ({ s0 with power := .attended }), by decide +kernel, by decide +kernel, by decide +kernel, .inl rfl, by decide +kernel⟩,
   ⟨1, (failing { st := 2, fails := 2 }), by decide +kernel, by decide +kernel, by decide +kernel, .inl rfl, by decide +kernel, by decide +kernel⟩,
   ⟨1, (failing { st := 2, fails := 2, other := true }), by decide +kernel, by decide +kernel, by decide +kernel, .inl rfl, by decide +kernel,
     by decide +kernel⟩,
   ⟨1, (failing { st := 4 }), by decide +kernel, by decide +kernel⟩,
   ⟨1, (failing { st := 2 }), by decide +kernel, by decide +kernel⟩,
   ⟨1, s0, by decide +kernel, by decide +kernel⟩,
   ⟨({ s0 with power := .recovery }), by decide +kernel, by decide +kernel⟩,
   ⟨1, true, false, false, ({ s0 with power := .recovery }), by decide +kernel, by decide +kernel, by decide +kernel⟩,
   ⟨1, true, false, true, s0, by decide +kernel, .inr rfl⟩,
   ⟨({ s0 with power := .off }), by decide +kernel⟩,
   ⟨([]), ([]), s0, by decide +kernel⟩⟩

end Sys2Proof.Tests
end

