-- ==== Sys2Proof/Tests/Zeros.lean ====
section
/-! SUPPORT. The CRC-32 of long runs of zero bytes (R12), which the witnesses over whole blocks need: a zero byte is a linear map of
the register, so 2^k of them are k squarings of its matrix. -/
namespace Sys2Proof.Tests
open Sys2Proof Sys2Proof.Machine
set_option Elab.async false

theorem half_xor (a b : Nat) : (a ^^^ b) / 2 = a / 2 ^^^ b / 2 := Nat.xor_div_two
theorem crcBit_eq (c : Nat) : crcBit c = c / 2 ^^^ (if c % 2 = 1 then 0xEDB88320 else 0) := by
  unfold crcBit; split <;> simp
theorem crcBit_xor (a b : Nat) : crcBit (a ^^^ b) = crcBit a ^^^ crcBit b := by
  have ha := Nat.mod_two_eq_zero_or_one a
  have hb := Nat.mod_two_eq_zero_or_one b
  have h : (a ^^^ b) % 2 = 1 ↔ ¬ (a % 2 = 1 ↔ b % 2 = 1) := Nat.xor_mod_two_eq_one
  simp only [crcBit_eq, half_xor, h]
  rcases ha with ha | ha <;> rcases hb with hb | hb <;> simp [ha, hb] <;> ac_nf
  simp [← Nat.xor_assoc]
theorem crcBit_lt {c : Nat} (h : c < 2 ^ 32) : crcBit c < 2 ^ 32 := by
  unfold crcBit; split
  · exact Nat.xor_lt_two_pow (by omega) (by decide)
  · omega

/-- The register after a zero byte. -/
def zero1 (c : Nat) : Nat := crcByte c 0
theorem zero1_xor (a b : Nat) : zero1 (a ^^^ b) = zero1 a ^^^ zero1 b := by
  simp [zero1, crcByte, crcBit_xor]
theorem zero1_lt {c : Nat} (h : c < 2 ^ 32) : zero1 c < 2 ^ 32 := by
  simpa [zero1, crcByte] using crcBit_lt (crcBit_lt (crcBit_lt (crcBit_lt (crcBit_lt (crcBit_lt (crcBit_lt (crcBit_lt h)))))))

/-- The register after `n` zero bytes. -/
def zeros (n c : Nat) : Nat := (List.replicate n (0 : Byte)).foldl crcByte c
theorem zeros_add (m n c : Nat) : zeros (m + n) c = zeros n (zeros m c) := by
  simp [zeros, ← List.replicate_append_replicate]
theorem zeros_one (c : Nat) : zeros 1 c = zero1 c := by simp [zeros, zero1]
theorem zeros_lt (n : Nat) {c : Nat} (h : c < 2 ^ 32) : zeros n c < 2 ^ 32 := by
  induction n generalizing c with
  | zero => exact h
  | succ n ih => rw [Nat.add_comm, zeros_add, zeros_one]; exact ih (zero1_lt h)

/-- A matrix, by the images of the bits, applied to a word. -/
def mapply : List Nat → Nat → Nat
  | [], _ => 0
  | m :: t, x => (if x % 2 = 1 then m else 0) ^^^ mapply t (x / 2)
theorem mapply_xor (m : List Nat) (a b : Nat) : mapply m (a ^^^ b) = mapply m a ^^^ mapply m b := by
  induction m generalizing a b with
  | nil => simp [mapply]
  | cons v t ih =>
    have ha := Nat.mod_two_eq_zero_or_one a
    have hb := Nat.mod_two_eq_zero_or_one b
    have h : (a ^^^ b) % 2 = 1 ↔ ¬ (a % 2 = 1 ↔ b % 2 = 1) := Nat.xor_mod_two_eq_one
    simp only [mapply, half_xor, ih, h]
    rcases ha with ha | ha <;> rcases hb with hb | hb <;> simp [ha, hb] <;> ac_nf
    simp [← Nat.xor_assoc]
theorem mapply_zero (m : List Nat) : mapply m 0 = 0 := by
  induction m with
  | nil => rfl
  | cons v t ih => simp [mapply, ih]
theorem mapply_map (m n : List Nat) (x : Nat) : mapply (m.map (mapply n)) x = mapply n (mapply m x) := by
  induction m generalizing x with
  | nil => simp [mapply, mapply_zero]
  | cons v t ih =>
    simp only [List.map_cons, mapply, ih, mapply_xor]
    split <;> simp [mapply_zero]
/-- An additive map is the matrix of its values at the powers of two. -/
theorem mapply_basis (f : Nat → Nat) (h : ∀ a b, f (a ^^^ b) = f a ^^^ f b) (n k x : Nat) (lt : x < 2 ^ n) :
    mapply ((List.range' k n).map fun i => f (2 ^ i)) x = f (x * 2 ^ k) := by
  have z : f 0 = 0 := by have := h 0 0; simpa using this
  induction n generalizing k x with
  | zero => obtain rfl : x = 0 := by omega
            simp [mapply, z]
  | succ n ih =>
    simp only [List.range'_succ, List.map_cons, mapply]
    rw [ih (k + 1) (x / 2) (by omega)]
    have e : x * 2 ^ k = (x % 2 * 2 ^ k) ^^^ (x / 2 * 2 ^ (k + 1)) := by
      have : x = (x % 2) ^^^ (x / 2 * 2) := by
        apply Nat.eq_of_testBit_eq; intro i
        cases i with
        | zero => simp [Nat.testBit_zero]
        | succ i =>
          rw [Nat.testBit_succ, Nat.testBit_succ, half_xor, Nat.mul_div_cancel _ (by decide), show x % 2 / 2 = 0 by omega, Nat.zero_xor]
      have r : x / 2 * 2 ^ (k + 1) = (x / 2 * 2) * 2 ^ k := by rw [Nat.pow_succ]; ac_rfl
      conv => lhs; rw [this]
      simp only [r, ← Nat.shiftLeft_eq, Nat.shiftLeft_xor_distrib]
    rw [e, h]
    have := Nat.mod_two_eq_zero_or_one x
    rcases this with m | m <;> simp [m, z]

/-- `m` is the matrix of `n` zero bytes. -/
def ZeroMat (m : List Nat) (n : Nat) : Prop := ∀ x, x < 2 ^ 32 → zeros n x = mapply m x
theorem ZeroMat.sq {m m' : List Nat} {n n' : Nat} (h : ZeroMat m n) (e : m.map (mapply m) = m') (k : n + n = n') : ZeroMat m' n' := by
  intro x lt
  rw [← k, ← e, mapply_map, zeros_add, h _ (zeros_lt n lt), h x lt]

/-- The matrix of 1 zero byte. -/
def zm0 : List Nat :=
  [0x77073096, 0xEE0E612C, 0x076DC419, 0x0EDB8832, 0x1DB71064, 0x3B6E20C8, 0x76DC4190, 0xEDB88320,
    0x00000001, 0x00000002, 0x00000004, 0x00000008, 0x00000010, 0x00000020, 0x00000040, 0x00000080,
    0x00000100, 0x00000200, 0x00000400, 0x00000800, 0x00001000, 0x00002000, 0x00004000, 0x00008000,
    0x00010000, 0x00020000, 0x00040000, 0x00080000, 0x00100000, 0x00200000, 0x00400000, 0x00800000]
theorem zm0_mat : ZeroMat zm0 1 := by
  intro x lt
  have h := mapply_basis zero1 zero1_xor 32 0 x lt
  rw [show ((List.range' 0 32).map fun i => zero1 (2 ^ i)) = zm0 by decide +kernel] at h
  simpa [zeros_one] using h.symm
/-- The matrix of 2 zero bytes. -/
def zm1 : List Nat :=
  [0x191B3141, 0x32366282, 0x646CC504, 0xC8D98A08, 0x4AC21251, 0x958424A2, 0xF0794F05, 0x3B83984B,
    0x77073096, 0xEE0E612C, 0x076DC419, 0x0EDB8832, 0x1DB71064, 0x3B6E20C8, 0x76DC4190, 0xEDB88320,
    0x00000001, 0x00000002, 0x00000004, 0x00000008, 0x00000010, 0x00000020, 0x00000040, 0x00000080,
    0x00000100, 0x00000200, 0x00000400, 0x00000800, 0x00001000, 0x00002000, 0x00004000, 0x00008000]
theorem zm1_mat : ZeroMat zm1 2 := zm0_mat.sq (by decide +kernel) rfl
/-- The matrix of 4 zero bytes. -/
def zm2 : List Nat :=
  [0xB8BC6765, 0xAA09C88B, 0x8F629757, 0xC5B428EF, 0x5019579F, 0xA032AF3E, 0x9B14583D, 0xED59B63B,
    0x01C26A37, 0x0384D46E, 0x0709A8DC, 0x0E1351B8, 0x1C26A370, 0x384D46E0, 0x709A8DC0, 0xE1351B80,
    0x191B3141, 0x32366282, 0x646CC504, 0xC8D98A08, 0x4AC21251, 0x958424A2, 0xF0794F05, 0x3B83984B,
    0x77073096, 0xEE0E612C, 0x076DC419, 0x0EDB8832, 0x1DB71064, 0x3B6E20C8, 0x76DC4190, 0xEDB88320]
theorem zm2_mat : ZeroMat zm2 4 := zm1_mat.sq (by decide +kernel) rfl
/-- The matrix of 8 zero bytes. -/
def zm3 : List Nat :=
  [0xCCAA009E, 0x4225077D, 0x844A0EFA, 0xD3E51BB5, 0x7CBB312B, 0xF9766256, 0x299DC2ED, 0x533B85DA,
    0xA6770BB4, 0x979F1129, 0xF44F2413, 0x33EF4E67, 0x67DE9CCE, 0xCFBD399C, 0x440B7579, 0x8816EAF2,
    0xCB5CD3A5, 0x4DC8A10B, 0x9B914216, 0xEC53826D, 0x03D6029B, 0x07AC0536, 0x0F580A6C, 0x1EB014D8,
    0x3D6029B0, 0x7AC05360, 0xF580A6C0, 0x30704BC1, 0x60E09782, 0xC1C12F04, 0x58F35849, 0xB1E6B092]
theorem zm3_mat : ZeroMat zm3 8 := zm2_mat.sq (by decide +kernel) rfl
/-- The matrix of 16 zero bytes. -/
def zm4 : List Nat :=
  [0xAE689191, 0x87A02563, 0xD4314C87, 0x73139F4F, 0xE6273E9E, 0x173F7B7D, 0x2E7EF6FA, 0x5CFDEDF4,
    0xB9FBDBE8, 0xA886B191, 0x8A7C6563, 0xCF89CC87, 0x44629F4F, 0x88C53E9E, 0xCAFB7B7D, 0x4E87F0BB,
    0x9D0FE176, 0xE16EC4AD, 0x19AC8F1B, 0x33591E36, 0x66B23C6C, 0xCD6478D8, 0x41B9F7F1, 0x8373EFE2,
    0xDD96D985, 0x605CB54B, 0xC0B96A96, 0x5A03D36D, 0xB407A6DA, 0xB37E4BF5, 0xBD8D91AB, 0xA06A2517]
theorem zm4_mat : ZeroMat zm4 16 := zm3_mat.sq (by decide +kernel) rfl
/-- The matrix of 32 zero bytes. -/
def zm5 : List Nat :=
  [0xF1DA05AA, 0x38C50D15, 0x718A1A2A, 0xE3143454, 0x1D596EE9, 0x3AB2DDD2, 0x7565BBA4, 0xEACB7748,
    0x0EE7E8D1, 0x1DCFD1A2, 0x3B9FA344, 0x773F4688, 0xEE7E8D10, 0x078C1C61, 0x0F1838C2, 0x1E307184,
    0x3C60E308, 0x78C1C610, 0xF1838C20, 0x38761E01, 0x70EC3C02, 0xE1D87804, 0x18C1F649, 0x3183EC92,
    0x6307D924, 0xC60FB248, 0x576E62D1, 0xAEDCC5A2, 0x86C88D05, 0xD6E01C4B, 0x76B13ED7, 0xED627DAE]
theorem zm5_mat : ZeroMat zm5 32 := zm4_mat.sq (by decide +kernel) rfl
/-- The matrix of 64 zero bytes. -/
def zm6 : List Nat :=
  [0x8F352D95, 0xC51B5D6B, 0x5147BC97, 0xA28F792E, 0x9E6FF41D, 0xE7AEEE7B, 0x142CDAB7, 0x2859B56E,
    0x50B36ADC, 0xA166D5B8, 0x99BCAD31, 0xE8085C23, 0x0B61BE07, 0x16C37C0E, 0x2D86F81C, 0x5B0DF038,
    0xB61BE070, 0xB746C6A1, 0xB5FC8B03, 0xB0881047, 0xBA6126CF, 0xAFB34BDF, 0x841791FF, 0xD35E25BF,
    0x7DCD4D3F, 0xFB9A9A7E, 0x2C4432BD, 0x5888657A, 0xB110CAF4, 0xB95093A9, 0xA9D02113, 0x88D14467]
theorem zm6_mat : ZeroMat zm6 64 := zm5_mat.sq (by decide +kernel) rfl
/-- The matrix of 128 zero bytes. -/
def zm7 : List Nat :=
  [0x33FFF533, 0x67FFEA66, 0xCFFFD4CC, 0x448EAFD9, 0x891D5FB2, 0xC94BB925, 0x49E6740B, 0x93CCE816,
    0xFCE8D66D, 0x22A0AA9B, 0x45415536, 0x8A82AA6C, 0xCE745299, 0x4799A373, 0x8F3346E6, 0xC5178B8D,
    0x515E115B, 0xA2BC22B6, 0x9E09432D, 0xE763801B, 0x15B60677, 0x2B6C0CEE, 0x56D819DC, 0xADB033B8,
    0x80116131, 0xDB53C423, 0x6DD68E07, 0xDBAD1C0E, 0x6C2B3E5D, 0xD8567CBA, 0x6BDDFF35, 0xD7BBFE6A]
theorem zm7_mat : ZeroMat zm7 128 := zm6_mat.sq (by decide +kernel) rfl
/-- The matrix of 256 zero bytes. -/
def zm8 : List Nat :=
  [0xCE3371CB, 0x4717E5D7, 0x8E2FCBAE, 0xC72E911D, 0x552C247B, 0xAA5848F6, 0x8FC197AD, 0xC4F2291B,
    0x52955477, 0xA52AA8EE, 0x9124579D, 0xF939A97B, 0x290254B7, 0x5204A96E, 0xA40952DC, 0x9363A3F9,
    0xFDB641B3, 0x201D8527, 0x403B0A4E, 0x8076149C, 0xDB9D2F79, 0x6C4B58B3, 0xD896B166, 0x6A5C648D,
    0xD4B8C91A, 0x72009475, 0xE40128EA, 0x13735795, 0x26E6AF2A, 0x4DCD5E54, 0x9B9ABCA8, 0xEC447F11]
theorem zm8_mat : ZeroMat zm8 256 := zm7_mat.sq (by decide +kernel) rfl
/-- The matrix of 512 zero bytes. -/
def zm9 : List Nat :=
  [0x1072DB28, 0x20E5B650, 0x41CB6CA0, 0x8396D940, 0xDC5CB4C1, 0x63C86FC3, 0xC790DF86, 0x5450B94D,
    0xA8A1729A, 0x8A33E375, 0xCF16C0AB, 0x455C8717, 0x8AB90E2E, 0xCE031A1D, 0x4777327B, 0x8EEE64F6,
    0xC6ADCFAD, 0x562A991B, 0xAC553236, 0x83DB622D, 0xDCC7C21B, 0x62FE8277, 0xC5FD04EE, 0x508B0F9D,
    0xA1161F3A, 0x995D3835, 0xE9CB762B, 0x08E7EA17, 0x11CFD42E, 0x239FA85C, 0x473F50B8, 0x8E7EA170]
theorem zm9_mat : ZeroMat zm9 512 := zm8_mat.sq (by decide +kernel) rfl
/-- The matrix of 1024 zero bytes. -/
def zm10 : List Nat :=
  [0xF891F16F, 0x2A52E49F, 0x54A5C93E, 0xA94B927C, 0x89E622B9, 0xC8BD4333, 0x4A0B8027, 0x9417004E,
    0xF35F06DD, 0x3DCF0BFB, 0x7B9E17F6, 0xF73C2FEC, 0x35095999, 0x6A12B332, 0xD4256664, 0x733BCA89,
    0xE6779512, 0x179E2C65, 0x2F3C58CA, 0x5E78B194, 0xBCF16328, 0xA293C011, 0x9E568663, 0xE7DC0A87,
    0x14C9134F, 0x2992269E, 0x53244D3C, 0xA6489A78, 0x97E032B1, 0xF4B16323, 0x3213C007, 0x6427800E]
theorem zm10_mat : ZeroMat zm10 1024 := zm9_mat.sq (by decide +kernel) rfl
/-- The matrix of 2048 zero bytes. -/
def zm11 : List Nat :=
  [0x88B6BA63, 0xCA1C7287, 0x4F49E34F, 0x9E93C69E, 0xE6568B7D, 0x17DC10BB, 0x2FB82176, 0x5F7042EC,
    0xBEE085D8, 0xA6B00DF1, 0x96111DA3, 0xF7533D07, 0x35D77C4F, 0x6BAEF89E, 0xD75DF13C, 0x75CAE439,
    0xEB95C872, 0x0C5A96A5, 0x18B52D4A, 0x316A5A94, 0x62D4B528, 0xC5A96A50, 0x5023D2E1, 0xA047A5C2,
    0x9BFE4DC5, 0xEC8D9DCB, 0x026A3DD7, 0x04D47BAE, 0x09A8F75C, 0x1351EEB8, 0x26A3DD70, 0x4D47BAE0]
theorem zm11_mat : ZeroMat zm11 2048 := zm10_mat.sq (by decide +kernel) rfl
/-- The matrix of 4096 zero bytes. -/
def zm12 : List Nat :=
  [0x5AD8A92C, 0xB5B15258, 0xB013A2F1, 0xBB5643A3, 0xADDD8107, 0x80CA044F, 0xDAE50EDF, 0x6EBB1BFF,
    0xDD7637FE, 0x619D69BD, 0xC33AD37A, 0x5D04A0B5, 0xBA09416A, 0xAF638495, 0x85B60F6B, 0xD01D1897,
    0x7B4B376F, 0xF6966EDE, 0x365DDBFD, 0x6CBBB7FA, 0xD9776FF4, 0x699FD9A9, 0xD33FB352, 0x7D0E60E5,
    0xFA1CC1CA, 0x2F4885D5, 0x5E910BAA, 0xBD221754, 0xA13528E9, 0x991B5793, 0xE947A967, 0x09FE548F]
theorem zm12_mat : ZeroMat zm12 4096 := zm11_mat.sq (by decide +kernel) rfl
/-- The matrix of 8192 zero bytes. -/
def zm13 : List Nat :=
  [0xB566F6E2, 0xB1BCEB85, 0xB808D14B, 0xAB60A4D7, 0x8DB04FEF, 0xC011999F, 0x5B52357F, 0xB6A46AFE,
    0xB639D3BD, 0xB702A13B, 0xB5744437, 0xB1998E2F, 0xB8421A1F, 0xABF5327F, 0x8C9B62BF, 0xC247C33F,
    0x5FFE803F, 0xBFFD007E, 0xA48B06BD, 0x92670B3B, 0xFFBF1037, 0x240F262F, 0x481E4C5E, 0x903C98BC,
    0xFB083739, 0x2D616833, 0x5AC2D066, 0xB585A0CC, 0xB07A47D9, 0xBB8589F3, 0xAC7A15A7, 0x83852D0F]
theorem zm13_mat : ZeroMat zm13 8192 := zm12_mat.sq (by decide +kernel) rfl
/-- The matrix of 16384 zero bytes. -/
def zm14 : List Nat :=
  [0x9D9129BF, 0xE053553F, 0x1BD7AC3F, 0x37AF587E, 0x6F5EB0FC, 0xDEBD61F8, 0x660BC5B1, 0xCC178B62,
    0x435E1085, 0x86BC210A, 0xD6094455, 0x77638EEB, 0xEEC71DD6, 0x06FF3DED, 0x0DFE7BDA, 0x1BFCF7B4,
    0x37F9EF68, 0x6FF3DED0, 0xDFE7BDA0, 0x64BE7D01, 0xC97CFA02, 0x4988F245, 0x9311E48A, 0xFD52CF55,
    0x21D498EB, 0x43A931D6, 0x875263AC, 0xD5D5C119, 0x70DA8473, 0xE1B508E6, 0x181B178D, 0x30362F1A]
theorem zm14_mat : ZeroMat zm14 16384 := zm13_mat.sq (by decide +kernel) rfl
/-- The matrix of 32768 zero bytes. -/
def zm15 : List Nat :=
  [0x2EE43A2C, 0x5DC87458, 0xBB90E8B0, 0xAC50D721, 0x83D0A803, 0xDCD05647, 0x62D1AACF, 0xC5A3559E,
    0x5037AD7D, 0xA06F5AFA, 0x9BAFB3B5, 0xEC2E612B, 0x032DC417, 0x065B882E, 0x0CB7105C, 0x196E20B8,
    0x32DC4170, 0x65B882E0, 0xCB7105C0, 0x4D930DC1, 0x9B261B82, 0xED3D3145, 0x010B64CB, 0x0216C996,
    0x042D932C, 0x085B2658, 0x10B64CB0, 0x216C9960, 0x42D932C0, 0x85B26580, 0xD015CD41, 0x7B5A9CC3]
theorem zm15_mat : ZeroMat zm15 32768 := zm14_mat.sq (by decide +kernel) rfl
/-- The matrix of 65536 zero bytes. -/
def zm16 : List Nat :=
  [0x1B4511EE, 0x368A23DC, 0x6D1447B8, 0xDA288F70, 0x6F2018A1, 0xDE403142, 0x67F164C5, 0xCFE2C98A,
    0x44B49555, 0x89692AAA, 0xC9A35315, 0x4837A06B, 0x906F40D6, 0xFBAF87ED, 0x2C2E099B, 0x585C1336,
    0xB0B8266C, 0xBA014A99, 0xAF739373, 0x859620A7, 0xD05D470F, 0x7BCB885F, 0xF79710BE, 0x345F273D,
    0x68BE4E7A, 0xD17C9CF4, 0x79883FA9, 0xF3107F52, 0x3D51F8E5, 0x7AA3F1CA, 0xF547E394, 0x31FEC169]
theorem zm16_mat : ZeroMat zm16 65536 := zm15_mat.sq (by decide +kernel) rfl
/-- The matrix of 131072 zero bytes. -/
def zm17 : List Nat :=
  [0xBCE15202, 0xA2B3A245, 0x9E1642CB, 0xE75D83D7, 0x15CA01EF, 0x2B9403DE, 0x572807BC, 0xAE500F78,
    0x87D118B1, 0xD4D33723, 0x72D76807, 0xE5AED00E, 0x102CA65D, 0x20594CBA, 0x40B29974, 0x816532E8,
    0xD9BB6391, 0x6807C163, 0xD00F82C6, 0x7B6E03CD, 0xF6DC079A, 0x36C90975, 0x6D9212EA, 0xDB2425D4,
    0x6D394DE9, 0xDA729BD2, 0x6F9431E5, 0xDF2863CA, 0x6521C1D5, 0xCA4383AA, 0x4FF60115, 0x9FEC022A]
theorem zm17_mat : ZeroMat zm17 131072 := zm16_mat.sq (by decide +kernel) rfl
/-- The matrix of 262144 zero bytes. -/
def zm18 : List Nat :=
  [0xFF08E5EF, 0x2560CD9F, 0x4AC19B3E, 0x9583367C, 0xF0776AB9, 0x3B9FD333, 0x773FA666, 0xEE7F4CCC,
    0x078F9FD9, 0x0F1F3FB2, 0x1E3E7F64, 0x3C7CFEC8, 0x78F9FD90, 0xF1F3FB20, 0x3896F001, 0x712DE002,
    0xE25BC004, 0x1FC68649, 0x3F8D0C92, 0x7F1A1924, 0xFE343248, 0x271962D1, 0x4E32C5A2, 0x9C658B44,
    0xE3BA10C9, 0x1C0527D3, 0x380A4FA6, 0x70149F4C, 0xE0293E98, 0x1B237B71, 0x3646F6E2, 0x6C8DEDC4]
theorem zm18_mat : ZeroMat zm18 262144 := zm17_mat.sq (by decide +kernel) rfl
/-- The matrix of 524288 zero bytes. -/
def zm19 : List Nat :=
  [0x6F76172E, 0xDEEC2E5C, 0x66A95AF9, 0xCD52B5F2, 0x41D46DA5, 0x83A8DB4A, 0xDC20B0D5, 0x633067EB,
    0xC660CFD6, 0x57B099ED, 0xAF6133DA, 0x85B361F5, 0xD017C5AB, 0x7B5E8D17, 0xF6BD1A2E, 0x360B321D,
    0x6C16643A, 0xD82CC874, 0x6B2896A9, 0xD6512D52, 0x77D35CE5, 0xEFA6B9CA, 0x043C75D5, 0x0878EBAA,
    0x10F1D754, 0x21E3AEA8, 0x43C75D50, 0x878EBAA0, 0xD46C7301, 0x73A9E043, 0xE753C086, 0x15D6874D]
theorem zm19_mat : ZeroMat zm19 524288 := zm18_mat.sq (by decide +kernel) rfl

/-- Bytes of a memory that lists none of them read as zeros. -/
theorem readN_blank (m : Memory) (a n : Nat) (h : m.all (fun c => decide (c.1 < a) || decide (a + n ≤ c.1)) = true) :
    Memory.readN m a n = List.replicate n 0 := by
  have r : ∀ b, a ≤ b → b < a + n → Memory.read m b = 0 := by
    intro b l u
    unfold Memory.read
    induction m with
    | nil => rfl
    | cons c t ih =>
      simp only [List.all_cons, Bool.and_eq_true, Bool.or_eq_true, decide_eq_true_eq] at h
      rw [FMap.get_cons, if_neg (by omega)]
      exact ih (by simpa using h.2)
  clear h
  induction n generalizing a with
  | zero => rfl
  | succ n ih =>
    rw [Memory.readN, r a (Nat.le_refl _) (by omega), ih (a + 1) (fun b l u => r b (by omega) (by omega)), List.replicate_succ]
theorem readN_split (m : Memory) (a n k : Nat) : Memory.readN m a (n + k) = Memory.readN m a n ++ Memory.readN m (a + n) k := by
  induction n generalizing a with
  | zero => simp [Memory.readN]
  | succ n ih =>
    rw [show n + 1 + k = (n + k) + 1 by omega, Memory.readN, ih, Memory.readN, show a + 1 + n = a + (n + 1) by omega]; rfl
/-- The register after the first bytes. -/
theorem crc32_then_zeros (l : List Byte) (n : Nat) :
    crc32 (l ++ List.replicate n 0) = zeros n (l.foldl crcByte 0xFFFFFFFF) ^^^ 0xFFFFFFFF := by
  simp [crc32, zeros, List.foldl_append]

end Sys2Proof.Tests
end

