-- ==== Sys2Proof/Tests/Witness5.lean ====
section
/-! SUPPORT. Concrete states and operands that meet the hypotheses of statements over whole blocks, images and checkpoints, part 5. -/
namespace Sys2Proof.Tests
open Sys2Proof Sys2Proof.Machine
set_option maxRecDepth 4000
set_option Elab.async false

/-- The header of a golden block of zeros with its CRC (R251). -/
def zeroBlockWord : Nat := put 1 8 248 + put 5 64 184 + put 0x75660AAC 32 128
/-- An image of which only the table of one section is read, the golden block 5 of zeros (R247, R251). -/
def blockImage : Memory :=
  Memory.writeN (Memory.writeN (Memory.writeN [] 0 (leBytes 64 (put 1 8 456))) 64 (leBytes 16 (put 5 8 120 + put 1 8 112 + put 1 32 80 + put 524320 48 32)))
    4096 (leBytes 32 zeroBlockWord)
def zeroGolden : Golden := imgGolden blockImage (blockHeader zeroBlockWord 4128)
def blockState : State := { s0 with images := [(7, { bytes := blockImage, len := 532480 })] }

theorem zeroGolden_data : zeroGolden.data = List.replicate 524288 0 := readN_blank _ _ _ (by decide +kernel)
theorem zeroGolden_crc : goldenCrcOk zeroGolden = true := by
  have h := crc32_then_zeros [] 524288
  rw [List.nil_append, show (List.foldl crcByte 0xFFFFFFFF ([] : List Byte)) = 0xFFFFFFFF from rfl, zm19_mat _ (by decide)] at h
  rw [goldenCrcOk, zeroGolden_data, h]
  decide +kernel
theorem imgBlocks_blockImage : imgBlocks blockImage = [blockHeader zeroBlockWord 4128] := by decide +kernel
theorem zeroGolden_found : ∀ s : State, FMap.find s.images 7 = some { bytes := blockImage, len := 532480 } → storeGolden s 7 5 = some zeroGolden := by
  intro s h
  simp only [storeGolden, h, imgBlocks_blockImage]
  rfl
theorem zeroGolden_fits : sourceBad zeroGolden = none := by
  have l : goldenLevelsOk (fld zeroGolden.word 164 162) zeroGolden.data = true := by
    rw [goldenLevelsOk, zeroGolden_data, List.all_replicate]
    decide +kernel
  rw [sourceBad, zeroGolden_crc, l]
  decide +kernel

def stageAt : State := reach 1 [cmd 0x11 [(5, 64, 160), (2 * 2 ^ 44 + 4194304, 48, 112)]] blockState
/-- The hypotheses of the clause on STAGE of `Obligations.RetrieverCommands` are met. -/
theorem witness_RetrieverCommands_stage : ∃ (q : Nat) (s : State) (r : RunList) (w : Nat) (g : Golden), Reached s q 0x11 r w ∧
    stageSlotOk (part s (qPart q)).place (fld w 159 112) = true ∧
    storeGolden s (part s (qPart q)).place.image (fld w 223 160) = some g ∧ goldenCrcOk g = true := by
  refine ⟨1, stageAt, listRun stageAt 1, listWord stageAt 1, zeroGolden, ⟨by decide +kernel, by decide +kernel, by decide +kernel, by decide +kernel,
    by decide +kernel, by decide +kernel⟩, by decide +kernel, ?_, zeroGolden_crc⟩
  have i : (part stageAt (qPart 1)).place.image = 7 := by decide +kernel
  have b : fld (listWord stageAt 1) 223 160 = 5 := by decide +kernel
  rw [i, b]
  exact zeroGolden_found _ rfl

theorem programSource_store {s : State} {p w : Nat} {g : Golden} (c : fld w 146 145 = 1)
    (f : storeGolden s (part s p).place.image (fld w 144 81) = some g) (b : sourceBad g = none) :
    programSource s p w = (s, .inr (imageOf (fld w 144 81) g)) := by
  simp [programSource, c, f, b, sourceFrom]
def programAt : State := reach 4 [cmd 0x40 [(1, 1, 147), (1, 2, 145), (5, 64, 81)]] { blockState with banks := [(bankKey 0 3 0, {})] }
/-- The hypotheses of the clause on PROGRAM of `Obligations.BankCommands` are met. -/
theorem witness_BankCommands_program : ∃ (q : Nat) (s s1 : State) (r : RunList) (w : Nat) (x : BankImage), Reached s q 0x40 r w ∧
    selRefusal s (qPart q) 0x40 (picked s q w) = none ∧ programSource s (qPart q) w = (s1, .inr x) := by
  refine ⟨4, programAt, programAt, listRun programAt 4, listWord programAt 4, imageOf (fld (listWord programAt 4) 144 81) zeroGolden, ⟨by decide +kernel, by decide +kernel, by decide +kernel,
    by decide +kernel, by decide +kernel, by decide +kernel⟩, by decide +kernel, ?_⟩
  have i : (part programAt (qPart 4)).place.image = 7 := by decide +kernel
  have b : fld (listWord programAt 4) 144 81 = 5 := by decide +kernel
  refine programSource_store (by decide +kernel) ?_ zeroGolden_fits
  rw [i, b]
  exact zeroGolden_found _ rfl

/-- A checkpoint of a sequence of length 0 at HBM address 0 (R343): its header with its CRC, then zeros. -/
def savedHead (crc : Nat) : List Byte := leBytes 32 (put 1 8 248 + put 9 32 208 + crc) ++ leBytes 32 7
def restoreAt : State :=
  reach 1 [cmd 0x12 [(1, 1, 223), (9, 32, 191), (2 * 2 ^ 44, 48, 143)]] { s0 with hbm := Memory.writeN [] 0 (savedHead 0xC5D2FA9C) }
theorem restoreAt_read (n : Nat) (h : n ≤ 4096) : pvaRead restoreAt 0 (2 * 2 ^ 44) n = Memory.readN restoreAt.hbm 0 n := by
  have b : ∀ i, i < 4096 → (pvaByte restoreAt 0 (2 * 2 ^ 44 + i)).getD 0 = Memory.read restoreAt.hbm i := by
    intro i l
    have v : vaSpace (2 * 2 ^ 44 + i) = 2 := by simp only [vaSpace, fld]; omega
    have w : vaLow (2 * 2 ^ 44 + i) = i := by simp only [vaLow]; omega
    have pl : (part restoreAt 0).place = place := by decide +kernel
    have r : hbmResolve place 2 i = some i := by
      simp [hbmResolve, regionAt, place, HReg.resolve, show i < 2097152 by omega, show i / 4096 = 0 by omega, show i % 4096 = i by omega]
    simp only [pvaByte, v, w, pl, r]
    rfl
  apply List.ext_getElem
  · simp [pvaRead, Memory.length_readN]
  · intro i l _
    have l' : i < n := by simpa [pvaRead] using l
    have g := Memory.getElem_readN (m := restoreAt.hbm) (a := 0) l'
    rw [List.getD_eq_getElem?_getD, List.getElem?_eq_getElem (by simpa [Memory.length_readN] using l'), Option.getD_some, Nat.zero_add] at g
    simp only [pvaRead, List.getElem_map, List.getElem_range, b i (by omega), g]
theorem restoreAt_sound (s : State) (p va n : Nat) (h : s.hbmErr = []) (v : vaSpace va = 2) : pvaBad s p va n = false := by
  simp only [pvaBad, v, hbmPoisoned, h, List.any_eq_false]
  intro i _
  split <;> simp
theorem restoreAt_crc : crc32 (leBytes 4 0 ++ (pvaRead restoreAt 0 (2 * 2 ^ 44) 4096).drop 4) = 0xC5D2FA9C := by
  have z : Memory.readN restoreAt.hbm (0 + 64) 4032 = List.replicate 4032 0 := readN_blank _ _ _ (by decide +kernel)
  rw [restoreAt_read _ (by decide), show 4096 = 64 + 4032 from rfl, readN_split, z,
    List.drop_append_of_le_length (by rw [Memory.length_readN]; decide), ← List.append_assoc, crc32_then_zeros]
  have c : (leBytes 4 0 ++ (Memory.readN restoreAt.hbm 0 64).drop 4).foldl crcByte 0xFFFFFFFF < 2 ^ 32 := by decide +kernel
  rw [show 4032 = 64 + 128 + 256 + 512 + 1024 + 2048 from rfl]
  simp only [zeros_add]
  rw [zm6_mat _ c, zm7_mat, zm8_mat, zm9_mat, zm10_mat, zm11_mat] <;> decide +kernel

theorem restoreAt_fits : chkptRefusal restoreAt 0 9 (2 * 2 ^ 44) = none := by
  have e : restoreAt.hbmErr = [] := rfl
  have h : leNat (pvaRead restoreAt 0 (2 * 2 ^ 44) 32) = put 1 8 248 + put 9 32 208 + 0xC5D2FA9C := by decide +kernel
  have n : chkptBytes (part restoreAt 0).place (fld (put 1 8 248 + put 9 32 208 + 0xC5D2FA9C) 207 176) = 4096 := by decide +kernel
  have b : pvaBad restoreAt 0 (2 * 2 ^ 44) 4096 = false := restoreAt_sound _ _ _ _ e (by decide +kernel)
  simp only [chkptRefusal, h, n, b, restoreAt_crc]
  decide +kernel
/-- The hypotheses of the clause on a restoring CHKPT of `Obligations.RetrieverCommands` are met. -/
theorem witness_RetrieverCommands_restore : ∃ (q : Nat) (s : State) (r : RunList) (w : Nat), Reached s q 0x12 r w ∧ bitAt w 223 = true ∧
    stepActive s (qPart q) = false ∧ chkptRefusal s (qPart q) (fld w 222 191) (fld w 190 143) = none := by
  refine ⟨1, restoreAt, listRun restoreAt 1, listWord restoreAt 1, ⟨by decide +kernel, by decide +kernel, by decide +kernel, by decide +kernel,
    by decide +kernel, by decide +kernel⟩, by decide +kernel, by decide +kernel, ?_⟩
  rw [show fld (listWord restoreAt 1) 222 191 = 9 by decide +kernel, show fld (listWord restoreAt 1) 190 143 = 2 * 2 ^ 44 by decide +kernel]
  exact restoreAt_fits

/-- A section's entry of the table: type, first page, length and CRC (R247). -/
def sectionOf (typ page len crc : Nat) : List Byte := leBytes 16 (put typ 8 120 + put 1 8 112 + put page 32 80 + put len 48 32 + crc)
/-- The memory that holds these bytes from an address up. -/
def cellsAt (a : Nat) (bs : List Byte) : Memory := ((List.range' a bs.length).zip bs).filter (·.2 != 0)
/-- An image for one tile with one region and no array, whose list is one END (R160, R246–R250). -/
def smallImage : Memory :=
  let head := leBytes 64 (put 0x4F4C4931 32 480 + put 1 4 476 + put 1 4 468 + put 6 8 456 + put 8 64 384 + put 5 32 352 + 0xA081F9C6)
    ++ sectionOf 1 1 32 0x65AF9F6B ++ sectionOf 2 2 40 0x4615DACB ++ sectionOf 3 3 16 0xECBB4B55 ++ sectionOf 4 4 4096 0x23421525
    ++ sectionOf 5 5 0 0 ++ sectionOf 6 5 0 0
  let demand := leBytes 32 (put 1 8 248 + put 1 12 236 + put 1 11 225 + put 1 16 158)
  let tile := leBytes 32 (put 1 8 248 + put 1 5 212 + put 1 4 200 + put 4096 24 176) ++ leBytes 8 (put 1 11 46)
  let list := leBytes 16 (put 1 8 120 + put 1 16 100 + 0x96D055D) ++ leBytes 16 (put 1 8 120)
  cellsAt 0 head ++ cellsAt 4096 demand ++ cellsAt 8192 tile ++ cellsAt 16384 list
def loadAt : State := { s0 with images := [(8, { bytes := smallImage, len := 20480 })], parts := [] }
theorem smallImage_lists : crc32 (Memory.readN smallImage 16384 4096) = 0x23421525 := by
  have z : Memory.readN smallImage (16384 + 64) 4032 = List.replicate 4032 0 := readN_blank _ _ _ (by decide +kernel)
  have c : (Memory.readN smallImage 16384 64).foldl crcByte 0xFFFFFFFF < 2 ^ 32 := by decide +kernel
  rw [show 4096 = 64 + 4032 from rfl, readN_split, z, crc32_then_zeros, show 4032 = 64 + 128 + 256 + 512 + 1024 + 2048 from rfl]
  simp only [zeros_add]
  rw [zm6_mat _ c, zm7_mat, zm8_mat, zm9_mat, zm10_mat, zm11_mat] <;> decide +kernel
theorem smallImage_crcs : crcsOk smallImage = true := by
  have t : sections smallImage = [⟨1, 1, 4096, 32, 0x65AF9F6B⟩, ⟨2, 1, 8192, 40, 0x4615DACB⟩, ⟨3, 1, 12288, 16, 0xECBB4B55⟩,
      ⟨4, 1, 16384, 4096, 0x23421525⟩, ⟨5, 1, 20480, 0, 0⟩, ⟨6, 1, 20480, 0, 0⟩] := by decide +kernel
  have h : imgHdrCrcOk smallImage = true := by decide +kernel
  have b : imgBlocks smallImage = [] := by decide +kernel
  simp only [crcsOk, t, h, b, List.all_cons, List.all_nil, smallImage_lists]
  decide +kernel
theorem smallImage_fits : imageFail loadAt smallImage = none := by
  simp only [imageFail, firstFail, smallImage_crcs, ite_true]
  decide +kernel
/-- The hypotheses of the clause on LOAD of `Obligations.PlacementRequests` are met. -/
theorem witness_PlacementRequests_load : ∃ (ses : Nat) (body p : Nat) (s : State) (im : StoreImg), p = fld body 247 244 ∧ MayPlace s ses p 0x10 ∧
    fld body 255 248 = 1 ∧ fld body 242 240 = 0 ∧ body % 2 ^ 152 = 0 ∧ body < 2 ^ 256 ∧ (part s p).st = .free ∧
    FMap.find s.images (fld body 239 176) = some im ∧ imageFail s im.bytes = none :=
  ⟨1, put 1 8 248 + put 8 64 176, 0, loadAt, { bytes := smallImage, len := 20480 }, by decide +kernel, ⟨by decide +kernel, ⟨by decide +kernel,
    by decide +kernel, by decide +kernel, by decide +kernel⟩, by decide +kernel, by decide +kernel, by decide +kernel⟩, by decide +kernel, by decide +kernel,
    by decide +kernel, by decide +kernel, by decide +kernel, by decide +kernel, smallImage_fits⟩

/-- A firmware package of one empty component for slot 1, with the digest of no bytes (FIPS 180-4) and a signature of zeros (R516). -/
def fwPackage : Memory :=
  cellsAt 0 (leBytes 64 (put 0x44514650 32 480 + put 1 4 476 + put 1 4 468 + put 1 4 428 + put 1 4 424 + put 224 64 320 + 0x817B0BCD)
    ++ leBytes 64 (put 1 4 508 + 0x5bb99848f1d21ad5fb656fe7bfde4e27dae1f663bfc70c4c4307be1411b7fd216ae3b1b17e32d94c3896ac51a760b038))
def fwEnding : State := { s0 with fw := { st := 1, len := 224, bytes := fwPackage, ranges := [(0, 224)] } }
/-- The hypotheses of the clause on FWEND of `Obligations.FirmwareRequests` are met where the signature, which `Config.signatureValid` judges, is one. -/
theorem witness_FirmwareRequests_end (sig : Config.signatureValid (Memory.readN fwPackage 0 128) (Memory.readN fwPackage 128 96) = true) :
    ∃ (ses : Nat) (s : State), Serves s ses 0x42 ∧ hasFirmware s ses = true ∧ s.fw.st = 1 ∧ fwEndFail s.fw = none := by
  refine ⟨1, fwEnding, ⟨by decide +kernel, by decide +kernel, by decide +kernel, by decide +kernel⟩, by decide +kernel, by decide +kernel, ?_⟩
  have n : fwCount fwPackage = 1 := by decide +kernel
  have d : (fwEntries fwPackage).all (fwDigestOk fwPackage 224) = true := by decide +kernel
  have g : fwSigned fwPackage = true := by simpa only [fwSigned, n] using sig
  simp only [fwEndFail, fwEnding, d, g]
  decide +kernel

end Sys2Proof.Tests
end

section
/-! SUPPORT. Completion of well-formed commands: a router port without a link takes no flit, so FLIT_CRC_ERROR of such a port stops the block. -/
namespace Sys2Proof.Machine

/-- R217, R223: FLIT_CRC_ERROR stops the block in every state where the port that it names has no link. -/
theorem exec_flitCrcError_eq_fault_of_no_link {t port : Nat} (again : Bool) (s : State) (hl : hasLink t port = false) :
    exec (.flitCrcError t port again) s = .fault .noSuchUnit := by
  simp [exec, execFlitCrcError, hl]

/-- R217: LD0 attaches to the west edge at Y = 4 to 11, so the west port (3) of the corner router, at X = 0 and Y = 0, has no link. -/
theorem hasLink_corner_west : hasLink 0 3 = false := by decide

/-- Tile 0 is a tile of the wafer and 3 a port number of a router. -/
theorem wf_flitCrcError_corner_west : (Instr.flitCrcError 0 3 false).wf = true := by decide

/-- Refutes O5: the ranges of FLIT_CRC_ERROR's operands let in a port without a link. The west port of tile 0's router is one (R217), and the
command stops the block with `noSuchUnit` there, from reset as from every other state. -/
theorem not_everyWellFormedCommandCompletes : ¬ Obligations.EveryWellFormedCommandCompletes := by
  intro h
  obtain ⟨t, ht⟩ := h (.flitCrcError 0 3 false) State.reset wf_flitCrcError_corner_west
  rw [exec_flitCrcError_eq_fault_of_no_link false State.reset hasLink_corner_west] at ht
  cases ht

end Sys2Proof.Machine
end

section
/-! SUPPORT. What a change leaves readable; how a list is dispatched and how it ends (R177, R180, R181). -/
namespace Sys2Proof.Machine

/-! ### What a change leaves readable -/

section
variable {m : Nat} {s t : State} (h : Only m s t)
include h

theorem Only.part_eq (e : m.testBit 10 = false) (p : Nat) : part t p = part s p := by simp only [part, h.parts e]
theorem Only.stepOf_eq (e : m.testBit 10 = false) (p : Nat) : stepOf t p = stepOf s p := by simp only [stepOf, h.part_eq e]
theorem Only.queue_eq (e : m.testBit 11 = false) (q : Nat) : queue t q = queue s q := by simp only [queue, h.queues e]
theorem Only.bankOf_eq (e : m.testBit 21 = false) (k : Nat) : bankOf t k = bankOf s k := by simp only [bankOf, h.banks e]
theorem Only.latchOf_eq (e : m.testBit 23 = false) (k : Nat) : latchOf t k = latchOf s k := by simp only [latchOf, h.latch e]
theorem Only.runOf_eq (e : m.testBit 33 = false) (k : Nat) : runOf t k = runOf s k := by simp only [runOf, h.tiles e]
theorem Only.group_eq (e : m.testBit 89 = false) (p : Nat) : group t p = group s p := by simp only [group, h.groups e]

end

/-! ### A table and a queue written twice -/

theorem FMap.set_set {α : Type} (m : FMap α) (k : Nat) (v w : α) : FMap.set (FMap.set m k v) k w = FMap.set m k w := by
  induction m with
  | nil => simp [FMap.set]
  | cons e t ih =>
    obtain ⟨k', v'⟩ := e
    rcases Nat.lt_trichotomy k k' with h | h | h
    · simp [FMap.set, h]
    · simp [FMap.set, h]
    · simp [FMap.set, ih, show ¬k < k' by omega, show k ≠ k' by omega]

theorem setQueue_setQueue (s : State) (q : Nat) (x y : QueueSt) : setQueue (setQueue s q x) q y = setQueue s q y := by
  simp only [setQueue, FMap.set_set]

/-! ### LIST_DISPATCH -/

theorem exec_listDispatch (q : Nat) (s : State) : exec (.listDispatch q) s = execListDispatch q s := rfl

theorem execListDispatch_of_front {q : Nat} {s : State} {l : HostList} {ls : List HostList} (hq : q < 128) (hr : (queue s q).running = none)
    (hw : (queue s q).waiting = l :: ls) (hd : mayDispatch s q = true) :
    execListDispatch q s = .next (setQueue s q { waiting := ls, running := some { lst := l } }) := by
  rw [execListDispatch, if_neg (by omega), hr, hw]
  simp only [hd, if_true]

theorem execListDispatch_of_not_mayDispatch {q : Nat} {s : State} (hq : q < 128) (hd : mayDispatch s q = false) :
    execListDispatch q s = .next s := by
  rw [execListDispatch, if_neg (by omega), hd]
  split <;> rfl

/-- Settles O7: the dispatched state is the one queue update, and the other queues are apart from it. -/
theorem dispatchTakesTheOldestList : Obligations.DispatchTakesTheOldestList := by
  refine ⟨fun q s l ls hq hr hw hd => ?_, fun q s hq hd => ?_⟩
  · refine ⟨_, (exec_listDispatch q s).trans (execListDispatch_of_front hq hr hw hd), queue_setQueue_same .., fun j hj => ?_⟩
    rw [queue_setQueue, if_neg hj]
  · exact (exec_listDispatch q s).trans (execListDispatch_of_not_mayDispatch hq hd)

/-! ### The end of a list -/

theorem postReply_replyQ (s : State) (p : Nat) (ws : List W256) :
    ∃ old, FMap.get [] (postReply s p ws).replyQ p = old ++ [{ words := ws, waitingFor := readers s p, no := s.replyNo }] ∧
      (readers s p ≠ [] → old = FMap.get [] s.replyQ p) := by
  unfold postReply
  dsimp only
  split
  next hr =>
    simp only [FMap.get_set_same, hr]
    split
    next hl =>
      -- The oldest of more than 1,024 records, which is not the new one, is dropped (R181).
      refine ⟨(FMap.get [] s.replyQ p).drop 1, ?_, fun h => absurd rfl h⟩
      rw [List.drop_append_of_le_length]
      simp only [List.length_append, List.length_cons, List.length_nil] at hl
      omega
    next => exact ⟨_, rfl, fun h => absurd rfl h⟩
  next =>
    refine ⟨_, ?_, fun _ => rfl⟩
    rw [(emit_only ..).replyQ rfl]
    exact FMap.get_set_same

theorem endRun_replyQ (s : State) (q : Nat) (r : RunList) (reason off : Nat) (step : Option Nat) :
    (endRun s q r reason off step).replyQ = (postReply s (qPart q) (completionWord s (qPart q) (q % 8) (hdrListId r.lst.hdr) reason off
      r.results.length (step.getD (part s (qPart q)).stepCounter) :: r.results)).replyQ := by
  unfold endRun
  dsimp only
  split
  · exact (doneSignal_only ..).replyQ rfl
  · rfl

theorem queue_endRun (s : State) (q : Nat) (r : RunList) (reason off : Nat) (step : Option Nat) (j : Nat) :
    queue (endRun s q r reason off step) j = queue s j :=
  (endRun_only ..).queue_eq rfl j

theorem endList_of_running {s : State} {q : Nat} {r : RunList} (reason off : Nat) (step : Option Nat) (h : (queue s q).running = some r) :
    endList s q reason off step = endRun (setQueue s q { queue s q with running := none }) q r reason off step := by
  rw [endList, h]

/-- A queue's running list after the command that it reached has completed with result words `res` (R177). -/
def RunList.moved (r : RunList) (res : List W256) : RunList :=
  { r with pos := r.pos + 1 + cmdNpay (r.lst.word r.pos), begun := false, results := r.results ++ res, aux := [] }

theorem advance_of_last {s : State} {q : Nat} {r : RunList} (res : List W256) (step : Option Nat) (h : (queue s q).running = some r)
    (hl : hdrNwords r.lst.hdr < r.pos + 1 + cmdNpay (r.lst.word r.pos)) :
    advance s q res step = endRun (setQueue s q { queue s q with running := none }) q (r.moved res) 0 0 step := by
  have hrun : (queue (setQueue s q { queue s q with running := some (r.moved res) }) q).running = some (r.moved res) := by
    rw [queue_setQueue_same]
  rw [advance, h]
  simp only [if_pos hl]
  rw [← RunList.moved, endList_of_running 0 0 step hrun, queue_setQueue_same, setQueue_setQueue]

/-- Settles O9: the last command ends the list, whose end posts its one record; the done signal after it touches neither queue. -/
theorem lastCommandEndsItsList : Obligations.LastCommandEndsItsList := by
  intro q s r res hr hl
  obtain ⟨old, hold, hdrop⟩ := postReply_replyQ (setQueue s q { queue s q with running := none }) (qPart q)
    (completionWord s (qPart q) (q % 8) (hdrListId r.lst.hdr) 0 0 (r.results ++ res).length (part s (qPart q)).stepCounter :: (r.results ++ res))
  rw [advance_of_last res none hr hl, queue_endRun, queue_setQueue_same, endRun_replyQ]
  exact ⟨rfl, old, s.replyNo, hold, hdrop⟩

end Sys2Proof.Machine
end

section
/-! SUPPORT. STEP: a command that its list has reached, what stalls a partition, and the step that begins (R17, R25, R190). -/
namespace Sys2Proof.Machine

/-! ### A host command that its list has reached -/

theorem withCommand_of_reached {s : State} {q op : Nat} {r : RunList} {w : Nat} (h : Reached s q op r w) (f : RunList → Nat → State) :
    withCommand s q op f = .next (turnOver (f r w) q r.pos) := by
  rw [withCommand, if_neg (Nat.not_le.mpr h.queueNo), h.cmd]
  simp [h.ready, h.turn, h.owned, h.allowed]

theorem atCommand_eq_some {s : State} {q op : Nat} {r : RunList} {w : Nat} (h : atCommand s q op = some (r, w)) :
    (queue s q).running = some r ∧ w = r.lst.word r.pos := by
  unfold atCommand curCmd at h
  cases hq : (queue s q).running with
  | none => simp [hq] at h
  | some x =>
    simp only [hq] at h
    split at h
    · cases h
      exact ⟨rfl, rfl⟩
    · cases h

theorem queue_beginCmd_same {s : State} {q : Nat} {r : RunList} (aux : List Nat) (h : (queue s q).running = some r) :
    (queue (beginCmd s q aux) q).running = some { r with begun := true, aux := aux } := by
  rw [beginCmd, h]
  exact congrArg QueueSt.running (queue_setQueue_same ..)

/-! ### What holds a step back -/

/-- `t` agrees with `s` in all that tells whether a failure holds a partition's tiles or transfers (R239, R240): where its partitions are placed, what
is under way, and which units have failed. -/
structure SameFailures (s t : State) : Prop where
  dict : t.dict = s.dict
  fills : t.fills = s.fills
  tiles : t.tiles = s.tiles
  flights : t.flights = s.flights
  rflights : t.rflights = s.rflights
  heatOff : t.heatOff = s.heatOff
  blockSt : t.blockSt = s.blockSt
  power : t.power = s.power
  coolant : t.coolant = s.coolant
  place : ∀ k, (part t k).place = (part s k).place

/-- A change of list queues, conditions and partitions, but for their placements. -/
theorem Only.sameFailures {s t : State} (h : Only 0xD00 s t) (hp : ∀ k, (part t k).place = (part s k).place) : SameFailures s t :=
  ⟨h.dict rfl, h.fills rfl, h.tiles rfl, h.flights rfl, h.rflights rfl, h.heatOff rfl, h.blockSt rfl, h.power rfl, h.coolant rfl, hp⟩

namespace SameFailures
variable {s t : State} (h : SameFailures s t)
include h

theorem routerState_eq (n : Nat) : routerState t n = routerState s n := by simp only [routerState, objD, h.dict]
theorem failedPorts_eq (n : Nat) : failedPorts t n = failedPorts s n := by simp only [failedPorts, objD, h.dict]
theorem tileCut_eq (n : Nat) : tileCut t n = tileCut s n := by simp only [tileCut, h.routerState_eq, h.failedPorts_eq]
theorem tileClosed_eq (n : Nat) : tileClosed t n = tileClosed s n := by simp only [tileClosed, h.tileCut_eq, h.blockSt]
theorem stopOut_eq : stopOut t = stopOut s := funext fun c => by simp only [stopOut, h.routerState_eq, h.failedPorts_eq]
theorem pathBlocked_eq (l : List Nat) : pathBlocked t l = pathBlocked s l := by
  simp only [pathBlocked, linkOk, h.routerState_eq, h.failedPorts_eq]
theorem flightHeld_eq (f : Flight) : flightHeld t f = flightHeld s f := by
  simp only [flightHeld, h.tileCut_eq, h.tileClosed_eq, h.stopOut_eq, h.pathBlocked_eq]
theorem tileDark_eq : tileDark t = tileDark s := funext fun n => by
  simp only [tileDark, computes, h.heatOff, h.blockSt, h.power, h.coolant]
theorem reduceOf_eq (p rid : Nat) : reduceOf t p rid = reduceOf s p rid := by simp only [reduceOf, h.place]
theorem legTile_eq (d : Reduce) (f : RFlight) : legTile t d f = legTile s d f := by simp only [legTile, h.place]
theorem operandHeld_eq (f : RFlight) : operandHeld t f = operandHeld s f := by
  simp only [operandHeld, legHeld, legRouters, h.reduceOf_eq, h.legTile_eq, h.tileCut_eq, h.tileClosed_eq, h.stopOut_eq, h.pathBlocked_eq,
    h.routerState_eq]
theorem bridgeCut_eq (p n : Nat) : bridgeCut t p n = bridgeCut s p n := by simp only [bridgeCut, h.tileCut_eq, h.pathBlocked_eq, h.place]
theorem heldFlow_eq (p : Nat) : heldFlow t p = heldFlow s p := by
  simp only [heldFlow, awaitsBridge, h.flightHeld_eq, h.operandHeld_eq, h.reduceOf_eq, h.legTile_eq, h.bridgeCut_eq, h.flights, h.rflights, h.tiles,
    h.fills]

/-- With the same failures a partition is stalled only where it was, but for the quorum of a group step (R378). -/
theorem stallReason_eq_false {p : Nat} (hg : (stepOf t p).any (·.group.isSome) = false) (hs : stallReason s p = false) :
    stallReason t p = false := by
  simp only [stallReason, frozen, Bool.or_eq_false_iff] at hs ⊢
  obtain ⟨late, ⟨dark, held⟩, -⟩ := hs
  refine ⟨by simpa only [h.tiles] using late, ⟨?_, ?_⟩, ?_⟩
  · simpa only [tilesOf, h.place, h.tileDark_eq] using dark
  · rwa [h.heldFlow_eq]
  · rw [hg, Bool.and_false]

end SameFailures

/-! ### STEP -/

/-- The state in which partition `p` runs the step `k` (R17). -/
def stepping (s : State) (p : Nat) (k : StepRun) : State := setPState (updPart s p fun x => { x with step := some k }) p .stepping

theorem stepping_only (s : State) (p : Nat) (k : StepRun) : Only 0x500 s (stepping s p k) :=
  (setPState_only ..).step rfl ((updPart_only ..).mono rfl)

theorem part_stepping (s : State) (p : Nat) (k : StepRun) (j : Nat) :
    part (stepping s p k) j = if j = p then { part s p with st := .stepping, step := some k } else part s j := by
  rw [stepping, part_setPState, part_updPart_same, part_updPart]
  split <;> rfl

theorem leaveStall_of_not_stalled {s : State} {p : Nat} (h : (part s p).st ≠ .stalled) : leaveStall s p = s := by
  unfold leaveStall
  split
  next hst _ => exact absurd hst h
  next => rfl

theorem endIfMasked_of_unmasked {s : State} {p : Nat} {k : StepRun} (hk : stepOf s p = some k) (hm : k.slots.all (·.masked) = false) :
    endIfMasked s p = s := by
  rw [endIfMasked, hk]
  simp only [hm, Bool.not_false, Bool.or_true, if_true]

/-- R17: a step that nothing stalls and that has an unmasked slot runs. -/
theorem startStep_eq_stepping {s : State} {p : Nat} {k : StepRun} (hs : stallReason s p = false) (hg : k.group = none)
    (hm : k.slots.all (·.masked) = false) : startStep s p k = stepping s p k := by
  have hpart : part (stepping s p k) p = { part s p with st := .stepping, step := some k } := by rw [part_stepping, if_pos rfl]
  have hstep : stepOf (stepping s p k) p = some k := congrArg Part.step hpart
  have hplace : ∀ j, (part (stepping s p k) j).place = (part s j).place := fun j => by
    rw [part_stepping]
    split
    next e => rw [e]
    next => rfl
  have hfree : stallReason (stepping s p k) p = false :=
    (((stepping_only ..).mono rfl).sameFailures hplace).stallReason_eq_false (by simp [hstep, hg]) hs
  calc startStep s p k = endIfMasked (reviewStall (stepping s p k) p) p := rfl
    _ = endIfMasked (leaveStall (stepping s p k) p) p := by rw [reviewStall, hfree, if_neg Bool.false_ne_true]
    _ = endIfMasked (stepping s p k) p := by rw [leaveStall_of_not_stalled (by simp [hpart])]
    _ = stepping s p k := endIfMasked_of_unmasked hstep hm

theorem stepOf_of_stepReady {s : State} {p : Nat} (h : stepReady s p = true) : stepOf s p = none := by
  simp only [stepReady, Bool.and_eq_true] at h
  exact Option.isNone_iff_eq_none.mp h.1.1.1.1.2

section
variable {s : State} {q : Nat} {r : RunList} {w : Nat} {pay : List Nat} (hr : Reached s q 0x01 r w) (hready : stepReady s (qPart q) = true)
  (hgroup : isMaster s (qPart q) = false) (hpay : pay = payload (r.lst.words.map (·.toNat)) r.pos (cmdNpay w))
include hr hready hgroup hpay

theorem exec_step_of_refusal {e : Nat} {res : List W256} (hf : stepRefusal s (qPart q) (fld w 223 220) pay = some (e, res)) :
    exec (.step q) s = .next (turnOver (refuseCmd s q e res) q r.pos) := by
  refine (withCommand_of_reached hr _).trans ?_
  simp [hready, hgroup, ← hpay, hf]

theorem exec_step_of_no_refusal (hf : stepRefusal s (qPart q) (fld w 223 220) pay = none) :
    exec (.step q) s = .next (turnOver (startStep (beginCmd s q []) (qPart q)
      (newStep s (qPart q) (fld w 223 220) ((List.range (pay.length / 4)).map (bindOf s (qPart q) pay)))) q r.pos) := by
  refine (withCommand_of_reached hr _).trans ?_
  simp [hready, hgroup, ← hpay, hf]

end

/-- Settles O17: STEP begins and its partition runs the new step; what follows (a stall, an early end) does not apply. -/
theorem stepIsDispatched : Obligations.StepIsDispatched := by
  refine ⟨fun q s r w bs pay hr hready hgroup hpay hf hs hbs hm => ?_, fun q s r w e res hr hready hgroup hf =>
    exec_step_of_refusal hr hready hgroup rfl hf⟩
  have hbegin : Only 0x800 s (beginCmd s q []) := beginCmd_only ..
  have hfree : stallReason (beginCmd s q []) (qPart q) = false :=
    ((hbegin.mono rfl).sameFailures fun k => by rw [hbegin.part_eq rfl]).stallReason_eq_false
      (by rw [hbegin.stepOf_eq rfl, stepOf_of_stepReady hready]; rfl) hs
  have hexec := exec_step_of_no_refusal hr hready hgroup hpay hf
  rw [← hbs, startStep_eq_stepping hfree rfl hm] at hexec
  have hturn := turnOver_only (stepping (beginCmd s q []) (qPart q) (newStep s (qPart q) (fld w 223 220) bs)) q r.pos
  have hstep := stepping_only (beginCmd s q []) (qPart q) (newStep s (qPart q) (fld w 223 220) bs)
  have hall := hturn.step (m := 0x2D00) rfl (hstep.step rfl (hbegin.mono rfl))
  refine ⟨_, hexec, ?_, ?_, ?_, fun p hp => ?_, hall.seqs rfl, hall.sp rfl, hall.hbm rfl, hall.tiles rfl⟩
  · rw [hturn.part_eq rfl, part_stepping, if_pos rfl]
  · rw [hturn.part_eq rfl, part_stepping, if_pos rfl]
  · rw [hturn.queue_eq rfl, hstep.queue_eq rfl]
    exact queue_beginCmd_same [] (atCommand_eq_some hr.cmd).1
  · rw [hturn.part_eq rfl, part_stepping, if_neg hp, hbegin.part_eq rfl]

end Sys2Proof.Machine
end

section
/-! SUPPORT. The events of a step: launch, boundary, the holds on its dispatch, and latches (R27, R53, R64, R71, R141). -/
namespace Sys2Proof.Machine

/-! ### A step of a partition -/

theorem stepOf_updStep (s : State) (p j : Nat) (f : StepRun → StepRun) :
    stepOf (updStep s p f) j = if j = p then (stepOf s p).map f else stepOf s j := by
  simp only [stepOf, updStep, part_updPart]
  split <;> rfl

@[simp] theorem stepOf_updStep_same (s : State) (p : Nat) (f : StepRun → StepRun) : stepOf (updStep s p f) p = (stepOf s p).map f := by
  simp [stepOf_updStep]

theorem goWaiting_of_none {s : State} {p : Nat} (h : (group s p).waiting = []) : goWaiting s p = s := by
  simp only [goWaiting, h]

/-! ### STEP_LAUNCH -/

/-- The state in which tile `t` runs the list at `base` of partition `p`'s step (R141, R159). -/
def launched (s : State) (t p prog base : Nat) : State :=
  updStep { s with
    tiles := FMap.set s.tiles t
      { newRun s t p prog base with clk := ((s.tiles.find? fun e => e.2.part == p && !e.2.stopping).map (·.2.clk)).getD 0 }
    accPend := s.accPend.filter fun e => e.1 / 128 != t } p fun r => { r with launched := t :: r.launched }

theorem launched_only (s : State) (t p prog base : Nat) : Only 0x220000400 s (launched s t p prog base) :=
  (updStep_only ..).step rfl (Only.set_accPend_tiles rfl rfl (Only.refl ..) _ _)

theorem find_tiles_launched (s : State) (t p prog base k : Nat) :
    FMap.find (launched s t p prog base).tiles k = if k = t then
      some { newRun s t p prog base with clk := ((s.tiles.find? fun e => e.2.part == p && !e.2.stopping).map (·.2.clk)).getD 0 }
    else FMap.find s.tiles k := by
  rw [launched, (updStep_only ..).tiles rfl, FMap.find_set]

theorem stepOf_launched (s : State) (t p prog base : Nat) :
    stepOf (launched s t p prog base) p = (stepOf s p).map fun r => { r with launched := t :: r.launched } :=
  stepOf_updStep_same ..

theorem exec_stepLaunch_of_owned {s : State} {t p pti base : Nat} {r : StepRun} (ht : tileOk t = true) (ho : ownerOf s t = some (p, pti))
    (hr : stepOf s p = some r) (hb : listBase (part s p).place pti r.prog = some base) (hl : r.launched.contains t = false)
    (hc : r.committed = false) (hd : tileDark s t = false) : exec (.stepLaunch t) s = .next (launched s t p r.prog base) := by
  change execStepLaunch t s = _
  simp only [execStepLaunch, ht, ho, hr, hb, hl, hc, hd, Bool.not_true, Bool.false_eq_true, or_self, if_false]
  rfl

/-! ### STEP_BOUNDARY -/

theorem exec_stepBoundary_of_committed {s : State} {p : Nat} {r : StepRun} (hp : p < 16) (hr : stepOf s p = some r) (hc : r.committed = true)
    (hcopies : r.copies = []) (hg : r.group = none) : exec (.stepBoundary p) s = .next (endStep (commitActions s p r) p r) := by
  change execStepBoundary p s = _
  simp [execStepBoundary, Nat.not_le.mpr hp, hr, hc, hcopies, hg]

/-- R27: where no command is held, the commit actions count the step and end its run; the actions before change no partition. -/
theorem part_commitActions {s : State} {p : Nat} {r : StepRun} (h : r.held = []) :
    part (commitActions s p r) p = { part s p with stepCounter := ((part s p).stepCounter + 1) % 2 ^ 64, step := none } := by
  have hslots : Only 0x1870a0020 s (r.slots.foldl (commitSlot p) s) :=
    Only.foldl (fun _ _ g => (commitSlot_only ..).step rfl g) (Only.refl ..)
  have hreturned : Only 0x1870e0020 s (r.slots.foldl (returnSets p) (r.slots.foldl (commitSlot p) s)) :=
    Only.foldl (fun _ _ g => (returnSets_only ..).step rfl g) (hslots.mono rfl)
  simp only [commitActions, h, judgeHeld, List.foldl_nil, part_updPart_same, hreturned.part_eq rfl]

/-! ### Holds on the dispatch of STEP -/

theorem exec_tswapEnd_of_no_step_waiting {s : State} {p : Nat} (hp : p < 16) (hw : (group s p).waiting = []) :
    exec (.tswapEnd p) s = .next (updPart s p fun x => { x with holdSwap := false }) := by
  have hg := (updPart_only s p fun x => { x with holdSwap := false }).group_eq rfl p
  change execTswapEnd p s = _
  rw [execTswapEnd, if_neg (Nat.not_le.mpr hp), goWaiting_of_none (by rw [hg, hw])]

/-- R71: the state in which every owned tile of a partition has the tables of its band. -/
def tablesLoaded (s : State) (p : Nat) : State := ((tilesOf s p).flatMap (storedBanks s)).foldl loadTable s

theorem tablesLoaded_only (s : State) (p : Nat) : Only 0x200000 s (tablesLoaded s p) :=
  Only.foldl (fun _ _ g => (loadTable_only ..).step rfl g) (Only.refl ..)

theorem exec_bandTableLoadDone_of_held {s : State} {p : Nat} (hp : p < 16) (hh : (part s p).holdTables = true) (hb : (part s p).boundDue = false)
    (hw : (group s p).waiting = []) :
    exec (.bandTableLoadDone p) s = .next (updPart (tablesLoaded s p) p fun x => { x with holdTables := false }) := by
  have hpart := (tablesLoaded_only s p).part_eq rfl p
  have hgroup : (group (updPart (tablesLoaded s p) p fun x => { x with holdTables := false }) p).waiting = [] := by
    rw [(updPart_only ..).group_eq rfl, (tablesLoaded_only ..).group_eq rfl, hw]
  change execBandTableLoadDone p s = _
  rw [execBandTableLoadDone, if_neg (Nat.not_le.mpr hp), if_pos hh]
  dsimp only
  rw [← tablesLoaded, hpart, hb, if_neg Bool.false_ne_true, goWaiting_of_none hgroup]

/-! ### TEMP_LATCH_TICK -/

theorem exec_tempLatchTick_of_unowned {s : State} {t : Nat} (ht : tileOk t = true) (ho : ownerOf s t = none) :
    exec (.tempLatchTick t) s = .next (latchTile s t) := by
  change execTempLatchTick t s = _
  simp [execTempLatchTick, ht, ho]

/-- R64: a tile's latch is its own; counting the sample and giving up fits that it ends latch nothing. -/
theorem latchOf_latchTile_other {s : State} {t k : Nat} (hk : k ≠ t) : latchOf (latchTile s t) k = latchOf s k := by
  unfold latchTile
  dsimp only
  rw [Only.latchOf_eq (m := 0xc0080100000000200214880) (Only.foldl (fun _ _ g => (fitMoved_only ..).step rfl g) (Only.refl ..)) rfl,
    Only.latchOf_eq (m := 0x200000) (Only.foldl (fun _ _ g => (updBank_only ..).step rfl g) (Only.refl ..)) rfl]
  exact FMap.get_set_other hk

/-- Settles O18, event by event. -/
theorem stepEvents : Obligations.StepEvents := by
  refine ⟨fun t p pti base s r ht ho hr hb hl hc hd => ?_, fun p s r hp hr hc hcopies hg => exec_stepBoundary_of_committed hp hr hc hcopies hg,
    fun p s r h => ?_, fun p s hp hw => ?_, fun p s hp hh hb hw => ?_, fun t s ht ho => ?_⟩
  · have hu := launched_only s t p r.prog base
    refine ⟨_, _, exec_stepLaunch_of_owned ht ho hr hb hl hc hd, (find_tiles_launched ..).trans (if_pos rfl), rfl, rfl, rfl, rfl, rfl, rfl, rfl, ?_,
      hu.sp rfl, hu.acc rfl, fun k hk => ?_⟩
    · rw [stepOf_launched, hr]
      rfl
    · rw [find_tiles_launched, if_neg hk]
  · rw [part_commitActions h]
    exact ⟨rfl, rfl⟩
  · exact ⟨_, exec_tswapEnd_of_no_step_waiting hp hw, part_updPart_same .., (updPart_only ..).banks rfl⟩
  · have hu := updPart_only (tablesLoaded s p) p fun x => { x with holdTables := false }
    exact ⟨_, exec_bandTableLoadDone_of_held hp hh hb hw, congrArg Part.holdTables (part_updPart_same ..), hu.banks rfl,
      (hu.sp rfl).trans ((tablesLoaded_only s p).sp rfl)⟩
  · exact ⟨exec_tempLatchTick_of_unowned ht ho, fun k hk => latchOf_latchTile_other hk⟩

end Sys2Proof.Machine
end

section
/-! SUPPORT. Placement requests and the queue of placement jobs (R202, R245, R257, R268–R271). -/
namespace Sys2Proof.Machine

/-! ### Placement requests -/

theorem served_of_serves {s : State} {ses op : Nat} (h : Serves s ses op) (n : Nat) (f : State → State) :
    served s ses op n f = .next (f s) := by
  simp [served, h.cards, h.open_, h.console_, h.power]

theorem placeRefusal_eq_none {s : State} {ses p op : Nat} {busy : Bool} (h : MayPlace s ses p op)
    (hb : (busy && s.jobs.any fun j => j.part == p && !j.isLoad) = false) : placeRefusal s ses p true true true busy = none := by
  simp [placeRefusal, h.right, h.ready, h.unchecked, hb]

/-! ### LOAD -/

/-- R17: the state in which partition `p` loads: nothing of an earlier placement is left, and its parameters have their defaults. -/
def loading (s : State) (p : Nat) : State :=
  { setPState (setPart (resetParams s p) p {}) p .loading with windows := s.windows.filter fun e => e.1 / 256 != p }

theorem loading_only (s : State) (p : Nat) : Only 0x800000000000000000520 s (loading s p) :=
  Only.set_windows rfl ((setPState_only ..).step rfl ((setPart_only ..).step rfl ((resetParams_only ..).mono rfl))) _

theorem part_loading (s : State) (p k : Nat) : part (loading s p) k = if k = p then { st := .loading } else part s k := by
  change part (setPState (setPart (resetParams s p) p {}) p .loading) k = _
  rw [part_setPState, part_setPart_same, part_setPart, (resetParams_only s p).part_eq rfl]
  split <;> rfl

/-- The job of a LOAD (R245, R257). -/
def loadJob (s : State) (ses n body : Nat) : PlaceJob :=
  { part := fld body 247 244, isLoad := true, session := ses, reqid := n, dies := fld body 175 152, stage := bitAt body 243,
    image := fld body 239 176, startNs := ageNs s }

theorem exec_load_of_free {s : State} {ses n body : Nat} {im : StoreImg} (h : MayPlace s ses (fld body 247 244) 0x10)
    (hver : fld body 255 248 = 1) (hres : fld body 242 240 = 0) (hlow : body % 2 ^ 152 = 0) (hlen : body < 2 ^ 256)
    (hst : (part s (fld body 247 244)).st = .free) (him : FMap.find s.images (fld body 239 176) = some im) (hok : imageFail s im.bytes = none) :
    exec (.load ses n body) s = .next (queueJob (loading s (fld body 247 244)) (loadJob (loading s (fld body 247 244)) ses n body)) := by
  have hnone := placeRefusal_eq_none (busy := false) h rfl
  change execLoad ses n body s = _
  rw [execLoad, served_of_serves h.serves]
  simp only [hver, hres, hlow, hlen, hst, beq_self_eq_true, decide_true, Bool.and_true, hnone, him, hok]
  rfl

/-! ### UNLOAD -/

theorem st_bankOf_updBank (s : State) (k j : Nat) {f : Bank → Bank} (hf : ∀ b, (f b).st = b.st) :
    (bankOf (updBank s k f) j).st = (bankOf s j).st := by
  rw [bankOf_updBank]
  split
  next e => rw [hf, e]
  next => rfl

theorem st_bankOf_countCycle (s : State) (k j : Nat) (b : Bool) : (bankOf (countCycle s k b) j).st = (bankOf s j).st := by
  unfold countCycle
  dsimp only
  split
  · rw [(raise_only ..).bankOf_eq rfl]
    exact (st_bankOf_updBank _ _ _ (by intros; rfl)).trans (st_bankOf_updBank _ _ _ (by intros; rfl))
  · exact st_bankOf_updBank _ _ _ (by intros; rfl)

theorem st_bankOf_closeProgram (s : State) (k j : Nat) : (bankOf (closeProgram s k) j).st = (bankOf s j).st := by
  unfold closeProgram
  dsimp only
  split
  · rw [(kennelAdd_only ..).bankOf_eq rfl, st_bankOf_countCycle]
    exact st_bankOf_updBank _ _ _ (by intros; rfl)
  · rfl

/-- R52: the state of a bank that its placement gives up. -/
def BankState.freed (b : BankState) : BankState := if b = .retired then .retired else .empty

@[simp] theorem BankState.freed_freed (b : BankState) : b.freed.freed = b.freed := by
  cases b <;> rfl

theorem st_bankOf_unbind (s : State) (k j : Nat) :
    (bankOf (unbind s k) j).st = if j = k then (bankOf s j).st.freed else (bankOf s j).st := by
  have hclose := st_bankOf_closeProgram s k
  refine (congrArg Bank.st ((Only.set_parts_bankMap_vpgmWait (m := 0x400400400) rfl rfl rfl (Only.refl _ _) _ _ _).bankOf_eq rfl j)).trans ?_
  rw [bankOf_updBank]
  split
  next e =>
    subst e
    by_cases hr : (bankOf s j).st = .retired <;> simp [BankState.freed, hclose, hr]
  next => exact hclose j

theorem find_bankMap_unbind (s : State) (k j : Nat) :
    FMap.find (unbind s k).bankMap j = if j = k then none else FMap.find s.bankMap j := by
  change FMap.find (FMap.del (updBank (closeProgram s k) k _).bankMap k) j = _
  rw [FMap.find_del, (updBank_only ..).bankMap rfl, (closeProgram_only ..).bankMap rfl]

theorem st_bankOf_foldl_unbind (l : List Nat) (s : State) (k : Nat) :
    (bankOf (l.foldl unbind s) k).st = if k ∈ l then (bankOf s k).st.freed else (bankOf s k).st := by
  induction l generalizing s with
  | nil => simp
  | cons a l ih =>
    rw [List.foldl_cons, ih, st_bankOf_unbind]
    by_cases hl : k ∈ l <;> by_cases ha : k = a <;> simp [hl, ha]

theorem find_bankMap_foldl_unbind (l : List Nat) (s : State) (k : Nat) :
    FMap.find (l.foldl unbind s).bankMap k = if k ∈ l then none else FMap.find s.bankMap k := by
  induction l generalizing s with
  | nil => simp
  | cons a l ih =>
    rw [List.foldl_cons, ih, find_bankMap_unbind]
    by_cases hl : k ∈ l <;> by_cases ha : k = a <;> simp [hl, ha]

theorem part_clearPart (s : State) (p : Nat) : part (clearPart s p) p = {} := by
  change part (setPState (setPart _ p {}) p .free) p = _
  rw [part_setPState_same, part_setPart_same]

/-- R17, R202: what UNLOAD makes of partition `p` where the placer has no job of it. -/
def unloaded (s : State) (p : Nat) : State :=
  clearPart (((part s p).place.tiles.flatMap ownedBanks).foldl unbind (returnAll s p 0x0201)) p

theorem unloaded_jobs (s : State) (p : Nat) : (unloaded s p).jobs = s.jobs := by
  have hunbind := Only.foldl (m := 0x900000000400600480) (l := (part s p).place.tiles.flatMap ownedBanks)
    (fun _ k g => (unbind_only _ k).step rfl g) (Only.refl _ (returnAll s p 0x0201))
  exact ((clearPart_only ..).jobs rfl).trans ((hunbind.jobs rfl).trans ((returnAll_only ..).jobs rfl))

theorem unloaded_owned {s : State} {p k : Nat} (hk : k ∈ (part s p).place.tiles.flatMap ownedBanks) :
    FMap.find (unloaded s p).bankMap k = none ∧ (bankOf (unloaded s p) k).st = (bankOf s k).st.freed := by
  constructor
  · rw [unloaded, (clearPart_only ..).bankMap rfl, find_bankMap_foldl_unbind, if_pos hk]
  · rw [unloaded, (clearPart_only ..).bankOf_eq rfl, st_bankOf_foldl_unbind, if_pos hk, (returnAll_only ..).bankOf_eq rfl]

theorem exec_unload_of_loaded {s : State} {ses n p : Nat} (h : MayPlace s ses p 0x11) (hst : (part s p).st = .loaded)
    (hj : (s.jobs.any fun j => j.part == p) = false) : exec (.unload ses n p) s = .next (acceptReq (unloaded s p) ses 0x11 n) := by
  have hfind : s.jobs.find? (fun j => j.part == p) = none := List.find?_eq_none.mpr (List.any_eq_false.mp hj)
  change execUnload ses n p s = _
  rw [execUnload, if_neg (Nat.not_le.mpr h.num), served_of_serves h.serves]
  simp only [hst, beq_self_eq_true, placeRefusal_eq_none (busy := false) h rfl, hfind]
  rfl

/-! ### RESTART -/

theorem exec_restart_of_faulted {s : State} {ses n p : Nat} (h : MayPlace s ses p 0x12) (hst : (part s p).st = .faulted)
    (hj : (s.jobs.any fun j => j.part == p && !j.isLoad) = false) (hs : stackLost s p = false) :
    exec (.restart ses n p) s = .next (acceptReq (restartPart s p) ses 0x12 n) := by
  change execRestart ses n p s = _
  rw [execRestart, if_neg (Nat.not_le.mpr h.num), served_of_serves h.serves]
  simp only [hst, beq_self_eq_true, placeRefusal_eq_none (busy := true) h hj, hs, Bool.false_eq_true, if_false]

theorem part_restartPart {s : State} {p : Nat} (hm : modeHolds s = false) (k : Nat) :
    part (restartPart s p) k = if k = p then { part s p with st := .idle } else part s k := by
  have hheal := healRegions_only s p
  have hmode : modeHolds (healRegions s p) = false := by simpa only [modeHolds, hheal.modeRec rfl] using hm
  rw [restartPart, (armExports_only ..).part_eq rfl, toIdle, hmode, if_neg Bool.false_ne_true, part_setPState, hheal.part_eq rfl, hheal.part_eq rfl]

/-! ### REPLACE -/

/-- The job of a REPLACE (R245, R269). -/
def replaceJob (s : State) (ses n body : Nat) : PlaceJob :=
  { part := fld body 247 244, isLoad := false, session := ses, reqid := n, dies := fld body 223 200, mode := fld body 243 242,
    tile := fld body 239 224, restart := bitAt body 241, retire := bitAt body 240, startNs := ageNs s }

/-- R269: the tiles that a REPLACE names: one that the partition owns, or every unhealthy one, of which there is one. -/
def ReplaceNames (s : State) (body : Nat) : Prop :=
  (fld body 243 242 = 0 ∧ ((part s (fld body 247 244)).place.tiles.any fun t => t.tile == fld body 239 224) = true) ∨
  (fld body 243 242 = 1 ∧ fld body 239 224 = 0 ∧ ((part s (fld body 247 244)).place.tiles.all fun t => tileHealthy s t.tile) = false)

theorem replaceRequest_of_names {s : State} {ses n body : Nat} (h : MayPlace s ses (fld body 247 244) 0x13) (hver : fld body 255 248 = 1)
    (hlow : body % 2 ^ 200 = 0) (hlen : body < 2 ^ 256) (hst : mayReplace s (fld body 247 244) = true)
    (hj : (s.jobs.any fun j => j.part == fld body 247 244 && !j.isLoad) = false) (hn : ReplaceNames s body) :
    replaceRequest ses n body s = .next (queueJob s (replaceJob s ses n body)) := by
  rw [replaceRequest, served_of_serves h.serves]
  simp only [hver, hlow, hlen, hst, beq_self_eq_true, decide_true, Bool.and_true, placeRefusal_eq_none (busy := true) h hj]
  rcases hn with ⟨hm, ht⟩ | ⟨hm, hz, hu⟩
  · simp [hm, ht, replaceJob]
  · simp [hm, hz, hu, replaceJob]

theorem exec_replaceTile {ses n body : Nat} (s : State) (hm : fld body 243 242 = 0) :
    exec (.replaceTile ses n body) s = replaceRequest ses n body s := by
  change execReplaceTile ses n body s = _
  rw [execReplaceTile, hm, if_neg (by decide)]

theorem exec_replaceUnhealthy {ses n body : Nat} (s : State) (hm : fld body 243 242 = 1) :
    exec (.replaceUnhealthy ses n body) s = replaceRequest ses n body s :=
  if_pos hm

/-! ### The standing policy -/

/-- The job that the standing policy of partition `p` queues (R268). -/
def policyJob (s : State) (p : Nat) : PlaceJob :=
  { part := p, isLoad := false, mode := 1, restart := objD 0 s (pidx 0x55 p) 1 == 2, retire := objD 0 s (pidx 0x55 p) 3 == 1,
    dies := objD 0 s (pidx 0x55 p) 4, asked := false, startNs := ageNs s }

theorem exec_replaceTrigger_of_triggered {s : State} {p : Nat} (hp : p < 16) (hr : s.power = .ready) (ho : objD 0 s (pidx 0x55 p) 1 ≠ 0)
    (ht : triggered s p = true) (hj : (s.jobs.any fun j => j.part == p) = false) :
    exec (.replaceTrigger p) s = .next (queueJob (updPart s p fun x => { x with permFault := false }) (policyJob s p)) := by
  change execReplaceTrigger p s = _
  rw [execReplaceTrigger, if_neg (Nat.not_le.mpr hp)]
  exact if_pos ⟨hr, ho, ht, by rw [hj]; rfl⟩

/-! ### The placement queue -/

/-- R245: while a job runs, the placer takes up no other. -/
theorem serveJobs_of_begun {s : State} {a : PlaceJob} {l : List PlaceJob} (h : s.jobs = a :: l) (hb : a.begun = true) (n : Nat) :
    serveJobs s n = s := by
  cases n with
  | zero => rfl
  | succ n => simp [serveJobs, h, hb]

section
variable {s : State} {a j : PlaceJob} {l : List PlaceJob} (h : s.jobs = a :: l) (hb : a.begun = true)
include h hb

theorem queueJob_load (hj : j.isLoad = true) : queueJob s j = { s with jobs := s.jobs ++ [j] } := by
  have hahead : (s.jobs.filter fun x => x.begun || !x.isLoad || j.isLoad) = s.jobs := by simp [hj]
  have hbehind : (s.jobs.filter fun x => !(x.begun || !x.isLoad || j.isLoad)) = [] := by simp [hj]
  simp only [queueJob, hahead, hbehind, List.append_nil]
  exact serveJobs_of_begun (a := a) (l := l ++ [j]) (by rw [h]; rfl) hb _

theorem queueJob_replace (hl : ∀ x ∈ l, x.begun = false) (hj : j.isLoad = false) :
    queueJob s j = { s with jobs := a :: (l.filter (!·.isLoad) ++ j :: l.filter (·.isLoad)) } := by
  have hahead : (s.jobs.filter fun x => x.begun || !x.isLoad || j.isLoad) = a :: l.filter (!·.isLoad) := by
    rw [h, List.filter_cons_of_pos (by simp [hb])]
    exact congrArg _ (List.filter_congr fun x hx => by simp [hl x hx, hj])
  have hbehind : (s.jobs.filter fun x => !(x.begun || !x.isLoad || j.isLoad)) = l.filter (·.isLoad) := by
    rw [h, List.filter_cons_of_neg (by simp [hb])]
    exact List.filter_congr fun x hx => by simp [hl x hx, hj]
  simp only [queueJob, hahead, hbehind, List.cons_append, List.append_assoc, List.nil_append]
  exact serveJobs_of_begun rfl hb _

end

/-- Settles O48, request by request. -/
theorem placementRequests : Obligations.PlacementRequests := by
  refine ⟨?load, ?unload, ?restart, ?replace, ?policy, ?queue⟩
  case load =>
    rintro ses n body p s im rfl h hver hres hlow hlen hst him hok
    have hv := loading_only s (fld body 247 244)
    refine ⟨_, _, exec_load_of_free h hver hres hlow hlen hst him hok, ?_, fun k hk => ?_, hv.jobs rfl, hv.banks rfl, hv.hbm rfl,
      rfl, rfl, rfl, rfl, rfl, rfl, rfl, rfl⟩
    · rw [part_loading, if_pos rfl]
    · rw [part_loading, if_neg hk]
  case unload =>
    intro ses n p s h hst hj
    exact ⟨_, exec_unload_of_loaded h hst hj, part_clearPart .., unloaded_jobs .., fun k hk => unloaded_owned hk⟩
  case restart =>
    intro ses n p s h hst hj hs hm
    have hu := restartPart_only s p
    refine ⟨_, exec_restart_of_faulted h hst hj hs, ?_, fun k hk => ?_, hu.jobs rfl, hu.banks rfl, hu.seqs rfl⟩
    · rw [part_restartPart hm, if_pos rfl]
    · rw [part_restartPart hm, if_neg hk]
  case replace =>
    rintro ses n body p s rfl h hver hlow hlen hst hj
    refine ⟨fun hm ht => ?_, fun hm hz hu => ?_⟩
    · exact ⟨_, (exec_replaceTile s hm).trans (replaceRequest_of_names h hver hlow hlen hst hj (.inl ⟨hm, ht⟩)),
        rfl, rfl, rfl, hm, rfl, rfl, rfl, rfl⟩
    · exact ⟨_, (exec_replaceUnhealthy s hm).trans (replaceRequest_of_names h hver hlow hlen hst hj (.inr ⟨hm, hz, hu⟩)),
        rfl, rfl, rfl, hm, rfl, rfl, rfl⟩
  case policy =>
    intro p s hp hr ho ht hj
    exact ⟨_, _, exec_replaceTrigger_of_triggered hp hr ho ht hj, part_updPart_same .., fun k hk => (part_updPart ..).trans (if_neg hk),
      (updPart_only ..).jobs rfl, rfl, rfl, rfl, rfl, rfl, rfl⟩
  case queue =>
    intro s a j l h hb hl
    exact ⟨queueJob_load h hb, queueJob_replace h hb hl⟩

end Sys2Proof.Machine
end

section
/-! SUPPORT. The tile sequencer's own commands (R141, R143, R163, R183, R184). -/
namespace Sys2Proof.Machine

/-! ### The word that a tile has reached -/

section
variable {s : State} {t op : Nat} {r : TileRun} {w : Nat} (h : AtTile s t op r w)
include h

theorem tileFetch_of_atTile : tileFetch s t = some { p := r.part, t := t, run := r, w := w } := by
  simp only [tileFetch, h.run, h.inside, h.lit, h.unflagged, h.released, h.word, ne_eq, not_false_eq_true, Bool.not_false, and_self, if_true]

/-- A command that its tile has reached and may issue runs its meaning `f`. -/
theorem tileCmd_of_atTile {sel : Nat → Bool} (ha : tcmdAssigned op = true) (hs : sel w = true) (f : TCtx → State → State) :
    tileCmd t sel f s = .next (f { p := r.part, t := t, run := r, w := w } s) := by
  rw [tileCmd, h.tile, tileFetch_of_atTile h]
  simp [h.sound, h.op, ha, hs, h.clear, h.granted, h.unheld]

theorem isOp_of_atTile : isOp op w = true := beq_iff_eq.mpr h.op

end

theorem runOf_tileNext (s : State) (t k : Nat) :
    runOf (tileNext s t) k = if k = t then (runOf s t).map fun r => { r with pos := r.pos + 1 } else runOf s k := runOf_updRun ..

/-- An ordering command notes itself at most for the hazard detector and goes on. -/
theorem runOf_seqNext {c : TCtx} {s : State} {r : TileRun} (kind arg : Nat) (h : runOf s c.t = some r) :
    ∃ hz, runOf (seqNext c kind arg s) c.t = some { r with hz := hz, pos := r.pos + 1 } := by
  unfold seqNext
  rw [runOf_tileNext, if_pos rfl]
  split
  · rw [runOf_updRun_same, h]
    exact ⟨_, rfl⟩
  · rw [h]
    exact ⟨_, rfl⟩

theorem moved_seqNext {c : TCtx} {s : State} {x r : TileRun} (kind arg : Nat) (h : runOf s c.t = some x) (hpos : x.pos = r.pos)
    (hpart : x.part = r.part) : Moved (seqNext c kind arg s) c.t r := by
  obtain ⟨hz, hx⟩ := runOf_seqNext kind arg h
  exact ⟨_, hx, congrArg (· + 1) hpos, hpart⟩

/-! ### What a stall leaves of a step -/

/-- The step of partition `p` keeps the tiles that have reported END and the notices on their way. -/
def KeepsReports (s u : State) (p : Nat) : Prop :=
  ∀ q, stepOf s p = some q → ∃ q', stepOf u p = some q' ∧ q'.ended = q.ended ∧ q'.notices = q.notices

theorem KeepsReports.of_eq {s u : State} {p : Nat} (h : stepOf u p = stepOf s p) : KeepsReports s u p :=
  fun q hq => ⟨q, h.trans hq, rfl, rfl⟩

/-- A stall, or its end, writes the partition's state, a counter and other fields of its step. -/
theorem KeepsReports.of_stall {s : State} {p idx el n : Nat} {st : PState} {f : StepRun → StepRun} (hended : ∀ r, (f r).ended = r.ended)
    (hnotices : ∀ r, (f r).notices = r.notices) : KeepsReports s (updStep (addObj (setPState s p st) idx el n) p f) p := by
  intro q hq
  have hstep : stepOf (addObj (setPState s p st) idx el n) p = some q := by
    rw [(addObj_only ..).stepOf_eq rfl, stepOf, part_setPState_same]
    exact hq
  exact ⟨f q, by rw [stepOf_updStep_same, hstep]; rfl, hended q, hnotices q⟩

theorem enterStall_keepsReports (s : State) (p cause tile off start : Nat) : KeepsReports s (enterStall s p cause tile off start) p := by
  unfold enterStall
  split
  · exact .of_stall (fun _ => rfl) (fun _ => rfl)
  · exact .of_eq rfl

theorem leaveStall_keepsReports (s : State) (p : Nat) : KeepsReports s (leaveStall s p) p := by
  unfold leaveStall
  split
  · exact .of_stall (fun _ => rfl) (fun _ => rfl)
  · exact .of_eq rfl

theorem reviewStall_keepsReports (s : State) (p : Nat) : KeepsReports s (reviewStall s p) p := by
  unfold reviewStall
  split
  · split
    · exact enterStall_keepsReports _ _ _ _ _ _
    · exact enterStall_keepsReports _ _ _ _ _ _
    · exact .of_eq rfl
  · exact leaveStall_keepsReports _ _

/-! ### END -/

/-- The state in which tile `t` of partition `p` has reported its list done, before the commit point is judged (R163). -/
def tileEnded (s : State) (t p : Nat) : State :=
  let u := reviewStall (updStep { s with tiles := FMap.del s.tiles t } p fun r => { r with ended := t :: r.ended }) p
  if (stepOf u p).any fun r => (tilesOf u p).all (r.ended.contains ·) then sendMasks u p else u

/-- The masks that a member sends leave its tiles and partitions alone. -/
theorem tileEnded_only (s : State) (t p : Nat) :
    Only 0xa0080000000000000000520 { s with tiles := FMap.del s.tiles t } (tileEnded s t p) := by
  unfold tileEnded
  have hu := (reviewStall_only (updStep { s with tiles := FMap.del s.tiles t } p fun r => { r with ended := t :: r.ended }) p).step
    (m := 0xa0080000000000000000520) rfl ((updStep_only ..).mono rfl)
  exact Only.ite ((sendMasks_only ..).step rfl hu) hu

theorem stepOf_tileEnded {s : State} {t p : Nat} {q : StepRun} (h : stepOf s p = some q) :
    ∃ q', stepOf (tileEnded s t p) p = some q' ∧ q'.ended = t :: q.ended := by
  have hstep : stepOf (updStep { s with tiles := FMap.del s.tiles t } p fun r => { r with ended := t :: r.ended }) p =
      some { q with ended := t :: q.ended } := by
    rw [stepOf_updStep_same]
    exact congrArg (Option.map _) h
  obtain ⟨q', hq', hended, -⟩ := reviewStall_keepsReports _ p _ hstep
  refine ⟨q', ?_, hended⟩
  unfold tileEnded
  dsimp only
  split
  · rw [(sendMasks_only ..).stepOf_eq rfl, hq']
  · exact hq'

theorem exec_endCmd_of_drained {s : State} {t w : Nat} {r : TileRun} (h : AtTile s t 0x01 r w) (hd : tileDrained s t r = true)
    (hs : r.stopping = false) : exec (.endCmd t) s = .next (tryCommit (tileEnded s t r.part) r.part) := by
  change execEndCmd t s = _
  rw [execEndCmd, tileCmd_of_atTile h rfl (isOp_of_atTile h)]
  simp only [hd, hs, if_true, Bool.false_eq_true, if_false]
  rfl

/-! ### TSTEP -/

/-- The run of a tile that begins the tile-step of the TSTEP `w` that it has reached (R124, R141, R161). -/
def beginTileStep (w : Nat) (r : TileRun) : TileRun :=
  { r with
    tstep := r.pos, layer := fld w 93 86, grd := bitAt w 85
    scope := false, closed := false, rows := [], spans := [], oldRows := [], oldSpans := [], undoSp := [], undoAcc := [], undoTag := []
    level := 0, gsrc := []
    redirects := if bitAt w 85 then [] else r.redirects
    repeatNext := if bitAt w 85 then 0 else r.repeatNext
    masked := r.masked ++ r.maskNext, maskNext := [] }

/-- What a TSTEP makes of a state in which its resume has been sent (R141). -/
def afterResume (u : State) (t w : Nat) (r : TileRun) : State :=
  if r.clk < fld w 119 94 ∨ frozen u r.part then u else tileNext (updRun u t (beginTileStep w)) t

theorem exec_tstep {s : State} {t w : Nat} {r : TileRun} (h : AtTile s t 0x02 r w) (hs : r.stopping = false) :
    exec (.tstep t) s = .next (afterResume (sendResume { p := r.part, t := t, run := r, w := w } s) t w r) := by
  change execTstep t s = _
  rw [execTstep, tileCmd_of_atTile h rfl (isOp_of_atTile h)]
  simp only [hs, Bool.false_eq_true, if_false]
  rfl

theorem sendResume_of_not_late {c : TCtx} {s : State} (h : c.run.late = false) : sendResume c s = s := by
  simp [sendResume, h]

/-- The run of tile `t` once it is late no longer (R143). -/
def unlate (t : Nat) (r : TileRun) : TileRun := { r with late := false, lateFor := 0, stalls := r.stalls.filter fun x => x.1 != t }

/-- Tile `t` of partition `p` sends a resume with its START to every other tile of the partition (R143). -/
def noticeResume (s : State) (p t start : Nat) : State :=
  updStep s p fun q => { q with notices := q.notices ++ ((tilesOf s p).filter (· != t)).map fun d => (d, t, start, 1) }

/-- Between the end of the lateness and the notices, at most the counter of guard time changes (R126). -/
theorem sendResume_eq_of_late {c : TCtx} (s : State) (h : c.run.late = true) :
    ∃ v start, Only 0x20 (updRun s c.t (unlate c.t)) v ∧ sendResume c s = reviewStall (noticeResume v c.p c.t start) c.p := by
  rw [sendResume, if_pos h]
  exact ⟨_, _, Only.ite (addGuardTime_only ..) (Only.refl ..), rfl⟩

theorem stepOf_noticeResume {s : State} {p : Nat} {q : StepRun} (t start : Nat) (h : stepOf s p = some q) :
    stepOf (noticeResume s p t start) p =
      some { q with notices := q.notices ++ ((tilesOf s p).filter (· != t)).map fun d => (d, t, start, 1) } := by
  rw [noticeResume, stepOf_updStep_same, h]
  rfl

/-- R143: the resume of a late tile ends its lateness and sends a notice to every other tile of its partition. -/
theorem sendResume_of_late {c : TCtx} {s : State} {q : StepRun} (hl : c.run.late = true) (hr : runOf s c.t = some c.run)
    (hq : stepOf s c.p = some q) :
    runOf (sendResume c s) c.t = some (unlate c.t c.run) ∧
    ∃ q', stepOf (sendResume c s) c.p = some q' ∧ ∀ d, d ∈ tilesOf s c.p → d ≠ c.t → ∃ x, (d, c.t, x, 1) ∈ q'.notices := by
  obtain ⟨v, start, hguard, hsend⟩ := sendResume_eq_of_late s hl
  have hv : Only 0x200000020 s v := hguard.step rfl ((updRun_only ..).mono rfl)
  obtain ⟨q', hq', -, hnotices⟩ := reviewStall_keepsReports _ _ _ (stepOf_noticeResume c.t start ((hv.stepOf_eq rfl _).trans hq))
  rw [hsend]
  refine ⟨?_, q', hq', fun d hd hne => ⟨start, ?_⟩⟩
  · rw [(reviewStall_only ..).runOf_eq rfl, noticeResume, (updStep_only ..).runOf_eq rfl, hguard.runOf_eq rfl, runOf_updRun_same, hr]
    rfl
  · have htiles : d ∈ tilesOf v c.p := by rwa [tilesOf, hv.part_eq rfl]
    rw [hnotices]
    exact List.mem_append_right _ (List.mem_map.mpr ⟨d, List.mem_filter.mpr ⟨htiles, by simpa using hne⟩, rfl⟩)

theorem runOf_begun {u : State} {t : Nat} {r : TileRun} (w : Nat) (h : runOf u t = some r) :
    runOf (tileNext (updRun u t (beginTileStep w)) t) t = some { beginTileStep w r with pos := r.pos + 1 } := by
  rw [runOf_tileNext, if_pos rfl, runOf_updRun_same, h]
  rfl

theorem begun_only (u : State) (t w : Nat) : Only 0x200000000 u (tileNext (updRun u t (beginTileStep w)) t) :=
  (tileNext_only ..).step rfl (updRun_only ..)

/-! ### Runs but for their SYNC waits -/

/-- A tile's run without what it holds of a SYNC wait (R184). -/
def TileRun.unsynced (r : TileRun) : TileRun := { r with syncHeld := none, syncFree := false }

/-- The runs of the tiles are the same but for SYNC waits that were released. -/
def SameRuns (s u : State) : Prop := ∀ t, (runOf u t).map TileRun.unsynced = (runOf s t).map TileRun.unsynced

theorem SameRuns.refl (s : State) : SameRuns s s := fun _ => rfl
theorem SameRuns.trans {s u v : State} (h : SameRuns s u) (g : SameRuns u v) : SameRuns s v := fun t => (g t).trans (h t)
theorem SameRuns.of_only {m : Nat} {s u : State} (h : Only m s u) (e : m.testBit 33 = false) : SameRuns s u :=
  fun t => by rw [h.runOf_eq e]

theorem SameRuns.foldl {α : Type} {s : State} {f : State → α → State} (hf : ∀ u x, SameRuns u (f u x)) (l : List α) :
    SameRuns s (l.foldl f s) := by
  induction l generalizing s with
  | nil => exact .refl s
  | cons x l ih => exact (hf s x).trans ih

theorem SameRuns.exists_run {s u : State} {t : Nat} {r : TileRun} (h : SameRuns s u) (hr : runOf s t = some r) :
    ∃ x, runOf u t = some x ∧ x.pos = r.pos ∧ x.part = r.part := by
  have ht := h t
  rw [hr, Option.map_some] at ht
  obtain ⟨x, hx, hxr⟩ := Option.map_eq_some_iff.mp ht
  exact ⟨x, hx, (congrArg TileRun.pos hxr :), (congrArg TileRun.part hxr :)⟩

theorem find_releaseTiles (l : FMap TileRun) (p n v t : Nat) :
    (FMap.find (releaseTiles l p n v) t).map TileRun.unsynced = (FMap.find l t).map TileRun.unsynced := by
  induction l with
  | nil => rfl
  | cons e l ih =>
    obtain ⟨k, x⟩ := e
    have hcons : releaseTiles ((k, x) :: l) p n v = releaseTiles [(k, x)] p n v ++ releaseTiles l p n v := rfl
    have hone : ∃ y, releaseTiles [(k, x)] p n v = [(k, y)] ∧ y.unsynced = x.unsynced := by
      simp only [releaseTiles, List.map_cons, List.map_nil]
      split
      · split
        · exact ⟨_, rfl, rfl⟩
        · exact ⟨_, rfl, rfl⟩
      · exact ⟨_, rfl, rfl⟩
    obtain ⟨y, hy, hyx⟩ := hone
    rw [hcons, hy, List.singleton_append, FMap.find, FMap.find]
    split
    · exact congrArg some hyx
    · exact ih

theorem syncPut_sameRuns (s : State) (p n v : Nat) : SameRuns s (syncPut s p n v) := fun t => find_releaseTiles s.tiles p n v t

theorem doneSignal_sameRuns (s : State) (p h : Nat) : SameRuns s (doneSignal s p h) := by
  unfold doneSignal
  split
  · exact .refl s
  · split
    · exact syncPut_sameRuns _ _ _ _
    · exact .of_only (raiseRc_only ..) rfl

theorem endRun_sameRuns (s : State) (q : Nat) (r : RunList) (reason off : Nat) (step : Option Nat) :
    SameRuns s (endRun s q r reason off step) := by
  unfold endRun
  dsimp only
  split
  · exact (SameRuns.of_only (postReply_only ..) rfl).trans (doneSignal_sameRuns _ _ _)
  · exact .of_only (postReply_only ..) rfl

theorem endList_sameRuns (s : State) (q reason off : Nat) (step : Option Nat) : SameRuns s (endList s q reason off step) := by
  unfold endList
  split
  · exact .refl s
  · exact (SameRuns.of_only (setQueue_only ..) rfl).trans (endRun_sameRuns _ _ _ _ _ _)

theorem advance_sameRuns (s : State) (q : Nat) (res : List W256) (step : Option Nat) : SameRuns s (advance s q res step) := by
  unfold advance
  split
  · exact .refl s
  · dsimp only
    split
    · exact (SameRuns.of_only (setQueue_only ..) rfl).trans (endList_sameRuns _ _ _ _ _)
    · exact .of_only (setQueue_only ..) rfl

theorem releaseOne_sameRuns (s : State) (p e : Nat) : SameRuns s (releaseOne s p e) := by
  unfold releaseOne
  split
  · exact .refl s
  · dsimp only
    split
    · exact advance_sameRuns _ _ _ _
    · exact .refl s

theorem releaseWaits_sameRuns (s : State) (p n : Nat) : SameRuns s (releaseWaits s p n) := by
  induction n generalizing s with
  | zero => exact .refl s
  | succ n ih => exact (SameRuns.foldl (fun u e => releaseOne_sameRuns u p e) _).trans (ih _)

theorem syncWrite_sameRuns (s : State) (p n v : Nat) : SameRuns s (syncWrite s p n v) :=
  (syncPut_sameRuns s p n v).trans (releaseWaits_sameRuns _ _ _)

/-! ### SYNC -/

/-- R184: with no list running on queues 0 to 5 of a partition, there is no WAIT to release. -/
theorem releaseWaits_of_idle {s : State} {p : Nat} (h : ∀ e, e < 6 → (queue s (p * 8 + e)).running = none) (n : Nat) :
    releaseWaits s p n = s := by
  have hone : ∀ e, e < 6 → releaseOne s p e = s := fun e he => by rw [releaseOne, h e he]
  have hround : ∀ l : List Nat, (∀ e ∈ l, e < 6) → l.foldl (fun t e => releaseOne t p e) s = s := by
    intro l
    induction l with
    | nil => exact fun _ => rfl
    | cons e l ih =>
      intro hl
      rw [List.foldl_cons, hone e (hl e (List.mem_cons_self ..))]
      exact ih fun x hx => hl x (List.mem_cons_of_mem _ hx)
  induction n with
  | zero => rfl
  | succ n ih => rw [releaseWaits, hround _ fun e he => List.mem_range.mp he, ih]

theorem syncWrite_of_idle {s : State} {p : Nat} (n v : Nat) (h : ∀ e, e < 6 → (queue s (p * 8 + e)).running = none) :
    syncWrite s p n v = syncPut s p n v :=
  releaseWaits_of_idle (fun e he => by rw [(syncPut_only ..).queue_eq rfl, h e he]) 6

theorem Only.syncGet_eq {m : Nat} {s u : State} (h : Only m s u) (e : m.testBit 16 = false) (i j : Nat) : syncGet u i j = syncGet s i j := by
  simp only [syncGet, h.sync e]

theorem syncSum_eq_some {s : State} {p n a : Nat} (h : syncGet s p n + a < 2 ^ 64) : syncSum s p n a = some (syncGet s p n + a) := if_pos h

theorem exec_syncSignal_of_sum {s : State} {t w : Nat} {r : TileRun} (h : AtTile s t 0x05 r w) (hm : bitAt w 119 = false)
    (ho : ownsSync s r.part (fld w 118 109) = true) (hv : syncGet s r.part (fld w 118 109) + fld w 108 45 < 2 ^ 64) :
    exec (.syncSignal t) s = .next (seqNext { p := r.part, t := t, run := r, w := w } 4 (fld w 118 109)
      (syncWrite s r.part (fld w 118 109) (syncGet s r.part (fld w 118 109) + fld w 108 45))) := by
  change execSyncSignal t s = _
  rw [execSyncSignal, tileCmd_of_atTile h rfl (by rw [isOp_of_atTile h, hm]; rfl)]
  simp only [ho, Bool.not_true, Bool.false_eq_true, if_false, syncSum_eq_some hv]

theorem exec_syncWait_of_reached {s : State} {t w : Nat} {r : TileRun} (h : AtTile s t 0x05 r w) (hm : bitAt w 119 = true)
    (ho : ownsSync s r.part (fld w 118 109) = true) (hv : fld w 108 45 ≤ syncGet s r.part (fld w 118 109)) :
    exec (.syncWait t) s = .next (seqNext { p := r.part, t := t, run := r, w := w } 3 (fld w 118 109)
      (updRun s t fun r => { r with syncHeld := none, syncFree := false })) := by
  change execSyncWait t s = _
  rw [execSyncWait, tileCmd_of_atTile h rfl (by rw [isOp_of_atTile h, hm]; rfl)]
  simp only [ho, Bool.not_true, Bool.false_eq_true, if_false, hv, true_or, if_true]

/-! ### NOP, WAITF, FENCE, BRK -/

section
variable {s : State} {t w : Nat} {r : TileRun}

theorem exec_nop (h : AtTile s t 0x00 r w) : exec (.nop t) s = .next (tileNext s t) := by
  change execNop t s = _
  rw [execNop, tileCmd_of_atTile h rfl (isOp_of_atTile h)]

theorem exec_waitf (h : AtTile s t 0x03 r w) :
    exec (.waitf t) s = .next (if fld w 113 82 ≤ tileFlag r (fld w 119 114) then
      seqNext { p := r.part, t := t, run := r, w := w } 2 (fld w 119 114) s else s) := by
  change execWaitf t s = _
  rw [execWaitf, tileCmd_of_atTile h rfl (isOp_of_atTile h)]

theorem exec_fence (h : AtTile s t 0x04 r w) :
    exec (.fence t) s = .next (if fenceHolds s t (fld w 119 112) r then s else
      seqNext { p := r.part, t := t, run := r, w := w } 1 (fld w 119 112) s) := by
  change execFence t s = _
  rw [execFence, tileCmd_of_atTile h rfl (isOp_of_atTile h)]

theorem exec_brk_of_disabled (h : AtTile s t 0x07 r w) (hd : debugBit s r.part 0 = false) : exec (.brk t) s = .next (tileNext s t) := by
  change execBrk t s = _
  rw [execBrk, tileCmd_of_atTile h rfl (isOp_of_atTile h)]
  simp only [hd, Bool.not_false, if_true]

theorem exec_brk_of_released (h : AtTile s t 0x07 r w) (hd : debugBit s r.part 0 = true) (hb : r.brk = 2) :
    exec (.brk t) s = .next (tileNext (updRun s t fun r => { r with brk := 0 }) t) := by
  change execBrk t s = _
  rw [execBrk, tileCmd_of_atTile h rfl (isOp_of_atTile h)]
  simp only [hd, hb, Bool.not_true, Bool.false_eq_true, if_false, if_true]

theorem exec_brk_of_enabled (h : AtTile s t 0x07 r w) (hd : debugBit s r.part 0 = true) (hb : r.brk ≠ 2) :
    exec (.brk t) s = .next (postDebug (updRun s t fun r => { r with brk := 1 }) r.part
      { typ := 5, body := brkRecord t (fld w 119 104) r.pos }) := by
  change execBrk t s = _
  rw [execBrk, tileCmd_of_atTile h rfl (isOp_of_atTile h)]
  simp only [hd, hb, Bool.not_true, Bool.false_eq_true, if_false]

theorem moved_tileNext {x : TileRun} (hx : runOf s t = some x) (hpos : x.pos = r.pos) (hpart : x.part = r.part) : Moved (tileNext s t) t r :=
  ⟨{ x with pos := x.pos + 1 }, by rw [runOf_tileNext, if_pos rfl, hx]; rfl, congrArg (· + 1) hpos, hpart⟩

end

/-- Settles O54, command by command. -/
theorem sequencerCommands : Obligations.SequencerCommands := by
  refine ⟨?nop, ?endCmd, ?tstep, ?tstepLate, ?waitf, ?fence, ?syncSignal, ?syncWait, ?brk⟩
  case nop =>
    intro t s r w h
    have hu := tileNext_only s t
    refine ⟨_, exec_nop h, ?_, fun k hk => ?_, hu.sp rfl, hu.acc rfl⟩
    · rw [runOf_tileNext, if_pos rfl, h.run]
      rfl
    · rw [runOf_tileNext, if_neg hk]
  case endCmd =>
    intro t s r w h hd hs
    have hu := tileEnded_only s t r.part
    exact ⟨_, exec_endCmd_of_drained h hd hs, (hu.runOf_eq rfl t).trans FMap.find_del_same, hu.sp rfl, hu.acc rfl,
      fun q hq => stepOf_tileEnded hq⟩
  case tstep =>
    intro t s r w h hs hl hclk hf
    have hu := begun_only s t w
    refine ⟨_, _, (exec_tstep h hs).trans ?_, runOf_begun w h.run, rfl, rfl, rfl, rfl, rfl, rfl, rfl, hu.sp rfl, hu.acc rfl⟩
    rw [sendResume_of_not_late hl, afterResume, if_neg (by rw [hf]; simpa using hclk)]
  case tstepLate =>
    intro t s r w q h hs hl hq
    obtain ⟨hx, q', hq', hnotices⟩ := sendResume_of_late (c := { p := r.part, t := t, run := r, w := w }) hl h.run hq
    rw [exec_tstep h hs, afterResume]
    split
    · exact ⟨_, _, q', rfl, hx, rfl, hq', hnotices⟩
    · exact ⟨_, _, q', rfl, runOf_begun w hx, rfl, ((begun_only ..).stepOf_eq rfl _).trans hq', hnotices⟩
  case waitf =>
    intro t s r w h
    refine ⟨fun hv => ⟨_, (exec_waitf h).trans (by rw [if_pos hv]), moved_seqNext _ _ h.run rfl rfl, (seqNext_only ..).sp rfl,
      (seqNext_only ..).acc rfl⟩, fun hv => (exec_waitf h).trans (by rw [if_neg (Nat.not_le.mpr hv)])⟩
  case fence =>
    intro t s r w h
    refine ⟨fun hv => ⟨_, (exec_fence h).trans (by rw [hv, if_neg Bool.false_ne_true]), moved_seqNext _ _ h.run rfl rfl, (seqNext_only ..).sp rfl,
      (seqNext_only ..).acc rfl⟩, fun hv => (exec_fence h).trans (by rw [hv, if_pos rfl])⟩
  case syncSignal =>
    rintro t s r w v h hm ho rfl hv
    obtain ⟨x, hx, hpos, hpart⟩ := (syncWrite_sameRuns s r.part (fld w 118 109)
      (syncGet s r.part (fld w 118 109) + fld w 108 45)).exists_run h.run
    refine ⟨_, exec_syncSignal_of_sum h hm ho hv, moved_seqNext _ _ hx hpos hpart,
      ((seqNext_only ..).sp rfl).trans ((syncWrite_only ..).sp rfl), fun hidle => ⟨?_, fun i j hij => ?_⟩⟩
    · rw [(seqNext_only ..).syncGet_eq rfl, syncWrite_of_idle _ _ hidle, syncGet_syncPut_same]
    · rw [(seqNext_only ..).syncGet_eq rfl, syncWrite_of_idle _ _ hidle, syncGet_syncPut, if_neg hij]
  case syncWait =>
    intro t s r w h hm ho hv
    have hx : runOf (updRun s t fun r => { r with syncHeld := none, syncFree := false }) t =
        some { r with syncHeld := none, syncFree := false } := by
      rw [runOf_updRun_same, h.run]
      rfl
    exact ⟨_, exec_syncWait_of_reached h hm ho hv, moved_seqNext _ _ hx rfl rfl, ((seqNext_only ..).sync rfl).trans ((updRun_only ..).sync rfl),
      ((seqNext_only ..).sp rfl).trans ((updRun_only ..).sp rfl)⟩
  case brk =>
    intro t s r w h
    refine ⟨fun hfree => ?_, fun hd hb => ⟨_, exec_brk_of_enabled h hd hb, ?_, fun k hk => ?_⟩⟩
    · cases hd : debugBit s r.part 0 with
      | false =>
        have hu := tileNext_only s t
        exact ⟨_, exec_brk_of_disabled h hd, moved_tileNext h.run rfl rfl, hu.sp rfl, hu.debugQ rfl⟩
      | true =>
        have hu : Only 0x200000000 s _ := (tileNext_only _ t).step rfl (updRun_only s t fun r => { r with brk := 0 })
        have hx : runOf (updRun s t fun r => { r with brk := 0 }) t = some { r with brk := 0 } := by
          rw [runOf_updRun_same, h.run]
          rfl
        exact ⟨_, exec_brk_of_released h hd (hfree.resolve_left (by simp [hd])), moved_tileNext hx rfl rfl, hu.sp rfl, hu.debugQ rfl⟩
    · rw [runOf_updRun_same, h.run]
      rfl
    · rw [runOf_updRun, if_neg hk]

end Sys2Proof.Machine
end

section
/-! SUPPORT. Maintenance commands on banks: what a list of bank operations does, how a command that is accepted or refused leaves the state, and
the swap record (R52–R54, R198, R199). -/
namespace Sys2Proof.Machine

/-! ### An operation on every bank of a list -/

/-- An operation on each element of a list does its work on `x`: `before` holds until it comes to `x`, and `done`, which it then brings about,
lasts. -/
theorem foldl_done_of_mem {α : Type} {f : State → α → State} {before done : State → Prop} {l : List α} {x : α} {s : State} (hx : x ∈ l)
    (hs : before s) (hother : ∀ u, ∀ y ∈ l, y ≠ x → before u → before (f u y)) (hself : ∀ u, before u → done (f u x))
    (hlast : ∀ u, ∀ y ∈ l, done u → done (f u y)) : done (l.foldl f s) := by
  obtain ⟨as, bs, rfl, hnew⟩ := List.eq_append_cons_of_mem hx
  rw [List.foldl_append, List.foldl_cons]
  refine List.foldlRecOn bs f (hself _ ?_) fun u hu y hy => hlast u y (by simp [hy]) hu
  exact List.foldlRecOn as f hs fun u hu y hy => hother u y (by simp [hy]) (fun e => hnew (e ▸ hy)) hu

/-- An operation that changes only the bank it is given leaves the banks outside its list alone. -/
theorem bankOf_foldl_of_not_mem {f : State → Nat → State} (hf : ∀ u i j, j ≠ i → bankOf (f u i) j = bankOf u j) {l : List Nat} {k : Nat}
    (s : State) (hk : k ∉ l) : bankOf (l.foldl f s) k = bankOf s k :=
  List.foldlRecOn (motive := fun u => bankOf u k = bankOf s k) l f rfl fun u hu i hi => (hf u i k fun e => hk (e ▸ hi)).trans hu

theorem bankOf_updBank_other {s : State} {i j : Nat} (f : Bank → Bank) (h : j ≠ i) : bankOf (updBank s i f) j = bankOf s j := by
  rw [bankOf_updBank, if_neg h]

/-- What an update leaves of the bank it changes, it leaves of every bank. -/
theorem view_bankOf_updBank {α : Type} (g : Bank → α) (s : State) (k j : Nat) {f : Bank → Bank} (hf : ∀ b, g (f b) = g b) :
    g (bankOf (updBank s k f) j) = g (bankOf s j) := by
  rw [bankOf_updBank]
  split
  next e => rw [hf, e]
  next => rfl

/-! ### The two banks of an array -/

theorem sibling_ne (k : Nat) : sibling k ≠ k := by
  unfold sibling
  split <;> omega

theorem sibling_sibling (k : Nat) : sibling (sibling k) = k := by
  unfold sibling
  split <;> split <;> omega

theorem sibling_injective {j k : Nat} (h : sibling j = sibling k) : j = k := by rw [← sibling_sibling j, h, sibling_sibling]

/-- The map of a bank's array stands under the even bank's number. -/
theorem bankKey_bankTile_bankArray (k : Nat) : bankKey (bankTile k) (bankArray k) 0 = k / 2 * 2 := by
  unfold bankKey bankTile bankArray
  omega

theorem eq_or_eq_sibling_of_half {j k : Nat} (h : j / 2 * 2 = k / 2 * 2) : j = k ∨ j = sibling k := by
  unfold sibling
  split <;> omega

/-! ### A host command accepted on its banks (R80, R82, R199) -/

/-- A bank without the scheduler's plan for it. -/
def Bank.unplanned (b : Bank) : Bank := { b with plan := 0 }

/-- A bank without what the acceptance of a host command notes in it. -/
def Bank.bare (b : Bank) : Bank := { b with plan := 0, hostAt := none }

theorem bare_bankOf_noteHost (s : State) (k j : Nat) : (bankOf (noteHost s k) j).bare = (bankOf s j).bare := by
  rw [noteHost, view_bankOf_updBank Bank.bare _ _ _ (by intro; rfl), view_bankOf_updBank Bank.bare _ _ _ (by intro; rfl)]

theorem unplanned_bankOf_noteHost_other {s : State} {k j : Nat} (h : j ≠ k) : (bankOf (noteHost s k) j).unplanned = (bankOf s j).unplanned := by
  rw [noteHost, view_bankOf_updBank Bank.unplanned _ _ _ (by intro; rfl), bankOf_updBank_other _ h]

theorem bare_bankOf_foldl_noteHost (s : State) (ks : List Nat) (j : Nat) : (bankOf (ks.foldl noteHost s) j).bare = (bankOf s j).bare :=
  List.foldlRecOn (motive := fun u => (bankOf u j).bare = (bankOf s j).bare) ks noteHost rfl fun u hu k _ =>
    (bare_bankOf_noteHost u k j).trans hu

theorem othersKept_foldl_noteHost {s u : State} {ks : List Nat} (h : ∀ k, k ∉ ks → bankOf u k = bankOf s k) :
    OthersKept s (ks.foldl noteHost u) ks := fun k hk =>
  List.foldlRecOn (motive := fun v => (bankOf v k).unplanned = (bankOf s k).unplanned) ks noteHost (congrArg Bank.unplanned (h k hk))
    fun _ hv _ hj => (unplanned_bankOf_noteHost_other (ne_of_mem_of_not_mem hj hk).symm).trans hv

theorem foldl_noteHost_only (s : State) (ks : List Nat) : Only 0x200000 s (ks.foldl noteHost s) :=
  Only.foldl (fun _ _ g => (noteHost_only ..).step rfl g) (Only.refl ..)

/-- The state in which a maintenance command of queue `q`, started in `t`, waits for its banks. -/
def bankWait (t : State) (q pos : Nat) (ks : List Nat) : State := turnOver (beginCmd (ks.foldl noteHost t) q ks) q pos

theorem bankWait_only_notes (t : State) (q pos : Nat) (ks : List Nat) : Only 0x2800 (ks.foldl noteHost t) (bankWait t q pos ks) :=
  (turnOver_only ..).step rfl ((beginCmd_only ..).mono rfl)

theorem bankWait_only (t : State) (q pos : Nat) (ks : List Nat) : Only 0x202800 t (bankWait t q pos ks) :=
  (bankWait_only_notes ..).step rfl ((foldl_noteHost_only ..).mono rfl)

theorem bare_bankOf_bankWait (t : State) (q pos : Nat) (ks : List Nat) (k : Nat) : (bankOf (bankWait t q pos ks) k).bare = (bankOf t k).bare := by
  rw [(bankWait_only_notes ..).bankOf_eq rfl, bare_bankOf_foldl_noteHost]

theorem st_bankOf_bankWait (t : State) (q pos : Nat) (ks : List Nat) (k : Nat) : (bankOf (bankWait t q pos ks) k).st = (bankOf t k).st :=
  (congrArg Bank.st (bare_bankOf_bankWait t q pos ks k) :)

theorem othersKept_bankWait {s t : State} {ks : List Nat} (q pos : Nat) (h : ∀ k, k ∉ ks → bankOf t k = bankOf s k) :
    OthersKept s (bankWait t q pos ks) ks := fun k hk => by
  rw [(bankWait_only_notes ..).bankOf_eq rfl, othersKept_foldl_noteHost h k hk]

theorem running_bankWait {t : State} {q : Nat} {r : RunList} (pos : Nat) (ks : List Nat) (h : (queue t q).running = some r) :
    (queue (bankWait t q pos ks) q).running = some { r with begun := true, aux := ks } := by
  rw [bankWait, (turnOver_only ..).queue_eq rfl]
  exact queue_beginCmd_same ks (by rw [(foldl_noteHost_only ..).queue_eq rfl, h])

/-! ### A maintenance command that its list has reached -/

section
variable {s t : State} {q op w : Nat} {r : RunList} {f : State → Nat → List Nat → Sum Nat State} (h : Reached s q op r w)
include h

theorem bankCommand_of_refusal {e k : Nat} (waits : Bool) (hs : selRefusal s (qPart q) op (picked s q w) = some (e, k)) :
    bankCommand q op waits f s = .next (turnOver (refuseCmd s q e [bankWord (lanOf (part s (qPart q)).place k) 0]) q r.pos) := by
  rw [bankCommand, withCommand_of_reached h]
  simp only [hs]

variable (hs : selRefusal s (qPart q) op (picked s q w) = none) (hf : f s w (picked s q w) = .inr t)
include hs hf

theorem bankCommand_waits : bankCommand q op true f s = .next (bankWait t q r.pos (picked s q w)) := by
  rw [bankCommand, withCommand_of_reached h]
  simp only [hs, hf, if_true]
  rfl

theorem bankCommand_completes :
    bankCommand q op false f s = .next (turnOver (completeCmd ((picked s q w).foldl noteHost t) q []) q r.pos) := by
  rw [bankCommand, withCommand_of_reached h]
  simp only [hs, hf, Bool.false_eq_true, if_false]

end

theorem exec_program (q : Nat) (s : State) : exec (.program q) s = execProgram q s := rfl
theorem exec_calibrate (q : Nat) (s : State) : exec (.calibrate q) s = execCalibrate q s := rfl
theorem exec_disarm (q : Nat) (s : State) : exec (.disarm q) s = execDisarm q s := rfl
theorem exec_refresh (q : Nat) (s : State) : exec (.refresh q) s = execRefresh q s := rfl
theorem exec_retire (q : Nat) (s : State) : exec (.retire q) s = execRetire q s := rfl

/-- R199: PROGRAM, CALIBRATE, DISARM, REFRESH and RETIRE are judged alike. -/
theorem exec_eq_bankCommand {c : Instr} {q op : Nat}
    (h : (c, op) ∈ [(.program q, 0x40), (.calibrate q, 0x41), (.disarm q, 0x43), (.refresh q, 0x44), (.retire q, 0x45)]) :
    ∃ waits f, ∀ s, exec c s = bankCommand q op waits f s := by
  simp only [List.mem_cons, Prod.mk.injEq, List.not_mem_nil, or_false] at h
  obtain ⟨rfl, rfl⟩ | ⟨rfl, rfl⟩ | ⟨rfl, rfl⟩ | ⟨rfl, rfl⟩ | ⟨rfl, rfl⟩ := h
  · exact ⟨_, _, fun s => (exec_program q s).trans (by rw [execProgram])⟩
  · exact ⟨_, _, fun s => (exec_calibrate q s).trans (by rw [execCalibrate])⟩
  · exact ⟨_, _, fun s => (exec_disarm q s).trans (by rw [execDisarm])⟩
  · exact ⟨_, _, fun s => (exec_refresh q s).trans (by rw [execRefresh])⟩
  · exact ⟨_, _, fun s => (exec_retire q s).trans (by rw [execRetire])⟩

/-- Settles O29: the refusal names the first bank on which the operation is illegal, and ends the list before any bank is touched. -/
theorem bankCommandsRefused : Obligations.BankCommandsRefused := by
  intro c q op s r w e k hc h hs
  obtain ⟨waits, f, hexec⟩ := exec_eq_bankCommand hc
  have hrefused := (hexec s).trans (bankCommand_of_refusal h waits hs)
  have hu := (turnOver_only (refuseCmd s q e [bankWord (lanOf (part s (qPart q)).place k) 0]) q r.pos).step (m := 0xc0080100000000200016880) rfl
    ((refuseCmd_only ..).mono rfl)
  refine ⟨hrefused, fun t ht => ?_⟩
  rw [hrefused] at ht
  cases ht
  exact ⟨hu.banks rfl, hu.vpgmWait rfl⟩

/-! ### The end of a bank's operation -/

/-- What follows the end of a bank's operation, a command that waited for it, changes no bank. -/
theorem bankDone_only_op (s : State) (k reason cells : Nat) :
    Only 0xc0080100000000200014880 (updBank s k fun b => { b with op := .none }) (bankDone s k reason cells) := by
  unfold bankDone
  refine Only.foldl (fun _ _ g => ?_) (Only.refl ..)
  split
  · exact g
  · exact Only.ite ((finishBanks_only ..).step rfl ((setQueue_only ..).step rfl g)) g

theorem bankOf_bankDone (s : State) (k reason cells j : Nat) :
    bankOf (bankDone s k reason cells) j = if j = k then { bankOf s k with op := .none } else bankOf s j := by
  rw [(bankDone_only_op ..).bankOf_eq rfl, bankOf_updBank]

/-! ### SWAP -/

theorem bankOf_armSwap (s : State) (p k j : Nat) : bankOf (armSwap s p k) j = if j = k then { bankOf s k with st := .swapArmed } else bankOf s j := by
  unfold armSwap
  split
  next h =>
    split
    next e => rw [e, ← h]
    next => rfl
  next => rw [(updPart_only ..).bankOf_eq rfl, bankOf_updBank]

/-- R53: arming a bank adds it to the swap record and leaves the rest of the partition alone. -/
theorem part_armSwap (s : State) (p k : Nat) : part (armSwap s p k) p =
    { part s p with swap := if (bankOf s k).st = .swapArmed then (part s p).swap else (part s p).swap ++ [k] } := by
  unfold armSwap
  split
  · rfl
  · rw [part_updPart_same, (updBank_only ..).part_eq rfl]

/-- The state in which a SWAP has armed its banks. -/
def armed (s : State) (p : Nat) (ks : List Nat) : State := ks.foldl (armSwap · p) s

theorem armed_only (s : State) (p : Nat) (ks : List Nat) : Only 0x200400 s (armed s p ks) :=
  Only.foldl (fun _ _ g => (armSwap_only ..).step rfl g) (Only.refl ..)

theorem bankOf_armed_of_not_mem {ks : List Nat} {k : Nat} (s : State) (p : Nat) (hk : k ∉ ks) : bankOf (armed s p ks) k = bankOf s k :=
  bankOf_foldl_of_not_mem (fun u i j hj => by rw [bankOf_armSwap, if_neg hj]) s hk

theorem armed_of_mem {s : State} {p k : Nat} {ks : List Nat} (hk : k ∈ ks) (hs : (bankOf s k).st = .standby) :
    (bankOf (armed s p ks) k).st = .swapArmed ∧ k ∈ (part (armed s p ks) p).swap := by
  refine foldl_done_of_mem (before := fun u => (bankOf u k).st = .standby) (done := fun u => (bankOf u k).st = .swapArmed ∧ k ∈ (part u p).swap)
    hk hs (fun u j _ hj hu => ?_) (fun u hu => ⟨?_, ?_⟩) fun u j _ hu => ⟨?_, ?_⟩
  · rw [bankOf_armSwap, if_neg hj.symm, hu]
  · rw [bankOf_armSwap, if_pos rfl]
  · simp [part_armSwap, hu]
  · rw [bankOf_armSwap]
    split
    · rfl
    · exact hu.1
  · rw [part_armSwap]
    split
    · exact hu.2
    · exact List.mem_append_left _ hu.2

theorem mem_swap_armed {s : State} {p k : Nat} {ks : List Nat} (h : k ∈ (part (armed s p ks) p).swap) : k ∈ (part s p).swap ∨ k ∈ ks := by
  refine List.foldlRecOn (motive := fun u => k ∈ (part u p).swap → k ∈ (part s p).swap ∨ k ∈ ks) ks (armSwap · p) .inl
    (fun u hu j hj hk => ?_) h
  rw [part_armSwap] at hk
  split at hk
  · exact hu hk
  · rcases List.mem_append.mp hk with hk | hk
    · exact hu hk
    · exact .inr (List.mem_singleton.mp hk ▸ hj)

theorem part_armed (s : State) (p : Nat) (ks : List Nat) : ∃ l, part (armed s p ks) p = { part s p with swap := l } := by
  refine List.foldlRecOn (motive := fun u => ∃ l, part u p = { part s p with swap := l }) ks (armSwap · p) ⟨_, rfl⟩ fun u hu j _ => ?_
  obtain ⟨l, hl⟩ := hu
  exact ⟨_, by rw [part_armSwap, hl]⟩

/-- R53: arming banks does not move the swap point. -/
theorem swapNow_bankWait_armed (s : State) (q pos : Nat) (ks : List Nat) (p : Nat) : swapNow (bankWait (armed s p ks) q pos ks) p = swapNow s p := by
  obtain ⟨l, hl⟩ := part_armed s p ks
  have hw := bankWait_only (armed s p ks) q pos ks
  simp only [swapNow, hw.part_eq rfl, hw.group_eq rfl, hl, (armed_only ..).group_eq rfl]

theorem exec_swap {s : State} {q w : Nat} {r : RunList} (h : Reached s q 0x42 r w)
    (hs : selRefusal s (qPart q) 0x42 (picked s q w) = none) (hst : (part s (qPart q)).st ≠ .faulted) :
    exec (.swap q) s = .next (if swapNow s (qPart q) then
      applySwap (bankWait (armed s (qPart q) (picked s q w)) q r.pos (picked s q w)) (qPart q)
    else bankWait (armed s (qPart q) (picked s q w)) q r.pos (picked s q w)) := by
  change execSwap q s = _
  rw [execSwap, bankCommand_waits (t := armed s (qPart q) (picked s q w)) h hs (if_neg hst)]
  simp only [swapNow_bankWait_armed]

/-! ### The swap point -/

/-- R53: bank `k` of a swap record takes the place of the bank in service of its array. -/
def exchange (s : State) (k : Nat) : State :=
  let s := updBank s k fun b => { b with st := .inService }
  let s := updBank s (sibling k) fun b => if b.st = .inService then { b with st := .standby, boundHeld := false } else b
  let s := { s with bankMap := FMap.set s.bankMap (bankKey (bankTile k) (bankArray k) 0) (k % 2) }
  bankDone (updBank (loadTable s k) k fun b => { b with plan := 0 }) k 0 0

theorem bankMap_exchange (s : State) (k : Nat) : (exchange s k).bankMap = FMap.set s.bankMap (k / 2 * 2) (k % 2) := by
  rw [exchange, (bankDone_only ..).bankMap rfl, (updBank_only ..).bankMap rfl, (loadTable_only ..).bankMap rfl, bankKey_bankTile_bankArray]
  rfl

theorem st_bankOf_loadTable (s : State) (k j : Nat) : (bankOf (loadTable s k) j).st = (bankOf s j).st :=
  st_bankOf_updBank _ _ _ fun _ => rfl

theorem st_bankOf_bankDone (s : State) (k reason cells j : Nat) : (bankOf (bankDone s k reason cells) j).st = (bankOf s j).st := by
  rw [(bankDone_only_op ..).bankOf_eq rfl]
  exact st_bankOf_updBank _ _ _ fun _ => rfl

theorem st_bankOf_exchange (s : State) (k j : Nat) : (bankOf (exchange s k) j).st =
    if j = k then .inService else if j = sibling k ∧ (bankOf s j).st = .inService then .standby else (bankOf s j).st := by
  have hmaps : (bankOf (exchange s k) j).st = (bankOf (updBank (updBank s k fun b => { b with st := .inService }) (sibling k) fun b =>
      if b.st = .inService then { b with st := .standby, boundHeld := false } else b) j).st := by
    rw [exchange, st_bankOf_bankDone, st_bankOf_updBank _ _ _ (by intros; rfl), st_bankOf_loadTable]
    rfl
  rw [hmaps, bankOf_updBank]
  split
  next hj =>
    subst hj
    rw [bankOf_updBank_other _ (sibling_ne k), if_neg (sibling_ne k)]
    split <;> simp_all
  next hj =>
    rw [bankOf_updBank]
    split <;> simp [hj]

theorem applySwap_only_exchange (s : State) (p : Nat) : Only 0x400 ((part s p).swap.foldl exchange s) (applySwap s p) := by
  unfold applySwap
  dsimp only
  split
  next h => rw [List.isEmpty_iff.mp h]; exact Only.refl ..
  next => exact updPart_only ..

theorem swap_applySwap (s : State) (p : Nat) : (part (applySwap s p) p).swap = [] := by
  unfold applySwap
  dsimp only
  split
  next h => exact List.isEmpty_iff.mp h
  next => rw [part_updPart_same]

/-- What the swap of bank `k` makes of its array: it serves, the array's map names it, and its sibling serves no more, which was in state `b`. -/
structure Exchanged (u : State) (k : Nat) (b : BankState) : Prop where
  serves : (bankOf u k).st = .inService
  named : FMap.find u.bankMap (k / 2 * 2) = some (k % 2)
  replaced : (bankOf u (sibling k)).st = if b = .inService then .standby else b

theorem exchanged_exchange {s : State} {k : Nat} {b : BankState} (h : (bankOf s (sibling k)).st = b) : Exchanged (exchange s k) k b where
  serves := by rw [st_bankOf_exchange, if_pos rfl]
  named := by rw [bankMap_exchange, FMap.find_set_same]
  replaced := by
    rw [st_bankOf_exchange, if_neg (sibling_ne k), h]
    simp only [true_and]

theorem st_bankOf_exchange_other {s : State} {j k : Nat} (hj : k ≠ j) (hs : k ≠ sibling j) :
    (bankOf (exchange s j) k).st = (bankOf s k).st := by
  rw [st_bankOf_exchange, if_neg hj, if_neg fun e => hs e.1]

/-- The swap of a bank of another array changes nothing of it. -/
theorem Exchanged.exchange_other {u : State} {j k : Nat} {b : BankState} (h : Exchanged u k b) (hj : k ≠ j) (hs : k ≠ sibling j) :
    Exchanged (exchange u j) k b where
  serves := (st_bankOf_exchange_other hj hs).trans h.serves
  named := by
    rw [bankMap_exchange, FMap.find_set_other fun e => (eq_or_eq_sibling_of_half e).elim hj hs, h.named]
  replaced := by
    rw [st_bankOf_exchange_other (fun e => hs (by rw [← e, sibling_sibling])) (fun e => hj (sibling_injective e)), h.replaced]

theorem Exchanged.exchange_same {u : State} {k : Nat} {b : BankState} (h : Exchanged u k b) : Exchanged (exchange u k) k b where
  serves := (exchanged_exchange rfl).serves
  named := (exchanged_exchange rfl).named
  replaced := by
    rw [(exchanged_exchange rfl).replaced, h.replaced]
    split <;> simp_all

/-- R53: every bank of a swap record that does not hold both banks of its array is exchanged. -/
theorem exchanged_applySwap {s : State} {p k : Nat} (hk : k ∈ (part s p).swap) (hs : sibling k ∉ (part s p).swap) :
    Exchanged (applySwap s p) k (bankOf s (sibling k)).st := by
  have hother : ∀ j ∈ (part s p).swap, k ≠ sibling j := fun j hj e => hs (by rwa [e, sibling_sibling])
  have hall : Exchanged ((part s p).swap.foldl exchange s) k (bankOf s (sibling k)).st :=
    foldl_done_of_mem (before := fun u => (bankOf u (sibling k)).st = (bankOf s (sibling k)).st)
      (done := fun u => Exchanged u k (bankOf s (sibling k)).st) hk rfl
      (fun u j hj hjk hu => (st_bankOf_exchange_other (ne_of_mem_of_not_mem hj hs).symm fun e => hjk (sibling_injective e).symm).trans hu)
      (fun u hu => exchanged_exchange hu)
      fun u j hj hu => by
        by_cases e : k = j
        · exact e ▸ hu.exchange_same
        · exact hu.exchange_other e (hother j hj)
  have hu := applySwap_only_exchange s p
  exact ⟨(congrArg Bank.st (hu.bankOf_eq rfl _)).trans hall.serves, (congrArg (FMap.find · _) (hu.bankMap rfl)).trans hall.named,
    (congrArg Bank.st (hu.bankOf_eq rfl _)).trans hall.replaced⟩

/-- Settles O31: while a step runs the banks are armed and no more; else the record that the SWAP has made is applied at once. -/
theorem swapArmsOrExchanges : Obligations.SwapArmsOrExchanges := by
  intro q s r w h hs hst hstandby
  have hexec := exec_swap h hs hst
  have harmed := fun k hk => armed_of_mem (p := qPart q) hk (hstandby k hk)
  have hkept := fun k hk => bankOf_armed_of_not_mem (k := k) (ks := picked s q w) s (qPart q) hk
  have hv := bankWait_only (armed s (qPart q) (picked s q w)) q r.pos (picked s q w)
  have hswap := congrArg Part.swap (hv.part_eq rfl (qPart q))
  refine ⟨fun hlater => ?_, fun hnow hempty hsib => ?_⟩
  · rw [hlater, if_neg Bool.false_ne_true] at hexec
    refine ⟨_, hexec, othersKept_bankWait q r.pos hkept, (hv.bankMap rfl).trans ((armed_only ..).bankMap rfl), fun k hk => ⟨?_, ?_⟩, ?_⟩
    · rw [st_bankOf_bankWait, (harmed k hk).1]
    · rw [hswap]
      exact (harmed k hk).2
    · exact running_bankWait _ _ (by rw [(armed_only ..).queue_eq rfl, (atCommand_eq_some h.cmd).1])
  · rw [hnow, if_pos rfl] at hexec
    refine ⟨_, hexec, swap_applySwap .., fun k hk => ?_⟩
    have hdone := exchanged_applySwap (hswap ▸ (harmed k hk).2) (hswap ▸ fun hin => (mem_swap_armed hin).elim (by simp [hempty]) (hsib k hk))
    rw [st_bankOf_bankWait, hkept _ (hsib k hk)] at hdone
    refine ⟨hdone.serves, ?_, fun hserved => ?_⟩
    · rw [mapBank, bankKey_bankTile_bankArray, hdone.named]
    · rw [hdone.replaced, if_pos hserved]

end Sys2Proof.Machine
end

section
/-! SUPPORT. PROGRAM, CALIBRATE, REFRESH, DISARM and RETIRE on banks where they are legal (R52, R198, R199, R443). -/
namespace Sys2Proof.Machine

/-! ### A bank after the acceptance of a host command -/

section
variable {P : Bank → Prop} (hP : ∀ b, P b.bare ↔ P b)
include hP

theorem foldl_noteHost_iff (t : State) (ks : List Nat) (k : Nat) : P (bankOf (ks.foldl noteHost t) k) ↔ P (bankOf t k) := by
  rw [← hP, bare_bankOf_foldl_noteHost, hP]

theorem bankWait_iff (t : State) (q pos : Nat) (ks : List Nat) (k : Nat) : P (bankOf (bankWait t q pos ks) k) ↔ P (bankOf t k) := by
  rw [← hP, bare_bankOf_bankWait, hP]

end

/-! ### PROGRAM -/

/-- Bank `b` is being programmed with `x` for the host (R52). -/
def Bank.Takes (x : BankImage) (b : Bank) : Prop :=
  b.st = .programming ∧ b.block = some x.block ∧ b.format = x.format ∧ b.sums = x.sums ∧ b.op = .host

/-- The state in which the banks `ks` are being programmed with `x` for the host. -/
def programAll (s : State) (x : BankImage) (ks : List Nat) : State := ks.foldl (fun s k => startProgram s k x .host) s

theorem programAll_only (s : State) (x : BankImage) (ks : List Nat) : Only 0x200000 s (programAll s x ks) :=
  Only.foldl (fun _ _ g => (startProgram_only ..).step rfl g) (Only.refl ..)

theorem bankOf_startProgram_other {s : State} {j k : Nat} (x : BankImage) (op : BankOp) (h : j ≠ k) :
    bankOf (startProgram s k x op) j = bankOf s j :=
  bankOf_updBank_other _ h

theorem takes_startProgram (s : State) (k : Nat) (x : BankImage) : (bankOf (startProgram s k x .host) k).Takes x := by
  rw [startProgram, bankOf_updBank_same]
  exact ⟨rfl, rfl, rfl, rfl, rfl⟩

theorem takes_programAll {ks : List Nat} {k : Nat} (s : State) (x : BankImage) (hk : k ∈ ks) : (bankOf (programAll s x ks) k).Takes x :=
  foldl_done_of_mem (before := fun _ => True) (done := fun u => (bankOf u k).Takes x) hk trivial (fun _ _ _ _ _ => trivial)
    (fun u _ => takes_startProgram u k x) fun u j _ hu => by
      by_cases e : k = j
      · exact e ▸ takes_startProgram u k x
      · rwa [bankOf_startProgram_other x .host e]

theorem bankOf_programAll_of_not_mem {ks : List Nat} {k : Nat} (s : State) (x : BankImage) (hk : k ∉ ks) :
    bankOf (programAll s x ks) k = bankOf s k :=
  bankOf_foldl_of_not_mem (fun _ _ _ h => bankOf_startProgram_other x .host h) s hk

/-! ### CALIBRATE -/

/-- Bank `b` calibrates at the latched temperature and band `l`, in place where `a`, the bank before, served (R52). -/
def Bank.Calibrates (l : Int × Nat) (a b : Bank) : Prop :=
  b.calBand = l.2 ∧ b.calT = l.1 ∧ if a.st = .inService then b.st = .inService ∧ b.calInPlace = true else b.st = .calibrating

/-- R54: a second CALIBRATE starts the calibration afresh. -/
theorem Bank.Calibrates.again {l : Int × Nat} {a b c : Bank} (h : Bank.Calibrates l a b) (g : Bank.Calibrates l b c) : Bank.Calibrates l a c := by
  obtain ⟨-, -, hst⟩ := h
  obtain ⟨hband, htemp, gst⟩ := g
  refine ⟨hband, htemp, ?_⟩
  split at hst
  next ha =>
    rw [if_pos ha]
    rwa [if_pos hst.1] at gst
  next ha =>
    rw [if_neg ha]
    rwa [hst, if_neg (by decide)] at gst

theorem bankOf_startCal_other {s : State} {j k : Nat} (op : BankOp) (h : j ≠ k) : bankOf (startCal s k op) j = bankOf s j :=
  bankOf_updBank_other _ h

theorem calibrates_startCal (s : State) (k : Nat) (op : BankOp) :
    Bank.Calibrates (latchOf s (bankTile k)) (bankOf s k) (bankOf (startCal s k op) k) := by
  rw [startCal, bankOf_updBank_same]
  split
  next h => exact ⟨rfl, rfl, by rw [if_pos h]; exact ⟨h, rfl⟩⟩
  next h => exact ⟨rfl, rfl, by rw [if_neg h]⟩

/-- The state in which the banks `ks` calibrate for the host. -/
def calAll (s : State) (ks : List Nat) : State := ks.foldl (fun s k => startCal s k .host) s

theorem calAll_only (s : State) (ks : List Nat) : Only 0x200000 s (calAll s ks) :=
  Only.foldl (fun _ _ g => (startCal_only ..).step rfl g) (Only.refl ..)

theorem calibrates_calAll {ks : List Nat} {k : Nat} (s : State) (hk : k ∈ ks) :
    Bank.Calibrates (latchOf s (bankTile k)) (bankOf s k) (bankOf (calAll s ks) k) := by
  have hlatch : ∀ {u j}, latchOf u (bankTile k) = latchOf s (bankTile k) → latchOf (startCal u j .host) (bankTile k) = latchOf s (bankTile k) :=
    fun h => ((startCal_only ..).latchOf_eq rfl _).trans h
  refine (foldl_done_of_mem (before := fun u => bankOf u k = bankOf s k ∧ latchOf u (bankTile k) = latchOf s (bankTile k))
    (done := fun u => Bank.Calibrates (latchOf s (bankTile k)) (bankOf s k) (bankOf u k) ∧ latchOf u (bankTile k) = latchOf s (bankTile k))
    hk ⟨rfl, rfl⟩ (fun u j _ hj hu => ⟨?_, hlatch hu.2⟩) (fun u hu => ⟨?_, hlatch hu.2⟩) fun u j _ hu => ⟨?_, hlatch hu.2⟩).1
  · rw [bankOf_startCal_other .host hj.symm, hu.1]
  · rw [← hu.1, ← hu.2]
    exact calibrates_startCal u k .host
  · by_cases e : k = j
    · subst e
      exact hu.1.again (hu.2 ▸ calibrates_startCal u k .host)
    · rw [bankOf_startCal_other .host e]
      exact hu.1

theorem bankOf_calAll_of_not_mem {ks : List Nat} {k : Nat} (s : State) (hk : k ∉ ks) : bankOf (calAll s ks) k = bankOf s k :=
  bankOf_foldl_of_not_mem (fun _ _ _ h => bankOf_startCal_other .host h) s hk

/-! ### A command that has not begun, while others end -/

/-- Queue `q` runs `r`, whose command has not begun. -/
def Unbegun (q : Nat) (r : RunList) (s : State) : Prop := (queue s q).running = some r ∧ r.begun = false

theorem unbegun_of_atCommand {q op : Nat} {r : RunList} {s : State} {w : Nat} (h : atCommand s q op = some (r, w)) : Unbegun q r s := by
  refine ⟨(atCommand_eq_some h).1, ?_⟩
  unfold atCommand at h
  split at h
  · split at h
    next hb => cases h; exact hb.2
    next => cases h
  · cases h

namespace Unbegun
variable {q : Nat} {r : RunList} {s : State} (h : Unbegun q r s)
include h

theorem of_only {m : Nat} {t : State} (g : Only m s t) (e : m.testBit 11 = false) : Unbegun q r t := ⟨by rw [g.queue_eq e, h.1], h.2⟩

theorem setQueue_other {j : Nat} (x : QueueSt) (hj : j ≠ q) : Unbegun q r (setQueue s j x) := ⟨by rw [queue_setQueue, if_neg hj.symm, h.1], h.2⟩

theorem ne_of_begun {j : Nat} {x : RunList} (hx : (queue s j).running = some x) (hb : x.begun = true) : j ≠ q := by
  rintro rfl
  rw [h.1, Option.some_inj] at hx
  rw [← hx, h.2] at hb
  exact Bool.false_ne_true hb

theorem endList_other {j : Nat} (reason off : Nat) (step : Option Nat) (hj : j ≠ q) : Unbegun q r (endList s j reason off step) := by
  unfold endList
  split
  · exact h
  · exact ⟨by rw [queue_endRun, (h.setQueue_other _ hj).1], h.2⟩

theorem advance_other {j : Nat} (res : List W256) (step : Option Nat) (hj : j ≠ q) : Unbegun q r (advance s j res step) := by
  unfold advance
  split
  · exact h
  · dsimp only
    split
    · exact (h.setQueue_other _ hj).endList_other _ _ _ hj
    · exact h.setQueue_other _ hj

theorem releaseOne (p e : Nat) : Unbegun q r (releaseOne s p e) := by
  unfold Machine.releaseOne
  split
  · exact h
  next x hx =>
    dsimp only
    split
    next hw => exact h.advance_other _ _ (h.ne_of_begun hx (by simp only [Bool.and_eq_true] at hw; exact hw.1.1))
    next => exact h

theorem releaseWaits (p n : Nat) : Unbegun q r (releaseWaits s p n) := by
  induction n generalizing s with
  | zero => exact h
  | succ n ih => exact ih (List.foldlRecOn _ _ h fun _ hu e _ => hu.releaseOne p e)

theorem completeCmd_other {j : Nat} (res : List W256) (step : Option Nat) (hj : j ≠ q) : Unbegun q r (completeCmd s j res step) :=
  (h.advance_other res step hj).releaseWaits _ _

theorem refuseCmd_other {j : Nat} (reason : Nat) (res : List W256) (step : Option Nat) (hj : j ≠ q) :
    Unbegun q r (refuseCmd s j reason res step) := by
  unfold refuseCmd
  split
  · exact h
  · exact ((h.setQueue_other _ hj).endList_other _ _ _ hj).releaseWaits _ _

theorem finishBanks_other {j : Nat} (hj : j ≠ q) : Unbegun q r (finishBanks s j) := by
  unfold finishBanks
  split
  · exact h
  · split
    · split
      · exact h.completeCmd_other _ _ hj
      · exact h.refuseCmd_other _ _ _ hj
    · exact h

theorem bankDone (k reason cells : Nat) : Unbegun q r (bankDone s k reason cells) := by
  unfold Machine.bankDone
  refine List.foldlRecOn _ _ (h.of_only (updBank_only ..) rfl) fun u hu p _ => ?_
  split
  · exact hu
  next x hx =>
    split
    next hb =>
      have hj := hu.ne_of_begun hx (by simp only [Bool.and_eq_true] at hb; exact hb.1)
      exact (hu.setQueue_other _ hj).finishBanks_other hj
    next => exact hu

theorem calAbort (k reason : Nat) : Unbegun q r (calAbort s k reason) := by
  unfold Machine.calAbort
  dsimp only
  split
  · exact (h.of_only (updBank_only ..) rfl).bankDone _ _ _
  · split
    · exact (h.of_only (updBank_only ..) rfl).bankDone _ _ _
    · exact h

theorem startRepair (k : Nat) (x : BankImage) (op : BankOp) : Unbegun q r (startRepair s k x op) :=
  (h.calAbort k 0x0221).of_only (updBank_only ..) rfl

end Unbegun

/-! ### REFRESH -/

theorem bankOf_bankDone_other {s : State} {j k : Nat} (reason cells : Nat) (h : j ≠ k) : bankOf (bankDone s k reason cells) j = bankOf s j := by
  rw [bankOf_bankDone, if_neg h]

theorem bankOf_calAbort_other {s : State} {j k : Nat} (reason : Nat) (h : j ≠ k) : bankOf (calAbort s k reason) j = bankOf s j := by
  unfold calAbort
  dsimp only
  split
  · rw [bankOf_bankDone_other _ _ h, bankOf_updBank_other _ h]
  · split
    · rw [bankOf_bankDone_other _ _ h, bankOf_updBank_other _ h]
    · rfl

/-- A bank without what giving up a calibration can change: its state, its plan, and the marks of what runs on it (R52). -/
def Bank.uncal (b : Bank) : Bank := { b with st := .empty, plan := 0, op := .none, calInPlace := false }

theorem uncal_bankOf_calAbort (s : State) (k reason j : Nat) : (bankOf (calAbort s k reason) j).uncal = (bankOf s j).uncal := by
  have hdone : ∀ (u : State) (c : Nat), (bankOf (bankDone u k reason c) j).uncal = (bankOf u j).uncal := fun u c => by
    rw [(bankDone_only_op ..).bankOf_eq rfl, view_bankOf_updBank Bank.uncal _ _ _ (by intro; rfl)]
  unfold calAbort
  dsimp only
  split
  · rw [hdone, view_bankOf_updBank Bank.uncal _ _ _ (by intro; rfl)]
  · split
    · rw [hdone, view_bankOf_updBank Bank.uncal _ _ _ (by intro; rfl)]
    · rfl

theorem bankOf_startRepair_other {s : State} {j k : Nat} (x : BankImage) (op : BankOp) (h : j ≠ k) :
    bankOf (startRepair s k x op) j = bankOf s j := by
  rw [startRepair, bankOf_updBank_other _ h, bankOf_calAbort_other _ h]

theorem block_bankOf_startRepair (s : State) (k j : Nat) (x : BankImage) (op : BankOp) :
    (bankOf (startRepair s k x op) j).block = (bankOf s j).block := by
  rw [startRepair, view_bankOf_updBank Bank.block _ _ _ (by intro; rfl)]
  exact (congrArg Bank.block (uncal_bankOf_calAbort s k 0x0221 j) :)

theorem st_bankOf_startRepair (s : State) (k : Nat) (x : BankImage) (op : BankOp) : (bankOf (startRepair s k x op) k).st = .repairing := by
  rw [startRepair, bankOf_updBank_same]

/-- The state in which each bank of `l` is repaired with its own source. -/
def repairAll (op : BankOp) (s : State) (l : List (Nat × BankImage)) : State := l.foldl (fun s e => startRepair s e.1 e.2 op) s

/-- R199: REFRESH reads its sources, at most giving up staged copies, and then begins the repairs. -/
theorem refreshAll_eq_inr {p : Nat} {op : BankOp} {ks : List Nat} {s t : State} {l : List (Nat × BankImage)}
    (h : refreshAll p op s ks l = .inr t) :
    ∃ v es, Only 0x20000000000000000000 s v ∧ es.map Prod.fst = l.map Prod.fst ++ ks ∧ t = repairAll op v es := by
  induction ks generalizing s l with
  | nil =>
    cases h
    exact ⟨s, l, .refl .., by simp, rfl⟩
  | cons k ks ih =>
    unfold refreshAll at h
    split at h
    · cases h
    · split at h
      · cases h
      next hd =>
        obtain ⟨v, es, hv, hes, ht⟩ := ih h
        exact ⟨v, es, hv.step rfl ((deviceSource_only hd).mono rfl), by simpa using hes, ht⟩

theorem bankOf_repairAll_of_not_mem {op : BankOp} {l : List (Nat × BankImage)} {k : Nat} (s : State) (hk : k ∉ l.map Prod.fst) :
    bankOf (repairAll op s l) k = bankOf s k :=
  List.foldlRecOn (motive := fun u => bankOf u k = bankOf s k) l _ rfl fun _ hu _ he =>
    (bankOf_startRepair_other _ op (ne_of_mem_of_not_mem (List.mem_map_of_mem he) hk).symm).trans hu

theorem block_bankOf_repairAll (op : BankOp) (s : State) (l : List (Nat × BankImage)) (k : Nat) :
    (bankOf (repairAll op s l) k).block = (bankOf s k).block :=
  List.foldlRecOn (motive := fun u => (bankOf u k).block = (bankOf s k).block) l _ rfl fun u hu e _ =>
    (block_bankOf_startRepair u e.1 k e.2 op).trans hu

theorem st_bankOf_repairAll_of_mem {op : BankOp} {l : List (Nat × BankImage)} {k : Nat} (s : State) (hk : k ∈ l.map Prod.fst) :
    (bankOf (repairAll op s l) k).st = .repairing := by
  obtain ⟨⟨k, x⟩, he, rfl⟩ := List.mem_map.mp hk
  refine foldl_done_of_mem (before := fun _ => True) (done := fun u => (bankOf u k).st = .repairing) he trivial (fun _ _ _ _ _ => trivial)
    (fun u _ => st_bankOf_startRepair u k x op) fun u e _ hu => ?_
  by_cases h : k = e.1
  · rw [h, st_bankOf_startRepair]
  · rwa [bankOf_startRepair_other e.2 op h]

theorem repairAll_only (op : BankOp) (s : State) (l : List (Nat × BankImage)) : Only 0xc0080100000000200214880 s (repairAll op s l) :=
  Only.foldl (fun _ _ g => (startRepair_only ..).step rfl g) (Only.refl ..)

theorem Unbegun.repairAll {q : Nat} {r : RunList} {s : State} (h : Unbegun q r s) (op : BankOp) (l : List (Nat × BankImage)) :
    Unbegun q r (repairAll op s l) :=
  List.foldlRecOn (motive := Unbegun q r) l _ h fun _ hu _ _ => hu.startRepair _ _ _

/-! ### DISARM -/

theorem bankOf_disarm (s : State) (p k j : Nat) :
    bankOf (disarm s p k) j = if j = k ∧ (bankOf s k).st = .swapArmed then { bankOf s k with st := .standby } else bankOf s j := by
  unfold disarm
  split
  next h =>
    rw [(updPart_only ..).bankOf_eq rfl, bankOf_updBank]
    simp only [h, and_true]
  next h => rw [if_neg fun e => h e.2]

theorem bankOf_disarm_other {s : State} {p j k : Nat} (h : j ≠ k) : bankOf (disarm s p k) j = bankOf s j := by
  rw [bankOf_disarm, if_neg fun e => h e.1]

theorem swap_disarm (s : State) (p k : Nat) : (part (disarm s p k) p).swap =
    if (bankOf s k).st = .swapArmed then (part s p).swap.filter (· != k) else (part s p).swap := by
  unfold disarm
  split
  · rw [part_updPart_same, (updBank_only ..).part_eq rfl]
  · rfl

theorem disarmed_of_mem {s : State} {p k : Nat} {ks : List Nat} (hk : k ∈ ks) (hs : (bankOf s k).st = .swapArmed) :
    (bankOf (ks.foldl (disarm · p) s) k).st = .standby ∧ k ∉ (part (ks.foldl (disarm · p) s) p).swap := by
  refine foldl_done_of_mem (before := fun u => (bankOf u k).st = .swapArmed) (done := fun u => (bankOf u k).st = .standby ∧ k ∉ (part u p).swap)
    hk hs (fun u j _ hj hu => ?_) (fun u hu => ⟨?_, ?_⟩) fun u j _ hu => ⟨?_, ?_⟩
  · rw [bankOf_disarm_other hj.symm, hu]
  · rw [bankOf_disarm, if_pos ⟨rfl, hu⟩]
  · simp [swap_disarm, hu]
  · rw [bankOf_disarm]
    split
    · rfl
    · exact hu.1
  · rw [swap_disarm]
    split
    · exact fun h => hu.2 (List.mem_filter.mp h).1
    · exact hu.2

/-! ### RETIRE -/

theorem Only.kUnit_eq {m : Nat} {s t : State} (h : Only m s t) (e : m.testBit 71 = false) (k : Nat) : kUnit t k = kUnit s k := by
  simp only [kUnit, h.kennel e]

theorem st_kUnit_kennelAdd (s : State) (x : KRec) (k : Nat) : (kUnit (kennelAdd s x) k).st = (kUnit s k).st := by
  rw [kennelAdd, kUnit_setKUnit]
  split
  next e => rw [e]
  next => rfl

theorem st_kUnit_kennelRetire (s : State) (kind unit sub k : Nat) :
    (kUnit (kennelRetire s kind unit sub) k).st = if k = kKey kind unit sub then 3 else (kUnit s k).st := by
  unfold kennelRetire
  dsimp only
  split
  next h =>
    split
    next e => rw [e, h]
    next => rfl
  next =>
    rw [st_kUnit_kennelAdd, kUnit_setKUnit]
    split <;> rfl

theorem bankOf_retireBank_other {s : State} {j k : Nat} (h : j ≠ k) : bankOf (retireBank s k) j = bankOf s j := by
  rw [retireBank, (kennelRetire_only ..).bankOf_eq rfl, bankOf_updBank_other _ h]

theorem st_bankOf_retireBank (s : State) (k : Nat) : (bankOf (retireBank s k) k).st = .retired := by
  rw [retireBank, (kennelRetire_only ..).bankOf_eq rfl, bankOf_updBank_same]

/-- The unit of Kennel that stands for a bank (R481). -/
def bankUnit (k : Nat) : Nat := kKey 1 (bankTile k) (bankSub (bankArray k) (k % 2))

theorem st_kUnit_retireBank (s : State) (k n : Nat) : (kUnit (retireBank s k) n).st = if n = bankUnit k then 3 else (kUnit s n).st := by
  rw [retireBank, st_kUnit_kennelRetire, (updBank_only ..).kUnit_eq rfl, bankUnit]

theorem retired_of_mem {ks : List Nat} {k : Nat} (s : State) (hk : k ∈ ks) :
    (bankOf (ks.foldl retireBank s) k).st = .retired ∧ (kUnit (ks.foldl retireBank s) (bankUnit k)).st = 3 := by
  refine foldl_done_of_mem (before := fun _ => True) (done := fun u => (bankOf u k).st = .retired ∧ (kUnit u (bankUnit k)).st = 3) hk trivial
    (fun _ _ _ _ _ => trivial) (fun u _ => ⟨st_bankOf_retireBank u k, by rw [st_kUnit_retireBank, if_pos rfl]⟩) fun u j _ hu => ⟨?_, ?_⟩
  · by_cases e : k = j
    · exact e ▸ st_bankOf_retireBank u k
    · rw [bankOf_retireBank_other e, hu.1]
  · rw [st_kUnit_retireBank, hu.2, ite_self]

/-- Settles O30, command by command. -/
theorem bankCommands : Obligations.BankCommands := by
  refine ⟨?program, ?calibrate, ?refresh, ?disarm, ?retire⟩
  case program =>
    intro q s s1 r w x h hs hx
    have hs1 := programSource_only hx
    have hstart : Only 0x20000000000000200000 s (programAll s1 x (picked s q w)) := (programAll_only ..).step rfl (hs1.mono rfl)
    have hexec := (exec_program q s).trans (bankCommand_waits (t := vpgmRequest (programAll s1 x (picked s q w)) false (picked s q w)) h hs
      (by simp only [hx]; rfl))
    refine ⟨_, hexec, othersKept_bankWait q r.pos fun k hk => ?_, ?_, fun k hk => ?_, ?_⟩
    · exact (bankOf_programAll_of_not_mem s1 x hk).trans (hs1.bankOf_eq rfl k)
    · rw [(bankWait_only ..).vpgmWait rfl, vpgmRequest, hstart.vpgmWait rfl]
    · exact (bankWait_iff (P := Bank.Takes x) (fun _ => Iff.rfl) _ q r.pos (picked s q w) k).mpr (takes_programAll s1 x hk)
    · exact running_bankWait _ _ (by rw [(vpgmRequest_only ..).queue_eq rfl, hstart.queue_eq rfl, (atCommand_eq_some h.cmd).1])
  case calibrate =>
    intro q s r w h hs
    have hexec := (exec_calibrate q s).trans (bankCommand_waits (t := calAll s (picked s q w)) h hs rfl)
    refine ⟨_, hexec, othersKept_bankWait q r.pos fun k hk => bankOf_calAll_of_not_mem s hk, fun k hk => ?_, ?_⟩
    · exact (bankWait_iff (P := Bank.Calibrates (latchOf s (bankTile k)) (bankOf s k)) (fun _ => Iff.rfl) _ q r.pos (picked s q w) k).mpr
        (calibrates_calAll s hk)
    · exact running_bankWait _ _ (by rw [(calAll_only ..).queue_eq rfl, (atCommand_eq_some h.cmd).1])
  case refresh =>
    intro q s u0 r w h hs hu
    have hexec := (exec_refresh q s).trans (bankCommand_waits (t := vpgmRequest u0 false (picked s q w)) h hs (by simp only [hu]))
    obtain ⟨v, es, hv, hes, rfl⟩ := refreshAll_eq_inr hu
    rw [List.map_nil, List.nil_append] at hes
    refine ⟨_, hexec, othersKept_bankWait q r.pos fun k hk => ?_, ?_, fun k hk => ⟨?_, ?_⟩, ?_⟩
    · exact (bankOf_repairAll_of_not_mem v (hes ▸ hk)).trans (hv.bankOf_eq rfl k)
    · rw [(bankWait_only ..).vpgmWait rfl, vpgmRequest, (repairAll_only ..).vpgmWait rfl, hv.vpgmWait rfl]
    · rw [st_bankOf_bankWait]
      exact st_bankOf_repairAll_of_mem v (hes ▸ hk)
    · refine (bankWait_iff (P := fun b => b.block = (bankOf s k).block) (fun _ => Iff.rfl) _ q r.pos (picked s q w) k).mpr ?_
      exact (block_bankOf_repairAll .host v es k).trans (congrArg Bank.block (hv.bankOf_eq rfl k))
    · exact running_bankWait _ _ (((unbegun_of_atCommand h.cmd).of_only hv rfl).repairAll .host es).1
  case disarm =>
    intro q s r w h hs
    have hexec := (exec_disarm q s).trans (bankCommand_completes (t := (picked s q w).foldl (disarm · (qPart q)) s) h hs rfl)
    refine ⟨_, hexec, othersKept_foldl_noteHost fun k hk => bankOf_foldl_of_not_mem (fun _ _ _ => bankOf_disarm_other) s hk, fun k hk ha => ?_⟩
    rw [(foldl_noteHost_only ..).part_eq rfl]
    obtain ⟨hst, hswap⟩ := disarmed_of_mem (p := qPart q) hk ha
    exact ⟨(foldl_noteHost_iff (P := fun b => b.st = .standby) (fun _ => Iff.rfl) ..).mpr hst, hswap⟩
  case retire =>
    intro q s r w h hs
    have hexec := (exec_retire q s).trans (bankCommand_completes (t := (picked s q w).foldl retireBank s) h hs rfl)
    refine ⟨_, hexec, othersKept_foldl_noteHost fun k hk => bankOf_foldl_of_not_mem (fun _ _ _ => bankOf_retireBank_other) s hk, fun k hk => ?_⟩
    rw [(foldl_noteHost_only ..).kUnit_eq rfl]
    obtain ⟨hst, hunit⟩ := retired_of_mem s hk
    exact ⟨(foldl_noteHost_iff (P := fun b => b.st = .retired) (fun _ => Iff.rfl) ..).mpr hst, hunit⟩

end Sys2Proof.Machine
end

section
/-! SUPPORT. What ends a bank's programming, calibration or repair (R49–R52, R70, R77, R84, R85, R443). -/
namespace Sys2Proof.Machine

/-! ### VPGM_GRANT -/

/-- R85: a bank whose program-start entry is opened where it programs. -/
def Bank.opened (b : Bank) : Bank :=
  if b.st = .programming ∨ b.st = .repairing then { b with openEntry := true, openRefresh := b.st == .repairing || b.op == .scheduler } else b

theorem Bank.opened_opened (b : Bank) : b.opened.opened = b.opened := by
  by_cases h : b.st = .programming ∨ b.st = .repairing <;> simp [opened, h]

theorem bankOf_openProgram (s : State) (k j : Nat) : bankOf (openProgram s k) j = if j = k then (bankOf s k).opened else bankOf s j := by
  unfold openProgram Bank.opened
  split
  · rw [(kennelAdd_only ..).bankOf_eq rfl, bankOf_updBank]
  · split
    next e => rw [e]
    next => rfl

theorem bankOf_openProgram_other {s : State} {j k : Nat} (h : j ≠ k) : bankOf (openProgram s k) j = bankOf s j := by
  rw [bankOf_openProgram, if_neg h]

theorem bankOf_foldl_openProgram_of_mem {ks : List Nat} {k : Nat} (s : State) (hk : k ∈ ks) :
    bankOf (ks.foldl openProgram s) k = (bankOf s k).opened := by
  refine foldl_done_of_mem (before := fun u => bankOf u k = bankOf s k) (done := fun u => bankOf u k = (bankOf s k).opened) hk rfl
    (fun u j _ hj hu => (bankOf_openProgram_other hj.symm).trans hu) (fun u hu => ?_) fun u j _ hu => ?_
  · rw [bankOf_openProgram, if_pos rfl, hu]
  · rw [bankOf_openProgram]
    split
    next e => rw [← e, hu, Bank.opened_opened]
    next => exact hu

theorem exec_vpgmGrant_of_covered {s : State} {e : Bool × List Nat} (hn : vpgmNext s = some e) (hc : vpgmCovers s e.2 = true) :
    exec .vpgmGrant s = .next (e.2.foldl openProgram { s with vpgmWait := s.vpgmWait.erase e }) := by
  change execVpgmGrant s = _
  simp only [execVpgmGrant, hn, hc, if_true]

/-! ### The end of an operation on a bank -/

theorem bankOf_bankDone_updBank (s : State) (k reason cells j : Nat) (f : Bank → Bank) :
    bankOf (bankDone (updBank s k f) k reason cells) j = if j = k then { f (bankOf s k) with op := .none } else bankOf s j := by
  rw [bankOf_bankDone, bankOf_updBank_same, bankOf_updBank]
  split <;> rfl

theorem bankOf_calAbort_of_calibrating {s : State} {k : Nat} (reason : Nat) (h : (bankOf s k).st = .calibrating) :
    ∃ n, bankOf (calAbort s k reason) k = { bankOf s k with st := (bankOf s k).prior, plan := n, op := .none } := by
  rw [calAbort, if_pos h, bankOf_bankDone_updBank, if_pos rfl]
  exact ⟨_, rfl⟩

theorem bankOf_calAbort_of_inPlace {s : State} {k : Nat} (reason : Nat) (h : (bankOf s k).st ≠ .calibrating)
    (hc : (bankOf s k).calInPlace = true) : bankOf (calAbort s k reason) k = { bankOf s k with calInPlace := false, op := .none } := by
  rw [calAbort, if_neg h, if_pos hc, bankOf_bankDone_updBank, if_pos rfl]

/-! ### The end of a program cycle (R49, R84, R85) -/

theorem bankOf_countCycle_other {s : State} {j k : Nat} (refresh : Bool) (h : j ≠ k) : bankOf (countCycle s k refresh) j = bankOf s j := by
  unfold countCycle
  dsimp only
  split
  · rw [(raise_only ..).bankOf_eq rfl, bankOf_updBank_other _ h, bankOf_updBank_other _ h]
  · exact bankOf_updBank_other _ h

theorem bankOf_countCycle_same (s : State) (k : Nat) (refresh : Bool) : ∃ n t w, bankOf (countCycle s k refresh) k =
    { bankOf s k with progCycles := (bankOf s k).progCycles + 1, refreshes := n, progTime := t, wearRaised := w } := by
  unfold countCycle
  dsimp only
  split
  · rw [(raise_only ..).bankOf_eq rfl, bankOf_updBank_same, bankOf_updBank_same]
    exact ⟨_, _, _, rfl⟩
  · rw [bankOf_updBank_same]
    exact ⟨_, _, _, rfl⟩

theorem bankOf_closeProgram_other {s : State} {j k : Nat} (h : j ≠ k) : bankOf (closeProgram s k) j = bankOf s j := by
  unfold closeProgram
  dsimp only
  split
  · rw [(kennelAdd_only ..).bankOf_eq rfl, bankOf_countCycle_other _ h, bankOf_updBank_other _ h]
  · rfl

theorem bankOf_closeProgram_of_open {s : State} {k : Nat} (h : (bankOf s k).openEntry = true) : ∃ n t w, bankOf (closeProgram s k) k =
    { bankOf s k with
      openEntry := false, progCycles := (bankOf s k).progCycles + 1, refreshes := n, progTime := t, wearRaised := w } := by
  obtain ⟨n, t, w, hcount⟩ := bankOf_countCycle_same (updBank s k fun b => { b with openEntry := false }) k (bankOf s k).openRefresh
  rw [bankOf_updBank_same] at hcount
  exact ⟨n, t, w, by rw [closeProgram, if_pos h, (kennelAdd_only ..).bankOf_eq rfl, hcount]⟩

/-- Noting a verify closes the cycle and keeps what the verify found; an event of Kennel is no change of a bank. -/
theorem bankOf_verifyNoted (s : State) (k cells slow pulses j : Nat) : bankOf (verifyNoted s k cells slow pulses) j =
    bankOf (updBank (closeProgram s k) k fun y => { y with slowCells := Nat.min slow 65535, maxPulses := Nat.min pulses 8 }) j := by
  unfold verifyNoted
  dsimp only
  split
  · rfl
  · rw [(kennelEvent_only ..).bankOf_eq rfl]

theorem bankOf_verifyNoted_other {s : State} {j k : Nat} (cells slow pulses : Nat) (h : j ≠ k) :
    bankOf (verifyNoted s k cells slow pulses) j = bankOf s j := by
  rw [bankOf_verifyNoted, bankOf_updBank_other _ h, bankOf_closeProgram_other h]

/-- A bank whose program cycle has ended: its entry is closed, its cycle counted, and its state still that of the cycle. -/
structure Bank.Cycled (b c : Bank) : Prop where
  st : c.st = b.st
  closed : c.openEntry = false
  counted : c.progCycles = b.progCycles + 1

theorem cycled_verifyNoted {s : State} {k : Nat} (cells slow pulses : Nat) (h : (bankOf s k).openEntry = true) :
    (bankOf s k).Cycled (bankOf (verifyNoted s k cells slow pulses) k) := by
  obtain ⟨n, t, w, hclose⟩ := bankOf_closeProgram_of_open h
  rw [bankOf_verifyNoted, bankOf_updBank_same, hclose]
  exact ⟨rfl, rfl, rfl⟩

/-! ### BANK_VERIFY_DONE -/

theorem bankOf_startFit (s : State) (k j : Nat) : bankOf (startFit s k) j =
    if j = k then { bankOf s k with fitting := true, calBand := (latchOf s (bankTile k)).2, calT := (latchOf s (bankTile k)).1 }
    else bankOf s j :=
  bankOf_updBank ..

theorem bankOf_repairLost (s : State) (k reason cells j : Nat) : bankOf (repairLost s k reason cells) j =
    if j = k then { bankOf s k with st := .invalid, fitting := false, op := .none } else bankOf s j := by
  rw [repairLost, (repairEnded_only ..).bankOf_eq rfl, bankOf_bankDone_updBank]

theorem repairVerified_of_passed {s : State} {k cells slow pulses : Nat} (h : cells = 0) :
    repairVerified s k cells slow pulses = startFit (verifyNoted s k cells slow pulses) k :=
  if_pos h

theorem repairVerified_of_failed {s : State} {k cells slow pulses : Nat} (h : cells ≠ 0) :
    repairVerified s k cells slow pulses = repairLost (verifyNoted s k cells slow pulses) k 0x0701 (Nat.min cells 2097151) :=
  if_neg h

/-- The state in which the verify of bank `k`'s program cycle is noted and its maintenance is due no more (R79). -/
def cycleNoted (s : State) (k cells slow pulses : Nat) : State :=
  updBank (verifyNoted s k cells slow pulses) k fun y => { y with refreshDue := false, calDue := false }

theorem bankOf_cycleNoted_other {s : State} {j k : Nat} (cells slow pulses : Nat) (h : j ≠ k) :
    bankOf (cycleNoted s k cells slow pulses) j = bankOf s j := by
  rw [cycleNoted, bankOf_updBank_other _ h, bankOf_verifyNoted_other _ _ _ h]

theorem cycled_cycleNoted {s : State} {k : Nat} (cells slow pulses : Nat) (h : (bankOf s k).openEntry = true) :
    (bankOf s k).Cycled (bankOf (cycleNoted s k cells slow pulses) k) := by
  obtain ⟨hst, hclosed, hcounted⟩ := cycled_verifyNoted cells slow pulses h
  rw [cycleNoted, bankOf_updBank_same]
  exact ⟨hst, hclosed, hcounted⟩

section
variable {s : State} {t a b : Nat} (cells slow pulses : Nat) (hb : badBank t a b = false) (ho : (bankOf s (bankKey t a b)).openEntry = true)
include hb ho

theorem exec_bankVerifyDone_of_programming (hs : (bankOf s (bankKey t a b)).st = .programming) :
    exec (.bankVerifyDone t a b cells slow pulses) s = .next (if cells = 0 then
      placerPump (afterVerify (bankDone (updBank (cycleNoted s (bankKey t a b) cells slow pulses) (bankKey t a b) fun y =>
        { y with st := .programmed }) (bankKey t a b) 0 0) (bankKey t a b) (bankOf s (bankKey t a b)).op)
    else bankDone (updBank (cycleNoted s (bankKey t a b) cells slow pulses) (bankKey t a b) fun y => { y with st := .invalid, plan := 0 })
      (bankKey t a b) 0x0701 (Nat.min cells 2097151)) := by
  change execBankVerifyDone t a b cells slow pulses s = _
  simp only [execBankVerifyDone, hb, hs, ho, ne_eq, not_true_eq_false, false_and, Bool.true_eq_false, or_self, if_false, Bool.false_eq_true,
    reduceCtorEq]
  split <;> rfl

theorem exec_bankVerifyDone_of_repairing (hs : (bankOf s (bankKey t a b)).st = .repairing) :
    exec (.bankVerifyDone t a b cells slow pulses) s = .next (repairVerified s (bankKey t a b) cells slow pulses) := by
  change execBankVerifyDone t a b cells slow pulses s = _
  simp [execBankVerifyDone, hb, hs, ho]

end

/-! ### What a completed fit writes into the books (R79, R84) -/

/-- A bank without the books that maintenance keeps of it: counts and times of fits and probes, what is due and planned, whose operation runs. -/
def Bank.unbooked (b : Bank) : Bank :=
  { b with
    op := .none, cals := 0, drift := 0, driftTime := 0, probesSkipped := 0, calDue := false, refreshDue := false, fitFails := 0, tSum := 0
    tCount := 0, dataRecal := none, dataPending := false, plan := 0 }

theorem unbooked_bankOf_bankDone (s : State) (k reason cells j : Nat) :
    (bankOf (bankDone s k reason cells) j).unbooked = (bankOf s j).unbooked := by
  rw [(bankDone_only_op ..).bankOf_eq rfl, view_bankOf_updBank Bank.unbooked _ _ _ (by intro; rfl)]

theorem unbooked_bankOf_fitNoted (s : State) (k j : Nat) : (bankOf (fitNoted s k) j).unbooked = (bankOf s j).unbooked := by
  rw [fitNoted, view_bankOf_updBank Bank.unbooked _ _ _ (by intro; split <;> rfl), view_bankOf_updBank Bank.unbooked _ _ _ (by intro; rfl)]

theorem unbooked_bankOf_residCheck (s : State) (k resid j : Nat) : (bankOf (residCheck s k resid) j).unbooked = (bankOf s j).unbooked := by
  unfold residCheck
  dsimp only
  split
  · rw [view_bankOf_updBank Bank.unbooked _ _ _ (by intro; split <;> rfl), view_bankOf_updBank Bank.unbooked _ _ _ (by intro; rfl)]
  · rfl

/-- The state in which the fit `f` of bank `k` is committed and noted. -/
def fitKept (s : State) (k : Nat) (f : FitTable) : State := fitNoted (commitTable s k (fitTable s k f)) k

/-- The fit of bank `k` has ended: the command that waited for it goes on, and its residual is judged (R79). -/
def fitEnded (s : State) (k : Nat) (f : FitTable) : State := residCheck (bankDone s k 0 0) k f.resid

section
variable {α : Type} {P : Bank → α} (hP : ∀ b, P b.unbooked = P b)
include hP

theorem view_bankOf_fitEnded (s : State) (k : Nat) (f : FitTable) (j : Nat) : P (bankOf (fitEnded s k f) j) = P (bankOf s j) := by
  rw [← hP, fitEnded, unbooked_bankOf_residCheck, unbooked_bankOf_bankDone, hP]

theorem view_bankOf_fitKept (s : State) (k : Nat) (f : FitTable) (j : Nat) :
    P (bankOf (fitKept s k f) j) = P (bankOf (commitTable s k (fitTable s k f)) j) := by
  rw [← hP, fitKept, unbooked_bankOf_fitNoted, hP]

end

/-- R70: the end of a calibration with the fit `f`: bank `k` is STANDBY with its band's table in use. -/
def calFitted (s : State) (k : Nat) (f : FitTable) : State :=
  fitEnded (loadTable (updBank (fitKept s k f) k fun y =>
    { y with st := .standby, plan := if (bankOf s k).op == .scheduler then 3 else 0 }) k) k f

/-- R70: the end of a calibration of bank `k` in service with the fit `f`: its table waits for the boundary. -/
def calRefitted (s : State) (k : Nat) (f : FitTable) : State :=
  fitEnded (updBank (fitKept s k f) k fun y => { y with calInPlace := false, newTable := true }) k f

/-- R52: the end of a repair with the fit `f`, before its partition's stall is judged: bank `k` serves with its new table. -/
def refitted (s : State) (k : Nat) (f : FitTable) : State :=
  fitEnded (loadTable (updBank (fitKept s k f) k fun y =>
    { y with st := .inService, fitting := false, refreshDue := false, overdue := false, noCopy := false }) k) k f

theorem fitting_bankOf_loadTable (s : State) (k j : Nat) : (bankOf (loadTable s k) j).fitting = (bankOf s j).fitting :=
  view_bankOf_updBank Bank.fitting _ _ _ fun _ => rfl

theorem tables_bankOf_loadTable (s : State) (k j : Nat) : (bankOf (loadTable s k) j).tables = (bankOf s j).tables :=
  view_bankOf_updBank Bank.tables _ _ _ fun _ => rfl

/-- In `u` bank `k` holds the table that the fit `f` gave it in `s`, and no other bank has changed its state or its tables (R70). -/
structure HoldsFit (s u : State) (k : Nat) (f : FitTable) : Prop where
  table : FMap.find (bankOf u k).tables (bankOf s k).calBand = some (fitTable s k f)
  others : ∀ j, j ≠ k → (bankOf u j).st = (bankOf s j).st ∧ (bankOf u j).tables = (bankOf s j).tables

theorem holdsFit_fitKept (s : State) (k : Nat) (f : FitTable) : HoldsFit s (fitKept s k f) k f where
  table := by
    rw [view_bankOf_fitKept (P := Bank.tables) (fun _ => rfl), commitTable, bankOf_updBank_same]
    exact FMap.find_set_same
  others j hj := by
    rw [view_bankOf_fitKept (P := Bank.tables) (fun _ => rfl), view_bankOf_fitKept (P := Bank.st) (fun _ => rfl), commitTable,
      bankOf_updBank_other _ hj]
    exact ⟨rfl, rfl⟩

namespace HoldsFit
variable {s u : State} {k : Nat} {f : FitTable} (h : HoldsFit s u k f)
include h

theorem of_eq {v : State} (htables : ∀ j, (bankOf v j).tables = (bankOf u j).tables) (hst : ∀ j, j ≠ k → (bankOf v j).st = (bankOf u j).st) :
    HoldsFit s v k f where
  table := by rw [htables, h.table]
  others j hj := by rw [htables, hst j hj]; exact h.others j hj

theorem updBank {g : Bank → Bank} (hg : ∀ b, (g b).tables = b.tables) : HoldsFit s (updBank u k g) k f :=
  h.of_eq (fun j => view_bankOf_updBank Bank.tables u k j hg) fun j hj => by rw [bankOf_updBank_other _ hj]

theorem loadTable : HoldsFit s (loadTable u k) k f := h.of_eq (tables_bankOf_loadTable u k) fun j _ => st_bankOf_loadTable u k j

theorem fitEnded : HoldsFit s (fitEnded u k f) k f :=
  h.of_eq (view_bankOf_fitEnded (P := Bank.tables) (fun _ => rfl) u k f) fun j _ => view_bankOf_fitEnded (P := Bank.st) (fun _ => rfl) u k f j

end HoldsFit

theorem holdsFit_calFitted (s : State) (k : Nat) (f : FitTable) : HoldsFit s (calFitted s k f) k f :=
  (((holdsFit_fitKept s k f).updBank (by intro; rfl)).loadTable).fitEnded

theorem holdsFit_calRefitted (s : State) (k : Nat) (f : FitTable) : HoldsFit s (calRefitted s k f) k f :=
  ((holdsFit_fitKept s k f).updBank (by intro; rfl)).fitEnded

theorem holdsFit_refitted (s : State) (k : Nat) (f : FitTable) : HoldsFit s (refitted s k f) k f :=
  (((holdsFit_fitKept s k f).updBank (by intro; rfl)).loadTable).fitEnded

theorem st_bankOf_calFitted (s : State) (k : Nat) (f : FitTable) : (bankOf (calFitted s k f) k).st = .standby := by
  rw [calFitted, view_bankOf_fitEnded (P := Bank.st) (fun _ => rfl), st_bankOf_loadTable, bankOf_updBank_same]

theorem st_bankOf_refitted (s : State) (k : Nat) (f : FitTable) : (bankOf (refitted s k f) k).st = .inService := by
  rw [refitted, view_bankOf_fitEnded (P := Bank.st) (fun _ => rfl), st_bankOf_loadTable, bankOf_updBank_same]

theorem fitting_bankOf_refitted (s : State) (k : Nat) (f : FitTable) : (bankOf (refitted s k f) k).fitting = false := by
  rw [refitted, view_bankOf_fitEnded (P := Bank.fitting) (fun _ => rfl), fitting_bankOf_loadTable, bankOf_updBank_same]

theorem calInPlace_bankOf_calRefitted (s : State) (k : Nat) (f : FitTable) : (bankOf (calRefitted s k f) k).calInPlace = false := by
  rw [calRefitted, view_bankOf_fitEnded (P := Bank.calInPlace) (fun _ => rfl), bankOf_updBank_same]

theorem newTable_bankOf_calRefitted (s : State) (k : Nat) (f : FitTable) : (bankOf (calRefitted s k f) k).newTable = true := by
  rw [calRefitted, view_bankOf_fitEnded (P := Bank.newTable) (fun _ => rfl), bankOf_updBank_same]

/-- What neither the books nor the tables nor the marks of a calibration in service tell, such a calibration leaves of every bank. -/
theorem view_bankOf_calRefitted {α : Type} {P : Bank → α} (hP : ∀ b, P b.unbooked = P b) (htables : ∀ b m, P { b with tables := m } = P b)
    (hmarks : ∀ b, P { b with calInPlace := false, newTable := true } = P b) (s : State) (k : Nat) (f : FitTable) (j : Nat) :
    P (bankOf (calRefitted s k f) j) = P (bankOf s j) := by
  rw [calRefitted, view_bankOf_fitEnded hP, view_bankOf_updBank P _ _ _ hmarks, view_bankOf_fitKept hP, commitTable,
    view_bankOf_updBank P _ _ _ fun b => htables b _]

theorem fitOk_of_corrected {f : FitTable} (h : f.cols.contains noCorrection = false) : fitOk (some f) = some f := by
  rw [fitOk, h, if_neg Bool.false_ne_true]

/-! ### CAL_FIT_DONE and CAL_TIMEOUT -/

section
variable {s : State} {t a b : Nat} (hb : badBank t a b = false)
include hb

theorem exec_calFitDone_of_calibrating {f : FitTable} (hf : f.cols.contains noCorrection = false)
    (hs : (bankOf s (bankKey t a b)).st = .calibrating) (hc : (bankOf s (bankKey t a b)).calInPlace = false) :
    exec (.calFitDone t a b (some f)) s = .next (calFitted s (bankKey t a b) f) := by
  change execCalFitDone t a b (some f) s = _
  simp only [execCalFitDone, hb, hs, hc, fitOk_of_corrected hf, ne_eq, not_true_eq_false, false_and, if_false, Bool.false_eq_true]
  rfl

theorem exec_calFitDone_of_inPlace {f : FitTable} (hf : f.cols.contains noCorrection = false)
    (hc : (bankOf s (bankKey t a b)).calInPlace = true) :
    exec (.calFitDone t a b (some f)) s = .next (calRefitted s (bankKey t a b) f) := by
  change execCalFitDone t a b (some f) s = _
  simp only [execCalFitDone, hb, hc, fitOk_of_corrected hf, Bool.true_eq_false, and_false, if_false, if_true, Bool.false_eq_true]
  rfl

/-- A calibration that fails or is not complete in time is given up, and a failed fit is counted. -/
theorem exec_of_cal_fails {c : Instr} (hc : c = .calFitDone t a b none ∨ c = .calTimeout t a b)
    (hrun : (bankOf s (bankKey t a b)).st = .calibrating ∨ (bankOf s (bankKey t a b)).calInPlace = true) :
    ∃ v reason n, exec c s = .next (placerPump (calAbort v (bankKey t a b) reason)) ∧
      ∀ j, bankOf v j = if j = bankKey t a b then { bankOf s (bankKey t a b) with fitFails := n } else bankOf s j := by
  obtain rfl | rfl := hc
  · have hruns : ¬((bankOf s (bankKey t a b)).st ≠ .calibrating ∧ (bankOf s (bankKey t a b)).calInPlace = false) := fun h =>
      hrun.elim h.1 (by simp [h.2])
    refine ⟨updBank (kennelEvent s 8 1 t (bankSub a b) 0x0702) (bankKey t a b) fun y => { y with fitFails := y.fitFails + 1 }, 0x0702,
      (bankOf s (bankKey t a b)).fitFails + 1, ?_, fun j => ?_⟩
    · change execCalFitDone t a b none s = _
      simp only [execCalFitDone, hb, if_neg hruns, fitOk, if_false, Bool.false_eq_true]
    · rw [bankOf_updBank, (kennelEvent_only ..).bankOf_eq rfl, (kennelEvent_only ..).bankOf_eq rfl]
  · refine ⟨s, 0x0310, (bankOf s (bankKey t a b)).fitFails, ?_, fun j => ?_⟩
    · change execCalTimeout t a b s = _
      simp only [execCalTimeout, hb, if_false, Bool.false_eq_true]
    · split
      next e => rw [e]
      next => rfl

/-! ### REPAIR_DONE -/

variable (cells slow pulses : Nat) (hs : (bankOf s (bankKey t a b)).st = .repairing)
include hs

theorem exec_repairDone_of_fitting (fit : Option FitTable) (hfit : (bankOf s (bankKey t a b)).fitting = true) :
    exec (.repairDone t a b cells slow pulses fit) s = .next (repairFitted s (bankKey t a b) fit) := by
  change execRepairDone t a b cells slow pulses fit s = _
  simp [execRepairDone, hb, hs, hfit]

theorem exec_repairDone_of_not_fitting (fit : Option FitTable) (hfit : (bankOf s (bankKey t a b)).fitting = false)
    (ho : (bankOf s (bankKey t a b)).openEntry = true) :
    exec (.repairDone t a b cells slow pulses fit) s = .next (if cells = 0 then
      repairFitted (repairVerified s (bankKey t a b) cells slow pulses) (bankKey t a b) fit
    else repairVerified s (bankKey t a b) cells slow pulses) := by
  change execRepairDone t a b cells slow pulses fit s = _
  simp [execRepairDone, hb, hs, hfit, ho]

end

/-- R52: the bank is in service again with its new table. -/
theorem repairFitted_of_fit (s : State) (k : Nat) {f : FitTable} (hf : f.cols.contains noCorrection = false) :
    repairFitted s k (some f) = repairEnded (refitted s k f) k := by
  rw [repairFitted, fitOk_of_corrected hf]
  rfl

/-- R52: a failed fit of a repair is an event of Kennel; the first is counted and started again, the second ends the repair. -/
theorem repairFitted_none (s : State) (k : Nat) : ∃ v, (∀ j, bankOf v j = bankOf s j) ∧ repairFitted s k none =
    if (bankOf s k).fitFails = 0 then startFit (updBank v k fun y => { y with fitFails := 1 }) k else repairLost v k 0x0702 0 :=
  ⟨_, (kennelEvent_only ..).bankOf_eq rfl, rfl⟩

/-! ### DRIFT_PROBE -/

/-- The state in which a probe of bank `b` of array `a` of tile `t` has brought the phase codes `codes` under the table `c` (R77). -/
def driftProbed (s : State) (t a b : Nat) (codes : List (List (BitVec 12))) (c : CalTable) : State :=
  updBank s (bankKey t a b) fun y =>
    if codes.isEmpty then { y with probesSkipped := y.probesSkipped + 1 }
    else { y with
      drift := Nat.min (driftOf (passResults (some c) (latchOf s t).1 probeVector codes) c) 65535, driftTime := tilePowered s t
      refDev := refDevs (passResults (some c) (latchOf s t).1 probeVector codes) probeVector }

theorem exec_driftProbe_of_inService {s : State} {t a b : Nat} {c : CalTable} (codes : List (List (BitVec 12))) (hb : badBank t a b = false)
    (hs : (bankOf s (bankKey t a b)).st = .inService) (hc : curTable (bankOf s (bankKey t a b)) = some c) :
    exec (.driftProbe t a b codes) s = .next (driftProbed s t a b codes c) := by
  change execDriftProbe t a b codes s = _
  simp only [execDriftProbe, hb, hs, hc, if_false, Bool.false_eq_true]
  split <;> simp [driftProbed, *]

/-! ### The events -/

/-- Settles O33, event by event. -/
theorem bankEvents : Obligations.BankEvents := by
  refine ⟨?grant, ?verify, ?repairVerify, ?fit, ?noFit, ?repair, ?probe, ?early⟩
  case grant =>
    intro s e hn hc
    refine ⟨_, exec_vpgmGrant_of_covered hn hc, ?_, fun k hk => ?_, fun k hk => bankOf_foldl_openProgram_of_mem _ hk⟩
    · exact Only.vpgmWait (m := 0x800000000000200000) (Only.foldl (fun _ _ g => (openProgram_only ..).step rfl g) (Only.refl ..)) rfl
    · exact bankOf_foldl_of_not_mem (fun _ _ _ => bankOf_openProgram_other) _ hk
  case verify =>
    intro s t a b cells slow pulses hb hs ho
    have hexec := exec_bankVerifyDone_of_programming cells slow pulses hb ho hs
    obtain ⟨-, hclosed, hcounted⟩ := cycled_cycleNoted cells slow pulses ho
    refine ⟨fun hz => ?_, fun hz => ?_⟩
    · rw [if_pos hz] at hexec
      refine ⟨_, hexec, ?_, ?_, ?_, fun k hk => ?_⟩
      · rw [bankOf_bankDone_updBank, if_pos rfl]
      · rw [bankOf_bankDone_updBank, if_pos rfl, ← hclosed]
      · rw [bankOf_bankDone_updBank, if_pos rfl, ← hcounted]
      · rw [bankOf_bankDone_updBank, if_neg hk, bankOf_cycleNoted_other _ _ _ hk]
    · rw [if_neg hz] at hexec
      refine ⟨_, hexec, ?_, ?_, fun k hk => ?_⟩
      · rw [bankOf_bankDone_updBank, if_pos rfl]
      · rw [bankOf_bankDone_updBank, if_pos rfl, ← hcounted]
      · rw [bankOf_bankDone_updBank, if_neg hk, bankOf_cycleNoted_other _ _ _ hk]
  case repairVerify =>
    intro s t a b cells slow pulses hb hs ho
    have hexec := exec_bankVerifyDone_of_repairing cells slow pulses hb ho hs
    refine ⟨fun hz => ?_, fun hz => ?_⟩
    · rw [repairVerified_of_passed hz] at hexec
      refine ⟨_, hexec, ?_, (cycled_verifyNoted cells slow pulses ho).st.trans hs, fun k hk => bankOf_verifyNoted_other _ _ _ hk⟩
      rw [bankOf_startFit, if_pos rfl]
    · rw [repairVerified_of_failed hz] at hexec
      refine ⟨_, hexec, ?_, fun k hk => ?_⟩
      · rw [bankOf_repairLost, if_pos rfl]
      · rw [bankOf_repairLost, if_neg hk, bankOf_verifyNoted_other _ _ _ hk]
  case fit =>
    intro s t a b f hb hf
    refine ⟨fun hs hc => ?_, fun hc => ?_⟩
    · have hholds := holdsFit_calFitted s (bankKey t a b) f
      exact ⟨_, exec_calFitDone_of_calibrating hb hf hs hc, st_bankOf_calFitted .., hholds.table, hholds.others⟩
    · have hholds := holdsFit_calRefitted s (bankKey t a b) f
      exact ⟨_, exec_calFitDone_of_inPlace hb hf hc,
        view_bankOf_calRefitted (P := Bank.st) (fun _ => rfl) (fun _ _ => rfl) (fun _ => rfl) .., calInPlace_bankOf_calRefitted ..,
        newTable_bankOf_calRefitted .., view_bankOf_calRefitted (P := Bank.cur) (fun _ => rfl) (fun _ _ => rfl) (fun _ => rfl) ..,
        hholds.table, hholds.others⟩
  case noFit =>
    intro s t a b c hb hc
    refine ⟨fun hs => ?_, fun hs hp => ?_⟩
    · obtain ⟨v, reason, n, hexec, hv⟩ := exec_of_cal_fails hb hc (.inl hs)
      have hvk := (hv _).trans (if_pos rfl)
      obtain ⟨m, habort⟩ := bankOf_calAbort_of_calibrating (s := v) reason (by rw [hvk]; exact hs)
      refine ⟨_, hexec, ?_, ?_, fun k hk => ?_⟩
      · rw [habort, hvk]
      · rw [habort, hvk]
      · rw [bankOf_calAbort_other _ hk, hv, if_neg hk]
    · obtain ⟨v, reason, n, hexec, hv⟩ := exec_of_cal_fails hb hc (.inr hp)
      have hvk := (hv _).trans (if_pos rfl)
      have habort := bankOf_calAbort_of_inPlace (s := v) (k := bankKey t a b) reason (by rw [hvk]; simp [hs]) (by rw [hvk]; exact hp)
      refine ⟨_, hexec, ?_, ?_, ?_, fun k hk => ?_⟩
      · rw [habort, hvk]
        exact hs
      · rw [habort]
      · rw [habort, hvk]
      · rw [bankOf_calAbort_other _ hk, hv, if_neg hk]
  case repair =>
    intro s t a b cells slow pulses hb hs hfit
    have hexec := fun fit => exec_repairDone_of_fitting hb cells slow pulses hs fit hfit
    obtain ⟨v, hv, hnone⟩ := repairFitted_none s (bankKey t a b)
    refine ⟨fun f hf => ?_, fun hz => ?_, fun hz => ?_⟩
    · have hbank := (repairEnded_only (refitted s (bankKey t a b) f) (bankKey t a b)).bankOf_eq rfl
      have hholds := (holdsFit_refitted s (bankKey t a b) f).of_eq (fun j => congrArg Bank.tables (hbank j)) fun j _ => congrArg Bank.st (hbank j)
      refine ⟨_, (hexec _).trans (congrArg _ (repairFitted_of_fit s _ hf)), ?_, ?_, hholds.table, hholds.others⟩
      · rw [hbank, st_bankOf_refitted]
      · rw [hbank, fitting_bankOf_refitted]
    · rw [if_pos hz] at hnone
      refine ⟨_, (hexec none).trans (congrArg _ hnone), ?_, ?_, ?_, fun k hk => ?_⟩
      · rw [bankOf_startFit, if_pos rfl, bankOf_updBank_same, hv]
        exact hs
      · rw [bankOf_startFit, if_pos rfl]
      · rw [bankOf_startFit, if_pos rfl, bankOf_updBank_same]
      · rw [bankOf_startFit, if_neg hk, bankOf_updBank_other _ hk, hv]
    · rw [if_neg hz] at hnone
      refine ⟨_, (hexec none).trans (congrArg _ hnone), ?_, fun k hk => ?_⟩
      · rw [bankOf_repairLost, if_pos rfl]
      · rw [bankOf_repairLost, if_neg hk, hv]
  case probe =>
    intro s t a b codes c hb hs hc
    refine ⟨_, exec_driftProbe_of_inService codes hb hs hc, fun k hk => bankOf_updBank_other _ hk, fun hz => ?_, fun hz => ?_⟩
    · rw [driftProbed, bankOf_updBank_same, if_pos (by simp [hz])]
    · rw [driftProbed, bankOf_updBank_same, if_neg (by simp [hz])]
      exact ⟨rfl, rfl, hs⟩
  case early =>
    intro s t a b cells slow pulses fit hb hs hfit ho
    refine ⟨_, exec_bankVerifyDone_of_repairing cells slow pulses hb ho hs, ?_⟩
    rw [exec_repairDone_of_not_fitting hb cells slow pulses hs fit hfit ho]
    split
    next hz =>
      obtain ⟨hst, -, -⟩ := cycled_verifyNoted cells slow pulses ho
      rw [repairVerified_of_passed hz]
      refine (exec_repairDone_of_fitting hb cells slow pulses ?_ fit ?_).symm
      · rw [bankOf_startFit, if_pos rfl]
        exact hst.trans hs
      · rw [bankOf_startFit, if_pos rfl]
    next => rfl

end Sys2Proof.Machine
end

section
/-! SUPPORT. QUERY on banks (R36, R66, R84, R199): what it stores for each selected bank, and that the banks stay as they are. -/
namespace Sys2Proof.Machine

/-! ### What a query stores for a bank -/

/-- R66, R68: the record that QUERY stores of the table of `band` of bank `k`, one that holds no table where the bank has none. -/
def bandRecord (s : State) (band k : Nat) : List Byte :=
  match FMap.find (bankOf s k).tables band with
  | some c => tableRecord k c (tableValid (bankOf s k) c)
  | none => tableRecord k noTable false

/-- R52: a table is not valid while its bank is being programmed. -/
theorem tableValid_and_not_programming (b : Bank) (c : CalTable) : (tableValid b c && b.st != .programming) = tableValid b c := by
  cases hb : b.st != .programming <;> simp [tableValid, hb]

theorem bandRecord_of_find {s : State} {band k : Nat} {c : CalTable} (h : FMap.find (bankOf s k).tables band = some c) :
    bandRecord s band k = tableRecord k c (tableValid (bankOf s k) c && (bankOf s k).st != .programming) := by
  rw [bandRecord, h, tableValid_and_not_programming]

theorem bandRecord_of_not_find {s : State} {band k : Nat} (h : FMap.find (bankOf s k).tables band = none) :
    bandRecord s band k = tableRecord k noTable false := by
  rw [bandRecord, h]

/-- R36, R199: the column sum `j` that QUERY stores of a bank, 0x8000 where the bank holds no verified programming. -/
def storedSum (b : Bank) (j : Nat) : Nat := if holdsSums b then ofSigned 16 (b.sums.getD j 0) else 0x8000

/-- R36: the column sums that QUERY stores of a bank, two bytes each. -/
def sumRecord (b : Bank) : List Byte := (List.range 1040).flatMap fun j => leBytes 2 (storedSum b j)

theorem length_leBytes (n v : Nat) : (leBytes n v).length = n := by
  induction n generalizing v with
  | zero => rfl
  | succ n ih => rw [leBytes, List.length_cons, ih]

/-- Where every element gives `n` items, those of element `i` begin at item `n * i`. -/
theorem take_drop_flatMap {α β : Type} {f : α → List β} {n : Nat} (hf : ∀ x, (f x).length = n) {l : List α} {i : Nat} (hi : i < l.length) :
    ((l.flatMap f).drop (n * i)).take n = f l[i] := by
  induction l generalizing i with
  | nil => exact absurd hi (Nat.not_lt_zero i)
  | cons x l ih =>
    rw [List.flatMap_cons]
    cases i with
    | zero => simp [List.take_left' (hf x)]
    | succ i =>
      rw [Nat.mul_succ, Nat.add_comm, ← List.drop_drop, List.drop_left' (hf x)]
      exact ih (Nat.lt_of_succ_lt_succ hi)

theorem take_drop_sumRecord (b : Bank) {j : Nat} (hj : j < 1040) : ((sumRecord b).drop (2 * j)).take 2 = leBytes 2 (storedSum b j) := by
  rw [sumRecord, take_drop_flatMap (fun _ => length_leBytes ..) (by rwa [List.length_range]), List.getElem_range]

theorem getD_map_of_getElem? {α β : Type} {l : List α} {i : Nat} {x : α} (f : α → β) (d : β) (h : l[i]? = some x) :
    (l.map f).getD i d = f x := by
  rw [List.getD_eq_getElem?_getD, List.getElem?_map, h, Option.map_some, Option.getD_some]

/-! ### The three queries -/

section
variable {s : State} {q w : Nat} {r : RunList} (h : Reached s q 0x46 r w)
include h

theorem exec_queryWear_of_reached (hw : fld w 146 145 = 0) : exec (.queryWear q) s =
    .next (turnOver (completeCmd s q ((picked s q w).map fun k => BitVec.ofNat 256 (wearRecord (bankOf s k)))) q r.pos) := by
  change execQueryWear q s = _
  rw [execQueryWear, withCommand_of_reached h, if_neg (not_not_intro hw)]

theorem exec_queryTable_of_reached (hw : fld w 146 145 = 1) : exec (.queryTable q) s =
    .next (turnOver (completeCmd (writeAt s (qPart q) (fld w 140 93) 16384 ((picked s q w).map (bandRecord s (fld w 144 141)))) q []) q r.pos) := by
  change execQueryTable q s = _
  rw [execQueryTable, withCommand_of_reached h, if_neg (not_not_intro hw)]
  rfl

theorem exec_queryColsums_of_reached (hw : fld w 146 145 = 2) : exec (.queryColsums q) s =
    .next (turnOver (completeCmd (writeAt s (qPart q) (fld w 140 93) 4096 ((picked s q w).map fun k => sumRecord (bankOf s k))) q []) q r.pos) := by
  change execQueryColsums q s = _
  rw [execQueryColsums, withCommand_of_reached h, if_neg (not_not_intro hw)]
  rfl

end

/-- Settles O32, query by query. -/
theorem bankQueries : Obligations.BankQueries := by
  refine ⟨fun q s r w h hw => exec_queryWear_of_reached h hw, ?table, ?sums⟩
  case table =>
    intro q s r w h hw
    refine ⟨_, _, exec_queryTable_of_reached h hw, rfl, (writeAt_only ..).banks rfl, List.length_map .., fun i k hk => ?_⟩
    rw [getD_map_of_getElem? _ _ hk]
    exact ⟨fun c hc => bandRecord_of_find hc, bandRecord_of_not_find⟩
  case sums =>
    intro q s r w h hw
    refine ⟨_, _, exec_queryColsums_of_reached h hw, rfl, (writeAt_only ..).banks rfl, List.length_map .., fun i k j hk hj => ?_⟩
    rw [getD_map_of_getElem? _ _ hk, take_drop_sumRecord _ hj, storedSum]

end Sys2Proof.Machine
end

section
/-! SUPPORT. Goodness along a step, and the tick of the module reference with no command waiting (R141, R145, R219, R328, R344, R403, R408, R475,
R477). -/
namespace Sys2Proof.Machine

/-! ### Good states -/

/-- Settles O3: every memory and every bounded store is empty after reset. -/
theorem resetIsGood : Obligations.ResetIsGood where
  sp := rfl
  hbm := rfl
  acc := rfl
  sync := rfl
  log := Nat.zero_le _
  uploads := Nat.zero_le _
  captures := Nat.zero_le _
  verdicts := Nat.zero_le _

theorem KeepsO.of_untouched {m : Nat} {s : State} {o : Host.Outcome State Fault Refusal} (h : OnlyO m s o) (w : m &&& goodMask = 0) :
    KeepsO s o := .of_only h w (.refl s)

theorem setPending_keeps (s : State) (l : List Instr) : Keeps s { s with pending := l } :=
  .of_only (Only.set_pending (m := 1) rfl (.refl ..) l) rfl (.refl s)

/-- Arm by arm of the dispatcher: a command that leaves every field of goodness alone keeps it by its frame, another by its own law. -/
theorem exec_keeps (i : Instr) (s : State) : KeepsO s (exec i s) :=
  match i with
  | .commandListSubmit .. => .of_untouched (execCommandListSubmit_only _ _ _ _) rfl
  | .listDispatch .. => .of_untouched (execListDispatch_only _ _) rfl
  | .wait .. => execWait_keeps ..
  | .signalAdd .. => execSignalAdd_keeps ..
  | .signalSet .. => execSignalSet_keeps ..
  | .step .. => execStep_keeps ..
  | .seqopen .. => execSeqopen_keeps ..
  | .seqclose .. => execSeqclose_keeps ..
  | .cancel .. => execCancel_keeps ..
  | .xfer .. => execXfer_keeps ..
  | .stage .. => execStage_keeps ..
  | .chkptSave .. => execChkptSave_keeps ..
  | .chkptRestore .. => execChkptRestore_keeps ..
  | .palloc .. => execPalloc_keeps ..
  | .pfree .. => execPfree_keeps ..
  | .ptedit .. => execPtedit_keeps ..
  | .pshare .. => execPshare_keeps ..
  | .sparam .. => execSparam_keeps ..
  | .skey .. => execSkey_keeps ..
  | .ssrc .. => execSsrc_keeps ..
  | .program .. => execProgram_keeps ..
  | .calibrate .. => execCalibrate_keeps ..
  | .swap .. => execSwap_keeps ..
  | .disarm .. => execDisarm_keeps ..
  | .refresh .. => execRefresh_keeps ..
  | .retire .. => execRetire_keeps ..
  | .queryWear .. => execQueryWear_keeps ..
  | .queryTable .. => execQueryTable_keeps ..
  | .queryColsums .. => execQueryColsums_keeps ..
  | .wopen .. => execWopen_keeps ..
  | .wclose .. => execWclose_keeps ..
  | .rwrite .. => execRwrite_keeps ..
  | .dbgrel .. => execDbgrel_keeps ..
  | .dbgrd .. => execDbgrd_keeps ..
  | .read .. => .of_untouched (execRead_only _ _ _ _) rfl
  | .write .. => execWrite_keeps ..
  | .describe .. => .of_untouched (execDescribe_only _ _ _ _) rfl
  | .list .. => .of_untouched (execList_only _ _ _ _ _) rfl
  | .ackattn .. => execAckattn_keeps ..
  | .evcomplete .. => .of_untouched (execEvcomplete_only _ _ _ _) rfl
  | .load .. => execLoad_keeps ..
  | .loadComplete .. => execLoadComplete_keeps ..
  | .unload .. => execUnload_keeps ..
  | .restart .. => execRestart_keeps ..
  | .replaceTile .. => execReplaceTile_keeps ..
  | .replaceUnhealthy .. => execReplaceUnhealthy_keeps ..
  | .replaceTrigger .. => execReplaceTrigger_keeps ..
  | .replaceComplete .. => execReplaceComplete_keeps ..
  | .promote .. => execPromote_keeps ..
  | .mcarmNumeric .. => .of_untouched (execMcarmNumeric_only _ _ _ _ _) rfl
  | .mcarmBand .. => .of_untouched (execMcarmBand_only _ _ _ _ _) rfl
  | .mcarmPower .. => .of_untouched (execMcarmPower_only _ _ _ _) rfl
  | .mcArmed => .of_untouched (execMcArmed_only _) rfl
  | .mcArmTimeout => execMcArmTimeout_keeps ..
  | .mcHoldTimeout => execMcHoldTimeout_keeps ..
  | .mcapply .. => .of_untouched (execMcapply_only _ _ _ _) rfl
  | .mcApplyEpoch .. => .of_untouched (execMcApplyEpoch_only _ _) rfl
  | .mcConfirmEnd => execMcConfirmEnd_keeps ..
  | .mcabort .. => execMcabort_keeps ..
  | .imgbegin .. => execImgbegin_keeps ..
  | .imgdata .. => execImgdata_keeps ..
  | .imgend .. => execImgend_keeps ..
  | .imgdelete .. => execImgdelete_keeps ..
  | .fwbegin .. => .of_untouched (execFwbegin_only _ _ _ _) rfl
  | .fwdata .. => .of_untouched (execFwdata_only _ _ _ _ _) rfl
  | .fwend .. => .of_untouched (execFwend_only _ _ _) rfl
  | .fwactivate .. => execFwactivate_keeps ..
  | .fwSlotSwitched .. => execFwSlotSwitched_keeps ..
  | .fwconfirm .. => .of_untouched (execFwconfirm_only _ _ _) rfl
  | .fwrollback .. => execFwrollback_keeps ..
  | .fwabort .. => .of_untouched (execFwabort_only _ _ _) rfl
  | .fwConfirmTimeout => execFwConfirmTimeout_keeps ..
  | .recover .. => execRecover_keeps ..
  | .selectorWrite .. => execSelectorWrite_keeps ..
  | .partEnableSet .. => execPartEnableSet_keeps ..
  | .enableCheckDone .. => execEnableCheckDone_keeps ..
  | .partEnableClear .. => execPartEnableClear_keeps ..
  | .portEnableSet .. => execPortEnableSet_keeps ..
  | .policyEnableSet .. => execPolicyEnableSet_keeps ..
  | .brickPrepare .. => execBrickPrepare_keeps ..
  | .brickUnprepare .. => execBrickUnprepare_keeps ..
  | .blockRestart .. => execBlockRestart_keeps ..
  | .blockRestartDone .. => execBlockRestartDone_keeps ..
  | .regionReturnRequest .. => execRegionReturnRequest_keeps ..
  | .resume .. => execResume_keeps ..
  | .powerTargetStandby .. => execPowerTargetStandby_keeps ..
  | .powerTargetAttended .. => execPowerTargetAttended_keeps ..
  | .powerTargetReady .. => execPowerTargetReady_keeps ..
  | .unitReinstate .. => execUnitReinstate_keeps ..
  | .ftestRequestLight .. => execFtestRequestLight_keeps ..
  | .ftestRequestFull .. => execFtestRequestFull_keeps ..
  | .cardPrepare .. => execCardPrepare_keeps ..
  | .evConfigWrite .. => execEvConfigWrite_keeps ..
  | .evOverrunClear .. => execEvOverrunClear_keeps ..
  | .evSense .. => .of_untouched (execEvSense_only _ _) rfl
  | .evTake .. => execEvTake_keeps ..
  | .attnFrameSend => .of_untouched (execAttnFrameSend_only _) rfl
  | .stepLaunch .. => .of_untouched (execStepLaunch_only _ _) rfl
  | .nop .. => execNop_keeps ..
  | .endCmd .. => execEndCmd_keeps ..
  | .tstep .. => execTstep_keeps ..
  | .waitf .. => execWaitf_keeps ..
  | .fence .. => execFence_keeps ..
  | .syncSignal .. => execSyncSignal_keeps ..
  | .syncWait .. => execSyncWait_keeps ..
  | .brk .. => execBrk_keeps ..
  | .evalA4 .. => execEvalA4_keeps ..
  | .evalA8 .. => execEvalA8_keeps ..
  | .evalResultWrite .. => execEvalResultWrite_keeps ..
  | .scl .. => execScl_keeps ..
  | .tmm .. => execTmm_keeps ..
  | .tmmResultWrite .. => execTmmResultWrite_keeps ..
  | .vewAdd .. => execVewAdd_keeps ..
  | .vewSub .. => execVewSub_keeps ..
  | .vewMul .. => execVewMul_keeps ..
  | .vewFma .. => execVewFma_keeps ..
  | .vewDiv .. => execVewDiv_keeps ..
  | .vewMax .. => execVewMax_keeps ..
  | .vewMin .. => execVewMin_keeps ..
  | .vewSqrt .. => execVewSqrt_keeps ..
  | .vewRsqrt .. => execVewRsqrt_keeps ..
  | .vewRecip .. => execVewRecip_keeps ..
  | .vewExp2 .. => execVewExp2_keeps ..
  | .vewLog2 .. => execVewLog2_keeps ..
  | .vewExp .. => execVewExp_keeps ..
  | .vewLog .. => execVewLog_keeps ..
  | .vewSin .. => execVewSin_keeps ..
  | .vewCos .. => execVewCos_keeps ..
  | .vewTanh .. => execVewTanh_keeps ..
  | .vewSigmoid .. => execVewSigmoid_keeps ..
  | .vewSilu .. => execVewSilu_keeps ..
  | .vewGelu .. => execVewGelu_keeps ..
  | .vewRotary .. => execVewRotary_keeps ..
  | .vewToBf16 .. => execVewToBf16_keeps ..
  | .vewToFp32 .. => execVewToFp32_keeps ..
  | .vewMulScalar .. => execVewMulScalar_keeps ..
  | .vewAddScalar .. => execVewAddScalar_keeps ..
  | .vredSum .. => execVredSum_keeps ..
  | .vredSumSquares .. => execVredSumSquares_keeps ..
  | .vredMax .. => execVredMax_keeps ..
  | .vredMin .. => execVredMin_keeps ..
  | .vsmx .. => execVsmx_keeps ..
  | .qnt .. => execQnt_keeps ..
  | .guardRepeatStart .. => execGuardRepeatStart_keeps ..
  | .topkSelect .. => execTopkSelect_keeps ..
  | .topkMerge .. => execTopkMerge_keeps ..
  | .fill .. => execFill_keeps ..
  | .copy .. => execCopy_keeps ..
  | .send .. => execSend_keeps ..
  | .sendArrive .. => execSendArrive_keeps ..
  | .rdcSum .. => execRdcSum_keeps ..
  | .rdcTopk .. => execRdcTopk_keeps ..
  | .reductionOperandArrive .. => execReductionOperandArrive_keeps ..
  | .reductionResultArrive .. => execReductionResultArrive_keeps ..
  | .kvrd .. => execKvrd_keeps ..
  | .kvrdComplete .. => execKvrdComplete_keeps ..
  | .kvap .. => execKvap_keeps ..
  | .pcallChain .. => execPcallChain_keeps ..
  | .retrieverCallDone .. => execRetrieverCallDone_keeps ..
  | .pcallPageAlloc .. => execPcallPageAlloc_keeps ..
  | .allocCopyDone .. => execAllocCopyDone_keeps ..
  | .ringFillDone .. => execRingFillDone_keeps ..
  | .samplerTree .. => execSamplerTree_keeps ..
  | .samplerAccept .. => execSamplerAccept_keeps ..
  | .samplerPublish .. => execSamplerPublish_keeps ..
  | .acceptMissing .. => execAcceptMissing_keeps ..
  | .stepBoundary .. => execStepBoundary_keeps ..
  | .tswapEnd .. => execTswapEnd_keeps ..
  | .bandTableLoadDone .. => execBandTableLoadDone_keeps ..
  | .tempLatchTick .. => execTempLatchTick_keeps ..
  | .tileLate .. => execTileLate_keeps ..
  | .stallNotice .. => .of_untouched (execStallNotice_only _ _ _) rfl
  | .resumeNotice .. => .of_untouched (execResumeNotice_only _ _ _ _) rfl
  | .stallLimitExpire .. => execStallLimitExpire_keeps ..
  | .cancelNoticeTile .. => .of_untouched (execCancelNoticeTile_only _ _ _) rfl
  | .cancelRecorded .. => execCancelRecorded_keeps ..
  | .scrubLine .. => execScrubLine_keeps ..
  | .bankVerifyDone .. => execBankVerifyDone_keeps ..
  | .vpgmGrant => .of_untouched (execVpgmGrant_only _) rfl
  | .calFitDone .. => execCalFitDone_keeps ..
  | .calTimeout .. => execCalTimeout_keeps ..
  | .repairDone .. => execRepairDone_keeps ..
  | .driftProbe .. => .of_untouched (execDriftProbe_only _ _ _ _ _) rfl
  | .schedulerEval => execSchedulerEval_keeps ..
  | .captureDrain .. => execCaptureDrain_keeps ..
  | .arbitrationStart => execArbitrationStart_keeps ..
  | .arbitrationVerdict .. => execArbitrationVerdict_keeps ..
  | .kennelBlockCommit => .of_untouched (execKennelBlockCommit_only _) rfl
  | .kennelSuspectExpire .. => .of_untouched (execKennelSuspectExpire_only _ _ _ _) rfl
  | .ftestLightDue .. => .of_untouched (execFtestLightDue_only _ _) rfl
  | .ftestFullDue .. => .of_untouched (execFtestFullDue_only _ _) rfl
  | .ftestDone .. => execFtestDone_keeps ..
  | .flitCrcError .. => execFlitCrcError_keeps ..
  | .routerFail .. => execRouterFail_keeps ..
  | .referenceFail .. => execReferenceFail_keeps ..
  | .hubLinkDieFail .. => execHubLinkDieFail_keeps ..
  | .hbmPatrol .. => execHbmPatrol_keeps ..
  | .stackTempSample .. => execStackTempSample_keeps ..
  | .frameReceive .. => execFrameReceive_keeps ..
  | .brolerOpen .. => .of_untouched (execBrolerOpen_only _ _) rfl
  | .brolerChallenge => .of_untouched (execBrolerChallenge_only _) rfl
  | .brolerProve => execBrolerProve_keeps ..
  | .brolerAccept .. => execBrolerAccept_keeps ..
  | .brolerRefuse => execBrolerRefuse_keeps ..
  | .proveTimeout .. => execProveTimeout_keeps ..
  | .brolerClose => .of_untouched (execBrolerClose_only _) rfl
  | .closingDone .. => execClosingDone_keeps ..
  | .brolerKeepalive => .of_untouched (execBrolerKeepalive_only _) rfl
  | .keepaliveSend .. => .of_untouched (execKeepaliveSend_only _ _) rfl
  | .brolerAckf => .of_untouched (execBrolerAckf_only _) rfl
  | .ackDelay .. => .of_untouched (execAckDelay_only _ _ _) rfl
  | .retransmitTimeout .. => execRetransmitTimeout_keeps ..
  | .sessionLoss .. => execSessionLoss_keeps ..
  | .brolerMsg => execBrolerMsg_keeps ..
  | .brolerWrite => execBrolerWrite_keeps ..
  | .writeLanded .. => execWriteLanded_keeps ..
  | .brolerWack => execBrolerWack_keeps ..
  | .brolerWnak => execBrolerWnak_keeps ..
  | .brolerContrib => execBrolerContrib_keeps ..
  | .exportTrigger .. => execExportTrigger_keeps ..
  | .pfcFrame .. => .of_untouched (execPfcFrame_only _ _ _) rfl
  | .neighborSolicitation .. => .of_untouched (execNeighborSolicitation_only _ _ _) rfl
  | .echoRequest .. => .of_untouched (execEchoRequest_only _ _ _ _) rfl
  | .osfpInsert .. => execOsfpInsert_keeps ..
  | .osfpRemove .. => .of_untouched (execOsfpRemove_only _ _) rfl
  | .portLinkChange .. => .of_untouched (execPortLinkChange_only _ _ _) rfl
  | .portElecFault .. => execPortElecFault_keeps ..
  | .join .. => execJoin_keeps ..
  | .joinTimeout .. => .of_untouched (execJoinTimeout_only _ _) rfl
  | .stepgo .. => execStepgo_keeps ..
  | .masks .. => execMasks_keeps ..
  | .groupCommit .. => execGroupCommit_keeps ..
  | .committed .. => execCommitted_keeps ..
  | .boundary .. => .of_untouched (execBoundary_only _ _ _ _) rfl
  | .boundaryAck .. => execBoundaryAck_keeps ..
  | .confirm .. => execConfirm_keeps ..
  | .cancelForward .. => .of_untouched (execCancelForward_only _ _ _) rfl
  | .groupMasking .. => execGroupMasking_keeps ..
  | .windowAnnounce .. => .of_untouched (execWindowAnnounce_only _ _ _ _ _) rfl
  | .masterlost .. => .of_untouched (execMasterlost_only _ _) rfl
  | .backupPromote .. => execBackupPromote_keeps ..
  | .newmaster .. => execNewmaster_keeps ..
  | .feedStateChange .. => execFeedStateChange_keeps ..
  | .feedUsable .. => execFeedUsable_keeps ..
  | .feedReturnPreferred .. => .of_untouched (execFeedReturnPreferred_only _ _) rfl
  | .brickFault .. => execBrickFault_keeps ..
  | .brickInsert .. => .of_untouched (execBrickInsert_only _ _) rfl
  | .brickRemove .. => execBrickRemove_keeps ..
  | .brickStartDone .. => .of_untouched (execBrickStartDone_only _ _) rfl
  | .brickShedDone .. => execBrickShedDone_keeps ..
  | .dropshareSample .. => execDropshareSample_keeps ..
  | .governorRegionTick .. => execGovernorRegionTick_keeps ..
  | .governorModuleTick .. => .of_untouched (execGovernorModuleTick_only _ _ _ _ _) rfl
  | .windowBoundary => .of_untouched (execWindowBoundary_only _) rfl
  | .thermalModelTick .. => .of_untouched (execThermalModelTick_only _ _) rfl
  | .hotspotSample .. => execHotspotSample_keeps ..
  | .regionReturn .. => execRegionReturn_keeps ..
  | .coolantSample .. => execCoolantSample_keeps ..
  | .coolantRecovered => execCoolantRecovered_keeps ..
  | .holdExpire => .of_untouched (execHoldExpire_only _) rfl
  | .leakWet .. => execLeakWet_keeps ..
  | .leakLoopBreak .. => execLeakLoopBreak_keeps ..
  | .alarmInput => execAlarmInput_keeps ..
  | .standbySupplyAppear => execStandbySupplyAppear_keeps ..
  | .sheepdogSample .. => execSheepdogSample_keeps ..
  | .wakeEvent .. => execWakeEvent_keeps ..
  | .scheduledWake => execScheduledWake_keeps ..
  | .mgmtOpenWake .. => execMgmtOpenWake_keeps ..
  | .retentionWake => execRetentionWake_keeps ..
  | .wakeGateOpen => execWakeGateOpen_keeps ..
  | .wakeGateTimeout => execWakeGateTimeout_keeps ..
  | .attendedIdleTimeout => execAttendedIdleTimeout_keeps ..
  | .powerOnStepDone .. => execPowerOnStepDone_keeps ..
  | .powerOnStepOverrun .. => execPowerOnStepOverrun_keeps ..
  | .stopLimitExpire => execStopLimitExpire_keeps ..
  | .stopStepsDrained => .of_untouched (execStopStepsDrained_only _) rfl
  | .preservationDone .. => .of_untouched (execPreservationDone_only _ _) rfl
  | .stopRecordsDone => execStopRecordsDone_keeps ..
  | .powerLoss => execPowerLoss_keeps ..
  | .shutdownStamp .. => .of_untouched (execShutdownStamp_only _ _ _) rfl
  | .busDepleted => .of_untouched (execBusDepleted_only _) rfl
  | .cardFault .. => execCardFault_keeps ..
  | .cardBootFail .. => execCardBootFail_keeps ..
  | .cardInsert .. => .of_untouched (execCardInsert_only _ _) rfl
  | .cardSyncDone .. => .of_untouched (execCardSyncDone_only _ _) rfl
  | .recoveryRelease => execRecoveryRelease_keeps ..
  | .evProcessorComplete .. => .of_untouched (execEvProcessorComplete_only _ _) rfl
  | .mcArmUnitFail .. => execMcArmUnitFail_keeps ..
  | .memoryBridgeFail .. => execMemoryBridgeFail_keeps ..
  | .neighborAdvertisement .. => .of_untouched (execNeighborAdvertisement_only _ _ _ _) rfl
  | .pfcPauseExpire .. => .of_untouched (execPfcPauseExpire_only _ _ _) rfl
  | .leakDry .. => .of_untouched (execLeakDry_only _ _) rfl
  | .alarmInputOpen => .of_untouched (execAlarmInputOpen_only _) rfl
  | .cardRemove .. => .of_untouched (execCardRemove_only _ _) rfl
  | .testAccessPortClock .. => .of_untouched (execTestAccessPortClock_only _ _ _ _ _) rfl
  | .rtcStoreExhausted => .of_untouched (execRtcStoreExhausted_only _) rfl
  | .mgmtPortLinkChange .. => .of_untouched (execMgmtPortLinkChange_only _ _ _) rfl

/-- Settles O4: an idle step is a tick, and any other is the command at the front, run on the state with the rest of the queue. -/
theorem stepKeepsGood : Obligations.StepKeepsGood := by
  intro s t good hstep
  rw [step] at hstep
  split at hstep
  next =>
    cases hstep
    exact (tick_keeps s).good good
  next c rest _ => exact (((exec_keeps c _).next_good t hstep).step (setPending_keeps s rest)).good good

/-! ### The tick of an idle step -/

theorem step_of_idle {s : State} (h : s.pending = []) : step s = .next (tick s) := by rw [step, h]

/-- Past the count and the step clocks a tick does at most what the end of a copy and the start of an orderly stop do. -/
theorem tick_only_after_count (s : State) :
    Only 0xe0080100000000200074c90 { s with refTicks := s.refTicks + 1, tiles := tickTiles s } (tick s) := by
  have copied : Only 0xe0080100000000200074c90 { s with refTicks := s.refTicks + 1, tiles := tickTiles s }
      ((List.range 16).foldl copiesEnd { s with refTicks := s.refTicks + 1, tiles := tickTiles s }) :=
    Only.foldl (fun t p => (copiesEnd_only t p).step rfl) (Only.refl _ _)
  have judged := Only.ite (c := (s.queues.any fun e => e.2.running.any fun r => r.begun && r.aux == copyMark) = true) copied (Only.refl _ _)
  exact Only.ite ((beginStop_only _ 1).step rfl judged) judged

theorem refreshOver_eq_false {s : State} (h : s.life.refresh = false) : refreshOver s = false := by simp [refreshOver, h]

theorem tick_of_quiet {s : State} (hr : s.life.refresh = false)
    (hc : (s.queues.any fun e => e.2.running.any fun r => r.begun && r.aux == copyMark) = false) :
    tick s = { s with refTicks := s.refTicks + 1, tiles := tickTiles s } := by
  have notDue : refreshOver { s with refTicks := s.refTicks + 1, tiles := tickTiles s } = false := refreshOver_eq_false hr
  simp only [tick, hc, notDue, Bool.false_eq_true, if_false]

/-- Settles O2: an idle step is a tick, whose frame holds every field named but the count; where nothing is copied and no wake is under way it
counts and no more. -/
theorem idleStepTicks : Obligations.IdleStepTicks := by
  refine ⟨fun s idle => ?frame, fun s idle hr hc => ?quiet⟩
  case frame =>
    have h := tick_only_after_count s
    exact ⟨_, step_of_idle idle, h.refTicks rfl, (h.pending rfl).trans idle, h.sp rfl, h.acc rfl, h.hbm rfl, h.banks rfl, h.dict rfl,
      h.kennel rfl, h.ports rfl⟩
  case quiet => rw [step_of_idle idle, tick_of_quiet hr hc]

end Sys2Proof.Machine
end

section
/-! SUPPORT. How a command ends outside a group, and the synchronisation commands (R177, R178, R184, R187, R375). -/
namespace Sys2Proof.Machine

/-! ### The end of a command outside a group -/

theorem forwardCmd_of_not_master {s : State} {p : Nat} (w : Nat) (h : isMaster s p = false) : forwardCmd s p w = s := by
  rw [forwardCmd, h]
  rfl

theorem finish_inr_of_not_master {u : State} {q : Nat} (s : State) (res : List W256) (h : isMaster u (qPart q) = false) :
    finish s q (.inr (u, res)) = completeCmd u q res := by
  unfold finish
  dsimp only
  split
  · rfl
  · rw [forwardCmd_of_not_master _ h]

/-- Settles O13: only a group's master has a command to forward before it completes. -/
theorem finishedCommandOutsideAGroup : Obligations.FinishedCommandOutsideAGroup :=
  fun s _ _ _ res h => ⟨finish_inr_of_not_master s res h, rfl⟩

/-! ### SIGNAL -/

section
variable {s : State} {q w : Nat} {r : RunList} (h : Reached s q 0xF1 r w)
include h

theorem exec_signalAdd_of_sum (hm : bitAt w 149 = false) (hv : syncGet s (qPart q) (fld w 223 214) + fld w 213 150 < 2 ^ 64) :
    exec (.signalAdd q) s = .next (turnOver (completeCmd (syncWrite s (qPart q) (fld w 223 214)
      (syncGet s (qPart q) (fld w 223 214) + fld w 213 150)) q []) q r.pos) := by
  refine (withCommand_of_reached h _).trans ?_
  simp only [hm, Bool.false_eq_true, if_false, syncSum_eq_some hv]

theorem exec_signalAdd_of_overflow (hm : bitAt w 149 = false) (hv : 2 ^ 64 ≤ syncGet s (qPart q) (fld w 223 214) + fld w 213 150) :
    exec (.signalAdd q) s = .next (turnOver (refuseCmd s q 0x0107) q r.pos) := by
  have hsum : syncSum s (qPart q) (fld w 223 214) (fld w 213 150) = none := if_neg (Nat.not_lt.mpr hv)
  refine (withCommand_of_reached h _).trans ?_
  simp only [hm, Bool.false_eq_true, if_false, hsum]

theorem exec_signalSet_of_set (hm : bitAt w 149 = true) :
    exec (.signalSet q) s = .next (turnOver (completeCmd (syncWrite s (qPart q) (fld w 223 214) (fld w 213 150)) q []) q r.pos) := by
  refine (withCommand_of_reached h _).trans ?_
  rw [if_pos hm]

end

theorem syncGet_syncPut_other {s : State} {p n i j : Nat} (v : Nat) (h : i * 1024 + j ≠ p * 1024 + n) :
    syncGet (syncPut s p n v) i j = syncGet s i j := by
  rw [syncGet_syncPut, if_neg h]

/-! ### WAIT -/

section
variable {s : State} {q w : Nat} {r : RunList} (h : Reached s q 0xF0 r w)
include h

theorem exec_wait_of_met (hv : fld w 213 150 ≤ syncGet s (qPart q) (fld w 223 214)) :
    exec (.wait q) s = .next (turnOver (completeCmd s q []) q r.pos) := by
  refine (withCommand_of_reached h _).trans ?_
  rw [if_pos hv]

theorem exec_wait_of_unmet (hv : syncGet s (qPart q) (fld w 223 214) < fld w 213 150) :
    exec (.wait q) s = .next (turnOver (beginCmd s q []) q r.pos) := by
  refine (withCommand_of_reached h _).trans ?_
  rw [if_neg (Nat.not_le.mpr hv)]

end

theorem queue_beginCmd_other {s : State} {q j : Nat} (aux : List Nat) (h : j ≠ q) : queue (beginCmd s q aux) j = queue s j := by
  unfold beginCmd
  split
  · rfl
  · rw [queue_setQueue, if_neg h]

theorem releaseOne_of_met {s : State} {p e : Nat} {r : RunList} (hr : (queue s (p * 8 + e)).running = some r) (hb : r.begun = true)
    (hop : cmdOpcode (r.lst.word r.pos) = 0xF0) (hv : fld (r.lst.word r.pos) 213 150 ≤ syncGet s p (fld (r.lst.word r.pos) 223 214)) :
    releaseOne s p e = advance s (p * 8 + e) [] := by
  rw [releaseOne, hr]
  simp only [hb, hop, hv, beq_self_eq_true, decide_true, Bool.and_self, if_true]

/-- Settles O11: the state of a SIGNAL's write is the one object put, before any WAIT is released. -/
theorem signalsAndWaits : Obligations.SignalsAndWaits := by
  refine ⟨?add, fun q s r w h hm hv => exec_signalAdd_of_overflow h hm hv, ?set, fun q s r w h hv => exec_wait_of_met h hv, ?held,
    fun s p e r hr hb hop hv => releaseOne_of_met hr hb hop hv⟩
  case add =>
    intro q s r w h hm hv
    exact ⟨_, exec_signalAdd_of_sum h hm hv, syncGet_syncPut_same .., fun p n hne => syncGet_syncPut_other _ hne, rfl, rfl⟩
  case set =>
    intro q s r w h hm
    exact ⟨_, exec_signalSet_of_set h hm, syncGet_syncPut_same .., fun p n hne => syncGet_syncPut_other _ hne, rfl, rfl⟩
  case held =>
    intro q s r w h hv
    have hturn := turnOver_only (beginCmd s q []) q r.pos
    refine ⟨_, exec_wait_of_unmet h hv, ?_, (hturn.sync rfl).trans ((beginCmd_only ..).sync rfl), fun j hj => ?_⟩
    · rw [hturn.queue_eq rfl, queue_beginCmd_same [] (atCommand_eq_some h.cmd).1]
    · rw [hturn.queue_eq rfl, queue_beginCmd_other [] hj]

end Sys2Proof.Machine
end

section
/-! SUPPORT. Commands that a step holds to its boundary (R193, R196, R298, R299, R344). -/
namespace Sys2Proof.Machine

/-! ### Which commands are held -/

theorem nowOrHeld_of_step {s : State} {q : Nat} (e : Eff) (ha : stepActive s (qPart q) = true) : nowOrHeld s q none e = holdCmd s q := by
  rw [nowOrHeld, if_pos ha]

theorem pageCmd_of_step {s : State} {q w : Nat} (ha : stepActive s (qPart q) = true) (hw : pageWaits s (qPart q) w = false)
    (hr : pageRefusal s (qPart q) w = none) : pageCmd s q w = holdCmd s q := by
  rw [pageCmd, hw, if_neg Bool.false_ne_true, hr, nowOrHeld_of_step _ ha]

section
variable {s : State} {q w : Nat} {r : RunList}

theorem exec_seqclose_of_step (h : Reached s q 0x03 r w) (ha : stepActive s (qPart q) = true)
    (hx : (seqOf s (qPart q) (fld w 223 192)).isSome = true) (hb : seqBusy s (qPart q) (fld w 223 192) = false) :
    exec (.seqclose q) s = .next (turnOver (holdCmd s q) q r.pos) := by
  have hlive : (seqOf s (qPart q) (fld w 223 192)).isNone = false := by rw [← Option.not_isSome, hx]; rfl
  refine (withCommand_of_reached h _).trans ?_
  simp only [hlive, hb, Bool.false_eq_true, if_false, nowOrHeld_of_step _ ha]

/-- R196, R298: the four page commands are held alike. -/
theorem exec_page_of_step {c : Instr} {op : Nat} (hc : (c, op) ∈ [(.palloc q, 0x20), (.pfree q, 0x21), (.ptedit q, 0x22), (.pshare q, 0x23)])
    (h : Reached s q op r w) (ha : stepActive s (qPart q) = true) (hw : pageWaits s (qPart q) w = false)
    (hr : pageRefusal s (qPart q) w = none) : exec c s = .next (turnOver (holdCmd s q) q r.pos) := by
  have hexec : exec c s = withCommand s q op fun _ w => pageCmd s q w := by
    simp only [List.mem_cons, Prod.mk.injEq, List.not_mem_nil, or_false] at hc
    obtain ⟨rfl, rfl⟩ | ⟨rfl, rfl⟩ | ⟨rfl, rfl⟩ | ⟨rfl, rfl⟩ := hc <;> rfl
  rw [hexec, withCommand_of_reached h, pageCmd_of_step ha hw hr]

theorem exec_chkptRestore_of_step (h : Reached s q 0x12 r w) (ha : stepActive s (qPart q) = true) (hd : bitAt w 223 = true)
    (hx : seqOf s (qPart q) (fld w 222 191) = none) (hl : liveCount s (qPart q) < 65536) :
    exec (.chkptRestore q) s = .next (turnOver (holdCmd s q) q r.pos) := by
  refine (withCommand_of_reached h _).trans ?_
  simp only [hd, ha, hx, Option.isSome_none, Nat.not_le.mpr hl, Bool.false_eq_true, if_true, if_false]

theorem exec_xfer_of_step (h : Reached s q 0x10 r w) (hh : xferHolds s (qPart q) (fld w 175 128) (fld w 127 96) = true)
    (hr : xferRefusal s (qPart q) (fld w 175 128) (fld w 127 96) = none) :
    exec (.xfer q) s = .next (turnOver (holdCmd s q) q r.pos) := by
  refine (withCommand_of_reached h _).trans ?_
  simp only [hh, hr, if_true]

end

/-! ### What holding a command changes -/

theorem queue_holdCmd {s : State} {q : Nat} {r : RunList} (h : (queue s q).running = some r) :
    (queue (holdCmd s q) q).running = some { r with begun := true, aux := [] } := by
  rw [holdCmd, (updPart_only ..).queue_eq rfl, queue_beginCmd_same [] h]

theorem step_holdCmd {s : State} {q : Nat} {k : StepRun} (h : (part s (qPart q)).step = some k) :
    (part (holdCmd s q) (qPart q)).step = some { k with held := k.held ++ [q] } := by
  rw [holdCmd, part_updPart_same, (beginCmd_only ..).part_eq rfl, h]
  rfl

/-- Settles O16: each of the commands is held, and a held command begins and is noted by the step, and nothing else. -/
theorem commandsHeldToTheBoundary : Obligations.CommandsHeldToTheBoundary := by
  intro q op s r w c h ha hc
  have hexec : exec c s = .next (turnOver (holdCmd s q) q r.pos) := by
    obtain ⟨rfl, rfl, hx, hb⟩ | ⟨rfl, rfl, hw, hr⟩ | ⟨rfl, rfl, hw, hr⟩ | ⟨rfl, rfl, hw, hr⟩ | ⟨rfl, rfl, hw, hr⟩ | ⟨rfl, rfl, hd, hx, hl⟩ |
      ⟨rfl, rfl, hh, hr⟩ := hc
    · exact exec_seqclose_of_step h ha hx hb
    · exact exec_page_of_step (by simp) h ha hw hr
    · exact exec_page_of_step (by simp) h ha hw hr
    · exact exec_page_of_step (by simp) h ha hw hr
    · exact exec_page_of_step (by simp) h ha hw hr
    · exact exec_chkptRestore_of_step h ha hd hx hl
    · exact exec_xfer_of_step h hh hr
  obtain ⟨k, hk⟩ := Option.isSome_iff_exists.mp ha
  have hturn := turnOver_only (holdCmd s q) q r.pos
  have hall : Only 0x2C00 s _ := hturn.step rfl ((holdCmd_only ..).mono rfl)
  refine ⟨_, k, hexec, hk, ?_, ?_, hall.seqs rfl, hall.kvSets rfl, hall.sp rfl, hall.hbm rfl⟩
  · rw [hturn.part_eq rfl, step_holdCmd hk]
  · rw [hturn.queue_eq rfl, queue_holdCmd (atCommand_eq_some h.cmd).1]

end Sys2Proof.Machine
end

section
/-! SUPPORT. The debug commands (R163, R201). -/
namespace Sys2Proof.Machine

/-! ### DBGREL -/

theorem FMap.find_map {α : Type} (f : Nat → α → α) (m : FMap α) (k : Nat) :
    FMap.find (m.map fun e => (e.1, f e.1 e.2)) k = (FMap.find m k).map (f k) := by
  induction m with
  | nil => rfl
  | cons e m ih =>
    rw [List.map_cons, FMap.find, FMap.find]
    split
    next h => rw [h, Option.map_some]
    next => exact ih

/-- What a DBGREL of the tile index `pti`, which is tile `tile` of partition `p`, makes of the run of tile `t` (R163, R201). -/
def brkReleased (p pti : Nat) (tile : Option Nat) (t : Nat) (x : TileRun) : TileRun :=
  if x.part = p ∧ x.brk = 1 ∧ (pti = 0xFFF ∨ tile = some t) then { x with brk := 2 } else x

/-- The state in which a DBGREL of partition `p` has released its tiles. -/
def releaseBrks (s : State) (p pti : Nat) : State :=
  { s with tiles := s.tiles.map fun e => (e.1, brkReleased p pti ((ptile (part s p).place pti).map (·.tile)) e.1 e.2) }

/-- The model leaves an entry that is not released as it is. -/
theorem releaseBrks_eq (s : State) (p pti : Nat) : releaseBrks s p pti = { s with tiles := s.tiles.map fun e =>
    if e.2.part = p ∧ e.2.brk = 1 ∧ (pti = 0xFFF ∨ (ptile (part s p).place pti).map (·.tile) = some e.1) then (e.1, { e.2 with brk := 2 })
    else e } := by
  refine congrArg (fun l => { s with tiles := l }) (List.map_congr_left fun e _ => ?_)
  unfold brkReleased
  split <;> rfl

section
variable {s : State} {q w : Nat} {r : RunList}

theorem exec_dbgrel_of_debug (h : Reached s q 0x70 r w) (hd : debugOn s (qPart q) = true) :
    exec (.dbgrel q) s = .next (turnOver (completeCmd (releaseBrks s (qPart q) (fld w 223 212)) q []) q r.pos) := by
  refine (withCommand_of_reached h _).trans ?_
  simp only [hd, Bool.not_true, Bool.false_eq_true, if_false, releaseBrks_eq]

theorem exec_dbgrd_of_debug (h : Reached s q 0x71 r w) (hd : debugOn s (qPart q) = true) :
    exec (.dbgrd q) s = .next (turnOver (completeCmd (postDebug s (qPart q)
      { typ := 7, body := dbgrdRecord s (qPart q) (fld w 223 176) (fld w 175 160) }) q []) q r.pos) := by
  refine (withCommand_of_reached h _).trans ?_
  simp only [hd, Bool.not_true, Bool.false_eq_true, if_false]

theorem exec_dbgrel_of_no_debug (h : Reached s q 0x70 r w) (hd : debugOn s (qPart q) = false) :
    exec (.dbgrel q) s = .next (turnOver (refuseCmd s q 0x0209) q r.pos) := by
  refine (withCommand_of_reached h _).trans ?_
  simp only [hd, Bool.not_false, if_true]

theorem exec_dbgrd_of_no_debug (h : Reached s q 0x71 r w) (hd : debugOn s (qPart q) = false) :
    exec (.dbgrd q) s = .next (turnOver (refuseCmd s q 0x0209) q r.pos) := by
  refine (withCommand_of_reached h _).trans ?_
  simp only [hd, Bool.not_false, if_true]

end

/-- Settles O19: DBGREL maps the table of tile runs entry by entry, and DBGRD posts its record. -/
theorem debugCommands : Obligations.DebugCommands :=
  ⟨fun _ _ _ _ h hd => ⟨_, exec_dbgrel_of_debug h hd, rfl, rfl, FMap.find_map _ _⟩, fun _ _ _ _ h hd => exec_dbgrd_of_debug h hd,
    fun _ _ _ _ hd => ⟨fun h => exec_dbgrel_of_no_debug h hd, fun h => exec_dbgrd_of_no_debug h hd⟩⟩

end Sys2Proof.Machine
end

section
/-! SUPPORT. Windows and remote writes (R200, R365, R366), and that a message which is emitted has left the block (R362). -/
namespace Sys2Proof.Machine

/-! ### What has left the block -/

section
variable {s : State} {x : OutMsg} (h : x ∈ s.out)
include h

theorem mem_out_pump (ses c : Nat) : x ∈ (pump s ses c).out := by
  unfold pump
  dsimp only
  split
  · exact h
  · exact List.mem_append_right _ h

theorem mem_out_enqueue (m : OutMsg) (e : Nat × Nat × Nat) : x ∈ (enqueue s m e).out := by
  unfold enqueue
  dsimp only
  split
  · exact h
  · exact mem_out_pump (s := setChan ..) h _ _

end

theorem mem_out_emit (s : State) (m : OutMsg) : m ∈ (emit s m).out :=
  List.foldlRecOn (motive := fun u : State => m ∈ u.out) (routes m) (fun u e => enqueue u m e) (List.mem_cons_self ..) fun _ hu e _ =>
    mem_out_enqueue hu m e

/-! ### Windows -/

theorem Only.window_eq {m : Nat} {s t : State} (h : Only m s t) (e : m.testBit 83 = false) (p n : Nat) : window t p n = window s p n := by
  simp only [window, h.windows e]

theorem exec_wopen_of_closed {s : State} {q w e : Nat} {r : RunList} (h : Reached s q 0x50 r w)
    (hst : (window s (qPart q) (fld w 223 208)).st = 0) (hc : coversResident s (qPart q) (fld w 207 160) (fld w 159 128) = false)
    (he : e = (if (window s (qPart q) (fld w 223 208)).epoch = 0xFFFF then 1 else (window s (qPart q) (fld w 223 208)).epoch + 1)) :
    exec (.wopen q) s = .next (turnOver (completeCmd (announce (setWindow s (qPart q) (fld w 223 208)
      { st := 1, epoch := e, va := fld w 207 160, len := fld w 159 128 }) (qPart q) (fld w 223 208)) q
      [BitVec.ofNat 256 (put e 16 240)]) q r.pos) := by
  subst he
  refine (withCommand_of_reached h _).trans ?_
  simp only [hst, hc, ne_eq, not_true_eq_false, Bool.false_eq_true, if_false]

/-- The state in which a WCLOSE of queue `q` has made window `n` of partition `p` CLOSING and waits. -/
def closingWindow (s : State) (q p n : Nat) : State := beginCmd (setWindow s p n { window s p n with st := 2 }) q []

theorem exec_wclose_of_open {s : State} {q w : Nat} {r : RunList} (h : Reached s q 0x51 r w)
    (hst : (window s (qPart q) (fld w 223 208)).st = 1) :
    exec (.wclose q) s = .next (turnOver (windowSettle (closingWindow s q (qPart q) (fld w 223 208)) (qPart q) (fld w 223 208)) q r.pos) := by
  refine (withCommand_of_reached h _).trans ?_
  simp only [hst, ne_eq, not_true_eq_false, if_false]
  rfl

theorem windowSettle_of_pending {s : State} {p n : Nat} (h : (s.inWrites.any fun x => x.part == p && x.win == n && !x.refused) = true) :
    windowSettle s p n = s := by
  rw [windowSettle, h, Bool.or_true, if_pos rfl]

/-- R365: after the last write has landed the window is CLOSED; the WCLOSE that completes with it touches no window. -/
theorem window_windowSettle_of_landed {s : State} {p n : Nat} (hst : (window s p n).st = 2)
    (h : (s.inWrites.any fun x => x.part == p && x.win == n && !x.refused) = false) :
    window (windowSettle s p n) p n = { window s p n with st := 0 } := by
  have hclosed : window (announce (setWindow s p n { window s p n with st := 0 }) p n) p n = { window s p n with st := 0 } := by
    rw [(announce_only ..).window_eq rfl, window_setWindow_same]
  rw [windowSettle, h, hst, if_neg (by decide)]
  dsimp only
  split
  · split
    · rw [(completeCmd_only ..).window_eq rfl, hclosed]
    · exact hclosed
  · exact hclosed

/-! ### RWRITE -/

/-- The remote write that the RWRITE `w` of queue `q` notes (R366). -/
def rwriteNote (s : State) (q w : Nat) : OutWrite :=
  { session := fld w 207 192, part := qPart q, tag := s.nextTag, queue := some q, exp := 0, win := fld w 223 208, epoch := fld w 191 176
    off := fld w 127 96, data := pvaRead s (qPart q) (fld w 175 128) (fld w 95 64) }

/-- The message that carries a remote write. -/
def OutWrite.msg (o : OutWrite) : OutMsg := .write o.session o.win o.epoch o.off o.tag o.data

/-- The state in which an RWRITE of queue `q` has begun, and the bytes of its source are counted. -/
def rwriteBegun (s : State) (q w : Nat) : State := beginCmd (countHbm s (qPart q) (fld w 175 128) 0 (fld w 95 64)) q []

theorem rwriteBegun_only (s : State) (q w : Nat) : Only 0x820 s (rwriteBegun s q w) :=
  (beginCmd_only ..).step rfl ((countHbm_only ..).mono rfl)

/-- The state in which a remote write `o` of queue `q` is noted under the next tag. -/
def rwriteNoted (s : State) (q w : Nat) (o : OutWrite) : State :=
  { rwriteBegun s q w with outWrites := (rwriteBegun s q w).outWrites ++ [o], nextTag := ((rwriteBegun s q w).nextTag + 1) % 2 ^ 32 }

theorem rwriteNoted_only (s : State) (q w : Nat) (o : OutWrite) : Only 0x6000000000000000000820 s (rwriteNoted s q w o) :=
  Only.set_outWrites_nextTag rfl rfl ((rwriteBegun_only ..).mono rfl) _ _

theorem exec_rwrite_of_open {s : State} {q w : Nat} {r : RunList} (h : Reached s q 0x52 r w) (hst : (session s (fld w 207 192)).st = 2)
    (hk : (session s (fld w 207 192)).kind = 2) (hp : (session s (fld w 207 192)).lpart = qPart q)
    (hb : pvaBad s (qPart q) (fld w 175 128) (fld w 95 64) = false) :
    exec (.rwrite q) s = .next (turnOver (emit (rwriteNoted s q w (rwriteNote s q w)) (rwriteNote s q w).msg) q r.pos) := by
  refine (withCommand_of_reached h _).trans ?_
  simp only [hst, hk, hp, hb, ne_eq, not_true_eq_false, or_self, Bool.false_eq_true, if_false]
  rfl

/-- Settles O35, command by command. -/
theorem windowCommands : Obligations.WindowCommands := by
  refine ⟨?wopen, ?wclose, ?settle, ?rwrite⟩
  case wopen =>
    intro q s r w e h hst hc he
    have hu := announce_only (setWindow s (qPart q) (fld w 223 208) { st := 1, epoch := e, va := fld w 207 160, len := fld w 159 128 })
      (qPart q) (fld w 223 208)
    refine ⟨_, exec_wopen_of_closed h hst hc he, ?_, fun k hk => ?_, hu.queues rfl⟩
    · rw [hu.window_eq rfl, window_setWindow_same]
    · rw [hu.windows rfl]
      exact FMap.find_set_other hk
  case wclose =>
    intro q s r w h hst
    have hu := beginCmd_only (setWindow s (qPart q) (fld w 223 208) { window s (qPart q) (fld w 223 208) with st := 2 }) q []
    refine ⟨_, exec_wclose_of_open h hst, ?_, queue_beginCmd_same [] (atCommand_eq_some h.cmd).1, hu.inWrites rfl⟩
    rw [closingWindow, hu.window_eq rfl, window_setWindow_same]
  case settle =>
    intro s p n hst
    exact ⟨fun h => congrArg Window.st (window_windowSettle_of_landed hst h), windowSettle_of_pending⟩
  case rwrite =>
    intro q s r w h hst hk hp hb
    have hbegun := rwriteBegun_only s q w
    have hturn := turnOver_only (emit (rwriteNoted s q w (rwriteNote s q w)) (rwriteNote s q w).msg) q r.pos
    have hsent := hturn.step (m := 0x80080000000000000002000) rfl ((emit_only ..).mono rfl)
    have hrun : (queue (rwriteBegun s q w) q).running = some { r with begun := true, aux := [] } :=
      queue_beginCmd_same [] (by rw [(countHbm_only ..).queue_eq rfl, (atCommand_eq_some h.cmd).1])
    refine ⟨_, exec_rwrite_of_open h hst hk hp hb, ?_, ?_, ?_, ?_, ?_, ?_⟩
    · rw [hsent.nextTag rfl, rwriteNoted, hbegun.nextTag rfl]
    · rw [hsent.queue_eq rfl]
      exact hrun
    · rw [hsent.outWrites rfl, rwriteNoted, hbegun.outWrites rfl]
      rfl
    · rw [hturn.out rfl]
      exact mem_out_emit _ (rwriteNote s q w).msg
    · exact (hsent.sp rfl).trans ((rwriteNoted_only ..).sp rfl)
    · exact (hsent.hbm rfl).trans ((rwriteNoted_only ..).hbm rfl)

end Sys2Proof.Machine
end

section
/-! SUPPORT. How a load and a re-placement complete (R245, R257, R258, R263, R270). -/
namespace Sys2Proof.Machine

/-! ### A job that is ready to complete -/

theorem JobReady.jobs_eq {s : State} {p : Nat} {j : PlaceJob} {load : Bool} (h : JobReady s p j load) : ∃ l, s.jobs = j :: l :=
  List.head?_eq_some_iff.mp h.head

theorem jobStep_of_ready {s : State} {p : Nat} {j : PlaceJob} {load : Bool} (h : JobReady s p j load)
    (fail : State → PlaceJob → Nat → Nat → State) (finish : State → PlaceJob → State) : jobStep s j fail finish = finish s j := by
  have hnone : (j.work.findSome? fun w => (workFailed s j.dead w).map fun e => (w, e)) = none :=
    List.findSome?_eq_none_iff.mpr fun w hw => by rw [(h.done w hw).2]; rfl
  have hall : j.work.all (workDone s) = true := List.all_eq_true.mpr fun w hw => (h.done w hw).1
  rw [jobStep, if_neg (not_not_intro h.noFail), hnone]
  exact if_pos hall

theorem exec_loadComplete_of_ready {s : State} {p : Nat} {j : PlaceJob} (h : JobReady s p j true) :
    exec (.loadComplete p) s = .next (serveJobs (finishLoad s j) ((finishLoad s j).jobs.length + 1)) := by
  obtain ⟨l, hl⟩ := h.jobs_eq
  change execLoadComplete p s = _
  rw [execLoadComplete, if_neg (Nat.not_le.mpr h.num)]
  simp [hl, h.begun, h.kind, h.own, jobStep_of_ready h]

theorem exec_replaceComplete_of_ready {s : State} {p : Nat} {j : PlaceJob} (h : JobReady s p j false) :
    exec (.replaceComplete p) s = .next (serveJobs (finishReplace s j) ((finishReplace s j).jobs.length + 1)) := by
  obtain ⟨l, hl⟩ := h.jobs_eq
  change execReplaceComplete p s = _
  rw [execReplaceComplete, if_neg (Nat.not_le.mpr h.num)]
  simp [hl, h.begun, h.kind, h.own, jobStep_of_ready h]

/-! ### The end of a job -/

section
variable (s : State) (j : PlaceJob) (reason limit : Nat) (pl : Placement)

theorem jobs_endJob : (endJob s j reason limit pl).jobs = s.jobs.drop 1 := by
  unfold endJob
  dsimp only
  split
  · rw [(reply_only ..).jobs rfl]
    split <;> rfl
  · split <;> rfl

theorem reply_mem_out_endJob (h : j.asked = true) : ∃ r, OutMsg.reply r ∈ (endJob s j reason limit pl).out ∧ r.session = j.session ∧
    r.op = jobOp j ∧ r.reqid = j.reqid ∧ r.reason = reason := by
  rw [endJob, if_pos h]
  exact ⟨_, mem_out_emit .., rfl, rfl, rfl, rfl⟩

end

/-! ### BIND -/

/-- R47, R52: BIND of one bank of a placed array. -/
def bindBank (t : Nat) (s : State) (a lb : Nat) : State :=
  loadTable { updBank s (bankKey t a lb) (fun b => { b with st := .inService }) with bankMap := FMap.set s.bankMap (bankKey t a lb) lb }
    (bankKey t a lb)

/-- R47, R48, R52: BIND of a placed array: bank A, and bank B too in dual-bank mode. -/
def bindArray (dual : Bool) (t : Nat) (s : State) (a : Nat) : State :=
  if dual then bindBank t (bindBank t s a 0) a 1 else bindBank t s a 0

theorem bindTile_eq_foldl (dual : Bool) (s : State) (t : PTile) : bindTile dual s t = t.arrays.foldl (bindArray dual t.tile) s := rfl

theorem st_bankOf_bindBank (t : Nat) (s : State) (a lb k : Nat) :
    (bankOf (bindBank t s a lb) k).st = if k = bankKey t a lb then .inService else (bankOf s k).st := by
  rw [bindBank, st_bankOf_loadTable]
  change (bankOf (updBank s (bankKey t a lb) fun b => { b with st := .inService }) k).st = _
  rw [bankOf_updBank]
  split <;> rfl

/-- BIND takes no bank out of service. -/
theorem inService_bindBank {t : Nat} {s : State} {k : Nat} (a lb : Nat) (h : (bankOf s k).st = .inService) :
    (bankOf (bindBank t s a lb) k).st = .inService := by
  rw [st_bankOf_bindBank, h, ite_self]

theorem inService_bindArray {t : Nat} {s : State} {k : Nat} (dual : Bool) (a : Nat) (h : (bankOf s k).st = .inService) :
    (bankOf (bindArray dual t s a) k).st = .inService := by
  cases dual with
  | false => exact inService_bindBank _ _ h
  | true => exact inService_bindBank _ _ (inService_bindBank _ _ h)

theorem inService_bindArray_self (dual : Bool) (t : Nat) (s : State) (a : Nat) :
    (bankOf (bindArray dual t s a) (bankKey t a 0)).st = .inService := by
  have hA : (bankOf (bindBank t s a 0) (bankKey t a 0)).st = .inService := by rw [st_bankOf_bindBank, if_pos rfl]
  cases dual with
  | false => exact hA
  | true => exact inService_bindBank _ _ hA

theorem inService_bindTile {s : State} {k : Nat} (dual : Bool) (t : PTile) (h : (bankOf s k).st = .inService) :
    (bankOf (bindTile dual s t) k).st = .inService :=
  List.foldlRecOn (motive := fun u => (bankOf u k).st = .inService) t.arrays (bindArray dual t.tile) h fun _ hu a _ => inService_bindArray dual a hu

theorem inService_bindTile_of_mem {t : PTile} {a : Nat} (dual : Bool) (s : State) (ha : a ∈ t.arrays) :
    (bankOf (bindTile dual s t) (bankKey t.tile a 0)).st = .inService :=
  foldl_done_of_mem (f := bindArray dual t.tile) (before := fun _ => True) (done := fun u => (bankOf u (bankKey t.tile a 0)).st = .inService)
    ha trivial (fun _ _ _ _ _ => trivial) (fun u _ => inService_bindArray_self dual t.tile u a) fun _ b _ hu => inService_bindArray dual b hu

theorem inService_foldl_bindTile_of_mem {l : List PTile} {t : PTile} {a : Nat} (dual : Bool) (s : State) (ht : t ∈ l) (ha : a ∈ t.arrays) :
    (bankOf (l.foldl (bindTile dual) s) (bankKey t.tile a 0)).st = .inService :=
  foldl_done_of_mem (before := fun _ => True) (done := fun u => (bankOf u (bankKey t.tile a 0)).st = .inService) ht trivial
    (fun _ _ _ _ _ => trivial) (fun u _ => inService_bindTile_of_mem dual u ha) fun _ x _ hu => inService_bindTile dual x hu

/-! ### The end of a load (R257) -/

/-- The image that a placement job places. -/
def jobImage (s : State) (j : PlaceJob) : Memory := ((FMap.find s.images j.image).map (·.bytes)).getD []

/-- R146, R270 step 8: the state in which the regions of some placed tiles of the job are written. -/
def tilesWritten (s : State) (j : PlaceJob) (ptis : List Nat) : State := ptis.foldl (writeTile (jobImage s j) j.plan) s

theorem tilesWritten_only (s : State) (j : PlaceJob) (ptis : List Nat) : Only 0x7000000 s (tilesWritten s j ptis) :=
  Only.foldl (fun _ _ g => (writeTile_only ..).step rfl g) (Only.refl _ s)

/-- Nothing is left of the synchronisation objects and page sets that partition `p` had before. -/
def clearObjects (s : State) (p : Nat) : State :=
  { s with sync := s.sync.filter fun e => e.1 / 1024 != p, kvSets := s.kvSets.filter fun e => e.1 / 2 ^ 40 != p }

/-- R330, R341: the state in which the HBM regions of a load have their initial contents, and its blocks are staged where it asked for it. -/
def loadFilled (s : State) (j : PlaceJob) : State :=
  let u := j.plan.hregs.foldl (initRegion (jobImage s j)) (tilesWritten s j (List.range j.plan.tiles.length))
  if j.stage then stageAll u j.part (jobImage s j) else u

theorem loadFilled_only (s : State) (j : PlaceJob) : Only 0x20000000000187000020 s (loadFilled s j) := by
  have hinit : Only 0x20000000000187000020 s
      (j.plan.hregs.foldl (initRegion (jobImage s j)) (tilesWritten s j (List.range j.plan.tiles.length))) :=
    Only.foldl (fun _ _ g => (initRegion_only ..).step rfl g) ((tilesWritten_only ..).mono rfl)
  exact Only.ite ((stageAll_only ..).step rfl hinit) hinit

/-- R257: the state in which a load has committed: its tiles are bound and its partition is LOADED. -/
def loadCommitted (s : State) (j : PlaceJob) : State :=
  setPState (j.plan.tiles.foldl (bindTile j.plan.dual) (clearObjects (loadFilled s j) j.part)) j.part .loaded

theorem loadCommitted_only (s : State) (j : PlaceJob) : Only 0x20000000000187650520 s (loadCommitted s j) :=
  (setPState_only ..).step rfl (Only.foldl (fun _ _ g => (bindTile_only ..).step rfl g)
    (Only.set_sync_kvSets rfl rfl ((loadFilled_only ..).mono rfl) _ _))

theorem finishLoad_of_boundOk {s : State} {j : PlaceJob}
    (h : boundOk (tilesWritten s j (List.range j.plan.tiles.length)) j.plan (List.range j.plan.tiles.length) = true) :
    finishLoad s j = endJob (loadCommitted s j) j 0 0 j.plan :=
  if_neg (ne_true_of_eq_false ((congrArg not h).trans Bool.not_true))

/-! ### What keeps the placement records of the partitions -/

theorem place_part_setPState (s : State) (p k : Nat) (st : PState) : (part (setPState s p st) k).place = (part s k).place := by
  rw [part_setPState]
  split
  next e => rw [e]
  next => rfl

theorem place_part_updStep (s : State) (p k : Nat) (f : StepRun → StepRun) : (part (updStep s p f) k).place = (part s k).place := by
  rw [updStep, part_updPart]
  split
  next e => rw [e]
  next => rfl

theorem place_part_enterStall (s : State) (p cause tile off start k : Nat) :
    (part (enterStall s p cause tile off start) k).place = (part s k).place := by
  unfold enterStall
  split
  · rw [place_part_updStep, (addObj_only ..).part_eq rfl, place_part_setPState]
  · rfl

theorem place_part_leaveStall (s : State) (p k : Nat) : (part (leaveStall s p) k).place = (part s k).place := by
  unfold leaveStall
  split
  · rw [place_part_updStep, (addObj_only ..).part_eq rfl, place_part_setPState]
  · rfl

theorem place_part_reviewStall (s : State) (p k : Nat) : (part (reviewStall s p) k).place = (part s k).place := by
  unfold reviewStall
  split
  · split
    · exact place_part_enterStall ..
    · exact place_part_enterStall ..
    · rfl
  · exact place_part_leaveStall ..

theorem place_part_restartPart (s : State) (p k : Nat) : (part (restartPart s p) k).place = (part s k).place := by
  rw [restartPart, (armExports_only ..).part_eq rfl, toIdle, place_part_setPState, (healRegions_only ..).part_eq rfl]

/-- What a change of every entry keeps of the default, it keeps of what is read at a key. -/
theorem FMap.view_get_map {α β : Type} {g : α → β} {f : α → α} (hf : ∀ a, g (f a) = g a) (d : α) (m : FMap α) (k : Nat) :
    g (FMap.get d (m.map fun e => (e.1, f e.2)) k) = g (FMap.get d m k) := by
  induction m with
  | nil => rfl
  | cons e m ih =>
    rw [List.map_cons, FMap.get_cons, FMap.get_cons]
    split
    · exact hf e.2
    · exact ih

theorem place_part_unbind (s : State) (k p : Nat) : (part (unbind s k) p).place = (part s p).place := by
  have hclosed : (updBank (closeProgram s k) k fun b => if b.st = .retired then b else
      { b with st := .empty, op := .none, calInPlace := false, openEntry := false, fitting := false, cur := none, newTable := false, plan := 0
               refreshDue := false, calDue := false, boundHeld := false, overdue := false }).parts = s.parts := by
    rw [(updBank_only ..).parts rfl, (closeProgram_only ..).parts rfl]
  refine (FMap.view_get_map (g := Part.place) (f := fun x => { x with swap := x.swap.filter (· != k) }) (fun _ => rfl) {} _ p).trans ?_
  rw [hclosed]
  rfl

/-! ### The end of a re-placement (R270) -/

/-- R270 step 2: the tiles that a re-placement vacates. -/
def vacatedTiles (s : State) (j : PlaceJob) : List PTile := (j.vacated.map (·.1)).filterMap (ptile (part s j.part).place)

/-- R263, R270 step 9: the state in which the new placement record is in force and the new tiles are bound. -/
def replaceBound (s : State) (j : PlaceJob) : State :=
  ((j.vacated.map (·.1)).filterMap (ptile j.plan)).foldl (bindTile j.plan.dual)
    (updPart (tilesWritten s j (j.vacated.map (·.1))) j.part fun x => { x with place := j.plan })

/-- R270 step 9, R365: the state in which the vacated tiles are released and the windows over them are closed. -/
def replaceReleased (s : State) (j : PlaceJob) : State :=
  { closeMoved (((vacatedTiles s j).flatMap ownedBanks).foldl unbind (replaceBound s j)) j.part (j.vacated.map (·.1)) with
    ringTags := (((vacatedTiles s j).flatMap ownedBanks).foldl unbind (replaceBound s j)).ringTags.filter fun e =>
      !((vacatedTiles s j).any fun t => t.tile == e.1 / 2 ^ 40) }

/-- R270 step 9: the state in which Kennel has retired the vacated tiles where the request asked for it. -/
def replaceRetired (s : State) (j : PlaceJob) : State :=
  if j.retire then (vacatedTiles s j).foldl (fun s t => kennelRetire s 1 t.tile 0) (replaceReleased s j) else replaceReleased s j

/-- R270 step 10, R346: the state in which the partition is restarted where the request asked for it and it can be. -/
def replaceCommitted (s : State) (j : PlaceJob) : State :=
  let s := replaceRetired s j
  if j.restart && (part s j.part).st == .faulted && !stackLost s j.part then restartPart s j.part else s

theorem replaceBound_only (s : State) (j : PlaceJob) : Only 0x7600400 s (replaceBound s j) :=
  Only.foldl (fun _ _ g => (bindTile_only ..).step rfl g) ((updPart_only ..).step rfl ((tilesWritten_only ..).mono rfl))

theorem place_part_replaceBound (s : State) (j : PlaceJob) : (part (replaceBound s j) j.part).place = j.plan := by
  have hbind := Only.foldl (m := 0x600000) (l := (j.vacated.map (·.1)).filterMap (ptile j.plan))
    (fun _ t g => (bindTile_only j.plan.dual _ t).step rfl g)
    (Only.refl _ (updPart (tilesWritten s j (j.vacated.map (·.1))) j.part fun x => { x with place := j.plan }))
  rw [replaceBound, hbind.part_eq rfl, part_updPart_same]

theorem replaceReleased_only (s : State) (j : PlaceJob) : Only 0x800900000000407680480 s (replaceReleased s j) :=
  Only.set_ringTags rfl ((closeMoved_only ..).step rfl
    (Only.foldl (fun _ _ g => (unbind_only ..).step rfl g) ((replaceBound_only ..).mono rfl))) _

theorem place_part_replaceReleased (s : State) (j : PlaceJob) : (part (replaceReleased s j) j.part).place = j.plan :=
  List.foldlRecOn (motive := fun u => (part u j.part).place = j.plan) ((vacatedTiles s j).flatMap ownedBanks) unbind
    (place_part_replaceBound s j) fun u hu k _ => (place_part_unbind u k j.part).trans hu

theorem replaceRetired_only (s : State) (j : PlaceJob) : Only 0x800000000000000000 (replaceReleased s j) (replaceRetired s j) :=
  Only.ite (Only.foldl (fun _ _ g => (kennelRetire_only ..).step rfl g) (Only.refl _ _)) (Only.refl _ _)

theorem replaceCommitted_only (s : State) (j : PlaceJob) : Only 0x8800900000000407680580 s (replaceCommitted s j) := by
  have hretired : Only 0x8800900000000407680580 s (replaceRetired s j) :=
    (replaceRetired_only ..).step rfl ((replaceReleased_only ..).mono rfl)
  exact Only.ite ((restartPart_only ..).step rfl hretired) hretired

theorem place_part_replaceCommitted (s : State) (j : PlaceJob) : (part (replaceCommitted s j) j.part).place = j.plan := by
  have hretired : (part (replaceRetired s j) j.part).place = j.plan := by
    rw [(replaceRetired_only ..).part_eq rfl, place_part_replaceReleased]
  unfold replaceCommitted
  dsimp only
  split
  · rw [place_part_restartPart, hretired]
  · exact hretired

/-- R270: the state in which a committed re-placement is counted and its cause is raised. -/
def replaceCounted (s : State) (j : PlaceJob) (c : Cause) : State := raise (addObj (replaceCommitted s j) (pidx 0x55 j.part) 12 1 0 32) c

theorem replaceCounted_only (s : State) (j : PlaceJob) (c : Cause) : Only 0x1000000000000000a0 (replaceCommitted s j) (replaceCounted s j c) :=
  (raise_only ..).step rfl ((addObj_only ..).mono rfl)

theorem finishReplace_of_boundOk {s : State} {j : PlaceJob}
    (h : boundOk (tilesWritten s j (j.vacated.map (·.1))) j.plan (j.vacated.map (·.1)) = true) :
    ∃ c, finishReplace s j = endJob (reviewStall (replaceCounted s j c) j.part) j 0 0 j.plan :=
  ⟨_, if_neg (ne_true_of_eq_false ((congrArg not h).trans Bool.not_true))⟩

/-- Settles O49: each job ends in its committed state, and `endJob` takes it from the queue and answers it. -/
theorem placementCompletes : Obligations.PlacementCompletes := by
  refine ⟨?load, ?replace⟩
  case load =>
    rintro p s j h hok
    obtain rfl := h.own
    have hend := endJob_only (loadCommitted s j) j 0 0 j.plan
    refine ⟨_, exec_loadComplete_of_ready h, ?_⟩
    rw [finishLoad_of_boundOk hok]
    refine ⟨?st, ?jobs, fun t a ht ha => ?bank, fun hasked => ?reply⟩
    case st => rw [hend.part_eq rfl, loadCommitted, part_setPState_same]
    case jobs => rw [jobs_endJob, (loadCommitted_only ..).jobs rfl]
    case bank =>
      rw [hend.bankOf_eq rfl, loadCommitted, (setPState_only ..).bankOf_eq rfl]
      exact inService_foldl_bindTile_of_mem _ _ ht ha
    case reply =>
      have hop : jobOp j = 0x10 := by rw [jobOp, if_pos h.kind]
      exact hop ▸ reply_mem_out_endJob _ j 0 0 j.plan hasked
  case replace =>
    rintro p s j h hok
    obtain rfl := h.own
    obtain ⟨c, hfinish⟩ := finishReplace_of_boundOk hok
    refine ⟨_, exec_replaceComplete_of_ready h, ?_⟩
    rw [hfinish]
    refine ⟨?place, ?jobs, fun hasked => ?reply⟩
    case place =>
      rw [(endJob_only ..).part_eq rfl, place_part_reviewStall, (replaceCounted_only ..).part_eq rfl, place_part_replaceCommitted]
    case jobs =>
      rw [jobs_endJob, (reviewStall_only ..).jobs rfl, (replaceCounted_only ..).jobs rfl, (replaceCommitted_only ..).jobs rfl]
    case reply =>
      have hop : jobOp j = 0x13 := by rw [jobOp, if_neg (ne_true_of_eq_false h.kind)]
      exact hop ▸ reply_mem_out_endJob _ j 0 0 j.plan hasked

end Sys2Proof.Machine
end

section
/-! SUPPORT. The page engine's commands: what each does to the page sets and to the table of its sequence (R283, R284, R296, R297). -/
namespace Sys2Proof.Machine

/-! ### Page sets -/

theorem setState_putSet (s : State) (p g n st rc i h k : Nat) :
    setState (putSet s p g n st rc) i h k = if setKey i h k = setKey p g n then st else setState s i h k :=
  (congrArg Prod.fst FMap.get_put).trans (apply_ite ..)

theorem setRef_putSet (s : State) (p g n st rc i h k : Nat) :
    setRef (putSet s p g n st rc) i h k = if setKey i h k = setKey p g n then rc else setRef s i h k :=
  (congrArg Prod.snd FMap.get_put).trans (apply_ite ..)

/-- R297: the sets `ks` of a group are HELD, each with one reference. -/
def setsTaken (s : State) (p g : Nat) (ks : List Nat) : State := ks.foldl (fun t k => putSet t p g k 1 1) s

theorem setsTaken_only (s : State) (p g : Nat) (ks : List Nat) : Only 0x40000 s (setsTaken s p g ks) :=
  Only.foldl (fun _ _ h => (putSet_only ..).step rfl h) (Only.refl ..)

theorem setsTaken_of_mem (s : State) (p g : Nat) {ks : List Nat} {k : Nat} (hk : k ∈ ks) :
    setState (setsTaken s p g ks) p g k = 1 ∧ setRef (setsTaken s p g ks) p g k = 1 := by
  refine foldl_done_of_mem (before := fun _ => True) (done := fun u => setState u p g k = 1 ∧ setRef u p g k = 1) hk trivial
    (fun _ _ _ _ _ => trivial) (fun u _ => ?taken) (fun u y _ hu => ?later)
  case taken => simp [setState_putSet, setRef_putSet]
  case later => simp [setState_putSet, setRef_putSet, hu]

theorem setsTaken_of_apart (s : State) (p g : Nat) {ks : List Nat} {i h k : Nat} (hk : ∀ j, j ∈ ks → setKey i h k ≠ setKey p g j) :
    setState (setsTaken s p g ks) i h k = setState s i h k ∧ setRef (setsTaken s p g ks) i h k = setRef s i h k := by
  refine List.foldlRecOn (motive := fun u => setState u i h k = setState s i h k ∧ setRef u i h k = setRef s i h k) ks _ ⟨rfl, rfl⟩
    fun u hu j hj => ?_
  simp [setState_putSet, setRef_putSet, hk j hj, hu]

/-! ### The effects -/

section
variable {s : State} {p i : Nat} {x : Seq} (hx : seqOf s p i = some x)
include hx

theorem kvPalloc_of_room {g n : Nat} (hfree : n ≤ (freeSets s p g).length) (hroom : (table x g).length + n ≤ (part s p).place.kv.maxent) :
    kvPalloc s p i g n = .inr (setSeq (setsTaken s p g ((freeSets s p g).take n)) p i (setTable x g (table x g ++ (freeSets s p g).take n))) := by
  simp only [kvPalloc, hx, Nat.not_lt.mpr hfree, Nat.not_lt.mpr hroom, if_false]
  rfl

theorem kvPfree_of_beyond {g pos : Nat} (hpos : x.len ≤ pos) :
    ∃ t, Only 0x40000 s t ∧ kvPfree s p i g pos = .inr (setSeq t p i (setTable x g ((table x g).take ((pos + 63) / 64)))) := by
  refine ⟨_, Only.foldl (l := (table x g).drop ((pos + 63) / 64)) (fun _ n h => (dropRef_only _ p g n).step rfl h) (Only.refl ..), ?_⟩
  simp only [kvPfree, hx, Nat.not_lt.mpr hpos, if_false]

theorem kvPtedit_of_set {g index page n : Nat} (hpool : pageInPool (part s p).place page = true)
    (hset : setOfPage (kvGroup (part s p).place g) page = some n) (hindex : index ≤ (table x g).length)
    (hroom : index = (table x g).length → (table x g).length < (part s p).place.kv.maxent) :
    ∃ t, Only 0x40000 s t ∧ kvPtedit s p i g index page =
      .inr (setSeq t p i (setTable x g (if index = (table x g).length then table x g ++ [n] else (table x g).set index n))) := by
  by_cases hend : index = (table x g).length
  case pos =>
    refine ⟨_, addRef_only s p g n, ?_⟩
    simp [kvPtedit, hx, hpool, hset, hend, Nat.not_le.mpr (hroom hend)]
  case neg =>
    refine ⟨_, (dropRef_only _ p g ((table x g).getD index 0)).step rfl (addRef_only s p g n), ?_⟩
    simp [kvPtedit, hx, hpool, hset, hend, Nat.not_lt.mpr hindex]

theorem kvPshare_of_empty {src npos : Nat} {y : Seq} (hy : seqOf s p src = some y) (hlen : x.len = 0)
    (hempty : ∀ g, g < kvNgroup (part s p).place → table x g = []) (hnpos : npos ≤ y.len) :
    ∃ t, Only 0x40000 s t ∧ kvPshare s p i src npos = .inr (setSeq t p i { x with
      len := npos
      tables := (List.range (kvNgroup (part s p).place)).map fun g => (g, (table y g).take ((npos + 63) / 64)) }) := by
  have hnone : (List.range (kvNgroup (part s p).place)).any (fun g => !(table x g).isEmpty) = false := by
    simpa using hempty
  refine ⟨_, Only.foldl (l := List.range (kvNgroup (part s p).place)) (fun _ g h =>
    Only.foldl (l := (table y g).take ((npos + 63) / 64)) (fun _ n h => (addRef_only _ p g n).step rfl h) h) (Only.refl ..), ?_⟩
  simp only [kvPshare, hx, hy, hlen, hnone, Nat.not_lt.mpr hnpos, ne_eq, not_true_eq_false, Bool.false_eq_true, or_self, if_false]

end

/-! ### A page command between two steps -/

theorem Reached.opcode {s : State} {q op w : Nat} {r : RunList} (h : Reached s q op r w) : cmdOpcode w = op := by
  have hcmd := h.cmd
  unfold atCommand at hcmd
  split at hcmd
  next =>
    obtain ⟨⟨hop, _⟩, hrw⟩ := Option.ite_none_right_eq_some.mp hcmd
    cases hrw
    exact hop
  next => cases hcmd

/-- A sequence put into a state that differs from `s` in the page sets alone: the others are those of `s`. -/
theorem seqOf_setSeq_of_only {s t : State} (ht : Only 0x40000 s t) (p i : Nat) (x : Seq) :
    seqOf (setSeq t p i x) p i = some x ∧ ∀ j k, seqKey j k ≠ seqKey p i → seqOf (setSeq t p i x) j k = seqOf s j k := by
  refine ⟨seqOf_setSeq_same .., fun j k hne => ?_⟩
  rw [seqOf_setSeq, if_neg hne, seqOf, seqOf, ht.seqs rfl]

section
variable {s : State} {q w : Nat} {r : RunList} (hr : pageRefusal s (qPart q) w = none)
include hr

theorem pageEff_of_palloc (h : Reached s q 0x20 r w) :
    pageEff s (qPart q) w = effOf (kvPalloc s (qPart q) (fld w 223 192) (fld w 191 184) (fld w 183 168)) := by
  simp only [pageEff, hr, h.opcode]

theorem pageEff_of_pfree (h : Reached s q 0x21 r w) :
    pageEff s (qPart q) w = effOf (kvPfree s (qPart q) (fld w 223 192) (fld w 191 184) (fld w 183 152)) := by
  simp only [pageEff, hr, h.opcode]

theorem pageEff_of_ptedit (h : Reached s q 0x22 r w) :
    pageEff s (qPart q) w = effOf (kvPtedit s (qPart q) (fld w 223 192) (fld w 191 184) (fld w 183 152) (fld w 151 120)) := by
  simp only [pageEff, hr, h.opcode]

theorem pageEff_of_pshare (h : Reached s q 0x23 r w) :
    pageEff s (qPart q) w = effOf (kvPshare s (qPart q) (fld w 223 192) (fld w 191 160) (fld w 159 128)) := by
  simp only [pageEff, hr, h.opcode]

end

theorem nowOrHeld_of_idle {s : State} {q : Nat} (pre : Option Nat) (e : Eff) (ha : stepActive s (qPart q) = false) :
    nowOrHeld s q pre e = finish s q e :=
  if_neg (ne_true_of_eq_false ha)

/-- R196, R298: a page command that nothing holds finishes with its effect. -/
theorem exec_page_of_idle {c : Instr} {s u : State} {q op w : Nat} {r : RunList} (hc : exec c s = withCommand s q op fun _ w => pageCmd s q w)
    (h : Reached s q op r w) (ha : stepActive s (qPart q) = false) (hw : pageWaits s (qPart q) w = false)
    (hu : pageEff s (qPart q) w = effOf (.inr u)) : exec c s = .next (turnOver (finish s q (.inr (u, []))) q r.pos) := by
  rw [hc, withCommand_of_reached h, pageCmd, hw, if_neg Bool.false_ne_true, nowOrHeld_of_idle _ _ ha, hu]
  rfl

/-- Settles O14, command by command: each puts one sequence back with its new table, in a state that differs in the page sets alone. -/
theorem pageEngineCommands : Obligations.PageEngineCommands := by
  refine ⟨?palloc, ?pfree, ?ptedit, ?pshare⟩
  case palloc =>
    intro q s r w x h ha hw hr hx hfree hroom
    have heff := (pageEff_of_palloc hr h).trans (congrArg effOf (kvPalloc_of_room hx hfree hroom))
    obtain ⟨hseq, hothers⟩ := seqOf_setSeq_of_only (setsTaken_only ..) ..
    exact ⟨_, exec_page_of_idle rfl h ha hw heff, hseq, fun k hk => setsTaken_of_mem s _ _ hk, fun p g k hk => setsTaken_of_apart s _ _ hk,
      hothers⟩
  case pfree =>
    intro q s r w x h ha hw hr hx hpos
    obtain ⟨t, ht, hkv⟩ := kvPfree_of_beyond hx hpos
    have heff := (pageEff_of_pfree hr h).trans (congrArg effOf hkv)
    exact ⟨_, exec_page_of_idle rfl h ha hw heff, seqOf_setSeq_of_only ht ..⟩
  case ptedit =>
    intro q s r w n x h ha hw hr hx hpool hset hindex hroom
    obtain ⟨t, ht, hkv⟩ := kvPtedit_of_set hx hpool hset hindex hroom
    have heff := (pageEff_of_ptedit hr h).trans (congrArg effOf hkv)
    exact ⟨_, exec_page_of_idle rfl h ha hw heff, seqOf_setSeq_of_only ht ..⟩
  case pshare =>
    intro q s r w x y h ha hw hr hx hy hlen hempty hnpos
    obtain ⟨t, ht, hkv⟩ := kvPshare_of_empty hx hy hlen hempty hnpos
    have heff := (pageEff_of_pshare hr h).trans (congrArg effOf hkv)
    exact ⟨_, exec_page_of_idle rfl h ha hw heff, seqOf_setSeq_of_only ht ..⟩

end Sys2Proof.Machine
end

section
/-! SUPPORT. What the bytes of a partition virtual address are after they were stored, and the landing of a remote write (R10, R332, R366, R367). -/
namespace Sys2Proof.Machine

/-! ### Bytes stored at HBM addresses -/

/-- R332: byte `e.2` of a store goes to the flat HBM address that `r` gives it, if any. -/
def hbmPut (r : Nat → Option Nat) (s : State) (e : Byte × Nat) : State :=
  match r e.2 with
  | none => s
  | some f => hbmWrite s f e.1

theorem read_hbmPut_of_hit {r : Nat → Option Nat} {e : Byte × Nat} {a : Nat} (s : State) (h : r e.2 = some a) :
    Memory.read (hbmPut r s e).hbm a = e.1 := by
  rw [hbmPut, h]
  exact Memory.read_write.trans (if_pos rfl)

theorem read_hbmPut_of_miss {r : Nat → Option Nat} {e : Byte × Nat} {a : Nat} (s : State) (h : r e.2 ≠ some a) :
    Memory.read (hbmPut r s e).hbm a = Memory.read s.hbm a := by
  unfold hbmPut
  split
  · rfl
  next f hf => exact Memory.read_write.trans (if_neg fun ha : a = f => h (hf.trans (congrArg some ha.symm)))

theorem read_foldl_hbmPut_of_miss {r : Nat → Option Nat} {l : List (Byte × Nat)} {a : Nat} (s : State) (h : ∀ e ∈ l, r e.2 ≠ some a) :
    Memory.read (l.foldl (hbmPut r) s).hbm a = Memory.read s.hbm a :=
  List.foldlRecOn (motive := fun u : State => Memory.read u.hbm a = Memory.read s.hbm a) l (hbmPut r) rfl fun u hu e he =>
    (read_hbmPut_of_miss u (h e he)).trans hu

/-- Where no other byte of the store goes to its address, a byte reads as stored. -/
theorem read_foldl_hbmPut_of_hit {r : Nat → Option Nat} {l : List (Byte × Nat)} {x : Byte × Nat} {a : Nat} (s : State) (hx : x ∈ l)
    (ha : r x.2 = some a) (hone : ∀ e ∈ l, r e.2 = some a → e = x) : Memory.read (l.foldl (hbmPut r) s).hbm a = x.1 := by
  refine foldl_done_of_mem (f := hbmPut r) (before := fun _ => True) (done := fun u => Memory.read u.hbm a = x.1) hx trivial
    (fun _ _ _ _ _ => trivial) (fun u _ => read_hbmPut_of_hit u ha) fun u e he hu => ?_
  by_cases hhit : r e.2 = some a
  · rw [read_hbmPut_of_hit u hhit, hone e he hhit]
  · rw [read_hbmPut_of_miss u hhit, hu]

/-- The bytes of a store with their places in it. -/
theorem mem_zip_range {bs : List Byte} {e : Byte × Nat} : e ∈ bs.zip (List.range bs.length) ↔ e.2 < bs.length ∧ e.1 = bs.getD e.2 0 := by
  rw [List.mem_iff_getElem]
  constructor
  · rintro ⟨i, hi, rfl⟩
    have hb : i < bs.length := by simpa using hi
    simp [hb]
  · rintro ⟨hi, he⟩
    exact ⟨e.2, by simpa using hi, Prod.ext (by simp [he, hi]) (by simp)⟩

/-! ### Bytes stored at a partition virtual address -/

theorem pvaWrite_sp {s : State} {p va : Nat} {bs : List Byte} {x : PTile} (h : vaSpace va = 0) (hx : ptile (part s p).place (vaPti va) = some x) :
    pvaWrite s p va bs = spWrite s x.tile (vaOff va) bs := by
  simp only [pvaWrite, h, hx]

theorem pvaWrite_hbm {s : State} {p va : Nat} {bs : List Byte} (h : vaSpace va = 2 ∨ vaSpace va = 4) :
    pvaWrite s p va bs = (bs.zip (List.range bs.length)).foldl
      (hbmPut fun i => hbmResolve (part s p).place (vaSpace va) (vaLow va + i)) s := by
  rcases h with h | h <;> simp only [pvaWrite, h] <;> rfl

theorem pvaWrite_hbm_eq {s : State} {p va : Nat} {bs : List Byte} (h : ¬ (vaSpace va = 2 ∨ vaSpace va = 4)) : (pvaWrite s p va bs).hbm = s.hbm := by
  unfold pvaWrite
  dsimp only
  split
  · split
    · rfl
    · exact (spWrite_only ..).hbm rfl
  next h2 => exact absurd (.inl h2) h
  next h4 => exact absurd (.inr h4) h
  · rfl

theorem foldl_hbmPut_sp (r : Nat → Option Nat) (l : List (Byte × Nat)) (s : State) : (l.foldl (hbmPut r) s).sp = s.sp :=
  List.foldlRecOn (motive := fun u : State => u.sp = s.sp) l (hbmPut r) rfl fun u hu e _ => by
    unfold hbmPut
    split
    · exact hu
    · exact hu

theorem pvaWrite_sp_eq {s : State} {p va : Nat} {bs : List Byte} (h : vaSpace va ≠ 0) : (pvaWrite s p va bs).sp = s.sp := by
  by_cases hm : vaSpace va = 2 ∨ vaSpace va = 4
  · rw [pvaWrite_hbm hm, foldl_hbmPut_sp]
  · unfold pvaWrite
    dsimp only
    split
    next h0 => exact absurd h0 h
    next h2 => exact absurd (.inl h2) hm
    next h4 => exact absurd (.inr h4) hm
    · rfl

/-- R10, R332: bytes written at a partition virtual address land there, and nowhere else. -/
theorem landed_pvaWrite (s : State) (p va : Nat) (bs : List Byte) : Landed s (pvaWrite s p va bs) p va bs where
  sp h x hx a := by
    rw [pvaWrite_sp h hx]
    exact Memory.read_writeN
  spElse := pvaWrite_sp_eq
  hbm h hone i a hi ha := by
    rw [pvaWrite_hbm h]
    refine read_foldl_hbmPut_of_hit (x := (bs.getD i 0, i)) s (mem_zip_range.mpr ⟨hi, rfl⟩) ha fun e he hea => ?_
    obtain ⟨hlt, hval⟩ := mem_zip_range.mp he
    have hei : e.2 = i := hone e.2 i a hlt hi hea ha
    exact Prod.ext (by rw [hval, hei]) hei
  hbmElse a ha := by
    by_cases h : vaSpace va = 2 ∨ vaSpace va = 4
    · rw [pvaWrite_hbm h]
      exact read_foldl_hbmPut_of_miss s fun e he => ha e.2 (mem_zip_range.mp he).1
    · rw [pvaWrite_hbm_eq h]

/-- What landed stays landed as long as scratchpads and HBM keep their bytes; the state before counts by its placements and bytes alone. -/
theorem Landed.congr {s t u v : State} {p va : Nat} {bs : List Byte} (h : Landed s u p va bs) (hpart : part t p = part s p) (hsp : t.sp = s.sp)
    (hhbm : t.hbm = s.hbm) (husp : v.sp = u.sp) (huhbm : v.hbm = u.hbm) : Landed t v p va bs where
  sp := by simpa only [hpart, hsp, husp] using h.sp
  spElse := by simpa only [hsp, husp] using h.spElse
  hbm := by simpa only [hpart, huhbm] using h.hbm
  hbmElse := by simpa only [hpart, hhbm, huhbm] using h.hbmElse

theorem landBytes_only_after (s : State) (p va : Nat) (bs : List Byte) : Only 0x20000000000000000020 (pvaWrite s p va bs) (landBytes s p va bs) :=
  (countHbm_only ..).step rfl ((unstageWrite_only ..).mono rfl)

theorem landed_landBytes (s : State) (p va : Nat) (bs : List Byte) : Landed s (landBytes s p va bs) p va bs :=
  (landed_pvaWrite s p va bs).congr rfl rfl rfl ((landBytes_only_after s p va bs).sp rfl) ((landBytes_only_after s p va bs).hbm rfl)

/-! ### WRITE_LANDED -/

/-- R367: the state in which the last bytes of the `i`-th remote write have landed and its window's landing object is signalled. -/
def writeLanded (s : State) (i : Nat) (x : InWrite) (data : List Byte) : State :=
  let u := landBytes { s with inWrites := s.inWrites.take i ++ s.inWrites.drop (i + 1) } x.part x.va data
  signalOne (addObj u (pidx 0x66 x.part) 1 1) x.part (objD 0xFFFF u (pidx 0x62 x.part) x.win)

theorem writeLanded_only (s : State) (i : Nat) (x : InWrite) (data : List Byte) : Only 0xc10a01000000003870148a0 s (writeLanded s i x data) :=
  (signalOne_only ..).step rfl ((addObj_only ..).step rfl ((landBytes_only ..).step rfl (Only.set_inWrites rfl (Only.refl _ _) _)))

theorem writeLanded_only_after (s : State) (i : Nat) (x : InWrite) (data : List Byte) : Only 0xc00801000000002000148a0
    (landBytes { s with inWrites := s.inWrites.take i ++ s.inWrites.drop (i + 1) } x.part x.va data) (writeLanded s i x data) :=
  (signalOne_only ..).step rfl ((addObj_only ..).mono rfl)

theorem exec_writeLanded_of_last {s : State} {i : Nat} {x : InWrite} {data : List Byte} (hx : s.inWrites[i]? = some x) (hl : x.last = some data) :
    exec (.writeLanded i) s = .next (windowSettle
      (emit (writeLanded s i x data) (.wack x.session 0 (wackBody (writeLanded s i x data) x.part x.win x.tag))) x.part x.win) := by
  change execWriteLanded i s = _
  simp only [execWriteLanded, hx, hl]
  rfl

theorem Only.wackBody_eq {m : Nat} {s t : State} (h : Only m s t) (e : m.testBit 83 = false) (p w tag : Nat) : wackBody t p w tag = wackBody s p w tag := by
  simp only [wackBody, h.window_eq e]

/-- Settles O36: the bytes land, and neither the landing object's signal nor the WACK that follows reaches a memory, a window or a pending write. -/
theorem remoteWritesLand : Obligations.RemoteWritesLand := by
  intro i s x data hx hl
  have hall := writeLanded_only s i x data
  have hafter := writeLanded_only_after s i x data
  have hsent := emit_only (writeLanded s i x data) (.wack x.session 0 (wackBody (writeLanded s i x data) x.part x.win x.tag))
  have hland := (landed_landBytes { s with inWrites := s.inWrites.take i ++ s.inWrites.drop (i + 1) } x.part x.va data).congr (t := s) rfl rfl rfl
    (hafter.sp rfl) (hafter.hbm rfl)
  refine ⟨_, exec_writeLanded_of_last hx hl, hland.congr rfl rfl rfl (hsent.sp rfl) (hsent.hbm rfl), ?_, (hsent.windows rfl).trans (hall.windows rfl),
    (hsent.acc rfl).trans (hall.acc rfl), ?_⟩
  · rw [hsent.inWrites rfl, hafter.inWrites rfl, (landBytes_only ..).inWrites rfl]
  · rw [hall.wackBody_eq rfl]
    exact mem_out_emit ..

end Sys2Proof.Machine
end

section
/-! SUPPORT. What a Broler row leaves of the frames that wait: RECOVER during power-on takes the frames of the Ethernet ports with it (R499, R524). -/
namespace Sys2Proof.Machine

/-- The bytes of a RECOVER request as a channel message: the 8 bytes that go ahead of it (R364) and its 16-byte header (R398). -/
def recoverBytes : List Byte := leBytes 8 (put 5 8 56 + put 16 32 0) ++ leBytes 16 (put 1 4 124 + put 0x47 8 112)

/-- The frame whose one segment carries that request on channel 0 of session 1. -/
def recoverFrame : RxFrame :=
  { Tests.rxFrame 0x10 1 recoverBytes with hdr := put 0x10 8 240 + put 1 1 239 + put 1 1 238 + put 1 16 216 }

/-- Step 6 of the power-on order, with a host session that holds every right; behind its RECOVER a KEEPALIVE waits at Ethernet port 0. -/
def recoverAtPowerOn : State :=
  { Tests.s0 with power := .starting, life := { Tests.s0.life with step := 6 }, rx := [recoverFrame, Tests.rxFrame 7 1 []] }

theorem oldest_recoverAtPowerOn : Oldest recoverAtPowerOn 0x10 recoverFrame [Tests.rxFrame 7 1 []] where
  rx := rfl
  frame := by decide +kernel
  takes := by decide +kernel

/-- The frames that wait after a step. -/
def rxAfter : Host.Outcome State Fault Refusal → Option (List RxFrame)
  | .next t => some t.rx
  | _ => none

/-- R499: RECOVER takes the wafer's power, and with it the frames received at the Ethernet ports. -/
theorem rxAfter_brolerMsg_recoverAtPowerOn : rxAfter (exec .brolerMsg recoverAtPowerOn) = some [] := by decide +kernel

/-- Refutes O39: a BROLER_MSG that completes a RECOVER request during power-on (R524) powers the wafer down, which drops the frames that wait at the
Ethernet ports (R499); what is left is not the buffer without its oldest frame. -/
theorem not_brolerRowsTakeTheOldestFrame : ¬ Obligations.BrolerRowsTakeTheOldestFrame := by
  intro h
  obtain ⟨htakes, -, -⟩ := h .brolerMsg 0x10 0 recoverAtPowerOn (by decide)
  obtain ⟨u, hu, hrx⟩ := htakes _ _ oldest_recoverAtPowerOn
  have hlost := rxAfter_brolerMsg_recoverAtPowerOn
  rw [hu, rxAfter, hrx] at hlost
  cases hlost

end Sys2Proof.Machine
end

section
/-! SUPPORT. Failover: what a promotion makes of the member's place in its group, and what NEWMASTER makes of a rank's (R378–R380). -/
namespace Sys2Proof.Machine

/-! ### A partition's place in its group -/

/-- R379: a partition's place in its group: its role, the master's rank, the group's state and its epoch. -/
def Group.place (g : Group) : Nat × Nat × Nat × Nat := (g.role, g.master, g.st, g.epoch)

/-- R193: closing sequences takes them from their home ranks, and touches no place in a group. -/
theorem place_group_closeSeqs (s : State) (p : Nat) (qs : List Nat) (j : Nat) : (group (closeSeqs s p qs) j).place = (group s j).place :=
  List.foldlRecOn (motive := fun u => (group u j).place = (group s j).place) qs _ rfl fun u hu q _ => by
    rw [group_updGroup]
    split
    next e =>
      subst e
      change (group (toRanks (closeSeq u j q) j (openRanks u j) 16 _) j).place = _
      rw [(toRanks_only ..).group_eq rfl, (closeSeq_only ..).group_eq rfl, hu]
    next => rw [(toRanks_only ..).group_eq rfl, (closeSeq_only ..).group_eq rfl, hu]

/-! ### Promotion -/

theorem stepGone_of_no_step {s : State} {p : Nat} (h : stepOf s p = none) : stepGone s p = s := by
  rw [stepGone, h]
  rfl

theorem place_group_promote {s : State} {p : Nat} (h : stepOf s p = none) :
    (group (promote s p) p).place = (1, ownRank s p, 1, ((group s p).epoch + 1) % 65536) := by
  unfold promote
  dsimp only
  rw [(raise_only ..).group_eq rfl, place_group_closeSeqs, (toRanks_only ..).group_eq rfl,
    (Only.ite (m := 0x20000) (adoptSeqs_only ..) (Only.refl ..)).group_eq rfl, group_updGroup_same, (revertAfter_only ..).group_eq rfl,
    stepGone_of_no_step h]
  rfl

theorem exec_backupPromote_of_standing {s : State} {p : Nat} (hp : p < 16) (hg : masterGone s p = true) (hb : (group s p).backup = ownRank s p)
    (ho : objD 0 s (pidx 0x63 p) 7 = 1) (hq : promoteQuorum s p = true) : exec (.backupPromote p) s = .next (promote s p) := by
  change execBackupPromote p s = _
  simp [execBackupPromote, Nat.not_le.mpr hp, hg, hb, ho, hq]

section
variable {s : State} {ses n p g : Nat} (hp : p < 16) (h : Serves s ses 0x14) (hc : hasConfigure s ses p = true)
  (hid : g = objD 0 s (pidx 0x63 p) 1) (hg : masterGone s p = true)
include hp h hc hid hg

theorem exec_promote_of_lost_master : exec (.promote ses n p g) s =
    .next (if promoteQuorum s p then acceptReq (promote s p) ses 0x14 n else refuseReq s ses 0x14 n 0x0507) := by
  change execPromote ses n p g s = _
  rw [execPromote, if_neg (Nat.not_le.mpr hp), served_of_serves h]
  cases promoteQuorum s p <;> simp [hc, hid, hg]

end

/-! ### NEWMASTER -/

/-- R379: a rank's group once it follows the master of rank `r` at epoch `e` and step `n`. -/
def Group.following (r e n : Nat) (g : Group) : Group :=
  { g with
    epoch := e, confirmed := n, master := r, joined := [r], undo := none, waiting := [], forwarded := [], lost := []
    backup := if g.backup = r then 0xFF else g.backup }

theorem exec_newmaster_of_member {s : State} {ses e n p : Nat} (hl : linkPart s ses = some p) (hm : isMaster s p = false)
    (he : (group s p).epoch ≤ e) : exec (.newmaster ses e n) s =
      .next (emit (updGroup (finalCancels (revertAfter (stepGone s p) p n) p fun _ => true) p (Group.following (session s ses).rank e n))
        (.cascade ses 15 [e])) := by
  change Host.Outcome.next (newmasterRx s ses e n) = _
  simp only [newmasterRx, hl, hm, Nat.not_lt.mpr he, if_false, Bool.false_eq_true]
  rfl

/-- Settles O47, message by message. -/
theorem failover : Obligations.Failover := by
  refine ⟨fun p s hp hg hb ho hq => exec_backupPromote_of_standing hp hg hb ho hq, fun ses n p g s hp h hc hid hg hq => ?_,
    fun ses n p g s hp h hc hid hg hq => ?_, fun p s hs => ?_, fun ses e n p s hl hm he => ?_⟩
  · rw [exec_promote_of_lost_master hp h hc hid hg, if_pos hq]
  · rw [exec_promote_of_lost_master hp h hc hid hg, if_neg (ne_true_of_eq_false hq)]
  · have hplace := place_group_promote hs
    simp only [Group.place, Prod.mk.injEq] at hplace
    exact hplace
  · have hgroup := fun u : State =>
      ((emit_only (updGroup u p (Group.following (session s ses).rank e n)) (.cascade ses 15 [e])).group_eq rfl p).trans (group_updGroup_same ..)
    exact ⟨_, exec_newmaster_of_member hl hm he, congrArg Group.epoch (hgroup _), congrArg Group.master (hgroup _),
      congrArg Group.confirmed (hgroup _), mem_out_emit ..⟩

end Sys2Proof.Machine
end

section
/-! SUPPORT. Exports of a partition's synchronisation objects (R368–R371). -/
namespace Sys2Proof.Machine

theorem exec_exportTrigger_of_passed {p e : Nat} {s : State} (hp : p < 16) (he : e < 64)
    (hw : fld (objD 0 s (pidx 0x64 p) (e + 1)) 255 248 ≠ 0) (hen : (part s p).enable = true)
    (hc : FMap.get 0 s.exports (p * 64 + e) < syncGet s p (fld (objD 0 s (pidx 0x64 p) (e + 1)) 188 179)) :
    exec (.exportTrigger p e) s = .next (sendExport s p e (objD 0 s (pidx 0x64 p) (e + 1))) := by
  change execExportTrigger p e s = _
  rw [execExportTrigger, if_neg (not_or.mpr ⟨Nat.not_le.mpr hp, Nat.not_le.mpr he⟩)]
  exact if_pos ⟨hw, hen, hc⟩

/-- The remote write that the record `w`, the `e`-th of partition `p`'s exports, notes for session `ses` at epoch `ep`, from tile `t` (R368, R369). -/
def exportNote (s : State) (p e w ses ep t : Nat) : OutWrite :=
  { session := ses, part := p, tag := s.nextTag, queue := none, exp := e, win := fld w 178 171, epoch := ep, off := fld w 142 111
    data := spRead s t (fld w 227 205) (4 * fld w 204 189) }

/-- R369: the state in which such a write `o` is noted under the next tag, and the count of the `e`-th of the exports is raised. -/
def exportNoted (s : State) (p e : Nat) (o : OutWrite) : State :=
  { s with
    exports := FMap.set s.exports (p * 64 + e) (FMap.get 0 s.exports (p * 64 + e) + 1), outWrites := s.outWrites ++ [o]
    nextTag := (s.nextTag + 1) % 2 ^ 32 }

theorem sendExport_of_write {s : State} {p e w ses ep : Nat} {t : PTile} (hk : bitAt w 247 = false) (hd : bitAt w 94 = false)
    (ht : bitAt w 83 = false) (hs : rankSession s p (exportRank s p w) = some ses) (hx : ptile (part s p).place (fld w 239 228) = some t)
    (hep : exportEpoch s p w = some ep) (hb : spBad s t.tile (fld w 227 205) (4 * fld w 204 189) = false) :
    sendExport s p e w = emit (exportNoted s p e (exportNote s p e w ses ep t.tile)) (exportNote s p e w ses ep t.tile).msg := by
  simp only [sendExport, hk, hd, ht, hs, hx, hep, hb, Option.isNone_some, Bool.and_false, Bool.false_eq_true, if_false]
  rfl

theorem sendExport_of_no_epoch {s : State} {p w : Nat} (e : Nat) (hk : bitAt w 247 = false) (hep : exportEpoch s p w = none) :
    sendExport s p e w = s := by
  unfold sendExport
  dsimp only
  split
  · simp [hk, hep]
  · rfl

/-- Settles O37: a message leaves, and its note, its tag and its record's count are all that changes beside. -/
theorem exportsSend : Obligations.ExportsSend := by
  refine ⟨fun p e s hp he hw hen hc => exec_exportTrigger_of_passed hp he hw hen hc, ?_, fun p e w s hk hep => sendExport_of_no_epoch e hk hep⟩
  intro p e w ses ep s t hk hd ht hs hx hep hb
  have hsent := emit_only (exportNoted s p e (exportNote s p e w ses ep t.tile)) (exportNote s p e w ses ep t.tile).msg
  rw [sendExport_of_write hk hd ht hs hx hep hb]
  refine ⟨?_, hsent.outWrites rfl, mem_out_emit _ (exportNote s p e w ses ep t.tile).msg, hsent.sync rfl, hsent.sp rfl⟩
  rw [hsent.exports rfl]
  exact FMap.get_set_same

end Sys2Proof.Machine
end

section
/-! SUPPORT. Ports: their addresses, links, cages and pauses (R351–R353, R540, R541). -/
namespace Sys2Proof.Machine

theorem Only.port_eq {m : Nat} {s t : State} (h : Only m s t) (e : m.testBit 82 = false) (p : Nat) : port t p = port s p := by
  simp only [port, h.ports e]

theorem Only.portState_eq {m : Nat} {s t : State} (h : Only m s t) (hd : m.testBit 5 = false) (hl : m.testBit 62 = false)
    (hp : m.testBit 82 = false) (p : Nat) : portState t p = portState s p := by
  simp only [portState, objD, h.port_eq hp, h.dict hd, h.ldDown hl]
  rfl

theorem port_setPort_other {s : State} {p j : Nat} (x : Port) (h : j ≠ p) : port (setPort s p x) j = port s j := by
  rw [port_setPort, if_neg h]

/-! ### Addresses -/

section
variable {p a : Nat} {s : State} (hp : p < 50) (hr : portRuns s p = true)
include hp hr

theorem exec_neighborSolicitation_of_own (ha : ownAddress s p a = true) :
    exec (.neighborSolicitation p a) s = .next { s with out := OutMsg.icmp p 1 a :: s.out } := by
  change execNeighborSolicitation p a s = _
  rw [execNeighborSolicitation, if_neg (Nat.not_le.mpr hp), hr, ha]
  rfl

theorem exec_echoRequest_of_own (b : Nat) (ha : ownAddress s p a = true) :
    exec (.echoRequest p a b) s = .next { s with out := OutMsg.icmp p 2 b :: s.out } := by
  change execEchoRequest p a b s = _
  rw [execEchoRequest, if_neg (Nat.not_le.mpr hp), hr, ha]
  rfl

theorem exec_neighborAdvertisement_of_gateway (l : Nat) (h0 : a ≠ 0) (ha : a = gatewayOf s p) :
    exec (.neighborAdvertisement p a l) s = .next (setPort s p { port s p with gateway := some l }) := by
  change execNeighborAdvertisement p a l s = _
  rw [execNeighborAdvertisement, if_neg (Nat.not_le.mpr hp), hr]
  simp [h0, ← ha]

end

/-! ### Links -/

/-- A port whose link has come up or gone down has lost what it knew of the link before (R351–R353). -/
def Port.relinked (x : Port) (up : Bool) : Port := { x with link := up, gateway := none, paused := [], xoff := [] }

/-- After its own change a link brings about messages alone. -/
theorem linkChange_only_after (s : State) (p : Nat) (up : Bool) :
    Only 0x80080000000000000008100 (setPort s p ((port s p).relinked up)) (linkChange s p up) := by
  have hcond : Only 0x80080000000000000008100 (setPort s p ((port s p).relinked up)) (portCond (setPort s p ((port s p).relinked up)) p) :=
    (portCond_only ..).mono rfl
  exact Only.ite
    ((resumeTx_only ..).step rfl ((sendOpens_only ..).step rfl ((solicit_only ..).step rfl hcond)))
    ((resumeTx_only ..).step rfl hcond)

theorem port_linkChange_same (s : State) (p : Nat) (up : Bool) : port (linkChange s p up) p = (port s p).relinked up := by
  rw [(linkChange_only_after ..).port_eq rfl, port_setPort_same]

theorem port_linkChange_other {s : State} {p j : Nat} (up : Bool) (h : j ≠ p) : port (linkChange s p up) j = port s j := by
  rw [(linkChange_only_after ..).port_eq rfl, port_setPort_other _ h]

/-- R351: the state of an Ethernet port is told by its enable bit, its cage and its link. -/
theorem portState_of_ethernet {p : Nat} (s : State) (hp : p < 48) : portState s p =
    if objD 1 s 0x6010 1 p = 0 then 0
    else if (port s p).fault then 4
    else if !(port s p).present then 1
    else if (port s p).link && !(port s p).low && !s.ldDown.contains (p / 12) then 3 else 2 := by
  rw [portState, if_pos hp]

theorem portState_linkChange {p : Nat} (s : State) (up : Bool) (hp : p < 48) : portState (linkChange s p up) p =
    if objD 1 s 0x6010 1 p = 0 then 0
    else if (port s p).fault then 4
    else if !(port s p).present then 1
    else if up && !(port s p).low && !s.ldDown.contains (p / 12) then 3 else 2 := by
  have hafter := linkChange_only s p up
  rw [portState_of_ethernet _ hp, port_linkChange_same, hafter.ldDown rfl]
  simp only [objD, hafter.dict rfl]
  rfl

theorem exec_portLinkChange_up {p : Nat} {s : State} (hp : p < 48) (hs : portState s p = 2) (hl : (port s p).low = false)
    (hd : s.ldDown.contains (p / 12) = false) : exec (.portLinkChange p true) s = .next (linkChange s p true) := by
  change execPortLinkChange p true s = _
  rw [execPortLinkChange, if_neg (Nat.not_le.mpr hp)]
  dsimp only
  rw [hs, hl, hd]
  rfl

theorem exec_portLinkChange_down {p : Nat} {s : State} (hp : p < 48) : exec (.portLinkChange p false) s = .next (linkChange s p false) := by
  change execPortLinkChange p false s = _
  rw [execPortLinkChange, if_neg (Nat.not_le.mpr hp)]
  rfl

theorem exec_mgmtPortLinkChange {m : Nat} (up : Bool) (s : State) (hm : m < 2) :
    exec (.mgmtPortLinkChange m up) s = .next (linkChange s (48 + m) up) :=
  if_neg (Nat.not_le.mpr hm)

/-! ### Cages -/

/-- R540: the state in which a module is in cage `p`; above 16 W it stays in low-power mode. -/
def osfpInserted (s : State) (p c w : Nat) : State :=
  setPort (partMoved s 4 p) p { port s p with present := true, cls := c % 256, low := decide (16 < w), link := false }

theorem exec_osfpInsert_of_absent {p : Nat} {s : State} (c w : Nat) (hp : p < 48) (ha : (port s p).present = false) :
    ∃ u, exec (.osfpInsert p c w) s = .next u ∧ Only 0x100000000000000180 (osfpInserted s p c w) u := by
  have hport := (partMoved_only s 4 p).port_eq rfl p
  have hcond : Only 0x100000000000000180 (osfpInserted s p c w) (portCond (osfpInserted s p c w) p) := (portCond_only ..).mono rfl
  refine ⟨if decide (16 < w) then raiseRc (portCond (osfpInserted s p c w) p) 3 0x0615 none 4 p else portCond (osfpInserted s p c w) p, ?_,
    Only.ite ((raiseRc_only ..).step rfl hcond) hcond⟩
  change execOsfpInsert p c w s = _
  rw [execOsfpInsert, if_neg (Nat.not_le.mpr hp), ha, if_neg Bool.false_ne_true]
  dsimp only
  rw [hport]
  rfl

/-- R351: cage `p` without its module. -/
def osfpRemoved (s : State) (p : Nat) : State :=
  setPort (partMoved s 4 p) p { port s p with
    present := false, cls := 0, low := false, fault := false, stuck := false
    leftAt := if (port s p).fault then some (nowNs s) else (port s p).leftAt }

theorem exec_osfpRemove_of_present {p : Nat} {s : State} (hp : p < 48) (ha : (port s p).present = true) :
    exec (.osfpRemove p) s = .next (linkChange (osfpRemoved s p) p false) := by
  change execOsfpRemove p s = _
  rw [execOsfpRemove, if_neg (Nat.not_le.mpr hp)]
  dsimp only
  rw [ha]
  rfl

/-- R351: a port with an electrical fault, the second within 60 s where `again`. -/
def elecFaulted (s : State) (p : Nat) (again : Bool) : State := linkChange (setPort s p { port s p with fault := true, stuck := again }) p false

theorem exec_portElecFault_of_present {p : Nat} {s : State} (hp : p < 48) (ha : (port s p).present = true) (hf : (port s p).fault = false)
    (he : objD 1 s 0x6010 1 p ≠ 0) : ∃ again u, exec (.portElecFault p) s = .next u ∧ Only 0x900000000000000180 (elecFaulted s p again) u := by
  refine ⟨(port s p).leftAt.any fun t => decide (nowNs s < t + 60000000000), _, ?_,
    (raiseRc_only _ 3 0x0620 none 4 p 0).step rfl ((protective_only _ 4 p 0x0620).step rfl ((kennelEvent_only _ 17 4 p 0 0x0620 0).mono rfl))⟩
  change execPortElecFault p s = _
  rw [execPortElecFault, if_neg (Nat.not_le.mpr hp)]
  have hchecks : (!(port s p).present || (port s p).fault || objD 1 s 0x6010 1 p == 0) = false := by simp [ha, hf, he]
  dsimp only
  rw [hchecks]
  rfl

theorem portState_elecFaulted {p : Nat} {s : State} (again : Bool) (hp : p < 48) (he : objD 1 s 0x6010 1 p ≠ 0) :
    portState (elecFaulted s p again) p = 4 := by
  rw [elecFaulted, portState_linkChange _ _ hp, port_setPort_same]
  exact (if_neg he).trans (if_pos rfl)

/-! ### Pauses -/

/-- R352: port `p` with other pauses, and what can be sent again sent. -/
def repaused (s : State) (p : Nat) (m : FMap Nat) : State := resumeTx (setPort s p { port s p with paused := m })

theorem port_repaused_same (s : State) (p : Nat) (m : FMap Nat) : port (repaused s p m) p = { port s p with paused := m } := by
  rw [repaused, (resumeTx_only ..).port_eq rfl, port_setPort_same]

theorem port_repaused_other {s : State} {p j : Nat} (m : FMap Nat) (h : j ≠ p) : port (repaused s p m) j = port s j := by
  rw [repaused, (resumeTx_only ..).port_eq rfl, port_setPort_other _ h]

theorem exec_pfcFrame_of_one {p k : Nat} {s : State} (v : Nat) (hp : p < 48) (hr : portRuns s p = true) (hk : k < 8)
    (hb : bitAt (objD 0 s 0x6010 7 p) k = true) : exec (.pfcFrame p [(k, v)]) s = .next (repaused s p
      (if v = 0 then FMap.del (port s p).paused k else FMap.set (port s p).paused k (nowNs s + ceilDiv (v % 65536 * 64) 100))) := by
  change execPfcFrame p [(k, v)] s = _
  rw [execPfcFrame, if_neg (Nat.not_le.mpr hp), hr]
  simp [hk, hb, repaused]

theorem exec_pfcPauseExpire_of_over {p k t : Nat} {s : State} (hp : p < 48) (hf : FMap.find (port s p).paused k = some t) (ht : t ≤ nowNs s) :
    exec (.pfcPauseExpire p k) s = .next (repaused s p (FMap.del (port s p).paused k)) := by
  change execPfcPauseExpire p k s = _
  rw [execPfcPauseExpire, if_neg (Nat.not_le.mpr hp), hf]
  exact if_pos ht

/-- Settles O43, command by command. -/
theorem portCommands : Obligations.PortCommands := by
  refine ⟨?asked, ?gateway, ?up, ?down, ?mgmt, ?insert, ?remove, ?fault, ?pfc, ?expire⟩
  case asked =>
    intro p a b s hp hr ha
    exact ⟨⟨_, exec_neighborSolicitation_of_own hp hr ha, rfl⟩, ⟨_, exec_echoRequest_of_own hp hr b ha, rfl⟩⟩
  case gateway =>
    intro p a l s hp hr h0 ha
    exact ⟨_, exec_neighborAdvertisement_of_gateway hp hr l h0 ha, port_setPort_same .., fun j hj => port_setPort_other _ hj⟩
  case up =>
    intro p s hp hs hl hd
    refine ⟨_, exec_portLinkChange_up hp hs hl hd, ?_, fun j hj => port_linkChange_other _ hj⟩
    have hbefore := portState_of_ethernet s hp
    rw [portState_linkChange s true hp]
    grind
  case down =>
    intro p s hp
    refine ⟨_, exec_portLinkChange_down hp, by rw [port_linkChange_same]; rfl, fun hs => ?_, fun j hj => port_linkChange_other _ hj⟩
    have hbefore := portState_of_ethernet s hp
    rw [portState_linkChange s false hp]
    grind
  case mgmt =>
    intro m up s hm
    exact ⟨_, exec_mgmtPortLinkChange up s hm, by rw [port_linkChange_same]; rfl, fun j hj => port_linkChange_other _ hj⟩
  case insert =>
    intro p c w s hp ha
    obtain ⟨u, hexec, hu⟩ := exec_osfpInsert_of_absent c w hp ha
    refine ⟨u, hexec, ?_, fun j hj => ?_⟩
    · rw [hu.port_eq rfl, osfpInserted, port_setPort_same]
    · rw [hu.port_eq rfl, osfpInserted, port_setPort_other _ hj, (partMoved_only ..).port_eq rfl]
  case remove =>
    intro p s hp ha
    have hport := port_linkChange_same (osfpRemoved s p) p false
    rw [osfpRemoved, port_setPort_same] at hport
    refine ⟨_, exec_osfpRemove_of_present hp ha, congrArg Port.present hport, congrArg Port.fault hport, congrArg Port.link hport, fun j hj => ?_⟩
    rw [port_linkChange_other _ hj, osfpRemoved, port_setPort_other _ hj, (partMoved_only ..).port_eq rfl]
  case fault =>
    intro p s hp ha hf he
    obtain ⟨again, u, hexec, hu⟩ := exec_portElecFault_of_present hp ha hf he
    refine ⟨u, hexec, ?_, ?_, fun j hj => ?_⟩
    · rw [hu.portState_eq rfl rfl rfl, portState_elecFaulted again hp he]
    · rw [hu.port_eq rfl, elecFaulted, port_linkChange_same]
      rfl
    · rw [hu.port_eq rfl, elecFaulted, port_linkChange_other _ hj, port_setPort_other _ hj]
  case pfc =>
    intro p k v s hp hr hk hb
    refine ⟨_, exec_pfcFrame_of_one v hp hr hk hb, fun hv => ?_, fun hv => ?_, fun j hj => port_repaused_other _ hj⟩
    · rw [port_repaused_same, if_pos hv]
      exact FMap.find_del_same
    · rw [port_repaused_same, if_neg hv]
      exact FMap.find_set_same
  case expire =>
    intro p k t s hp hf ht
    refine ⟨_, exec_pfcPauseExpire_of_over hp hf ht, ?_, fun j hj => port_repaused_other _ hj⟩
    rw [port_repaused_same]
    exact FMap.find_del_same

end Sys2Proof.Machine
end

section
/-! SUPPORT. Received frames: the buffer of a port and the frames that it discards (R350, R352, R353, R357). -/
namespace Sys2Proof.Machine

/-- R352: flow control changes the port's own state and sends PFC frames; it touches no session and no buffer. -/
theorem flowControl_only_port (s : State) (p pri : Nat) : Only 0x80400000000000000000000 s (flowControl s p pri) := by
  have hsent : ∀ (x : Port) (m : OutMsg), routes m = [] → Only 0x80400000000000000000000 s (emit (setPort s p x) m) := fun x m hm => by
    rw [emit, hm]
    exact Only.set_out rfl ((setPort_only ..).mono rfl) _
  unfold flowControl
  exact Only.ite (Only.refl ..) (Only.ite (hsent _ _ rfl) (Only.ite (hsent _ _ rfl) (Only.refl ..)))

/-- R350, R354: a received frame as it waits in the buffer of port `p`. -/
def receivedFrame (p : Nat) (e : Envelope) (bs : List Byte) : RxFrame :=
  { port := p, pri := e.pri, len := e.len, udp := e.etherType == 0x86DD, addr := e.addr, hdr := leNat (bs.take 32)
    payload := (bs.drop 32).take (bs.length - 36) }

/-- R350, R353, R357: the frame is good for port `p`, whose buffer has room for it. -/
def frameFits (s : State) (p : Nat) (e : Envelope) (bs : List Byte) : Bool :=
  envelopeOk s p e && brolerOk bs && sessionOk s (leNat (bs.take 32)) (decide (48 ≤ p)) && encapOk s (leNat (bs.take 32)) e
    && !decide (524288 < buffered s p e.pri + e.len)

theorem frameFits_eq_not (s : State) (p : Nat) (e : Envelope) (bs : List Byte) :
    (!envelopeOk s p e || !brolerOk bs || !sessionOk s (leNat (bs.take 32)) (decide (48 ≤ p)) || !encapOk s (leNat (bs.take 32)) e
      || decide (524288 < buffered s p e.pri + e.len)) = !frameFits s p e bs := by
  simp only [frameFits, Bool.not_and, Bool.not_not]

theorem buffered_countPort (s : State) (p el q pri : Nat) : buffered (countPort s p el) q pri = buffered s q pri := by
  rw [buffered, (countPort_only ..).rx rfl]
  rfl

section
variable {p : Nat} {e : Envelope} {bs : List Byte} {s : State} (hp : p < 50) (hr : portRuns s p = true)
include hp hr

theorem exec_frameReceive_of_fits (hf : frameFits (countPort s p 10) p e bs = true)
    (he : epochOff (countPort s p 10) (leNat (bs.take 32)) = none) : exec (.frameReceive p e bs) s =
      .next (flowControl { countPort s p 10 with rx := s.rx ++ [receivedFrame p e bs] } p e.pri) := by
  change execFrameReceive p e bs s = _
  rw [execFrameReceive, if_neg (Nat.not_le.mpr hp), hr]
  dsimp only
  rw [frameFits_eq_not, hf, he, (countPort_only ..).rx rfl]
  rfl

theorem exec_frameReceive_of_not_fits (hf : frameFits (countPort s p 10) p e bs = false) :
    exec (.frameReceive p e bs) s = .next (countPort (countPort s p 10) p 11) := by
  change execFrameReceive p e bs s = _
  rw [execFrameReceive, if_neg (Nat.not_le.mpr hp), hr]
  dsimp only
  rw [frameFits_eq_not, hf]
  rfl

end

/-- R351: the two counters of an Ethernet port are apart. -/
theorem objD_countPort_other {p el j : Nat} (s : State) (hp : p < 48) (hj : j ≠ el) :
    objD 0 (countPort s p el) 0x6010 j p = objD 0 s 0x6010 j p := by
  rw [countPort, if_pos hp, addObj, objD_setObj, if_neg]
  simp only [objKey]
  omega

theorem objD_countPort_same {p : Nat} (s : State) (el : Nat) (hp : p < 48) :
    objD 0 (countPort s p el) 0x6010 el p = (objD 0 s 0x6010 el p + 1) % 2 ^ 64 := by
  rw [countPort, if_pos hp, addObj, objD_setObj_same]

/-- Settles O44: whether the frame fits decides between the buffer and the port's discards. -/
theorem framesReceived : Obligations.FramesReceived := by
  rintro p e bs s u hp hr rfl
  refine ⟨fun henv hbs hses henc hroom hepoch => ?_, fun hbad => ?_⟩
  · have hfits : frameFits (countPort s p 10) p e bs = true := by
      simp [frameFits, henv, hbs, hses, henc, buffered_countPort, Nat.not_lt.mpr hroom]
    have hflow := flowControl_only_port { countPort s p 10 with rx := s.rx ++ [receivedFrame p e bs] } p e.pri
    have hcount := countPort_only s p 10
    exact ⟨_, receivedFrame p e bs, exec_frameReceive_of_fits hp hr hfits hepoch, hflow.rx rfl, rfl, rfl, rfl,
      (hflow.sessions rfl).trans (hcount.sessions rfl), (hflow.parts rfl).trans (hcount.parts rfl),
      (hflow.queues rfl).trans (hcount.queues rfl)⟩
  · have hfits : frameFits (countPort s p 10) p e bs = false := by
      rw [frameFits, buffered_countPort]
      rcases hbad with h | h | h | h | h
      all_goals simp [h]
    have hcounts : Only 0x20 s (countPort (countPort s p 10) p 11) := (countPort_only ..).step rfl (countPort_only ..)
    refine ⟨exec_frameReceive_of_not_fits hp hr hfits, hcounts.sessions rfl, hcounts.rx rfl, fun hp48 => ?_⟩
    rw [objD_countPort_same _ _ hp48, objD_countPort_other s hp48 (by decide)]

end Sys2Proof.Machine
end

section
/-! SUPPORT. The messages of a group step, each as the one change of the group that its receipt makes (R375–R377). -/
namespace Sys2Proof.Machine

theorem mem_addRank (l : List Nat) (r : Nat) : r ∈ addRank l r := by
  unfold addRank
  split
  next h => exact List.contains_iff_mem.mp h
  next => exact List.mem_append_right _ (List.mem_singleton_self r)

theorem group_updGroup_other {s : State} {p j : Nat} (f : Group → Group) (h : j ≠ p) : group (updGroup s p f) j = group s j := by
  rw [group_updGroup, if_neg h]

/-! ### At a member -/

section
variable {s : State} {ses p : Nat} (hl : linkPart s ses = some p) (hm : isMember s p = true)
include hl hm

theorem exec_stepgo_of_member (n g : Nat) (binds : List Nat) (he : (part s p).enable = true) (hr : (group s p).master = (session s ses).rank) :
    exec (.stepgo ses n g binds) s = .next (goWaiting
      (updGroup s p fun y => { y with waiting := y.waiting ++ [{ session := ses, step := n, prog := g, binds := binds }] }) p) := by
  change Host.Outcome.next (stepgoRx s ses n g binds) = _
  simp only [stepgoRx, hl, hm, he, hr, beq_self_eq_true, Bool.and_self, if_true]

/-- R375: the decision of COMMIT's words, ten for each slot, for a slot of the running step. -/
def commitDecided (words : List Nat) (b : SlotB) : SlotB :=
  match (tens words (words.length / 10)).find? fun d => fld (d.getD 0 0) 63 56 == b.slot with
  | none => b
  | some d => commitSlotOf b d

theorem exec_groupCommit_of_member {n : Nat} {r : StepRun} (words : List Nat) (hs : stepOf s p = some r) (hn : r.group = some n) :
    exec (.groupCommit ses n words) s = .next (tryCommit (endIfMasked
      (updGroup (updStep s p fun r => { r with slots := r.slots.map (commitDecided words) }) p fun y => { y with commit := true }) p) p) := by
  have hany : ((stepOf s p).any fun r => r.group == some n) = true := by simp [hs, hn]
  change Host.Outcome.next (commitRx s ses n words) = _
  simp only [commitRx, hl, hm, hany, Bool.and_self, if_true]
  rfl

theorem exec_boundary_of_member (n : Nat) (ws : List Nat) : exec (.boundary ses n ws) s = .next (emit
    (updGroup s p fun y => { y with table := tableApply y.table ws, tableAt := n }) (.cascade ses 8 [n])) := by
  change Host.Outcome.next (boundaryRx s ses n ws) = _
  simp only [boundaryRx, hl, hm, if_true]

theorem exec_confirm_of_member (n : Nat) (hr : (group s p).master = (session s ses).rank) : exec (.confirm ses n) s = .next (goWaiting
    (updGroup s p fun y => { y with confirmed := n, undo := y.undo.filter fun u => decide (n < u.step) }) p) := by
  change Host.Outcome.next (confirmRx s ses n) = _
  simp only [confirmRx, hl, hm, hr, beq_self_eq_true, Bool.and_self, if_true]

theorem exec_groupMasking_of_final {q fin : Nat} {x : Seq} (slot last : Nat) (hx : seqOf s p q = some x) (hf : fin ≠ 0) :
    exec (.groupMasking ses q slot fin last) s = .next (finalCancels
      (updGroup (setSeq s p q { x with cancelled := true, lastStep := if last ≠ 0 then some (last - 1) else x.lastStep }) p
        fun y => { y with forwarded := y.forwarded.filter fun f => f % 2 ^ 32 != q }) p (· == q)) := by
  change Host.Outcome.next (maskingRx s ses q slot fin last) = _
  simp only [maskingRx, hl, hm, hx, hf, ne_eq, not_false_eq_true, true_and, Bool.not_true, Bool.false_eq_true, if_false, if_true]

end

/-! ### At the master -/

section
variable {s : State} {ses n p : Nat} (h : masterOf s ses n = some p)
include h

/-- R375: the master notes that a rank has sent MASKS. -/
def masksNoted (s : State) (ses p : Nat) : State := updGroup s p fun y => { y with masks := addRank y.masks (session s ses).rank }

theorem exec_masks_of_master (slots : List Nat) : exec (.masks ses n slots) s = .next
    (if (stepOf s p).any fun r => r.group == some n && !r.committed then
      tryCommit (endIfMasked (slots.foldl (fun s i => maskSlot s p i false 0) (masksNoted s ses p)) p) p
    else masksNoted s ses p) := by
  change Host.Outcome.next (masksRx s ses n slots) = _
  simp only [masksRx, h]
  rfl

theorem exec_committed_of_master : exec (.committed ses n) s = .next (groupBoundary
    (updGroup s p fun y => { y with done := addRank y.done (session s ses).rank }) p) := by
  change Host.Outcome.next (committedRx s ses n) = _
  simp only [committedRx, h]

end

theorem exec_boundaryAck_of_sent {s : State} {ses n p : Nat} {r : StepRun} (hl : linkPart s ses = some p) (hp : (group s p).posting = some r)
    (hn : r.group = some n) (hs : (group s p).sent = true) (hb : (group s p).backup = (session s ses).rank) :
    exec (.boundaryAck ses n) s = .next (postGroup s p r) := by
  change Host.Outcome.next (boundaryAckRx s ses n) = _
  simp only [boundaryAckRx, hl, hp, hn, hs, hb, and_self, if_true]

/-- R377: the state in which the master notes a forwarded cancel of sequence `q`, and cancels it. -/
def cancelNoted (s : State) (ses p q : Nat) (x : Seq) : State :=
  setSeq (updGroup s p fun y => { y with forwarded := y.forwarded ++ [(session s ses).rank * 2 ^ 32 + q] }) p q { x with cancelled := true }

theorem exec_cancelForward_of_live {s : State} {ses q p : Nat} {x : Seq} (hl : linkPart s ses = some p) (hm : isMaster s p = true)
    (hx : seqOf s p q = some x) :
    ∃ u, exec (.cancelForward ses q) s = .next u ∧ Only 0xa0080000000000000000020 (cancelNoted s ses p q x) u := by
  have hseq : seqOf (updGroup s p fun y => { y with forwarded := y.forwarded ++ [(session s ses).rank * 2 ^ 32 + q] }) p q = some x := hx
  refine ⟨cancelForwardRx s ses q, rfl, ?_⟩
  simp only [cancelForwardRx, hl, hm, hseq, Bool.not_true, Bool.false_eq_true, if_false]
  exact Only.ite (Only.refl ..) ((finalForwards_only ..).step rfl ((addObj_only ..).mono rfl))

/-- Settles O46, message by message. -/
theorem groupStepMessages : Obligations.GroupStepMessages := by
  refine ⟨?stepgo, ?masks, ?commit, ?committed, ?boundary, ?ack, ?confirm, ?cancel, ?masking⟩
  case stepgo =>
    intro ses n g p binds s hl hm he hr
    exact ⟨_, exec_stepgo_of_member hl hm n g binds he hr, congrArg Group.waiting (group_updGroup_same ..),
      fun j hj => group_updGroup_other _ hj, (updGroup_only ..).parts rfl⟩
  case masks =>
    intro ses n p slots s h
    refine ⟨masksNoted s ses p, ?_, (updGroup_only ..).parts rfl, fun hrun => ?_, fun hrun => ?_⟩
    · rw [masksNoted, group_updGroup_same]
      exact mem_addRank ..
    · rw [exec_masks_of_master h, if_neg (ne_true_of_eq_false hrun)]
    · rw [exec_masks_of_master h, if_pos hrun]
  case commit =>
    intro ses n p words s r hl hm hs hn
    refine ⟨_, exec_groupCommit_of_member hl hm words hs hn, congrArg Group.commit (group_updGroup_same ..), ?_⟩
    rw [(updGroup_only ..).stepOf_eq rfl, stepOf_updStep_same, hs]
    rfl
  case committed =>
    intro ses n p s h
    refine ⟨_, exec_committed_of_master h, ?_, (updGroup_only ..).parts rfl⟩
    rw [group_updGroup_same]
    exact mem_addRank ..
  case boundary =>
    intro ses n p ws s hl hm
    have hgroup := ((emit_only (updGroup s p fun y => { y with table := tableApply y.table ws, tableAt := n }) (.cascade ses 8 [n])).group_eq rfl
      p).trans (group_updGroup_same ..)
    exact ⟨_, exec_boundary_of_member hl hm n ws, congrArg Group.table hgroup, congrArg Group.tableAt hgroup, mem_out_emit ..⟩
  case ack =>
    intro ses n p s r hl hp hn hs hb
    exact exec_boundaryAck_of_sent hl hp hn hs hb
  case confirm =>
    intro ses n p s hl hm hr
    exact ⟨_, exec_confirm_of_member hl hm n hr, congrArg Group.confirmed (group_updGroup_same ..), congrArg Group.undo (group_updGroup_same ..)⟩
  case cancel =>
    intro ses q p s x hl hm hx
    obtain ⟨u, hexec, hu⟩ := exec_cancelForward_of_live hl hm hx
    refine ⟨u, hexec, ?_, hu.parts rfl⟩
    rw [seqOf, hu.seqs rfl]
    exact seqOf_setSeq_same ..
  case masking =>
    intro ses q slot fin last p s x hl hm hx hf
    refine ⟨_, exec_groupMasking_of_final hl hm slot last hx hf, congrArg Group.forwarded (group_updGroup_same ..), ?_⟩
    rw [seqOf, (updGroup_only ..).seqs rfl]
    exact seqOf_setSeq_same ..

end Sys2Proof.Machine
end

section
/-! SUPPORT. Messages leave and no session begins: what the end of a session, with the lists and windows that it ends, keeps (R177, R361, R365). -/
namespace Sys2Proof.Machine

/-- `u` is `s` after messages have left: nothing that has left is taken back, and no session has begun. -/
structure Sends (s u : State) : Prop where
  out : ∀ m ∈ s.out, m ∈ u.out
  absent : ∀ j, FMap.find s.sessions j = none → FMap.find u.sessions j = none

theorem Sends.refl (s : State) : Sends s s := ⟨fun _ h => h, fun _ h => h⟩

theorem Sends.trans {s t u : State} (h : Sends s t) (g : Sends t u) : Sends s u :=
  ⟨fun m hm => g.out m (h.out m hm), fun j hj => g.absent j (h.absent j hj)⟩

theorem Sends.of_only {m : Nat} {s u : State} (h : Only m s u) (hs : m.testBit 79 = false) (ho : m.testBit 91 = false) : Sends s u :=
  ⟨fun x hx => by rwa [h.out ho], fun j hj => by rwa [h.sessions hs]⟩

theorem Sends.of_eq {s t u : State} (h : Sends t u) (ho : t.out = s.out) (hs : t.sessions = s.sessions) : Sends s u :=
  ⟨fun m hm => h.out m (ho ▸ hm), fun j hj => h.absent j (hs ▸ hj)⟩

theorem Sends.foldl {α : Type} {f : State → α → State} (hf : ∀ u x, Sends u (f u x)) (l : List α) (s : State) : Sends s (l.foldl f s) :=
  List.foldlRecOn (motive := Sends s) l f (Sends.refl s) fun u hu x _ => hu.trans (hf u x)

/-! ### Frames and messages -/

theorem session_of_absent {s : State} {n : Nat} (h : FMap.find s.sessions n = none) : session s n = {} := by
  unfold session
  generalize s.sessions = m at h
  induction m with
  | nil => rfl
  | cons e m ih =>
    rw [FMap.find] at h
    rw [FMap.get_cons]
    split at h
    · cases h
    next hne => rw [if_neg hne, ih h]

theorem setSession_sends {s : State} {n : Nat} (x : Session) (h : FMap.find s.sessions n ≠ none) : Sends s (setSession s n x) where
  out _ hm := hm
  absent j hj := by
    have hne : j ≠ n := fun e => h (e ▸ hj)
    rw [setSession, FMap.find_set_other hne]
    exact hj

theorem find_setChan_ne_none (s : State) (n c : Nat) (x : Chan) : FMap.find (setChan s n c x).sessions n ≠ none := by
  simp [setChan, updSession, setSession]

theorem sendSegs_sends (s : State) (ses c : Nat) (l : List Seg) : Sends s (sendSegs s ses c l) :=
  ⟨fun _ hm => List.mem_append_right _ hm, fun _ hj => hj⟩

/-- A channel from which something can be sent is a session's. -/
theorem pump_sends (s : State) (ses c : Nat) : Sends s (pump s ses c) := by
  unfold pump
  dsimp only
  split
  · exact .refl s
  next hgo =>
    have hlives : FMap.find s.sessions ses ≠ none := fun habs => hgo (by simp [chan, session_of_absent habs])
    exact (setSession_sends _ hlives).trans ((setSession_sends _ (find_setChan_ne_none _ _ _ _)).trans (sendSegs_sends ..))

theorem enqueue_sends (s : State) (m : OutMsg) (e : Nat × Nat × Nat) : Sends s (enqueue s m e) := by
  unfold enqueue
  dsimp only
  split
  · exact .refl s
  next hst =>
    have hlives : FMap.find s.sessions e.1 ≠ none := fun habs => hst (by simp [session_of_absent habs])
    exact (setSession_sends _ hlives).trans (pump_sends _ _ _)

theorem emit_sends (s : State) (m : OutMsg) : Sends s (emit s m) :=
  Sends.trans (t := { s with out := m :: s.out }) ⟨fun _ hx => List.mem_cons_of_mem _ hx, fun _ hj => hj⟩
    (Sends.foldl (fun u e => enqueue_sends u m e) _ _)

theorem announce_sends (s : State) (p w : Nat) : Sends s (announce s p w) := Sends.foldl (fun u _ => emit_sends u _) _ s

/-! ### Lists -/

theorem postReply_sends (s : State) (p : Nat) (ws : List W256) : Sends s (postReply s p ws) := by
  unfold postReply
  dsimp only
  split
  · exact (Sends.refl _).of_eq rfl rfl
  · exact (emit_sends _ _).of_eq rfl rfl

theorem endRun_sends (s : State) (q : Nat) (r : RunList) (reason off : Nat) (step : Option Nat) : Sends s (endRun s q r reason off step) := by
  unfold endRun
  dsimp only
  split
  · exact (postReply_sends ..).trans (.of_only (doneSignal_only ..) rfl rfl)
  · exact postReply_sends ..

theorem endList_sends (s : State) (q reason off : Nat) (step : Option Nat) : Sends s (endList s q reason off step) := by
  unfold endList
  split
  · exact .refl s
  · exact (Sends.of_only (setQueue_only ..) rfl rfl).trans (endRun_sends ..)

theorem advance_sends (s : State) (q : Nat) (res : List W256) (step : Option Nat) : Sends s (advance s q res step) := by
  unfold advance
  split
  · exact .refl s
  · dsimp only
    split
    · exact (Sends.of_only (setQueue_only ..) rfl rfl).trans (endList_sends ..)
    · exact .of_only (setQueue_only ..) rfl rfl

theorem releaseOne_sends (s : State) (p e : Nat) : Sends s (releaseOne s p e) := by
  unfold releaseOne
  split
  · exact .refl s
  · dsimp only
    split
    · exact advance_sends ..
    · exact .refl s

theorem releaseWaits_sends (s : State) (p n : Nat) : Sends s (releaseWaits s p n) := by
  induction n generalizing s with
  | zero => exact .refl s
  | succ n ih => exact (Sends.foldl (fun u e => releaseOne_sends u p e) _ _).trans (ih _)

theorem completeCmd_sends (s : State) (q : Nat) (res : List W256) (step : Option Nat) : Sends s (completeCmd s q res step) :=
  (advance_sends ..).trans (releaseWaits_sends ..)

theorem refuseCmd_sends (s : State) (q reason : Nat) (res : List W256) (step : Option Nat) : Sends s (refuseCmd s q reason res step) := by
  unfold refuseCmd
  split
  · exact .refl s
  · exact (Sends.of_only (setQueue_only ..) rfl rfl).trans ((endList_sends ..).trans (releaseWaits_sends ..))

/-! ### Windows and remote writes -/

theorem windowSettle_sends (s : State) (p w : Nat) : Sends s (windowSettle s p w) := by
  have hclosed : Sends s (announce (setWindow s p w { window s p w with st := 0 }) p w) :=
    (Sends.of_only (setWindow_only ..) rfl rfl).trans (announce_sends ..)
  unfold windowSettle
  split
  · exact .refl s
  · dsimp only
    split
    · split
      · exact hclosed.trans (completeCmd_sends ..)
      · exact hclosed
    · exact hclosed

theorem dropOutWrites_sends (s : State) (ses : Nat) : Sends s (dropOutWrites s ses) := by
  refine (Sends.foldl (fun u w => ?_) _ _).of_eq rfl rfl
  split
  · exact refuseCmd_sends ..
  · exact .refl u

/-! ### The end of a session -/

/-- R361: the state in which session `ses` is CLOSED, before what else ends with it does. -/
def sessionGone (s : State) (ses : Nat) : State :=
  { s with
    sessions := FMap.del s.sessions ses, closed := FMap.set s.closed ses (nowNs s)
    debugQ := s.debugQ.map fun e => (e.1, e.2.map fun r => { r with toSend := r.toSend.filter (· != ses) }) }

theorem closeSession_sends (s : State) (ses : Nat) : Sends (sessionGone s ses) (closeSession s ses) := by
  have hdropped : Sends (sessionGone s ses) (dropOutWrites (ackRecords (sessionGone s ses) ses fun _ => true) ses) :=
    (Sends.of_only (ackRecords_only ..) rfl rfl).trans (dropOutWrites_sends ..)
  refine Sends.trans ?_ (Sends.foldl (fun u w => windowSettle_sends u _ _) _ _)
  split
  · exact hdropped.trans ((Sends.refl _).of_eq rfl rfl)
  · exact hdropped.trans ((Sends.refl _).of_eq rfl rfl)

theorem find_closeSession (s : State) (ses : Nat) : FMap.find (closeSession s ses).sessions ses = none :=
  (closeSession_sends s ses).absent ses FMap.find_del_same

theorem mem_out_closeSession {s : State} {m : OutMsg} (ses : Nat) (h : m ∈ s.out) : m ∈ (closeSession s ses).out :=
  (closeSession_sends s ses).out m h

theorem closed_closeSession (s : State) (ses : Nat) : FMap.find (closeSession s ses).closed ses = some (nowNs s) := by
  have hdropped : Only 0xc2080100000000200014880 (sessionGone s ses) (dropOutWrites (ackRecords (sessionGone s ses) ses fun _ => true) ses) :=
    (dropOutWrites_only ..).step rfl ((ackRecords_only ..).mono rfl)
  have hafter : Only 0xc3880100000000200014880 (sessionGone s ses) (closeSession s ses) :=
    Only.foldl (fun _ _ g => (windowSettle_only ..).step rfl g)
      (Only.ite (Only.set_inWrites rfl (hdropped.mono rfl) _) (Only.set_life_inWrites rfl rfl (hdropped.mono rfl) _ _))
  rw [hafter.closed rfl]
  exact FMap.find_set_same

end Sys2Proof.Machine
end

section
/-! SUPPORT. How a session opens and how an attempt ends (R358–R360, R395, R396). -/
namespace Sys2Proof.Machine

/-! ### What the checks of an opening read -/

section
variable {m : Nat} {s t : State} (h : Only m s t)
include h

theorem Only.session_eq (e : m.testBit 79 = false) (n : Nat) : session t n = session s n := by simp only [session, h.sessions e]
theorem Only.nowNs_eq (e : m.testBit 1 = false) (f : m.testBit 2 = false) : nowNs t = nowNs s := by simp only [nowNs, h.refTicks e, h.onTick f]
theorem Only.govD_eq (e : m.testBit 5 = false) (f : m.testBit 10 = false) (d p i el : Nat) : govD d t p i el = govD d s p i el := by
  simp only [govD, objD, h.dict e, h.parts f]
theorem Only.credKey_eq (e : m.testBit 5 = false) (n : Nat) : credKey t n = credKey s n := by simp only [credKey, h.dict e]
theorem Only.credRights_eq (e : m.testBit 5 = false) (n : Nat) : credRights t n = credRights s n := by simp only [credRights, objD, h.dict e]
theorem Only.credOk_eq (e : m.testBit 5 = false) (n k : Nat) : credOk t n k = credOk s n k := by
  simp only [credOk, h.credRights_eq e, h.credKey_eq e]

theorem Only.freeId_eq (e1 : m.testBit 1 = false) (e2 : m.testBit 2 = false) (e79 : m.testBit 79 = false) (e80 : m.testBit 80 = false) :
    freeId t = freeId s := by
  simp only [freeId, h.sessions e79, h.closed e80, h.nowNs_eq e1 e2]

theorem Only.linkOpenOk_eq (e5 : m.testBit 5 = false) (e10 : m.testBit 10 = false) (e79 : m.testBit 79 = false) (b : List Byte) (peer : Nat) :
    linkOpenOk t b peer = linkOpenOk s b peer := by
  simp only [linkOpenOk, groupSize, ownRank, peerEntry, h.sessions e79, h.govD_eq e5 e10, h.part_eq e10]
  rfl

theorem Only.openRefusal_eq (e5 : m.testBit 5 = false) (e10 : m.testBit 10 = false) (e79 : m.testBit 79 = false) (b : List Byte)
    (ssid dsid : Nat) (mgmt : Bool) (peer : Nat) : openRefusal t b ssid dsid mgmt peer = openRefusal s b ssid dsid mgmt peer := by
  have hcounted : counted t = counted s := by simp only [counted, h.sessions e79]
  rw [openRefusal, hcounted, h.linkOpenOk_eq e5 e10 e79]
  rfl

end

/-! ### A frame that leaves -/

theorem sentFrame_sendFrame (s : State) (p typ ses dsid reason : Nat) (payload : List Byte) :
    SentFrame (sendFrame s p typ ses dsid reason payload) p typ ses dsid reason payload :=
  ⟨s, _, _, List.mem_cons_self ..⟩

theorem sentFrame_refuseOpen (s : State) (f : RxFrame) (reason : Nat) : SentFrame (refuseOpen s f reason) f.port 5 0 (bSsid f.hdr) reason [] :=
  ⟨s, _, _, List.mem_cons_self ..⟩

theorem SentFrame.closeSession {s : State} {p typ ses dsid reason : Nat} {payload : List Byte} (h : SentFrame s p typ ses dsid reason payload)
    (n : Nat) : SentFrame (closeSession s n) p typ ses dsid reason payload :=
  let ⟨v, udp, addr, hm⟩ := h
  ⟨v, udp, addr, mem_out_closeSession n hm⟩

/-! ### The oldest frame is taken -/

/-- R352: the state in which the oldest frame `x` has left the buffer, before a session takes it. -/
def unbuffered (s : State) (x : RxFrame) (t : List RxFrame) : State := flowControl { s with rx := t } x.port x.pri

theorem unbuffered_only (s : State) (x : RxFrame) (t : List RxFrame) : Only 0x80600000000000000000000 s (unbuffered s x t) :=
  (flowControl_only_port ..).step rfl (Only.set_rx rfl (Only.refl ..) _)

theorem took_only (s : State) (x : RxFrame) (t : List RxFrame) : Only 0x80680000000000000000000 s (took s x t) :=
  (updSession_only ..).step rfl ((unbuffered_only ..).mono rfl)

theorem session_took_same (s : State) (x : RxFrame) (t : List RxFrame) : session (took s x t) (bDsid x.hdr) =
    { session s (bDsid x.hdr) with
      port := x.port, lastRx := nowNs s
      addr := if (session s (bDsid x.hdr)).kind = 2 then (session s (bDsid x.hdr)).addr else x.addr } := by
  have hsession := (unbuffered_only s x t).session_eq rfl (bDsid x.hdr)
  rw [took, session_updSession_same, ← unbuffered, hsession]

theorem session_took_other {s : State} {x : RxFrame} {j : Nat} (t : List RxFrame) (h : j ≠ bDsid x.hdr) : session (took s x t) j = session s j := by
  rw [took, session_updSession, if_neg h]
  exact (unbuffered_only s x t).session_eq rfl j

theorem takeFrame_of_open {s : State} {x : RxFrame} {t : List RxFrame} (h : Oldest s 1 x t) (f : RxFrame → State → State) :
    takeFrame s 1 f = .next (f x (unbuffered s x t)) := by
  rw [takeFrame, h.rx]
  dsimp only
  rw [if_neg (not_not_intro h.frame), if_pos rfl]
  rfl

theorem takeFrame_of_oldest {s : State} {typ : Nat} {x : RxFrame} {t : List RxFrame} (h : Oldest s typ x t) (h1 : typ ≠ 1)
    (f : RxFrame → State → State) : takeFrame s typ f = .next (f x (took s x t)) := by
  have hu := unbuffered_only s x t
  have htakes : takes (session (unbuffered s x t) (bDsid x.hdr)) typ = true := by
    rw [hu.session_eq rfl]
    exact h.takes.resolve_left h1
  rw [takeFrame, h.rx]
  dsimp only
  rw [if_neg (not_not_intro h.frame), if_neg h1, ← unbuffered, htakes, hu.nowNs_eq rfl rfl]
  rfl

/-! ### OPEN -/

/-- The session that an OPEN makes under identifier `id` (R358–R360). -/
def challenged (s : State) (f : RxFrame) (id : Nat) : Session :=
  let b := f.payload
  let k := openKind b
  let x : Session := { st := 1, kind := k, cred := openCred b, peer := bSsid f.hdr, vmin := Nat.min (openField b 0 1 % 16) 1, port := f.port
                       udp := f.udp, addr := f.addr, open_ := b, nonce := Config.nonce s.refTicks id, openedAt := nowNs s, lastRx := nowNs s
                       lastTx := nowNs s }
  if k = 2 then { x with lpart := openField b 25 1, rpart := openField b 24 1, rank := openField b 26 1, group := openField b 32 4 } else x

theorem challenged_fields (s : State) (f : RxFrame) (id : Nat) :
    (challenged s f id).st = 1 ∧ (challenged s f id).kind = openKind f.payload ∧ (challenged s f id).cred = openCred f.payload ∧
      (challenged s f id).peer = bSsid f.hdr ∧ (challenged s f id).nonce = Config.nonce s.refTicks id := by
  unfold challenged
  dsimp only
  split <;> exact ⟨rfl, rfl, rfl, rfl, rfl⟩

section
variable {s : State} {x : RxFrame} {t : List RxFrame} {k : Nat} (h : Oldest s 1 x t)
include h

theorem exec_brolerOpen_of_refusal {r : Nat} (hr : openRefusal s x.payload (bSsid x.hdr) (bDsid x.hdr) (decide (48 ≤ x.port)) k = some r) :
    exec (.brolerOpen k) s = .next (refuseOpen (unbuffered s x t) x r) := by
  change execBrolerOpen k s = _
  rw [execBrolerOpen, takeFrame_of_open h]
  dsimp only
  rw [(unbuffered_only ..).openRefusal_eq rfl rfl rfl, hr]

theorem exec_brolerOpen_of_no_refusal (hr : openRefusal s x.payload (bSsid x.hdr) (bDsid x.hdr) (decide (48 ≤ x.port)) k = none) :
    exec (.brolerOpen k) s = .next (sendFrame (setSession (unbuffered s x t) (freeId s) (challenged (unbuffered s x t) x (freeId s))) x.port 2
      (freeId s) (bSsid x.hdr) 0 (leBytes 1 (16 + Nat.min (openField x.payload 0 1 % 16) 1) ++ Config.nonce s.refTicks (freeId s))) := by
  have hu := unbuffered_only s x t
  change execBrolerOpen k s = _
  rw [execBrolerOpen, takeFrame_of_open h]
  dsimp only
  rw [hu.openRefusal_eq rfl rfl rfl, hr, hu.freeId_eq rfl rfl rfl rfl, ← hu.refTicks rfl]
  rfl

end

/-! ### CHALLENGE -/

/-- R359, R395: the initiator's session `z` once it has been challenged. -/
def Session.answering (z : Session) (f : RxFrame) : Session :=
  { z with st := 1, peer := bSsid f.hdr, vmin := openField f.payload 0 1 % 16, nonce := f.payload.drop 1 }

theorem exec_brolerChallenge_of_form {s : State} {x : RxFrame} {t : List RxFrame} {z : Session} (h : Oldest s 2 x t) (hl : x.payload.length = 17)
    (hv : openField x.payload 0 1 = 16 ∨ openField x.payload 0 1 = 17) (hz : z = (session (took s x t) (bDsid x.hdr)).answering x) :
    exec .brolerChallenge s = .next (sendFrame (setSession (took s x t) (bDsid x.hdr) z) x.port 3 (bDsid x.hdr) (bSsid x.hdr) 0
      (hmac256 ((credKey s z.cred).getD []) (proofMessage z (bDsid x.hdr) (bSsid x.hdr)))) := by
  have hform : ¬ (x.payload.length ≠ 17 ∨ openField x.payload 0 1 / 16 ≠ 1 ∨ 1 < openField x.payload 0 1 % 16) := by omega
  change execBrolerChallenge s = _
  rw [execBrolerChallenge, takeFrame_of_oldest h (by decide)]
  dsimp only
  rw [if_neg hform, (took_only ..).credKey_eq rfl, hz]
  rfl

/-! ### PROVE -/

/-- R359, R360: the state in which a PROVE has opened the session of frame `f`, and ACCEPT has been sent. -/
def proveAccepted (s : State) (f : RxFrame) : State :=
  let id := bDsid f.hdr
  let x := session s id
  let z := { x with st := 2, rights := if x.kind = 2 then 0 else credRights s x.cred, lastTx := nowNs s }
  sendFrame (setSession s id z) f.port 4 id z.peer 0
    (leBytes 2 id ++ if z.kind = 2 then leBytes 2 (group s z.lpart).epoch else leBytes 6 (fld z.rights 111 64))

theorem session_proveAccepted_same (s : State) (f : RxFrame) : session (proveAccepted s f) (bDsid f.hdr) =
    { session s (bDsid f.hdr) with
      st := 2, lastTx := nowNs s
      rights := if (session s (bDsid f.hdr)).kind = 2 then 0 else credRights s (session s (bDsid f.hdr)).cred } := by
  rw [proveAccepted, (sendFrame_only ..).session_eq rfl, session_setSession_same]

theorem session_proveAccepted_other {s : State} {f : RxFrame} {j : Nat} (h : j ≠ bDsid f.hdr) : session (proveAccepted s f) j = session s j := by
  rw [proveAccepted, (sendFrame_only ..).session_eq rfl, session_setSession, if_neg h]

theorem sentFrame_proveAccepted {s : State} {f : RxFrame} (h : (session s (bDsid f.hdr)).kind ≠ 2) :
    SentFrame (proveAccepted s f) f.port 4 (bDsid f.hdr) (session s (bDsid f.hdr)).peer 0
      (leBytes 2 (bDsid f.hdr) ++ leBytes 6 (fld (credRights s (session s (bDsid f.hdr)).cred) 111 64)) := by
  have hsent := sentFrame_sendFrame
  unfold proveAccepted
  dsimp only
  rw [if_neg h, if_neg h]
  exact hsent ..

/-- R395, R396: the payload of the PROVE `x` is the exact proof of a usable credential of its session. -/
def proofGood (s : State) (x : RxFrame) : Bool :=
  let y := session s (bDsid x.hdr)
  credOk s y.cred y.kind && x.payload == hmac256 ((credKey s y.cred).getD []) (proofMessage y y.peer (bDsid x.hdr))

theorem proofGood_took (s : State) (x : RxFrame) (t : List RxFrame) : proofGood (took s x t) x = proofGood s x := by
  have ht := took_only s x t
  rw [proofGood, session_took_same, ht.credOk_eq rfl, ht.credKey_eq rfl]
  rfl

section
variable {s : State} {x : RxFrame} {t : List RxFrame} (h : Oldest s 3 x t)
include h

theorem exec_brolerProve_of_good (hp : proofGood s x = true) : exec .brolerProve s = .next
    (if (session s (bDsid x.hdr)).kind = 2 then linkOpened (proveAccepted (took s x t) x) (bDsid x.hdr)
      else sendDebugs (proveAccepted (took s x t) x) (bDsid x.hdr)) := by
  rw [← proofGood_took s x t, proofGood] at hp
  have hkind : (session s (bDsid x.hdr)).kind = (session (took s x t) (bDsid x.hdr)).kind := by rw [session_took_same]
  change execBrolerProve s = _
  rw [execBrolerProve, takeFrame_of_oldest h (by decide), hkind]
  dsimp only
  rw [if_pos hp]
  rfl

theorem exec_brolerProve_of_bad (hp : proofGood s x = false) : exec .brolerProve s = .next
    (closeSession (sendFrame (took s x t) x.port 5 (bDsid x.hdr) (session s (bDsid x.hdr)).peer 0x0213 []) (bDsid x.hdr)) := by
  rw [← proofGood_took s x t, proofGood] at hp
  have hpeer : (session s (bDsid x.hdr)).peer = (session (took s x t) (bDsid x.hdr)).peer := by rw [session_took_same]
  change execBrolerProve s = _
  rw [execBrolerProve, takeFrame_of_oldest h (by decide), hpeer]
  dsimp only
  rw [if_neg (ne_true_of_eq_false hp)]

end

/-! ### ACCEPT, REFUSE, and the attempt that is late -/

theorem exec_brolerAccept_of_no_group {s : State} {x : RxFrame} {t : List RxFrame} (k : Nat) (h : Oldest s 4 x t)
    (hg : (session s (bDsid x.hdr)).group = 0) : exec (.brolerAccept k) s = .next
      (setSession (took s x t) (bDsid x.hdr) { session (took s x t) (bDsid x.hdr) with st := 2, lastTx := nowNs (took s x t) }) := by
  have hgroup : (session (took s x t) (bDsid x.hdr)).group = 0 := by rw [session_took_same, hg]
  change execBrolerAccept k s = _
  rw [execBrolerAccept, takeFrame_of_oldest h (by decide)]
  simp [hgroup, linkOpened]

theorem exec_brolerRefuse_of_attempt {s : State} {x : RxFrame} {t : List RxFrame} (h : Oldest s 5 x t) (hst : (session s (bDsid x.hdr)).st < 2) :
    exec .brolerRefuse s = .next (closeSession (took s x t) (bDsid x.hdr)) := by
  have hst' : (session (took s x t) (bDsid x.hdr)).st < 2 := by rwa [session_took_same]
  change execBrolerRefuse s = _
  rw [execBrolerRefuse, takeFrame_of_oldest h (by decide)]
  dsimp only
  rw [if_pos hst']

/-- Settles O40, frame by frame. -/
theorem sessionsOpen : Obligations.SessionsOpen := by
  refine ⟨fun k s x t h => ⟨fun r hr => ?refused, fun hr => ?opened⟩, ?challenge, ?prove, ?accept, ?refuse, ?late⟩
  case refused =>
    exact ⟨_, exec_brolerOpen_of_refusal h hr, sentFrame_refuseOpen .., ((refuseOpen_only ..).sessions rfl).trans ((unbuffered_only ..).sessions rfl)⟩
  case opened =>
    have hu := unbuffered_only s x t
    have hsent := sendFrame_only (setSession (unbuffered s x t) (freeId s) (challenged (unbuffered s x t) x (freeId s))) x.port 2
      (freeId s) (bSsid x.hdr) 0 (leBytes 1 (16 + Nat.min (openField x.payload 0 1 % 16) 1) ++ Config.nonce s.refTicks (freeId s))
    have hsession := (hsent.session_eq rfl (freeId s)).trans (session_setSession_same ..)
    obtain ⟨hst, hkind, hcred, hpeer, hnonce⟩ := challenged_fields (unbuffered s x t) x (freeId s)
    rw [← hsession] at hst hkind hcred hpeer hnonce
    refine ⟨_, exec_brolerOpen_of_no_refusal h hr, hst, hkind, hcred, hpeer, hnonce.trans (by rw [hu.refTicks rfl]), sentFrame_sendFrame ..,
      fun j hj => ?_⟩
    rw [hsent.sessions rfl, setSession, FMap.find_set_other hj, hu.sessions rfl]
  case challenge =>
    intro s x t h hl hv
    refine ⟨_, (session (took s x t) (bDsid x.hdr)).answering x, exec_brolerChallenge_of_form h hl hv rfl, ?_, rfl, rfl, rfl, rfl, ?_,
      sentFrame_sendFrame ..⟩
    · rw [(sendFrame_only ..).session_eq rfl, session_setSession_same]
    · rw [session_took_same]
      rfl
  case prove =>
    rintro s x t y h rfl
    refine ⟨fun hc hp => ⟨_, exec_brolerProve_of_good h (by simp [proofGood, hc, ← hp]), ?_, fun hk => ⟨?_, ?_⟩, fun j hj => ?_⟩, fun hbad => ?_⟩
    · rw [session_proveAccepted_same]
    · rw [session_proveAccepted_same, session_took_same, (took_only ..).credRights_eq rfl]
      exact if_neg hk
    · have hframe := sentFrame_proveAccepted (s := took s x t) (f := x) (by rwa [session_took_same])
      rwa [session_took_same, (took_only ..).credRights_eq rfl] at hframe
    · rw [session_proveAccepted_other hj, session_took_other t hj]
    · have hproof : proofGood s x = false := by
        rw [proofGood]
        rcases hbad with hc | hp
        · simp [hc]
        · simp [hp]
      exact ⟨_, exec_brolerProve_of_bad h hproof, find_closeSession .., (sentFrame_sendFrame ..).closeSession _⟩
  case accept =>
    intro k s x t h hg
    refine ⟨_, exec_brolerAccept_of_no_group k h hg, congrArg Session.st (session_setSession_same ..), fun j hj => ?_⟩
    rw [session_setSession, if_neg hj, session_took_other t hj]
  case refuse =>
    intro s x t h hst
    exact ⟨_, exec_brolerRefuse_of_attempt h hst, find_closeSession ..⟩
  case late =>
    intro ses s hst ho hlate
    exact ⟨if_pos ⟨hst, ho, hlate⟩, find_closeSession .., closed_closeSession ..⟩

end Sys2Proof.Machine
end

section
/-! SUPPORT. Replies and the requests that read: READ, DESCRIBE, LIST and ACKATTN; a WRITE that is refused (R398–R402, R407, R408, R411). -/
namespace Sys2Proof.Machine

/-! ### Replies -/

theorem mem_out_reply (s : State) (r : Reply) : OutMsg.reply { r with status := statusFor s r.session } ∈ (reply s r).out := mem_out_emit ..

/-- Settles O20: a reply is emitted, and what it passes on its way out is sessions and what has left the block. -/
theorem repliesLeaveTheBlock : Obligations.RepliesLeaveTheBlock := by
  intro s r
  have h := reply_only s r
  exact ⟨mem_out_reply s r, h.dict rfl, h.parts rfl, h.queues rfl, h.banks rfl, h.sp rfl, h.hbm rfl, h.attn rfl⟩

/-! ### READ, DESCRIBE, LIST and ACKATTN -/

theorem exec_read_of_values {s : State} {ses n : Nat} {items : List Nat} {l : List (Nat × Nat × Nat)} (h : Serves s ses 1)
    (hl : readItems s ses items 0 = .inr l) : exec (.read ses n items) s = .next (acceptReq s ses 1 n l) := by
  change execRead ses n items s = _
  rw [execRead, served_of_serves h, hl]

theorem exec_read_of_failure {s : State} {ses n r i w : Nat} {items : List Nat} (h : Serves s ses 1)
    (hf : readItems s ses items 0 = .inl (r, i, w)) :
    exec (.read ses n items) s = .next (refuseReq s ses 1 n r (riIdx w * 256 + riEl w) i) := by
  change execRead ses n items s = _
  rw [execRead, served_of_serves h, hf]

theorem exec_describe_of_values {s : State} {ses n : Nat} {items : List Nat} {l : List (Nat × Nat × Nat)} (h : Serves s ses 3)
    (hl : describeItems s ses items 0 = .inr l) : exec (.describe ses n items) s = .next (acceptReq s ses 3 n l) := by
  change execDescribe ses n items s = _
  rw [execDescribe, served_of_serves h, hl]

theorem exec_list {s : State} {ses : Nat} (n a b : Nat) (h : Serves s ses 4) : exec (.list ses n a b) s = .next (acceptReq s ses 4 n
    ((allIndexes.filter fun i => decide (a ≤ i) && decide (i ≤ b) && readRight s ses i).map fun i => (1, 2, i))) := by
  change execList ses n a b s = _
  rw [execList, served_of_serves h]

/-- R408: the state after a session's credential has acknowledged the causes up to `c`. -/
def acked (s : State) (ses c : Nat) : State :=
  { s with attn := { s.attn with
      acks := FMap.set s.attn.acks (session s ses).cred (Nat.max (FMap.get 0 s.attn.acks (session s ses).cred) c) } }

theorem exec_ackattn {s : State} {ses : Nat} (n c : Nat) (h : Serves s ses 5) :
    exec (.ackattn ses n c) s = .next (acceptReq (acked s ses c) ses 5 n) := by
  change execAckattn ses n c s = _
  rw [execAckattn, served_of_serves h]
  rfl

/-- Settles O21, request by request. -/
theorem readRequests : Obligations.ReadRequests :=
  ⟨fun _ _ _ _ _ h hl => exec_read_of_values h hl, fun _ _ _ _ _ _ _ h hf => exec_read_of_failure h hf,
    fun _ _ _ _ _ h hl => exec_describe_of_values h hl, fun _ n a b _ h => exec_list n a b h,
    fun ses n c s h => ⟨acked s ses c, exec_ackattn n c h, FMap.get_set_same, fun _ hk => FMap.get_set_other hk, rfl, rfl⟩⟩

theorem only_exec_of_reads {c : Instr} {s t : State} {ses n a b : Nat} {items : List Nat}
    (hc : c = .read ses n items ∨ c = .describe ses n items ∨ c = .list ses n a b) (h : exec c s = .next t) :
    Only 0x80080000000000000000000 s t := by
  rcases hc with rfl | rfl | rfl
  · exact execRead_only ses n items s t h
  · exact execDescribe_only ses n items s t h
  · exact execList_only ses n a b s t h

/-- Settles O22: the reading requests change sessions and what has left the block, and nothing else. -/
theorem readsNeverChangeTheDictionary : Obligations.ReadsNeverChangeTheDictionary := by
  intro c s t ses n a b items hc h
  have ht := only_exec_of_reads hc h
  exact ⟨ht.dict rfl, ht.pend rfl, ht.parts rfl, ht.banks rfl, ht.attn rfl, ht.sp rfl, ht.hbm rfl, ht.events rfl, ht.kennel rfl, ht.life rfl⟩

/-! ### A WRITE that is refused -/

theorem writeRequest_of_failure {s : State} {ses n r i : Nat} {o : Option Nat} {x : WriteItem} {items : List WriteItem} (h : Serves s ses 2)
    (hf : itemsFail s ses (items.length == 1) items 0 = some (r, o, i, x)) :
    writeRequest ses n items s = .next (refuseReq s ses 2 n r (o.getD (wiIdx x * 256 + wiEl x)) i) := by
  rw [writeRequest, served_of_serves h, hf]

/-- Settles O23: the items are judged before any is applied. -/
theorem refusedRequestsHaveNoEffect : Obligations.RefusedRequestsHaveNoEffect := by
  intro ses n r i o x items s h hf
  have ht := refuseReq_only s ses 2 n r (o.getD (wiIdx x * 256 + wiEl x)) i
  exact ⟨_, writeRequest_of_failure h hf, rfl, ht.dict rfl, ht.pend rfl, ht.parts rfl, ht.queues rfl, ht.banks rfl, ht.images rfl,
    ht.power rfl, ht.life rfl, ht.ports rfl⟩

end Sys2Proof.Machine
end

section
/-! SUPPORT. A WRITE that is carried out: the item of the documented form, selectors, and the registers of an event source (R385, R388, R389, R401,
R424, R425). -/
namespace Sys2Proof.Machine

/-! ### The item of the documented form -/

theorem typLen_le (t : Nat) : typLen t ≤ 8 := by
  unfold typLen
  split <;> omega

theorem leNat_leBytes (n v : Nat) : leNat (leBytes n v) = v % 256 ^ n := by
  induction n generalizing v with
  | zero => rw [Nat.pow_zero, Nat.mod_one]; rfl
  | succ n ih =>
    change (BitVec.ofNat 8 v).toNat + 256 * leNat (leBytes n (v / 256)) = _
    rw [ih, BitVec.toNat_ofNat, Nat.pow_succ' (m := 256), Nat.mod_mul]

section
variable {idx el : Nat} {d : ObjDesc} (v : Nat) (hd : objDesc idx el = some d) (hi : idx < 65536) (he : el < 256)
include hd

theorem toNat_head_itemFor (hi : idx < 65536) (he : el < 256) :
    (itemFor idx el v).head.toNat = idx * 2 ^ 48 + el * 2 ^ 40 + d.typ % 16 * 2 ^ 36 + typLen d.typ := by
  have ht := typLen_le d.typ
  simp only [itemFor, hd, put, Option.map_some, Option.getD_some, BitVec.toNat_ofNat]
  omega

theorem wiV_itemFor : wiV (itemFor idx el v) = v % 2 ^ (8 * typLen d.typ) := by
  rw [Nat.pow_mul]
  simp only [wiV, itemFor, hd, Option.map_some, Option.getD_some, leNat_leBytes]

include hi he

theorem wiIdx_itemFor : wiIdx (itemFor idx el v) = idx := by
  have ht := typLen_le d.typ
  rw [wiIdx, toNat_head_itemFor v hd hi he, fld]
  omega

theorem wiEl_itemFor : wiEl (itemFor idx el v) = el := by
  have ht := typLen_le d.typ
  rw [wiEl, toNat_head_itemFor v hd hi he, fld]
  omega

theorem wiLen_itemFor : wiLen (itemFor idx el v) = typLen d.typ := by
  have ht := typLen_le d.typ
  rw [wiLen, toNat_head_itemFor v hd hi he]
  omega

theorem persistBytes_itemFor : persistBytes [itemFor idx el v] ≤ 16 := by
  have ht := typLen_le d.typ
  simp only [persistBytes, List.map_cons, List.map_nil, List.foldl_cons, List.foldl_nil, wiIdx_itemFor v hd hi he, wiEl_itemFor v hd hi he, hd,
    wiLen_itemFor v hd hi he]
  have hb : 8 + (typLen d.typ + 7) / 8 * 8 ≤ 16 := by omega
  split
  · exact Nat.le_trans (Nat.le_of_eq (Nat.zero_add _)) hb
  · exact Nat.zero_le _

theorem applyItems_itemFor (s : State) (ses n : Nat) (hen : d.enable = false) : applyItems s ses n [itemFor idx el v] =
    .inr (applyItem s ses idx el (unitFor s ses d) (v % 2 ^ (8 * typLen d.typ)) d, true) := by
  rw [applyItems, wiIdx_itemFor v hd hi he, wiEl_itemFor v hd hi he, wiV_itemFor v hd, hd]
  dsimp only
  rw [hen, if_neg Bool.false_ne_true, applyItems]

end

/-! ### WRITE -/

theorem itemsFail_singleton {s : State} {ses i : Nat} {alone : Bool} {x : WriteItem} (h : itemFail s ses alone x = none) :
    itemsFail s ses alone [x] i = none := by
  rw [itemsFail, h]
  rfl

theorem writeRequest_of_applied {s t : State} {ses n : Nat} {items : List WriteItem} {now : Bool} (h : Serves s ses 2)
    (hf : itemsFail s ses (items.length == 1) items 0 = none) (hp : persistBytes items ≤ 3968)
    (ht : applyItems s ses n items = .inr (t, now)) : writeRequest ses n items s = .next (if now then acceptReq t ses 2 n else t) := by
  rw [writeRequest, served_of_serves h, hf]
  simp only [Nat.not_lt.mpr hp, if_false, ht]

/-- R401: a WRITE of one parameter that is no enable bit, in the documented form. -/
theorem writeRequest_of_writes {s : State} {ses idx el v : Nat} {d : ObjDesc} (n : Nat) (h : Writes s ses idx el v)
    (hd : objDesc idx el = some d) (hen : d.enable = false) (hi : idx < 65536) (he : el < 256) :
    writeRequest ses n [itemFor idx el v] s =
      .next (acceptReq (applyItem s ses idx el (unitFor s ses d) (v % 2 ^ (8 * typLen d.typ)) d) ses 2 n) :=
  writeRequest_of_applied h.serves (itemsFail_singleton h.item) (Nat.le_trans (persistBytes_itemFor v hd hi he) (by decide))
    (applyItems_itemFor v hd hi he s ses n hen)

theorem exec_selectorWrite_of_writes {s : State} {ses idx el v : Nat} {d : ObjDesc} (n : Nat) (h : Writes s ses idx el v)
    (hd : objDesc idx el = some d) (hs : d.selector = true) (hen : d.enable = false) (hi : idx < 65536) (he : el < 256) :
    exec (.selectorWrite ses n idx el v) s = .next (acceptReq (setSel s ses idx el (v % 2 ^ (8 * typLen d.typ))) ses 2 n) := by
  change execSelectorWrite ses n idx el v s = _
  rw [execSelectorWrite, hd, Option.map_some, Option.getD_some, if_pos hs, writeRequest_of_writes n h hd hen hi he, applyItem, if_pos hs]

/-! ### The registers of an event source -/

section
variable {k : Nat} (hk : k < 512)
include hk

/-- R424: the sources lie in two indexes of 256 elements. -/
theorem source_half : k / 256 = 0 ∨ k / 256 = 1 := by omega

theorem objDesc_evConfig : objDesc (0x9100 + k / 256) (k % 256) = some (rwp U16 0x8810) := by
  rcases source_half hk with e | e <;> rw [e] <;> rfl

theorem objDesc_evStatus : objDesc (0x9200 + k / 256) (k % 256) = some (rw U8) := by
  rcases source_half hk with e | e <;> rw [e] <;> rfl

theorem applyItem_evConfig (s : State) (ses u v : Nat) :
    applyItem s ses (0x9100 + k / 256) (k % 256) u v (rwp U16 0x8810) = evConfigure s k v := by
  have hnum : (0x9100 + k / 256 - 0x9100) * 256 + k % 256 = k := by omega
  conv => rhs; rw [← hnum]
  rcases source_half hk with e | e <;> rw [e] <;> rfl

theorem applyItem_evStatus (s : State) (ses u : Nat) :
    applyItem s ses (0x9200 + k / 256) (k % 256) u 16 (rw U8) = setEv s k { evSrc s k with overrun := false } := by
  have hnum : (0x9200 + k / 256 - 0x9200) * 256 + k % 256 = k := by omega
  conv => rhs; rw [← hnum]
  rcases source_half hk with e | e <;> rw [e] <;> rfl

theorem exec_evConfigWrite_of_writes {s : State} {ses v : Nat} (n : Nat) (hv : v < 65536) (h : Writes s ses (0x9100 + k / 256) (k % 256) v) :
    exec (.evConfigWrite ses n k v) s = .next (acceptReq (evConfigure s k v) ses 2 n) := by
  change execEvConfigWrite ses n k v s = _
  rw [execEvConfigWrite, if_neg (Nat.not_le.mpr hk), writeRequest_of_writes n h (objDesc_evConfig hk) rfl (by omega) (by omega),
    applyItem_evConfig hk]
  exact congrArg (fun x => Host.Outcome.next (acceptReq (evConfigure s k x) ses 2 n)) (Nat.mod_eq_of_lt hv)

theorem exec_evOverrunClear_of_writes {s : State} {ses : Nat} (n : Nat) (h : Writes s ses (0x9200 + k / 256) (k % 256) 16) :
    exec (.evOverrunClear ses n k) s = .next (acceptReq (setEv s k { evSrc s k with overrun := false }) ses 2 n) := by
  change execEvOverrunClear ses n k s = _
  rw [execEvOverrunClear, if_neg (Nat.not_le.mpr hk), writeRequest_of_writes n h (objDesc_evStatus hk) rfl (by omega) (by omega)]
  exact congrArg (fun u => Host.Outcome.next (acceptReq u ses 2 n)) (applyItem_evStatus hk ..)

end

theorem evCfg_evConfigure (s : State) (k v : Nat) : evCfg (evConfigure s k v) k = v := by
  unfold evConfigure evCfg
  split <;> simp

theorem evSrc_evConfigure_other {s : State} {k j : Nat} (v : Nat) (h : j ≠ k) : evSrc (evConfigure s k v) j = evSrc s j := by
  unfold evConfigure
  rw [evSrc_setEv, if_neg h]
  split <;> rfl

/-- Settles O24, request by request. -/
theorem writeRequests : Obligations.WriteRequests := by
  refine ⟨fun ses n items s t now => writeRequest_of_applied, ?selector, ?config, ?overrun⟩
  case selector =>
    intro ses n idx el v s d hd hs hen hi he h
    refine ⟨_, exec_selectorWrite_of_writes n h hd hs hen hi he, ?_, fun k hk => ?_, fun j hj => ?_, rfl⟩
    · rw [setSel, session_updSession_same]
      exact FMap.find_set_same
    · rw [setSel, session_updSession_same]
      exact FMap.find_set_other hk
    · rw [setSel, session_updSession, if_neg hj]
  case config =>
    intro ses n k v s hk hv h
    exact ⟨_, exec_evConfigWrite_of_writes hk n hv h, rfl, evCfg_evConfigure s k v, fun j hj => evSrc_evConfigure_other v hj⟩
  case overrun =>
    intro ses n k s hk h
    exact ⟨_, exec_evOverrunClear_of_writes hk n h, evSrc_setEv_same .., fun j hj => (evSrc_setEv ..).trans (if_neg hj)⟩

end Sys2Proof.Machine
end

section
/-! SUPPORT. Images: an upload from IMGBEGIN to IMGEND, and IMGDELETE (R403). -/
namespace Sys2Proof.Machine

/-! ### The uploads of other images -/

theorem find_uploads_filter_same (l : List Upload) (im : Nat) : ((l.filter fun u => u.image != im).find? fun u => u.image == im) = none := by
  simp [List.find?_eq_none]

/-- Writing to the upload of one image: that upload is the new one. -/
theorem find_uploads_map_same {l : List Upload} {im : Nat} {v x : Upload} (h : (l.find? fun u => u.image == im) = some v) (hx : x.image = im) :
    ((l.map fun y => if y.image = im then x else y).find? fun u => u.image == im) = some x := by
  induction l with
  | nil => cases h
  | cons y t ih =>
    by_cases hy : y.image = im
    · simp [hy, hx]
    · simp only [List.map_cons, if_neg hy, List.find?_cons, beq_eq_false_iff_ne.mpr hy] at h ⊢
      exact ih h

theorem find_uploads_map_other {l : List Upload} {im j : Nat} {x : Upload} (hx : x.image = im) (hj : j ≠ im) :
    ((l.map fun y => if y.image = im then x else y).find? fun u => u.image == j) = l.find? fun u => u.image == j := by
  induction l with
  | nil => rfl
  | cons y t ih =>
    rw [List.map_cons, List.find?_cons, List.find?_cons, ih]
    by_cases hy : y.image = im
    · have hkeep : (im == j) = false := beq_eq_false_iff_ne.mpr hj.symm
      rw [if_pos hy, hx, hy, hkeep]
    · rw [if_neg hy]

/-! ### The requests -/

section
variable {s : State} {ses op : Nat} (n : Nat) (h : Serves s ses op)
include h

theorem imgRequest_of_result {t : State} {f : State → Sum Nat State} (hm : hasMconfig s ses = true) (hf : f s = .inr t) :
    imgRequest ses op n f s = .next (acceptReq t ses op n) := by
  rw [imgRequest, served_of_serves h, hm, hf]
  rfl

theorem imgRequest_of_no_right (f : State → Sum Nat State) (hm : hasMconfig s ses = false) :
    imgRequest ses op n f s = .next (refuseReq s ses op n 0x0204) := by
  rw [imgRequest, served_of_serves h, hm]
  rfl

end

theorem exec_imgbegin (ses n im len : Nat) (s : State) : exec (.imgbegin ses n im len) s = execImgbegin ses n im len s := rfl
theorem exec_imgdata (ses n im off : Nat) (data : List Byte) (s : State) :
    exec (.imgdata ses n im off data) s = execImgdata ses n im off data s := rfl
theorem exec_imgend (ses n im : Nat) (s : State) : exec (.imgend ses n im) s = execImgend ses n im s := rfl
theorem exec_imgdelete (ses n im : Nat) (s : State) : exec (.imgdelete ses n im) s = execImgdelete ses n im s := rfl

section
variable {s : State} {ses im : Nat} (n : Nat) (hm : hasMconfig s ses = true)
include hm

theorem exec_imgbegin_of_room {len : Nat} (h : Serves s ses 0x30) (hu : imageUsed s im = false)
    (hn : (s.uploads.filter fun u => u.image != im).length < 4)
    (hr : len ≤ storeFree { s with uploads := s.uploads.filter fun u => u.image != im }) :
    exec (.imgbegin ses n im len) s = .next (acceptReq
      { s with uploads := (s.uploads.filter fun u => u.image != im) ++ [{ image := im, len := len }] } ses 0x30 n) := by
  refine (exec_imgbegin ..).trans (imgRequest_of_result n h hm ?_)
  dsimp only
  rw [hu, if_neg Bool.false_ne_true, if_neg (not_or.mpr ⟨Nat.not_le.mpr hn, Nat.not_lt.mpr hr⟩)]

/-- R403: an upload after `data` has been written at `off`. -/
def Upload.written (v : Upload) (off : Nat) (data : List Byte) : Upload :=
  { v with bytes := Memory.writeN v.bytes off data, ranges := (off, data.length) :: v.ranges }

theorem exec_imgdata_of_upload {off : Nat} {data : List Byte} {v : Upload} (h : Serves s ses 0x31)
    (hv : (s.uploads.find? fun u => u.image == im) = some v) (hl : off + data.length ≤ v.len) (hd : data.length ≤ 2097136) :
    exec (.imgdata ses n im off data) s = .next (acceptReq
      { s with uploads := s.uploads.map fun x => if x.image = im then v.written off data else x } ses 0x31 n) := by
  refine (exec_imgdata ..).trans (imgRequest_of_result n h hm ?_)
  rw [hv]
  exact if_neg (not_or.mpr ⟨Nat.not_lt.mpr hl, Nat.not_lt.mpr hd⟩)

theorem exec_imgend_of_whole {v : Upload} (h : Serves s ses 0x32) (hv : (s.uploads.find? fun u => u.image == im) = some v)
    (hc : coversFrom v.ranges v.len 0 v.ranges.length = true) (hg : imgMagic v.bytes = 0x4F4C4931) (hl : imgLength v.bytes * 4096 = v.len)
    (hcrc : imgHdrCrcOk v.bytes = true) :
    exec (.imgend ses n im) s = .next (acceptReq
      { s with images := FMap.set s.images im { bytes := v.bytes, len := v.len }, uploads := s.uploads.filter fun x => x.image != im }
      ses 0x32 n) := by
  refine (exec_imgend ..).trans (imgRequest_of_result n h hm ?_)
  rw [hv]
  exact if_pos (by rw [hc, hg, hl, hcrc, beq_self_eq_true, beq_self_eq_true]; rfl)

section
variable (h : Serves s ses 0x33) (hu : imageUsed s im = false)
include h hu

theorem exec_imgdelete_of_upload (ho : (s.uploads.any fun u => u.image == im) = true) :
    exec (.imgdelete ses n im) s = .next (acceptReq { s with uploads := s.uploads.filter fun u => u.image != im } ses 0x33 n) := by
  refine (exec_imgdelete ..).trans (imgRequest_of_result n h hm ?_)
  rw [hu, if_neg Bool.false_ne_true, if_pos ho]

theorem exec_imgdelete_of_image (ho : (s.uploads.any fun u => u.image == im) = false) (hi : (FMap.find s.images im).isSome = true) :
    exec (.imgdelete ses n im) s = .next (acceptReq { s with images := FMap.del s.images im } ses 0x33 n) := by
  refine (exec_imgdelete ..).trans (imgRequest_of_result n h hm ?_)
  rw [hu, ho, if_neg Bool.false_ne_true, if_neg Bool.false_ne_true, if_pos hi]

end
end

/-- Settles O38, request by request. -/
theorem imageRequests : Obligations.ImageRequests := by
  refine ⟨fun ses n im len s h hm hu hn hr => exec_imgbegin_of_room n hm h hu hn hr, ?data, ?commit, ?delete, ?refused⟩
  case data =>
    intro ses n im off data s v h hm hv hl hd
    have hsome := List.find?_some hv
    have him : (v.written off data).image = im := beq_iff_eq.mp hsome
    exact ⟨_, _, exec_imgdata_of_upload n hm h hv hl hd, find_uploads_map_same hv him, rfl, rfl, fun a => Memory.read_writeN,
      fun j hj => find_uploads_map_other him hj, rfl⟩
  case commit =>
    intro ses n im s v h hm hv hc hg hl hcrc
    exact ⟨_, exec_imgend_of_whole n hm h hv hc hg hl hcrc, FMap.find_set_same, find_uploads_filter_same .., fun j hj => FMap.find_set_other hj⟩
  case delete =>
    intro ses n im s h hm hu
    exact ⟨fun ho => ⟨_, exec_imgdelete_of_upload n hm h hu ho, find_uploads_filter_same .., rfl⟩,
      fun ho hi => ⟨_, exec_imgdelete_of_image n hm h hu ho hi, FMap.find_del_same, fun j hj => FMap.find_del_other hj⟩⟩
  case refused =>
    intro ses n im len off data s hm
    exact ⟨fun h => (exec_imgbegin ..).trans (imgRequest_of_no_right n h _ hm), fun h => (exec_imgdata ..).trans (imgRequest_of_no_right n h _ hm),
      fun h => (exec_imgend ..).trans (imgRequest_of_no_right n h _ hm), fun h => (exec_imgdelete ..).trans (imgRequest_of_no_right n h _ hm)⟩

end Sys2Proof.Machine
end

section
/-! SUPPORT. Two-phase mode changes: their record, the partitions that a change holds, and how a change arms, applies and is rolled back
(R416–R421, R448). -/
namespace Sys2Proof.Machine

theorem Only.objD_eq {m : Nat} {s t : State} (h : Only m s t) (e : m.testBit 5 = false) (d idx el u : Nat) :
    objD d t idx el u = objD d s idx el u := by
  simp only [objD, h.dict e]

/-! ### The partitions that a change holds -/

/-- Putting the partitions of a list that meet a condition into one state. -/
theorem part_foldl_setPState (c : Part → Prop) [DecidablePred c] (st : PState) {l : List Nat} (hl : l.Nodup) (s : State) (p : Nat) :
    part (l.foldl (fun s q => if c (part s q) then setPState s q st else s) s) p =
      if p ∈ l ∧ c (part s p) then { part s p with st := st } else part s p := by
  induction l generalizing s with
  | nil => simp
  | cons q l ih =>
    obtain ⟨hq, hl⟩ := List.nodup_cons.mp hl
    rw [List.foldl_cons, ih hl]
    by_cases hp : p = q
    · subst hp
      rw [if_neg fun h => hq h.1]
      by_cases hc : c (part s p)
      · rw [if_pos hc, part_setPState_same, if_pos ⟨List.mem_cons_self .., hc⟩]
      · rw [if_neg hc, if_neg fun h => hc h.2]
    · have hstep : part (if c (part s q) then setPState s q st else s) p = part s p := by
        split
        · rw [part_setPState, if_neg hp]
        · rfl
      simp only [hstep, List.mem_cons, hp, false_or]

theorem part_releaseArmed (s : State) {p : Nat} (hp : p < 16) :
    part (releaseArmed s) p = if (part s p).st = .armed then { part s p with st := .idle } else part s p := by
  refine (part_foldl_setPState (fun x => x.st = .armed) .idle List.nodup_range s p).trans ?_
  simp only [List.mem_range, hp, true_and]

theorem st_part_releaseArmed (s : State) {p : Nat} (hp : p < 16) : (part (releaseArmed s) p).st ≠ .armed := by
  rw [part_releaseArmed s hp]
  split
  · exact nofun
  next h => exact h

/-! ### Rolling a change back -/

/-- R419: what a rolled back change says of a unit. -/
def rolledBackUnit (s : State) (u : ModeUnit) : ModeUnit :=
  if u.st = 6 then u
  else if unitDark s u.ident then { u with st := 6, reason := 0x0611 }
  else if u.st = 4 then u else { u with st := 5 }

/-- R418: the record of the change that has been rolled back. -/
def rolledBackRec (s : State) (reason : Nat) : ModeRec :=
  { s.modeRec with st := 5, reason := reason, units := s.modeRec.units.map (rolledBackUnit s), waiter := none }

theorem modeRollback_eq (s : State) (reason : Nat) :
    ∃ c, modeRollback s reason = raise (setCond (releaseArmed { s with modeRec := rolledBackRec s reason }) 448 true) c := by
  unfold modeRollback
  exact ⟨_, rfl⟩

section
variable (s : State) (reason : Nat)

theorem modeRec_modeRollback : (modeRollback s reason).modeRec = rolledBackRec s reason := by
  obtain ⟨c, h⟩ := modeRollback_eq s reason
  rw [h, (raise_only ..).modeRec rfl, (setCond_only ..).modeRec rfl, (releaseArmed_only _).modeRec rfl]

theorem part_modeRollback {p : Nat} (hp : p < 16) :
    part (modeRollback s reason) p = if (part s p).st = .armed then { part s p with st := .idle } else part s p := by
  obtain ⟨c, h⟩ := modeRollback_eq s reason
  rw [h, (raise_only ..).part_eq rfl, part_setCond, part_releaseArmed _ hp]
  rfl

theorem st_part_modeRollback {p : Nat} (hp : p < 16) : (part (modeRollback s reason) p).st ≠ .armed := by
  rw [part_modeRollback s reason hp, ← part_releaseArmed s hp]
  exact st_part_releaseArmed s hp

end

/-! ### The reply that a change keeps waiting -/

theorem modeRec_modeReply (s : State) (op reason : Nat) : (modeReply s op reason).modeRec = { s.modeRec with waiter := none } := by
  unfold modeReply
  split
  next h => rw [← h]
  next =>
    dsimp only
    split
    · exact (acceptReq_only ..).modeRec rfl
    · exact (refuseReq_only ..).modeRec rfl

theorem reply_mem_out_modeReply {s : State} {ses n : Nat} (op reason : Nat) (h : s.modeRec.waiter = some (ses, n)) :
    ∃ r, OutMsg.reply r ∈ (modeReply s op reason).out ∧ r.session = ses ∧ r.op = op ∧ r.reqid = n ∧ r.reason = reason := by
  unfold modeReply
  rw [h]
  dsimp only
  split
  next hr => exact ⟨_, mem_out_reply .., rfl, rfl, rfl, hr.symm⟩
  next => exact ⟨_, mem_out_reply .., rfl, rfl, rfl, rfl⟩

/-! ### A change that fails -/

/-- The state in which the record keeps the request `w` waiting. -/
def awaitedBy (s : State) (w : Option (Nat × Nat)) : State := { s with modeRec := { s.modeRec with waiter := w } }

theorem awaitedBy_only (s : State) (w : Option (Nat × Nat)) : Only 0x200 s (awaitedBy s w) := Only.set_modeRec rfl (Only.refl ..) _

theorem waiter_awaitedBy (s : State) (w : Option (Nat × Nat)) : (awaitedBy s w).modeRec.waiter = w := rfl

section
variable (s : State) (op reason : Nat)

theorem modeFail_eq : modeFail s op reason = modeReply (awaitedBy (modeRollback s reason) s.modeRec.waiter) op reason := rfl

theorem modeRec_modeFail : (modeFail s op reason).modeRec = rolledBackRec s reason := by
  rw [modeFail_eq, modeRec_modeReply, awaitedBy, modeRec_modeRollback]
  rfl

theorem part_modeFail {p : Nat} (hp : p < 16) :
    part (modeFail s op reason) p = if (part s p).st = .armed then { part s p with st := .idle } else part s p := by
  rw [modeFail_eq, (modeReply_only ..).part_eq rfl, (awaitedBy_only ..).part_eq rfl, part_modeRollback s reason hp]

theorem rolledBack_modeFail : RolledBack s (modeFail s op reason) op reason where
  st := congrArg ModeRec.st (modeRec_modeFail s op reason)
  why := congrArg ModeRec.reason (modeRec_modeFail s op reason)
  dict := (modeFail_only ..).dict rfl
  held _ hp := part_modeFail s op reason hp
  reply _ _ hw _ := by
    rw [modeFail_eq]
    exact reply_mem_out_modeReply op reason ((waiter_awaitedBy ..).trans hw)

/-- MCABORT's roll-back names no reason and refuses no request. -/
theorem rolledBack_modeRollback : RolledBack s (modeRollback s 0) op 0 where
  st := congrArg ModeRec.st (modeRec_modeRollback s 0)
  why := congrArg ModeRec.reason (modeRec_modeRollback s 0)
  dict := (modeRollback_only ..).dict rfl
  held _ hp := part_modeRollback s 0 hp
  reply _ _ _ h := absurd rfl h

end

/-- What is rolled back is the same change where only its units have been noted before. -/
theorem RolledBack.of_modeRec {s u : State} {m : ModeRec} {op reason : Nat} (h : RolledBack { s with modeRec := m } u op reason)
    (hw : m.waiter = s.modeRec.waiter) : RolledBack s u op reason where
  st := h.st
  why := h.why
  dict := h.dict
  held := h.held
  reply ses n e := h.reply ses n (hw.trans e)

/-! ### MCARM -/

/-- R419: a unit of a change that enters ARMING. -/
def armingUnit (s : State) (id : Nat) : ModeUnit :=
  if unitDark s id then { ident := id, st := 6, reason := 0x0611 } else { ident := id, st := 1 }

theorem ident_armingUnit (s : State) (id : Nat) : (armingUnit s id).ident = id := by
  unfold armingUnit
  split <;> rfl

theorem st_armingUnit (s : State) (id : Nat) : (armingUnit s id).st = if unitDark s id then 6 else 1 := by
  unfold armingUnit
  split <;> rfl

/-- R418, R420: the record of a change that enters ARMING. -/
def armingRec (s : State) (ses n kind p v : Nat) : ModeRec :=
  { st := 1, since := nowNs s, kind := kind, part := if kind = 3 then 0xFF else p, value := v, units := (modeUnits s kind p).map (armingUnit s),
    waiter := some (ses, n) }

/-- The state in which a change has entered ARMING and holds no partition yet. -/
def armingBase (s : State) (ses n kind p v : Nat) : State :=
  setCond { s with
    modeRec := armingRec s ses n kind p v
    gov := if kind = 3 then { s.gov with armedLines := [objD 4 s 0x4101 1, objD 10 s 0x4101 2, objD 2 s 0x4101 3] } else s.gov } 448 false

section
variable (s : State) (ses n v : Nat)

theorem modeArm_of_partition {kind : Nat} (hk : kind ≠ 3) (p : Nat) :
    modeArm s ses n kind p v = setPState (armingBase s ses n kind p v) p .armed := by
  unfold modeArm
  exact if_pos hk

theorem modeArm_of_module (p : Nat) : modeArm s ses n 3 p v = (List.range 16).foldl
    (fun s q => if (part s q).enable && (part s q).st == .idle then setPState s q .armed else s) (armingBase s ses n 3 p v) := by
  unfold modeArm
  exact if_neg (not_not_intro rfl)

theorem modeRec_modeArm (kind p : Nat) : (modeArm s ses n kind p v).modeRec = armingRec s ses n kind p v := by
  by_cases hk : kind = 3
  · subst hk
    rw [modeArm_of_module]
    refine List.foldlRecOn (motive := fun u : State => u.modeRec = armingRec s ses n 3 p v) _ _ rfl fun u hu q _ => ?_
    split
    · rw [(setPState_only ..).modeRec rfl, hu]
    · exact hu
  · rw [modeArm_of_partition s ses n v hk, (setPState_only ..).modeRec rfl]
    rfl

theorem part_modeArm_of_partition {kind : Nat} (hk : kind ≠ 3) (p j : Nat) :
    part (modeArm s ses n kind p v) j = if j = p then { part s p with st := .armed } else part s j := by
  rw [modeArm_of_partition s ses n v hk, part_setPState]
  rfl

theorem part_modeArm_of_module (p : Nat) {j : Nat} (hj : j < 16) : part (modeArm s ses n 3 p v) j =
    if (part s j).enable = true ∧ (part s j).st = .idle then { part s j with st := .armed } else part s j := by
  rw [modeArm_of_module]
  refine (part_foldl_setPState (fun x => (x.enable && x.st == .idle) = true) .armed List.nodup_range _ j).trans ?_
  simp only [List.mem_range, hj, true_and, Bool.and_eq_true, beq_iff_eq]
  rfl

theorem arming_modeArm (kind p : Nat) : Arming s (modeArm s ses n kind p v) ses n kind p v := by
  have hrec := modeRec_modeArm s ses n v kind p
  refine ⟨?_, ?_, ?_, ?_, ?_, ?_, (modeArm_only ..).dict rfl⟩ <;> rw [hrec]
  · rfl
  · rfl
  · rfl
  · rfl
  · exact (List.map_map ..).trans ((List.map_congr_left fun id _ => ident_armingUnit s id).trans (List.map_id _))
  · intro x hx
    obtain ⟨id, -, rfl⟩ := List.mem_map.mp hx
    rw [st_armingUnit, ident_armingUnit]

end

section
variable {s : State} {ses n p v : Nat} (ha : MayArm s)
include ha

theorem mcarmFail_numeric (hr : hasConfigure s ses p = true) (hst : (part s p).st = .idle) (hv : v ≤ 2) : mcarmFail s ses 1 p v = none := by
  obtain ⟨hpow, h1, h2, h3⟩ := ha
  simp [mcarmFail, hr, hst, hv, hpow, h1, h2, h3]

theorem mcarmFail_band (hr : hasConfigure s ses p = true) (hst : (part s p).st = .idle)
    (hv : v = 0xFF ∨ (v ≤ 7 ∧ bandTables s p v = true)) : mcarmFail s ses 2 p v = none := by
  obtain ⟨hpow, h1, h2, h3⟩ := ha
  rcases hv with rfl | ⟨hv, ht⟩
  · simp [mcarmFail, hr, hst, hpow, h1, h2, h3]
  · simp [mcarmFail, hr, hst, hv, ht, hpow, h1, h2, h3]

theorem mcarmFail_power (hr : hasMconfig s ses = true) (hb : replacing s = false) (hv : v ≤ 3) : mcarmFail s ses 3 p v = none := by
  obtain ⟨hpow, h1, h2, h3⟩ := ha
  simp [mcarmFail, hr, hb, hv, hpow, h1, h2, h3]

end

theorem mcarm_of_no_failure {s : State} {ses kind p v : Nat} (n : Nat) (hp : p < 16) (h : Serves s ses 0x20)
    (hf : mcarmFail s ses kind p v = none) : mcarm ses n kind p v s = .next (modeArm s ses n kind p v) := by
  rw [mcarm, if_neg fun e => Nat.not_le.mpr hp e.2, served_of_serves h, hf]

end Sys2Proof.Machine
end

section
/-! SUPPORT. The events and requests of a mode change, one by one (R416–R421, R442, R448). -/
namespace Sys2Proof.Machine

/-! ### While a change arms or holds -/

section
variable {s : State}

/-- The state in which every unit of the change has armed. -/
def allArmed (s : State) : State :=
  { s with modeRec := { s.modeRec with
      st := 2, since := nowNs s, units := s.modeRec.units.map fun u => if u.st = 1 then { u with st := 2 } else u } }

theorem exec_mcArmed_of_arming (hst : s.modeRec.st = 1) (hw : modeWaits s = false) :
    exec .mcArmed s = .next (modeReply (allArmed s) 0x20 0) := by
  change execMcArmed s = _
  rw [execMcArmed, if_neg (by simp [hst, hw])]
  rfl

theorem exec_mcArmTimeout_of_late (hst : s.modeRec.st = 1) (hl : s.modeRec.since + objD 100 s 0x2400 12 * 1000000 ≤ nowNs s) :
    exec .mcArmTimeout s = .next (modeFail s 0x20 0x0312) := by
  change execMcArmTimeout s = _
  rw [execMcArmTimeout, if_neg (not_or.mpr ⟨not_not_intro hst, Nat.not_lt.mpr hl⟩)]

/-- The state in which unit `x`, number `i` of the record, has failed to arm. -/
def armFailed (s : State) (i : Nat) (x : ModeUnit) : State :=
  { s with modeRec := { s.modeRec with units := s.modeRec.units.set i { x with st := 4, reason := 0x070B }, failed := x.ident } }

theorem exec_mcArmUnitFail_of_reachable {i : Nat} {x : ModeUnit} (hst : s.modeRec.st = 1) (hi : s.modeRec.units[i]? = some x) (hx : x.st = 1)
    (hd : unitDark s x.ident = false) : exec (.mcArmUnitFail i) s = .next (modeFail (armFailed s i x) 0x20 0x070B) := by
  change execMcArmUnitFail i s = _
  simp only [execMcArmUnitFail, hi]
  rw [if_neg (by simp [hst, hx, hd])]
  rfl

theorem exec_mcHoldTimeout_of_late (hst : s.modeRec.st = 2) (hl : s.modeRec.since + objD 1000 s 0x2400 11 * 1000000 ≤ nowNs s) :
    exec .mcHoldTimeout s = .next (modeRollback s 0x0312) := by
  change execMcHoldTimeout s = _
  rw [execMcHoldTimeout, if_neg (not_or.mpr ⟨not_not_intro hst, Nat.not_lt.mpr hl⟩)]

end

/-- Settles O50: each refusal of MCARM is excluded, and each end of ARMING or ARMED is a roll-back of the same change. -/
theorem modeChangesArm : Obligations.ModeChangesArm := by
  refine ⟨?partition, ?power, ?armed, ?timeout, ?unit, ?hold⟩
  case partition =>
    intro ses n p v s hp h hr ha hst
    refine ⟨fun hv => ⟨_, mcarm_of_no_failure n hp h (mcarmFail_numeric ha hr hst hv), arming_modeArm .., ?_, fun k hk => ?_⟩,
      fun hv => ⟨_, mcarm_of_no_failure n hp h (mcarmFail_band ha hr hst hv), arming_modeArm .., ?_, fun k hk => ?_⟩⟩
    all_goals rw [part_modeArm_of_partition s ses n v (by decide)]
    · rw [if_pos rfl]
    · rw [if_neg hk]
    · rw [if_pos rfl]
    · rw [if_neg hk]
  case power =>
    intro ses n v s h hr ha hb hv
    exact ⟨_, mcarm_of_no_failure n (by decide) h (mcarmFail_power ha hr hb hv), arming_modeArm .., fun p hp => part_modeArm_of_module s ses n v 0 hp⟩
  case armed =>
    intro s hst hw
    have hrec := modeRec_modeReply (allArmed s) 0x20 0
    have honly := modeReply_only (allArmed s) 0x20 0
    exact ⟨_, exec_mcArmed_of_arming hst hw, congrArg ModeRec.st hrec, congrArg ModeRec.units hrec, honly.dict rfl, honly.parts rfl,
      fun ses n hn => reply_mem_out_modeReply 0x20 0 hn⟩
  case timeout =>
    intro s hst hl
    exact ⟨_, exec_mcArmTimeout_of_late hst hl, rolledBack_modeFail ..⟩
  case unit =>
    intro i s x hst hi hx hd
    exact ⟨_, exec_mcArmUnitFail_of_reachable hst hi hx hd, (rolledBack_modeFail (armFailed s i x) ..).of_modeRec rfl,
      congrArg ModeRec.failed (modeRec_modeFail ..)⟩
  case hold =>
    intro s hst hl
    have hrec := modeRec_modeRollback s 0x0312
    exact ⟨_, exec_mcHoldTimeout_of_late hst hl, rfl, congrArg ModeRec.st hrec, congrArg ModeRec.reason hrec, (modeRollback_only ..).dict rfl,
      fun p hp => st_part_modeRollback s 0x0312 hp⟩

/-! ### While a change applies -/

section
variable {s : State} {ses : Nat} (n : Nat) (hr : modeRight s ses = true) (hst : s.modeRec.st = 2)
include hr hst

theorem exec_mcapply_of_armed {epoch : Nat} (h : Serves s ses 0x21) (he : epoch = 0 ∨ nowNs s + objD 100 s 0x2400 13 * 1000 ≤ epoch) :
    exec (.mcapply ses n epoch) s = .next { s with modeRec := { s.modeRec with
      st := 3, epoch := if epoch = 0 then nowNs s + objD 100 s 0x2400 13 * 1000 else epoch, waiter := some (ses, n) } } := by
  have hsoon : ¬(epoch ≠ 0 ∧ epoch < nowNs s + objD 100 s 0x2400 13 * 1000) := by omega
  change execMcapply ses n epoch s = _
  rw [execMcapply, served_of_serves h]
  dsimp only
  rw [hr, if_neg (by decide), if_neg (not_not_intro hst), if_neg hsoon]

theorem exec_mcabort_of_armed (h : Serves s ses 0x22) : exec (.mcabort ses n) s = .next (acceptReq (modeRollback s 0) ses 0x22 n) := by
  change execMcabort ses n s = _
  rw [execMcabort, served_of_serves h, hr, if_neg (by decide), if_neg (not_not_intro hst)]

end

/-- The units of the change at its epoch: those that are armed, lit and not named in `bad` have confirmed. -/
def unitsAtEpoch (s : State) (bad : List Nat) : List ModeUnit :=
  (s.modeRec.units.zip (List.range s.modeRec.units.length)).map fun e =>
    if e.1.st = 2 ∧ !bad.contains e.2 ∧ !unitDark s e.1.ident then { e.1 with st := 3 } else e.1

theorem length_unitsAtEpoch (s : State) (bad : List Nat) : (unitsAtEpoch s bad).length = s.modeRec.units.length := by
  simp [unitsAtEpoch]

theorem getElem?_unitsAtEpoch {s : State} (bad : List Nat) {i : Nat} {x : ModeUnit} (hi : s.modeRec.units[i]? = some x) :
    (unitsAtEpoch s bad)[i]? = some (if x.st = 2 ∧ i ∉ bad ∧ unitDark s x.ident = false then { x with st := 3 } else x) := by
  obtain ⟨hlt, -⟩ := List.getElem?_eq_some_iff.mp hi
  have hzip : (s.modeRec.units.zip (List.range s.modeRec.units.length))[i]? = some (x, i) :=
    List.getElem?_zip_eq_some.mpr ⟨hi, List.getElem?_range hlt⟩
  rw [unitsAtEpoch, List.getElem?_map, hzip]
  simp

/-- R418, R419: the state in which the change is DONE, before the waiting request is answered. -/
def modeDone (s : State) : State :=
  raise (setCond (releaseArmed { modeCommit s with modeRec := { (modeCommit s).modeRec with st := 4, reason := 0 } }) 448 true)
    { sev := 1, cls := 10, part := if s.modeRec.kind = 3 then none else some s.modeRec.part, object := 0x240001 }

/-- R419: why a unit has not confirmed. -/
def lateReason (s : State) (x : ModeUnit) : Nat := if unitDark s x.ident then 0x0611 else 0x070B

/-- The state in which the units that have not confirmed are noted, `x` the first of them. -/
def unconfirmed (s : State) (x : ModeUnit) : State :=
  { s with modeRec := { s.modeRec with
      units := s.modeRec.units.map fun u => if u.st = 2 then { u with st := 4, reason := lateReason s u } else u, failed := x.ident } }

section
variable {s : State} (hst : s.modeRec.st = 3)
include hst

theorem exec_mcApplyEpoch_at_epoch (bad : List Nat) (he : s.modeRec.epoch ≤ nowNs s) :
    exec (.mcApplyEpoch bad) s = .next { s with modeRec := { s.modeRec with units := unitsAtEpoch s bad } } := by
  change execMcApplyEpoch bad s = _
  rw [execMcApplyEpoch, if_neg (not_or.mpr ⟨not_not_intro hst, Nat.not_lt.mpr he⟩)]
  rfl

theorem exec_mcConfirmEnd_of_confirmed (he : s.modeRec.epoch ≤ nowNs s) (hc : ∀ x ∈ s.modeRec.units, x.st ≠ 2) :
    exec .mcConfirmEnd s = .next (modeReply (modeDone s) 0x21 0) := by
  have hnone : (s.modeRec.units.find? fun u => u.st == 2) = none := List.find?_eq_none.mpr fun x hx => by simpa using hc x hx
  change execMcConfirmEnd s = _
  simp only [execMcConfirmEnd, hnone]
  rw [if_neg (not_or.mpr ⟨not_not_intro hst, Nat.not_lt.mpr he⟩)]
  rfl

theorem exec_mcConfirmEnd_of_unconfirmed {x : ModeUnit} (he : s.modeRec.epoch + objD 10 s 0x2400 14 * 1000 ≤ nowNs s)
    (hx : (s.modeRec.units.find? fun u => u.st == 2) = some x) :
    exec .mcConfirmEnd s = .next (modeFail (unconfirmed s x) 0x21 (lateReason s x)) := by
  have hepoch : s.modeRec.epoch ≤ nowNs s := Nat.le_trans (Nat.le_add_right ..) he
  change execMcConfirmEnd s = _
  simp only [execMcConfirmEnd, hx]
  rw [if_neg (not_or.mpr ⟨not_not_intro hst, Nat.not_lt.mpr hepoch⟩), if_neg (Nat.not_lt.mpr he)]
  rfl

end

/-! ### A change that is DONE -/

section
variable (s : State)

theorem objD_modeCommit_numeric (h : s.modeRec.kind = 1) : objD 0 (modeCommit s) (pidx 0x51 s.modeRec.part) 34 = s.modeRec.value := by
  rw [modeCommit, h]
  exact objD_setObj_same ..

theorem objD_modeCommit_band (h : s.modeRec.kind = 2) : objD 0xFF (modeCommit s) (pidx 0x51 s.modeRec.part) 35 = s.modeRec.value := by
  rw [modeCommit, h]
  exact ((forceBand_only ..).objD_eq rfl ..).trans (objD_setObj_same ..)

theorem modeCommit_power (h : s.modeRec.kind = 3) :
    objD 0 (modeCommit s) 0x4000 1 = s.modeRec.value ∧ (modeCommit s).gov.loadLines = s.gov.armedLines := by
  rw [modeCommit, h]
  exact ⟨objD_setObj_same .., rfl⟩

theorem modeRec_modeDone : (modeDone s).modeRec = { s.modeRec with st := 4, reason := 0 } := by
  rw [modeDone, (raise_only ..).modeRec rfl, (setCond_only ..).modeRec rfl, (releaseArmed_only _).modeRec rfl, (modeCommit_only s).modeRec rfl]

theorem st_part_modeDone {p : Nat} (hp : p < 16) : (part (modeDone s) p).st ≠ .armed := by
  rw [modeDone, (raise_only ..).part_eq rfl, part_setCond]
  exact st_part_releaseArmed _ hp

/-- What the change has brought into force is what its commit did. -/
theorem modeDone_only : Only 0x100000000000000780 (modeCommit s) (modeDone s) :=
  (raise_only ..).step rfl ((setCond_only ..).step rfl ((releaseArmed_only _).step rfl (Only.set_modeRec rfl (Only.refl ..) _)))

theorem modeDone_reply_only : Only 0x80080100000000000000780 (modeCommit s) (modeReply (modeDone s) 0x21 0) :=
  (modeReply_only ..).step rfl ((modeDone_only s).mono rfl)

end

/-- Settles O51: the confirm window ends in a state whose parameters are those of the commit, or in a roll-back of the same change. -/
theorem modeChangesApply : Obligations.ModeChangesApply := by
  refine ⟨fun ses n epoch s h hr hst he => exec_mcapply_of_armed n hr hst h he, ?epoch, ?done, ?failed, ?abort⟩
  case epoch =>
    intro bad s hst he
    exact ⟨_, exec_mcApplyEpoch_at_epoch hst bad he, length_unitsAtEpoch s bad, fun i x hi => getElem?_unitsAtEpoch bad hi⟩
  case done =>
    intro s hst he hc
    have hu := modeDone_reply_only s
    have hrec : (modeReply (modeDone s) 0x21 0).modeRec = { s.modeRec with st := 4, reason := 0, waiter := none } := by
      rw [modeRec_modeReply, modeRec_modeDone]
    refine ⟨_, exec_mcConfirmEnd_of_confirmed hst he hc, congrArg ModeRec.st hrec, congrArg ModeRec.reason hrec, fun p hp => ?_,
      fun hk => (hu.objD_eq rfl ..).trans (objD_modeCommit_numeric s hk), fun hk => (hu.objD_eq rfl ..).trans (objD_modeCommit_band s hk),
      fun hk => ?_, fun ses n hn => reply_mem_out_modeReply 0x21 0 ?_⟩
    · rw [(modeReply_only ..).part_eq rfl]
      exact st_part_modeDone s hp
    · obtain ⟨hvalue, hlines⟩ := modeCommit_power s hk
      rw [hu.objD_eq rfl, hu.gov rfl]
      exact ⟨hvalue, hlines⟩
    · rw [modeRec_modeDone]
      exact hn
  case failed =>
    intro s x hst he hx
    exact ⟨_, exec_mcConfirmEnd_of_unconfirmed hst he hx, (rolledBack_modeFail (unconfirmed s x) ..).of_modeRec rfl,
      congrArg ModeRec.failed (modeRec_modeFail ..)⟩
  case abort =>
    intro ses n s h hr hst
    exact ⟨_, exec_mcabort_of_armed n hr hst h, rolledBack_modeRollback s 0x22⟩

end Sys2Proof.Machine
end

section
/-! SUPPORT. Requests that act on one brick, block, region, unit, tile or card (R439, R447, R458, R463, R484, R488, R491). -/
namespace Sys2Proof.Machine

/-! ### What the checks of a WRITE have shown -/

theorem eq_none_of_ite_some {α : Type} {c : Prop} [Decidable c] {a : α} {x : Option α} (h : (if c then some a else x) = none) : x = none := by
  split at h
  · cases h
  · exact h

theorem eq_inr_of_failOf {x : Sum Nat State} (h : failOf x = none) : ∃ t, x = .inr t := by
  cases x with
  | inl r => cases h
  | inr t => exact ⟨t, rfl⟩

section
variable {s : State} {ses idx el v : Nat} {d : ObjDesc} (h : Writes s ses idx el v) (hd : objDesc idx el = some d)
  (hen : d.enable = false) (hi : idx < 65536) (he : el < 256)
include h hd hen hi he

/-- R401: the conditions on the present state are the last of an item's checks. -/
theorem stateFail_of_writes : stateFail s idx el (unitFor s ses d) (v % 2 ^ (8 * typLen d.typ)) = none := by
  have hitem := h.item
  rw [itemFail, wiIdx_itemFor v hd hi he, wiEl_itemFor v hd hi he, wiV_itemFor v hd, hd] at hitem
  have hfound := eq_none_of_ite_some hitem
  have hserved := eq_none_of_ite_some (eq_none_of_ite_some (eq_none_of_ite_some hfound))
  have htyped := eq_none_of_ite_some hserved
  split at htyped
  · cases htyped
  · rw [hen] at htyped
    exact htyped

/-- A WRITE that stands for an operation on one unit: the operation is among the item's checks, so it has not refused. -/
theorem writeRequest_of_operation (n : Nat) {x : Sum Nat State}
    (hf : stateFail s idx el (unitFor s ses d) (v % 2 ^ (8 * typLen d.typ)) = (failOf x).map fun r => (r, none))
    (ha : applyItem s ses idx el (unitFor s ses d) (v % 2 ^ (8 * typLen d.typ)) d = stateOf s x) :
    ∃ t, x = .inr t ∧ writeRequest ses n [itemFor idx el v] s = .next (acceptReq t ses 2 n) := by
  obtain ⟨t, rfl⟩ := eq_inr_of_failOf (Option.map_eq_none_iff.mp (hf.symm.trans (stateFail_of_writes h hd hen hi he)))
  refine ⟨t, rfl, ?_⟩
  rw [writeRequest_of_writes n h hd hen hi he, ha, stateOf]

end

/-! ### Bricks -/

theorem Only.brick_eq {m : Nat} {s t : State} (h : Only m s t) (e : m.testBit 51 = false) (b : Nat) : brick t b = brick s b := by
  simp only [brick, h.bricks e]

/-- R435: moving a brick to another feed leaves its state. -/
theorem st_brick_moveFeeds (s : State) (j : Nat) : (brick (moveFeeds s) j).st = (brick s j).st := by
  refine List.foldlRecOn (motive := fun t => (brick t j).st = (brick s j).st) _ _ rfl fun t ht b _ => ?_
  have hkeep : ∀ f, (brick (setBrick t b { brick t b with feed := f }) j).st = (brick s j).st := by
    intro f
    rw [brick_setBrick, ← ht]
    split
    next e => rw [e]
    next => rfl
  dsimp only
  split <;> exact hkeep _

theorem st_brick_brickTo (s : State) (b st j : Nat) (present : Bool) :
    (brick (brickTo s b st present) j).st = if j = b then st else (brick s j).st := by
  rw [brickTo, st_brick_moveFeeds, (setCond_only ..).brick_eq rfl, brick_setBrick]
  split <;> rfl

/-- R439: a brick in SERVICE that is prepared begins to shed its load. -/
theorem brickPrepare_of_service {s t : State} {b : Nat} (hst : (brick s b).st = 2) (ht : brickPrepare s b = .inr t) :
    t = setBrick s b { brick s b with shedding := true } := by
  unfold brickPrepare at ht
  rw [if_pos hst] at ht
  split at ht
  · cases ht
  · split at ht
    · cases ht
    · exact (Sum.inr.inj ht).symm

theorem exec_brickPrepare_of_writes {s : State} {ses : Nat} (n : Nat) (h : Writes s ses 0x4002 6 1) :
    ∃ t, brickPrepare s (selValue s ses 0x4002 0) = .inr t ∧ exec (.brickPrepare ses n) s = .next (acceptReq t ses 2 n) :=
  writeRequest_of_operation h (d := by_ 0x4002 0 (wo U8 0 1)) rfl rfl (by decide) (by decide) n rfl rfl

theorem exec_brickUnprepare_of_writes {s : State} {ses : Nat} (n : Nat) (h : Writes s ses 0x4002 6 0) :
    exec (.brickUnprepare ses n) s = .next (acceptReq (brickUnprepare s (selValue s ses 0x4002 0)) ses 2 n) :=
  writeRequest_of_writes n h (d := by_ 0x4002 0 (wo U8 0 1)) rfl rfl (by decide) (by decide)

/-! ### Regulator blocks -/

/-- R447: only a LOST block restarts. -/
theorem blockRestart_eq_inr {s t : State} {c : Nat} (ht : blockRestart s c = .inr t) :
    blockState s c = 2 ∧ t = { s with blockSt := FMap.set s.blockSt c 3 } := by
  unfold blockRestart at ht
  split at ht
  · cases ht
  · next hc => exact ⟨Classical.not_not.mp (not_or.mp hc).1, (Sum.inr.inj ht).symm⟩

theorem exec_blockRestart_of_writes {s : State} {ses : Nat} (n : Nat) (h : Writes s ses 0x4100 11 1) :
    ∃ t, blockRestart s (selValue s ses 0x4100 0) = .inr t ∧ exec (.blockRestart ses n) s = .next (acceptReq t ses 2 n) :=
  writeRequest_of_operation h (d := by_ 0x4100 0 (wo U8 1 1)) rfl rfl (by decide) (by decide) n rfl rfl

/-! ### Regions -/

theorem Only.spot_eq {m : Nat} {s t : State} (h : Only m s t) (e : m.testBit 55 = false) (i : Nat) : spot t i = spot s i := by
  simp only [spot, h.spots e]

theorem regionReturn_eq_inr {s t : State} {h : Nat} (ht : regionReturn s h = .inr t) : t = switchOn s h := by
  unfold regionReturn at ht
  split at ht
  · exact (Sum.inr.inj ht).symm
  · cases ht

/-- R458: the routers, the cause and the stalls that follow leave the region switched on. -/
theorem spot_switchOn (s : State) (h : Nat) : spot (switchOn s h) h = { spot s h with off := 0, k := 0 } := by
  have hrouters : ∀ t : State, Only 0x20 t ((spotTiles h).foldl (fun u i => if routerState u i = 1 then setRouter u i 0 else u) t) := fun t =>
    Only.foldl (fun u i hu => Only.ite ((setRouter_only ..).step rfl hu) hu) (Only.refl ..)
  rw [switchOn, (reviewAll_only ..).spot_eq rfl, (raise_only ..).spot_eq rfl, (hrouters _).spot_eq rfl, spot_updSpot_same]
  rfl

theorem exec_regionReturnRequest_of_writes {s : State} {ses h : Nat} (n : Nat) (hh : h < 65536) (hw : Writes s ses 0x4011 9 h) :
    exec (.regionReturnRequest ses n h) s = .next (acceptReq (switchOn s h) ses 2 n) := by
  obtain ⟨t, ht, hexec⟩ := writeRequest_of_operation hw (d := wo U16 0 575) (x := regionReturn s (h % 65536)) rfl rfl (by decide)
    (by decide) n rfl rfl
  rw [Nat.mod_eq_of_lt hh] at ht
  exact regionReturn_eq_inr ht ▸ hexec

/-! ### The end of a hold -/

/-- R463: the hold ends once the coolant has recovered. -/
theorem resume_eq_inr {s t : State} (ht : resume s = .inr t) :
    s.power = .hold ∧ s.coolant.st = 3 ∧ t.power = .ready ∧ t.coolant.st = 0 := by
  unfold resume at ht
  split at ht
  · cases ht
  · next hp =>
    split at ht
    · cases ht
    · next hc =>
      obtain rfl := Sum.inr.inj ht
      have hreview := reviewAll_only { s with power := .ready, coolant := { s.coolant with st := 0 } }
      exact ⟨Classical.not_not.mp hp, Classical.not_not.mp hc, hreview.power rfl, by rw [hreview.coolant rfl]⟩

theorem exec_resume_of_writes {s : State} {ses : Nat} (n : Nat) (h : Writes s ses 0x4020 9 1) :
    ∃ t, resume s = .inr t ∧ exec (.resume ses n) s = .next (acceptReq t ses 2 n) :=
  writeRequest_of_operation h (d := wo U8 1 1) rfl rfl (by decide) (by decide) n rfl rfl

/-! ### Units of Kennel -/

theorem events_kUnit_kennelAdd (s : State) (x : KRec) (k : Nat) : (kUnit (kennelAdd s x) k).events = (kUnit s k).events := by
  rw [kennelAdd, kUnit_setKUnit]
  split
  next e => rw [e]
  next => rfl

/-- R484: a reinstated unit is HEALTHY with no events counted, and the record of it changes no unit's classification. -/
theorem reinstate_eq_some {s t : State} {k : Nat} (ht : reinstate s k = some t) :
    (kUnit s k).st = 2 ∧ (kUnit t k).st = 0 ∧ (kUnit t k).events = [] ∧ ∀ j, j ≠ k → (kUnit t j).st = (kUnit s j).st := by
  unfold reinstate at ht
  dsimp only at ht
  split at ht
  next hst =>
    obtain rfl := Option.some.inj ht
    refine ⟨hst, ?_, ?_, fun j hj => ?_⟩
    · rw [st_kUnit_kennelAdd, kUnit_setKUnit_same]
    · rw [events_kUnit_kennelAdd, kUnit_setKUnit_same]
    · rw [st_kUnit_kennelAdd, kUnit_setKUnit, if_neg hj, (setCond_only ..).kUnit_eq rfl, kUnit_setKUnit, if_neg hj]
  next => cases ht

theorem stateFail_reinstate (s : State) (u v : Nat) :
    stateFail s 0x7010 6 u v = if (reinstate s (unitKey u)).isNone then some (0x021C, none) else none := rfl

theorem applyItem_reinstate (s : State) (ses u v : Nat) :
    applyItem s ses 0x7010 6 u v (by_ 0x7010 0 (wo U8 1 1)) = (reinstate s (unitKey u)).getD s := rfl

theorem exec_unitReinstate_of_writes {s : State} {ses : Nat} (n : Nat) (h : Writes s ses 0x7010 6 1) :
    ∃ t, reinstate s (unitKey (selValue s ses 0x7010 0)) = some t ∧ exec (.unitReinstate ses n) s = .next (acceptReq t ses 2 n) := by
  have hd : objDesc 0x7010 6 = some (by_ 0x7010 0 (wo U8 1 1)) := rfl
  have hunit : unitFor s ses (by_ 0x7010 0 (wo U8 1 1)) = selValue s ses 0x7010 0 := rfl
  have hcheck := stateFail_of_writes h hd rfl (by decide) (by decide)
  have hexec := writeRequest_of_writes n h hd rfl (by decide) (by decide)
  rw [stateFail_reinstate, hunit] at hcheck
  rw [applyItem_reinstate, hunit] at hexec
  cases ht : reinstate s (unitKey (selValue s ses 0x7010 0)) with
  | none =>
    rw [ht] at hcheck
    cases hcheck
  | some t =>
    rw [ht] at hexec
    exact ⟨t, rfl, hexec⟩

/-! ### Field tests -/

theorem requestTest_eq_inr {s t : State} {v : Nat} (ht : requestTest s v = .inr t) : t = startTest s (v % 65536) (bitAt v 16) true := by
  unfold requestTest at ht
  dsimp only at ht
  split at ht
  · cases ht
  · split at ht
    · cases ht
    · split at ht
      · cases ht
      · exact (Sum.inr.inj ht).symm

/-- R488: bit 16 of the written value asks for a full test. -/
theorem bitAt_sixteen_of_lt {t : Nat} (ht : t < 65536) : bitAt t 16 = false ∧ bitAt (65536 + t) 16 = true := by
  have hlight : t / 2 ^ 16 = 0 := by omega
  have hfull : (65536 + t) / 2 ^ 16 = 1 := by omega
  rw [bitAt, bitAt, hlight, hfull]
  exact ⟨rfl, rfl⟩

theorem writeRequest_ftest_of_writes {s : State} {ses v : Nat} (n : Nat) (hv : v < 2 ^ 32) (h : Writes s ses 0x7030 5 v) :
    writeRequest ses n [itemFor 0x7030 5 v] s = .next (acceptReq (startTest s (v % 65536) (bitAt v 16) true) ses 2 n) := by
  obtain ⟨t, ht, hexec⟩ := writeRequest_of_operation h (d := wo U32) (x := requestTest s (v % 2 ^ 32)) rfl rfl (by decide) (by decide) n rfl rfl
  rw [Nat.mod_eq_of_lt hv] at ht
  exact requestTest_eq_inr ht ▸ hexec

section
variable {s : State} {ses t : Nat} (n : Nat) (ht : t < 65536)
include ht

theorem exec_ftestRequestLight_of_writes (h : Writes s ses 0x7030 5 t) :
    exec (.ftestRequestLight ses n t) s = .next (acceptReq (startTest s t false true) ses 2 n) := by
  change writeRequest ses n [itemFor 0x7030 5 (t % 65536)] s = _
  rw [Nat.mod_eq_of_lt ht, writeRequest_ftest_of_writes n (by omega) h, Nat.mod_eq_of_lt ht, (bitAt_sixteen_of_lt ht).1]

theorem exec_ftestRequestFull_of_writes (h : Writes s ses 0x7030 5 (65536 + t)) :
    exec (.ftestRequestFull ses n t) s = .next (acceptReq (startTest s t true true) ses 2 n) := by
  change writeRequest ses n [itemFor 0x7030 5 (65536 + t % 65536)] s = _
  rw [Nat.mod_eq_of_lt ht, writeRequest_ftest_of_writes n (by omega) h, Nat.add_mod_left, Nat.mod_eq_of_lt ht, (bitAt_sixteen_of_lt ht).2]

end

/-! ### Cards -/

/-- R491: the card is PREPARED, and an ACTIVE one hands its role to the other. -/
theorem cardPrepare_eq_inr {s t : State} {c : Nat} (hc : c < 2) (hst : (card s c).st < 3) (ht : cardPrepare s c = .inr t) :
    (card t c).st = 3 ∧ (card s (1 - c)).st ≤ 1 ∧ ((card s c).st = 0 → (card t (1 - c)).st = 0) := by
  have hother : 1 - c ≠ c := by omega
  unfold cardPrepare at ht
  rw [if_neg (Nat.not_le.mpr hst)] at ht
  split at ht
  · cases ht
  · next hok =>
    obtain rfl := Sum.inr.inj ht
    refine ⟨by rw [card_setCard_same], Nat.not_lt.mp (not_or.mp hok).1, fun hactive => ?_⟩
    rw [card_setCard, if_neg hother, if_pos hactive, card_setCard_same]

theorem exec_cardPrepare_of_writes {s : State} {ses : Nat} (n : Nat) (h : Writes s ses 0x7040 2 1) :
    ∃ t, cardPrepare s (selValue s ses 0x7040 0) = .inr t ∧ exec (.cardPrepare ses n) s = .next (acceptReq t ses 2 n) :=
  writeRequest_of_operation h (d := by_ 0x7040 0 (wo U8 1 1)) rfl rfl (by decide) (by decide) n rfl rfl

/-- Settles O26, request by request. -/
theorem unitRequests : Obligations.UnitRequests := by
  refine ⟨?prepare, ?unprepare, ?restart, ?region, ?hold, ?unit, ?light, ?full, ?handover⟩
  case prepare =>
    rintro ses n b s h rfl hst
    obtain ⟨t, ht, hexec⟩ := exec_brickPrepare_of_writes n h
    obtain rfl := brickPrepare_of_service hst ht
    exact ⟨_, hexec, brick_setBrick_same .., fun j hj => (brick_setBrick ..).trans (if_neg hj)⟩
  case unprepare =>
    rintro ses n b s h rfl hst
    refine ⟨_, exec_brickUnprepare_of_writes n h, ?_, fun j hj => ?_⟩ <;> rw [brickUnprepare, if_pos hst, st_brick_brickTo]
    · exact if_pos rfl
    · exact if_neg hj
  case restart =>
    rintro ses n c s h rfl
    obtain ⟨t, ht, hexec⟩ := exec_blockRestart_of_writes n h
    obtain ⟨hlost, rfl⟩ := blockRestart_eq_inr ht
    exact ⟨_, hexec, hlost, FMap.get_set_same, fun j hj => FMap.get_set_other hj⟩
  case region =>
    intro ses n h s hh hw
    exact ⟨exec_regionReturnRequest_of_writes n hh hw, congrArg HotSpot.off (spot_switchOn s h)⟩
  case hold =>
    intro ses n s h
    obtain ⟨t, ht, hexec⟩ := exec_resume_of_writes n h
    exact ⟨t, hexec, resume_eq_inr ht⟩
  case unit =>
    rintro ses n k s h rfl
    obtain ⟨t, ht, hexec⟩ := exec_unitReinstate_of_writes n h
    exact ⟨t, hexec, reinstate_eq_some ht⟩
  case light => exact fun ses n t s ht h => ⟨exec_ftestRequestLight_of_writes n ht h, FMap.find_set_same⟩
  case full => exact fun ses n t s ht h => ⟨exec_ftestRequestFull_of_writes n ht h, FMap.find_set_same⟩
  case handover =>
    rintro ses n c s h rfl hc hst
    obtain ⟨t, ht, hexec⟩ := exec_cardPrepare_of_writes n h
    exact ⟨t, hexec, cardPrepare_eq_inr hc hst ht⟩

end Sys2Proof.Machine
end

section
/-! SUPPORT. Which target of the module's power states a WRITE may order, and what each one begins (R401, R498, R511); the step of the queue. -/
namespace Sys2Proof.Machine

/-! ### The checks of a WRITE of one item in the documented form -/

theorem itemsFail_singleton_of_failure {s : State} {ses i r : Nat} {o : Option Nat} {alone : Bool} {x : WriteItem}
    (h : itemFail s ses alone x = some (r, o)) : itemsFail s ses alone [x] i = some (r, o, i, x) := by
  rw [itemsFail, h]

section
variable {s : State} {ses idx el v : Nat} {d : ObjDesc} (hd : objDesc idx el = some d) (hi : idx < 65536) (he : el < 256)
include hd hi he

theorem writeRequest_of_itemFail {r : Nat} {o : Option Nat} (n : Nat) (h : Serves s ses 2)
    (hf : itemFail s ses true (itemFor idx el v) = some (r, o)) :
    writeRequest ses n [itemFor idx el v] s = .next (refuseReq s ses 2 n r (o.getD (idx * 256 + el)) 0) := by
  rw [writeRequest_of_failure h (itemsFail_singleton_of_failure hf), wiIdx_itemFor v hd hi he, wiEl_itemFor v hd hi he]

theorem wiTyp_itemFor (ht : d.typ < 16) : wiTyp (itemFor idx el v) = d.typ := by
  have hl := typLen_le d.typ
  rw [wiTyp, toNat_head_itemFor v hd hi he, fld]
  omega

/-- R401: the item of the documented form is well formed. -/
theorem formed_itemFor : ¬(fld (itemFor idx el v).head.toNat 35 16 ≠ 0 ∨ (itemFor idx el v).value.length ≠ wiLen (itemFor idx el v)) := by
  have hl := typLen_le d.typ
  have hres : fld (itemFor idx el v).head.toNat 35 16 = 0 := by
    rw [toNat_head_itemFor v hd hi he, fld]
    omega
  have hlen : (itemFor idx el v).value.length = typLen d.typ := by
    simp only [itemFor, hd, Option.map_some, Option.getD_some, length_leBytes]
  rw [hres, hlen, wiLen_itemFor v hd hi he]
  simp

variable (alone : Bool) (ha : d.acc ≠ .ro)
include ha

theorem itemFail_of_no_right (hr : writeRight s ses idx d = false) : itemFail s ses alone (itemFor idx el v) = some (0x0204, none) := by
  rw [itemFail, if_neg (formed_itemFor hd hi he), wiIdx_itemFor v hd hi he, wiEl_itemFor v hd hi he, hd]
  simp only [ha, hr, if_false, Bool.not_false, if_true]

/-- R401: what is left to judge of a numeric value that a session may write and that is in its range: the present state. -/
theorem itemFail_of_right (ht : d.typ < 10) (hen : d.enable = false) (hr : writeRight s ses idx d = true) (hp : s.power ≠ .recovery)
    (hv : rangeFail idx el d (v % 2 ^ (8 * typLen d.typ)) = none) :
    itemFail s ses alone (itemFor idx el v) = stateFail s idx el (unitFor s ses d) (v % 2 ^ (8 * typLen d.typ)) := by
  rw [itemFail, if_neg (formed_itemFor hd hi he), wiIdx_itemFor v hd hi he, wiEl_itemFor v hd hi he, wiV_itemFor v hd,
    wiTyp_itemFor hd hi he (by omega), wiLen_itemFor v hd hi he, hd]
  simp [ha, hr, hp, ht, hv, hen]

end

/-! ### The power target -/

/-- R498: the values that name a state which the host may order. -/
def IsTarget (v : Nat) : Prop := v = 1 ∨ v = 2 ∨ v = 4

/-- A target fits the one byte that its parameter has. -/
theorem IsTarget.mod_eq {v : Nat} (h : IsTarget v) : v % 2 ^ (8 * typLen (wo U8 1 4).typ) = v := by
  rcases h with rfl | rfl | rfl <;> rfl

/-- The refusal, if any, of an operation that answers one or a state. -/
def refusalOf {α : Type} : Sum α State → Option α
  | .inl e => some e
  | .inr _ => none

theorem objDesc_powerTarget : objDesc 0x4040 1 = some (wo U8 1 4) := rfl

theorem stateFail_powerTarget (s : State) (u v : Nat) :
    stateFail s 0x4040 1 u v = (refusalOf (powerTarget s v)).map fun x => (x.1, some x.2) := by
  change (match powerTarget s v with | .inl (r, o) => some (r, some o) | .inr _ => none) = _
  split
  next e => rw [e]; rfl
  next e => rw [e]; rfl

theorem applyItem_powerTarget (s : State) (ses u v : Nat) :
    applyItem s ses 0x4040 1 u v (wo U8 1 4) = match powerTarget s v with
      | .inl _ => s
      | .inr t => t := rfl

theorem not_recovery_of_serves {s : State} {ses op : Nat} (h : Serves s ses op) (hop : headstockOp op = false) : s.power ≠ .recovery := by
  intro e
  have hp := h.power
  simp [e, hop] at hp

section
variable {s : State} {ses v : Nat} (n : Nat) (h : Serves s ses 2)
include h

theorem writeRequest_powerTarget_of_no_right (hr : hasMconfig s ses = false) :
    writeRequest ses n [itemFor 0x4040 1 v] s = .next (refuseReq s ses 2 n 0x0204 0x404001 0) :=
  writeRequest_of_itemFail (o := none) objDesc_powerTarget (by decide) (by decide) n h
    (itemFail_of_no_right objDesc_powerTarget (by decide) (by decide) true (by decide) hr)

variable (hr : hasMconfig s ses = true) (hv : IsTarget v)
include hr hv

theorem itemFail_powerTarget : itemFail s ses true (itemFor 0x4040 1 v) = (refusalOf (powerTarget s v)).map fun x => (x.1, some x.2) := by
  have hpow := not_recovery_of_serves h rfl
  have hrange : rangeFail 0x4040 1 (wo U8 1 4) v = none := by rcases hv with rfl | rfl | rfl <;> rfl
  have hitem := itemFail_of_right (v := v) objDesc_powerTarget (by decide) (by decide) true (by decide) (by decide) rfl hr hpow
  rw [hv.mod_eq] at hitem
  rw [hitem hrange, stateFail_powerTarget]

theorem writeRequest_powerTarget_of_refusal {r o : Nat} (hf : powerTarget s v = .inl (r, o)) :
    writeRequest ses n [itemFor 0x4040 1 v] s = .next (refuseReq s ses 2 n r o 0) :=
  writeRequest_of_itemFail (o := some o) objDesc_powerTarget (by decide) (by decide) n h ((itemFail_powerTarget h hr hv).trans (by rw [hf]; rfl))

theorem writeRequest_powerTarget_of_state {t : State} (ht : powerTarget s v = .inr t) :
    writeRequest ses n [itemFor 0x4040 1 v] s = .next (acceptReq t ses 2 n) := by
  have hw : Writes s ses 0x4040 1 v := ⟨h, (itemFail_powerTarget h hr hv).trans (by rw [ht]; rfl)⟩
  rw [writeRequest_of_writes n hw objDesc_powerTarget rfl (by decide) (by decide), hv.mod_eq, applyItem_powerTarget, ht]

end

/-- R498: outside READY and ATTENDED no target is open. -/
theorem powerTarget_of_other {s : State} (v : Nat) (h1 : s.power ≠ .ready) (h2 : s.power ≠ .attended) :
    powerTarget s v = .inl (0x021E, 0x404001) := by
  unfold powerTarget
  split
  next e => exact absurd e h1
  next e => exact absurd e h1
  next e => exact absurd e h2
  next e => exact absurd e h2
  next => rfl

/-- Settles O27: what `powerTarget` answers for each state and target is what the WRITE does. -/
theorem powerTargets : Obligations.PowerTargets := by
  refine ⟨?ready, ?attended, ?other, ?noRight⟩
  case ready =>
    intro ses n s h hr hp
    refine ⟨⟨beginStop s 1, writeRequest_powerTarget_of_state n h hr (.inl rfl) ?_, rfl, rfl, rfl⟩,
      ⟨beginStop s 2, writeRequest_powerTarget_of_state n h hr (.inr (.inl rfl)) ?_, rfl, rfl, rfl⟩,
      writeRequest_powerTarget_of_refusal n h hr (.inr (.inr rfl)) ?_⟩ <;> simp only [powerTarget, hp]
  case attended =>
    intro ses n s h hr hp
    refine ⟨⟨enterStandby s, writeRequest_powerTarget_of_state n h hr (.inl rfl) ?_, rfl⟩,
      writeRequest_powerTarget_of_refusal n h hr (.inr (.inl rfl)) ?_,
      fun hg => ⟨enterStarting s 3, writeRequest_powerTarget_of_state n h hr (.inr (.inr rfl)) ?_, rfl⟩,
      fun o hg => writeRequest_powerTarget_of_refusal n h hr (.inr (.inr rfl)) ?_⟩ <;> simp only [powerTarget, hp]
    all_goals rw [hg]
  case other =>
    intro ses n s h hr h1 h2
    exact ⟨writeRequest_powerTarget_of_refusal n h hr (.inl rfl) (powerTarget_of_other 1 h1 h2),
      writeRequest_powerTarget_of_refusal n h hr (.inr (.inl rfl)) (powerTarget_of_other 2 h1 h2),
      writeRequest_powerTarget_of_refusal n h hr (.inr (.inr rfl)) (powerTarget_of_other 4 h1 h2)⟩
  case noRight =>
    intro ses n s h hr
    exact ⟨writeRequest_powerTarget_of_no_right n h hr, writeRequest_powerTarget_of_no_right n h hr, writeRequest_powerTarget_of_no_right n h hr⟩

/-! ### The queue -/

/-- Settles O1: a step takes the command in front of the queue off it. -/
theorem stepTakesFront : Obligations.StepTakesFront := fun _ _ _ => rfl

end Sys2Proof.Machine
end

section
/-! SUPPORT. Firmware: what each request does to the record of the update, and how a slot switches or returns (R515–R524). -/
namespace Sys2Proof.Machine

/-! ### The shared operations on the record of the update -/

/-- Writing one value under each of some keys. -/
theorem FMap.find_foldl_set {α : Type} {l : List Nat} {m : FMap α} {v : α} {x : Nat} (h : x ∈ l ∨ FMap.find m x = some v) :
    FMap.find (l.foldl (fun m k => FMap.set m k v) m) x = some v := by
  induction l generalizing m with
  | nil => exact h.resolve_left List.not_mem_nil
  | cons y t ih =>
    refine ih ?_
    by_cases hx : x = y
    · exact .inr (hx ▸ FMap.find_set_same)
    · rw [FMap.find_set_other hx]
      exact h.imp_left fun hm => (List.mem_cons.mp hm).resolve_left hx

/-- R520: every slot that has switched runs the package's release. -/
theorem run_foldl_fwSwitch {l : List Nat} {f : Fw} {x : Nat} (h : x ∈ l ∨ FMap.find f.run x = some f.release) :
    FMap.find (l.foldl fwSwitch f).run x = some f.release := by
  induction l generalizing f with
  | nil => exact h.resolve_left List.not_mem_nil
  | cons y t ih =>
    refine ih (f := fwSwitch f y) ?_
    by_cases hx : x = y
    · exact .inr (hx ▸ FMap.find_set_same)
    · refine h.imp (fun hm => (List.mem_cons.mp hm).resolve_left hx) fun hr => ?_
      exact (FMap.find_set_other hx).trans hr

theorem fw_fwFreeze (s : State) : ∃ a b c, (fwFreeze s).fw = { s.fw with frozen := a, oldDict := b, dict := c } := by
  unfold fwFreeze
  split
  · exact ⟨_, _, _, rfl⟩
  · exact ⟨_, _, _, rfl⟩

/-- R521: only slot 2 freezes the settings, and the update is otherwise as it was. -/
theorem fw_ite_fwFreeze (s : State) (c : Prop) [Decidable c] :
    ∃ a b d, (if c then fwFreeze s else s).fw = { s.fw with frozen := a, oldDict := b, dict := d } := by
  split
  · exact fw_fwFreeze s
  · exact ⟨_, _, _, rfl⟩

theorem fw_fwPending (s : State) :
    (fwPending s).fw = if s.fw.st = 3 ∧ s.fw.todo = [] then { s.fw with st := 4, pendingAt := ageNs s } else s.fw := by
  unfold fwPending
  split
  next h => rw [if_pos ⟨h.1, List.isEmpty_iff.mp h.2⟩, (raise_only ..).fw rfl]
  next h => rw [if_neg fun e => h ⟨e.1, List.isEmpty_iff.mpr e.2⟩]

theorem fw_restoreSettings (s : State) : (restoreSettings s).fw = { s.fw with frozen := none, dict := s.fw.oldDict } := by
  unfold restoreSettings
  dsimp only
  split <;> rfl

/-- R519: a rollback ends once no slot is left to return. -/
theorem fw_fwRolledBack (s : State) : (fwRolledBack s).fw = if s.fw.st = 5 ∧ s.fw.todo = []
    then { s.fw with st := 0, switched := [], boot := [], frozen := none, dict := s.fw.oldDict } else s.fw := by
  unfold fwRolledBack
  split
  next h => rw [if_pos ⟨h.1, List.isEmpty_iff.mp h.2⟩, (raise_only ..).fw rfl, fw_restoreSettings]
  next h => rw [if_neg fun e => h ⟨e.1, List.isEmpty_iff.mpr e.2⟩]

theorem fw_fwRelease (s : State) : (fwRelease s).fw = { s.fw with held := none } := by
  unfold fwRelease
  split
  next h => rw [← h]
  next => exact (brickUnprepare_only ..).fw rfl

theorem fw_slotEffect (s : State) (x : Nat) : (slotEffect s x).fw = s.fw := (slotEffect_only s x).fw rfl

/-- R519: where no slot has switched in part, those that have switched whole return, newest first. -/
theorem fw_fwRollback {s : State} (h : fwHalf s = []) :
    ((fwRollback s).fw.st = if s.fw.switched = [] then 0 else 5) ∧ (fwRollback s).fw.todo = s.fw.switched := by
  unfold fwRollback
  rw [fw_fwRolledBack, h]
  simp only [fw_fwRelease, List.isEmpty_nil, if_true, true_and]
  split
  next e => exact ⟨rfl, rfl⟩
  next e => exact ⟨rfl, rfl⟩

theorem fwHalf_of_whole {s : State} {x : Nat} {t : List Nat} (htodo : s.fw.todo = x :: t) (h4 : x ≠ 4) (h7 : x ≠ 7) : fwHalf s = [] := by
  simp [fwHalf, htodo, h4, h7]

theorem fwHalf_of_pending {s : State} (h : s.fw.st = 4) : fwHalf s = [] := by simp [fwHalf, h]

/-! ### The requests -/

section
variable {s t : State} {ses op : Nat} (n : Nat) {f : State → State × Nat} (h : Serves s ses op) (hr : hasFirmware s ses = true)
include h hr

theorem fwRequest_of_done (hf : f s = (t, 0)) : fwRequest ses op n f s = .next (acceptReq t ses op n) := by
  rw [fwRequest, served_of_serves h, hr, hf]
  rfl

theorem fwRequest_of_refusal {r : Nat} (hf : f s = (t, r)) (hne : r ≠ 0) : fwRequest ses op n f s = .next (refuseReq t ses op n r) := by
  rw [fwRequest, served_of_serves h, hr, hf]
  simp [hne]

end

theorem fwEndFail_ne_zero {f : Fw} {e : Nat} (h : fwEndFail f = some e) : e ≠ 0 := by
  unfold fwEndFail at h
  dsimp only at h
  split at h
  · cases h; decide
  · split at h
    · cases h; decide
    · cases h

/-- R518, R519: the update whose package has been verified. -/
def fwVerified (f : Fw) : Fw :=
  { f with
    st := 2, release := fld (fwHead f.bytes) 463 440, secver := fld (fwHead f.bytes) 439 432, dictver := fld (fwHead f.bytes) 427 420
    slots := (fwEntries f.bytes).map fun e => fld e 511 508
    other := ((fwEntries f.bytes).map fun e => fld e 511 508).foldl (fun m x => FMap.set m x (fld (fwHead f.bytes) 463 440)) f.other }

/-- R520: the slots of the package that an activation names. -/
def namedSlots (s : State) (mask : Nat) : List Nat := s.fw.slots.filter fun x => mask == 0 || bitAt mask x

/-- R520: the state in which the slots of `sel` begin to switch. -/
def activating (s : State) (sel : List Nat) : State :=
  { s with fw := { s.fw with
      st := 3, todo := fwOrder.filter sel.contains, switched := [], lds := [3, 2, 1, 0], bricks := [0, 1, 2, 3, 4]
      boot := sel.filter fun x => x == 5 || x == 8 } }

/-- R524: an activation in RECOVERY moves every pointer, and the update is PENDING. -/
theorem fw_fwRecovered (s : State) (sel : List Nat) :
    (fwRecovered s sel).fw.st = 4 ∧ ∀ x ∈ sel, FMap.find (fwRecovered s sel).fw.run x = some s.fw.release := by
  obtain ⟨a, b, c, hfw⟩ := fw_ite_fwFreeze s (sel.contains 2 = true)
  refine ⟨rfl, fun x hx => ?_⟩
  unfold fwRecovered
  dsimp only
  rw [hfw]
  exact run_foldl_fwSwitch (.inl hx)

section
variable {s : State} {ses : Nat} (n : Nat) (hr : hasFirmware s ses = true)
include hr

theorem exec_fwbegin_of_idle {len : Nat} (h : Serves s ses 0x40) (hst : s.fw.st = 0) (hl : len ≤ Config.fwBytes) :
    exec (.fwbegin ses n len) s =
      .next (acceptReq { s with fw := { s.fw with st := 1, len := len, bytes := [], ranges := [] } } ses 0x40 n) := by
  change execFwbegin ses n len s = _
  refine fwRequest_of_done n h hr ?_
  rw [if_neg (not_not_intro hst), if_neg (Nat.not_lt.mpr hl)]

theorem exec_fwdata_of_receiving {off : Nat} {data : List Byte} (h : Serves s ses 0x41) (hst : s.fw.st = 1)
    (hin : off + data.length ≤ s.fw.len) (hl : data.length ≤ 2097136) :
    exec (.fwdata ses n off data) s = .next (acceptReq
      { s with fw := { s.fw with bytes := Memory.writeN s.fw.bytes off data, ranges := (off, data.length) :: s.fw.ranges } } ses 0x41 n) := by
  change execFwdata ses n off data s = _
  refine fwRequest_of_done n h hr ?_
  dsimp only
  rw [if_neg (by omega)]

section
variable (h : Serves s ses 0x42) (hst : s.fw.st = 1)
include h hst

theorem exec_fwend_of_good (hf : fwEndFail s.fw = none) :
    exec (.fwend ses n) s = .next (acceptReq { s with fw := fwVerified s.fw } ses 0x42 n) := by
  change execFwend ses n s = _
  refine fwRequest_of_done n h hr ?_
  dsimp only
  rw [if_neg (not_not_intro hst), hf]
  rfl

theorem exec_fwend_of_bad {e : Nat} (hf : fwEndFail s.fw = some e) :
    exec (.fwend ses n) s = .next (refuseReq { s with fw := fwDiscard s.fw } ses 0x42 n e) := by
  change execFwend ses n s = _
  refine fwRequest_of_refusal n h hr ?_ (fwEndFail_ne_zero hf)
  dsimp only
  rw [if_neg (not_not_intro hst), hf]

end

section
variable (h : Serves s ses 0x43) (hst : s.fw.st = 2) (mask : Nat)
include h hst

theorem exec_fwactivate_of_verified (hp : s.power ≠ .recovery) (hb : replacing s = false) (hs : bricksSpare s = true) :
    exec (.fwactivate ses n mask) s = .next (acceptReq (fwPending (activating s (namedSlots s mask))) ses 0x43 n) := by
  have hpow : (acceptReq (fwPending (activating s (namedSlots s mask))) ses 0x43 n).power = s.power := by
    rw [(acceptReq_only ..).power rfl, (fwPending_only _).power rfl]
    rfl
  change execFwactivate ses n mask s = _
  rw [execFwactivate, fwRequest_of_done n h hr (t := fwPending (activating s (namedSlots s mask)))]
  · dsimp only
    rw [if_neg fun e => hp (hpow ▸ e.1)]
  · dsimp only
    rw [if_neg (not_not_intro hst), if_neg hp, hb, hs, Bool.not_true, Bool.and_false, if_neg Bool.false_ne_true, if_neg Bool.false_ne_true]
    rfl

theorem exec_fwactivate_of_recovery (hp : s.power = .recovery) :
    exec (.fwactivate ses n mask) s = .next (enterStandby (acceptReq (fwRecovered s (namedSlots s mask)) ses 0x43 n)) := by
  have haccept := acceptReq_only (fwRecovered s (namedSlots s mask)) ses 0x43 n []
  have hpow : (acceptReq (fwRecovered s (namedSlots s mask)) ses 0x43 n).power = .recovery := by
    rw [haccept.power rfl, (fwRecovered_only ..).power rfl, hp]
  have hfw : (acceptReq (fwRecovered s (namedSlots s mask)) ses 0x43 n).fw.st = 4 := by
    rw [haccept.fw rfl]
    exact (fw_fwRecovered ..).1
  change execFwactivate ses n mask s = _
  rw [execFwactivate, fwRequest_of_done n h hr (t := fwRecovered s (namedSlots s mask))]
  · dsimp only
    rw [if_pos ⟨hpow, hst, hfw⟩]
  · dsimp only
    rw [if_neg (not_not_intro hst), if_pos hp]
    rfl

end

section
variable (hst : s.fw.st = 4)
include hst

theorem exec_fwconfirm_of_pending (h : Serves s ses 0x44) : exec (.fwconfirm ses n) s = .next (acceptReq
    { s with fw := { s.fw with
        st := 0, frozen := none, oldDict := s.fw.dict, floor := Nat.max s.fw.floor s.fw.secver, switched := [], bytes := [], ranges := [] } }
    ses 0x44 n) := by
  change execFwconfirm ses n s = _
  refine fwRequest_of_done n h hr ?_
  rw [if_neg (not_not_intro hst)]

theorem exec_fwrollback_of_pending (h : Serves s ses 0x45) : exec (.fwrollback ses n) s = .next (acceptReq (fwRollback s) ses 0x45 n) := by
  change execFwrollback ses n s = _
  refine fwRequest_of_done n h hr ?_
  rw [if_neg (not_not_intro hst)]

end

theorem exec_fwabort_of_package (h : Serves s ses 0x46) (hst : s.fw.st = 1 ∨ s.fw.st = 2) :
    exec (.fwabort ses n) s = .next (acceptReq { s with fw := fwDiscard s.fw } ses 0x46 n) := by
  change execFwabort ses n s = _
  refine fwRequest_of_done n h hr ?_
  rw [if_neg fun e => hst.elim e.1 e.2]

end

/-! ### RECOVER -/

/-- R497, R518: where the state `t`, in which RECOVER has been answered, goes from a power state. -/
def recovering (p : Power) (t : State) : State :=
  match p with
  | .ready => beginStop t 7
  | .hold => beginStop t 7
  | .stopping => { t with life := { t.life with stopTo := 7 } }
  | .starting => { waferOff t with power := .recovery }
  | .attended => { t with power := .recovery }
  | _ => t

theorem exec_recover_of_serves {s : State} {ses : Nat} (n : Nat) (h : Serves s ses 0x47) (hr : hasFirmware s ses = true) :
    exec (.recover ses n) s = .next (recovering s.power (acceptReq s ses 0x47 n)) := by
  have hconsole : (ses != console) = true := by
    have hc := h.console_
    rw [show consoleOp 0x47 = false from rfl, Bool.not_false, Bool.and_true] at hc
    rw [bne, hc, Bool.not_false]
  change execRecover ses n s = _
  rw [execRecover, fwRequest_of_done n h hr rfl]
  simp only [h.cards, h.open_, hconsole, hr, Bool.and_self, if_true]
  cases s.power <;> rfl

/-- Settles O52, request by request. -/
theorem firmwareRequests : Obligations.FirmwareRequests := by
  refine ⟨fun ses n len s h hr hst hl => exec_fwbegin_of_idle n hr h hst hl, ?data, ?end_, ?activate, ?recovery, ?confirm,
    fun ses n s h hr hst => exec_fwrollback_of_pending n hr hst h, ?rollback, fun ses n s h hr hst => exec_fwabort_of_package n hr h hst,
    fun s hst hlim hl => if_pos ⟨hst, hlim, hl⟩, ?recover⟩
  case data =>
    intro ses n off data s h hr hst hin hl
    exact ⟨_, exec_fwdata_of_receiving n hr h hst hin hl, hst, rfl, fun a => Memory.read_writeN⟩
  case end_ =>
    intro ses n s h hr hst
    exact ⟨fun hf => ⟨_, exec_fwend_of_good n hr h hst hf, rfl, rfl, rfl, rfl, rfl, fun x hx => FMap.find_foldl_set (.inl hx)⟩,
      fun e hf => exec_fwend_of_bad n hr h hst hf⟩
  case activate =>
    intro ses n mask s h hr hst hp hb hs
    refine ⟨_, exec_fwactivate_of_verified n hr h hst mask hp hb hs, ?_⟩
    rw [fw_fwPending]
    by_cases htodo : (activating s (namedSlots s mask)).fw.todo = []
    · rw [if_pos ⟨rfl, htodo⟩]
      exact ⟨(if_pos htodo).symm, rfl, rfl, rfl⟩
    · rw [if_neg fun e => htodo e.2]
      exact ⟨(if_neg htodo).symm, rfl, rfl, rfl⟩
  case recovery =>
    intro ses n mask s h hr hst hp
    obtain ⟨hpending, hrun⟩ := fw_fwRecovered s (namedSlots s mask)
    refine ⟨_, exec_fwactivate_of_recovery n hr h hst mask hp, rfl, ?_⟩
    rw [(enterStandby_only _).fw rfl, (acceptReq_only ..).fw rfl]
    exact ⟨hpending, fun x hx hm => hrun x (List.mem_filter.mpr ⟨hx, hm⟩)⟩
  case confirm =>
    intro ses n s h hr hst
    exact ⟨_, exec_fwconfirm_of_pending n hr hst h, rfl, rfl, rfl, rfl⟩
  case rollback =>
    intro s hst
    obtain ⟨hend, htodo⟩ := fw_fwRollback (fwHalf_of_pending hst)
    exact ⟨fun h => hend.trans (if_pos h), fun h => ⟨hend.trans (if_neg h), htodo⟩⟩
  case recover =>
    intro ses n s h hr
    have hpow : (acceptReq s ses 0x47 n).power = s.power := (acceptReq_only ..).power rfl
    refine ⟨fun hp => ⟨_, exec_recover_of_serves n h hr, ?_⟩, fun hp => ⟨_, exec_recover_of_serves n h hr, ?_⟩,
      fun hp => ⟨_, exec_recover_of_serves n h hr, ?_⟩⟩
    · rcases hp with e | e <;> rw [e] <;> exact ⟨rfl, rfl, rfl⟩
    · rw [hp]
      exact ⟨hpow.trans hp, rfl⟩
    · rcases hp with e | e <;> rw [e] <;> rfl

/-! ### Slots -/

section
variable {s : State} {x : Nat} {t : List Nat} (htodo : s.fw.todo = x :: t) (h4 : x ≠ 4) (h7 : x ≠ 7)
include htodo h4 h7

theorem exec_fwSlotSwitched_of_activating (hst : s.fw.st = 3) : exec (.fwSlotSwitched true) s = .next (fwPending (slotEffect
    { (if x = 2 then fwFreeze s else s) with fw := { fwSwitch (if x = 2 then fwFreeze s else s).fw x with todo := t } } x)) := by
  change execFwSlotSwitched true s = _
  simp only [execFwSlotSwitched, hst, htodo, Bool.not_true, if_neg h4, if_neg h7]
  rfl

theorem exec_fwSlotSwitched_of_rollback (hst : s.fw.st = 5) : exec (.fwSlotSwitched true) s =
    .next (fwRolledBack (slotEffect { s with fw := { fwUnswitch s.fw x with todo := t } } x)) := by
  change execFwSlotSwitched true s = _
  simp only [execFwSlotSwitched, hst, htodo, if_neg h4, if_neg h7]

end

theorem exec_fwSlotSwitched_of_failure {s : State} {x : Nat} {t : List Nat} (htodo : s.fw.todo = x :: t) (hst : s.fw.st = 3) :
    exec (.fwSlotSwitched false) s = .next (fwRollback s) := by
  change execFwSlotSwitched false s = _
  simp only [execFwSlotSwitched, hst, htodo, Bool.not_false, if_true]

/-- R231: of the link dies still to switch, the next one does, once no partition waits for it. -/
theorem fwLinkDie_of_more {s : State} {l l2 : Nat} {r : List Nat} (done : State → State) (hlds : s.fw.lds = l :: l2 :: r)
    (hw : hubsWait (hubsMove s) = false) : (fwLinkDie s done).fw = { s.fw with lds := l2 :: r } := by
  have hmove : (hubsMove s).fw = s.fw := (hubsMove_only s).fw rfl
  have hswitch : (ldSwitch (hubsMove s) l).fw = s.fw := ((ldSwitch_only ..).fw rfl).trans hmove
  unfold fwLinkDie
  dsimp only
  split
  next e =>
    rw [hmove, hlds] at e
    cases e
  next l' rest e =>
    rw [hmove, hlds] at e
    cases e
    rw [hw, if_neg Bool.false_ne_true, if_neg (by simp), hswitch]

/-- Settles O53: each switch is one change of the update's record, which the end of the activation or of the rollback follows. -/
theorem firmwareSlotsSwitch : Obligations.FirmwareSlotsSwitch := by
  refine ⟨?switch, ?fail, ?back, ?die⟩
  case switch =>
    intro x t s hst htodo h4 h7
    obtain ⟨a, b, c, hfw⟩ := fw_ite_fwFreeze s (x = 2)
    refine ⟨_, exec_fwSlotSwitched_of_activating htodo h4 h7 hst, ?_⟩
    rw [fw_fwPending, fw_slotEffect, hfw]
    by_cases ht : t = []
    · rw [if_pos ⟨hst, ht⟩, if_pos ht]
      exact ⟨rfl, rfl, FMap.find_set_same, FMap.find_set_same, rfl⟩
    · rw [if_neg fun e => ht e.2, if_neg ht]
      exact ⟨rfl, rfl, FMap.find_set_same, FMap.find_set_same, hst⟩
  case fail =>
    intro x t s hst htodo h4 h7 hsw
    obtain ⟨hend, hback⟩ := fw_fwRollback (fwHalf_of_whole htodo h4 h7)
    exact ⟨_, exec_fwSlotSwitched_of_failure htodo hst, hend.trans (if_neg hsw), hback⟩
  case back =>
    intro x t s hst htodo h4 h7
    refine ⟨_, exec_fwSlotSwitched_of_rollback htodo h4 h7 hst, ?_⟩
    rw [fw_fwRolledBack, fw_slotEffect]
    by_cases ht : t = []
    · rw [if_pos ⟨hst, ht⟩, if_pos ht]
      exact ⟨rfl, FMap.find_set_same, rfl⟩
    · rw [if_neg fun e => ht e.2, if_neg ht]
      exact ⟨rfl, FMap.find_set_same, hst⟩
  case die =>
    intro l l2 t r s hst htodo hlds hw
    have hexec : exec (.fwSlotSwitched true) s =
        .next (fwLinkDie s fun s => fwPending { s with fw := { fwSwitch s.fw 4 with todo := t } }) := by
      change execFwSlotSwitched true s = _
      simp only [execFwSlotSwitched, hst, htodo]
      rfl
    refine ⟨_, hexec, ?_⟩
    rw [fwLinkDie_of_more _ hlds hw]
    exact ⟨hst, rfl, rfl⟩

end Sys2Proof.Machine
end

section
/-! SUPPORT. What passes through the failures of a power-on leaves the module's course as it was: of `Life`, only the causes that Sheepdog
holds for a wake may change (R406, R504, R510). -/
namespace Sys2Proof.Machine

/-! ### The relation -/

/-- The record of the module's course is in `t` as in `s`, but for the causes that Sheepdog holds (R510). -/
def LifeKept (s t : State) : Prop := t.life = { s.life with held := t.life.held }

section
variable {s t u : State}

theorem LifeKept.refl (s : State) : LifeKept s s := rfl

theorem LifeKept.of_eq (h : t.life = s.life) : LifeKept s t := by rw [LifeKept, h]

theorem LifeKept.of_only {m : Nat} (h : Only m s t) (e : m.testBit 68 = false) : LifeKept s t := .of_eq (h.life e)

theorem LifeKept.trans (g : LifeKept s t) (h : LifeKept t u) : LifeKept s u := by
  rw [LifeKept, h, g]

theorem LifeKept.step_eq (h : LifeKept s t) : t.life.step = s.life.step := by rw [h]
theorem LifeKept.wake_eq (h : LifeKept s t) : t.life.wake = s.life.wake := by rw [h]
theorem LifeKept.refresh_eq (h : LifeKept s t) : t.life.refresh = s.life.refresh := by rw [h]
theorem LifeKept.carrier_eq (h : LifeKept s t) : t.life.carrier = s.life.carrier := by rw [h]
theorem LifeKept.overran_eq (h : LifeKept s t) : t.life.overran = s.life.overran := by rw [h]

/-- One more operation, which keeps the record. -/
theorem LifeKept.then (h : LifeKept t u) (g : LifeKept s t) : LifeKept s u := g.trans h

/-- One more operation, which does not reach the record. -/
theorem LifeKept.only {m : Nat} (h : Only m t u) (e : m.testBit 68 = false) (g : LifeKept s t) : LifeKept s u := g.trans (.of_only h e)

theorem LifeKept.ite {c : Prop} [Decidable c] (ht : LifeKept s t) (hu : LifeKept s u) : LifeKept s (if c then t else u) := by
  split
  · exact ht
  · exact hu

/-- One more operation, where a condition holds. -/
theorem LifeKept.when {c : Prop} [Decidable c] (h : LifeKept t u) (g : LifeKept s t) : LifeKept s (if c then u else t) := .ite (g.trans h) g

/-- One operation or another. -/
theorem LifeKept.either {c : Prop} [Decidable c] {v : State} (h : LifeKept t u) (k : LifeKept t v) (g : LifeKept s t) :
    LifeKept s (if c then u else v) := g.trans (.ite h k)

theorem LifeKept.foldl {α : Type} {f : State → α → State} {l : List α} (hf : ∀ t x, LifeKept t (f t x)) (g : LifeKept s t) :
    LifeKept s (l.foldl f t) :=
  List.foldlRecOn (motive := LifeKept s) l f g fun u hu x _ => hu.trans (hf u x)

end

/-! ### Causes and Kennel -/

section
variable (s : State)

theorem raise_lifeKept (c : Cause) : LifeKept s (raise s c) := by
  unfold raise
  exact .ite rfl rfl

theorem raiseRc_lifeKept (sev reason : Nat) (part : Option Nat) (ukind unit detail : Nat) :
    LifeKept s (raiseRc s sev reason part ukind unit detail) := raise_lifeKept ..

theorem kennelEvent_lifeKept (kind ukind unit sub reason detail : Nat) : LifeKept s (kennelEvent s kind ukind unit sub reason detail) := by
  unfold kennelEvent
  exact .ite (.of_only (kennelAdd_only ..) rfl) (.ite ((raiseRc_lifeKept ..).then rfl) rfl)

/-! ### Lists and the commands that wait -/

theorem doneSignal_lifeKept (p h : Nat) : LifeKept s (doneSignal s p h) := by
  unfold doneSignal
  refine .ite rfl ?_
  split
  · exact .of_only (syncPut_only ..) rfl
  · exact raiseRc_lifeKept ..

theorem endRun_lifeKept (q : Nat) (r : RunList) (reason off : Nat) (step : Option Nat) : LifeKept s (endRun s q r reason off step) := by
  unfold endRun
  exact .when (doneSignal_lifeKept ..) (.of_only (postReply_only ..) rfl)

theorem endList_lifeKept (q reason off : Nat) (step : Option Nat) : LifeKept s (endList s q reason off step) := by
  unfold endList
  split
  · rfl
  · exact (endRun_lifeKept ..).then rfl

theorem advance_lifeKept (q : Nat) (res : List W256) (step : Option Nat) : LifeKept s (advance s q res step) := by
  unfold advance
  split
  · rfl
  · exact .when (endList_lifeKept ..) rfl

theorem releaseOne_lifeKept (p e : Nat) : LifeKept s (releaseOne s p e) := by
  unfold releaseOne
  split
  · rfl
  · exact .when (advance_lifeKept ..) rfl

theorem releaseWaits_lifeKept (p n : Nat) : LifeKept s (releaseWaits s p n) := by
  induction n generalizing s with
  | zero => rfl
  | succ n ih => exact (ih _).then (.foldl (fun t e => releaseOne_lifeKept t p e) rfl)

theorem completeCmd_lifeKept (q : Nat) (res : List W256) (step : Option Nat) : LifeKept s (completeCmd s q res step) :=
  (releaseWaits_lifeKept ..).then (advance_lifeKept ..)

theorem refuseCmd_lifeKept (q reason : Nat) (res : List W256) (step : Option Nat) : LifeKept s (refuseCmd s q reason res step) := by
  unfold refuseCmd
  split
  · rfl
  · exact (releaseWaits_lifeKept ..).then ((endList_lifeKept ..).then rfl)

theorem finalCancels_lifeKept (p : Nat) (seq : Nat → Bool) : LifeKept s (finalCancels s p seq) := by
  unfold finalCancels
  refine (releaseWaits_lifeKept ..).then (.foldl (fun t e => endRun_lifeKept ..) ?_)
  refine .trans (.foldl (fun t _ => ?_) (.refl s)) rfl
  split <;> rfl

theorem finish_lifeKept {q w : Nat} : LifeKept s (finish s q (heldEff s q w)) := by
  unfold finish
  split
  · exact refuseCmd_lifeKept ..
  · next t res h =>
    refine (completeCmd_lifeKept ..).then ?_
    split
    · exact .of_only (heldEff_only h) rfl
    · exact .only (forwardCmd_only ..) rfl (.of_only (heldEff_only h) rfl)

theorem startCopy_lifeKept {q w : Nat} : LifeKept s (startCopy s q (heldEff s q w)) := by
  unfold startCopy
  split
  · exact refuseCmd_lifeKept ..
  · next t res h => exact .only (beginCmd_only ..) rfl (.of_only (heldEff_only h) rfl)

theorem judgeHeld_lifeKept (held : List Nat) : LifeKept s (judgeHeld s held) := by
  refine .foldl (fun t q => ?_) rfl
  split
  · rfl
  · exact .ite (startCopy_lifeKept t) (finish_lifeKept t)

/-! ### Banks -/

theorem finishBanks_lifeKept (q : Nat) : LifeKept s (finishBanks s q) := by
  unfold finishBanks
  split
  · rfl
  · refine .ite ?_ rfl
    split
    · exact completeCmd_lifeKept ..
    · exact refuseCmd_lifeKept ..

theorem bankDone_lifeKept (k reason cells : Nat) : LifeKept s (bankDone s k reason cells) := by
  unfold bankDone
  refine .foldl (fun t p => ?_) rfl
  split
  · rfl
  · exact .ite ((finishBanks_lifeKept ..).then rfl) rfl

theorem repairLost_lifeKept (k reason cells : Nat) : LifeKept s (repairLost s k reason cells) := by
  unfold repairLost
  exact .only (repairEnded_only ..) rfl ((bankDone_lifeKept ..).then rfl)

theorem countCycle_lifeKept (k : Nat) (refresh : Bool) : LifeKept s (countCycle s k refresh) := by
  unfold countCycle
  exact .ite ((raise_lifeKept ..).then rfl) rfl

theorem closeProgram_lifeKept (k : Nat) : LifeKept s (closeProgram s k) := by
  unfold closeProgram
  exact .ite (.only (kennelAdd_only ..) rfl ((countCycle_lifeKept ..).then rfl)) rfl

theorem calAbort_lifeKept (k reason : Nat) : LifeKept s (calAbort s k reason) := by
  unfold calAbort
  exact .ite ((bankDone_lifeKept ..).then rfl) (.ite ((bankDone_lifeKept ..).then rfl) rfl)

theorem interruptBank_lifeKept (reason : Nat) (lost : Bool) (k : Nat) : LifeKept s (interruptBank reason lost s k) := by
  unfold interruptBank
  dsimp only
  split
  · exact (bankDone_lifeKept ..).then (.only (updBank_only ..) rfl (closeProgram_lifeKept ..))
  · exact .ite ((repairLost_lifeKept ..).then (closeProgram_lifeKept ..))
      (.only (vpgmRequest_only ..) rfl (.only (updBank_only ..) rfl (closeProgram_lifeKept ..)))
  · exact .ite rfl (calAbort_lifeKept ..)

theorem interruptBanks_lifeKept (sel : Nat → Bool) (reason : Nat) (lost : Bool) : LifeKept s (interruptBanks s sel reason lost) := by
  unfold interruptBanks
  exact .trans (.foldl (fun t k => raise_lifeKept ..) (.foldl (fun t k => interruptBank_lifeKept t reason lost k) (.refl s))) rfl

theorem applySwap_lifeKept (p : Nat) : LifeKept s (applySwap s p) := by
  unfold applySwap
  refine .ite rfl (.only (updPart_only ..) rfl (.foldl (fun t k => (bankDone_lifeKept ..).then ?_) rfl))
  exact .only (updBank_only ..) rfl (.only (loadTable_only ..) rfl rfl)

/-! ### A partition that faults -/

theorem abandonPosting_lifeKept (p reason : Nat) : LifeKept s (abandonPosting s p reason) := by
  unfold abandonPosting
  dsimp only
  split
  · rfl
  · refine (releaseWaits_lifeKept ..).then ((endList_lifeKept ..).then (.only (orderRevert_only ..) rfl (.only (updGroup_only ..) rfl ?_)))
    split
    · rfl
    · exact .of_only (revertUndo_only ..) rfl

theorem discardStep_lifeKept (p reason : Nat) (soft : Bool) : LifeKept s (discardStep s p reason soft) := by
  unfold discardStep
  split
  · rfl
  · refine (releaseWaits_lifeKept ..).then ((endList_lifeKept ..).then (.when (.of_only (orderRevert_only ..) rfl) ?_))
    refine .only (finalForwards_only ..) rfl ((finalCancels_lifeKept ..).then ?_)
    refine (judgeHeld_lifeKept ..).then (.only (updPart_only ..) rfl ?_)
    refine .either (.of_only (stopRuns_only ..) rfl) (.of_only (dropRuns_only ..) rfl) (.only (invalidateStepTags_only ..) rfl ?_)
    refine .foldl (fun t b => .of_only (undoSlot_only ..) rfl) ?_
    refine .when (.foldl (fun t b => .of_only (uncommitSlot_only ..) rfl) rfl) (.only (leaveStall_only ..) rfl ?_)
    exact .when (.of_only (addGuardTime_only ..) rfl) rfl

theorem leaveDisabling_lifeKept (p : Nat) : LifeKept s (leaveDisabling s p) := by
  unfold leaveDisabling
  exact .only (returnQueued_only ..) rfl (.only (returnRunning_only ..) rfl ((applySwap_lifeKept ..).then (.of_only (setPState_only ..) rfl)))

theorem draftCheck_lifeKept (tp : Nat) : LifeKept s (draftCheck s tp) := by
  unfold draftCheck
  split
  · rfl
  · exact .ite (.only (updPart_only ..) rfl (raise_lifeKept ..)) rfl

theorem draftGone_lifeKept (p : Nat) : LifeKept s (draftGone s p) := by
  unfold draftGone
  split
  · rfl
  · exact draftCheck_lifeKept ..

theorem partFault_lifeKept (p src tile off prog unit reason addr : Nat) : LifeKept s (partFault s p src tile off prog unit reason addr) := by
  have hposting := abandonPosting_lifeKept s p reason
  unfold partFault
  dsimp only
  split
  · exact .only (addObj_only ..) rfl hposting
  · exact hposting
  · exact hposting
  · refine (draftGone_lifeKept ..).then (.only (updPart_only ..) rfl (.either (kennelEvent_lifeKept ..) (kennelEvent_lifeKept ..) ?_))
    refine (raiseRc_lifeKept ..).then (.only (postDebug_only ..) rfl ?_)
    exact .either (leaveDisabling_lifeKept ..) (.of_only (setPState_only ..) rfl) ((discardStep_lifeKept ..).then hposting)

theorem engineFault_lifeKept (p reason : Nat) : LifeKept s (engineFault s p reason) := partFault_lifeKept ..

/-! ### Units that fail in a power-on -/

theorem routerFail_lifeKept (t : Nat) : LifeKept s (routerFail s t) := by
  unfold routerFail
  refine .ite rfl (.only (reviewAll_only ..) rfl ?_)
  refine (raiseRc_lifeKept ..).then ((kennelEvent_lifeKept ..).then (.only (cutRoutes_only ..) rfl ?_))
  exact .of_eq ((setRouter_only s t 3).life rfl)

theorem followTies_lifeKept (c : Nat) : LifeKept s (followTies s c) := by
  refine .foldl (fun t d => .ite rfl ?_) rfl
  split
  · exact .ite rfl (.foldl (fun u i => .ite rfl (.of_only (setRouter_only ..) rfl)) rfl)
  · exact .ite rfl (.foldl (fun u i => routerFail_lifeKept ..) rfl)

theorem loseBlock_lifeKept (c : Nat) : LifeKept s (loseBlock s c) := by
  unfold loseBlock
  refine .ite rfl (.only (reviewAll_only ..) rfl (.only (protective_only ..) rfl ?_))
  refine (kennelEvent_lifeKept ..).then ((raiseRc_lifeKept ..).then ?_)
  refine (followTies_lifeKept ..).then (.only (blockCond_only ..) rfl ((interruptBanks_lifeKept ..).then ?_))
  exact .only (loseTiles_only ..) rfl (.only (vlogOff_only ..) rfl rfl)

theorem startBlocks_lifeKept (bad : List Nat) : LifeKept s (startBlocks s bad) := by
  unfold startBlocks
  refine .foldl (fun t c => loseBlock_lifeKept ..) (.foldl (fun t c => ?_) rfl)
  exact .only (vlogOn_only ..) rfl (.of_only (blockCond_only ..) rfl)

theorem moveHub_lifeKept (p : Nat) : LifeKept s (moveHub s p) := by
  unfold moveHub
  split
  · rfl
  · exact (raiseRc_lifeKept ..).then rfl

theorem hubLost_lifeKept (l p : Nat) : LifeKept s (hubLost l s p) := by
  have hstep : LifeKept s (match stepOf s p with | some r => if r.committed then s else engineFault s p 0x0705 | none => s) := by
    split
    · exact .ite rfl (engineFault_lifeKept ..)
    · rfl
  unfold hubLost
  exact .ite rfl (.ite (.ite hstep ((moveHub_lifeKept ..).then hstep)) (.ite rfl rfl))

theorem linkDieDown_lifeKept (l : Nat) : LifeKept s (linkDieDown s l) := by
  unfold linkDieDown
  exact .foldl (fun t p => hubLost_lifeKept ..) (.foldl (fun t i => .of_only (linkChange_only ..) rfl) rfl)

theorem startLinks_lifeKept (bad : List Nat) : LifeKept s (startLinks s bad) := by
  unfold startLinks
  refine .trans (.foldl (fun t l => ?_) (.refl s)) rfl
  exact .ite (.ite rfl (linkDieDown_lifeKept ..)) (.ite (.of_only (linkDieBack_only ..) rfl) rfl)

theorem trainStacks_lifeKept (bad : List Nat) : LifeKept s (trainStacks s bad) := by
  refine .foldl (fun t k => .ite ?_ (.ite ?_ rfl)) rfl
  · exact (kennelEvent_lifeKept ..).then ((raiseRc_lifeKept ..).then (.only (stackCond_only ..) rfl rfl))
  · exact .only (stackCond_only ..) rfl rfl

theorem integrityFail_lifeKept (k : Nat) : LifeKept s (integrityFail s k) := by
  unfold integrityFail
  exact .ite ((raiseRc_lifeKept ..).then rfl) rfl

theorem checkBank_lifeKept (bad : List Nat) (e : BankEval) : LifeKept s (checkBank bad s e) := by
  unfold checkBank
  exact .ite (.ite (integrityFail_lifeKept ..) (.of_only (probed_only ..) rfl)) rfl

theorem checkWeights_lifeKept (bad : List Nat) (evals : List BankEval) : LifeKept s (checkWeights s bad evals) := by
  unfold checkWeights
  refine .foldl (fun t k => .of_only (vpgmRequest_only ..) rfl) (.when (.foldl (fun t k => .ite rfl rfl) rfl) ?_)
  refine .foldl (fun t k => integrityFail_lifeKept ..) (.foldl (fun t e => checkBank_lifeKept ..) (.foldl (fun t k => ?_) rfl))
  exact .ite (.of_only (loadTable_only ..) rfl) rfl

/-! ### Coolant -/

theorem coolSensor_lifeKept (i : Nat) (v : Option Int) : LifeKept s (coolSensor s i v) := by
  unfold coolSensor
  exact .ite rfl (.ite rfl (.ite rfl ((raiseRc_lifeKept ..).then rfl)))

theorem coolSource_lifeKept (n : Nat) (b : Bool) : LifeKept s (coolSource s n b) := by
  unfold coolSource
  exact .when (raiseRc_lifeKept ..) (.of_only (setCond_only ..) rfl)

theorem coolantSampled_lifeKept (v : List (Option Int)) : LifeKept s (coolantSampled s v) := by
  have hsensors : LifeKept s ((List.range 7).foldl (fun s i => coolSensor s i (v.getD i none)) s) :=
    .foldl (fun t i => coolSensor_lifeKept ..) rfl
  unfold coolantSampled
  refine .only (coolGood_only ..) rfl (.only (coolCriteria_only ..) rfl ?_)
  exact (coolSource_lifeKept ..).then ((coolSource_lifeKept ..).then ((coolSource_lifeKept ..).then hsensors))

end

end Sys2Proof.Machine
end

section
/-! SUPPORT. The states of the module: wakes, the power-on order, orderly stops, power loss and Sheepdog's samples (R497, R500–R512). -/
namespace Sys2Proof.Machine

/-! ### Wakes (R497, R508, R510, R511) -/

section
variable (s : State)

/-- Causes that Sheepdog held are raised, and nothing else changes. -/
theorem foldl_raise_only (l : List Cause) : Only 0x100000000000000080 s (l.foldl raise s) :=
  Only.foldl (fun _ _ h => (raise_only ..).step rfl h) (Only.refl ..)

theorem power_cardBoot (goal : Power) : (cardBoot s goal).power = goal := by
  unfold cardBoot
  dsimp only
  rw [(lossCause_only _).power rfl, (foldl_raise_only ..).power rfl, (closeEntries_only _).power rfl, (electCards_only _).power rfl,
    (fwBoot_only _).power rfl, (eventsBoot_only _).power rfl, (modeBoot_only _).power rfl]

theorem powerOns_enterStarting (step : Nat) : (enterStarting s step).powerOns = s.powerOns + 1 := by
  have hrecords : Only 0x900000000000200080 s (if step = 3 then attendedRecords s else s) := .ite (attendedRecords_only s) (.refl ..)
  exact congrArg (· + 1) (hrecords.powerOns rfl)

theorem power_blocked (retention : Bool) : (blocked s retention).power = .attended := (raiseRc_only ..).power rfl

theorem wake_blocked (retention : Bool) : (blocked s retention).life.wake = some (ageNs s, retention) := (raiseRc_lifeKept ..).wake_eq

end

section
variable {s : State}

theorem wake_of_open (r : Bool) (hg : gateFails s = none) : wake s true r = enterStarting (cardBoot s .starting) 2 := by
  simp only [wake, hg, if_true]

theorem wake_of_shut (r : Bool) (hg : (gateFails s).isSome = true) : wake s true r = blocked (cardBoot s .attended) r := by
  obtain ⟨o, ho⟩ := Option.isSome_iff_exists.mp hg
  simp only [wake, ho, if_true]

theorem exec_retentionWake_of_due (hp : s.power = .standby) (hm : objD 1 s 0x2300 1 = 1) (hw : s.life.wake = none)
    (hd : s.life.offAt + retentionDue s * 1000000000 ≤ ageNs s) : exec .retentionWake s =
      .next (raise { wake s true true with life := { (wake s true true).life with refresh := true } } { sev := 2, cls := 7 }) :=
  if_pos ⟨hp, hm, by rw [hw]; rfl, hd⟩

section
variable {w : Nat × Bool} (hw : s.life.wake = some w)
include hw

section
variable (hg : gateFails s = none) (ht : wakeInTime s w.1 = true)
include hg ht

theorem exec_wakeGateOpen_of_attended (hp : s.power = .attended) :
    exec .wakeGateOpen s = .next (enterStarting { s with life := { s.life with refresh := w.2 } } 3) := by
  change execWakeGateOpen s = _
  simp only [execWakeGateOpen, hw, hg, ht, hp]
  rfl

theorem exec_wakeGateOpen_of_standby (hp : s.power = .standby) :
    exec .wakeGateOpen s = .next (enterStarting (cardBoot { s with life := { s.life with refresh := w.2 } } .starting) 2) := by
  change execWakeGateOpen s = _
  simp only [execWakeGateOpen, hw, hg, ht, hp]
  rfl

end

/-- R511: the state in which a wake that waited has been dropped. -/
def wakeDropped (s : State) : State := { s with life := { s.life with wake := none, refresh := false } }

theorem exec_wakeGateTimeout_of_late (ht : wakeInTime s w.1 = false) :
    exec .wakeGateTimeout s = .next (if w.2 then raise (wakeDropped s) { sev := 4, cls := 7 } else wakeDropped s) := by
  change execWakeGateTimeout s = _
  simp only [execWakeGateTimeout, hw, ht]
  rfl

end

theorem exec_attendedIdleTimeout_of_idle (hp : s.power = .attended) (hs : ∀ e ∈ s.sessions, e.2.st ≠ 2)
    (hl : s.life.idleAt + 600000000000 ≤ ageNs s) : exec .attendedIdleTimeout s = .next (enterStandby s) :=
  if_pos ⟨hp, List.any_eq_false.mpr fun e he => by simpa using hs e he, hl⟩

/-! ### The power-on order (R500, R501) -/

/-- R500: a step before the last ends in a state from which the next step begins; what failed in it has not moved the order. -/
theorem stepDone_of_before_last (bad : List Nat) (evals : List BankEval) (h2 : 2 ≤ s.life.step) (h8 : s.life.step < 8)
    (h3 : s.life.step = 3 → bricksIn s ≠ 0) : ∃ t, stepDone s bad evals = { t with life := { t.life with step := t.life.step + 1 } } ∧
      t.power = s.power ∧ LifeKept s t := by
  unfold stepDone
  dsimp only
  split
  next => exact ⟨s, rfl, rfl, rfl⟩
  next e => exact ⟨s, if_neg (h3 e), rfl, rfl⟩
  next => exact ⟨_, rfl, (startBlocks_only ..).power rfl, startBlocks_lifeKept ..⟩
  next => exact ⟨_, rfl, (startLinks_only ..).power rfl, startLinks_lifeKept ..⟩
  next => exact ⟨_, rfl, (trainStacks_only ..).power rfl, trainStacks_lifeKept ..⟩
  next => exact ⟨_, rfl, (checkWeights_only ..).power rfl, checkWeights_lifeKept ..⟩
  next e => exact absurd e (Nat.ne_of_lt h8)
  next => grind

theorem stepDone_of_last (bad : List Nat) (evals : List BankEval) (h : s.life.step = 8) : stepDone s bad evals = restoreAll s := by
  simp only [stepDone, h]

theorem restoreAll_ready (s : State) : (restoreAll s).power = .ready ∧ (restoreAll s).life.step = 0 := by
  unfold restoreAll
  dsimp only
  rw [(reviewAll_only _).power rfl, (reviewAll_only _).life rfl, (raise_only ..).power rfl, (raise_lifeKept ..).step_eq]
  exact ⟨rfl, rfl⟩

/-- R501: the state in which the overrun of the present step has been raised. -/
def overrunRaised (s : State) : State :=
  if s.life.overran then s else raise { s with life := { s.life with overran := true } } { sev := 4, cls := 2, detail := s.life.step }

theorem overrunRaised_only (s : State) : Only 0x100000000000000080 s (overrunRaised s) :=
  .ite (.refl ..) ((raise_only ..).step rfl (.set_life rfl (.refl ..) _))

theorem overrunRaised_life (s : State) : (overrunRaised s).life.overran = true ∧ (overrunRaised s).life.step = s.life.step := by
  unfold overrunRaised
  split
  next h => exact ⟨h, rfl⟩
  next => exact ⟨(raise_lifeKept ..).overran_eq, (raise_lifeKept ..).step_eq⟩

/-! ### Orderly stops (R504, R505) -/

theorem saveNext_life (s : State) (l : List Nat) :
    (saveNext s l).life.saving = l ∧ (saveNext s l).life.stop = if l.isEmpty then 3 else 2 := by
  unfold saveNext
  split
  next h => exact ⟨(List.isEmpty_iff.mp h).symm, rfl⟩
  next => exact ⟨rfl, rfl⟩

/-- R505: the save of partition `p`, valid where the time at 8 GB/s (log 81) and the area suffice. -/
def preserve (s : State) (p : Nat) : State :=
  if decide (savedBytes (saveOf s p) / 8 ≤ objD 60 s 0x5030 2 * 1000000000) && decide (areaUsed s + savedBytes (saveOf s p) ≤ 4000000000000) then
    updPart s p fun y => { y with saved := some (saveOf s p) }
  else s

theorem saved_preserve {p : Nat} (ht : savedBytes (saveOf s p) / 8 ≤ objD 60 s 0x5030 2 * 1000000000)
    (ha : areaUsed s + savedBytes (saveOf s p) ≤ 4000000000000) : (part (preserve s p) p).saved = some (saveOf s p) := by
  rw [preserve, if_pos (by rw [decide_eq_true ht, decide_eq_true ha]; rfl), part_updPart_same]

theorem part_preserve_other {p k : Nat} (hk : k ≠ p) : part (preserve s p) k = part s k := by
  unfold preserve
  split
  · rw [part_updPart, if_neg hk]
  · rfl

theorem exec_preservationDone_of_next {p : Nat} {t : List Nat} (hp : p < 16) (hpow : s.power = .stopping) (hst : s.life.stop = 2)
    (hs : s.life.saving = p :: t) : exec (.preservationDone p) s = .next (saveNext (preserve s p) t) := by
  have hnext : ¬(s.power ≠ .stopping ∨ s.life.stop ≠ 2 ∨ p ≠ p) := by simp [hpow, hst]
  change execPreservationDone p s = _
  simp only [execPreservationDone, if_neg (Nat.not_le.mpr hp), hs, if_neg hnext]
  rfl

/-- R504 steps 5–7: sessions end, the wafer is powered down, and the shutdown is stamped. -/
def poweredDown (s : State) : State :=
  stamp (waferOff (((s.sessions.filter fun e => e.1 != console && (e.2.kind != 3 || s.life.stopTo == 1)).map (·.1)).foldl
    (fun s n => closeSession (if (session s n).st = 2 then sendClose s n else s) n) s)) 0

theorem stopEnds_eq (s : State) : stopEnds s =
    if s.life.stopTo = 1 then enterStandby (poweredDown s)
    else if s.life.stopTo = 2 then
      { poweredDown s with power := .attended, life := { (poweredDown s).life with idleAt := ageNs (poweredDown s) } }
    else { poweredDown s with power := .recovery } := rfl

theorem poweredDown_memories (s : State) : (poweredDown s).hbm = [] ∧ (poweredDown s).sp = [] := ⟨rfl, rfl⟩

theorem stopEnds_memories (s : State) : (stopEnds s).hbm = [] ∧ (stopEnds s).sp = [] := by
  rw [stopEnds_eq]
  split
  · rw [(enterStandby_only _).hbm rfl, (enterStandby_only _).sp rfl]
    exact poweredDown_memories s
  · split <;> exact poweredDown_memories s

theorem power_stopEnds (s : State) :
    (stopEnds s).power = if s.life.stopTo = 1 then .standby else if s.life.stopTo = 2 then .attended else .recovery := by
  rw [stopEnds_eq]
  split
  · rfl
  · split <;> rfl

theorem exec_stopRecordsDone_of_done (hp : s.power = .stopping) (hst : s.life.stop = 3)
    (hr : recordsAcked s = true ∨ s.life.recAt + 1000000000 ≤ ageNs s) (hb : programsRun s = false) :
    exec .stopRecordsDone s = .next (stopEnds s) := by
  have hdone : (recordsAcked s || decide (s.life.recAt + 1000000000 ≤ ageNs s)) = true := by simpa using hr
  change execStopRecordsDone s = _
  rw [execStopRecordsDone, if_pos ⟨hp, hst, hdone, by rw [hb]; rfl⟩, hb, if_neg Bool.false_ne_true]

/-! ### Power loss (R506, R507) -/

/-- R506, R507: the state after a power loss: everything volatile is gone, and the shutdown stamp is owed. -/
def lost (s : State) : State :=
  { waferOff s with
    power := .standby, sessions := [], kennel := { (waferOff s).kennel with gathering := [] }
    life := { (waferOff s).life with loss := true, stampDue := true, retention := true, wake := none, commits := 0 } }

section
variable (h0 : (feed s 0).usable = false) (h1 : (feed s 1).usable = false)
include h0 h1

theorem exec_powerLoss_of_no_feed (hw : waferOn s = true) : exec .powerLoss s = .next (lost s) := by
  change execPowerLoss s = _
  rw [execPowerLoss, hw, h0, h1]
  rfl

theorem exec_busDepleted_of_no_feed (hw : waferOn s = false) : exec .busDepleted s = .next
    { s with power := .off, sessions := [], life := { s.life with retention := false, held := [], wake := none } } := by
  change execBusDepleted s = _
  rw [execBusDepleted, hw, h0, h1]
  rfl

end

theorem exec_shutdownStamp_of_due (commits mv : Nat) (hd : s.life.stampDue = true) (hp : s.power = .standby) :
    exec (.shutdownStamp commits mv) s = .next (if 44000 ≤ mv
      then stamp { s with life := { s.life with commits := commits } } commits else { s with life := { s.life with commits := commits } }) :=
  if_pos ⟨hd, hp⟩

/-- R507: the stamp is a Kennel record of TYPE 11 that is durable at once. -/
theorem stamp_durable (s : State) (commits : Nat) : (stamp s commits).kennel.gathering = [] ∧ (stamp s commits).life.stampDue = false ∧
    ∃ r : KRec, (stamp s commits).kennel.ring = r :: (s.kennel.gathering ++ s.kennel.ring) ∧ r.typ = 11 ∧ r.detail = commits :=
  ⟨rfl, rfl, _, rfl, rfl, rfl⟩

end

/-! ### Sheepdog's samples (R509) -/

/-- R509: the state in which the samples of the carrier and coolant sensors have been taken, before the coolant sources follow their medians. -/
def sampled (carrier : List Int) (v : List (Option Int)) (s : State) : State :=
  let l := s.life
  let cs := (List.range 24).map fun d => keepFive (l.carrier.getD d []) (carrier.getD d 0)
  let ws := (List.range 7).map fun i => match v.getD i none with
    | none => l.cool.getD i []
    | some x => keepFive (l.cool.getD i []) x
  let temps := cs.map median ++ ((ws.drop 3).filter fun x => !x.isEmpty).map median
  { s with life := { l with carrier := cs, cool := ws, hottest := temps.foldl hotter l.hottest } }

theorem carrier_sampled (carrier : List Int) (v : List (Option Int)) (s : State) {d : Nat} (hd : d < 24) :
    (sampled carrier v s).life.carrier.getD d [] = keepFive (s.life.carrier.getD d []) (carrier.getD d 0) := by
  change ((List.range 24).map fun d => keepFive (s.life.carrier.getD d []) (carrier.getD d 0)).getD d [] = _
  rw [List.getD_eq_getElem?_getD, List.getElem?_map, List.getElem?_range hd]
  rfl

theorem exec_sheepdogSample_of_on (carrier : List Int) (v : List (Option Int)) {s : State} (hp : s.power ≠ .off) :
    ∃ m, exec (.sheepdogSample carrier v) s =
      .next (gateWatch (if waferOn (sampled carrier v s) then sampled carrier v s else coolantSampled (sampled carrier v s) m)) :=
  ⟨_, if_neg hp⟩

end Sys2Proof.Machine
end

section
/-! SUPPORT. The controller cards: what leaving a role, a failed boot and the test port do to each of the two (R482, R491, R513, R514). -/
namespace Sys2Proof.Machine

theorem Only.card_eq {m : Nat} {s t : State} (h : Only m s t) (e : m.testBit 69 = false) (c : Nat) : card t c = card s c := by
  simp only [card, h.cards e]

/-! ### Roles -/

section
variable (s : State) {c : Nat} (hc : c < 2)
include hc

/-- The other card of the two. -/
theorem other_card_ne : 1 - c ≠ c := by omega

theorem card_handOver : card (handOver s c) c = card s c ∧
    card (handOver s c) (1 - c) = if (card s (1 - c)).st = 1 then { card s (1 - c) with st := 0 } else card s (1 - c) := by
  have hne := other_card_ne hc
  have hdrop := fun k => (dropRequests_only s).card_eq rfl k
  unfold handOver
  simp only [hdrop]
  split
  · rw [card_setCard, if_neg hne.symm, card_setCard_same]
    exact ⟨hdrop c, rfl⟩
  · exact ⟨hdrop c, hdrop (1 - c)⟩

/-- R491, R513: a card that leaves its role, which the other takes where the card was ACTIVE and the other STANDBY. -/
theorem card_cardOut (st : Nat) : card (cardOut s c st) c = { card s c with st := st } ∧
    card (cardOut s c st) (1 - c) =
      if (card s c).st = 0 ∧ (card s (1 - c)).st = 1 then { card s (1 - c) with st := 0 } else card s (1 - c) := by
  have hne := other_card_ne hc
  have hcond := fun k => (setCond_only (setCard s c { card s c with st := st }) (429 + c) (st == 5)).card_eq rfl k
  have hself := (hcond c).trans (card_setCard_same ..)
  have hother := (hcond (1 - c)).trans ((card_setCard ..).trans (if_neg hne))
  obtain ⟨hkeep, hpeer⟩ := card_handOver (setCond (setCard s c { card s c with st := st }) (429 + c) (st == 5)) hc
  unfold cardOut
  by_cases hactive : (card s c).st = 0
  · simp only [hactive, beq_self_eq_true, if_true, true_and]
    rw [hkeep, hpeer, hself, hother]
    exact ⟨rfl, rfl⟩
  · simp only [beq_eq_false_iff_ne.mpr hactive, Bool.false_eq_true, if_false, hactive, false_and]
    exact ⟨hself, hother⟩

end

/-! ### The test port -/

/-- R514: a clock moves the TAP controller on; the shift register may emit a bit. -/
theorem tapClock_eq (s : State) (c : Nat) (tms tdi : Bool) :
    ∃ y : Card, Only 0x80080000000000000000000 (setCard s c y) (tapClock s c tms tdi) ∧ y.tap = tapNext (card s c).tap tms := by
  unfold tapClock
  dsimp only
  exact ⟨_, .ite (emit_only ..) (.ite (emit_only ..) (.refl ..)), by simp only [apply_ite Card.tap, ite_self]⟩

/-! ### Faults, boots and the slot -/

/-- R513: what lets card `c` try to boot. -/
theorem card_boots {s : State} {c : Nat} (hst : (card s c).st < 4) (hd : (card s c).dead = false) (hp : s.power = .attended ∨ s.power = .starting) :
    ¬(4 ≤ (card s c).st ∨ (card s c).dead = true ∨ (s.power ≠ .attended ∧ s.power ≠ .starting)) := by
  rw [hd]
  rintro (h | h | ⟨h, h'⟩)
  · omega
  · cases h
  · exact hp.elim h h'

/-- R513: the state in which the third failed boot of card `c` in a row has been reported. -/
def bootReported (s : State) (c : Nat) : State :=
  setCond (raiseRc (kennelEvent s 19 8 c 0 0x0713) 3 0x0713 none 8 c) (429 + c) true

section
variable {s : State} {c : Nat} (hc : c < 2)
include hc

theorem exec_cardFault_of_working (hst : (card s c).st < 4) : exec (.cardFault c) s = .next (cardOut (kennelEvent s 19 8 c) c 5) := by
  change execCardFault c s = _
  rw [execCardFault, if_neg (Nat.not_le.mpr hc), if_neg (Nat.not_le.mpr hst)]

theorem exec_cardInsert_of_absent (hst : (card s c).st = 4) :
    exec (.cardInsert c) s = .next (partMoved (setCard s c { st := 2, mirror := 0 }) 8 c) := by
  change execCardInsert c s = _
  rw [execCardInsert, if_neg (Nat.not_le.mpr hc), if_neg (not_not_intro hst)]

theorem exec_cardSyncDone_of_syncing (hst : (card s c).st = 2) : exec (.cardSyncDone c) s =
    .next (setCard s c { card s c with st := if (card s (1 - c)).st = 0 then 1 else 0, mirror := 100 }) := by
  change execCardSyncDone c s = _
  rw [execCardSyncDone, if_neg (Nat.not_le.mpr hc), if_neg (not_not_intro hst)]

theorem exec_cardRemove_of_present (hst : (card s c).st ≠ 4) : exec (.cardRemove c) s = .next (partMoved (cardOut s c 4) 8 c) := by
  change execCardRemove c s = _
  rw [execCardRemove, if_neg (Nat.not_le.mpr hc), if_neg hst]

section
variable (hst : (card s c).st < 4) (hd : (card s c).dead = false) (hp : s.power = .attended ∨ s.power = .starting)
include hst hd hp

theorem exec_cardBootFail_of_few (hf : (card s c).fails < 2) :
    exec (.cardBootFail c) s = .next (setCard s c { card s c with fails := (card s c).fails + 1 }) := by
  change execCardBootFail c s = _
  rw [execCardBootFail, if_neg (Nat.not_le.mpr hc)]
  dsimp only
  rw [if_neg (card_boots hst hd hp), if_pos (Nat.succ_lt_succ hf)]

theorem exec_cardBootFail_of_many (hf : 2 ≤ (card s c).fails) : exec (.cardBootFail c) s = .next (if (card s c).other
    then toRecovery (cardOut (setCard (bootReported s c) c { card s c with fails := 0, dead := true }) c 5)
    else setCard (bootReported s c) c { card s c with fails := 0, other := true }) := by
  change execCardBootFail c s = _
  rw [execCardBootFail, if_neg (Nat.not_le.mpr hc)]
  dsimp only
  rw [if_neg (card_boots hst hd hp), if_neg (Nat.not_lt.mpr (Nat.succ_le_succ hf))]
  split <;> rfl

end

/-! ### The test port's clock and its reset -/

theorem exec_testAccessPortClock_of_live (tms tdi : Bool) (hl : tapLive s c = true) :
    exec (.testAccessPortClock c tms tdi false) s = .next (tapClock s c tms tdi) := by
  change execTestAccessPortClock c tms tdi false s = _
  rw [execTestAccessPortClock, if_neg (Nat.not_le.mpr hc), hl]
  rfl

theorem exec_testAccessPortClock_of_reset (tms tdi : Bool) {trst : Bool} (h : tapLive s c = false ∨ trst = true) :
    exec (.testAccessPortClock c tms tdi trst) s = .next (setCard s c { card s c with tap := 0, ir := tapIdcode }) := by
  have hreset : (tapLive s c && !trst) = false := by rcases h with e | e <;> simp [e]
  change execTestAccessPortClock c tms tdi trst s = _
  rw [execTestAccessPortClock, if_neg (Nat.not_le.mpr hc), hreset, if_neg Bool.false_ne_true]

end

end Sys2Proof.Machine
end

section
/-! SUPPORT. The module's states and its cards, command by command (R491, R497, R500–R514). -/
namespace Sys2Proof.Machine

/-- Settles O60, command by command. -/
theorem moduleStatesAndCards : Obligations.ModuleStatesAndCards := by
  refine ⟨?wake, fun s hp hf => if_pos ⟨hp, hf⟩, ?event, fun s hp h0 hv ht => if_pos ⟨hp, h0, hv, ht⟩, ?open_, ?retention, ?gate, ?idle, ?step,
    ?overrun, fun s hp hl => ⟨_, if_pos ⟨hp, hl⟩, rfl, ((stopLimit_only s).power rfl).trans hp⟩, ?drained, ?saved, ?records, ?loss, ?stamp, ?bus,
    ?cards, fun s hp hb => ⟨_, if_pos ⟨hp, hb⟩, rfl⟩, ?tap, fun s hp => if_pos hp, ?sample⟩
  case wake =>
    intro r s
    refine ⟨power_cardBoot s .attended, fun hg => ?_, fun hg => ?_⟩
    · rw [wake_of_open r hg]
      exact ⟨rfl, rfl, congrArg (· + 1) ((cardBoot_only s .starting).powerOns rfl)⟩
    · rw [wake_of_shut r hg]
      exact ⟨power_blocked .., _, wake_blocked ..⟩
  case event =>
    intro n s hn hp hw he hst
    exact (if_neg (Nat.not_le.mpr hn)).trans (if_pos ⟨hp, hw, he, hst⟩)
  case open_ =>
    intro m s hm hp hport hobj
    exact (if_neg (Nat.not_le.mpr hm)).trans (if_pos ⟨hp, hport, hobj⟩)
  case retention =>
    intro s hp hm hw hd
    exact ⟨_, exec_retentionWake_of_due hp hm hw hd, (raise_lifeKept ..).refresh_eq, (raise_only ..).power rfl⟩
  case gate =>
    intro s w hw
    refine ⟨fun hg ht hp => ?_, fun ht => ⟨_, exec_wakeGateTimeout_of_late hw ht, ?_, ?_⟩⟩
    · rcases hp with hp | hp
      · exact ⟨_, exec_wakeGateOpen_of_attended hw hg ht hp, rfl, (if_pos hp).symm, rfl, powerOns_enterStarting ..⟩
      · refine ⟨_, exec_wakeGateOpen_of_standby hw hg ht hp, rfl, (if_neg (by simp [hp])).symm, rfl, ?_⟩
        exact (powerOns_enterStarting ..).trans (congrArg (· + 1) ((cardBoot_only ..).powerOns rfl))
    · exact (LifeKept.when (raise_lifeKept ..) (.refl (wakeDropped s))).wake_eq
    · exact (Only.ite (raise_only ..) (.refl _ (wakeDropped s))).power rfl
  case idle =>
    intro s hp hs hl
    exact ⟨_, exec_attendedIdleTimeout_of_idle hp hs hl, rfl, rfl⟩
  case step =>
    intro bad evals s hp
    have hexec : exec (.powerOnStepDone bad evals) s = .next (stepDone s bad evals) := if_pos hp
    refine ⟨fun h2 h8 h3 => ?_, fun h => ⟨_, hexec, ?_⟩⟩
    · obtain ⟨t, ht, hpow, hlife⟩ := stepDone_of_before_last bad evals h2 h8 h3
      refine ⟨_, hexec, ?_⟩
      rw [ht]
      exact ⟨hpow.trans hp, congrArg (· + 1) hlife.step_eq⟩
    · rw [stepDone_of_last bad evals h]
      exact restoreAll_ready s
  case overrun =>
    intro bad evals s hp hl
    have hraised := overrunRaised_only s
    obtain ⟨hover, hstep⟩ := overrunRaised_life s
    exact ⟨overrunRaised s, if_pos ⟨hp, hl⟩, (hraised.power rfl).trans hp, hover, hstep, hraised.parts rfl⟩
  case drained =>
    intro s hp hst hd
    have hsave := saveNext_life (returnWaits s) (toSave (returnWaits s))
    refine ⟨_, if_pos ⟨hp, hst, hd⟩, ?_, hsave⟩
    rw [(saveNext_only ..).power rfl, (returnWaits_only s).power rfl, hp]
  case saved =>
    intro p t s hlt hp hst hs
    obtain ⟨hsaving, hstop⟩ := saveNext_life (preserve s p) t
    have hpart := (saveNext_only (preserve s p) t).part_eq rfl
    exact ⟨_, exec_preservationDone_of_next hlt hp hst hs, hsaving, hstop,
      fun ht ha => (congrArg Part.saved (hpart p)).trans (saved_preserve ht ha), fun k hk => (hpart k).trans (part_preserve_other hk)⟩
  case records =>
    intro s hp hst hr hb
    obtain ⟨hhbm, hsp⟩ := stopEnds_memories s
    exact ⟨_, exec_stopRecordsDone_of_done hp hst hr hb, hhbm, hsp, power_stopEnds s⟩
  case loss =>
    intro s hw h0 h1
    exact ⟨_, exec_powerLoss_of_no_feed h0 h1 hw, rfl, rfl, rfl, rfl, rfl, rfl, rfl, rfl, rfl, rfl⟩
  case stamp =>
    intro commits mv s hd hp
    refine ⟨fun hlow => (exec_shutdownStamp_of_due commits mv hd hp).trans (by rw [if_neg (Nat.not_le.mpr hlow)]), fun hmv => ?_⟩
    obtain ⟨hgather, hdue, r, hring, htyp, hdetail⟩ := stamp_durable { s with life := { s.life with commits := commits } } commits
    exact ⟨_, r, (exec_shutdownStamp_of_due commits mv hd hp).trans (by rw [if_pos hmv]), hgather, hdue, hring, htyp, hdetail⟩
  case bus =>
    intro s hw h0 h1
    exact ⟨_, exec_busDepleted_of_no_feed h0 h1 hw, rfl, rfl, rfl, rfl, rfl⟩
  case cards =>
    intro c s hc
    have hne := other_card_ne hc
    refine ⟨fun hst => ?fault, fun hst hd hp => ⟨fun hf => ?few, fun hf ho => ?copy, fun hf ho => ?dead⟩, fun hst => ?insert, fun hst => ?sync,
      fun hst => ?remove⟩
    case fault =>
      have hevent := (kennelEvent_only s 19 8 c 0 0 0).card_eq rfl
      obtain ⟨hself, hother⟩ := card_cardOut (kennelEvent s 19 8 c) hc 5
      rw [hevent, hevent] at hother
      refine ⟨_, exec_cardFault_of_working hc hst, congrArg Card.st hself, fun h0 h1 => ?_, fun h0 => ?_⟩
      · rw [hother, if_pos ⟨h0, h1⟩]
      · rw [hother, if_neg fun e => h0 e.1]
    case few => exact ⟨_, exec_cardBootFail_of_few hc hst hd hp hf, card_setCard_same ..⟩
    case copy =>
      refine ⟨_, exec_cardBootFail_of_many hc hst hd hp hf, ?_⟩
      rw [ho, if_neg Bool.false_ne_true, card_setCard_same]
    case dead =>
      refine ⟨_, exec_cardBootFail_of_many hc hst hd hp hf, ?_⟩
      rw [ho, if_pos rfl, (toRecovery_only _).card_eq rfl, (card_cardOut _ hc 5).1, card_setCard_same]
      exact ⟨rfl, rfl⟩
    case insert =>
      have hmoved := (partMoved_only (setCard s c { st := 2, mirror := 0 }) 8 c).card_eq rfl
      exact ⟨_, exec_cardInsert_of_absent hc hst, (hmoved c).trans (card_setCard_same ..),
        (hmoved (1 - c)).trans ((card_setCard ..).trans (if_neg hne))⟩
    case sync =>
      refine ⟨_, exec_cardSyncDone_of_syncing hc hst, ?_, ?_, (card_setCard ..).trans (if_neg hne)⟩ <;> rw [card_setCard_same]
    case remove =>
      refine ⟨_, exec_cardRemove_of_present hc hst, ?_⟩
      rw [(partMoved_only ..).card_eq rfl, (card_cardOut s hc 4).1]
  case tap =>
    intro c tms tdi trst s hc
    refine ⟨fun hl ht => ?_, fun h => ⟨_, exec_testAccessPortClock_of_reset hc tms tdi h, card_setCard_same ..⟩⟩
    subst ht
    obtain ⟨y, honly, hy⟩ := tapClock_eq s c tms tdi
    refine ⟨_, exec_testAccessPortClock_of_live hc tms tdi hl, ?_, ?_⟩ <;> rw [honly.card_eq rfl]
    · rw [card_setCard_same, hy]
    · rw [card_setCard, if_neg (other_card_ne hc)]
  case sample =>
    intro carrier l s hp
    obtain ⟨m, hexec⟩ := exec_sheepdogSample_of_on carrier l hp
    have hkept : LifeKept (sampled carrier l s) (if waferOn (sampled carrier l s) then sampled carrier l s else coolantSampled (sampled carrier l s) m) :=
      .ite (.refl _) (coolantSampled_lifeKept ..)
    refine ⟨_, hexec, ?_, fun d hd => ?_⟩
    · exact (Only.ite (.refl _ (sampled carrier l s)) (coolantSampled_only ..)).power rfl
    · rw [hkept.carrier_eq, carrier_sampled carrier l s hd]

end Sys2Proof.Machine
end
